-- ==== Sys2Proof/Word.lean ====
section
/-! DEFINITION. The word types of the device: bytes of the SRAM and the 32-bit word of the Tabor core. -/

namespace Sys2Proof

/-- One byte of memory or of a message. -/
abbrev Byte := BitVec 8

/-- The 32-bit word of the Tabor core (ch. 9) and of the always-on control block (Table 3.8). -/
abbrev Word := BitVec 32

end Sys2Proof
end

