-- ==== Sys2Proof/Machine/Bits.lean ====
section
/-!
DEFINITION. Bit fields, byte order, signed readings of unsigned counts and saturation: the small arithmetic that
every chapter of the spec uses. Values of objects are natural numbers (the raw bits); these functions read and
build their fields.
-/

namespace Sys2Proof.Machine

/-- Bits `[lo + w - 1 : lo]` of a raw value. -/
def bits (v lo w : Nat) : Nat := (v >>> lo) % 2 ^ w

/-- Bit `n` of a raw value. -/
def bit (v n : Nat) : Bool := v.testBit n

/-- A Boolean as the raw value of one bit. -/
def b2n (b : Bool) : Nat := if b then 1 else 0

/-- `v` with bit `n` set. -/
def setBit (v n : Nat) : Nat := v ||| (1 <<< n)

/-- `v` with bit `n` cleared. -/
def clearBit (v n : Nat) : Nat := if v.testBit n then v - 2 ^ n else v

/-- `v` with bit `n` set to `b`. -/
def putBit (v n : Nat) (b : Bool) : Nat := if b then setBit v n else clearBit v n

/-- The low `w` bits of a value. -/
def trunc (w v : Nat) : Nat := v % 2 ^ w

/-- A raw value of `w` bits read as a two's-complement integer. -/
def toSigned (w v : Nat) : Int := if v % 2 ^ w < 2 ^ (w - 1) then (v % 2 ^ w : Nat) else (v % 2 ^ w : Nat) - (2 ^ w : Nat)

/-- An integer as the raw value of `w` bits (modulo `2 ^ w`). -/
def ofSigned (w : Nat) (x : Int) : Nat := (x % (2 ^ w : Nat)).toNat

/-- An integer saturated to the range of a signed `w`-bit number. -/
def satSigned (w : Nat) (x : Int) : Int := max (-(2 ^ (w - 1) : Nat)) (min x ((2 ^ (w - 1) : Nat) - 1))

/-- A natural number saturated to `w` bits. -/
def satNat (w v : Nat) : Nat := min v (2 ^ w - 1)

/-- A counter of `w` bits incremented, saturating at its full scale. -/
def incSat (w v : Nat) : Nat := satNat w (v + 1)

/-- A counter of `w` bits incremented, wrapping. -/
def incWrap (w v : Nat) : Nat := (v + 1) % 2 ^ w

/-- `x` limited to `lo … hi`. -/
def clampInt (lo hi x : Int) : Int := max lo (min hi x)

/-- `x` limited to `lo … hi`. -/
def clampNat (lo hi x : Nat) : Nat := max lo (min hi x)

/-- The absolute value of an integer as a natural number. -/
def absNat (x : Int) : Nat := x.natAbs

/-- Division of an integer rounded to nearest, ties away from zero. -/
def divRound (x : Int) (d : Nat) : Int :=
  if d = 0 then 0 else if 0 ≤ x then (x + d / 2) / d else -((-x + d / 2) / d)

/-- Little-endian bytes as one number: the byte order of the dictionary's values on every port (R140). -/
def fromLE : List Nat → Nat
  | [] => 0
  | b :: bs => b % 256 + 256 * fromLE bs

/-- The low `n` bytes of a value, least significant first. -/
def toLE : Nat → Nat → List Nat
  | 0, _ => []
  | n + 1, v => v % 256 :: toLE n (v / 256)

/-- Big-endian bytes as one number. -/
def fromBE (bs : List Nat) : Nat := bs.foldl (fun a b => a * 256 + b % 256) 0

/-- The low `n` bytes of a value, most significant first. -/
def toBE (n v : Nat) : List Nat := (toLE n v).reverse

/-- The number of set bits among the low `n` bits. -/
def popcount (n v : Nat) : Nat := ((List.range n).filter (fun i => v.testBit i)).length

/-- The bit numbers set among the low `n` bits, ascending. -/
def setBits (n v : Nat) : List Nat := (List.range n).filter (fun i => v.testBit i)

/-- Element `i` of a list, or `d` beyond its end. -/
def nth (l : List α) (i : Nat) (d : α) : α := l.getD i d

/-- `l` with element `i` replaced (unchanged beyond the end). -/
def put (l : List α) (i : Nat) (v : α) : List α := l.set i v

/-- `l` with element `i` changed by `f`. -/
def modifyNth (l : List α) (i : Nat) (f : α → α) : List α := l.modify i f

end Sys2Proof.Machine
end

