-- ==== Sys2Proof/Machine/Sparse.lean ====
section
/-!
DEFINITION. A sparse table: a list of (key, value) pairs in one canonical form. Keys rise strictly and no entry
equals what an unlisted key reads as, so that equal tables are equal data. The SRAM, the object dictionary's values and the values
in force of staged objects are held in this form.
-/

namespace Sys2Proof.Machine

/-- The value at key `k`; an unlisted key reads as `d`. -/
def sparseGet : List (Nat × α) → Nat → α → α
  | [], _, d => d
  | (j, v) :: rest, k, d => if j = k then v else sparseGet rest k d

/-- The table without key `k`. -/
def sparseErase : List (Nat × α) → Nat → List (Nat × α)
  | [], _ => []
  | (j, v) :: rest, k => if j = k then rest else (j, v) :: sparseErase rest k

/-- The table with `v` listed at key `k`, in its place in the rising order. -/
def sparseInsert : List (Nat × α) → Nat → α → List (Nat × α)
  | [], k, v => [(k, v)]
  | (j, w) :: rest, k, v =>
    if k < j then (k, v) :: (j, w) :: rest
    else if j = k then (k, v) :: rest
    else (j, w) :: sparseInsert rest k v

/-- Write `v` at key `k` of a table whose unlisted entry there reads as `d`: writing `d` removes the entry. -/
def sparseSet [DecidableEq α] (m : List (Nat × α)) (k : Nat) (v d : α) : List (Nat × α) :=
  if v = d then sparseErase m k else sparseInsert m k v

/-- The keys rise strictly, each above `lo` where one is given. -/
def sparseSortedFrom : Option Nat → List (Nat × α) → Bool
  | _, [] => true
  | none, (k, _) :: rest => sparseSortedFrom (some k) rest
  | some j, (k, _) :: rest => decide (j < k) && sparseSortedFrom (some k) rest

/-- The canonical form: keys rise strictly and no entry is what its key reads as when unlisted. -/
def sparseWf [DecidableEq α] (m : List (Nat × α)) (d : Nat → α) : Bool :=
  sparseSortedFrom none m && m.all (fun e => decide (e.2 ≠ d e.1))

end Sys2Proof.Machine
end

