-- ==== Sys2Proof/Machine/Descriptors.lean ====
section
/-!
DEFINITION. The object index (ch. 21): every object the device defines, with its type, its access on each port, its
default, its PDO mappability, its persistence and the range a write must lie in. R740: no index or sub-index
outside these tables is defined. What an object does stands in the files of its chapter.
-/

namespace Sys2Proof.Machine

/-- The four ports of the arbiter (R9): CAN, Kyodlink, the Tabor core, debug. -/
inductive Port where
  | C | K | T | D
deriving DecidableEq, Repr

/-- The data types of Table 5.2 that the device's objects have. -/
inductive Ty where
  | bool | i16 | i32 | u8 | u16 | u32 | u48 | u64 | oct (n : Nat) | dom | tod
deriving DecidableEq, Repr

/-- The CiA type code (Table 5.2). -/
def Ty.code : Ty → Nat
  | .bool => 0x0001 | .i16 => 0x0003 | .i32 => 0x0004 | .u8 => 0x0005 | .u16 => 0x0006 | .u32 => 0x0007
  | .u48 => 0x0019 | .u64 => 0x001B | .oct _ => 0x000A | .dom => 0x000F | .tod => 0x000C

/-- The size in bytes (Table 5.2); a DOMAIN's length is its object's own. -/
def Ty.size : Ty → Nat
  | .bool => 1 | .i16 => 2 | .i32 => 4 | .u8 => 1 | .u16 => 2 | .u32 => 4 | .u48 => 6 | .u64 => 8
  | .oct n => n | .dom => 0 | .tod => 6

/-- The type is a signed integer. -/
def Ty.signed : Ty → Bool
  | .i16 | .i32 => true
  | _ => false

/-- The access codes (*Objects, access codes and ports* of ch. 0); `none` is a port that is not listed. -/
inductive Acc where
  | none | const | ro | rw | wo | rws
deriving DecidableEq, Repr

/-- The access code as a descriptor reports it (Table 5.5). -/
def Acc.code : Acc → Nat
  | .none => 0 | .const => 1 | .ro => 2 | .rw => 3 | .wo => 4 | .rws => 5

/-- An access code that grants writing. -/
def Acc.writes : Acc → Bool
  | .rw | .wo | .rws => true
  | _ => false

/-- An access code that grants reading. -/
def Acc.reads : Acc → Bool
  | .const | .ro | .rw | .rws => true
  | _ => false

/-- The access of one object on each of the four ports. -/
structure Rights where
  c : Acc
  k : Acc
  t : Acc
  d : Acc
deriving DecidableEq, Repr

/-- The access code a port has. -/
def Rights.at (r : Rights) : Port → Acc
  | .C => r.c | .K => r.k | .T => r.t | .D => r.d

/-- The persistence codes of Table 21.1. -/
inductive Persist where
  | S | U | H | V | F | O | K
deriving DecidableEq, Repr

/-- The range a written value must lie in (R11); cross-field conditions stand with the object's chapter. -/
inductive Rng where
  | any
  /-- lowest, highest (as signed integers where the type is signed), step from the lowest -/
  | span (lo hi : Int) (step : Nat)
  /-- 0, or lowest to highest in steps -/
  | zeroOr (lo hi : Int) (step : Nat)
  | oneOf (l : List Nat)
  /-- the value given, or lowest to highest -/
  | orVal (v : Nat) (lo hi : Int)
deriving DecidableEq, Repr

/-- One row of the object index: a range of indices and of sub-indices with the same attributes. -/
structure Desc where
  i0 : Nat
  i1 : Nat
  s0 : Nat
  s1 : Nat
  ty : Ty
  acc : Rights
  dflt : Nat
  pdo : Bool
  per : Persist
  rng : Rng
deriving DecidableEq, Repr

/-- RWS CKT, RO D. -/
def rwsCKT : Rights := ⟨.rws, .rws, .rws, .ro⟩
/-- RW CKT, RO D. -/
def rwCKT : Rights := ⟨.rw, .rw, .rw, .ro⟩
/-- RW CKTD. -/
def rwAll : Rights := ⟨.rw, .rw, .rw, .rw⟩
/-- RO CKTD. -/
def roAll : Rights := ⟨.ro, .ro, .ro, .ro⟩
/-- CONST CKTD. -/
def constAll : Rights := ⟨.const, .const, .const, .const⟩
/-- WO CKT. -/
def woCKT : Rights := ⟨.wo, .wo, .wo, .none⟩
/-- WO CKD. -/
def woCKD : Rights := ⟨.wo, .wo, .none, .wo⟩
/-- WO CKTD. -/
def woAll : Rights := ⟨.wo, .wo, .wo, .wo⟩
/-- WO T. -/
def woT : Rights := ⟨.none, .none, .wo, .none⟩
/-- WO TD. -/
def woTD : Rights := ⟨.none, .none, .wo, .wo⟩
/-- WO CT. -/
def woCT : Rights := ⟨.wo, .none, .wo, .none⟩
/-- WO D. -/
def woD : Rights := ⟨.none, .none, .none, .wo⟩
/-- RO D. -/
def roD : Rights := ⟨.none, .none, .none, .ro⟩
/-- RO CKD. -/
def roCKD : Rights := ⟨.ro, .ro, .none, .ro⟩
/-- RO KTD. -/
def roKTD : Rights := ⟨.none, .ro, .ro, .ro⟩
/-- RW CKD. -/
def rwCKD : Rights := ⟨.rw, .rw, .none, .rw⟩
/-- RWS CD, RO KT. -/
def rwsCD : Rights := ⟨.rws, .ro, .ro, .rws⟩
/-- RWS CKD, RO T. -/
def rwsCKD : Rights := ⟨.rws, .rws, .ro, .rws⟩
/-- RW T, RO CKD. -/
def rwT : Rights := ⟨.ro, .ro, .rw, .ro⟩
/-- RW CT, RO KD. -/
def rwCT : Rights := ⟨.rw, .ro, .rw, .ro⟩

/-- A row with a range of indices. -/
def row (i0 i1 s0 s1 : Nat) (ty : Ty) (acc : Rights) (dflt : Nat) (pdo : Bool) (per : Persist) (rng : Rng) : Desc :=
  ⟨i0, i1, s0, s1, ty, acc, dflt, pdo, per, rng⟩

/-- A row of one index. -/
def obj (i s0 s1 : Nat) (ty : Ty) (acc : Rights) (dflt : Nat) (pdo : Bool) (per : Persist) (rng : Rng) : Desc :=
  ⟨i, i, s0, s1, ty, acc, dflt, pdo, per, rng⟩

/-- A read-only row, persistence H. -/
def ro (i s0 s1 : Nat) (ty : Ty) (dflt : Nat) (pdo : Bool) : Desc := ⟨i, i, s0, s1, ty, roAll, dflt, pdo, .H, .any⟩

/-- A read-only row over a range of indices, persistence H. -/
def ros (i0 i1 s0 s1 : Nat) (ty : Ty) (dflt : Nat) (pdo : Bool) : Desc := ⟨i0, i1, s0, s1, ty, roAll, dflt, pdo, .H, .any⟩

/-- A stored configuration row, RWS CKT RO D, PDO no, persistence S. -/
def cfg (i s0 s1 : Nat) (ty : Ty) (dflt : Nat) (rng : Rng) : Desc := ⟨i, i, s0, s1, ty, rwsCKT, dflt, false, .S, rng⟩

/-- A stored configuration row over a range of indices. -/
def cfgs (i0 i1 s0 s1 : Nat) (ty : Ty) (dflt : Nat) (rng : Rng) : Desc := ⟨i0, i1, s0, s1, ty, rwsCKT, dflt, false, .S, rng⟩

/-- Table 21.2: 0x1000 to 0x1FFF. -/
def descComm : List Desc := [
  obj 0x1000 0 0 .u32 rwsCKT 0 false .S .any,
  obj 0x1001 0 0 .u8 roAll 0 true .H .any,
  obj 0x1003 0 0 .u8 rwCKT 0 false .H (.oneOf [0]),
  ro 0x1003 1 16 .u32 0 false,
  obj 0x1005 0 0 .u32 rwsCKT 0x80 false .S .any,
  obj 0x1006 0 0 .u32 rwsCKT 0 false .S .any,
  obj 0x1010 1 3 .u32 rwAll 1 false .H (.oneOf [0x65766173]),
  obj 0x1011 1 3 .u32 rwAll 1 false .H (.oneOf [0x64616F6C]),
  obj 0x1012 0 0 .u32 rwsCKT 0x100 false .S .any,
  obj 0x1014 0 0 .u32 rwsCKT 0x80 false .S .any,
  obj 0x1015 0 0 .u16 rwsCKT 0 false .S .any,
  obj 0x1016 1 8 .u32 rwsCKT 0 false .S .any,
  obj 0x1017 0 0 .u16 rwsCKT 100 false .S (.zeroOr 10 65535 1),
  obj 0x1018 1 1 .u32 constAll 0x00000F1E false .K .any,
  obj 0x1018 2 2 .u32 constAll 0x00016800 false .K .any,
  obj 0x1018 3 3 .u32 constAll 0x00020001 false .K .any,
  obj 0x1018 4 4 .u32 constAll 0 false .O .any,
  obj 0x1019 0 0 .u8 rwsCKT 0 false .S (.zeroOr 2 240 1),
  ro 0x1200 1 1 .u32 0x600 false, ro 0x1200 2 2 .u32 0x580 false,
  cfgs 0x1400 0x143F 1 1 .u32 0x80000000 .any,
  cfgs 0x1400 0x143F 2 2 .u8 0xFF .any,
  cfgs 0x1400 0x143F 5 5 .u16 0 .any,
  cfgs 0x1600 0x163F 0 0 .u8 0 (.span 0 64 1),
  cfgs 0x1600 0x163F 1 64 .u32 0 .any,
  cfgs 0x1800 0x183F 1 1 .u32 0x80000000 .any,
  cfgs 0x1800 0x183F 2 2 .u8 0xFF .any,
  cfgs 0x1800 0x183F 3 3 .u16 0 .any,
  cfgs 0x1800 0x183F 5 5 .u16 0 .any,
  cfgs 0x1800 0x183F 6 6 .u8 0 (.span 0 240 1),
  cfgs 0x1A00 0x1A3F 0 0 .u8 0 (.span 0 64 1),
  cfgs 0x1A00 0x1A3F 1 64 .u32 0 .any,
  obj 0x1F50 1 5 .dom woCKD 0 false .F .any,
  obj 0x1F51 1 5 .u8 rwCKD 0 false .H .any,
  obj 0x1F56 1 5 .u32 roAll 0 false .F .any,
  ro 0x1F57 1 5 .u32 0 true]

/-- Tables 21.3 to 21.6: 0x2000 to 0x2102. -/
def descGlobal : List Desc := [
  obj 0x2000 1 1 .u16 constAll 1 false .K .any,
  obj 0x2000 2 2 .u32 constAll 0 false .K .any,
  obj 0x2000 3 3 .u32 roAll 0xEE true .V .any,
  obj 0x2000 4 4 .u32 roAll 0 false .V .any,
  obj 0x2000 5 5 .u32 roAll 3 false .O .any,
  obj 0x2001 1 1 .u32 rwAll 0 false .H .any,
  ro 0x2001 2 2 .u64 0 false,
  ro 0x2002 1 1 .u8 0 false, ro 0x2002 2 2 .u32 0 false, ro 0x2002 3 3 .u8 0 false,
  obj 0x2002 4 5 .u32 roAll 0 false .F .any,
  ro 0x2002 6 6 .u16 0 false, ro 0x2002 7 7 .u32 0 false, ro 0x2002 8 8 .u8 0 false,
  obj 0x2003 1 1 .dom roCKD 0 false .H .any,
  obj 0x2003 2 2 .dom woCKD 0 false .H .any,
  obj 0x2003 3 3 .u8 woCKD 0 false .H (.span 1 2 1),
  obj 0x2003 4 4 .u16 roCKD 0 false .H .any,
  obj 0x2003 5 5 .u32 roCKD 0 false .H .any,
  obj 0x2004 1 16 .u48 rwsCD 0 false .S .any,
  cfg 0x2010 1 1 .u16 7000 (.span 7000 20000 100),
  ro 0x2010 2 2 .u16 7600 false, ro 0x2010 3 3 .u16 0 true, ro 0x2010 4 4 .u8 0 true,
  obj 0x2011 1 3 .u32 roAll 0 false .V .any,
  cfg 0x2012 1 1 .u16 200 (.span 20 2000 1),
  ro 0x2013 1 1 .u32 0 false,
  cfg 0x2020 1 1 .u16 500 (.oneOf [125, 250, 500, 1000]),
  cfg 0x2020 2 2 .u16 0 (.oneOf [0, 2000, 4000, 5000]),
  cfg 0x2020 3 3 .u8 0 (.span 0 3 1),
  cfg 0x2020 4 4 .u8 0 (.span 0 1 1),
  cfg 0x2020 5 5 .u16 200 (.span 10 5000 1),
  cfg 0x2020 6 6 .u16 500 (.span 50 10000 1),
  cfg 0x2020 7 7 .u16 100 (.span 0 10000 1),
  cfg 0x2020 8 8 .u16 0 (.span 0 5000 1),
  obj 0x2021 1 1 .u8 constAll 1 false .O .any,
  ro 0x2021 2 2 .u8 0 false,
  obj 0x2021 3 3 .u8 rwsCD 0xFF false .U (.orVal 0xFF 1 127),
  ro 0x2021 4 5 .u8 0xFF false, ro 0x2021 6 6 .u8 3 false, ro 0x2021 7 7 .u8 0 false,
  ros 0x2022 0x2023 1 1 .u8 0 true, ros 0x2022 0x2023 2 3 .u8 0 true, ros 0x2022 0x2023 4 8 .u32 0 true,
  cfg 0x2024 1 64 .u16 0x0080 .any,
  ro 0x2025 1 8 .u32 0 true,
  obj 0x2026 1 8 .u64 rwCKT 0 false .H .any,
  cfg 0x2030 1 1 .u8 0 (.oneOf [0, 1, 2, 4]),
  cfg 0x2030 2 2 .bool 1 .any,
  obj 0x2030 3 3 .u8 woAll 0 false .H (.span 1 2 1),
  ro 0x2031 1 3 .u8 0 true, ro 0x2031 4 8 .u32 0 true, ro 0x2031 9 9 .u64 0 true, ro 0x2031 10 12 .u32 0 true,
  ro 0x2031 13 13 .u16 0 true,
  obj 0x2032 1 1 .u32 rwCKT 0 false .H .any,
  ro 0x2032 2 2 .u32 0 false, ro 0x2032 3 3 .u32 0 true, ro 0x2032 4 4 .u32 0 false,
  obj 0x2035 1 32 .u32 rwCT 0 false .H .any,
  cfg 0x2100 1 1 .u32 4000 (.span 500 20000 1),
  cfg 0x2100 2 2 .u8 1 (.span 1 64 1),
  cfg 0x2100 3 3 .u32 0 (.span 0 19999 1),
  cfg 0x2100 4 4 .u16 50 (.span 0 1000 1), cfg 0x2100 5 5 .u16 550 (.span 0 1000 1),
  cfg 0x2100 6 6 .u16 200 (.span 0 1000 1), cfg 0x2100 7 7 .u16 100 (.span 0 1000 1),
  obj 0x2100 8 8 .u8 woCKT 0 false .H (.oneOf [1]),
  ro 0x2100 9 9 .u16 100 false,
  ro 0x2101 1 1 .u48 0 true, ro 0x2101 2 2 .u32 4000000 true, ro 0x2101 3 3 .u8 0 true,
  ro 0x2101 4 4 .u16 0 true, ro 0x2101 5 5 .i32 0 true, ro 0x2101 6 6 .u8 0 true,
  ro 0x2101 7 8 .u32 0 false,
  ro 0x2102 1 8 .u32 0 true]

/-- 0x2034: host window w uses sub-indices 3w + 1 (base), 3w + 2 (length) and 3w + 3 (attributes). -/
def descHostWindows : List Desc := (List.range 16).flatMap (fun w => [
  obj 0x2034 (3 * w + 1) (3 * w + 1) .u64 rwCKT 0 false .H .any,
  obj 0x2034 (3 * w + 2) (3 * w + 2) .u32 rwCKT 0 false .H .any,
  obj 0x2034 (3 * w + 3) (3 * w + 3) .u16 rwCKT 0 false .H .any])

/-- Tables 21.7 and 21.8 with Tables 8.9, 8.11 and 9.9: 0x2200 to 0x2813. -/
def descMemory : List Desc := [
  obj 0x2200 1 1 .u32 rwT 0 false .H .any,
  cfg 0x2200 2 2 .u16 512 .any, cfg 0x2200 3 3 .u16 384 .any, cfg 0x2200 4 4 .u16 8 (.span 1 3600 1),
  ro 0x2200 5 6 .u32 0 true, ro 0x2200 7 7 .u32 0 false, ro 0x2200 8 8 .u16 0 true, ro 0x2200 9 9 .u8 0 false,
  ro 0x2201 1 9 .u32 0 true,
  obj 0x2210 1 1 .u64 woTD 0 false .H .any, ro 0x2210 2 2 .u32 0 false,
  cfg 0x2220 1 1 .bool 1 .any, cfg 0x2220 2 2 .u8 4 (.span 1 8 1), ro 0x2220 3 6 .u32 0 false,
  cfg 0x2300 1 1 .u16 896 .any, cfg 0x2300 2 2 .u16 128 .any, ro 0x2300 3 6 .u32 0 true,
  cfgs 0x2400 0x24FF 1 1 .u64 0 .any,
  row 0x2400 0x24FF 2 2 .u8 woCKT 0 false .H (.span 1 3 1),
  ros 0x2400 0x24FF 3 3 .u8 2 true,
  row 0x2400 0x24FF 4 5 .u16 rwCKT 0 true .H .any,
  ros 0x2400 0x24FF 6 6 .u32 0x0E000000 false,
  ros 0x2400 0x24FF 7 8 .u32 0 true,
  row 0x2400 0x24FF 9 9 (.oct 0) roKTD 0 false .H .any,
  row 0x2400 0x24FF 10 10 (.oct 0) woCT 0 false .H .any,
  ros 0x2400 0x24FF 11 11 .u8 0 false,
  cfgs 0x2500 0x257F 1 4 .u32 0 .any,
  cfgs 0x2500 0x257F 5 5 .u64 0 .any,
  cfgs 0x2500 0x257F 6 6 .u8 0 .any,
  ros 0x2500 0x257F 7 7 .u32 0 true,
  row 0x2500 0x257F 8 11 .u16 rwCKT 0 false .H .any,
  ros 0x2500 0x257F 12 12 .u8 0 false,
  ros 0x2500 0x257F 13 13 (.oct 16) 0 false,
  ros 0x2500 0x257F 14 14 .u32 0 true,
  row 0x2610 0x2619 1 32 .u32 rwCKT 0 false .H .any,
  cfg 0x2620 1 8 .u8 0 .any,
  ro 0x2621 1 10 .u32 0 false,
  obj 0x2622 1 10 .u32 rwCKT 0 false .H .any,
  obj 0x2623 1 1 .u16 woT 0 false .H (.span 288 319 1),
  ro 0x2800 1 1 .u8 0 true, ro 0x2800 2 2 .u32 0 false, ro 0x2800 3 3 .u32 0 true,
  ro 0x2800 4 4 .u16 0 true, ro 0x2800 5 5 .u32 0 false,
  cfg 0x2801 1 1 .u16 384 .any, cfg 0x2801 2 2 .u16 128 .any,
  ro 0x2802 1 2 .u32 0 false,
  row 0x2810 0x2813 1 1 .u8 woCKT 0 false .H (.span 1 4 1),
  ros 0x2810 0x2813 2 2 .u8 0 true,
  cfgs 0x2810 0x2813 3 3 .bool 0 .any,
  cfgs 0x2810 0x2813 4 4 .u16 100 (.span 10 2000 1),
  cfgs 0x2810 0x2813 5 5 .u16 100 (.span 10 500 1),
  ros 0x2810 0x2813 6 6 .u32 0 false,
  ros 0x2810 0x2813 7 8 .u32 0 true,
  ros 0x2810 0x2813 9 10 .u32 0 false]

/-- Table 21.9 with Table 11.7: 0x3000 to 0x3121. -/
def descSense : List Desc := [
  cfg 0x3000 1 1 .u16 64 (.zeroOr 16 1024 1), cfg 0x3000 2 2 .u16 32 (.span 1 4096 1), cfg 0x3000 3 3 .u8 16 .any,
  ro 0x3000 4 4 .u32 0x10 true,
  ro 0x3000 5 5 (.oct 16) 0x0F0E0D0C0B0A09080706050403020100 false,
  ro 0x3000 6 6 .u48 0 true, ro 0x3000 7 8 .u32 0 false, ro 0x3000 9 9 .u32 0 true, ro 0x3000 10 10 .u16 0 true,
  ro 0x3001 1 17 .u32 0 false, ro 0x3002 1 17 .u32 0 false, ro 0x3003 1 17 .i16 0 false,
  cfg 0x3010 1 2 .u32 0xFFFFFFFF .any,
  obj 0x3010 3 3 .u32 roAll 0x40000000 false .O .any,
  ro 0x3010 4 4 .u16 12800 false,
  cfgs 0x3100 0x3117 1 2 .u64 0 .any,
  cfgs 0x3100 0x3117 3 4 (.oct 144) 0 .any,
  row 0x3100 0x3117 5 5 .u8 woCKT 0 false .H (.span 1 2 1),
  row 0x3100 0x3117 6 6 .u32 rwCKT 0 false .H .any,
  ros 0x3100 0x3117 7 7 .u8 0 true, ros 0x3100 0x3117 8 8 .u8 0 false, ros 0x3100 0x3117 9 9 .u32 0 true,
  cfgs 0x3100 0x3117 10 10 .u8 16 (.span 1 255 1),
  ros 0x3100 0x3117 11 11 .u32 0 false, ros 0x3100 0x3117 12 12 .u8 0 false,
  ro 0x3120 1 64 .u32 0 true,
  cfg 0x3121 1 16 .u8 0 (.span 0 63 1)]

/-- Table 21.10 with Tables 12.2 to 12.12: 0x3200 to 0x3241. -/
def descTouch : List Desc := [
  cfgs 0x3200 0x3201 1 1 .u8 0 (.span 0 127 1), cfgs 0x3200 0x3201 2 2 .u8 0 (.span 0 128 1),
  cfg 0x3200 3 3 .u8 4 (.oneOf [1, 2, 4]), cfg 0x3201 3 3 .u8 1 (.oneOf [1, 2, 4]),
  cfgs 0x3200 0x3201 4 4 .u8 1 (.span 0 1 1),
  cfgs 0x3200 0x3201 5 6 .u32 0 .any, cfgs 0x3200 0x3201 7 7 .u16 0 .any,
  cfgs 0x3200 0x3201 8 8 .u8 16 (.span 4 255 1),
  cfgs 0x3200 0x3201 9 10 .u32 0 .any, cfgs 0x3200 0x3201 11 11 .u32 0x00FF0000 .any,
  cfgs 0x3200 0x3201 12 12 .u8 16 (.span 4 255 1), cfgs 0x3200 0x3201 13 13 .u8 50 (.span 10 80 1),
  obj 0x3202 1 1 .u8 woCKT 0 false .H (.oneOf [1]),
  ro 0x3202 2 3 .u32 0 false, ro 0x3202 4 4 .u8 0xFF true,
  cfg 0x3202 5 5 .u16 120 (.span 33 180 1),
  ro 0x3202 6 6 .u16 0 true,
  cfg 0x3202 7 8 .u32 0 .any,
  ro 0x3202 9 9 .u64 0 false,
  cfg 0x3203 1 8 .u32 0 .any,
  cfg 0x3203 9 9 .u8 16 (.span 9 64 1), cfg 0x3203 10 10 .u16 15 (.span 1 1023 1),
  cfg 0x3203 11 11 .u8 8 (.span 1 255 1),
  ro 0x3203 12 12 .u8 0 true, ro 0x3203 13 13 .u32 0 false,
  ro 0x3204 1 8 .u16 0 true,
  cfg 0x3210 1 1 .u16 60 (.span 8 1023 1), cfg 0x3210 2 2 .u16 20 (.span 4 1022 1),
  cfg 0x3210 3 3 .u16 40 (.span 4 1023 1), cfg 0x3210 4 4 .u16 12 (.span 2 1021 1),
  cfg 0x3210 5 5 .u8 6 (.span 2 12 1), cfg 0x3210 6 6 .u8 8 (.span 1 32 1),
  cfg 0x3210 7 7 .u8 1 (.span 1 8 1), cfg 0x3210 8 8 .u16 60 (.zeroOr 10 3600 1),
  cfg 0x3210 9 9 .u16 40 (.span 8 1000 1), cfg 0x3210 10 10 .u8 0 (.span 0 2 1),
  cfg 0x3210 11 11 .u8 0 (.span 0 1 1), cfg 0x3210 12 12 .u16 10 (.span 1 600 1),
  cfg 0x3210 13 13 .u8 5 (.span 1 255 1),
  cfg 0x3220 1 8 .u32 0x14028221 .any,
  ro 0x3221 1 4 .u8 0 true, cfg 0x3221 5 5 .u8 2 (.span 1 8 1), cfg 0x3221 6 6 .u16 30 (.zeroOr 5 600 1),
  ro 0x3221 7 15 .u32 0 false,
  obj 0x3222 1 8 .u32 rwsCKT 0 false .U .any,
  obj 0x3222 9 9 .u8 woCKT 0 false .H (.oneOf [1]),
  cfg 0x3222 10 10 .u8 25 .any,
  cfg 0x3230 1 1 .u8 0xFF .any, ro 0x3230 2 3 .u32 0 false, ro 0x3230 4 4 (.oct 16) 0 true,
  ro 0x3231 1 20 (.oct 16) 0 true,
  cfg 0x3232 1 1 .u8 5 .any, cfg 0x3232 2 2 .u8 1 (.span 0 1 1),
  cfg 0x3232 3 3 .u16 250 (.span 50 1000 1), cfg 0x3232 4 4 .u16 500 (.span 100 1000 1),
  cfg 0x3232 5 5 .u8 2 (.span 1 16 1), cfg 0x3232 6 6 .u8 8 (.span 2 64 1),
  cfg 0x3232 7 7 .u16 500 (.span 100 2000 1), cfg 0x3232 8 8 .u16 400 (.span 100 1000 1),
  cfg 0x3232 9 9 .u16 60 (.span 5 200 1), ro 0x3232 10 10 .u8 0 true, ro 0x3232 11 11 .u32 0 false,
  cfg 0x3233 1 8 .u32 0 .any, ro 0x3233 9 9 .u8 0xFF true, ro 0x3233 10 10 .u32 0 false,
  cfg 0x3240 1 1 .bool 0 .any, cfg 0x3240 2 2 .u8 30 (.span 5 100 1), cfg 0x3240 3 3 .u8 2 (.span 1 16 1),
  cfg 0x3240 4 4 .u16 800 (.span 100 10000 1), cfg 0x3240 5 5 .u16 2000 (.span 0 60000 1),
  cfg 0x3240 6 9 .u16 0 .any,
  ro 0x3241 1 1 .u8 0 true, ro 0x3241 2 2 .u32 0 true, ro 0x3241 3 5 .u32 0 false, ro 0x3241 6 6 .u8 0 false]

/-- Tables 21.11 and 21.12 with Tables 13.2 to 13.6 and 14.5: 0x4000 to 0x4205. -/
def descPower : List Desc := [
  cfgs 0x4000 0x400F 1 1 .u16 5000 (.span 2000 20000 1),
  cfgs 0x4000 0x400F 2 2 .u16 800 (.span 200 1200 1),
  row 0x4000 0x400F 3 3 .i16 rwsCKT 0 false .U (.span (-1638) 1638 1),
  cfgs 0x4000 0x400F 4 4 .u8 0 (.span 0 3 1),
  cfgs 0x4000 0x400F 5 5 .u16 0 (.span 0 1600 1),
  ros 0x4000 0x400F 6 6 .i16 0 true, ros 0x4000 0x400F 7 7 .u16 0 true, ros 0x4000 0x400F 8 8 .u8 0 true,
  ros 0x4000 0x400F 9 9 .u32 0 false,
  cfgs 0x4010 0x401F 1 1 .u16 0 .any,
  row 0x4010 0x401F 2 2 .u16 rwCKT 0 true .H .any,
  cfgs 0x4010 0x401F 3 3 .u8 0 (.span 0 2 1), cfgs 0x4010 0x401F 4 4 .u16 0 (.span 0 4095 1),
  cfgs 0x4010 0x401F 5 5 .u16 10 (.span 1 500 1), cfgs 0x4010 0x401F 6 6 .u16 500 (.span 200 2000 1),
  cfgs 0x4010 0x401F 7 9 .u16 0 .any,
  cfgs 0x4010 0x401F 10 10 .u64 0 .any,
  ros 0x4010 0x401F 11 12 .u16 0 true, ros 0x4010 0x401F 13 13 .i32 0 true, ros 0x4010 0x401F 14 14 .u16 0 true,
  ros 0x4010 0x401F 15 16 .u32 0 false, ros 0x4010 0x401F 17 17 .u32 0 true,
  ro 0x4020 1 1 .u16 0 true, cfg 0x4020 2 2 .u8 0xFF .any,
  cfg 0x4021 1 16 .u32 0 .any,
  cfgs 0x4024 0x4027 1 1 .u16 8000 (.span 1000 20000 1), cfgs 0x4024 0x4027 2 2 .u16 600 (.span 0 1000 1),
  cfgs 0x4024 0x4027 3 3 .i16 1150 (.span 600 1450 1), cfgs 0x4024 0x4027 4 4 .i16 1350 (.span 650 1500 1),
  ros 0x4024 0x4027 5 5 .i16 0 true, ros 0x4024 0x4027 6 6 .u8 2 true,
  obj 0x4028 1 1 .i16 constAll 1250 false .K .any, obj 0x4028 2 2 .i16 constAll 1500 false .K .any,
  ro 0x4028 3 3 .i16 0 true, ro 0x4028 4 4 .u8 2 true,
  cfgs 0x4100 0x410F 1 1 .u16 100 (.span 20 500 1), cfgs 0x4100 0x410F 2 2 .u16 50 (.span 10 495 1),
  cfgs 0x4100 0x410F 3 3 .u16 50 (.span 10 490 1), cfgs 0x4100 0x410F 4 4 .u16 100 (.span 15 500 1),
  cfgs 0x4100 0x410F 5 6 .u16 0 (.span 0 60000 1), cfgs 0x4100 0x410F 7 7 .u16 0x000F .any,
  cfgs 0x4100 0x410F 8 8 .u16 100 (.span 10 10000 1), cfgs 0x4100 0x410F 9 9 .u16 10 (.span 5 50 1),
  cfgs 0x4100 0x410F 10 10 .u16 50 (.span 0 500 1), cfgs 0x4100 0x410F 11 11 .u16 200 (.span 0 10000 1),
  ros 0x4100 0x410F 12 12 .u16 0 false, ros 0x4100 0x410F 13 13 .u16 0x0010 true,
  row 0x4100 0x410F 14 14 .u8 woCKT 0 false .H (.oneOf [1]),
  ros 0x4100 0x410F 15 16 .u32 0 true, ros 0x4100 0x410F 17 17 .u8 0 true,
  ro 0x4200 1 1 .u8 0x0E true, cfg 0x4200 2 2 .u8 5 .any,
  obj 0x4200 3 3 .u8 woCKT 0 true .H .any,
  ro 0x4200 4 4 .u32 0x00FF0000 true, ro 0x4200 5 5 .u8 0 true,
  cfg 0x4200 6 6 .u8 5 .any, cfg 0x4200 7 7 .u16 0 (.span 0 60000 1), cfg 0x4200 8 8 .u16 10 (.span 0 3600 1),
  cfg 0x4200 9 9 .bool 0 .any, ro 0x4200 10 12 .u32 0 false,
  obj 0x4200 13 13 .u8 woCKT 0 false .H (.oneOf [1]),
  cfg 0x4201 1 64 .u32 0 .any, cfg 0x4202 1 64 .u32 0 .any, cfg 0x4203 1 32 .u32 0 .any,
  cfg 0x4204 1 16 .u16 500 (.span 1 500 1),
  ro 0x4205 1 2 .u8 0 true, ro 0x4205 3 3 .u32 0 false]

/-- Tables 21.13 and 21.14 with Tables 15.6 to 15.14 and 16.3 to 16.5: 0x4300 to 0x4423. -/
def descPack : List Desc := [
  cfg 0x4300 1 1 .bool 1 .any, cfg 0x4300 2 2 .u8 1 (.span 0 1 1), cfg 0x4300 3 3 .u8 4 (.span 2 4 1),
  cfg 0x4300 4 4 .u16 4200 (.span 4000 4350 10), cfg 0x4300 5 5 .u16 1000 (.span 100 5000 10),
  cfg 0x4300 6 6 .u8 10 (.span 1 50 1), cfg 0x4300 7 7 .u8 20 (.span 0 60 1), cfg 0x4300 8 8 .u16 0 .any,
  cfg 0x4300 9 9 .u16 3435 (.span 2500 5000 1), cfg 0x4300 10 10 .u16 0 (.zeroOr 10 1000 1),
  cfg 0x4300 11 11 .u8 0 (.span 0 1 1),
  ro 0x4301 1 1 .u8 0 true, ro 0x4301 2 2 .u16 0 true, ro 0x4301 3 3 .u8 0 true, ro 0x4301 4 4 .i16 0 true,
  ro 0x4301 5 5 .u16 0 true, ro 0x4301 6 6 .i16 0 true, ro 0x4301 7 8 .u16 0 true, ro 0x4301 9 10 .u16 0 false,
  ro 0x4301 11 12 .u32 0 false, ro 0x4301 13 13 .u8 0 false,
  obj 0x4302 1 1 .u8 woCKT 0 false .H (.oneOf [1]),
  ro 0x4310 1 1 .bool 0 true, ro 0x4310 2 2 .u32 0 false, ro 0x4310 3 3 .u16 0 false,
  ro 0x4320 1 1 .u8 3 true, ro 0x4320 2 2 (.oct 32) 0 false, ro 0x4320 3 3 .u8 0 false, ro 0x4320 4 4 .u32 0 false,
  ro 0x4320 5 5 .u8 0 true,
  obj 0x4320 6 6 .u8 woCKT 0 false .H (.span 1 2 1),
  ro 0x4320 7 7 .u16 0 true, ro 0x4320 8 8 .i16 0 true, ro 0x4320 9 9 .u16 0 true, ro 0x4320 10 10 .u8 0 true,
  ro 0x4320 11 11 .u16 0 false,
  obj 0x4330 1 4 .u64 roAll 0 false .V .any, obj 0x4330 5 5 .u32 roAll 0 false .V .any,
  obj 0x4330 6 6 .u16 roAll 0 false .V .any, obj 0x4330 7 9 .u32 roAll 0 false .V .any,
  obj 0x4330 10 10 .u16 roAll 0 false .V .any, obj 0x4330 11 12 .u32 roAll 0 false .V .any,
  obj 0x4340 1 5 .u32 roAll 0 false .V .any,
  cfgs 0x4401 0x4408 1 1 .u8 0 (.span 0 2 1), cfgs 0x4401 0x4408 2 2 .u16 1000 (.span 100 10000 1),
  cfgs 0x4401 0x4408 3 3 .u16 3435 (.span 2500 5000 1), cfgs 0x4401 0x4408 4 4 .u16 10080 (.span 9000 11000 1),
  row 0x4401 0x4408 5 5 .i16 rwsCKT 0 false .U (.span (-100) 100 1),
  cfgs 0x4401 0x4408 6 6 .i16 850 (.span (-400) 1450 1),
  ros 0x4401 0x4408 7 7 .i16 0 true, ros 0x4401 0x4408 8 8 .u8 0 true,
  ro 0x4409 1 4 .i16 0 true, ro 0x440A 1 1 .i16 0 true, ro 0x440A 2 2 .u8 0 true, ro 0x440A 3 3 .u32 0 true,
  ro 0x4410 1 1 .u8 0 false, ro 0x4410 2 2 .i16 950 false, ro 0x4410 3 3 .u8 1 true, ro 0x4410 4 4 .i16 0 true,
  obj 0x4410 5 5 .u32 roAll 0 false .V .any,
  cfgs 0x4420 0x4423 1 1 .u8 0 (.span 0 2 1), cfgs 0x4420 0x4423 2 2 .u8 2 (.span 0 4 1),
  row 0x4420 0x4423 3 3 .u16 rwCKT 0 true .H (.zeroOr 300 20000 1),
  cfgs 0x4420 0x4423 4 4 .u16 12000 (.span 1000 25000 1), cfgs 0x4420 0x4423 5 5 .u16 200 (.span 0 500 1),
  cfgs 0x4420 0x4423 6 6 .u16 64 (.span 0 1023 1), cfgs 0x4420 0x4423 7 7 .u16 256 (.span 0 4095 1),
  cfgs 0x4420 0x4423 8 8 .u16 1000 (.span 100 10000 1), cfgs 0x4420 0x4423 9 9 .u16 0x0F00 .any,
  cfgs 0x4420 0x4423 10 10 .u16 20 (.span 0 100 1), cfgs 0x4420 0x4423 11 18 .u32 0 .any,
  row 0x4420 0x4423 19 19 .u8 woCKT 0 false .H (.span 1 2 1),
  ros 0x4420 0x4423 20 21 .u16 0 true, ros 0x4420 0x4423 22 22 .u16 1000 true, ros 0x4420 0x4423 23 23 .u8 0 true,
  ros 0x4420 0x4423 24 25 .u32 0 false, ros 0x4420 0x4423 26 26 .i16 0 true, ros 0x4420 0x4423 27 27 .u16 0 true]

/-- Tables 21.15 to 21.17 with Tables 18.7 and 19.4: 0x4800 to 0x5F10. -/
def descService : List Desc := [
  cfg 0x4800 1 1 .u8 0 (.span 0 1 1), cfg 0x4800 2 2 .u8 1 (.span 0 3 1),
  ro 0x4800 3 4 .u64 0 false, ro 0x4800 5 5 .u32 0 false,
  obj 0x4800 6 6 .u8 woCKD 0 false .H (.oneOf [1]),
  ro 0x4800 7 7 .u32 0 true, ro 0x4800 8 8 .u32 0 false, ro 0x4800 9 9 .u16 0 false, ro 0x4800 10 10 .u8 0 true,
  obj 0x4800 11 11 .u32 roAll 0 false .F .any, ro 0x4800 12 12 .u32 0 false,
  cfg 0x4800 13 13 .u8 0xFF .any,
  obj 0x4801 1 1 .u32 rwAll 0xFFFFFFFF false .H .any,
  ro 0x4801 2 2 .dom 0 false,
  obj 0x4802 1 1 (.oct 20) woCKT 0 false .H .any,
  ro 0x4810 1 1 .u64 0 true,
  obj 0x4810 2 2 .tod roAll 0 true .V .any, obj 0x4810 3 3 .u8 roAll 0 true .V .any,
  ro 0x4810 4 4 .u32 0xFFFFFFFF false, ro 0x4810 5 5 .u32 0 false,
  ro 0x4900 1 1 .u8 0 true,
  obj 0x4900 2 2 .bool rwsCKD 0 false .S .any, obj 0x4900 3 3 .u8 rwsCKD 0x19 false .S .any,
  obj 0x4900 4 4 .u16 rwsCKD 600 false .S (.span 60 3600 1),
  obj 0x4900 5 5 .u8 woCKD 0 false .H (.span 1 2 1),
  ro 0x4900 6 6 .u8 0 true, ro 0x4900 7 7 .u16 0 false, ro 0x4900 8 9 .u32 0 false,
  obj 0x4900 10 11 .u32 roAll 0 false .F .any, ro 0x4900 12 12 .u32 0 false,
  cfg 0x4A00 1 1 .u8 0x7F .any,
  obj 0x4A00 2 2 .bool rwsCKD 1 false .S .any,
  ro 0x4A00 3 4 .u32 0 true, ro 0x4A00 5 7 .u32 0 false,
  cfg 0x4A00 8 8 .u16 10 (.span 1 3600 1), ro 0x4A00 9 9 .u32 0xFF000000 false,
  ro 0x4A01 1 24 .u32 0 false,
  obj 0x4A10 1 1 .u8 woAll 0 false .H (.span 1 3 1), ro 0x4A10 2 2 .u8 0 true, ro 0x4A10 3 3 (.oct 238) 0 false,
  ro 0x4A10 4 4 .u16 0 true,
  obj 0x5F00 1 1 .u8 roAll 3 false .O .any,
  obj 0x5F00 2 2 .u32 woD 0 false .H .any,
  ro 0x5F00 3 3 .u8 0 true,
  obj 0x5F00 4 4 (.oct 40) roD 0 false .H .any,
  obj 0x5F00 5 5 .u8 woD 0 false .H .any, obj 0x5F00 6 6 (.oct 132) woD 0 false .H .any,
  ro 0x5F00 7 8 .u32 0 false,
  obj 0x5F10 1 1 .u8 woD 0 false .O .any, obj 0x5F10 2 2 .u8 roAll 0 false .O .any,
  obj 0x5F10 3 8 (.oct 32) woD 0 false .O .any,
  obj 0x5F10 9 9 .u16 roAll 0 false .O .any, obj 0x5F10 10 13 .u32 roAll 0 false .O .any]

/-- The rows that may hold an index, by the index's range (Table 5.1). -/
def descsFor (i : Nat) : List Desc :=
  if i < 0x2000 then descComm
  else if i = 0x2034 then descHostWindows
  else if i < 0x2200 then descGlobal
  else if i < 0x3000 then descMemory
  else if i < 0x3200 then descSense
  else if i < 0x4000 then descTouch
  else if i < 0x4300 then descPower
  else if i < 0x4800 then descPack
  else descService

/-- The row holds the index. -/
def Desc.hasIndex (d : Desc) (i : Nat) : Bool := decide (d.i0 ≤ i) && decide (i ≤ d.i1)

/-- The row holds the index and the sub-index. -/
def Desc.has (d : Desc) (i s : Nat) : Bool := d.hasIndex i && decide (d.s0 ≤ s) && decide (s ≤ d.s1)

/-- The index is defined (R139). -/
def indexDefined (i : Nat) : Bool := (descsFor i).any (fun d => d.hasIndex i)

/-- The highest sub-index of an index (R741). -/
def highestSub (i : Nat) : Nat :=
  (descsFor i).foldl (fun m d => if d.hasIndex i then max m d.s1 else m) 0

/-- The row of an index and sub-index. Sub-index 00 of an index with higher ones that no row lists is U8,
CONST on every port and holds the highest sub-index (R741). -/
def descOf (i s : Nat) : Option Desc :=
  match (descsFor i).find? (fun d => d.has i s) with
  | some d => some d
  | none =>
    if s = 0 && indexDefined i && decide (0 < highestSub i) then
      some ⟨i, i, 0, 0, .u8, constAll, highestSub i, false, .K, .any⟩
    else none

/-- How many indices a row spans. -/
def Desc.indices (d : Desc) : Nat := d.i1 + 1 - d.i0

/-- How many sub-indices a row spans at each index. -/
def Desc.subs (d : Desc) : Nat := d.s1 + 1 - d.s0

/-- Every row of the index. -/
def allDescs : List Desc :=
  descComm ++ descGlobal ++ descHostWindows ++ descMemory ++ descSense ++ descTouch ++ descPower ++ descPack ++ descService

/-- 0x2000:02 counts every pair defined, every sub-index 00 included (R147): the pairs the rows list, and one
sub-index 00 for each index whose sub-indices run above 00 and whose row 00 is not listed (R741). An index is
counted at the first row that holds it. -/
def definedPairs : Nat :=
  (allDescs.foldl (fun n d => n + d.indices * d.subs) 0) +
  ((allDescs.foldl (fun (acc : List Nat × Nat) d =>
      let fresh := (List.range d.indices).filter (fun j =>
        !acc.1.contains (d.i0 + j) && decide (0 < highestSub (d.i0 + j))
          && !((descsFor (d.i0 + j)).any (fun e => e.has (d.i0 + j) 0)))
      (fresh.map (d.i0 + ·) ++ acc.1, acc.2 + fresh.length)) ([], 0)).2)

/-- The key of an index and sub-index in the sparse tables of values. -/
def key (i s : Nat) : Nat := i * 256 + s

end Sys2Proof.Machine
end

