-- ==== Sys2Proof/Machine/StateBeat.lean ====
section
/-!
DEFINITION. The state of the downbeat (chapter 4): the phase of the frame, the lock loop of R121 in exact rational nanoseconds, the runs of
receptions that R120 to R124 count, and what the frame has completed. Lock state, frame counter and flags are the
values of 0x2101 and 0x2102; the frame configuration in force is in the table of values in force.
-/

namespace Sys2Proof.Machine

/-- The five phases of a frame (R114). -/
inductive Phase where
  | listen | scan | process | report | quiet
deriving DecidableEq, Repr

/-- The downbeat generator and its lock loop. Times are in half nanoseconds, so that 2.5 ns is 5. -/
structure Beat where
  running : Bool
  /-- the checked set of an accepted Apply, 0x2100:01 to :07, that takes effect at the next downbeat (R113) -/
  applySet : Option (List Nat)
  /-- the device time of the last downbeat, half ns -/
  lastHalf : Nat
  /-- the length of the frame now running, half ns -/
  lenHalf : Nat
  drift : Rat
  residual : Rat
  ePrev : Rat
  applied : Rat
  ef : Rat
  /-- the device time of the last accepted reception, half ns -/
  prevAt : Option Nat
  /-- consecutive missing periods (R123) -/
  missRun : Nat
  /-- consecutive receptions with |e| above 10 µs (R120) -/
  farRun : Nat
  /-- consecutive periods more than 0.2 % off (R124) -/
  offRun : Nat
  /-- consecutive good receptions in MISMATCH (R120) -/
  goodRun : Nat
  /-- the device has been in ACQUIRE or LOCKED since the last hard reset (R123) -/
  acquired : Bool
  /-- the position 0x2101:06 takes at the next downbeat, when the choice moved (R119) -/
  renumber : Option Nat
  phase : Phase
  /-- this frame's report was produced whole (R118) -/
  reportDone : Bool
  /-- touch scanned when this frame opened (R138) -/
  scanFrame : Bool
  scanDone : Bool
  processDone : Bool
  /-- no image buffer could be had in this frame (Table 8.6) -/
  imageMissing : Bool
  /-- engines stopped by a loss of PLL B, until the first downbeat after relock (R134) -/
  stoppedB : Bool
  /-- transmit stopped by a loss of PLL C (R135) -/
  stoppedC : Bool
deriving DecidableEq, Repr

/-- The downbeat before firmware start: not running, a frame of 4,000,000 ns, FREE. -/
def Beat.reset : Beat where
  running := false
  applySet := none
  lastHalf := 0
  lenHalf := 8000000
  drift := 0
  residual := 0
  ePrev := 0
  applied := 0
  ef := 0
  prevAt := none
  missRun := 0
  farRun := 0
  offRun := 0
  goodRun := 0
  acquired := false
  renumber := none
  phase := .listen
  reportDone := false
  scanFrame := false
  scanDone := false
  processDone := false
  imageMissing := false
  stoppedB := false
  stoppedC := false

end Sys2Proof.Machine
end

