-- ==== Sys2Proof/Machine/StateCan.lean ====
section
/-!
DEFINITION. The state of the CANopen port (chapter 6) that is not an object's value: the lines' duplicate memory, the NMT state, heartbeat
consumers, the EMCY queue, the frames waiting to be sent, SDO and USDO transfers, LSS, and the PDO scheduler. Line
states, error counters and status words are the values of 0x2022, 0x2023 and 0x2025.
-/

namespace Sys2Proof.Machine

/-- A CAN line. -/
inductive Line where
  | A | B
deriving DecidableEq, Repr

/-- The other line. -/
def Line.other : Line → Line
  | .A => .B | .B => .A

/-- The code of a line: 0 A, 1 B. -/
def Line.code : Line → Nat
  | .A => 0 | .B => 1

/-- A CAN frame of 11-bit identifier. -/
structure CanFrame where
  id : Nat
  data : List Nat
  fd : Bool
  brs : Bool
  esi : Bool
deriving DecidableEq, Repr

/-- The NMT states (Table 6.4). -/
inductive Nmt where
  | init | preOp | operational | stopped
deriving DecidableEq, Repr

/-- What a frame waiting for transmission is. -/
inductive TxKind where
  | bootUp | heartbeat | emcy | sdo | usdo | lss
  | tpdo (n : Nat) (windowed : Bool)
deriving DecidableEq, Repr

/-- A frame waiting for arbitration, and the lines it still has to be sent on. -/
structure TxFrame where
  kind : TxKind
  frame : CanFrame
  lineA : Bool
  lineB : Bool
  /-- it has been sent on some line (PARALLEL, R230) -/
  sent : Bool
  /-- it waits for the end of the SYNC guard (R220) -/
  held : Bool
deriving DecidableEq, Repr

/-- An EMCY waiting in the queue of 16 (R223). -/
structure Emcy where
  code : Nat
  errReg : Nat
  detail : Nat
  frame : Nat
deriving DecidableEq, Repr

/-- A heartbeat consumer entry: running once a first heartbeat was seen; expired until the next (R213). -/
inductive Consumer where
  | idle | armed | expired
deriving DecidableEq, Repr

/-- An SDO transfer of the classic server (R224). -/
inductive SdoState where
  | idle
  /-- a request awaits its completion (a store, an erase); `ok` is the response it then gets, empty for an upload -/
  | awaiting (index sub : Nat) (ok : List Nat)
  /-- `size`: as the client stated it; `got`: the bytes held; `count`: all bytes received -/
  | download (index sub : Nat) (size : Option Nat) (got : List Nat) (count : Nat) (toggle : Bool)
  | upload (index sub : Nat) (rest : List Nat) (toggle : Bool)
  /-- `crc`: over the bytes already handed on; `check`: the client gives a CRC; `ending`: the last segment has come -/
  | blockDownload (index sub : Nat) (size : Option Nat) (got : List Nat) (count crc : Nat) (check : Bool) (blksize seq : Nat) (ending : Bool)
  /-- `rest`: the bytes not yet acknowledged; `started`: the client has started the transfer; `ending`: its end was sent -/
  | blockUpload (index sub : Nat) (value rest : List Nat) (check : Bool) (blksize : Nat) (started ending : Bool)
deriving DecidableEq, Repr

/-- A USDO transfer of more than one frame (R224): `bulk` says that its segments are not confirmed one by one. -/
inductive UsdoTransfer where
  | idle
  /-- `size`: as the client stated it; `got`: the bytes held; `count`: all bytes received; `next`: the number of the next segment -/
  | download (index sub size : Nat) (bulk : Bool) (got : List Nat) (count next : Nat)
  | upload (rest : List Nat)
deriving DecidableEq, Repr

/-- A USDO session (R224), and the transfer it has in progress. -/
structure UsdoSession where
  client : Nat
  session : Nat
  transfer : UsdoTransfer
deriving DecidableEq, Repr

/-- The LSS slave's state: waiting or configuration, the selective match in progress, the fastscan position and what has been
configured (R206). -/
structure Lss where
  configuring : Bool
  /-- the fastscan position (CiA 305): the next part of the address that a confirmed fastscan matches -/
  matched : Nat
  /-- a node-ID was configured since the last resolution: 0x2021:05 is pending (R28, R204) -/
  nodeSet : Bool
  /-- the nominal rate last configured by LSS -/
  rate : Option Nat
  /-- 0x2020:01 as it stood when a rate was activated by LSS: that rate stays in force while 0x2020:01 still reads this -/
  kept : Option Nat
deriving DecidableEq, Repr

/-- What the scheduler keeps for one TPDO (R228 to R230). -/
structure Tpdo where
  due : Bool
  inhibit : Bool
  /-- SYNCs seen since it last was due (types 1 to 240) -/
  syncs : Nat
  /-- the mapped values as last sent -/
  lastSent : Option (List Nat)
  /-- values sampled at the SYNC that made it due; of an IMMEDIATE TPDO, the values last seen -/
  sampled : Option (List Nat)
  /-- SYNC start value reached, or none configured (R215) -/
  started : Bool
  /-- its event timer has expired since it was last sent -/
  timed : Bool
deriving DecidableEq, Repr

/-- What the scheduler keeps for one RPDO (R231, R232). -/
structure Rpdo where
  /-- values that wait for the next SYNC: (index, sub, value) -/
  held : List (Nat × Nat × Nat)
  /-- EMCY 0xFF32 was sent since the last RPDO that passed -/
  refused : Bool
  /-- its event timer runs -/
  timing : Bool
deriving DecidableEq, Repr

/-- A frame remembered for duplicate suppression (R200): the line it came from, the frame and its time in ns. -/
structure Seen where
  line : Line
  id : Nat
  data : List Nat
  time : Nat
deriving DecidableEq, Repr

/-- The service an accepted frame is handed to. -/
inductive Service where
  | nmt | sync | time | sdo | lss | rpdo (n : Nat) | heartbeat (node : Nat) | none
deriving DecidableEq, Repr

/-- The last NMT command carried out (R235): its line, command specifier, node-ID and time in ns. -/
structure NmtSeen where
  line : Line
  command : Nat
  node : Nat
  time : Nat
deriving DecidableEq, Repr

/-- The CANopen port. -/
structure Can where
  /-- the controllers run (R240) -/
  started : Bool
  nmt : Nmt
  seen : List Seen
  /-- the receive FIFOs of both lines (Table 6.5): frames accepted whose service has not taken them yet -/
  fifo : List (Line × Service)
  nmtSeen : Option NmtSeen
  consumers : List Consumer
  emcyQ : List Emcy
  /-- EMCYs dropped since the last 0xFF33 -/
  emcyDropped : Nat
  emcyInhibit : Bool
  txq : List TxFrame
  /-- the SYNC guard holds every transmission (R220) -/
  guard : Bool
  /-- a TPDO window is open (R228) -/
  window : Bool
  sdo : SdoState
  usdo : List UsdoSession
  lss : Lss
  tpdos : List Tpdo
  rpdos : List Rpdo
  /-- the last SYNC counter value received (R214) -/
  syncCount : Nat
  /-- a SYNC of the line that is not the source, waiting to stand for a period in which the source gives none (R216): its line, counter and time in half
  ns -/
  otherSync : Option (Line × Option Nat × Nat)
  /-- when the last SYNC used became valid, in half ns (R216) -/
  lastSync : Option Nat
deriving DecidableEq, Repr

/-- One TPDO after reset. -/
def Tpdo.reset : Tpdo := ⟨false, false, 0, none, none, false, false⟩

/-- One RPDO after reset. -/
def Rpdo.reset : Rpdo := ⟨[], false, false⟩

/-- The port before its controllers start. -/
def Can.reset : Can where
  started := false
  nmt := .init
  seen := []
  fifo := []
  nmtSeen := none
  consumers := List.replicate 8 .idle
  emcyQ := []
  emcyDropped := 0
  emcyInhibit := false
  txq := []
  guard := false
  window := false
  sdo := .idle
  usdo := []
  lss := ⟨false, 0, false, none, none⟩
  tpdos := List.replicate 64 Tpdo.reset
  rpdos := List.replicate 64 Rpdo.reset
  syncCount := 0
  otherSync := none
  lastSync := none

end Sys2Proof.Machine
end

