-- ==== Sys2Proof/Machine/StateStore.lean ====
section
/-!
DEFINITION. The state of the object dictionary's store (chapter 5): the eight slots in external flash, the store job, the
-/

namespace Sys2Proof.Machine

/-- One record of a store image (Table 5.8). -/
structure StoreRecord where
  index : Nat
  sub : Nat
  type : Nat
  len : Nat
  value : Nat
deriving DecidableEq, Repr

/-- A store image or configuration image (Table 5.7): its header fields and its records, and whether its CRC and END check. -/
structure Image where
  magic : Nat
  format : Nat
  kind : Nat
  generation : Nat
  product : Nat
  revision : Nat
  serial : Nat
  records : List StoreRecord
  /-- END and CRC check -/
  intact : Bool
deriving DecidableEq, Repr

/-- A slot of the store: erased, or holding bytes that are an image (whose own fields decide validity, R162). -/
inductive Slot where
  | erased
  | holds (im : Image)
  /-- bytes that are no whole image: a write abandoned -/
  | broken
deriving DecidableEq, Repr

/-- Who asked for the store job in progress: it is answered when the job ends (R159, R160, R180, R207). -/
inductive Asker where
  | none
  /-- the port, the object and, on K, the tag of the ORQ -/
  | port (p : Nat) (index sub tag : Nat)
  /-- the LSS master, on the line (0 A, 1 B) that carried its request -/
  | lss (line : Nat)
deriving DecidableEq, Repr

/-- The kinds of store job (R164, R165, R179, R207). -/
inductive JobKind where
  | save | restore | importing | lss | repair
deriving DecidableEq, Repr

/-- A store job in progress (R164): the image, the copy being written, whether it is the second, and whether the retry of R177 is
spent. -/
structure StoreJob where
  kind : JobKind
  image : Image
  /-- the copy being written: 0 A, 1 B -/
  copy : Nat
  second : Bool
  retried : Bool
  asker : Asker
deriving DecidableEq, Repr

/-- The store and the dictionary's own registers. -/
structure Store where
  /-- slots 0 to 3 are copy A, 4 to 7 copy B -/
  slots : List Slot
  job : Option StoreJob
  /-- a repair of this copy waits for the boot-up message (R165) -/
  repairDue : Option Nat
  /-- the staging segment 0x2003:02 (R176) -/
  staging : List Nat
  /-- the image that each port C, K, T, D captured at the first access of its transfer of 0x2003:01 (R174) -/
  exports : List (Option (List Nat))
  /-- the descriptor query target of each port C, K, T, D (R148) -/
  query : List Nat
  /-- the external flash cannot be used (R191) -/
  flashAbsent : Bool
  /-- EMCY 0x5530 is due after the boot-up message (Table 5.9) -/
  emcyDue : Bool
deriving DecidableEq, Repr

/-- A factory-fresh store: every slot erased (Table 5.9). -/
def Store.reset : Store where
  slots := List.replicate 8 .erased
  job := none
  repairDue := none
  staging := []
  exports := [none, none, none, none]
  query := [0, 0, 0, 0]
  flashAbsent := false
  emcyDue := false

end Sys2Proof.Machine
end

