-- ==== Sys2Proof/Machine/StateLink.lean ====
section
/-!
DEFINITION. The state of the Kyodlink host port (chapter 7) that is not an object's value: the flit layer, packets, tags, credits, windows
being closed, stream buffers and the moderation of the 320 vectors. Link state, widths and counters are the values of
0x2031; routing, masks and pin-pending bits those of 0x2610 to 0x2622.
-/

namespace Sys2Proof.Machine

/-- The packets of Table 7.4 (PAD carries nothing and is not listed). Data are bytes, a stream's samples its 16-bit containers. -/
inductive Packet where
  | mrd (tag len addr : Nat)
  | mwr (addr : Nat) (data : List Nat)
  | cpl (tag status : Nat) (data : List Nat)
  | orq (tag orw : Nat) (data : List Nat)
  | ocpl (tag status : Nat) (data : List Nat)
  | dbell (n value : Nat)
  | intmsg (count vector frame time : Nat)
  | stream (source flags seq time : Nat) (samples : List Nat)
  | cfgrd (tag offset : Nat)
deriving DecidableEq, Repr

/-- The posted class of Table 7.4. -/
def Packet.posted : Packet → Bool
  | .mwr _ _ | .dbell _ _ | .intmsg _ _ _ _ | .stream _ _ _ _ _ => true
  | _ => false

/-- The priority in which the device fills its flits (R259): lower first. -/
def Packet.priority : Packet → Nat
  | .cpl _ _ _ | .ocpl _ _ _ => 1
  | .intmsg _ _ _ _ => 2
  | .mwr _ _ | .dbell _ _ => 3
  | .mrd _ _ _ | .orq _ _ _ | .cfgrd _ _ => 4
  | .stream _ _ _ _ _ => 5

/-- The types of flit (Table 7.3). -/
inductive FType where
  | idle | data | link
deriving DecidableEq, Repr

/-- The ACKTYPE field of a flit. -/
inductive AckType where
  | none | ack | nak
deriving DecidableEq, Repr

/-- A flit by its fields (Table 7.3), and whether its CRC matches. -/
structure Flit where
  good : Bool
  ftype : FType
  seq : Nat
  ack : AckType
  ackSeq : Nat
  pcred : Nat
  first : Nat
  payload : List Nat
deriving DecidableEq, Repr

/-- A DATA flit in the replay buffer: its SEQ, and which 244 bytes of which packet it carries. -/
structure TxFlit where
  seq : Nat
  packet : Packet
  part : Nat
  /-- it ends the packet -/
  last : Bool
deriving DecidableEq, Repr

/-- A sample of the raw stream (Tables 7.6 and 7.7). -/
structure Sample where
  code : Nat
  outside : Bool
  edge : Bool
deriving DecidableEq, Repr

/-- Why the device issued an MRD: a fill (a prefetch among them), or a POP of a ring in a host window (the port, on K the tag of its ORQ, on D 1 for a PEEK). `stale` is
a read whose requester has gone: its tag stays taken until the host completes it or it times out (R257, R264). -/
inductive ReadUse where
  | fill (page : Nat)
  | pop (ring port tag : Nat) (index : Option Nat)
  | stale
deriving DecidableEq, Repr

/-- A device read outstanding: its tag, use and host window. -/
structure Tag where
  tag : Nat
  use : ReadUse
  window : Nat
deriving DecidableEq, Repr

/-- One source of the raw stream: whether the packet now being collected counts (a change of the sources waits for the packet boundary, R269), its buffer of
at most 8 packets, oldest first, and the DISCONT flag due (R271). -/
structure StreamSrc where
  active : Bool
  buffer : List Packet
  discont : Bool
deriving DecidableEq, Repr

/-- The moderation state of one vector (R272). -/
structure Vec where
  count : Nat
  holdoff : Bool
deriving DecidableEq, Repr

/-- The Kyodlink host port. -/
structure Link where
  /-- the sequencer's mark: the host domain is up (R246) -/
  hostUp : Bool
  /-- the width DETECT trains, taken at its entry -/
  trainWidth : Nat
  nextSeq : Nat
  /-- sent DATA flits not acknowledged, oldest first, at most 128 -/
  replay : List TxFlit
  expected : Nat
  nakSent : Bool
  /-- replays in succession without ACK progress -/
  replayRun : Nat
  /-- device times of the last retrains, newest first (three within 1 s, R253) -/
  retrains : List Nat
  /-- FAILED trainings in a row -/
  failedRun : Nat
  credits : Nat
  /-- the ACKTYPE and ACKSEQ that the device last returned (R251, R252) -/
  ackType : AckType
  ackSeq : Nat
  /-- posted credits returned to the host since LINK_UP was last entered from CONFIG (R258) -/
  returned : Nat
  /-- those of them that a PCRED field has carried -/
  given : Nat
  /-- the bytes of a packet whose end has not come yet, and whether the receiver waits for a FIRSTPKT to resume at (R254) -/
  rxPart : List Nat
  rxLost : Bool
  /-- the packets that the last DATA flit accepted completed, in order; each one's command follows -/
  parsed : List Packet
  /-- the flits that the last command to send any put on the lanes -/
  sent : List Flit
  /-- packets of the host that wait: the first, an MRD or MWR, on a page fill, the others behind it -/
  inq : List Packet
  /-- packets waiting for a flit, in issue order -/
  out : List Packet
  tags : List Tag
  /-- open host windows, inbound windows and routing entries: the key of the object that holds OPEN or ENABLE, and the port that set it (1 C, 2 K, 3 T), as
  0x24nn:0B codes a ring's opening port (R93, R276) -/
  openers : List (Nat × Nat)
  /-- host windows whose close waits for outstanding reads (R267), and who asked -/
  closing : List (Nat × Asker)
  /-- POPs of rings in host windows that wait for a tag or for an earlier POP: ring, port, tag of the ORQ (on D: 1 for a PEEK) -/
  pops : List (Nat × Nat × Nat)
  /-- 17 sources: touch positions 0 to 15, HK -/
  streams : List StreamSrc
  /-- vectors whose state is not (0, not running) -/
  vecs : List (Nat × Vec)
  /-- vectors 258 and 259 were raised in this frame for a refused MWR or a stream drop -/
  raised258 : Bool
  raised259 : Bool
  /-- vector 256 waits for LINK_UP (R279) -/
  reset256 : Bool
  /-- the link has been down since a link-down event (vector 257 is due) -/
  due257 : Bool
deriving DecidableEq, Repr

/-- The link at a hard reset: idle, no traffic (R280). -/
def Link.reset : Link where
  hostUp := false
  trainWidth := 0
  nextSeq := 0
  replay := []
  expected := 0
  nakSent := false
  replayRun := 0
  retrains := []
  failedRun := 0
  credits := 512
  ackType := .none
  ackSeq := 0
  returned := 0
  given := 0
  rxPart := []
  rxLost := false
  parsed := []
  sent := []
  inq := []
  out := []
  tags := []
  openers := []
  closing := []
  pops := []
  streams := List.replicate 17 ⟨false, [], false⟩
  vecs := []
  raised258 := false
  raised259 := false
  reset256 := false
  due257 := false

end Sys2Proof.Machine
end

