-- ==== Sys2Proof/Machine/StatePower.lean ====
section
/-!
DEFINITION. The state of chapters 2 and 3: the power path, resets, start-up, the straps, the clocks, the watchdog and the
always-on control block (Tables 3.3 to 3.12). Words of the always-on control block are held by field; `Machine/Aocb.lean`
packs them as Tables 3.9 to 3.12 lay them out.
-/

namespace Sys2Proof.Machine

/-- The state field of PWRSTATE (Table 3.9). -/
inductive PState where
  | off | ship | keepalive | listen | service | run | start | emergency
deriving DecidableEq, Repr

/-- The code of a power state (Table 3.9). -/
def PState.code : PState → Nat
  | .off => 0x0 | .ship => 0x1 | .keepalive => 0x2 | .listen => 0x3 | .service => 0x4 | .run => 0x5 | .start => 0xE | .emergency => 0xF

/-- Where start-up stands (Table 3.3). `idle`: no start-up has begun, or the device is in OFF or SHIP. -/
inductive StartStep where
  | idle
  /-- the self-bucks are starting, or wait for their retry, or for RESET_N (R85, R107) -/
  | supply
  /-- three attempts failed (R85) -/
  | supplyFailed
  /-- the clocks step (R75) -/
  | clocks
  /-- start-up LBIST, 24 slots (R700) -/
  | lbist
  /-- the boot ROM (R682) -/
  | bootRom
  /-- the recovery loader runs, or NO_IMAGE (R685) -/
  | loader
  /-- firmware runs -/
  | firmware
deriving DecidableEq, Repr

/-- The self-supply bucks (R85). -/
inductive SelfBuck where
  | stopped | starting | regulating
deriving DecidableEq, Repr

/-- How an input interruption ended (R26; Table 17.2, INTERRUPTION). -/
inductive LossOutcome where
  | onPack | onHoldup | emergency | startAbandoned | hardReset
deriving DecidableEq, Repr

/-- The outcome byte of an INTERRUPTION record (Table 17.2). -/
def LossOutcome.code : LossOutcome → Nat
  | .onPack => 0 | .onHoldup => 1 | .emergency => 2 | .startAbandoned => 3 | .hardReset => 4

/-- RSTCAUSE by field (Table 3.11). -/
structure RstCause where
  soft : Nat
  source : Nat
  qual : Nat
  /-- [12:8]: RESET_N, LONG_PRESS, WATCHDOG, INPUT_LOSS, BOUNDARY_SCAN, from bit 8 up -/
  also : Nat
  logLost : Nat
deriving DecidableEq, Repr

/-- BOOTSTAT by field (Table 3.12). -/
structure BootStat where
  trimFault : Bool
  lbistFail : Bool
  selfSupplyFault : Bool
  bankB : Bool
  trial : Bool
  recovery : Bool
  odDefaults : Bool
  xinAbsent : Bool
  progress : Nat
deriving DecidableEq, Repr

/-- STRAPS by field (Table 3.10). -/
structure Straps where
  addr0 : Nat
  addr1 : Nat
  tcrit : Nat
  bootsel : Bool
  addr0Marginal : Bool
  addr1Marginal : Bool
  tcritIndeterminate : Bool
  bootselIndeterminate : Bool
deriving DecidableEq, Repr

/-- The always-on control block (R102). -/
structure Aocb where
  pstate : PState
  /-- TARGET of a transition in progress; equal to the state when none -/
  target : PState
  straps : Straps
  cause : RstCause
  lossDur : Nat
  boot : BootStat
deriving DecidableEq, Repr

/-- The clocks: the crystal, KREF, and which PLLs are locked (R75, R110). -/
structure Clocks where
  xin : Bool
  /-- the SUP domain holds the PLLs in reset after a loss of XIN in operation (R75) -/
  pllsHeld : Bool
  pllA : Bool
  pllB : Bool
  pllC : Bool
  pllD : Bool
  kref : Bool
  /-- LFXIN gives no oscillation (R76) -/
  lfInternal : Bool
deriving DecidableEq, Repr

/-- The watchdog of the SUP domain (R92). -/
structure Watchdog where
  armed : Bool
  /-- firmware has serviced it since it was armed -/
  byFirmware : Bool
  /-- milliseconds to expiry set by the last service -/
  timeoutMs : Nat
  /-- it has expired since it was armed, where the expiry restarted nothing (R104); TOLL stays low (R31) -/
  expired : Bool
deriving DecidableEq, Repr

/-- Power entry, the power path, resets and start-up (chapter 3). -/
structure Power where
  vaonValid : Bool
  /-- the VIN-valid comparator (start-up only) -/
  vinValid : Bool
  /-- a rise of VIN starts the device (R584) -/
  armedRise : Bool
  /-- the hold comparator: VIN counts as lost -/
  vinLost : Bool
  vinOv : Bool
  /-- VSYS lies below its under-voltage lockout -/
  uvlo : Bool
  insw : Bool
  batg : Bool
  /-- BATG is held off after a long press (R582) -/
  batgHeld : Bool
  selfBuck : SelfBuck
  attempts : Nat
  step : StartStep
  /-- the next LBIST slot of start-up -/
  lbistSlot : Nat
  resetNLow : Bool
  /-- the power-down order of a hard reset runs; the core is held in reset after it -/
  hardReset : Bool
  /-- the wait after an emergency order (R98) -/
  emergWait : Bool
  /-- flash writes are refused until the restart (R96) -/
  writesStopped : Bool
  /-- the reset sequence has stopped an erase or a program of the flash (R96, step 6) -/
  flashReset : Bool
  /-- qualifier of the running input loss: 1 below hold, 2 over-voltage (R97) -/
  lossQual : Nat
  /-- the interruptions whose records are written at the next start-up, oldest first, each with its duration in µs where the loss has ended (R99) -/
  pendingRecords : List (LossOutcome × Option Nat)
  /-- an interruption is in progress: VIN is lost in operation -/
  interruption : Bool
  /-- the loss of VAON is recorded at the next start-up (R99) -/
  vaonRecord : Bool
  /-- the VIN hold threshold in force, 1 mV (R106) -/
  holdMv : Nat
  watchdog : Watchdog
deriving DecidableEq, Repr

/-- BOOTSTAT before start-up. -/
def BootStat.reset : BootStat := ⟨false, false, false, false, false, false, false, false, 0⟩

/-- STRAPS before they are read. -/
def Straps.reset : Straps := ⟨0, 0, 0, false, false, false, false, false⟩

/-- The block as the loss of VAON leaves it: cleared (R103), PWRSTATE at its default 0xEE. -/
def Aocb.reset : Aocb := ⟨.start, .start, Straps.reset, ⟨0, 0, 0, 0, 0⟩, 0, BootStat.reset⟩

/-- No clock runs without supply. -/
def Clocks.reset : Clocks := ⟨false, false, false, false, false, false, false, false⟩

/-- The watchdog while it is not armed (R92). -/
def Watchdog.reset : Watchdog := ⟨false, false, 1000, false⟩

/-- The watchdog as arming, or a service of the boot ROM or the loader, leaves it (R92). -/
def Watchdog.start : Watchdog := ⟨true, false, 1000, false⟩

/-- Unpowered: every comparator in the safe state of Table 3.7. -/
def Power.reset : Power where
  vaonValid := false
  vinValid := false
  armedRise := true
  vinLost := true
  vinOv := false
  uvlo := true
  insw := false
  batg := false
  batgHeld := false
  selfBuck := .stopped
  attempts := 0
  step := .idle
  lbistSlot := 0
  resetNLow := false
  hardReset := false
  emergWait := false
  writesStopped := false
  flashReset := false
  lossQual := 0
  pendingRecords := []
  interruption := false
  vaonRecord := false
  holdMv := 7000
  watchdog := Watchdog.reset

end Sys2Proof.Machine
end

