-- ==== Sys2Proof/Machine/StateSense.lean ====
section
/-!
DEFINITION. The state of the sense path (chapter 11): the seventeen touch converter slices and their rotation, the housekeeping references,
and the switching state of the 24 filter lanes. Parameters, coefficients, telemetry values and counters are objects' values.
-/

namespace Sys2Proof.Machine

/-- What a calibrating slice estimated over an interval: residual in 1/256 LSB, O and G (R407). -/
structure SliceEst where
  residual : Nat
  o : Int
  g : Nat
deriving DecidableEq, Repr

/-- The state of a slice (0x3001). -/
inductive SliceState where
  | inService | out | failed
deriving DecidableEq, Repr

/-- One touch converter slice. -/
structure Slice where
  state : SliceState
  /-- consecutive periods without convergence -/
  missed : Nat
  residual : Nat
  o : Int
  g : Nat
deriving DecidableEq, Repr

/-- The touch bank's power (R439); once calibrated it scans from the next downbeat on (R440). -/
inductive BankPower where
  | off | calibrating | calibrated | ready
deriving DecidableEq, Repr

/-- Where one input of a telemetry lane stands in a switch (R425): not switching, outputs still to discard, or the next fade step k. -/
inductive FadeStep where
  | none | warming (left : Nat) | fading (k : Nat) | done
deriving DecidableEq, Repr

/-- The filter state of one datapath for one telemetry input (R417, R420): the four integrators and the four combs of the CIC in 48-bit modular arithmetic, and
the FIR's delay line, newest first. -/
structure Filt where
  ints : List Int
  combs : List Int
  taps : List Int
deriving DecidableEq, Repr

/-- An empty datapath. -/
def Filt.reset : Filt := ⟨[0, 0, 0, 0], [0, 0, 0, 0], []⟩

/-- One filter lane. A touch lane restarts empty at every burst (R418) and keeps no filter state. -/
structure Lane where
  activeB : Bool
  /-- a touch switch waits for the downbeat (R426) -/
  pending : Bool
  /-- a telemetry switch runs (R425) -/
  switching : Bool
  fades : List FadeStep
  /-- the datapath of the active bank, and the one that warms or fades in, per input -/
  filt : List Filt
  filtNew : List Filt
  /-- a library load runs (R424) -/
  loading : Bool
deriving DecidableEq, Repr

/-- The sense path. -/
structure Sense where
  power : BankPower
  slices : List Slice
  /-- the slice serving each position, none where unserved -/
  map : List (Option Nat)
  out : Option Nat
  next : Nat
  framesOut : Nat
  /-- frames the out slice has calibrated since it went out (R407) -/
  calFrames : Nat
  converged : Bool
  /-- the in-service test used the out slice's logic in this frame (R428) -/
  tested : Bool
  lanes : List Lane
  /-- HK and the telemetry lanes run (R438) -/
  hkRunning : Bool
  /-- consecutive outputs out of window of inputs 60, 61, 63 (R416) -/
  refOut : List Nat
  /-- consecutive outputs in window of inputs 60, 61, 63 -/
  refIn : List Nat
deriving DecidableEq, Repr

/-- A lane at its start: bank A, nothing running. -/
def Lane.reset : Lane :=
  ⟨false, false, false, List.replicate 8 .none, List.replicate 8 Filt.reset, List.replicate 8 Filt.reset, false⟩

/-- The sense path at a hard reset (R408): slice p serves position p, SL16 is out. The trim in OTP is given no value: unity gain, no offset (log entry 59). -/
def Sense.reset : Sense where
  power := .off
  slices := List.replicate 16 ⟨.inService, 0, 0, 0, 16384⟩ ++ [⟨.out, 0, 0, 0, 16384⟩]
  map := (List.range 16).map some
  out := some 16
  next := 0
  framesOut := 0
  calFrames := 0
  converged := false
  tested := false
  lanes := List.replicate 24 Lane.reset
  hkRunning := false
  refOut := [0, 0, 0]
  refIn := [0, 0, 0]

end Sys2Proof.Machine
end

