-- ==== Sys2Proof/Machine/StateUpdate.lean ====
section
/-!
DEFINITION. The state of the firmware update (chapter 18): boot records, image banks and program slots as they lie in the external flash, the
download session, and what a trial keeps.
-/

namespace Sys2Proof.Machine

/-- A boot-record slot that checks (Table 18.6): its fields, its used trial marks and whether CONFIRM reads 0. -/
structure BootRecord where
  generation : Nat
  /-- 0 A, 1 B -/
  bank : Nat
  trial : Bool
  flags : Nat
  imgver : Nat
  digest : Nat
  marks : Nat
  confirm : Bool
deriving DecidableEq, Repr

/-- What the flash holds of one image: its blocks by number, each 4,096 bytes; and whether an erase of it was begun and has not ended. -/
structure Bank where
  blocks : List (Nat × List Nat)
  erasing : Bool
deriving DecidableEq, Repr

/-- The stages of Table 18.5. -/
inductive Stage where
  | idle | erasing | downloading | partial_ | complete | verifying | verified | activated | trial | failed
deriving DecidableEq, Repr

/-- The code of a stage. -/
def Stage.code : Stage → Nat
  | .idle => 0 | .erasing => 1 | .downloading => 2 | .partial_ => 3 | .complete => 4 | .verifying => 5 | .verified => 6
  | .activated => 7 | .trial => 8 | .failed => 9

/-- One sub-index of 0x1F57: firmware, or a program slot. -/
structure Target where
  offset : Nat
  stage : Stage
  error : Nat
deriving DecidableEq, Repr

/-- The session (R675): its sub-index, the port that owns it, and the bytes held of the block in progress. -/
structure Session where
  sub : Nat
  port : Nat
  block : List Nat
deriving DecidableEq, Repr

/-- An image bank as the boot ROM finds it in the external flash (log entry 45): whether it verifies by R678, and the fields a record or an object names. -/
structure BankFound where
  verifies : Bool
  digest : Nat
  imgver : Nat
  line : Nat
  nblocks : Nat
deriving DecidableEq, Repr

/-- The update state. -/
structure Update where
  slots : List (Option BootRecord)
  banks : List Bank
  /-- what the boot ROM found in a bank that this model has not written -/
  found : List BankFound
  programs : List Bank
  /-- five targets: sub-indices 01 to 05 -/
  targets : List Target
  session : Option Session
  /-- who waits for an erase (R677) -/
  asker : Asker
  /-- the bank that runs: 0 A, 1 B -/
  running : Nat
  /-- the start-up scan has ended (R697) -/
  scanned : Bool
  /-- criteria reached in the health window (R683), and the window's time in half nanoseconds -/
  healthReached : Nat
  windowOpen : Bool
  windowHalf : Nat
  /-- an EMCY 0xFFC1 or 0xFFC2 with its detail is due after the boot-up message (R682) -/
  emcyDue : Option (Nat × Nat)
  /-- the restart of R681 waits for the watchdog -/
  restarting : Bool
  /-- the boot ROM hands over to the recovery loader (R685) -/
  loader : Bool
  /-- Ifetor's key hash is programmed (R695) -/
  hash0 : Bool
deriving DecidableEq, Repr

/-- A bank the flash holds nothing of. -/
def BankFound.reset : BankFound := ⟨false, 0, 0, 0, 0⟩

/-- A target with nothing in it. -/
def Target.reset : Target := ⟨0, .idle, 0⟩

/-- An empty flash. -/
def Update.reset : Update where
  slots := [none, none]
  banks := [⟨[], false⟩, ⟨[], false⟩]
  found := [BankFound.reset, BankFound.reset]
  programs := [⟨[], false⟩, ⟨[], false⟩, ⟨[], false⟩, ⟨[], false⟩]
  targets := List.replicate 5 Target.reset
  session := none
  asker := .none
  running := 0
  scanned := false
  healthReached := 0
  windowOpen := false
  windowHalf := 0
  emcyDue := none
  restarting := false
  loader := false
  hash0 := true

end Sys2Proof.Machine
end

