-- ==== Sys2Proof/Machine/Events.lean ====
section
/-!
DEFINITION. What the commands of the table carry from outside: the level of a strap, what the boot ROM finds in the external flash, the USDO
services, and the outcome of a transaction on the pack port.
-/

namespace Sys2Proof.Machine

/-- A digital strap as it reads (R61, R62): low, high, or in its indeterminate band. -/
inductive Band where
  | low | high | indeterminate
deriving DecidableEq, Repr

/-- A strap's band from the level of its pin in thousandths of VAON (R59): below 0.25 × VAON it reads 0, above 0.75 × VAON 1, and between the two it is
indeterminate. `none` is an open pin, which the internal pull-down holds at 0. -/
def Band.ofPin (level : Option Nat) : Band :=
  match level with
  | none => .low
  | some m => if m < 250 then .low else if 750 < m then .high else .indeterminate

/-- What the boot ROM finds (R682, R686): whether the flash can be used, and both banks. -/
structure BootFindings where
  flash : Bool
  bankA : BankFound
  bankB : BankFound
deriving DecidableEq, Repr

/-- The services of a USDO session (R224). -/
inductive UsdoReq where
  /-- an upload: its answer carries the value, or the first segment of it -/
  | read (index sub : Nat)
  /-- the next segment of an upload -/
  | next
  /-- a bulk upload: every segment follows without a further request -/
  | bulkRead (index sub : Nat)
  /-- an expedited download -/
  | write (index sub : Nat) (data : List Nat)
  /-- the start of a segmented or bulk download -/
  | begin_ (index sub size : Nat) (bulk : Bool)
  /-- a segment of a download: its number, its bytes, and whether it is the last -/
  | segment (number : Nat) (data : List Nat) (last : Bool)
  | abort
deriving DecidableEq, Repr

/-- A read on the pack port (R585): no acknowledgement, a failed transaction, or the bytes. -/
inductive PackRead where
  | noAnswer | failed | bytes (l : List Nat)
deriving DecidableEq, Repr

end Sys2Proof.Machine
end

