-- ==== Sys2Proof/Machine/StateMem.lean ====
section
/-!
DEFINITION. The state of chapter 8: the SRAM with its check bits, the frames, the translation caches, page fills, the prefetcher, the
256 rings and the 128 tasks. The page tables themselves lie in the SRAM.
-/

namespace Sys2Proof.Machine

/-- The condition of a 64-bit word's code (R287) that is not good. -/
inductive EccErr where
  | single | double
deriving DecidableEq, Repr

/-- What occupies a page-pool frame (R300, R301, R306); an unlisted frame is free. -/
inductive FrameUse where
  /-- a resident page, with BACKING, WINDOW and BACKOFF (PTE bits 63 to 32) as they stood when it came: the device's own record (R300) -/
  | page (v backing : Nat)
  | prefetched (v : Nat)
  | filling (v : Nat)
  /-- a write-back runs to a host address; `cmd` when an evict command waits for it (R297) -/
  | writeBack (v host : Nat) (cmd : Bool)
deriving DecidableEq, Repr

/-- Who waits on a fill: the Tabor core (an instruction fetch, or a load or store), the host's packet at the head of the inbound queue, or a lane's library load. No dictionary segment of this device has a demand-paged
backing (log entry 35). -/
inductive Waiter where
  | tabor (fetch : Bool)
  | inbound
  | lane (n : Nat)
deriving DecidableEq, Repr

/-- A page fill in progress (R301): the page, its frame once one was had, whether it is a prefetch, and its waiters. A flush or
invalidate during it withholds the TLB install (R297, R329). -/
structure Fill where
  page : Nat
  /-- the engine of Table 8.4 that asked first -/
  engine : Nat
  frame : Option Nat
  /-- MRDs issued so far, of 16, where the backing is a host window -/
  issued : Nat
  prefetch : Bool
  install : Bool
  waiters : List Waiter
  /-- the frame whose write-back the fill waits for (R302) -/
  awaits : Option Nat
  /-- the page's bytes, where a LOCK sequence holds the bank of the frame or of the PTE as they come (R372) -/
  arrived : Option (List Nat)
deriving DecidableEq, Repr

/-- A translation held by a TLB (R296). -/
structure TlbEntry where
  page : Nat
  frame : Nat
  writable : Bool
  exec : Bool
deriving DecidableEq, Repr

/-- A prefetch stream (R305): its engine and the last page claimed; the pages prefetched for it and not claimed. -/
structure PfStream where
  engine : Nat
  last : Nat
  pages : List Nat
deriving DecidableEq, Repr

/-- The last demand fill or claim of an engine, and the device time of the downbeat before it (R305). -/
structure LastMiss where
  engine : Nat
  page : Nat
  time : Nat
deriving DecidableEq, Repr

/-- Memory and paging. -/
structure Mem where
  /-- the SRAM's bytes; an unlisted address reads 0 -/
  sram : List Host.Cell
  /-- words (address ÷ 8) whose code is not good -/
  ecc : List (Nat × EccErr)
  /-- the pools in force (R290) -/
  poolFirst : Nat
  poolCount : Nat
  ringFirst : Nat
  ringCount : Nat
  frames : List (Nat × FrameUse)
  /-- frames retired, and frames to retire at their release (R289) -/
  retired : List Nat
  retiring : List Nat
  hand : Nat
  fills : List Fill
  streams : List PfStream
  misses : List LastMiss
  /-- the 12 micro-TLBs of Table 8.4, newest entry last -/
  micro : List (List TlbEntry)
  main : List TlbEntry
  /-- the next word the scrubber reads -/
  scrub : Nat
  /-- EMCY 0xFF40 was sent in this frame (R287) -/
  emcySent : Bool
  /-- the page whose walk ends for the host's access at the head of its queue, and installs nothing (R297, R329) -/
  withheld : Option Nat
  /-- burst results that wait for a bank to be freed (R372): object-space address and bytes -/
  heldImage : List (Nat × List Nat)
deriving DecidableEq, Repr

/-- One hardware ring that is or was open (R311 to R318). The indices are objects 0x24nn:04 and :05. -/
structure Ring where
  isOpen : Bool
  /-- a close waits for writes in flight -/
  closing : Bool
  /-- 0 none, 1 C, 2 K, 3 T -/
  opener : Nat
  /-- the user program that opened it, 0 firmware -/
  owner : Nat
  prod : Nat
  cons : Nat
  floor : Nat
  floorFrame : Nat
  overwritten : Bool
  linkLoss : Bool
  frames : List Nat
deriving DecidableEq, Repr

/-- A closed ring. -/
def Ring.reset : Ring := ⟨false, false, 0, 0, 0, 0, 0, 0, false, false, []⟩

/-- An activation record (Table 8.12) less its task number. -/
structure Activation where
  inputs : Nat
  /-- four bytes, one per input -/
  seen : List Nat
  frame : Nat
  value : Nat
  coinc : Nat
deriving DecidableEq, Repr

/-- One task's state: its pending activation, and with ALL set the sources seen since the last one. -/
structure Task where
  pending : Option Activation
  seen : List Nat
  first : Option Nat
deriving DecidableEq, Repr

/-- A task with nothing pending. -/
def Task.reset : Task := ⟨none, [0, 0, 0, 0], none⟩

/-- Rings and tasks. -/
structure Sched where
  rings : List (Nat × Ring)
  tasks : List (Nat × Task)
  /-- tasks are live (R325) -/
  live : Bool
  /-- tasks with a pending activation, in order of activation -/
  ready : List Nat
  /-- a T PUSH that waits for space in a full STALL ring (R315): the ring and the entry -/
  pushWait : Option (Nat × List Nat)
  /-- what the ring engine writes once a LOCK sequence frees the bank (R372): entries, and index blocks (none), by ring -/
  held : List (Nat × Option (List Nat))
deriving DecidableEq, Repr

/-- Memory after power-on: default pools (Table 21.7), nothing mapped. -/
def Mem.reset : Mem where
  sram := []
  ecc := []
  poolFirst := 512
  poolCount := 384
  ringFirst := 896
  ringCount := 128
  frames := []
  retired := []
  retiring := []
  hand := 0
  fills := []
  streams := []
  misses := []
  micro := List.replicate 12 []
  main := []
  scrub := 0
  emcySent := false
  withheld := none
  heldImage := []

/-- No ring open, no task pending. -/
def Sched.reset : Sched := ⟨[], [], false, [], none, []⟩

end Sys2Proof.Machine
end

