-- ==== Sys2Proof/Syntax.lean ====
section
/-!
DEFINITION. The commands of the device: one constructor for each row of the table of operations and events, with what the row carries. A command
comes from a port (C CAN, K Kyodlink, T the Tabor core, D debug), from the environment (a pin, a measurement) or from one
of the device's own timers and engines; all of them wait in one queue.
-/

namespace Sys2Proof

open Machine

/-- A command: one row of the table each. -/
inductive Instr where
  /-- VAON_VALID (R86): VAON rises above its valid threshold; the AON and SUP domains start and the comparators take their safe states. -/
  | vaonValid (tcrit1 tcrit0 : Option Nat) (lfCrystal : Bool)
  /-- VAON_LOSS (R91): VAON falls below its falling threshold; this is a hard reset that clears the always-on control block. -/
  | vaonLoss
  /-- VIN_VALID_RISE (R80): VIN crosses the rising valid threshold and start-up begins at time 0. -/
  | vinValidRise
  /-- SELF_BUCK_CHECK (R85): 1.0 ms after a self-buck starts, its output is checked; on failure all bucks stop and a retry is scheduled. -/
  | selfBuckCheck (ok : Bool)
  /-- SELF_BUCK_RETRY (R85): 100 ms after a self-buck failure the bucks start again, up to three attempts. -/
  | selfBuckRetry
  /-- STARTUP_CLOCKS_STEP (R75): At the clocks step the device checks for XIN, locks the PLLs and reads the OTP trim. -/
  | startupClocksStep (xin trimBad : Bool) (ratio1 ratio0 : Nat) (bootsel : Option Nat)
  /-- XIN_ABSENT_RECHECK (R75): While XIN is absent at start-up, the device checks for it again every 100 ms. -/
  | xinAbsentRecheck (xin trimBad : Bool) (ratio1 ratio0 : Nat) (bootsel : Option Nat)
  /-- STARTUP_LBIST_SLOT (R700): Each 2 ms slot of start-up LBIST tests one test slice, rerunning it once on a mismatch. -/
  | startupLbistSlot (pass passAgain : Bool)
  /-- BOOT_ROM_START (R682): At the end of LBIST the watchdog is armed, and the boot ROM runs discovery and chooses the boot record and bank. -/
  | bootRomStart (found : BootFindings)
  /-- FIRMWARE_START (R138): The image starts; the device enters KEEPALIVE, the downbeat starts free-running and the dictionary is restored. -/
  | firmwareStart
  /-- LOG_OPEN (R669): The log is opened, the session and floor are recovered, and SESSION_START is written. -/
  | logOpen
  /-- IMAGE_SCAN (R697): After firmware start, the inactive bank and the program slots are scanned for their update state. -/
  | imageScan
  /-- VIN_LOST (R24): VIN falls below the hold threshold or rises above over-voltage, and the device moves to the pack or collapses. -/
  | vinLost (overVoltage : Bool) (back : Option (Fin 5)) (same : Bool)
  /-- VIN_OVERVOLTAGE_FALL (R109): VIN falls below the falling over-voltage threshold, and INSW may turn on again. -/
  | vinOvervoltageFall
  /-- VIN_RETURNED (R80): VIN rises above the return level; VSYS transfers back and an interruption record is written. -/
  | vinReturned (lossUs : Nat)
  /-- EMERGENCY_ORDER_END (R98): The emergency order ends; the core is held in reset, the fans are released and TOLL is held low until VIN returns or VSYS locks out. -/
  | emergencyOrderEnd
  /-- VSYS_UVLO (R86): VSYS falls below its lockout; the self-bucks stop and every domain except AON and SUP is held in reset. -/
  | vsysUvlo
  /-- RESET_N_PULSE (R68): A RESET_N low pulse of 10 µs or more causes a hard reset. -/
  | resetNPulse (widthNs : Nat) (same : Bool)
  /-- HARD_RESET_ORDER_END (R91): The hard reset's power-down order ends, and start-up resumes at the clocks or self-buck step. -/
  | hardResetOrderEnd
  /-- WATCHDOG_SERVICE (R92): Firmware or the boot ROM services the watchdog and restarts its timeout. -/
  | watchdogService (firmware : Bool)
  /-- WATCHDOG_EXPIRY (R92): The watchdog expires and causes a hard reset with a qualifier. -/
  | watchdogExpiry (same : Bool)
  /-- XIN_LOSS (R75): The SUP monitor finds XIN absent in operation; the PWM, fans and transmit are released and the PLLs are held in reset. -/
  | xinLoss
  /-- PLL_A_LOSS (R136): PLL A loses lock; SYS stops and the watchdog later expires. -/
  | pllALoss
  /-- PLL_B_LOSS (R134): PLL B loses lock; the touch, HK and lanes stop, the fans go to full speed and EMCY 0xFF11 is sent. -/
  | pllBLoss
  /-- PLL_C_LOSS (R135): PLL C loses lock; transmit stops and EXC_UNLOCK is set. -/
  | pllCLoss
  /-- PLL_D_LOSS (R136): PLL D loses lock; every PWM output goes to high impedance and rails with phases take a fault. -/
  | pllDLoss
  /-- PLL_RELOCK (R134): A lost PLL regains lock, and the stopped engines restart at the next downbeat. -/
  | pllRelock (pll : Fin 4)
  /-- DOWNBEAT (R117): The frame ends, and the ordered downbeat actions of Table 4.5 are taken. -/
  | downbeat (bursts dumps : Nat) (est : SliceEst)
  /-- PHASE_BOUNDARY (R114): A fixed time after the downbeat, LISTEN, SCAN or PROCESS ends or QUIET begins. -/
  | phaseBoundary (boundary : Phase) (handover : Int)
  /-- APPLY_FRAME_CONFIGURATION (R113): The staged frame configuration is checked, and if it passes it takes effect at the next downbeat. -/
  | applyFrameConfiguration (port : Port)
  /-- SYNC_RECEPTION (R121): An accepted SYNC is timestamped and used to correct the downbeat phase and rate and to update the lock state. -/
  | syncReception (line : Line) (counter : Option Nat) (atHalf : Nat)
  /-- SYNC_MISSING (R122): No accepted SYNC has arrived within the period plus 200 µs; three such periods lead to FREE. -/
  | syncMissing
  /-- OBJECT_READ (R143): A read request for one sub-index is served by the arbiter with the port's rights. -/
  | objectRead (port : Port) (index sub : Nat) (peek : Bool)
  /-- OBJECT_WRITE (R143): A write request to an object that has no row of its own is checked for rights and range and then applied. -/
  | objectWrite (port : Port) (index sub value size : Nat)
  /-- SEGMENT_READ (R169): A segment read of a DOMAIN is served, waiting for a page fill if needed. -/
  | segmentRead (port : Port) (index sub offset length : Nat)
  /-- SEGMENT_WRITE (R169): A segment write to a DOMAIN is served. -/
  | segmentWrite (port : Port) (index sub offset : Nat) (data : List Nat)
  /-- DESCRIPTOR_QUERY (R146): The descriptor of an object is returned with each port's narrowed rights. -/
  | descriptorQuery (port : Port) (index sub : Nat)
  /-- RC_LATCH_READ (R150): A read of an RC latch returns the latched bits and clears them unless PEEK is set. -/
  | rcLatchRead (port : Port) (index sub : Nat) (peek : Bool)
  /-- SEGMENT_FILL_TIMEOUT (R171): A segment access whose fill has not completed within 100 ms is refused with HARDWARE. -/
  | segmentFillTimeout (port : Port) (index sub : Nat) (write : Bool)
  /-- SAVE_PARAMETERS (R159): The save signature to 0x1010 captures the group's RWS values and starts a dual-copy store. -/
  | saveParameters (port : Port) (group signature : Nat)
  /-- RESTORE_DEFAULT_PARAMETERS (R160): The load signature to 0x1011 stores an image without the group's values. -/
  | restoreDefaultParameters (port : Port) (group signature : Nat)
  /-- STORE_COPY_COMPLETE (R164): One copy's erase, program and read-back finish; the next copy follows, or the store completes. -/
  | storeCopyComplete (ok : Bool)
  /-- STORE_REPAIR (R165): After the boot-up message, the copy that is not current is rewritten from the chosen image. -/
  | storeRepair
  /-- CONFIGURATION_EXPORT (R174): The first access of a 0x2003:01 read captures a configuration image. -/
  | configurationExport (port : Port)
  /-- IMPORT_STRICT (R178): Import command 1 validates the staging segment strictly and stores it if valid. -/
  | importStrict (port : Port)
  /-- IMPORT_SKIP_UNKNOWN (R178): Import command 2 validates the staging segment, skipping undefined objects, and stores it if valid. -/
  | importSkipUnknown (port : Port)
  /-- NMT_START_REMOTE_NODE (R209): The NMT start command moves the device to operational. -/
  | nmtStartRemoteNode (line : Line) (node timeNs : Nat)
  /-- NMT_STOP_REMOTE_NODE (R209): The NMT stop command moves the device to stopped and withdraws due TPDOs. -/
  | nmtStopRemoteNode (line : Line) (node timeNs : Nat)
  /-- NMT_ENTER_PRE_OPERATIONAL (R209): The NMT command moves the device to pre-operational. -/
  | nmtEnterPreOperational (line : Line) (node timeNs : Nat)
  /-- NMT_RESET_APPLICATION (R93): The soft reset reloads the configuration objects, restarts programs, closes K and C resources and raises vector 256. -/
  | nmtResetApplication (line : Line) (node timeNs : Nat)
  /-- NMT_RESET_COMMUNICATION (R235): The soft reset reloads the communication objects, resolves the node-ID, ends sessions and sends boot-up. -/
  | nmtResetCommunication (line : Line) (node timeNs : Nat)
  /-- LSS_SWITCH_STATE_GLOBAL (R206): The LSS switch state global service is served. -/
  | lssSwitchStateGlobal (mode : Nat)
  /-- LSS_SWITCH_STATE_SELECTIVE (R206): The LSS switch state selective service is served. -/
  | lssSwitchStateSelective (line : Line) (vendor product revision serial : Nat)
  /-- LSS_CONFIGURE_NODE_ID (R28): A node-ID configured by LSS becomes pending until the next reset communication. -/
  | lssConfigureNodeId (line : Line) (node : Nat)
  /-- LSS_CONFIGURE_BIT_TIMING (R206): A nominal bit timing is selected from the supported table. -/
  | lssConfigureBitTiming (line : Line) (table index : Nat)
  /-- LSS_ACTIVATE_BIT_TIMING (R206): The nominal rate is switched after the given delay. -/
  | lssActivateBitTiming (delayMs : Nat)
  /-- LSS_STORE_CONFIGURATION (R207): The node-ID and nominal rate are stored, and the device answers when the store completes. -/
  | lssStoreConfiguration (line : Line)
  /-- LSS_INQUIRE_IDENTITY (R206): The LSS address from 0x1018 is returned. -/
  | lssInquireIdentity (line : Line) (part : Fin 4)
  /-- LSS_INQUIRE_NODE_ID (R206): The node-ID is returned. -/
  | lssInquireNodeId (line : Line)
  /-- LSS_IDENTIFY_REMOTE_SLAVE (R206): The device answers if its LSS address lies in the given range. -/
  | lssIdentifyRemoteSlave (line : Line) (vendor product revLow revHigh serLow serHigh : Nat)
  /-- LSS_IDENTIFY_NON_CONFIGURED (R206): The device answers if it is unconfigured. -/
  | lssIdentifyNonConfigured (line : Line)
  /-- LSS_FASTSCAN (R206): One LSS fastscan step is served. -/
  | lssFastscan (line : Line) (idNumber bitCheck lssSub lssNext : Nat)
  /-- CAN_FRAME_ACCEPTED (R200): A received frame is checked for duplicates, dispatched, copied by filters and checked for node-ID conflict. -/
  | canFrameAccepted (line : Line) (frame : CanFrame) (timeNs : Nat)
  /-- CAN_ERROR_DETECTED (R236): A bus error updates the error counters and may lead to error passive or bus-off. -/
  | canErrorDetected (line : Line) (transmitting : Bool) (inc : Nat)
  /-- BUS_OFF_RECOVERY_DELAY_EXPIRY (R236): The recovery delay ends and the line enters RECOVERING. -/
  | busOffRecoveryDelayExpiry (line : Line)
  /-- BUS_OFF_RECOVERY_COMPLETE (R236): 128 occurrences of 11 recessive bits are seen; the line is ERROR_ACTIVE and EMCY 0x8140 is sent. -/
  | busOffRecoveryComplete (line : Line)
  /-- LINE_SILENT (R201): A line has accepted no frame for the silence timeout while the other line did, and it becomes SILENT. -/
  | lineSilent (line : Line)
  /-- HEARTBEAT_PRODUCE (R212): The producer time elapses and a heartbeat is sent. -/
  | heartbeatProduce
  /-- HEARTBEAT_CONSUMER_EXPIRY (R213): A consumer time expires; EMCY 0x8130 is sent and the task event is raised. -/
  | heartbeatConsumerExpiry (n : Fin 8)
  /-- TIME_RECEIVED (R221): An accepted TIME frame sets calendar time. -/
  | timeReceived (data : List Nat)
  /-- EMCY_INHIBIT_EXPIRY (R223): The EMCY inhibit time ends and the next queued EMCY may be sent. -/
  | emcyInhibitExpiry
  /-- SDO_INITIATE_DOWNLOAD (R224): An SDO download, expedited or segmented, is initiated. -/
  | sdoInitiateDownload (data : List Nat)
  /-- SDO_DOWNLOAD_SEGMENT (R224): One download segment is received and its toggle bit is checked. -/
  | sdoDownloadSegment (data : List Nat)
  /-- SDO_INITIATE_UPLOAD (R224): An SDO upload is initiated and the value is captured. -/
  | sdoInitiateUpload (data : List Nat)
  /-- SDO_UPLOAD_SEGMENT (R224): One upload segment is served. -/
  | sdoUploadSegment (data : List Nat)
  /-- SDO_BLOCK_DOWNLOAD_INITIATE (R224): A block download is initiated with a block size. -/
  | sdoBlockDownloadInitiate (data : List Nat)
  /-- SDO_BLOCK_DOWNLOAD_SEGMENT (R224): One block download segment is received. -/
  | sdoBlockDownloadSegment (data : List Nat)
  /-- SDO_BLOCK_DOWNLOAD_END (R224): A block download ends and its CRC is checked. -/
  | sdoBlockDownloadEnd (data : List Nat)
  /-- SDO_BLOCK_UPLOAD_INITIATE (R224): A block upload is initiated. -/
  | sdoBlockUploadInitiate (data : List Nat)
  /-- SDO_BLOCK_UPLOAD_ACK (R224): The client acknowledges a sub-block of a block upload. -/
  | sdoBlockUploadAck (data : List Nat)
  /-- SDO_ABORT_RECEIVED (R224): A client abort ends the transfer. -/
  | sdoAbortReceived (data : List Nat)
  /-- USDO_REQUEST (R224): A USDO request of a session is served. -/
  | usdoRequest (client session : Nat) (req : UsdoReq)
  /-- SDO_TIMEOUT (R225): A transfer sees no client frame for 1,000 ms and is aborted with 0x0504_0000. -/
  | sdoTimeout (usdo : Option (Nat × Nat))
  /-- RPDO_RECEIVED (R231): An RPDO is checked and its values are written together, at once or at the next SYNC. -/
  | rpdoReceived (n : Fin 64) (data : List Nat)
  /-- RPDO_EVENT_TIMER_EXPIRY (R232): An RPDO event timer expires; EMCY 0x8250 is sent and the task event is raised. -/
  | rpdoEventTimerExpiry (n : Fin 64)
  /-- TPDO_EVENT_TIMER_EXPIRY (R229): A TPDO event timer expires and makes the TPDO due. -/
  | tpdoEventTimerExpiry (n : Fin 64)
  /-- TPDO_INHIBIT_EXPIRY (R229): A TPDO inhibit time ends, and a held TPDO may be sent. -/
  | tpdoInhibitExpiry (n : Fin 64)
  /-- TPDO_LATEST_START (R230): A windowed TPDO not yet started at its latest start time is withdrawn and counted. -/
  | tpdoLatestStart (n : Fin 64)
  /-- CAN_TRANSMIT_COMPLETE (R230): A frame transmission completes on a line. -/
  | canTransmitComplete (line : Line) (pos : Nat)
  /-- SYNC_GUARD_BEGIN (R220): The SYNC guard begins before the expected SYNC and holds every transmission. -/
  | syncGuardBegin (onA onB : Option Nat)
  /-- DETECT_COMPLETE (R247): DETECT ends; the link trains at the widest qualifying width or enters FAILED. -/
  | detectComplete (signal : Nat)
  /-- EQUALISE_COMPLETE (R245): Both ends report adaptation complete, and the link moves to ALIGN. -/
  | equaliseComplete
  /-- ALIGN_COMPLETE (R245): Codeword lock and deskew are reached, and the link moves to CONFIG. -/
  | alignComplete
  /-- CONFIG_COMPLETE (R245): Capabilities are exchanged; the link enters LINK_UP and raises its events. -/
  | configComplete
  /-- TRAINING_PHASE_TIMEOUT (R245): A training phase exceeds its limit; the link enters FAILED and TRAIN_FAIL is set. -/
  | trainingPhaseTimeout
  /-- FAILED_TIMEOUT (R245): One second after FAILED, the link enters DETECT. -/
  | failedTimeout
  /-- RETRAIN_COMPLETE (R253): A retrain passes ALIGN and CONFIG within 10 ms, and the link returns to LINK_UP. -/
  | retrainComplete (width : Nat)
  /-- RETRAIN_TIMEOUT (R253): A retrain fails; the link enters DETECT as a link-down event. -/
  | retrainTimeout
  /-- RETRAIN_REQUEST (R246): Training request 1 enters RETRAIN from LINK_UP. -/
  | retrainRequest (port : Port)
  /-- FULL_TRAINING_REQUEST (R246): Training request 2 enters DETECT from LINK_UP. -/
  | fullTrainingRequest (port : Port)
  /-- KREF_LOSS (R284): KREF becomes absent; NO_REFCLK is set and the link stays in IDLE. -/
  | krefLoss
  /-- KREF_RETURN (R284): KREF returns; NO_REFCLK clears and training may begin. -/
  | krefReturn
  /-- FLIT_RECEIVED (R251): A flit is checked, accepted or discarded, its ACK, NAK and credits are processed, and its packets are parsed. -/
  | flitReceived (bytes : List Nat) (corrected uncorrectable : Nat)
  /-- ACK_TIMEOUT (R252): The oldest unacknowledged flit has waited 2 µs and a replay starts. -/
  | ackTimeout
  /-- MRD (R265): A host memory read through an inbound window is completed with CPL. -/
  | mrd (tag len addr : Nat)
  /-- MWR (R265): A host memory write through an inbound window is applied or discarded. -/
  | mwr (addr : Nat) (data : List Nat)
  /-- CPL (R262): A completion for a device read frees its tag and delivers its data. -/
  | cpl (tag status : Nat) (data : List Nat)
  /-- ORQ (R260): A host object request is served as port K and answered by OCPL. -/
  | orq (tag orw : Nat) (data : List Nat)
  /-- DBELL (R268): A doorbell passes a ring index or raises a doorbell event source. -/
  | dbell (n value : Nat)
  /-- CFGRD (R261): One word of configuration space is read and returned. -/
  | cfgrd (tag offset : Nat)
  /-- MRD_COMPLETION_TIMEOUT (R264): A device MRD uncompleted after 50 ms frees its tag and fails its fill. -/
  | mrdCompletionTimeout (tag : Nat)
  /-- STREAM_SOURCES_WRITE (R269): A stream source set is accepted only within 60 % of the payload capacity. -/
  | streamSourcesWrite (port : Port) (value : Nat)
  /-- STREAM_PACKET_FORMED (R270): A source's 1,024 samples form a STREAM packet with the next SEQ, buffered or dropping the oldest. -/
  | streamPacketFormed (source : Fin 17) (time : Nat) (dbOffset : Option Nat) (samples : List Sample)
  /-- HOLDOFF_EXPIRY (R272): A vector's holdoff ends and a pending message is sent. -/
  | holdoffExpiry (v : Fin 320)
  /-- RAISE_USER_VECTOR (R274): A write to 0x2623:01 raises a user vector from 288 to 319. -/
  | raiseUserVector (v : Nat)
  /-- HOST_WINDOW_CLOSE_COMPLETE (R267): A host window close completes once its outstanding reads have ended. -/
  | hostWindowCloseComplete (w : Fin 16)
  /-- SCRUB_WORD (R288): The scrubber reads and corrects one SRAM word in its pass. -/
  | scrubWord (found : Option EccErr)
  /-- PAGE_FILL_COMPLETE (R301): The page read ends; FRAME and RESIDENT are set and the waiting requesters proceed. -/
  | pageFillComplete (page : Nat) (data : List Nat)
  /-- PAGE_FILL_FAILED (R304): A fill fails or exceeds 100 ms; the frame is freed and the requesters receive the failed-fill outcome. -/
  | pageFillFailed (page : Nat)
  /-- WRITE_BACK_COMPLETE (R303): All 16 write-back MWRs are acknowledged and the frame may be reused. -/
  | writeBackComplete (frame : Nat)
  /-- PREFETCH_ISSUE (R305): A prefetch of a page ahead of a stream is issued into a free frame. -/
  | prefetchIssue (engine : Fin 12)
  /-- PREFETCH_COMPLETE (R306): A prefetch read ends and the frame is marked PREFETCHED. -/
  | prefetchComplete (page : Nat) (data : List Nat)
  /-- PREFETCH_STREAM_DEATH (R305): A stream with no claim for 2 ms dies and its prefetches are cancelled. -/
  | prefetchStreamDeath (engine : Fin 12)
  /-- TLB_INVALIDATE_PAGE (R297): Every TLB entry for a page is dropped. -/
  | tlbInvalidatePage (port : Port) (page : Nat)
  /-- TLB_INVALIDATE_ALL (R297): Every TLB entry is dropped. -/
  | tlbInvalidateAll (port : Port)
  /-- TLB_EVICT_PAGE (R297): A resident backed page is evicted and then invalidated. -/
  | tlbEvictPage (port : Port) (page : Nat)
  /-- PAGE_TABLE_BASE_WRITE (R290): A write to the page table base is checked and followed by an invalidate-all. -/
  | pageTableBaseWrite (port : Port) (value : Nat)
  /-- RING_OPEN (R311): Ring command 1 takes and zeroes frames and maps the ring. -/
  | ringOpen (port : Port) (n : Fin 256)
  /-- RING_CLOSE (R318): Ring command 2 stops the ring accepting entries and waits for writes in flight. -/
  | ringClose (port : Port) (n : Fin 256)
  /-- RING_CLOSE_COMPLETE (R318): The in-flight writes end; the ring is unmapped and its frames are returned. -/
  | ringCloseComplete (n : Fin 256)
  /-- RING_ACKNOWLEDGE_LINKLOSS (R317): Ring command 3 clears LINKLOSS. -/
  | ringAcknowledgeLinkloss (port : Port) (n : Fin 256)
  /-- RING_POP (R319): A POP window read returns the entry at C and advances C. -/
  | ringPop (port : Port) (n : Fin 256) (peek : Bool)
  /-- RING_PUSH (R319): A PUSH window write appends an entry, waiting or refusing on a full STALL ring. -/
  | ringPush (port : Port) (n : Fin 256) (data : List Nat)
  /-- RING_INDEX_WRITE (R315): A write of the producer or consumer index is checked and applied or discarded. -/
  | ringIndexWrite (port : Port) (n : Fin 256) (consumer : Bool) (value : Nat)
  /-- TASK_DISABLE (R324): Clearing ENABLE removes a pending activation without its action. -/
  | taskDisable (port : Port) (t : Fin 128) (control : Nat)
  /-- TASK_ACTION_TPDO_DUE (R323): Action kind 1 makes an event-driven TPDO due. -/
  | taskActionTpdoDue (t : Fin 128)
  /-- TASK_ACTION_POST_RECORD (R323): Action kind 2 posts the activation record to a ring. -/
  | taskActionPostRecord (t : Fin 128)
  /-- TASK_ACTION_LOG (R323): Action kind 3 writes a log record with a code. -/
  | taskActionLog (t : Fin 128)
  /-- TASK_ACTION_POWER_REQUEST (R323): Action kind 4 requests a power-state transition. -/
  | taskActionPowerRequest (t : Fin 128)
  /-- EVENT_DISPATCH (R358): An activation for a kind-5 handler is taken by the core at an instruction boundary with EE set. -/
  | eventDispatch (task : Fin 128) (latencyNs : Nat)
  /-- ACTIVATION_BUDGET_EXPIRY (R362): A user activation over its budget raises BUDGET and is abandoned. -/
  | activationBudgetExpiry (p : Fin 4)
  /-- FRAME_SHARE_SPENT (R362): A program's frame share is used up, and its activations wait for the next downbeat. -/
  | frameShareSpent (p : Fin 4)
  /-- USER_PROGRAM_LOAD (R360): The header is checked, code and data are copied into the arena and MPU regions are set. -/
  | userProgramLoad (port : Port) (p : Fin 4) (unreadable : List Nat)
  /-- USER_PROGRAM_START (R364): INIT is run as an activation and the program becomes RUNNING. -/
  | userProgramStart (port : Port) (p : Fin 4)
  /-- USER_PROGRAM_STOP (R364): The program goes to STOPPED, at once or at its handler's end. -/
  | userProgramStop (port : Port) (p : Fin 4)
  /-- USER_PROGRAM_UNLOAD (R364): The program is stopped, its rings closed and its frames returned. -/
  | userProgramUnload (port : Port) (p : Fin 4)
  /-- ADD (R386): d = a + b. -/
  | tAdd (d a b : Fin 32) (f : Bool)
  /-- ADDC (R386): d = a + b + C. -/
  | tAddc (d a b : Fin 32) (f : Bool)
  /-- SUB (R386): d = a - b. -/
  | tSub (d a b : Fin 32) (f : Bool)
  /-- SUBC (R386): Subtraction with borrow. -/
  | tSubc (d a b : Fin 32) (f : Bool)
  /-- ADDS (R386): Saturating signed addition. -/
  | tAdds (d a b : Fin 32) (f : Bool)
  /-- SUBS (R386): Saturating signed subtraction. -/
  | tSubs (d a b : Fin 32) (f : Bool)
  /-- AND (R386): Bitwise AND. -/
  | tAnd (d a b : Fin 32) (f : Bool)
  /-- OR (R386): Bitwise OR. -/
  | tOr (d a b : Fin 32) (f : Bool)
  /-- XOR (R386): Bitwise XOR. -/
  | tXor (d a b : Fin 32) (f : Bool)
  /-- ANDN (R386): a AND NOT b. -/
  | tAndn (d a b : Fin 32) (f : Bool)
  /-- SHL (R386): Shift left. -/
  | tShl (d a b : Fin 32) (f : Bool)
  /-- SHR (R386): Logical shift right. -/
  | tShr (d a b : Fin 32) (f : Bool)
  /-- SAR (R386): Arithmetic shift right. -/
  | tSar (d a b : Fin 32) (f : Bool)
  /-- ROR (R386): Rotate right. -/
  | tRor (d a b : Fin 32) (f : Bool)
  /-- MIN (R386): Signed minimum. -/
  | tMin (d a b : Fin 32) (f : Bool)
  /-- MAX (R386): Signed maximum. -/
  | tMax (d a b : Fin 32) (f : Bool)
  /-- MINU (R386): Unsigned minimum. -/
  | tMinu (d a b : Fin 32) (f : Bool)
  /-- MAXU (R386): Unsigned maximum. -/
  | tMaxu (d a b : Fin 32) (f : Bool)
  /-- CLZ (R386): Count leading zeros. -/
  | tClz (d a : Fin 32) (f : Bool)
  /-- SEXTB (R386): Sign-extend a byte. -/
  | tSextb (d a : Fin 32) (f : Bool)
  /-- SEXTH (R386): Sign-extend a half-word. -/
  | tSexth (d a : Fin 32) (f : Bool)
  /-- ZEXTB (R386): Zero-extend a byte. -/
  | tZextb (d a : Fin 32) (f : Bool)
  /-- ZEXTH (R386): Zero-extend a half-word. -/
  | tZexth (d a : Fin 32) (f : Bool)
  /-- MUL (R345): Signed multiply into the accumulator, with latency 3. -/
  | tMul (a b : Fin 32)
  /-- MULU (R345): Unsigned multiply into the accumulator. -/
  | tMulu (a b : Fin 32)
  /-- MAC (R345): Signed multiply-accumulate with saturation. -/
  | tMac (a b : Fin 32)
  /-- MACU (R345): Unsigned multiply-accumulate with saturation. -/
  | tMacu (a b : Fin 32)
  /-- MSU (R345): Signed multiply-subtract with saturation. -/
  | tMsu (a b : Fin 32)
  /-- MSUU (R345): Unsigned multiply-subtract with saturation. -/
  | tMsuu (a b : Fin 32)
  /-- ADDI (R386): Add a sign-extended immediate. -/
  | tAddi (d a : Fin 32) (imm : BitVec 16)
  /-- ANDI (R386): AND with a zero-extended immediate. -/
  | tAndi (d a : Fin 32) (imm : BitVec 16)
  /-- ORI (R386): OR with a zero-extended immediate. -/
  | tOri (d a : Fin 32) (imm : BitVec 16)
  /-- XORI (R386): XOR with a zero-extended immediate. -/
  | tXori (d a : Fin 32) (imm : BitVec 16)
  /-- SHI (R386): Shift or rotate by an immediate amount. -/
  | tShi (d a : Fin 32) (kind : Fin 4) (n : Fin 32)
  /-- LUI (R386): Load the upper immediate. -/
  | tLui (d : Fin 32) (imm : BitVec 16)
  /-- CMPI (R386): Compare with an immediate and set the flags. -/
  | tCmpi (a : Fin 32) (imm : BitVec 16)
  /-- TSTI (R386): Test with an immediate and set the flags. -/
  | tTsti (a : Fin 32) (imm : BitVec 16)
  /-- LDW (R386): Load a word. -/
  | tLdw (d a : Fin 32) (off : BitVec 16)
  /-- LDH (R386): Load a sign-extended half-word. -/
  | tLdh (d a : Fin 32) (off : BitVec 16)
  /-- LDHU (R386): Load a zero-extended half-word. -/
  | tLdhu (d a : Fin 32) (off : BitVec 16)
  /-- LDB (R386): Load a sign-extended byte. -/
  | tLdb (d a : Fin 32) (off : BitVec 16)
  /-- LDBU (R386): Load a zero-extended byte. -/
  | tLdbu (d a : Fin 32) (off : BitVec 16)
  /-- LDD (R386): Load a 64-bit word into a register pair. -/
  | tLdd (d a : Fin 32) (off : BitVec 16)
  /-- STW (R386): Store a word. -/
  | tStw (d a : Fin 32) (off : BitVec 16)
  /-- STH (R386): Store a half-word. -/
  | tSth (d a : Fin 32) (off : BitVec 16)
  /-- STB (R386): Store a byte. -/
  | tStb (d a : Fin 32) (off : BitVec 16)
  /-- STD (R386): Store a register pair as one 64-bit word. -/
  | tStd (d a : Fin 32) (off : BitVec 16)
  /-- B (R381): Conditional branch on COND. -/
  | tB (cond : Fin 16) (disp : BitVec 22)
  /-- CALL (R388): Move the window, spilling if needed, write L7 and jump. -/
  | tCall (disp : BitVec 26)
  /-- NOP (R386): No operation. -/
  | tNop
  /-- MFS (R341): Read a special register. -/
  | tMfs (d : Fin 32) (n : BitVec 8)
  /-- MTS (R385): Write a special register, effective for the next instruction. -/
  | tMts (n : BitVec 8) (a : Fin 32)
  /-- JR (R386): Jump to a register. -/
  | tJr (a : Fin 32)
  /-- CALLR (R388): Call through a register. -/
  | tCallr (a : Fin 32)
  /-- RET (R388): Return to L7 and move the window back, filling if needed. -/
  | tRet
  /-- RETE (R389): Return from an exception, or end a user handler activation. -/
  | tRete
  /-- TRAP (R357): Raise the TRAP exception with detail n. -/
  | tTrap (n : BitVec 8)
  /-- WAIT (R390): Stop issue until an activation or a halt request. -/
  | tWait
  /-- LOCK (R352): The next n instructions commit together while holding their banks. -/
  | tLock (n : BitVec 8)
  /-- RPT (R391): Set up block repeat with RC, RSA and REA. -/
  | tRpt (a : Fin 32) (n : BitVec 8)
  /-- ACCX (R386): Extract the accumulator shifted and saturated. -/
  | tAccx (d : Fin 32) (n : BitVec 8)
  /-- MPUR (R394): Read an MPU bank word. -/
  | tMpur (d : Fin 32) (w : BitVec 8)
  /-- MPUW (R394): Write an MPU bank word. -/
  | tMpuw (w : BitVec 8) (a : Fin 32)
  /-- MOVS (R392): Copy CNT bytes in resumable units. -/
  | tMovs
  /-- FILLS (R392): Fill CNT bytes in resumable units. -/
  | tFills (a : Fin 32)
  /-- CMPS (R392): Compare CNT bytes in resumable units. -/
  | tCmps
  /-- OSR (R393): Segment read to memory in resumable units. -/
  | tOsr (a : Fin 32)
  /-- OSW (R393): Segment write from memory in resumable units. -/
  | tOsw (a : Fin 32)
  /-- ORD (R350): Object read from the dictionary as port T. -/
  | tOrd (d a : Fin 32)
  /-- OWR (R350): Object write to the dictionary as port T. -/
  | tOwr (d a : Fin 32)
  /-- HALT_REQUEST (R365): The core halts at the next instruction boundary, after a LOCK commit if one is running. -/
  | haltRequest
  /-- FORCED_HALT (R366): The core halts, breaking a LOCK sequence if one is running. -/
  | forcedHalt
  /-- RESUME (R366): The core resumes and LOCKBRK and DEFERRED clear. -/
  | resume
  /-- STEP (R367): The core executes one instruction, a whole LOCK or one string unit, then halts. -/
  | step
  /-- DEBUG_REGISTER_ACCESS (R369): A debug read or write of a core register while halted. -/
  | debugRegisterAccess (reg : Nat) (write : Option Word)
  /-- DEBUG_MEMORY_ACCESS (R369): A debug memory access while halted, advancing the address. -/
  | debugMemoryAccess (write : Option Word)
  /-- DEBUG_OBJECT_REQUEST (R715): A DAP object request is started with port D rights. -/
  | debugObjectRequest
  /-- DEBUG_SEGMENT_DATA (R715): A 32-bit access to a segment transfer through the DAP. -/
  | debugSegmentData (write : Option Word)
  /-- BURST_END (R418): A touch lane dumps its integrated burst as one burst result. -/
  | burstEnd (position : Fin 16) (channel : Nat) (codes : List Nat) (nco : List (Int × Int)) (ovr : Bool)
  /-- TOUCH_BANK_POWER_UP (R439): The touch bank powers up and all slices calibrate for 2.0 ms. -/
  | touchBankPowerUp
  /-- TOUCH_CALIBRATION_COMPLETE (R439): The 2.0 ms calibration ends; slices that have not converged are failed. -/
  | touchCalibrationComplete (est : List (SliceEst × SliceEst))
  /-- TELEMETRY_OUTPUT (R420): A telemetry lane produces an output for one HK input and its consumers update. -/
  | telemetryOutput (hk : Fin 64) (codes : List Nat)
  /-- TELEMETRY_BANK_SWITCH (R425): Switch on a telemetry lane warms a second datapath and cross-fades to it. -/
  | telemetryBankSwitch (port : Port) (lane : Fin 8)
  /-- TOUCH_BANK_SWITCH (R426): Switch on a touch lane pends until the next downbeat. -/
  | touchBankSwitch (port : Port) (lane : Fin 16)
  /-- LOAD_LIBRARY_RECORD (R424): The lane starts reading a 160-byte coefficient record into the bank not in use. -/
  | loadLibraryRecord (port : Port) (lane : Fin 24)
  /-- LIBRARY_LOAD_COMPLETE (R424): The whole record has been read, checked and installed or refused. -/
  | libraryLoadComplete (lane : Fin 24)
  /-- APPLY_PROFILES (R445): The staged scan profiles and calibration are checked and applied at the next downbeat. -/
  | applyProfiles (port : Port)
  /-- PROCESS_FRAME (R456): The contact engine decodes, classifies, tracks, decides buttons, gestures, pre-arm, hop and baselines in order. -/
  | processFrame (hvMinMv hvMaxMv : Nat)
  /-- CONTACT_STUCK_TIMEOUT (R459): A contact still for the stuck time is ended with STUCK and re-baselined. -/
  | contactStuckTimeout (palm : Bool) (id : Nat)
  /-- BUTTON_STUCK_TIMEOUT (R464): A button pressed for the stuck time is released and marked stuck. -/
  | buttonStuckTimeout (b : Fin 8)
  /-- BUTTON_DRIFT (R465): A baseline beyond the drift limit for 10 s sets drifted and sends EMCY 0xFF64. -/
  | buttonDrift (b : Fin 8)
  /-- CAPTURE_REFERENCE_BASELINES (R465): Command 1 copies the present button baselines as references at the next step 8. -/
  | captureReferenceBaselines (port : Port)
  /-- GLOVE_MODE_END (R454): Glove mode ends after 10 s without a low-peak contact. -/
  | gloveModeEnd
  /-- PREARM_HOLD_EXPIRY (R473): The hold timer expires in PREARMED and the pre-arm is cancelled. -/
  | prearmHoldExpiry
  /-- PREARM_HOLDOFF_EXPIRY (R473): The holdoff ends and the state returns to IDLE. -/
  | prearmHoldoffExpiry
  /-- TARGET_VOLTAGE_WRITE (R495): An accepted write of a rail target is a command that slews or retargets. -/
  | targetVoltageWrite (port : Port) (rail : Fin 16) (mv : Nat)
  /-- SETPOINT_STEP (R498): Every 100 ns the setpoint moves one slew step toward the target. -/
  | setpointStep
  /-- LOOP_SAMPLE (R502): Every 40 ns the error converter sample updates the loop duty. -/
  | loopSample (rail : Fin 16) (senseUv : Nat) (imonUv : List Nat)
  /-- PWM_PERIOD_START (R503): A phase begins its period, takes its duty and places its edges. -/
  | pwmPeriodStart (phase : Fin 16) (now imonUv : Nat) (closing : Int)
  /-- DELAY_LINE_UNLOCK (R505): A delay-line bank loses lock and its phases place edges in 2 ns steps. -/
  | delayLineUnlock (bank : Fin 4)
  /-- DELAY_LINE_RELOCK (R505): A delay-line bank regains lock and its flag clears. -/
  | delayLineRelock (bank : Fin 4)
  /-- SYNCIN_PULSE (R509): A reference pulse corrects the next master period by at most 3 %. -/
  | syncinPulse (now : Nat)
  /-- SYNCIN_LOSS (R510): SYNCIN is found lost and the rails using it run free. -/
  | syncinLoss
  /-- TMON_SHUTDOWN (R515): A TMON comparator asserts and takes the rails of its group off by fault. -/
  | tmonShutdown (group : Fin 4) (uv : Nat)
  /-- DIE_SHUTDOWN (R516): A die comparator asserts; every PWM output and the charger stop. -/
  | dieShutdown (sensor : Fin 4) (tenths : Int)
  /-- SHUTDOWN_RELEASE (R514): A shutdown comparator releases below its warning level. -/
  | shutdownRelease (comparator : Fin 8) (value : Int)
  /-- POWER_STATE_REQUEST (R532): A request names a destination, which is refused or becomes the destination in force. -/
  | powerStateRequest (port : Port) (code : Nat)
  /-- APPLY_ORDERS (R536): The staged orders and slews are checked and applied. -/
  | applyOrders (port : Port)
  /-- ENABLE (R537): Step ENABLE enables a rail and commands its state target. -/
  | seqEnable (sourcedUv sunkUv : Nat)
  /-- RETARGET (R537): Step RETARGET commands a rail to its state target. -/
  | seqRetarget
  /-- DISABLE (R537): Step DISABLE ramps a rail to 0 V and disables it. -/
  | seqDisable
  /-- WAIT_RAIL (R537): Step WAIT_RAIL starts waiting for a rail's command and UV release. -/
  | seqWaitRail
  /-- EXEN_HIGH (R537): Step EXEN_HIGH drives an EXEN line high. -/
  | seqExenHigh
  /-- EXEN_LOW (R537): Step EXEN_LOW drives an EXEN line low. -/
  | seqExenLow
  /-- WAIT_PG (R537): Step WAIT_PG starts waiting for an EXPG input to go high. -/
  | seqWaitPg (high : Bool)
  /-- WAIT_PG_LOW (R537): Step WAIT_PG_LOW starts waiting for an EXPG input to go low. -/
  | seqWaitPgLow (high : Bool)
  /-- DELAY (R537): Step DELAY starts a timed wait. -/
  | seqDelay
  /-- LINK_ON (R537): Step LINK_ON marks the host domain up for link training. -/
  | seqLinkOn
  /-- LINK_OFF (R537): Step LINK_OFF clears the host-domain mark and idles the lanes. -/
  | seqLinkOff
  /-- END (R541): Step END ends an order; in the emergency order the remaining rails are disabled in parallel. -/
  | seqEnd
  /-- STEP_WAIT_SATISFIED (R538): A waiting step's condition is met or its DELAY elapses, and the next step follows. -/
  | stepWaitSatisfied
  /-- STEP_WAIT_TIMEOUT (R538): A wait reaches its timeout: an up step fails and the order reverses, or a down step is logged. -/
  | stepWaitTimeout
  /-- TRANSITION_RETRY (R538): After the retry interval, a failed transition is attempted again. -/
  | transitionRetry
  /-- OFF_ENTRY (R534): After the down order to KEEPALIVE, the self-bucks stop and OFF is entered. -/
  | offEntry
  /-- ON_PACK_DWELL_EXPIRY (R535): VSYS on the pack beyond the dwell requests the on-pack ceiling. -/
  | onPackDwellExpiry
  /-- SUPERVISOR_FAULT (R546): An OV, UV or OC comparator asserts for 1 µs and the rail is taken off by fault. -/
  | supervisorFault (rail : Fin 16) (cause : Fin 3) (value : Nat)
  /-- RETRY_DELAY_EXPIRY (R547): The retry delay ends and the rail is re-enabled once all comparators have released. -/
  | retryDelayExpiry (rail : Fin 16)
  /-- RETRY_COUNT_RESET (R547): One second without a fault returns the retries used to 0. -/
  | retryCountReset (rail : Fin 16)
  /-- CLEAR_LATCH (R548): Command 1 clears the latch and may re-enable the rail. -/
  | clearLatch (port : Port) (rail : Fin 16) (sourcedUv sunkUv : Nat)
  /-- SETTLE_TIME_EXPIRY (R545): The settle time ends the transition; a UV still asserted is a fault. -/
  | settleTimeExpiry (rail : Fin 16)
  /-- EXPG_LOSS (R553): A passed EXPG reading low for 10 µs sends EMCY 0xFF84. -/
  | expgLoss (n : Fin 8)
  /-- CHARGE_CYCLE_START (R572): All conditions hold and the charger begins a cycle in its starting phase. -/
  | chargeCycleStart
  /-- TERMINATION_TIMEOUT (R571): Current at or below 5 % of ICC for 30 s ends CV. -/
  | terminationTimeout (written : Bool) (back : PackRead)
  /-- TOPOFF_EXPIRY (R574): The top-off time elapses and the charger enters DONE. -/
  | topoffExpiry (written : Bool) (back : PackRead)
  /-- RECHARGE_TIMEOUT (R571): Ten seconds below the recharge threshold start a new cycle. -/
  | rechargeTimeout
  /-- CHARGE_TIMER_EXPIRY (R574): The pre-charge or total timer expires and the charger enters FAULT. -/
  | chargeTimerExpiry (total : Bool)
  /-- CLEAR_CHARGER_FAULT (R603): Command 1 clears FAULT unless its cause persists. -/
  | clearChargerFault (port : Port)
  /-- CHARGER_CONFIGURATION_WRITE (R576): A change of chemistry, cells, CV or ICC ends the cycle and checks the identity again. -/
  | chargerConfigurationWrite (port : Port) (sub value : Nat)
  /-- CHARGE_OVERVOLTAGE (R605): A pack voltage above the stop level for 1 µs stops the stage with CHG_OV. -/
  | chargeOvervoltage (packMv : Nat)
  /-- CHARGE_STAGE_FAULT (R605): Missing switching or excess current enters FAULT with STAGE_FAULT. -/
  | chargeStageFault (switching : Bool) (packMa : Nat)
  /-- DISCHARGE_CUTOFF (R577): The pack at its cut-off for 100 µs makes VIN count as lost without a trusted pack. -/
  | dischargeCutoff (packMv : Nat)
  /-- PACK_REMOVAL (R578): VBAT below its falling threshold for 1 ms ends trust and opens BATG. -/
  | packRemoval (answers : Bool)
  /-- PACK_INSERTION (R578): VBAT above its rising threshold for 50 ms is an insertion and triggers the exchange. -/
  | packInsertion
  /-- SHORT_PRESS (R581): A press of 50 ms to 2 s raises the short-press event or starts the device from OFF. -/
  | shortPress
  /-- SERVICE_REQUEST (R581): A press of 2 to 12 s raises the service request and may request SERVICE. -/
  | serviceRequest
  /-- LONG_PRESS (R582): A press held 12 s is a hard reset, with BATG held off for 1 s. -/
  | longPress (same : Bool)
  /-- LONG_PRESS_HOLD_EXPIRY (R582): After 1.0 s the BATFET hold ends and start-up resumes if VIN is present. -/
  | longPressHoldExpiry
  /-- PRESS_IGNORED (R581): A press below 50 ms is counted only. -/
  | pressIgnored
  /-- SHIP_EXIT_PRESS (R584): A press of 500 ms in SHIP leaves SHIP for OFF. -/
  | shipExitPress
  /-- SHIP_ENTRY (R583): After the down order and the write-back, the device enters SHIP. -/
  | shipEntry (written : Bool) (back : PackRead)
  /-- SHIP_EXIT_VIN (R584): VIN rising in SHIP begins start-up. -/
  | shipExitVin
  /-- AUTHENTICATION_EXCHANGE (R588): An attempt reads IDENT and writes a fresh CHALLENGE to the pack. -/
  | authenticationExchange (ident : PackRead) (written : Bool)
  /-- AUTHENTICATION_RESPONSE (R588): RESPONSE is read after 20 ms and the attempt passes, retries or makes the pack untrusted. -/
  | authenticationResponse (response life : PackRead) (written : Bool) (back : PackRead)
  /-- RUN_EXCHANGE (R590): Pack command 1 runs the exchange while VSYS is on VIN. -/
  | runExchange (port : Port)
  /-- EXCHANGE_PERIODIC (R590): 24 h after the last pass the exchange runs again. -/
  | exchangePeriodic
  /-- WRITE_BACK_LIFE_RECORD (R594): Pack command 2 writes the account back with its tag and reads it back. -/
  | writeBackLifeRecord (port : Port) (written : Bool) (back : PackRead)
  /-- LIFE_WRITE_BACK_HOURLY (R594): Every hour of device time the account is written back. -/
  | lifeWriteBackHourly (written : Bool) (back : PackRead)
  /-- PACK_POLL (R591): Each second the SBS commands are polled. -/
  | packPoll (values : List (Option Nat)) (serial : Option Nat)
  /-- PACK_AGE_UPDATE (R595): Once a day the pack age is updated and end of life is judged. -/
  | packAgeUpdate
  /-- DIODE_BIAS_TOGGLE (R610): Every 1.000 ms the diode bias alternates, and a reading is formed from each pair. -/
  | diodeBiasToggle
  /-- TCRIT_MEASUREMENT (R615): Every 100 µs DIET is measured and SHDN_N is asserted or released. -/
  | tcritMeasurement (diet : Int)
  /-- TCRIT_DISAGREE (R640): DIET and the die sensors differ by 10 °C for 1 s. -/
  | tcritDisagree (differs : Bool)
  /-- TACH_EDGE (R621): A rising tachometer edge updates the speed and the revolution count. -/
  | tachEdge (fan : Fin 4) (now : Nat)
  /-- TACH_TIMEOUT (R621): With no edge for 1 s, the speed reads 0. -/
  | tachTimeout (fan : Fin 4)
  /-- FAN_LOOP_TICK (R626): Every 20 ms the target in force, the curve and the duty are evaluated and a stall is judged. -/
  | fanLoopTick
  /-- SPINUP_END (R625): Spin-up ends at half speed or at the spin-up time, and the loop starts. -/
  | spinupEnd (fan : Fin 4)
  /-- STALL_ALARM_CLEAR (R628): Ten seconds at 300 rpm or more clear STALL_ALARM. -/
  | stallAlarmClear (fan : Fin 4)
  /-- SPEED_ALARM (R629): Ten seconds at a duty limit off target set SPEED_ALARM. -/
  | speedAlarm (fan : Fin 4) (kind : Fin 3)
  /-- APPLY_CURVE (R623): Fan command 1 applies the staged curve at the next tick. -/
  | applyCurve (port : Port) (fan : Fin 4)
  /-- CLEAR_ALARMS (R628): Fan command 2 clears the alarms and restarts the loop. -/
  | clearAlarms (port : Port) (fan : Fin 4)
  /-- LOG_RECORD_COMMIT (R648): The writer programs the oldest record, then COMMIT, and reads it back. -/
  | logRecordCommit (good : Bool)
  /-- LOG_CLEAR (R655): Log command 1 sets the floor and queues LOG_CLEARED. -/
  | logClear (port : Port)
  /-- LOG_CURSOR_WRITE (R654): A write of the read cursor moves it, or moves it to the oldest record. -/
  | logCursorWrite (port : Port) (value : Nat)
  /-- LOG_WINDOW_READ (R654): A read of the log window returns whole entries and advances the port's cursor. -/
  | logWindowRead (port : Port) (length : Nat) (peek : Bool)
  /-- INTEGRATOR_RECORD (R646): A write to 0x4802:01 queues one INTEGRATOR record. -/
  | integratorRecord (port : Port) (data : List Nat)
  /-- SNAPSHOT_TIMER (R651): At verbosity 2 or 3, a SNAPSHOT record is queued each period. -/
  | snapshotTimer
  /-- PROGRAM_DATA_WRITE (R675): Data appended to the session buffer commits each whole block after its check. -/
  | programDataWrite (port : Port) (sub : Nat) (offset : Option Nat) (data : List Nat) (flashOk : Bool)
  /-- PROGRAM_CONTROL_STOP (R675): Stop ends the session with stage PARTIAL. -/
  | programControlStop (port : Port) (sub : Nat)
  /-- PROGRAM_CONTROL_START (R681): Start restarts into the activated image, or starts a user program. -/
  | programControlStart (port : Port) (sub : Nat)
  /-- PROGRAM_CONTROL_CLEAR (R675): Clear erases the inactive bank or the slot and opens a session. -/
  | programControlClear (port : Port) (sub : Nat)
  /-- CLEAR_ERASE_COMPLETE (R677): The erase for Clear completes and the session is ready at offset 0. -/
  | clearEraseComplete (flashOk : Bool)
  /-- PROGRAM_CONTROL_VERIFY (R678): Verify starts reading the image back and checking it. -/
  | programControlVerify (port : Port) (sub : Nat)
  /-- VERIFY_COMPLETE (R678): Verification ends as VERIFIED or FAILED. -/
  | verifyComplete (unreadable : List Nat)
  /-- PROGRAM_CONTROL_ACTIVATE (R680): Activate writes a TRIAL boot record for the inactive bank. -/
  | programControlActivate (port : Port) (sub : Nat) (flashOk : Bool)
  /-- UPDATE_CONFIRM (R683): Confirm programs CONFIRM in the record in force. -/
  | updateConfirm (port : Port)
  /-- UPDATE_REJECT (R684): Reject writes a REVERTED record for the other bank and restarts. -/
  | updateReject (port : Port) (other : BankFound)
  /-- HEALTH_WINDOW_END (R683): The health window ends, confirming automatically if the criteria held. -/
  | healthWindowEnd
  /-- RECOVERY_LOADER_START (R685): With BOOTSEL 1 or no image, the recovery loader runs a minimal CAN port. -/
  | recoveryLoaderStart
  /-- INSERVICE_CYCLE_START (R703): A new in-service LBIST cycle begins after the cycle period. -/
  | inserviceCycleStart
  /-- INSERVICE_SEGMENT (R701): At an eligible slice's idle point in QUIET, one 128-pattern segment runs or the slot is skipped. -/
  | inserviceSegment (usLeft : Nat)
  /-- SEGMENT_COMPLETE (R706): A segment ends; after the last segment the signature is judged and retested on mismatch. -/
  | segmentComplete (good : Bool)
  /-- IDCODE (R710): The JTAG IDCODE instruction selects the identification register. -/
  | jtagIdcode
  /-- SAMPLE_PRELOAD (R710): The JTAG SAMPLE/PRELOAD instruction selects the boundary register. -/
  | jtagSamplePreload (boundary : Nat)
  /-- EXTEST (R712): EXTEST drives the outputs from the boundary register, with TOLL held low. -/
  | jtagExtest
  /-- CLAMP (R712): CLAMP holds the outputs with bypass selected. -/
  | jtagClamp
  /-- HIGHZ (R712): HIGHZ releases the outputs with bypass selected. -/
  | jtagHighz
  /-- EXTEST_PULSE (R712): The IEEE 1149.6 pulse test instruction. -/
  | jtagExtestPulse
  /-- EXTEST_TRAIN (R712): The IEEE 1149.6 train test instruction. -/
  | jtagExtestTrain
  /-- DAP (R715): The DAP instruction selects the 40-bit debug access register. -/
  | jtagDap (write : Bool) (reg data : Nat)
  /-- LBIST_RESULT (R710): The instruction selects the start-up LBIST result register. -/
  | jtagLbistResult
  /-- AOCB (R710): The instruction reads the always-on control block. -/
  | jtagAocb (offset : Nat)
  /-- BYPASS (R710): The 1-bit bypass register is selected, including for unlisted or refused opcodes. -/
  | jtagBypass (opcode : Nat)
  /-- TRST_N_LOW (R716): TRST_N low resets the TAP and ends the debug session. -/
  | trstNLow
  /-- TEST_LOGIC_RESET (R716): Entry into Test-Logic-Reset starts a debug session. -/
  | testLogicReset
  /-- ELECTRODE_TEST (R714): Line test 1 checks every touch electrode line. -/
  | electrodeTest (port : Port)
  /-- PWM_LINE_TEST (R714): Line test 2 checks the PWM and IMON lines. -/
  | pwmLineTest (port : Port)
  /-- TACHOMETER_LINE_TEST (R714): Line test 3 drives the fans and checks for tachometer edges. -/
  | tachometerLineTest (port : Port)
  /-- LINE_TEST_COMPLETE (R714): A line test ends or is abandoned, and its faults are counted and reported. -/
  | lineTestComplete (codes : List (Nat × Nat))
  /-- LIFECYCLE_TO_FIELD (R718): The lifecycle command moves the part irreversibly to FIELD. -/
  | lifecycleToField (port : Port) (value : Nat)
  /-- UNLOCK_NONCE (R720): Unlock command 1 draws a fresh nonce. -/
  | unlockNonce (port : Port)
  /-- RELOCK (R720): Unlock command 2 returns debug access to LOCKED. -/
  | relock (port : Port)
  /-- UNLOCK_RESPONSE (R720): A signed response grants OBSERVE or FULL access, or counts a failure. -/
  | unlockResponse (port : Port) (data : List Nat)
  /-- UNLOCK_LOCKOUT_EXPIRY (R720): The 60 s refusal after three failures ends. -/
  | unlockLockoutExpiry
  /-- PROGRAM_NODE_ID_BASE (R722): The next unused node-ID base field is programmed in OTP. -/
  | programNodeIdBase (port : Port) (value : Nat) (readBack : Bool)
  /-- PROGRAM_PACK_KEY (R721): An OTP pack key slot is programmed. -/
  | programPackKey (port : Port) (slot : Fin 4) (key : Nat) (readBack : Bool)
  /-- PROGRAM_INTEGRATOR_KEY_HASH (R721): The integrator key hash slot is programmed. -/
  | programIntegratorKeyHash (port : Port) (hash : Nat) (readBack : Bool)
  /-- PROGRAM_DEBUG_KEY_HASH (R721): The debug key hash slot is programmed. -/
  | programDebugKeyHash (port : Port) (hash : Nat) (readBack : Bool)
  /-- ILLEGAL (R379): A fetched word whose major opcode or function is unassigned, or whose required-zero field is not zero, raises ILLEGAL and changes nothing. -/
  | tIllegal (word : BitVec 32)
  /-- RESET_N_RELEASE (R107): Start-up held at the self-buck step by a low RESET_N resumes from that step 100 µs after RESET_N is released. -/
  | resetNRelease
  /-- VIN_VALID_FALL (R584): In OFF or SHIP, VIN falling below its falling valid threshold arms the next VIN rise to start the device. -/
  | vinValidFall
  /-- CHARGE_CYCLE_RESUME (R596): Once VIN has been returned for 100 ms, a charge cycle held in SUSPENDED resumes in its held phase, and DONE resumes judging the recharge threshold. -/
  | chargeCycleResume
  /-- SUPERVISOR_COMPARATOR_RELEASE (R547): An OV, UV or OC supervisor comparator releases past its release level, letting a pending retry re-enable the rail or a latch be cleared. -/
  | supervisorComparatorRelease (rail : Fin 16) (cause : Fin 3) (value : Nat)
deriving DecidableEq, Repr

end Sys2Proof
end

