-- ==== Sys2Proof/Decode.lean ====
section
/-!
DEFINITION. The table gives its rows no bits (every row's field list is empty), so no word spells a command.
-/

namespace Sys2Proof

/-- The command that a word spells by the table's bits: the table has none. -/
def decodeTableWord (_nbits _w : Nat) : Option Instr := none

end Sys2Proof
end

