-- ==== Sys2Proof/Machine/StateCore.lean ====
section
/-!
DEFINITION. The state of the Tabor core (chapter 9): the register file and its window, the special registers of Table 9.2, the multiplier's
pending writes, loads on their way, a LOCK sequence in progress, the MPU bank, the debug unit and the four user programs.
-/

namespace Sys2Proof.Machine

/-- The condition flags of FLG (Table 9.2). -/
structure Flg where
  q : Bool
  n : Bool
  z : Bool
  c : Bool
  v : Bool
deriving DecidableEq, Repr

/-- MST by field (Table 9.3). -/
structure Mst where
  prog : Nat
  bev : Bool
  mpuen : Bool
  pum : Bool
  pee : Bool
  exl : Bool
  ee : Bool
  um : Bool
deriving DecidableEq, Repr

/-- WINB by field (Table 9.2). -/
structure Winb where
  owner : Nat
  resident : Nat
  slot : Nat
deriving DecidableEq, Repr

/-- CST by field (Table 9.10); INLOCK is read from the LOCK state. -/
structure Cst where
  lockBrk : Bool
  double : Bool
  halted : Bool
  deferred : Bool
  hcause : Nat
  wphit : Nat
  bphit : Nat
  user : Bool
deriving DecidableEq, Repr

/-- A write the multiplier still owes the accumulator (R345): it replaces it, or adds to it with saturation to a signed or unsigned product. -/
inductive MulWrite where
  | set (v : Int)
  | add (v : Int)
deriving DecidableEq, Repr

/-- The registers a LOCK sequence may change, as a break restores them: the register file, FLG and the block-repeat count. -/
structure LockSnap where
  regs : List (Nat × Word)
  flg : Flg
  rc : Word
deriving DecidableEq, Repr

/-- A LOCK sequence in progress (R352): its address, the instructions still to come, the state before it, the buffered stores by physical byte address,
newest first, the banks held, and the bits that its accesses set in PTEs, by page (R354). -/
structure LockSeq where
  pc : Word
  left : Nat
  snap : LockSnap
  stores : List (Nat × Byte)
  banks : List Nat
  marks : List (Nat × Nat)
deriving DecidableEq, Repr

/-- Why the core waits: a fill (the page, with the exception its failure raises), a spill or fill of the window among them, or the completion of an
object request that does not end at once (R350), with the register pair that takes a read's value. -/
inductive Stall where
  | page (v code detail : Nat)
  | object (d : Option Nat)
deriving DecidableEq, Repr

/-- The special registers and the sequencing state of the core. -/
structure Core where
  /-- 0–7 globals, 8–135 windowed, 136–139 the banked G4–G7 of exception level; an unlisted register reads 0 -/
  regs : List (Nat × Word)
  pc : Word
  flg : Flg
  /-- the 72-bit accumulator as a signed number -/
  acc : Int
  mst : Mst
  rc : Word
  rsa : Word
  rea : Word
  sa : Word
  da : Word
  cnt : Word
  epc : Word
  ecause : Word
  winb : Winb
  wspSys : Word
  wspUser : Word
  cst : Cst
  /-- the exception level was entered without moving the window, because its spill faulted (R399) -/
  flat : Bool
  /-- multiplies in flight: cycles to their write -/
  muls : List (Nat × MulWrite)
  /-- loaded registers (physical number) not yet delivered: cycles to delivery (R382) -/
  loads : List (Nat × Nat)
  lock : Option LockSeq
  /-- the MPU bank: words 0 to 31 -/
  mpu : List Word
deriving DecidableEq, Repr

/-- How the core stands (0x2800:01). -/
inductive CoreRun where
  | boot | running | waiting | halted | stopped
deriving DecidableEq, Repr

/-- The code of 0x2800:01. -/
def CoreRun.code : CoreRun → Nat
  | .boot => 0 | .running => 1 | .waiting => 2 | .halted => 3 | .stopped => 4

/-- A loaded user program (R360): its header, bindings and handler table, and its limits' state (R362). -/
structure Prog where
  nHandlers : Nat
  init : Nat
  /-- (first index, last index, write, read) -/
  bindings : List (Nat × Nat × Bool × Bool)
  handlers : List Nat
  frames : List Nat
  /-- the object-space address of its code, the top of its spill stack, and its MPU bank (R360) -/
  base : Nat
  spillTop : Nat
  mpu : List Word
  /-- consecutive abandoned activations -/
  abandonedRun : Nat
  /-- its share of this frame is spent -/
  shareSpent : Bool
  /-- a stop (1) or unload (2) waits for the end of its handler; a start (3) for its INIT to be entered -/
  pendingCmd : Nat
deriving DecidableEq, Repr

/-- The core with its debug unit and programs. -/
structure Tabor where
  core : Core
  run : CoreRun
  /-- the core is held in reset -/
  held : Bool
  /-- what the core waits for (R301, R350) -/
  blocked : Option Stall
  /-- the addresses of the four instruction breakpoints, and which are enabled (Table 19.6) -/
  breakAddr : List Nat
  breakOn : Nat
  /-- base and limit of the two watchpoints, inclusive, and their control (Table 19.6) -/
  watchAddr : List Nat
  watchOn : Nat
  /-- a watchpoint matched by the instruction executing, as a bitmap -/
  watchHit : Nat
  /-- breakpoints met inside a LOCK sequence, as a bitmap (R365) -/
  breakHit : Nat
  /-- a string instruction has been issued and has units left: its next unit is no new issue (R397) -/
  inString : Bool
  /-- a halt request waits for the next instruction boundary (R365) -/
  haltDue : Bool
  /-- the next instruction is stepped (R367) -/
  stepOne : Bool
  /-- the budget of the activation expired, and BUDGET waits for the commit of a LOCK sequence, or for firmware's own exception handler to return (R355, R362) -/
  budgetDue : Bool
  /-- an imprecise ECC exception waits to be taken (R357) -/
  eccDue : Bool
  /-- the user activation was abandoned while firmware served an exception of it: it ends when firmware returns to it (R373) -/
  endDue : Bool
  /-- the page came that a spill or fill waited for, and the move completes before the core halts (R365) -/
  moveDue : Bool
  /-- the user program whose handler runs, and whether it is its INIT -/
  handler : Option (Nat × Bool)
  programs : List (Option Prog)
  /-- firmware services the watchdog again since resume (R368) -/
  tollHeld : Bool
  /-- arena in force -/
  arenaFirst : Nat
  arenaCount : Nat
deriving DecidableEq, Repr

/-- Flags all clear. -/
def Flg.reset : Flg := ⟨false, false, false, false, false⟩

/-- The core at the end of LBIST (R377): PC 0xFFFF_0000, system mode, BEV 1, one resident frame, every register 0. -/
def Core.reset : Core where
  regs := []
  pc := 0xFFFF0000
  flg := Flg.reset
  acc := 0
  mst := ⟨0, true, false, false, false, false, false, false⟩
  rc := 0
  rsa := 0
  rea := 0
  sa := 0
  da := 0
  cnt := 0
  epc := 0
  ecause := 0
  winb := ⟨0, 1, 0⟩
  wspSys := 0
  wspUser := 0
  cst := ⟨false, false, false, false, 0, 0, 0, false⟩
  flat := false
  muls := []
  loads := []
  lock := none
  mpu := List.replicate 32 0

/-- The core held in reset, no breakpoint armed, no program loaded. -/
def Tabor.reset : Tabor where
  core := Core.reset
  run := .boot
  held := true
  blocked := none
  breakAddr := [0, 0, 0, 0]
  breakOn := 0
  watchAddr := [0, 0, 0, 0]
  watchOn := 0
  watchHit := 0
  breakHit := 0
  inString := false
  haltDue := false
  stepOne := false
  budgetDue := false
  eccDue := false
  endDue := false
  moveDue := false
  handler := none
  programs := [none, none, none, none]
  tollHeld := false
  arenaFirst := 384
  arenaCount := 128

end Sys2Proof.Machine
end

