-- ==== Sys2Proof/Machine/StateLog.lean ====
section
/-!
DEFINITION. The state of the event log (chapter 17): the write queue, the log region of the external flash slot by slot, the floor,
the cursors and the counts of records lost.
-/

namespace Sys2Proof.Machine

/-- A log record as it is queued (Table 17.1 less LSN, SESSION, CRC and COMMIT, which the writer adds). -/
structure LogRecord where
  code : Nat
  calValid : Bool
  devTime : Nat
  calTime : Nat
  frame : Nat
  /-- the 20 DATA bytes, little-endian as one number -/
  data : Nat
deriving DecidableEq, Repr

/-- A slot of the log region that is not EMPTY (R653). -/
inductive LogSlot where
  | good (lsn session : Nat) (r : LogRecord)
  | torn
  /-- COMMIT exact, CRC failing: the raw 64 bytes -/
  | damaged (raw : List Nat)
deriving DecidableEq, Repr

/-- Origin byte of RECORDS_LOST (Table 17.2). -/
structure LossCount where
  count : Nat
  firstTime : Nat
deriving DecidableEq, Repr

/-- The event log. -/
structure Log where
  /-- the write queue, at most 32 (R647) -/
  queue : List LogRecord
  /-- records dropped at the queue since the last RECORDS_LOST record -/
  dropped : LossCount
  /-- records dropped while the log was not open or not writable (origin 2) -/
  notOpen : LossCount
  /-- records dropped while FULL (origin 3) -/
  whileFull : LossCount
  /-- the slots that are not EMPTY, by slot number below 524,288 -/
  slots : List (Nat × LogSlot)
  /-- the slot the writer programs next -/
  writeSlot : Nat
  nextLsn : Nat
  floor : Nat
  /-- the log has been opened at this start-up (R669) -/
  opened : Bool
  /-- consecutive read-back failures (R666) -/
  failures : Nat
  /-- read cursors of ports C, K, T, D; 0xFFFF_FFFF stands for the oldest retained record (R654) -/
  cursors : List Nat
  /-- the device has taken a TIME since VAON valid (R657) -/
  timeSeen : Bool
  /-- half nanoseconds of the calendar below 1 ms -/
  calHalf : Nat
  /-- half nanoseconds toward the next second of 0x4810:04 -/
  sinceHalf : Nat
deriving DecidableEq, Repr

/-- An erased log and an empty queue. -/
def Log.reset : Log where
  queue := []
  dropped := ⟨0, 0⟩
  notOpen := ⟨0, 0⟩
  whileFull := ⟨0, 0⟩
  slots := []
  writeSlot := 0
  nextLsn := 0
  floor := 0
  opened := false
  failures := 0
  cursors := List.replicate 4 0xFFFFFFFF
  timeSeen := false
  calHalf := 0
  sinceHalf := 0

end Sys2Proof.Machine
end

