-- ==== Sys2Proof/Machine/StatePack.lean ====
section
/-!
DEFINITION. The state of the backup pack (chapter 15) that is no object's value: the charge cycle held, the authentication exchange, the OTP key
slots, the life account's fractions and the once-per-start-up reports.
-/

namespace Sys2Proof.Machine

/-- A 32-byte OTP key slot: empty, a key, or a slot whose read-back failed (R721: it counts as programmed and never matches). -/
inductive KeySlot where
  | empty
  | key (k : Nat)
  | bad
deriving DecidableEq, Repr

/-- The slot counts as programmed. -/
def KeySlot.programmed : KeySlot → Bool
  | .empty => false
  | _ => true

/-- Where an exchange stands (R588). -/
inductive Exchange where
  | idle
  /-- attempt 1 to 3 waits for RESPONSE, with its challenge -/
  | waiting (attempt challenge : Nat)
  /-- an attempt failed; attempt 2 or 3 is to begin -/
  | between (attempt : Nat)
deriving DecidableEq, Repr

/-- The backup pack and the charger. -/
structure Pack where
  /-- the phase a suspended cycle returns to (R571) -/
  heldPhase : Nat
  /-- VSYS has been on VIN for 100 ms (R572) -/
  vinSettled : Bool
  /-- the pre-charge, total and top-off timers in quarter nanoseconds, so that the half rate is exact -/
  preQuarter : Nat
  totalQuarter : Nat
  topoffQuarter : Nat
  /-- CHG_HG and CHG_LG are held low by a die shutdown, an order or a fault -/
  stageOff : Bool
  exchange : Exchange
  /-- an exchange waits until it may run (R590) -/
  exchangeDue : Bool
  /-- a write-back waits (R594, R602) -/
  writeDue : Bool
  /-- the last block written on the pack port: a CHALLENGE, or LIFE_WRITE's record and tag (Table 15.10) -/
  sent : List Nat
  /-- the challenge of the last exchange that passed -/
  lastChallenge : Nat
  keys : List KeySlot
  /-- VBAT was removed and an insertion is awaited (R578) -/
  removed : Bool
  untrustedSent : Bool
  mismatchSent : Bool
  eolSent : Bool
  /-- consecutive polls with a command failing; consecutive write-back failures -/
  pollFails : Nat
  writeFails : Nat
  /-- the device keeps an account for a serial -/
  accounted : Bool
  /-- fractions of charge in and out (mA·ns below 1 mC) and of energy out (µW·ns below 1 mJ) -/
  chgInFrac : Nat
  chgOutFrac : Nat
  energyFrac : Nat
  /-- half nanoseconds toward a minute above 45 °C, and toward a second on the pack -/
  hotFrac : Nat
  onPackFrac : Nat
  /-- seconds for which the polled voltage has differed by more than 5 % (R591), and its record is written -/
  diffSec : Nat
  diffLogged : Bool
  /-- BATFET hold of a long press runs (R582) -/
  pressHold : Bool
deriving DecidableEq, Repr

/-- No pack known, nothing running. -/
def Pack.reset : Pack where
  heldPhase := 0
  vinSettled := false
  preQuarter := 0
  totalQuarter := 0
  topoffQuarter := 0
  stageOff := true
  exchange := .idle
  exchangeDue := false
  writeDue := false
  sent := []
  lastChallenge := 0
  keys := List.replicate 4 .empty
  removed := false
  untrustedSent := false
  mismatchSent := false
  eolSent := false
  pollFails := 0
  writeFails := 0
  accounted := false
  chgInFrac := 0
  chgOutFrac := 0
  energyFrac := 0
  hotFrac := 0
  onPackFrac := 0
  diffSec := 0
  diffLogged := false
  pressHold := false

end Sys2Proof.Machine
end

