-- ==== Sys2Proof/Machine/StateReg.lean ====
section
/-!
DEFINITION. The state of the regulator (chapter 13) and of the supervisors (chapter 14): sixteen phases, sixteen rails with their
setpoints, loops and rings, the timing references, and per rail the comparators, latches and retries. The objects' values hold targets,
readings, counters and settings; the status words are read from this state.
-/

namespace Sys2Proof.Machine

/-- One phase (R491, R502 to R506, R527). -/
structure PhaseSt where
  /-- its output switches; otherwise PWMp is at high impedance -/
  driven : Bool
  /-- a current-limit event in this period, in this frame, in the last frame (R504) -/
  limitedNow : Bool
  limitedFrame : Bool
  limitedLast : Bool
  imonHigh : Bool
  imonLow : Bool
  /-- a reading out of range was seen in this frame (R527) -/
  imonBad : Bool
  /-- the falling edge of the running period, in delay-line steps after the rising one; 0 when the output stays low -/
  onSteps : Nat
  /-- the delay of its period start after the pulse that starts it, in steps (R506) -/
  delay : Nat
  /-- edges are placed in whole 2 ns steps (R505) -/
  coarse : Bool
deriving DecidableEq, Repr

/-- One rail (R494 to R510). -/
structure RailSt where
  enabled : Bool
  disabling : Bool
  /-- V_set in 0.01 mV -/
  vset : Nat
  /-- the target in force in mV; 0 while a disable ramps -/
  target : Nat
  /-- a command has not completed (R500) -/
  slewing : Bool
  /-- the running ramp is at the emergency slew (R541) -/
  emergency : Bool
  /-- V_set has started: phases may switch from their next period (R498) -/
  started : Bool
  /-- at 0 V the phases leave at the end of their period (R498) -/
  closing : Bool
  offByFault : Bool
  senseOpen : Bool
  errSatFrame : Bool
  errSatLast : Bool
  seqOwned : Bool
  /-- the loop (R502), exact -/
  i : Int
  df : Rat
  ePrev : Int
  d : Rat
  /-- I_LL in 10 mA (R496) -/
  iLL : Int
  /-- consecutive ring closings more than 2 ns off, and the ring timed from the master (R507) -/
  ringRun : Nat
  ringDirect : Bool
  /-- PWM clock of the last master period start, its length, and the correction to apply to the next period (R509, R525) -/
  masterAt : Nat
  period : Nat
  adjust : Int
  adjusted : Bool
  /-- the error of a pulse that came within a period already adjusted (R525) -/
  carry : Option Int
  /-- runs free of its reference (R509, R510) -/
  free : Bool
deriving DecidableEq, Repr

/-- In-frame tracking of one warning (R550): every output so far lay beyond the level, and every output inside by the hysteresis. -/
structure WarnTrack where
  beyond : Bool
  inside : Bool
  outputs : Nat
deriving DecidableEq, Repr

/-- One rail's supervisor (R539a to R552). -/
structure Sup where
  ov : Bool
  uv : Bool
  oc : Bool
  latched : Bool
  retryPending : Bool
  /-- the retry delay has ended; the rail waits for its comparators to release -/
  delayOver : Bool
  retries : Nat
  /-- from the acceptance of a command to the end of the settle time (R545) -/
  transition : Bool
  /-- the target in force when the fault came, or as a RETARGET changed it (R549) -/
  faultTarget : Nat
  /-- it was enabled and not being disabled when the fault took it off, and no DISABLE step has named it since (R548) -/
  wasEnabled : Bool
  /-- bits 2 OC, 1 UV, 0 OV: warnings present -/
  warnings : Nat
  trackOv : WarnTrack
  trackUv : WarnTrack
  trackOc : WarnTrack
  /-- held latched by a failed LBIST slice (Table 19.3) -/
  lbist : Bool
deriving DecidableEq, Repr

/-- The regulator and its supervisors. -/
structure Reg where
  phases : List PhaseSt
  rails : List RailSt
  sups : List Sup
  /-- shutdown comparators of TMONA to TMOND and of DIE0 to DIE3 asserted (R514, R517) -/
  tmonShut : List Bool
  dieShut : List Bool
  /-- WARNING of each group and each die sensor (R513) -/
  tmonWarn : List Bool
  dieWarn : List Bool
  /-- SYNCIN: the PWM clock of the last pulse, bad and good intervals in a row (R510) -/
  syncinAt : Option Nat
  syncinBad : Nat
  syncinGood : Nat
  /-- SYNCOUT pulses given -/
  syncoutAt : Option Nat
deriving DecidableEq, Repr

/-- A phase at high impedance. -/
def PhaseSt.reset : PhaseSt := ⟨false, false, false, false, false, false, false, 0, 0, false⟩

/-- A rail off at 0 V. -/
def RailSt.reset : RailSt where
  enabled := false
  disabling := false
  vset := 0
  target := 0
  slewing := false
  emergency := false
  started := false
  closing := false
  offByFault := false
  senseOpen := false
  errSatFrame := false
  errSatLast := false
  seqOwned := false
  i := 0
  df := 0
  ePrev := 0
  d := 0
  iLL := 0
  ringRun := 0
  ringDirect := false
  masterAt := 0
  period := 1000
  adjust := 0
  adjusted := false
  carry := none
  free := true

/-- Nothing tracked yet in this frame. -/
def WarnTrack.reset : WarnTrack := ⟨true, true, 0⟩

/-- A supervisor in its safe state: OV released, UV asserted (R544; Table 14.5, 0x0010). -/
def Sup.reset : Sup where
  ov := false
  uv := true
  oc := false
  latched := false
  retryPending := false
  delayOver := false
  retries := 0
  transition := false
  faultTarget := 0
  wasEnabled := false
  warnings := 0
  trackOv := WarnTrack.reset
  trackUv := WarnTrack.reset
  trackOc := WarnTrack.reset
  lbist := false

/-- The regulator after the power-down order of a hard reset: all off, every shutdown comparator asserted (R517). -/
def Reg.reset : Reg where
  phases := List.replicate 16 PhaseSt.reset
  rails := List.replicate 16 RailSt.reset
  sups := List.replicate 16 Sup.reset
  tmonShut := List.replicate 4 true
  dieShut := List.replicate 4 true
  tmonWarn := List.replicate 4 false
  dieWarn := List.replicate 4 false
  syncinAt := none
  syncinBad := 0
  syncinGood := 0
  syncoutAt := none

end Sys2Proof.Machine
end

