-- ==== Sys2Proof/Machine/StateSeq.lean ====
section
/-!
DEFINITION. The state of the sequencer (chapter 14): the destination in force, the order that runs, its step and its wait.
The state in force is the power block's; orders in force are in the table of values in force.
-/

namespace Sys2Proof.Machine

/-- The tables of Table 14.3: up, down, emergency. -/
inductive OrderTable where
  | up | down | emergency
deriving DecidableEq, Repr

/-- The code of a table in 0x4200:04. -/
def OrderTable.code : OrderTable → Nat
  | .up => 0 | .down => 1 | .emergency => 2

/-- What a waiting step waits for (Table 14.4). -/
inductive SeqWait where
  | rail (n : Nat)
  | pgHigh (n : Nat)
  | pgLow (n : Nat)
  | delay
deriving DecidableEq, Repr

/-- An order in progress. -/
structure Run where
  table : OrderTable
  /-- the step now due or waiting; beyond the table when the order has ended -/
  step : Nat
  /-- the level being left at its start, and the level it travels to -/
  fromLevel : Nat
  toLevel : Nat
  waiting : Option SeqWait
  /-- it returns a failed up transition to the state in force: the destination is not lost (R538) -/
  undo : Bool
deriving DecidableEq, Repr

/-- The sequencer. -/
structure Seq where
  run : Option Run
  /-- the destination in force: a power state -/
  dest : Option PState
  /-- the highest level whose up steps have been issued and not undone -/
  issued : Nat
  /-- the highest level each of whose up steps is done and not undone: the level of the state in force -/
  level : Nat
  /-- a failed transition waits for the retry interval (R538) -/
  retryDue : Bool
  /-- OFF or SHIP follows the down order to KEEPALIVE (R534, R583) -/
  after : Option PState
  /-- after END of the emergency order, or of a hard reset's order, the remaining rails ramp in parallel (R541, R543) -/
  parallel : Bool
  /-- EXPG inputs whose WAIT_PG has passed, with the level of that step (R553) -/
  passed : List (Nat × Nat)
  /-- the on-pack dwell has made its request since VSYS went to the pack (R535) -/
  dwellUsed : Bool
deriving DecidableEq, Repr

/-- Nothing runs, nothing requested. -/
def Seq.reset : Seq := ⟨none, none, 0, 0, false, none, false, [], false⟩

end Sys2Proof.Machine
end

