-- ==== Sys2Proof/Machine/StateTest.lean ====
section
/-!
DEFINITION. The state of self-test and debug access (chapter 19): in-service logic BIST, the TAP, the debug access port's registers, lifecycle
and unlock, the OTP slots, and the line tests.
-/

namespace Sys2Proof.Machine

/-- The JTAG instructions of Table 19.5. -/
inductive Tap where
  | idcode | samplePreload | extest | clamp | highz | extestPulse | extestTrain | dap | lbistResult | aocb | bypass
deriving DecidableEq, Repr

/-- The instructions that drive the balls (R712). -/
def Tap.drives : Tap → Bool
  | .extest | .clamp | .highz | .extestPulse | .extestTrain => true
  | _ => false

/-- The debug access in force (R719). -/
inductive Access where
  | locked | observe | full
deriving DecidableEq, Repr

/-- The code of an access. -/
def Access.code : Access → Nat
  | .locked => 0 | .observe => 1 | .full => 2

/-- An in-service test of one slice: the segment due, and whether it is the second test after a mismatch (R706). -/
structure SliceTest where
  slice : Nat
  segment : Nat
  retest : Bool
deriving DecidableEq, Repr

/-- A running line test (R714): its command. -/
inductive LineTest where
  | electrode | pwm | tacho
deriving DecidableEq, Repr

/-- The DAP's registers (Table 19.6) that hold state. -/
structure Dap where
  denied : Bool
  /-- an object request runs, and the last one is done -/
  busy : Bool
  done : Bool
  orw : Nat
  data : Nat
  status : Nat
  regSel : Nat
  memAddr : Nat
  /-- the bytes of a segment transfer, and where the window stands in them -/
  seg : List Nat
  segPos : Nat
deriving DecidableEq, Repr

/-- Self-test and debug access. -/
structure Test where
  /-- the enable mask of the cycle that runs, and the slices it still has to test -/
  cycleRuns : Bool
  todo : List Nat
  current : Option SliceTest
  /-- a segment of the current slice runs now -/
  segRuns : Bool
  /-- a slice of this cycle failed or was skipped; frames of the cycle -/
  cycleFailed : Bool
  cycleTested : Bool
  cycleFrames : Nat
  /-- a segment was granted in this frame -/
  granted : Bool
  /-- the slices whose condition of Table 19.2 held when this frame's QUIET began, bit n for slice n -/
  eligible : Nat
  /-- the cycle period has elapsed while the cycle still runs: the next begins at its end (R703) -/
  cycleDue : Bool
  /-- slices that failed: handled by Table 19.3 from now, and from the next downbeat -/
  degraded : Nat
  degradeNext : Nat
  tap : Tap
  session : Bool
  dap : Dap
  /-- 0x3 INTEGRATION or 0x7 FIELD -/
  field : Bool
  access : Access
  nonce : Option Nat
  failures : Nat
  lockout : Bool
  /-- OTP key hashes 0 to 2, and the node-ID base fields programmed, oldest first -/
  hashes : List KeySlot
  baseFields : List Nat
  /-- the OTP serial number, 64 bits -/
  serial : Nat
  lineTest : Option LineTest
  /-- balls as the boundary register drives them while a test instruction is loaded -/
  boundary : Nat
deriving DecidableEq, Repr

/-- As shipped (R717): INTEGRATION, full access; Ifetor's key hash programmed, everything else empty. -/
def Test.reset : Test where
  cycleRuns := false
  todo := []
  current := none
  segRuns := false
  cycleFailed := false
  cycleTested := false
  cycleFrames := 0
  granted := false
  eligible := 0
  cycleDue := false
  degraded := 0
  degradeNext := 0
  tap := .idcode
  session := false
  dap := ⟨false, false, false, 1 <<< 63, 0, 0, 0, 0, [], 0⟩
  field := false
  access := .full
  nonce := none
  failures := 0
  lockout := false
  hashes := [.key 0, .empty, .empty]
  baseFields := []
  serial := 0
  lineTest := none
  boundary := 0

end Sys2Proof.Machine
end

