-- ==== Sys2Proof/Machine/StateThermal.lean ====
section
/-!
DEFINITION. The state of thermal sensing and the air movers (chapter 16) that is no object's value.
-/

namespace Sys2Proof.Machine

/-- One fan channel (R619 to R632). -/
structure Fan where
  /-- the loop's integral in 1/65,536 of 0.1 % -/
  i : Int
  /-- the spin-up runs -/
  spinup : Bool
  /-- stalls without 10 s of running between them (R628) -/
  stallRun : Nat
  /-- times of the last edges in SUP clocks, newest first, at most P + 1 -/
  edges : List Nat
  /-- edges toward the next revolution -/
  revEdges : Nat
  /-- the curve temperature has been formed (R643) -/
  curveInit : Bool
  /-- the checked set of an accepted curve, its sources and its eight points, waits for the next tick (R623) -/
  curveSet : Option (List Nat)
  /-- a clear of alarms restarts the loop at its next tick -/
  restart : Bool
  /-- the target in force of the last tick -/
  lastTarget : Nat
deriving DecidableEq, Repr

/-- Thermal sensing. -/
structure Thermal where
  /-- last output of the running half-period of each diode sensor, and the last of the one before, in HK counts -/
  diodeNow : List (Option Int)
  diodeHigh : List (Option Int)
  /-- the bias is 100 µA now -/
  biasHigh : Bool
  /-- consecutive TCRIT measurements at or above the threshold (R615) -/
  overRun : Nat
  /-- a measurement has been taken since the comparator (re)started; the running assertion is counted -/
  measured : Bool
  counted : Bool
  /-- SHDN_N is driven low -/
  shdnLow : Bool
  fans : List Fan
  /-- PLL B loss imposes 100.0 % (R637) -/
  forcedB : Bool
  /-- a failed LBIST slice keeps charger and fans off (Table 19.3) -/
  lbistOff : Bool
  /-- the channels have started (R643) -/
  running : Bool
deriving DecidableEq, Repr

/-- A channel at rest. -/
def Fan.reset : Fan := ⟨0, false, 0, [], 0, false, none, false, 0⟩

/-- Before VAON: nothing measured; SHDN_N undriven (R35: released while VAON is absent). -/
def Thermal.reset : Thermal where
  diodeNow := List.replicate 8 none
  diodeHigh := List.replicate 8 none
  biasHigh := true
  overRun := 0
  measured := false
  counted := false
  shdnLow := false
  fans := List.replicate 4 Fan.reset
  forcedB := false
  lbistOff := false
  running := false

end Sys2Proof.Machine
end

