-- ==== Sys2Proof/Machine/StateTouch.lean ====
section
/-!
DEFINITION. The state of the contact engine (chapter 12): the image of the frame, baselines, tracks, candidates, buttons, gestures,
noise and pre-arm. Settings, counters, flags, the report objects and the pre-arm state are objects' values.
Signals and baselines are in 1/256 of a burst result's count (24 bits and 8 of fraction, the 4 bytes of R447; log entry 30).
-/

namespace Sys2Proof.Machine

/-- A burst result (Table 11.4). -/
structure BurstRes where
  channel : Nat
  i : Int
  q : Int
  flags : Nat
deriving DecidableEq, Repr

/-- One baseline (R451): its value in 1/256 count and its run of negative frames. -/
structure Base where
  b : Nat
  neg : Nat
deriving DecidableEq, Repr

/-- The age of one profile's and hop's baselines (R452): the device time of their last update, and whether they are stale. -/
structure HopAge where
  updated : Nat
  stale : Bool
deriving DecidableEq, Repr

/-- A contact as PROCESS measures it in one frame (R457). Positions are in 1/64 node. -/
structure Contact where
  row : Nat
  rx : Nat
  x : Nat
  y : Nat
  peak : Nat
  area : Nat
  major : Nat
  minor : Nat
  edge : Bool
deriving DecidableEq, Repr

/-- A track (R458): a live contact with its ID. -/
structure Track where
  id : Nat
  at_ : Contact
  /-- the frame of its DOWN record, from which AGE counts -/
  downFrame : Nat
  /-- device time and position of its DOWN record -/
  downTime : Nat
  downX : Nat
  downY : Nat
  /-- a swipe of it was recognised (R466) -/
  swiped : Bool
deriving DecidableEq, Repr

/-- A candidate that is not yet a contact: its first position and its frames there (R458). -/
structure Cand where
  firstX : Nat
  firstY : Nat
  frames : Nat
deriving DecidableEq, Repr

/-- One door button (R462 to R465). -/
structure Button where
  pressRun : Nat
  releaseRun : Nat
  /-- its channel takes b = s in the next processed frame (R464) -/
  rebase : Bool
deriving DecidableEq, Repr

/-- A completed tap: device time and position of its DOWN record (R466). -/
structure TouchTap where
  time : Nat
  x : Nat
  y : Nat
deriving DecidableEq, Repr

/-- An impulse in progress: its start and where its blob's peak last was. -/
structure Impulse where
  start : Nat
  row : Nat
  rx : Nat
deriving DecidableEq, Repr

/-- The contact engine. -/
structure Touch where
  /-- the checked set of an accepted apply of profiles, that waits for the next downbeat: profile 0, profile 1, calibration (R445) -/
  applySet : Option (List Nat × List Nat × List Nat)
  /-- this frame's burst results, in the order in which they came -/
  image : List BurstRes
  /-- the results of the noise-listening scan of this frame (R448) -/
  listen : List BurstRes
  /-- the image buffer could not be accessed in this frame (R447) -/
  imageFault : Bool
  /-- baselines by profile, hop and node or channel -/
  bases : List (Nat × Base)
  /-- the ages by profile × 8 + hop -/
  ages : List (Nat × HopAge)
  /-- frames of the start of R488 left -/
  settleLeft : Nat
  /-- a first processed frame seeds the baselines (R488) -/
  seedDue : Bool
  tracks : List Track
  cands : List Cand
  /-- tracks ended outside a frame: their UP records with LOST ride with the next report -/
  ending : List Track
  /-- palms of the last frame, by their peak node -/
  palms : List (Nat × Nat)
  /-- tracks, and the peak nodes of palms, that the stuck time has ended (R459), for the next processed frame -/
  stuckTracks : List Nat
  stuckPalms : List (Nat × Nat)
  /-- the footprints of R451 in the last processed frame, expanded by one node -/
  footprint : List (Nat × Nat)
  nextId : Nat
  seq : Nat
  overruns : Nat
  /-- the report of this frame: its header and its contact records -/
  report : Option (List (List Nat))
  buttons : List Button
  /-- a capture of reference baselines waits for step 8 (R465) -/
  capture : Bool
  /-- n(h) of this frame per hop entry in 1/256, and the filtered noise in force, exact -/
  noise : List Nat
  filtered : List Rat
  hopCond : Bool
  framesSinceHop : Nat
  nextHop : Nat
  /-- consecutive frames below the noise limit while NOISE is set (R487) -/
  quietRun : Nat
  gloveMode : Bool
  gloveRun : Nat
  /-- HVOUT: a change has not settled; consecutive low frames outside a change; the pump restarts at the next downbeat (R485) -/
  hvChanging : Bool
  hvLowRun : Nat
  pumpRestart : Bool
  taps : List TouchTap
  blobs : List Impulse
  impulses : List Nat
  /-- frames in a row at or below the pre-arm distance (R470) -/
  approachRun : Nat
  /-- the entries acted on by the pre-arm: rail, enabled (MODE 1) or raised -/
  acted : List (Nat × Bool)
deriving DecidableEq, Repr

/-- The contact engine at a hard reset: every button released, nothing tracked, pre-arm idle (R95, R462). -/
def Touch.reset : Touch where
  applySet := none
  image := []
  listen := []
  imageFault := false
  bases := []
  ages := []
  settleLeft := 0
  seedDue := false
  tracks := []
  cands := []
  ending := []
  palms := []
  stuckTracks := []
  stuckPalms := []
  footprint := []
  nextId := 0
  seq := 0
  overruns := 0
  report := none
  buttons := List.replicate 8 ⟨0, 0, false⟩
  capture := false
  noise := List.replicate 8 0
  filtered := List.replicate 8 0
  hopCond := false
  framesSinceHop := 0
  nextHop := 0
  quietRun := 0
  gloveMode := false
  gloveRun := 0
  hvChanging := false
  hvLowRun := 0
  pumpRestart := false
  taps := []
  blobs := []
  impulses := []
  approachRun := 0
  acted := []

end Sys2Proof.Machine
end

