-- ==== Sys2Proof/Machine/State.lean ====
section
/-!
DEFINITION. The whole state of the device, the reasons a step stops, and the state before power is applied. Plain data: no
field holds a function.
-/

namespace Sys2Proof.Machine

/-- What a port last received from the arbiter: the status code of Table 5.4 and the data, least significant byte first. -/
structure Reply where
  status : Nat
  data : List Nat
deriving DecidableEq, Repr

/-- The state of the device. -/
structure State where
  /-- the commands that wait, first in first out -/
  pending : List Instr
  /-- the objects' values by key; an unlisted object reads its default (chapter 21) -/
  od : List (Nat × Nat)
  /-- values in force of objects whose change waits for an event (R156, R198) -/
  live : List (Nat × Nat)
  /-- how many free values have been drawn (the model's own; log entry 3) -/
  draws : Nat
  /-- the last reply at ports C, K, T and D -/
  replies : List Reply
  /-- the JTAG data register as it shifts out (R710, R715) -/
  tdo : Nat
  power : Power
  clocks : Clocks
  aocb : Aocb
  beat : Beat
  store : Store
  log : Log
  can : Can
  link : Link
  mem : Mem
  sched : Sched
  tabor : Tabor
  sense : Sense
  touch : Touch
  reg : Reg
  seq : Seq
  pack : Pack
  thermal : Thermal
  update : Update
  test : Test
deriving DecidableEq, Repr

/-- Why a step stops with a fault. The device has none: what goes wrong in it is the spec's own effect on the state. -/
inductive Fault where
deriving DecidableEq, Repr

/-- Why a step is refused. -/
inductive Refusal where
  /-- raised by the dispatch for a command that has no meaning yet; safe: nothing is claimed of it -/
  | notModelled (mnemonic : String)
deriving DecidableEq, Repr

/-- The outcome of a command. -/
abbrev Result := Host.Outcome State Fault Refusal

/-- The device before power is applied: VAON absent, every object at its default, every queue empty. A program of commands brings
it up (VAON_VALID, VIN_VALID_RISE, SELF_BUCK_CHECK and so on; log entry 1). -/
def State.reset : State where
  pending := []
  od := []
  live := []
  draws := 0
  replies := List.replicate 4 ⟨0, []⟩
  tdo := 0
  power := Power.reset
  clocks := Clocks.reset
  aocb := Aocb.reset
  beat := Beat.reset
  store := Store.reset
  log := Log.reset
  can := Can.reset
  link := Link.reset
  mem := Mem.reset
  sched := Sched.reset
  tabor := Tabor.reset
  sense := Sense.reset
  touch := Touch.reset
  reg := Reg.reset
  seq := Seq.reset
  pack := Pack.reset
  thermal := Thermal.reset
  update := Update.reset
  test := Test.reset

end Sys2Proof.Machine
end

