-- ==== Sys2Proof/Machine/Ops.lean ====
section
/-!
DEFINITION. The operations every chapter shares: reading and writing an object's value, the free values, the SRAM, the log queue, interrupt
vectors, events and task activation, rings as their producers reach them, and EMCY.
-/

namespace Sys2Proof.Machine

/-! ### Objects -/

/-- The coefficients 0 to 7 at 16,384 and the rest 0, 3 bytes each (R422). -/
def defaultCoefficients : Nat := fromLE ((List.replicate 8 [0x00, 0x40, 0x00]).flatten)

/-- The parameter word of a touch lane's bank (Table 11.5). -/
def touchLaneDefault : Nat := (15 <<< 56) + (4 <<< 51) + (1 <<< 49) + (1 <<< 48) + (8 <<< 42) + (17 <<< 37) + (12 <<< 32)

/-- The parameter word of a telemetry lane's bank (Table 11.5). -/
def telemetryLaneDefault : Nat := (63 <<< 56) + (12 <<< 51) + (1 <<< 49) + (1 <<< 48) + (8 <<< 42) + (17 <<< 37) + (4 <<< 32)

/-- The compensation word of a rail (Table 13.5). -/
def compensationDefault : Nat := (64 <<< 48) + (2 <<< 32) + (256 <<< 16) + (2 <<< 12) + 16

/-- The defaults that differ from sub-index to sub-index or from index to index within one row of the object index. -/
def specialDefault (i s : Nat) : Option Nat :=
  if i = 0x2000 && s = 2 then some definedPairs
  else if 0x1400 ≤ i && i < 0x1404 && s = 1 then some (0x80000200 + 0x100 * (i - 0x1400))
  else if 0x1800 ≤ i && i < 0x1804 && s = 1 then some (0x80000180 + 0x100 * (i - 0x1800))
  else if 0x2400 ≤ i && i ≤ 0x24FF && s = 6 then some (0x0E000000 + (i - 0x2400) * 0x20000)
  else if 0x3100 ≤ i && i ≤ 0x310F && (s = 1 || s = 2) then some touchLaneDefault
  else if 0x3110 ≤ i && i ≤ 0x3117 && (s = 1 || s = 2) then some telemetryLaneDefault
  else if 0x3100 ≤ i && i ≤ 0x3117 && (s = 3 || s = 4) then some defaultCoefficients
  else if 0x3100 ≤ i && i ≤ 0x310F && s = 10 then some 0
  else if i = 0x3203 && 1 ≤ s && s ≤ 8 then
    some (nth [0x8003D090, 0x80046CD0, 0x80053020, 0x80061A80, 460000, 530000, 620000, 720000] (s - 1) 0)
  else if i = 0x3233 && 1 ≤ s && s ≤ 8 then
    some (nth [(5 <<< 24) + 4000, (10 <<< 24) + 2000, (20 <<< 24) + 900, (30 <<< 24) + 500, (40 <<< 24) + 300,
      (60 <<< 24) + 150, (80 <<< 24) + 90, (100 <<< 24) + 60] (s - 1) 0)
  else if 0x4000 ≤ i && i ≤ 0x400F && s = 4 then some ((i - 0x4000) / 4)
  else if 0x4010 ≤ i && i ≤ 0x401F && s = 10 then some compensationDefault
  else if 0x4420 ≤ i && i ≤ 0x4423 && 11 ≤ s && s ≤ 18 then
    some (nth [400 <<< 16, (500 <<< 16) + 3000, (600 <<< 16) + 5000, (700 <<< 16) + 7000, (800 <<< 16) + 9000,
      (900 <<< 16) + 11000, (1000 <<< 16) + 12000, (1100 <<< 16) + 12000] (s - 11) 0)
  else none

/-- The default of an object (chapter 21): what an unlisted key of the value table reads as. -/
def odDefault (i s : Nat) : Nat :=
  match specialDefault i s with
  | some v => v
  | none =>
    match descOf i s with
    | some d => d.dflt
    | none => 0

/-- The default of the object with a key. -/
def keyDefault (k : Nat) : Nat := odDefault (k / 256) (k % 256)

/-- The stored value of an object. -/
def State.get (s : State) (i sub : Nat) : Nat := sparseGet s.od (key i sub) (keyDefault (key i sub))

/-- The state with an object's stored value replaced. -/
def State.set (s : State) (i sub v : Nat) : State :=
  { s with od := sparseSet s.od (key i sub) v (keyDefault (key i sub)) }

/-- The value in force of an object whose change waits for an event (R156). -/
def State.inForce (s : State) (i sub : Nat) : Nat := sparseGet s.live (key i sub) (keyDefault (key i sub))

/-- The state with the value in force of an object replaced. -/
def State.setInForce (s : State) (i sub v : Nat) : State :=
  { s with live := sparseSet s.live (key i sub) v (keyDefault (key i sub)) }

/-- A list of values comes into force on the sub-indices from one on. -/
def State.putInForce (s : State) (i first : Nat) (l : List Nat) : State :=
  l.zipIdx.foldl (fun t e => t.setInForce i (first + e.2) e.1) s

/-- The values of a range of sub-indices become those in force. -/
def State.takeInForce (s : State) (i first n : Nat) : State :=
  (List.range n).foldl (fun t k => t.setInForce i (first + k) (t.get i (first + k))) s

/-- The size in bytes of an object's value (Table 5.2). -/
def sizeOf (i s : Nat) : Nat :=
  match descOf i s with
  | some d => d.ty.size
  | none => 0

/-- A counter object of 32 bits counts `n`, saturating (R658). -/
def State.countBy (s : State) (i sub n : Nat) : State := s.set i sub (satNat 32 (s.get i sub + n))

/-- A counter object of 32 bits counts one. -/
def State.count (s : State) (i sub : Nat) : State := s.countBy i sub 1

/-- A flag bit of an object. -/
def State.flag (s : State) (i sub n : Nat) : Bool := bit (s.get i sub) n

/-- The state with a flag bit of an object replaced. -/
def State.setFlag (s : State) (i sub n : Nat) (b : Bool) : State := s.set i sub (putBit (s.get i sub) n b)

/-- A signed object's value. -/
def State.getS (s : State) (i sub : Nat) : Int := toSigned (8 * sizeOf i sub) (s.get i sub)

/-- A signed object's value replaced. -/
def State.setS (s : State) (i sub : Nat) (v : Int) : State := s.set i sub (ofSigned (8 * sizeOf i sub) v)

/-- The code of a port: 0 C, 1 K, 2 T, 3 D. -/
def Port.code : Port → Nat
  | .C => 0 | .K => 1 | .T => 2 | .D => 3

/-- The status codes of Table 5.4. -/
inductive Status where
  | ok | noObject | noSubindex | noAccess | readOnly | writeOnly | range | length | notMappable | pdoLength | incompatible
  | live | busy | hardware | notStored | notReady | badRequest
deriving DecidableEq, Repr

/-- The code of a status (Table 5.4). -/
def Status.code : Status → Nat
  | .ok => 0x00 | .noObject => 0x01 | .noSubindex => 0x02 | .noAccess => 0x03 | .readOnly => 0x04 | .writeOnly => 0x05
  | .range => 0x06 | .length => 0x07 | .notMappable => 0x08 | .pdoLength => 0x09 | .incompatible => 0x0A | .live => 0x0B
  | .busy => 0x0C | .hardware => 0x0D | .notStored => 0x0E | .notReady => 0x0F | .badRequest => 0x10

/-- The SDO abort code of a status (Table 5.4); the last two never arise on C. -/
def Status.abort : Status → Nat
  | .ok => 0 | .noObject => 0x06020000 | .noSubindex => 0x06090011 | .noAccess => 0x06010000 | .readOnly => 0x06010002
  | .writeOnly => 0x06010001 | .range => 0x06090030 | .length => 0x06070010 | .notMappable => 0x06040041
  | .pdoLength => 0x06040042 | .incompatible => 0x06040043 | .live => 0x08000022 | .busy => 0x08000021
  | .hardware => 0x06060000 | .notStored => 0x08000020 | .notReady => 0x08000000 | .badRequest => 0x08000000

/-- The reply to a port. -/
def State.reply (s : State) (p : Port) (status : Status) (data : List Nat) : State :=
  { s with replies := s.replies.set p.code ⟨status.code, data⟩ }

/-! ### Free values and times -/

/-- The next free value: the constant applied to the counter, which advances. -/
def State.draw (s : State) : State := { s with draws := s.draws + 1 }

/-- The frame counter (R126). -/
def State.frame (s : State) : Nat := s.get 0x2101 1

/-- Device time in ns at the downbeat that opened the frame (R656; log entry 8). -/
def State.now (s : State) : Nat := s.beat.lastHalf / 2

/-- Firmware runs: no reset is in progress, and PLL A clocks SYS (R136). -/
def State.up (s : State) : Bool :=
  decide (s.power.step = .firmware) && !s.power.hardReset && !s.power.emergWait && s.clocks.pllA

/-- The power state in force is one in which the device's domains run. -/
def State.level (s : State) : Option Nat :=
  match s.aocb.pstate with
  | .keepalive => some 0
  | .listen => some 1
  | .service => some 2
  | .run => some 3
  | _ => none

/-- Touch scans in the power state in force (Table 12.1). -/
def State.touchState (s : State) : Bool :=
  match s.aocb.pstate with
  | .listen | .service | .run => true
  | _ => false

/-- VSYS is drawn from VIN (0x2010:04). -/
def State.onVin (s : State) : Bool := s.get 0x2010 4 == 0

/-- VSYS is on the pack. -/
def State.onPack (s : State) : Bool := s.get 0x2010 4 == 1

/-- The link is up in LINK_UP and RETRAIN (Table 7.2, states 6 and 7; R245). -/
def State.linkUp (s : State) : Bool := s.get 0x2031 1 == 6 || s.get 0x2031 1 == 7

/-! ### The SRAM -/

/-- A byte of the SRAM; an unlisted address reads 0 (log entry 9). -/
def Mem.readByte (m : Mem) (a : Nat) : Byte := sparseGet m.sram a 0

/-- A byte of the SRAM written. -/
def Mem.writeByte (m : Mem) (a : Nat) (b : Byte) : Mem := { m with sram := sparseSet m.sram a b 0 }

/-- `n` bytes from an address, as numbers. -/
def Mem.read (m : Mem) (a n : Nat) : List Nat := (List.range n).map (fun k => (m.readByte (a + k)).toNat)

/-- Bytes written from an address. -/
def Mem.writeBytes (m : Mem) (a : Nat) : List Nat → Mem
  | [] => m
  | b :: bs => (m.writeByte a (BitVec.ofNat 8 b)).writeBytes (a + 1) bs

/-- A write as the bank carries it out: a word wholly written becomes good; a word written in part keeps its condition (R287). -/
def Mem.store (m : Mem) (a : Nat) (bs : List Nat) : Mem :=
  let m' := m.writeBytes a bs
  { m' with ecc := m'.ecc.filter (fun e => !(decide (a ≤ 8 * e.1) && decide (8 * e.1 + 8 ≤ a + bs.length))) }

/-- The worst condition of the words that an access touches. -/
def Mem.eccOf (m : Mem) (a n : Nat) : Option EccErr :=
  let hit := m.ecc.filter (fun e => decide (a / 8 ≤ e.1) && decide (8 * e.1 < a + n))
  if hit.any (fun e => e.2 == .double) then some .double
  else if hit.isEmpty then none else some .single

/-! ### Kyodlink packets out -/

/-- A packet waits for a flit, while the link is up (R259, R278). -/
def State.sendPacket (s : State) (p : Packet) : State :=
  { s with link := { s.link with out := s.link.out ++ [p] } }

/-! ### Vectors (R272 to R276) -/

/-- The routing entry of vector v. -/
def State.routing (s : State) (v : Nat) : Nat := s.get (0x2610 + v / 32) (v % 32 + 1)

/-- The mask of vector v. -/
def State.masked (s : State) (v : Nat) : Bool := s.flag 0x2622 (v / 32 + 1) (v % 32)

/-- The moderation state of a vector. -/
def Link.vec (l : Link) (v : Nat) : Vec := sparseGet l.vecs v ⟨0, false⟩

/-- The moderation state of a vector replaced. -/
def Link.setVec (l : Link) (v : Nat) (x : Vec) : Link := { l with vecs := sparseSet l.vecs v x ⟨0, false⟩ }

/-- `try_send` of R272. -/
def trySend (s : State) (v : Nat) : State :=
  let x := s.link.vec v
  if s.masked v || x.count == 0 || x.holdoff || !s.linkUp then s
  else
    let s := if bit (s.routing v) 30 then s.sendPacket (.intmsg x.count v (s.frame % 2 ^ 32) s.now) else s
    { s with link := s.link.setVec v ⟨0, decide (bits (s.routing v) 0 16 ≠ 0)⟩ }

/-- The event of a vector (R272). -/
def raiseVector (s : State) (v : Nat) : State :=
  if !bit (s.routing v) 31 then s
  else
    let x := s.link.vec v
    let s := { s with link := s.link.setVec v { x with count := min (x.count + 1) 255 } }
    let s := if bit (s.routing v) 29 then s.setFlag 0x2621 (v / 32 + 1) (v % 32) true else s
    trySend s v

/-! ### Events and tasks (R320 to R325) -/

/-- The enabled tasks: those whose control object (0x2500 + t:06) is listed with ENABLE set. -/
def State.enabledTasks (s : State) : List Nat :=
  (s.od.filter (fun e => decide (key 0x2500 0 ≤ e.1) && decide (e.1 < key 0x2580 0) && e.1 % 256 == 6 && bit e.2 0)).map
    (fun e => e.1 / 256 - 0x2500)

/-- The inputs of task t (0 to 3) that select source n, with the bit of the source. -/
def State.inputsOf (s : State) (t n : Nat) : List (Nat × Nat) :=
  (List.range 4).filterMap (fun k =>
    let w := s.get (0x2500 + t) (k + 1)
    let base := bits w 16 9
    if bit w 31 && decide (base ≤ n) && decide (n < base + 8) && bit w (n - base) then some (k, n - base) else none)

/-- The inputs of a task that are enabled. -/
def State.inputsEnabled (s : State) (t : Nat) : List Nat :=
  (List.range 4).filter (fun k => bit (s.get (0x2500 + t) (k + 1)) 31)

/-- The activation record of Table 8.12 as its 16 bytes. -/
def Activation.record (a : Activation) (t : Nat) : List Nat :=
  [t, a.inputs] ++ a.seen ++ toLE 6 a.frame ++ toLE 2 a.value ++ toLE 2 a.coinc

/-- The state of a task. -/
def Sched.task (c : Sched) (t : Nat) : Task := sparseGet c.tasks t Task.reset

/-- The state of a task replaced. -/
def Sched.setTask (c : Sched) (t : Nat) (x : Task) : Sched := { c with tasks := sparseSet c.tasks t x Task.reset }

/-- A coincidence counter counts one; at its bound it sets SATURATED (R322). -/
def coincide (s : State) (t k : Nat) : State :=
  let v := s.get (0x2500 + t) (8 + k)
  let s := s.set (0x2500 + t) (8 + k) (satNat 16 (v + 1))
  if decide (v + 1 ≥ 0xFFFF) then s.setFlag (0x2500 + t) 12 k true else s

/-- The inputs marked by an event, merged into the bitmaps seen. -/
def markSeen (seen : List Nat) (ins : List (Nat × Nat)) : List Nat :=
  ins.foldl (fun l e => l.modify e.1 (fun x => setBit x e.2)) seen

/-- The inputs beyond the first event of each: what a clock's events add to the coincidence counters where they make one activation (R322). -/
def repeated : List (Nat × Nat) → List (Nat × Nat)
  | [] => []
  | e :: l => if l.any (fun x => x.1 == e.1) then e :: repeated l else repeated l

/-- The value of the newest doorbell among the events of a clock (Table 8.12). -/
def doorbellValue (l : List (Nat × Nat)) (old : Nat) : Nat :=
  l.foldl (fun v e => if decide (256 ≤ e.1) && decide (e.1 < 320) then e.2 else v) old

/-- The events of one SYS clock, each a source and its value, reach one enabled task (R321, R322). -/
def taskEvent (s : State) (events : List (Nat × Nat)) (t : Nat) : State :=
  let mine := events.filter (fun e => !(s.inputsOf t e.1).isEmpty)
  let ins := mine.flatMap (fun e => s.inputsOf t e.1)
  if ins.isEmpty then s
  else
    let x := s.sched.task t
    match x.pending with
    | some a =>
      let s := ins.foldl (fun s e => coincide s t e.1) s
      let a := { a with
        inputs := ins.foldl (fun m e => setBit m e.1) a.inputs
        seen := markSeen a.seen ins
        value := doorbellValue mine a.value
        coinc := satNat 16 (a.coinc + mine.length) }
      let s := { s with sched := s.sched.setTask t { x with pending := some a } }
      s.set (0x2500 + t) 13 (fromLE (a.record t))
    | none =>
      let s := (repeated ins).foldl (fun s e => coincide s t e.1) s
      let all := bit (s.get (0x2500 + t) 6) 1
      let seen := markSeen (if all then x.seen else [0, 0, 0, 0]) ins
      let first := if all then x.first.getD s.frame else s.frame
      let complete := !all || (s.inputsEnabled t).all (fun k => decide (nth seen k 0 ≠ 0))
      if !complete then
        { s with sched := s.sched.setTask t { x with seen := seen, first := some first } }
      else
        let a : Activation := {
          inputs := (List.range 4).foldl (fun m k => if decide (nth seen k 0 ≠ 0) then setBit m k else m) 0
          seen := seen
          frame := first
          value := doorbellValue mine 0
          coinc := satNat 16 (repeated ins).length }
        let s := s.count (0x2500 + t) 7
        let s := s.set (0x2500 + t) 13 (fromLE (a.record t))
        if bits (s.get (0x2500 + t) 5) 60 4 == 0 then
          { s with sched := s.sched.setTask t Task.reset }
        else
          { s with sched := { s.sched.setTask t ⟨some a, [0, 0, 0, 0], none⟩ with ready := s.sched.ready ++ [t] } }

/-- Event sources are raised in one SYS clock, each with its value, which is a doorbell's. Tasks are reached in ascending number (R321 to R323). -/
def raiseAll (s : State) (events : List (Nat × Nat)) : State :=
  if !s.sched.live then s
  else s.enabledTasks.foldl (fun s t => taskEvent s events t) s

/-- One event source is raised; `value` is a doorbell's. -/
def raiseWith (s : State) (n value : Nat) : State := raiseAll s [(n, value)]

/-- An event source is raised (Table 8.10). -/
def raise (s : State) (n : Nat) : State := raiseWith s n 0

/-! ### Rings as their producers reach them (R313 to R319) -/

/-- Ring n. -/
def Sched.ring (c : Sched) (n : Nat) : Ring := sparseGet c.rings n Ring.reset

/-- Ring n replaced. -/
def Sched.setRing (c : Sched) (n : Nat) (r : Ring) : Sched := { c with rings := sparseSet c.rings n r Ring.reset }

/-- Ring n replaced. -/
def State.setRing (s : State) (n : Nat) (r : Ring) : State := { s with sched := s.sched.setRing n r }

/-- The descriptor of ring n (Table 8.7). -/
def State.ringDesc (s : State) (n : Nat) : Nat := s.get (0x2400 + n) 1

/-- The entry size in bytes. -/
def ringSize (d : Nat) : Nat := 16 * (bits d 8 4 + 1)

/-- The number of entries. -/
def ringSlots (d : Nat) : Nat := 2 ^ bits d 16 4

/-- The physical address of byte `off` of a ring's memory. -/
def Ring.addr (r : Ring) (off : Nat) : Nat := nth r.frames (off / 4096) 0 * 4096 + off % 4096

/-- Bytes written into a ring's memory from a multiple of eight, word by word, because frames need not be contiguous: each word is written whole, and becomes
good (R287). -/
def ringStore (m : Mem) (r : Ring) (off : Nat) (bytes : List Nat) : Mem :=
  (List.range ((bytes.length + 7) / 8)).foldl (fun m k => m.store (r.addr (off + 8 * k)) ((bytes.drop (8 * k)).take 8)) m

/-- Bytes read from a ring's memory. -/
def ringLoad (m : Mem) (r : Ring) (off n : Nat) : List Nat :=
  (List.range n).map (fun k => (m.readByte (r.addr (off + k))).toNat)

/-- How many entries wait: (P − C) mod 65,536. -/
def Ring.used (r : Ring) : Nat := (r.prod + 65536 - r.cons) % 65536

/-- Attributes of host window w (R266). -/
def State.windowAttr (s : State) (w : Nat) : Nat := s.get 0x2034 (3 * w + 3)

/-- A host window is open and not closing. -/
def State.windowOpen (s : State) (w : Nat) : Bool := bit (s.windowAttr w) 15 && !s.link.closing.any (fun e => e.1 == w)

/-- Bit `right` of the attributes (0 READABLE, 1 WRITABLE) lets the device reach a ring in a host window: the link up, the window open, and the ring
within it (R266). -/
def State.ringReaches (s : State) (n right : Nat) : Bool :=
  let d := s.ringDesc n
  let w := bits d 55 4
  let frames := (ringSlots d * ringSize d + 64 + 4095) / 4096
  s.linkUp && s.windowOpen w && bit (s.windowAttr w) right && decide (bits d 32 16 + frames ≤ s.get 0x2034 (3 * w + 2))

/-- A ring whose memory lies in a host window cannot be written now. -/
def State.ringCut (s : State) (n : Nat) : Bool := bit (s.ringDesc n) 59 && !s.ringReaches n 1

/-- The host address of byte `off` of a ring in a host window (Table 8.7). -/
def State.ringHostAddr (s : State) (n off : Nat) : Nat :=
  let d := s.ringDesc n
  s.get 0x2034 (3 * bits d 55 4 + 1) + bits d 32 16 * 4096 + off

/-- A LOCK sequence holds the bank of a physical address (R352): no other requester is granted it. -/
def State.bankHeld (s : State) (p : Nat) : Bool :=
  match s.tabor.core.lock with
  | some l => l.banks.contains (p / 0x20000)
  | none => false

/-- The ring engine waits for the commit or break of a LOCK sequence that holds a bank of the ring (R372). -/
def State.ringHeld (s : State) (n : Nat) : Bool :=
  !bit (s.ringDesc n) 59 && ((s.sched.ring n).frames.any (fun f => s.bankHeld (f * 4096)) || s.sched.held.any (fun e => e.1 == n))

/-- What the ring engine writes once it can. -/
def holdRing (s : State) (n : Nat) (entry : Option (List Nat)) : State :=
  { s with sched := { s.sched with held := s.sched.held ++ [(n, entry)] } }

/-- The fields of the index block that the device keeps (Table 8.8). -/
def State.writeIndexBlock (s : State) (n : Nat) : State :=
  let d := s.ringDesc n
  let r := s.sched.ring n
  let flags := b2n r.overwritten + 2 * b2n r.linkLoss
  let bytes := toLE 2 r.prod ++ toLE 2 r.cons ++ toLE 2 r.floor ++ toLE 2 flags ++ toLE 6 r.floorFrame ++ [0, 0]
  let off := ringSlots d * ringSize d
  if s.ringCut n then s
  else if s.ringHeld n then holdRing s n none
  else if bit d 59 then s.sendPacket (.mwr (s.ringHostAddr n off) bytes)
  else { s with mem := ringStore s.mem r off bytes }

/-- Entries of a ring lost, counted in 0x24nn:07. -/
def ringLost (s : State) (n k : Nat) : State := s.countBy (0x2400 + n) 7 k

/-- The device writes an entry, then PIDX, then advances P, and raises the ring's event and vector (R314). -/
def ringWrite (s : State) (n : Nat) (entry : List Nat) : State :=
  let d := s.ringDesc n
  let r := s.sched.ring n
  let off := (r.prod % ringSlots d) * ringSize d
  let bytes := (entry ++ List.replicate (ringSize d) 0).take (ringSize d)
  let s := if bit d 59 then s.sendPacket (.mwr (s.ringHostAddr n off) bytes)
    else { s with mem := ringStore s.mem r off bytes }
  let s := (s.setRing n { r with prod := (r.prod + 1) % 65536 }).writeIndexBlock n
  raiseVector (raise s n) n

/-- Whether an entry can be posted to a ring whose producer cannot wait: open, link up where its memory is the host's, and with
room or in overwrite mode (R314, R315, R317). -/
def State.ringAccepts (s : State) (n : Nat) : Bool :=
  let d := s.ringDesc n
  let r := s.sched.ring n
  r.isOpen && !r.closing && !bit d 62 && !s.ringCut n &&
    (decide (r.used < ringSlots d) || bits d 60 2 == 1)

/-- An entry is produced by an engine that cannot wait: STALL acts as DROP_NEW (R315); a post to a closed ring is counted in 0x2300:06 (R318). -/
def ringProduce (s : State) (n : Nat) (entry : List Nat) : State :=
  let d := s.ringDesc n
  let r := s.sched.ring n
  if s.ringHeld n then holdRing s n (some entry)
  else if !r.isOpen || r.closing then s.count 0x2300 6
  else if bit d 62 || s.ringCut n then ringLost s n 1
  else if r.used < ringSlots d then ringWrite s n entry
  else if bits d 60 2 == 1 then
    ringWrite (ringLost (s.setRing n { r with cons := (r.cons + 1) % 65536, overwritten := true }) n 1) n entry
  else ringLost s n 1

/-- Entries posted whole or not at all (R461): without room for every one, all count as lost. -/
def ringProduceAll (s : State) (n : Nat) (entries : List (List Nat)) : State :=
  let d := s.ringDesc n
  let r := s.sched.ring n
  if !r.isOpen || r.closing then s.countBy 0x2300 6 entries.length
  else if s.ringAccepts n && (bits d 60 2 == 1 || decide (r.used + entries.length ≤ ringSlots d)) then
    entries.foldl (fun s e => ringProduce s n e) s
  else ringLost s n entries.length

/-! ### The log queue (R647, R649) -/

/-- Records lost at the queue or while the log is full or not open: counted in LOG_LOST with event 507 and vector 272. -/
def logLost (s : State) : State := raiseVector (raise (s.count 0x4800 7) 507) 272

/-- One more record lost, with the time of the first. -/
def LossCount.add (l : LossCount) (t : Nat) : LossCount := if l.count == 0 then ⟨1, t⟩ else ⟨l.count + 1, l.firstTime⟩

/-- A record with the times and the frame counter of now (R660); CALTIME 0 where the calendar is not valid (R668). -/
def State.logRecord (s : State) (code data : Nat) : LogRecord :=
  let valid := s.flag 0x4810 3 0
  ⟨code, valid, s.now, if valid then s.get 0x4810 2 else 0, s.frame, data⟩

/-- The DATA of RECORDS_LOST (Table 17.2). -/
def recordsLostData (count origin first : Nat) : Nat := satNat 32 count + (origin <<< 32) + (first <<< 64)

/-- Once there is room in the write queue, one RECORDS_LOST record stands for the drops at it (R647); while FULL is set it would be dropped too, and waits. -/
def noteDropped (s : State) : State :=
  let l := s.log
  if 0 < l.dropped.count && l.queue.length < 32 && !s.flag 0x4800 10 2 then
    { s with log := { l with queue := l.queue ++ [s.logRecord 0x0101 (recordsLostData l.dropped.count 0 l.dropped.firstTime)], dropped := ⟨0, 0⟩ } }
  else s

/-- A record enters the write queue (R647). While FULL is set it is dropped (R649); a queue of 32 drops it, before the log opens with
origin 2 (R669). -/
def queueLog (s : State) (code data : Nat) : State :=
  if s.flag 0x4800 10 2 then logLost { s with log := { s.log with whileFull := s.log.whileFull.add s.now } }
  else
    let s := noteDropped s
    let l := s.log
    if l.queue.length < 32 then { s with log := { l with queue := l.queue ++ [s.logRecord code data] } }
    else if l.opened then logLost { s with log := { l with dropped := l.dropped.add s.now } }
    else logLost { s with log := { l with notOpen := l.notOpen.add s.now } }

/-- A CONDITION record (Table 17.2): an object's bit set or cleared, with context. -/
def logCondition (s : State) (i sub b : Nat) (set : Bool) (context : Nat) : State :=
  queueLog s 0x0130 (i + (sub <<< 16) + (b <<< 24) + (b2n set <<< 32) + (context <<< 40))

/-- A STATE_CHANGE record (Table 17.2). -/
def logStateChange (s : State) (i sub old new : Nat) : State :=
  queueLog s 0x0120 (i + (sub <<< 16) + (trunc 32 old <<< 32) + (trunc 32 new <<< 64))

/-- The STATE_CHANGE record that verbosity 1 and above adds (R651). -/
def logVerbose (s : State) (i sub old new : Nat) : State :=
  if s.get 0x4800 2 ≥ 1 then logStateChange s i sub old new else s

/-! ### The error register and EMCY (R222, R223, R744) -/

/-- The lines in use under a redundancy mode (Table 6.2), less those a failed self-test disables (Table 19.3). -/
def State.lineInUse (s : State) (l : Line) : Bool :=
  let own := match l with | .A => 5 | .B => 6
  let other := match l with | .A => 6 | .B => 5
  !bit s.test.degraded own &&
    (match s.inForce 0x2020 3, l with
     | 0, .A => true
     | 1, .B => true
     | 2, _ | 3, _ => true
     | _, _ => bit s.test.degraded other)

/-- The controllers are clocked: they have started (R240), and PLL A, which their domains derive from, is locked (R136). -/
def State.canRuns (s : State) : Bool := s.can.started && s.clocks.pllA

/-- The index of a line's status object. -/
def Line.index : Line → Nat
  | .A => 0x2022 | .B => 0x2023

/-- The state of a line: 0 DISABLED, 1 ERROR_ACTIVE, 2 ERROR_PASSIVE, 3 BUS_OFF, 4 RECOVERING, 5 SILENT. -/
def State.lineState (s : State) (l : Line) : Nat := s.get l.index 1

/-- A line is faulty while BUS_OFF, RECOVERING or SILENT (R201). -/
def State.lineFaulty (s : State) (l : Line) : Bool := decide (3 ≤ s.lineState l)

/-- The supervisors' warnings, faults and latches as bits of the error register (R552). -/
def Sup.errBits (p : Sup) (cause : Nat) (off : Bool) : Nat :=
  let present := off || p.latched || p.retryPending
  let v := bit p.warnings 0 || bit p.warnings 1 || (present && (cause == 1 || cause == 2)) || p.latched
  let c := bit p.warnings 2 || (present && cause == 3)
  let t := present && (cause == 4 || cause == 5)
  4 * b2n v + 2 * b2n c + 8 * b2n t

/-- The error register as its conditions give it (R744, R552, R614, R708). -/
def errorRegister (s : State) : Nat :=
  let comm := (s.can.started && ((s.lineInUse .A && s.lineFaulty .A) || (s.lineInUse .B && s.lineFaulty .B)))
    || s.can.consumers.any (fun c => c == .expired)
  let rails := (List.range 16).foldl (fun m n =>
    m ||| (nth s.reg.sups n Sup.reset).errBits (s.get (0x4100 + n) 17) (nth s.reg.rails n RailSt.reset).offByFault) 0
  let thermal := decide (bits (s.get 0x440A 3) 0 8 ≠ 0) || decide (bits (s.get 0x440A 3) 16 8 ≠ 0) || s.flag 0x440A 3 24
  let test := decide (s.get 0x4A00 3 ≠ 0) || decide (s.get 0x4A00 4 ≠ 0)
  let v := rails ||| (16 * b2n comm) ||| (8 * b2n thermal) ||| (128 * b2n test)
  if v = 0 then 0 else v ||| 1

/-- The node-ID in force; 0xFF when unconfigured. -/
def State.nodeId (s : State) : Nat := s.get 0x2021 4

/-- The active line of STANDBY (R202, 0x2025:01). -/
def State.activeLine (s : State) : Line := if s.get 0x2025 1 = 0 then .A else .B

/-- The lines on which a frame of the device is sent (Table 6.2). -/
def State.txLines (s : State) : Bool × Bool :=
  match s.inForce 0x2020 3 with
  | 2 => if s.lineInUse .A && s.lineInUse .B then (s.activeLine == .A, s.activeLine == .B) else (s.lineInUse .A, s.lineInUse .B)
  | _ => (s.lineInUse .A, s.lineInUse .B)

/-- The test slice of a line's controller (Table 19.1). -/
def Line.slice : Line → Nat
  | .A => 5 | .B => 6

/-- A segment of an in-service test runs on a line's controller (R704). -/
def State.lineUnderTest (s : State) (l : Line) : Bool :=
  s.test.segRuns && (match s.test.current with
    | some t => t.slice == l.slice
    | none => false)

/-- The controller of a line takes part in its bus; under an in-service test it accepts no frame and its output is recessive (R704). -/
def State.lineRuns (s : State) (l : Line) : Bool :=
  s.canRuns && s.lineInUse l && !s.lineUnderTest l && (s.lineState l == 1 || s.lineState l == 2 || s.lineState l == 5)

/-- A frame waits for transmission on the lines of the redundancy mode; within the SYNC guard it is held (R220). -/
def enqueueTx (s : State) (k : TxKind) (f : CanFrame) : State :=
  let l := s.txLines
  { s with can := { s.can with txq := s.can.txq ++ [⟨k, f, l.1, l.2, false, s.can.guard⟩] } }

/-- A service takes the frame that waits for it in a receive FIFO. -/
def fifoTake (s : State) (p : Line × Service → Bool) : State := { s with can := { s.can with fifo := s.can.fifo.eraseP p } }

/-- A service takes the frame that waits for it, on whichever line. -/
def served (s : State) (x : Service) : State := fifoTake s (fun e => e.2 == x)

/-- A classic frame. -/
def classic (id : Nat) (data : List Nat) : CanFrame := ⟨id, data, false, false, false⟩

/-- Every line in use is faulty. -/
def State.allFaulty (s : State) : Bool :=
  (!s.lineInUse .A || s.lineFaulty .A) && (!s.lineInUse .B || s.lineFaulty .B)

/-- The device may transmit an EMCY now (R223). -/
def State.emcyMaySend (s : State) : Bool :=
  s.canRuns && (s.can.nmt == .preOp || s.can.nmt == .operational) && !s.can.emcyInhibit && !s.allFaulty
    && decide (s.nodeId ≠ 0xFF)

/-- The eight bytes of an EMCY (R222). -/
def Emcy.bytes (e : Emcy) : List Nat := toLE 2 e.code ++ [e.errReg, e.detail] ++ toLE 4 e.frame

/-- An EMCY is sent: its frame waits for arbitration, the inhibit time starts (R222), and vector 260 is raised (R275). -/
def emcySend (s : State) (e : Emcy) : State :=
  let s := enqueueTx s .emcy (classic (bits (s.get 0x1014 0) 0 11) e.bytes)
  { s with can := { s.can with emcyInhibit := decide (s.get 0x1015 0 ≠ 0) } }

/-- The codes of 0x1003 move up, and the newest takes sub-index 01 (R223). -/
def pushError (s : State) (code : Nat) : State :=
  let n := min (s.get 0x1003 0 + 1) 16
  let s := (List.range 15).foldl (fun t k => t.set 0x1003 (16 - k) (s.get 0x1003 (15 - k))) s
  (s.set 0x1003 1 code).set 0x1003 0 n

/-- The next EMCY of the queue is sent if it may be: a count of dropped ones goes first (R223). -/
def emcyDrain (s : State) : State :=
  if !s.emcyMaySend then s
  else if s.can.emcyDropped > 0 then
    let e : Emcy := ⟨0xFF33, s.get 0x1001 0, min s.can.emcyDropped 255, s.frame % 2 ^ 32⟩
    let s := pushError { s with can := { s.can with emcyDropped := 0 } } 0xFF33
    raiseVector (emcySend s e) 260
  else
    match s.can.emcyQ with
    | [] => s
    | e :: rest => emcySend { s with can := { s.can with emcyQ := rest } } e

/-- The queue of 16 empties as far as it may be sent at once. -/
def emcyDrainAll : Nat → State → State
  | 0, s => s
  | n + 1, s => emcyDrainAll n (emcyDrain s)

/-- An EMCY arises (R222, R223): 0x1003 takes its code; it is sent at once, queued, or dropped at a full queue. -/
def emcy (s : State) (code detail : Nat) : State :=
  let reg := errorRegister s
  let s := pushError (s.set 0x1001 0 reg) code
  let e : Emcy := ⟨code, reg, detail, s.frame % 2 ^ 32⟩
  if s.emcyMaySend && s.can.emcyQ.isEmpty && s.can.emcyDropped == 0 then raiseVector (emcySend s e) 260
  else if s.can.emcyQ.length < 16 then
    raiseVector (emcyDrain { s with can := { s.can with emcyQ := s.can.emcyQ ++ [e] } }) 260
  else (({ s with can := { s.can with emcyDropped := s.can.emcyDropped + 1 } } : State).count 0x2025 4)

/-- An EMCY with the log record that accompanies it (R646). -/
def emcyLog (s : State) (code detail : Nat) : State :=
  let s := emcy s code detail
  queueLog s code (s.get 0x1001 0 + (detail <<< 8))

/-- An EMCY and its record with context from byte 2 of DATA. -/
def emcyLogWith (s : State) (code detail context : Nat) : State :=
  let s := emcy s code detail
  queueLog s code (s.get 0x1001 0 + (detail <<< 8) + (context <<< 16))

/-- The error register follows its conditions; when the last one clears, the error reset 0x0000 is sent (R222). -/
def refreshErrors (s : State) : State :=
  let old := s.get 0x1001 0
  let new := errorRegister s
  if old = new then s
  else if new = 0 then emcy (s.set 0x1001 0 0) 0x0000 0
  else s.set 0x1001 0 new

end Sys2Proof.Machine
end

