-- ==== Sys2Proof/Machine/Aocb.lean ====
section
/-!
DEFINITION. The words of the always-on control block (R102, Tables 3.8 to 3.12), packed from their fields.
-/

namespace Sys2Proof.Machine

/-- PWRSTATE (Table 3.9). -/
def State.pwrStateWord (s : State) : Nat := (bits (s.get 0x2010 4) 0 2 <<< 10) + (s.aocb.target.code <<< 4) + s.aocb.pstate.code

/-- STRAPS (Table 3.10). -/
def Straps.word (t : Straps) : Nat :=
  (b2n t.bootselIndeterminate <<< 15) + (b2n t.tcritIndeterminate <<< 14) + (b2n t.addr1Marginal <<< 13) + (b2n t.addr0Marginal <<< 12)
    + (b2n t.bootsel <<< 10) + (bits t.tcrit 0 2 <<< 8) + (bits t.addr1 0 3 <<< 3) + bits t.addr0 0 3

/-- RSTCAUSE (Table 3.11). -/
def RstCause.word (c : RstCause) : Nat :=
  (bits c.soft 0 4 <<< 28) + (bits c.source 0 4 <<< 24) + (bits c.qual 0 8 <<< 16) + (bits c.also 0 5 <<< 8) + bits c.logLost 0 8

/-- BOOTSTAT (Table 3.12). -/
def BootStat.word (b : BootStat) : Nat :=
  (b2n b.trimFault <<< 15) + (b2n b.lbistFail <<< 14) + (b2n b.selfSupplyFault <<< 13) + (b2n b.bankB <<< 12) + (b2n b.trial <<< 11)
    + (b2n b.recovery <<< 10) + (b2n b.odDefaults <<< 9) + (b2n b.xinAbsent <<< 8) + bits b.progress 0 8

/-- LIFECYCLE: the state of R717 in [3:0]. -/
def State.lifecycleWord (s : State) : Nat := if s.test.field then 0x7 else 0x3

/-- The word at an offset of the block (Table 3.8); what is reserved reads 0 (R13). -/
def State.aocbWord (s : State) (offset : Nat) : Nat :=
  if offset = 0x000 then 0x00000F1E
  else if offset = 0x004 then 0x00016800
  else if offset = 0x008 then 0x00020001
  else if offset = 0x00C then bits s.test.serial 0 32
  else if offset = 0x010 then bits s.test.serial 32 32
  else if offset = 0x014 then s.pwrStateWord
  else if offset = 0x018 then s.aocb.straps.word
  else if offset = 0x01C then s.aocb.cause.word
  else if offset = 0x020 then bits s.aocb.lossDur 0 32
  else if offset = 0x024 then s.aocb.boot.word
  else if offset = 0x028 then s.lifecycleWord
  else 0

end Sys2Proof.Machine
end

