-- ==== Sys2Proof/Machine/Access.lean ====
section
/-!
DEFINITION. The rights of a request at the arbiter (R139, R143, R145, R149, R193, R719): what is refused before any object's own rules are asked.
-/

namespace Sys2Proof.Machine

/-- An index and sub-index are defined (R139, R740). -/
def definedStatus (i sub : Nat) : Status :=
  if (descOf i sub).isSome then .ok else if indexDefined i then .noSubindex else .noObject

/-- The lifecycle gate of R719 refuses a request from D. -/
def State.gateDenies (s : State) (p : Port) (i sub : Nat) (write : Bool) : Bool :=
  p == .D &&
    (match s.test.access with
     | .full => false
     | .observe => write
     | .locked =>
       if write then !(i == 0x5F00 && (sub == 5 || sub == 6)) else !(i == 0x1000 || i == 0x1018 || i == 0x5F00))

/-- The deny bit of a port in a write lock. -/
def Port.denyBit : Port → Nat
  | .C => 3 | .K => 2 | .T => 1 | .D => 0

/-- A port write lock denies a write (R149); none denies C or D a write to 0x2004. -/
def State.lockDenies (s : State) (p : Port) (i : Nat) : Bool :=
  !(i == 0x2004 && (p == .C || p == .D)) &&
    (List.range 16).any (fun k =>
      let w := s.get 0x2004 (k + 1)
      decide (bits w 32 16 ≤ i) && decide (i ≤ bits w 16 16) && bit w p.denyBit && decide (w ≠ 0))

/-- The access code of an object on a port. -/
def accessOf (p : Port) (i sub : Nat) : Acc :=
  match descOf i sub with
  | some d => d.acc.at p
  | none => .none

/-- Whether a write may go on to its object's own rules. -/
def State.checkWrite (s : State) (p : Port) (i sub : Nat) : Status :=
  match definedStatus i sub with
  | .ok =>
    match accessOf p i sub with
    | .none => .noAccess
    | .const | .ro => if s.gateDenies p i sub true then .noAccess else .readOnly
    | _ => if s.gateDenies p i sub true || s.lockDenies p i then .noAccess else .ok
  | e => e

/-- Whether a read may go on. -/
def State.checkRead (s : State) (p : Port) (i sub : Nat) : Status :=
  match definedStatus i sub with
  | .ok =>
    match accessOf p i sub with
    | .none => .noAccess
    | .wo => if s.gateDenies p i sub false then .noAccess else .writeOnly
    | _ => if s.gateDenies p i sub false then .noAccess else .ok
  | e => e

/-- A command that a port gives by writing an object: refused by its rights, NOT_READY before the dictionary is restored (R193), else carried out and
answered. -/
def portCommand (s : State) (p : Port) (i sub : Nat) (f : State → State × Status) : State :=
  if !s.up then (s.reply p .notReady [])
  else
    match s.checkWrite p i sub with
    | .ok =>
      let r := f s
      (r.1.reply p r.2 [])
    | e => (s.reply p e [])

/-- As `portCommand`, where the request may wait: no status, and the port is answered when it ends. -/
def portRequest (s : State) (p : Port) (i sub : Nat) (f : State → State × Option Status) : State :=
  if !s.up then (s.reply p .notReady [])
  else
    match s.checkWrite p i sub with
    | .ok =>
      let r := f s
      (match r.2 with
        | some st => r.1.reply p st []
        | none => r.1)
    | e => (s.reply p e [])

end Sys2Proof.Machine
end

