-- ==== Sys2Proof/Config.lean ====
section
/-!
DEFINITION. What an implementation fixes, and the free values: constants without a body, applied to a counter of the
state, for what the spec leaves open and the machine goes on with. No proof can see a value of them.
-/

namespace Sys2Proof.Config

/-- R68: whether a RESET_N low pulse between 1 µs and 10 µs causes a hard reset (free; log entry 4). -/
opaque resetPulse : Nat → Bool

/-- A fresh random byte string of the given length, read as a number: the authentication CHALLENGE (R588) and the unlock nonce (R720) are
drawn at random (free; log entry 5). The first argument is the counter of draws. -/
opaque random : Nat → Nat → Nat

/-- R657: the nanoseconds by which the calendar advances on the LF clock (free; log entry 6). -/
opaque lfElapsed : Nat → Nat

/-- Which of several allowed choices the device takes where the spec names none: the TLB entry that pseudo-LRU replaces (R296), the free frame a fill
takes (R302), the tag of a device read (R257) (free; log entry 32). -/
opaque choice : Nat → Nat

/-- Whether the external flash is larger than the 64 MB that R191 requires, in pages of 4,096 bytes (log entry 33). -/
opaque flashPages : Nat

/-- The boot ROM as the core reads it (Table 9.4): its bytes stand in no rule (free; log entry 34). -/
opaque bootRom : Nat → Byte

/-- The object-space page at which firmware maps user program p's code, data and spill stack, one after another (R360 names no address; free; log
entry 36). -/
opaque programPage : Nat → Nat

/-- R650, R667: whether the external flash reports erase suspend and resume (fixed at assembly; log entry 52). -/
opaque flashSuspends : Bool

/-- R96: whether the external flash reports the soft reset in its JESD216 table (fixed at assembly; log entry 197). -/
opaque flashSoftReset : Bool

/-- R168, R671: what the flash's JESD216 parameters give (fixed at assembly; log entry 44): the maximum erase time of a 4 KB sector in µs. -/
opaque sectorEraseUs : Nat

/-- The maximum time to program a page, in µs (log entry 44). -/
opaque pageProgramUs : Nat

/-- The page size in bytes (log entry 44). -/
opaque pageBytes : Nat

/-- The time in µs to read back the given number of bytes at the clock of R112 (log entry 44). -/
opaque readBackUs : Nat → Nat

/-- The size in bytes of the largest erase that aligns with a bank, and its maximum time in µs (log entry 44). -/
opaque blockBytes : Nat
opaque blockEraseUs : Nat

/-- R673: the SHA-256 of Ifetor's firmware public key, held in OTP slot 0, as a number (fixed at manufacture; the spec gives no value; log entry 45). -/
opaque ifetorKeyHash : Nat

/-- R611: the reading of die sensor n, in 0.1 °C, for a telemetry value: the conversion is the factory trim in OTP, which no rule gives (fixed at manufacture; log
entry 48). -/
opaque dieTenths : Nat → Int → Int

/-- The outcome that only the surroundings decide of an act begun by a plain object write, where the row that carries it has an operand for it: whether an
OTP slot reads back as programmed (R721), a rail's sense input is open (R77) or an erase succeeds (free; log entry 39). -/
opaque outcome : Nat → Bool

/-- R443: the delta of a node or channel whose baseline is 0, where the quotient has no value (free; log entry 62). The first argument is the counter of
draws, the second the node or channel. -/
opaque deltaAtZero : Nat → Nat → Int

/-- R448: the noise at a hop whose baselines have never been formed (free; log entry 62). -/
opaque noiseAtZero : Nat → Nat → Nat

/-- R457: MAJOR and MINOR of a contact in 1/4 node, which the spec takes from the second moments of its nodes (row, RX line, d) without a formula (free; log entry
63). -/
opaque touchAxes : List (Nat × Nat × Int) → Nat × Nat

/-- R287, R357: what a register holds after a load whose word is uncorrectable, which the spec does not state (free; log entry 67). -/
opaque poisoned : Nat → Word

/-- R502: the feed-forward term for a reference V_reg while VSYS reads 0, where the quotient has no value (free; log entry 121). -/
opaque feedForwardAtZero : Rat → Rat

end Sys2Proof.Config
end

