-- ==== Sys2Proof/Machine/Regulator.lean ====
section
/-!
DEFINITION. The regulator (chapter 13): rails as they take commands, slew and regulate; phases; interleaving, the synchronisation chain and the
delay-line banks. Times of the PWM domain are in its 2 ns clocks, edges in delay-line steps of 62.5 ps, setpoints in 0.01 mV.
-/

namespace Sys2Proof.Machine

/-- Rail n. -/
def State.rail (s : State) (n : Nat) : RailSt := nth s.reg.rails n RailSt.reset

/-- Rail n replaced. -/
def State.setRail (s : State) (n : Nat) (r : RailSt) : State := { s with reg := { s.reg with rails := s.reg.rails.set n r } }

/-- Phase p. -/
def State.phase (s : State) (p : Nat) : PhaseSt := nth s.reg.phases p PhaseSt.reset

/-- Phase p replaced. -/
def State.setPhase (s : State) (p : Nat) (x : PhaseSt) : State := { s with reg := { s.reg with phases := s.reg.phases.set p x } }

/-- The supervisor of rail n. -/
def State.sup (s : State) (n : Nat) : Sup := nth s.reg.sups n Sup.reset

/-- The supervisor of rail n replaced. -/
def State.setSup (s : State) (n : Nat) (p : Sup) : State := { s with reg := { s.reg with sups := s.reg.sups.set n p } }

/-- The index of a rail's object. -/
def railObj (n : Nat) : Nat := 0x4010 + n

/-- The phases of a rail's set in force, ascending (R492, R506). -/
def State.phaseList (s : State) (n : Nat) : List Nat := setBits 16 (s.get (railObj n) 1)

/-- The rail that owns phase p. -/
def State.owner (s : State) (p : Nat) : Option Nat := (List.range 16).find? (fun n => bit (s.get (railObj n) 1) p)

/-- A rail with an empty phase set (R528). -/
def State.monitor (s : State) (n : Nat) : Bool := s.get (railObj n) 1 == 0

/-- The sense scaling factor s of R493. -/
def State.scaling (s : State) (n : Nat) : Nat := 2 ^ s.get (railObj n) 3

/-- N of R503: round(500,000 / f), an exact half up. -/
def periodOf (f : Nat) : Nat := if f = 0 then 1 else (2 * 500000 + f) / (2 * f)

/-- N of a rail. -/
def State.railN (s : State) (n : Nat) : Nat := periodOf (s.get (railObj n) 6)

/-- The slew rate in force of a rail, 0.01 mV per 100 ns (R498, R501; R541 for the emergency slew). -/
def State.slewStep (s : State) (n : Nat) : Nat :=
  if (s.rail n).emergency then s.inForce 0x4204 (n + 1) else s.get (railObj n) 5

/-- A target lies in R493's range: 0, or 300 to 3,600 × s mV. -/
def targetInRange (scale mv : Nat) : Bool := mv == 0 || (decide (300 ≤ mv) && decide (mv ≤ 3600 * scale))

/-- The setpoint object follows V_set, rounded to 1 mV. -/
def State.showSetpoint (s : State) (n : Nat) : State := s.set (railObj n) 12 (((s.rail n).vset + 50) / 100)

/-- A command completes (R500): SLEWING clears, IN_TARGET is set, the setpoint is shown and the command counted. -/
def commandComplete (s : State) (n : Nat) : State :=
  ((s.setRail n { s.rail n with slewing := false }).showSetpoint n).count (railObj n) 17

/-- A command to rail n (R499): a running ramp is superseded, the rail is in transition (R545), and a command to the value V_set already
holds completes at once (R558). -/
def railCommand (s : State) (n target : Nat) (disabling emergency : Bool) : State :=
  let r := s.rail n
  let s := if r.slewing then s.count (railObj n) 16 else s
  let s := s.set (railObj n) 2 target
  let s := s.setRail n { r with target := target, slewing := true, disabling := disabling, emergency := emergency }
  let s := s.setSup n { s.sup n with transition := true }
  if r.vset = 100 * target && r.started && !disabling then commandComplete s n else s

/-- Whether any ring is timed from its master: PHASE_TIMING (R507). -/
def State.anyRingDirect (s : State) : Bool := s.reg.rails.any (fun r => r.ringDirect)

/-- The readings of a rail's sense ball in µV, with the open-detect current sourced and with it sunk, differ by more than 0.500 V: the ball is open (R77). -/
def senseIsOpen (sourcedUv sunkUv : Nat) : Bool := decide (max sourcedUv sunkUv - min sourcedUv sunkUv > 500000)

/-- A rail is enabled (R498): V_set starts at the rail voltage; phases wait for it to start; the ring starts afresh (R507). -/
def railEnable (s : State) (n target : Nat) : State :=
  let r := s.rail n
  let s := s.setRail n { r with
    enabled := true, disabling := false, vset := 100 * s.get (railObj n) 14, slewing := false, started := false
    closing := false, offByFault := false, senseOpen := false, i := 0, df := 0, ePrev := 0, d := 0
    ringRun := 0, ringDirect := false, adjust := 0, adjusted := false, carry := none
    period := s.railN n, free := decide (bits (s.get 0x4021 (n + 1)) 30 2 = 0) }
  let s := s.setFlag 0x4020 1 5 s.anyRingDirect
  let s := s.set (railObj n) 15 (500000000 / max 1 (s.railN n))
  railCommand s n target false false

/-- The reference field of a rail: 0 free, 1 SYNCIN, 2 a rail (0x4021). -/
def State.refKind (s : State) (n : Nat) : Nat := bits (s.get 0x4021 (n + 1)) 30 2

/-- The rails that take a rail's master pulses as their reference. -/
def State.followers (s : State) (n : Nat) : List Nat :=
  (List.range 16).filter (fun m => s.refKind m == 2 && bits (s.get 0x4021 (m + 1)) 24 4 == n)

/-- Rails run free at N from their last period (R509, R510). -/
def runFree (s : State) (rails : List Nat) : State :=
  rails.foldl (fun t n => t.setRail n { t.rail n with free := true, adjust := 0, adjusted := false, carry := none }) s

/-- A rail has left at 0 V: ENABLED clears and the disable completes (R500); the rails it timed run free (R509). -/
def railDisabled (s : State) (n : Nat) : State :=
  let r := s.rail n
  let s := s.setRail n { r with enabled := false, disabling := false, closing := false, started := false, emergency := false }
  commandComplete (runFree s (s.followers n)) n

/-- Phases of a rail go to high impedance. -/
def State.floatPhases (s : State) (n : Nat) : State :=
  (s.phaseList n).foldl (fun t p => t.setPhase p { t.phase p with driven := false, onSteps := 0, limitedNow := false }) s

/-- V_set of a disabling rail has reached 0 V: phases leave at the end of their periods; a rail none of whose phases switches is
disabled at once (R498, R528). -/
def reachedZero (s : State) (n : Nat) : State :=
  if (s.phaseList n).any (fun p => (s.phase p).driven) then s.setRail n { s.rail n with closing := true }
  else railDisabled s n

/-- A rail ramps to 0 V and is then disabled (R498); a rail that is not enabled needs nothing (R539). -/
def railDisable (s : State) (n : Nat) (emergency : Bool) : State :=
  let r := s.rail n
  if !r.enabled then s
  else
    let s := railCommand s n 0 true emergency
    if r.vset = 0 then reachedZero s n else s

/-- A rail is taken off by fault (R498): high impedance, V_set 0; its command neither completes nor counts as superseded (R500). -/
def railOff (s : State) (n : Nat) : State :=
  let r := s.rail n
  let s := s.floatPhases n
  let s := s.setRail n { r with
    enabled := false, disabling := false, vset := 0, slewing := false, started := false, closing := false, emergency := false
    offByFault := true, d := 0, i := 0, df := 0 }
  (runFree s (s.followers n)).showSetpoint n

/-- A shutdown comparator holds rail n off: a die's, or one of a group with a phase of the rail (R515, R516). -/
def State.shutConcerned (s : State) (n : Nat) : Bool :=
  s.reg.dieShut.any id || (s.phaseList n).any (fun p => nth s.reg.tmonShut (s.get (0x4000 + p) 4) false)

/-- The status word of a rail (Table 13.4); OT_SHUTDOWN tells a shutdown that holds the rail off, at start-up too (R517). -/
def railStatus (s : State) (n : Nat) : Nat :=
  let r := s.rail n
  b2n r.enabled + 2 * b2n r.slewing + 4 * b2n (decide (r.vset = 100 * r.target) && !r.slewing && r.enabled) + 8 * b2n (s.monitor n)
    + 16 * b2n r.errSatLast + 32 * b2n ((s.phaseList n).any (fun p => (s.phase p).limitedLast)) + 64 * b2n r.senseOpen
    + 128 * b2n (!r.enabled && s.shutConcerned n) + 256 * b2n r.offByFault + 512 * b2n r.seqOwned
    + (b2n (s.flag 0x3241 2 n) <<< 14) + (b2n (s.flag 0x3241 2 (16 + n)) <<< 15)

/-- The status byte of a phase (Table 13.2). -/
def phaseStatus (s : State) (p : Nat) : Nat :=
  let x := s.phase p
  b2n (s.owner p).isSome + 2 * b2n x.driven + 4 * b2n x.limitedLast + 8 * b2n x.imonHigh + 16 * b2n x.imonLow

/-! ### Commands from a port -/

/-- A write of a rail's target voltage (R493, R495). -/
def writeTarget (s : State) (n mv : Nat) : State × Status :=
  if mv = 0 || !targetInRange (s.scaling n) mv then (s, .range)
  else if !(s.rail n).enabled then (s, .incompatible)
  else if (s.rail n).seqOwned || s.flag 0x3241 2 n then (s, .live)
  else (railCommand s n mv false false, .ok)

/-! ### The setpoint -/

/-- One rail's slew step of 100 ns (R498): it stops exactly at the target. -/
def slewRail (s : State) (n : Nat) : State :=
  let r := s.rail n
  if !r.slewing || !r.enabled then s
  else
    let goal := 100 * r.target
    let step := s.slewStep n
    let v := if r.vset < goal then min (r.vset + step) goal else max (r.vset - step) goal
    let s := (s.setRail n { r with vset := v, started := true }).showSetpoint n
    if v ≠ goal || r.closing then s
    else if r.disabling then reachedZero s n
    else commandComplete s n

/-- SETPOINT_STEP: every rail's setpoint moves one step (R498). The regulator is continuous: it needs only its clocks. -/
def actSetpointStep (s : State) : State :=
  ((List.range 16).foldl slewRail s)

/-! ### Telemetry values -/

/-- A telemetry value is VALID (Table 11.6). -/
def State.hkValid (s : State) (h : Nat) : Bool := bit (s.get 0x3120 (h + 1)) 31

/-- The 24-bit value of a telemetry input, signed. -/
def State.hkValue (s : State) (h : Nat) : Int := toSigned 24 (s.get 0x3120 (h + 1))

/-- A telemetry value as microvolts at the HK input: full scale 2^23 is 1.800 V (R422). -/
def State.hkMicro (s : State) (h : Nat) : Int := divRound (s.hkValue h * 1800000) (2 ^ 23)

/-- VSYS in mV from HK input 49, scaled by 25 (Table 11.2). -/
def State.vsysMv (s : State) : Int := s.hkMicro 49 * 25 / 1000

/-! ### The loop (R496 to R504) -/

/-- V_reg in 0.01 mV (R496). -/
def State.vreg (s : State) (n : Nat) : Rat :=
  let r := s.rail n
  if s.monitor n then r.vset
  else (r.vset : Rat) - min ((s.get (railObj n) 4 * r.iLL.toNat : Nat) / 1000 : Rat) ((r.vset : Rat) / 4)

/-- A phase current in 10 mA from IMON in µV (R491). -/
def State.phaseCurrent (s : State) (p uv : Nat) : Int :=
  let o := 0x4000 + p
  let x : Int := ((uv : Int) - 1000 * (s.get o 2 : Int)) * 100 * (16384 + s.getS o 3)
  divRound x (max 1 (s.get o 1 * 16384))

/-- A current sample above the limit ends the on-time and counts its period once (R504, R524). -/
def currentSample (s : State) (p uv : Nat) : State :=
  let lim := s.get (0x4000 + p) 5
  let x := s.phase p
  if lim ≠ 0 && x.driven && !x.limitedNow && decide (s.phaseCurrent p uv > 10 * (lim : Int)) then
    (s.setPhase p { x with limitedNow := true, limitedFrame := true, onSteps := 0 }).count (0x4000 + p) 9
  else s

/-- The duties of R503's shortest high and low times, 20 ns and 40 ns. -/
def dutyMin (n : Nat) : Rat := (10 * 65536 : Nat) / (n : Rat)
/-- The longest duty. -/
def dutyMax (n : Nat) : Rat := 65536 - (20 * 65536 : Nat) / (n : Rat)

/-- The error in converter LSBs of 0.25 mV at the divided node (R494, R497): positive when the rail is low. -/
def State.loopError (s : State) (n senseUv : Nat) : Int :=
  let sc := s.scaling n
  let ref := (s.vreg n / (25 * sc : Nat) + 1 / 2).floor
  ref - (senseUv : Int) / (250 * sc : Nat)

/-- One error sample of a rail's loop (R502). -/
def loopUpdate (s : State) (n senseUv : Nat) : State :=
  let r := s.rail n
  let w := s.get (railObj n) 10
  let kp : Int := bits w 48 16
  let ki : Int := bits w 32 16
  let kd : Int := bits w 16 16
  let pole := bits w 12 4
  let nn := max 1 (s.railN n)
  let raw := s.loopError n senseUv
  let e := clampInt (-256) 256 raw
  let frozen := decide (r.d = dutyMin nn) || decide (r.d = dutyMax nn)
  let i := if frozen then r.i else clampInt (-(2 ^ 24)) (2 ^ 24) (r.i + ki * e)
  let df := r.df + ((kd * (e - r.ePrev) : Int) - r.df) / (2 ^ pole : Nat)
  let vsys := s.vsysMv
  let ff : Rat := if vsys = 0 then Sys2Proof.Config.feedForwardAtZero (s.vreg n) else 65536 * (s.vreg n / 100) / vsys
  let d := max (dutyMin nn) (min (dutyMax nn) (ff + ((kp * e + i : Int) + df) / 256))
  s.setRail n { r with i := i, df := df, ePrev := e, d := d, errSatFrame := r.errSatFrame || decide (raw ≠ e) }

/-- LOOP_SAMPLE: an error sample and the current samples of the rail's phases in ascending order (R496, R497, R502, R504). A rail that does not
regulate (disabled, a monitor rail, PLL D unlocked) takes none. -/
def actLoopSample (rail : Fin 16) (senseUv : Nat) (imonUv : List Nat) (s : State) : State :=
  let n := rail.val
  let r := s.rail n
  if !r.enabled || !r.started || s.monitor n || !s.clocks.pllD then s
  else
    let s := loopUpdate s n senseUv
    (((s.phaseList n).zip imonUv).foldl (fun t e => currentSample t e.1 e.2) s)

/-! ### Periods -/

/-- δ of R506: the delay in steps from rank k's pulse to rank k + 1's start. -/
def rankDelay (nn m k : Nat) : Nat :=
  let r := fun j => if m = 0 then 0 else (2 * j * 32 * nn + m) / (2 * m)
  r (k + 1) - r k

/-- The offset of rank k from the master when the ring is timed from it directly (R507). -/
def rankOffset (nn m k : Nat) : Nat := if m = 0 then 0 else (2 * k * 32 * nn + m) / (2 * m)

/-- The difference between the start a reference asks for and the one planned, taken to the nearest period. -/
def timingError (now delay masterAt nn : Nat) : Int :=
  let x : Int := ((now + delay : Nat) - (masterAt : Int)) % (nn : Nat)
  if 2 * x > nn then x - nn else x

/-- A reference pulse reaches a rail (R509): the next period is changed by the error, at most 3 %; within a period already
adjusted the error is carried into the next (R525). -/
def referencePulse (s : State) (n now : Nat) : State :=
  let r := s.rail n
  let nn := max 1 (s.railN n)
  if !r.enabled then s
  else
    let err := timingError now (bits (s.get 0x4021 (n + 1)) 0 12) r.masterAt nn
    let lim : Int := (3 * nn / 100 : Nat)
    if r.adjusted then s.setRail n { r with carry := some (clampInt (-lim) lim err), free := false }
    else s.setRail n { r with adjust := clampInt (-lim) lim err, adjusted := true, free := false }

/-- The mean of the balanced phases' currents (R502). -/
def State.meanCurrent (s : State) (n : Nat) : Rat :=
  let ps := (s.phaseList n).filter (fun p => !(s.phase p).imonHigh && !(s.phase p).imonLow)
  if ps.isEmpty then 0 else ((ps.map (fun p => s.getS (0x4000 + p) 6)).sum : Int) / (ps.length : Rat)

/-- IMON out of range while the phase is driven (R527): IMON_HIGH from 1.580 V, IMON_LOW below 0.100 V with a log record. -/
def imonRange (s : State) (p uv : Nat) : State :=
  let x := s.phase p
  if !x.driven then s
  else if uv ≥ 1580000 then s.setPhase p { x with imonHigh := true, imonBad := true }
  else if uv < 100000 then
    let s' := s.setPhase p { x with imonLow := true, imonBad := true }
    if x.imonLow then s' else logCondition s' (0x4000 + p) 8 4 true 0
  else s

/-- The on-time of a phase in steps (R503, R505). -/
def onSteps (nn : Nat) (dp : Rat) (coarse : Bool) : Nat :=
  let raw := (dp * (32 * nn : Nat) / 65536 + 1 / 2).floor.toNat
  let raw := if coarse then (raw + 16) / 32 * 32 else raw
  if raw < 320 then 0 else min raw (32 * nn - 640)

/-- The rail current follows its phases (R491). -/
def State.sumCurrent (s : State) (n : Nat) : Int := ((s.phaseList n).map (fun p => s.getS (0x4000 + p) 6)).sum

/-- A master's period starts (R506 to R511): the ring's closing is judged, the corrected period begins, the rails that follow get their
pulse, and SYNCOUT carries it if this rail is its source. -/
def masterStart (s : State) (n now : Nat) (closing : Int) : State :=
  let r := s.rail n
  let nn := max 1 (s.railN n)
  let m := (s.phaseList n).length
  let run := if m > 1 && closing.natAbs > 32 then r.ringRun + 1 else 0
  let lim : Int := (3 * nn / 100 : Nat)
  let r' := { r with
    iLL := s.sumCurrent n, ringRun := run, masterAt := now, period := ((nn : Int) + r.adjust).toNat
    adjust := clampInt (-lim) lim (r.carry.getD 0), adjusted := r.carry.isSome, carry := none }
  let s := s.setRail n r'
  let s :=
    if run ≥ 2 && !r.ringDirect then
      emcyLog ((s.setRail n { r' with ringDirect := true }).setFlag 0x4020 1 5 true) 0xFF71 n
    else s
  let s := (s.followers n).foldl (fun t k => referencePulse t k now) s
  if s.get 0x4020 2 == n then { s with reg := { s.reg with syncoutAt := some now } } else s

/-- PWM_PERIOD_START: a phase ends a period and begins the next (R491, R498, R500, R502, R503, R506 to R509, R511, R527). `now` is the PWM
clock of the start, `imonUv` the average of IMON over the period that ends, `closing` the ring's closing difference in steps. -/
def actPwmPeriodStart (phase : Fin 16) (now imonUv : Nat) (closing : Int) (s : State) : State :=
  let p := phase.val
  match s.owner p with
  | none => s
  | some n =>
    if !s.clocks.pllD then s
    else
      let s := imonRange s p imonUv
      let uv := if (s.phase p).imonHigh && decide (imonUv ≥ 1580000) then 1600000 else imonUv
      let s := s.setS (0x4000 + p) 6 (satSigned 16 (s.phaseCurrent p uv))
      let s := s.setS (railObj n) 13 (s.sumCurrent n)
      let r := s.rail n
      if r.closing then
        let s := s.setPhase p { s.phase p with driven := false, onSteps := 0 }
        let s := s.set (0x4000 + p) 7 0
        (if (s.phaseList n).any (fun q => (s.phase q).driven) then s else railDisabled s n)
      else if !r.enabled || !r.started then s
      else
        let nn := max 1 (s.railN n)
        let ps := s.phaseList n
        let k := ps.findIdx (fun q => q == p)
        let s := if k = 0 then masterStart s n now closing else s
        let r := s.rail n
        let x := s.phase p
        let kb := bits (s.get (railObj n) 10) 0 8
        let corr : Rat := if x.imonHigh || x.imonLow then 0
          else (kb : Rat) * (s.meanCurrent n - (s.getS (0x4000 + p) 6 : Rat)) / 256
        let dp := max (dutyMin nn) (min (dutyMax nn) (r.d + corr))
        let delay := if k = 0 then 0 else if r.ringDirect then rankOffset nn ps.length k else rankDelay nn ps.length (k - 1)
        let s := s.setPhase p { x with driven := true, limitedNow := false, onSteps := onSteps nn dp x.coarse, delay := delay }
        (s.set (0x4000 + p) 7 (min 65535 dp.floor.toNat))

/-! ### Delay-line banks and SYNCIN -/

/-- DELAY_LINE_UNLOCK: the bank's phases place edges in whole 2 ns steps; regulation continues (R505). -/
def actDelayLineUnlock (bank : Fin 4) (s : State) : State :=
  let k := bank.val
  let s := (List.range 4).foldl (fun t j => t.setPhase (4 * k + j) { t.phase (4 * k + j) with coarse := true }) s
  (emcyLog (s.setFlag 0x4020 1 k true) 0xFF70 k)

/-- DELAY_LINE_RELOCK: the flag clears when lock returns (R505). -/
def actDelayLineRelock (bank : Fin 4) (s : State) : State :=
  let k := bank.val
  let s := (List.range 4).foldl (fun t j => t.setPhase (4 * k + j) { t.phase (4 * k + j) with coarse := false }) s
  (s.setFlag 0x4020 1 k false)

/-- The rails that use SYNCIN. -/
def State.syncinRails (s : State) : List Nat := (List.range 16).filter (fun n => s.refKind n == 1)

/-- An interval lies within 3 % of N for every rail that uses SYNCIN. -/
def State.syncinGoodInterval (s : State) (interval : Nat) : Bool :=
  s.syncinRails.all (fun n =>
    let nn := s.railN n
    decide (100 * ((interval : Int) - nn).natAbs ≤ 3 * nn))

/-- SYNCIN is lost (R510): its rails run free, SYNCIN_LOST with EMCY and record. -/
def syncinLost (s : State) : State :=
  if s.flag 0x4020 1 4 then s
  else
    let s := runFree s s.syncinRails
    emcyLog ((({ s with reg := { s.reg with syncinGood := 0 } } : State)).setFlag 0x4020 1 4 true) 0xFF72 0

/-- SYNCIN_PULSE at a PWM clock: intervals are judged (four bad ones lose SYNCIN, eight good ones bring it back, R510), and the rails that
use it correct their next period (R509). -/
def actSyncinPulse (now : Nat) (s : State) : State :=
  let s : State := match s.reg.syncinAt with
    | none => { s with reg := { s.reg with syncinAt := some now } }
    | some t =>
      let good := s.syncinGoodInterval (now - t)
      { s with reg := { s.reg with
        syncinAt := some now
        syncinBad := if good then 0 else s.reg.syncinBad + 1
        syncinGood := if good then s.reg.syncinGood + 1 else 0 } }
  if s.flag 0x4020 1 4 then
    if s.reg.syncinGood ≥ 8 then (s.syncinRails.foldl (fun t n => referencePulse t n now) (s.setFlag 0x4020 1 4 false))
    else s
  else if s.reg.syncinBad ≥ 4 then (syncinLost s)
  else (s.syncinRails.foldl (fun t n => referencePulse t n now) s)

/-- SYNCIN_LOSS: no pulse for four nominal periods of the rails that use it (R510). -/
def actSyncinLoss (s : State) : State :=
  (if s.syncinRails.isEmpty then s else syncinLost { s with reg := { s.reg with syncinAt := none, syncinGood := 0 } })

/-! ### The downbeat's part (R504, R527) -/

/-- At the end of a frame: limits and error saturations of the frame become those of the last frame; a phase whose readings were in range
for the whole frame loses its IMON bits. -/
def regulatorDownbeat (s : State) : State :=
  let phases := s.reg.phases.map (fun x => { x with
    limitedLast := x.limitedFrame, limitedFrame := false
    imonHigh := x.imonHigh && x.imonBad, imonLow := x.imonLow && x.imonBad, imonBad := false })
  let rails := s.reg.rails.map (fun r => { r with errSatLast := r.errSatFrame, errSatFrame := false })
  { s with reg := { s.reg with phases := phases, rails := rails } }

/-- Overlapping phase sets at a start-up or reload: the lower-numbered rail owns each phase (R492). -/
def resolvePhaseSets (s : State) : State :=
  ((List.range 16).foldl (fun (acc : State × Nat) n =>
    let t := acc.1
    let own := t.get (railObj n) 1
    let kept := (setBits 16 own).filter (fun p => !bit acc.2 p)
    let inForce := kept.foldl setBit 0
    if inForce = own then (t, acc.2 ||| own)
    else (logStateChange (t.set (railObj n) 1 inForce) (railObj n) 1 own inForce, acc.2 ||| own)) (s, 0)).1

end Sys2Proof.Machine
end

