-- ==== Sys2Proof/Machine/Supervision.lean ====
section
/-!
DEFINITION. Supervision (chapter 14): comparators, faults and their actions, retries and latches, warnings, the stage and die shutdowns of
R514 to R517, and the cancellation of a pre-arm (R473), which a fault can bring about.
-/

namespace Sys2Proof.Machine

/-- The index of a rail's supervisor object. -/
def supObj (n : Nat) : Nat := 0x4100 + n

/-- Vectors, in the order they are raised. -/
def raiseEv (s : State) (source vector : Nat) : State := raiseVector (raise s source) vector

/-! ### Pre-arm cancellation (R473, R474, R479, R480) -/

/-- The pre-arm stands in PREARMED or HELD. -/
def State.prearmed (s : State) : Bool := s.get 0x3241 1 == 1 || s.get 0x3241 1 == 2

/-- A pre-armed rail is commanded back: a raised one to its LISTEN target, an enabled one to 0 V (R473). -/
def prearmBack (s : State) (n : Nat) (enabledIt : Bool) : State :=
  if !(s.rail n).enabled then s
  else
    let listen := s.get (railObj n) 7
    if enabledIt || listen = 0 then railDisable s n false else railCommand s n listen false false

/-- The pre-arm is cancelled with a cause of 0x3241:06. A rail that a fault has taken off keeps its own fault action (R479); on cause 3 no rail
ramps back (R480). Every cause but 1 is logged. -/
def prearmCancel (s : State) (cause : Nat) : State :=
  if !s.prearmed then s
  else
    let acted := s.touch.acted
    let w := s.get 0x3241 2
    let w := acted.foldl (fun w e => if bit w e.1 then setBit (clearBit w e.1) (16 + e.1) else w) w
    let s := s.set 0x3241 2 w
    let s := { s with touch := { s.touch with acted := [] } }
    let s := if cause = 3 then s
      else acted.foldl (fun t e => prearmBack t e.1 e.2) s
    let old := s.get 0x3241 6
    let s := (s.count 0x3241 4).set 0x3241 6 cause
    let s := raiseEv s 491 269
    let s := if cause = 1 then s else logStateChange s 0x3241 6 old cause
    s.set 0x3241 1 (if s.get 0x3240 5 = 0 then 0 else 3)

/-! ### Faults (R546 to R549, R551) -/

/-- The bit of the events latch for a cause: OV 8, UV 9, OC 10, STAGE_OT 11, DIE_OT 12, PWM_LOSS 13, GROUP 14. -/
def causeBit (cause : Nat) : Nat := 7 + cause

/-- What every fault reports (R551). -/
def reportFault (s : State) (n cause : Nat) : State :=
  let s := s.setFlag (supObj n) 12 (causeBit cause) true
  let s := s.set (supObj n) 17 cause
  let s := s.count (supObj n) 16
  raiseEv (emcyLog s 0xFF81 (16 * cause + n)) (464 + n) 263

/-- The EXEN of MONEXEN is driven low when a fault takes the rail off (Table 14.6). -/
def dropMonExen (s : State) (n : Nat) : State :=
  let m := bits (s.get (supObj n) 7) 0 4
  if m < 8 then s.setFlag 0x4205 1 m false else s

/-- The rail goes off by fault, keeping what a retry or a clear needs (R546, R548). -/
def offByFault (s : State) (n : Nat) : State :=
  let r := s.rail n
  let s := dropMonExen (railOff s n) n
  s.setSup n { s.sup n with
    wasEnabled := r.enabled && !r.disabling, faultTarget := r.target, transition := false, warnings := 0 }

/-- The rail is latched (R547). -/
def latchRail (s : State) (n : Nat) : State := s.setSup n { s.sup n with latched := true, retryPending := false, delayOver := false }

/-- The fault action on the faulting rail itself (R547): `ramping` is a fault while ramping to 0 V for a disable, which is not retried. -/
def faultAction (s : State) (n cause : Nat) (ramping : Bool) : State :=
  let w := s.get (supObj n) 7
  let p := s.sup n
  match bits w 14 2 with
  | 1 =>
    if ramping then s
    else if p.retries + 1 > bits w 4 4 then emcyLog (latchRail s n) 0xFF83 (16 * cause + n)
    else s.setSup n { p with retryPending := true, delayOver := false }
  | _ => latchRail s n

/-- One fault of one rail: off by fault, its action, its report. -/
def faultOne (s : State) (n cause : Nat) : State :=
  let ramping := (s.rail n).disabling
  faultAction (reportFault (offByFault s n) n cause) n cause ramping

/-- The other enabled rails of a fault group (Table 14.6). -/
def State.groupOf (s : State) (n : Nat) : List Nat :=
  (List.range 16).filter (fun m =>
    m != n && (s.rail m).enabled && bits (s.get (supObj m) 7) 11 3 == bits (s.get (supObj n) 7) 11 3)

/-- One rail taken down by another's SHUT_GROUP: latched, cause 7. -/
def faultGroupMember (s : State) (n : Nat) : State := latchRail (reportFault (offByFault s n) n 7) n

/-- With SHUT_GROUP the other enabled rails of a faulting rail's group follow (R547). -/
def shutGroup (s : State) (n : Nat) : State :=
  if bits (s.get (supObj n) 7) 14 2 = 2 then (s.groupOf n).foldl faultGroupMember s else s

/-- A pre-arm with a rail that a fault has taken off is cancelled for the others (R479). -/
def prearmFault (s : State) : State :=
  if s.prearmed && (List.range 16).any (fun n => s.flag 0x3241 2 n && (s.rail n).offByFault) then prearmCancel s 4 else s

/-- A fault is taken on those of the rails that are enabled (R546): each has its own cause and action, then the groups follow (R547). -/
def takeFaults (s : State) (rails : List Nat) (cause : Nat) : State :=
  let on := rails.filter (fun n => (s.rail n).enabled)
  if on.isEmpty then s
  else refreshErrors (prearmFault (on.foldl shutGroup (on.foldl (fun t n => faultOne t n cause) s)))

/-- A fault on one rail. -/
def takeFault (s : State) (n cause : Nat) : State := takeFaults s [n] cause

/-- A rail whose sense input is open is not enabled, and shows SENSE_OPEN (R77). -/
def refuseSense (s : State) (n : Nat) : State := s.setRail n { s.rail n with senseOpen := true }

/-- The check of R77 before an enabling that no command with the readings brings: the two readings are free values. -/
def readSense (s : State) : State × Bool := (s.draw.draw, senseIsOpen (Config.random s.draws 4) (Config.random (s.draws + 1) 4))

/-- A retry re-enables the rail once its delay has ended and everything concerned has released (R547). One that finds the sense input open is spent, and leaves
the rail latched (R77; log entry 198). -/
def tryRetry (s : State) (n : Nat) : State :=
  let p := s.sup n
  if p.retryPending && p.delayOver && !p.ov && !p.uv && !p.oc && !s.shutConcerned n && (s.monitor n || s.clocks.pllD) then
    let r := readSense s
    let s := r.1.setSup n { p with retryPending := false, delayOver := false, retries := p.retries + 1 }
    refreshErrors (if r.2 then latchRail (refuseSense s n) n else railEnable s n p.faultTarget)
  else s

/-- A latch clears without re-enabling the rail (R548). -/
def clearLatchOnly (s : State) (n : Nat) : State :=
  let p := s.sup n
  if p.latched && !p.lbist then
    (s.setSup n { p with latched := false, retries := 0, wasEnabled := false }).setRail n { s.rail n with offByFault := false }
  else s

/-- Every latch clears at a completed transition to KEEPALIVE or below (R548). -/
def clearLatches (s : State) : State := refreshErrors ((List.range 16).foldl clearLatchOnly s)

/-- The clear-latch command (R548), with the check of R77 where it would re-enable the rail. -/
def clearLatch (s : State) (n : Nat) (senseOpen : Bool) : State × Status :=
  let p := s.sup n
  if !p.latched then (s, .ok)
  else if p.lbist || p.ov || p.uv || p.oc || s.shutConcerned n || (!s.monitor n && !s.clocks.pllD) then (s, .incompatible)
  else if p.wasEnabled && senseOpen then (refuseSense s n, .incompatible)
  else
    let s' := clearLatchOnly s n
    (refreshErrors (if p.wasEnabled then railEnable s' n p.faultTarget else s'), .ok)

/-- A comparator's input lies beyond its fault level (R544): OV (0) and UV (1) the sensed voltage in µV at the rail's sense pair, against the reference, the transition
margin added to OV's threshold; OC (2) the rail current in mA. -/
def State.beyondFault (s : State) (n cause value : Nat) : Bool :=
  let o := supObj n
  let v : Rat := (value : Rat) / 10
  match cause with
  | 0 => decide (v > s.vreg n * (1000 + s.get o 1 : Nat) / 1000 + (if (s.sup n).transition then 100 * s.get o 10 else 0 : Nat))
  | 1 => decide (v < s.vreg n * ((1000 : Rat) - (s.get o 4 : Nat)) / 1000)
  | _ => !s.monitor n && s.get o 6 != 0 && decide (value > 100 * s.get o 6)

/-- A comparator's input lies past its release level (R544): its warning level, or the OC fault level where the OC warning is off. A rail that is not enabled is not
judged, and its comparators release as their inputs say (log entry 240). -/
def State.pastRelease (s : State) (n cause value : Nat) : Bool :=
  let o := supObj n
  let v : Rat := (value : Rat) / 10
  !(s.rail n).enabled ||
  match cause with
  | 0 => decide (v < s.vreg n * (1000 + s.get o 2 : Nat) / 1000)
  | 1 => decide (v > s.vreg n * ((1000 : Rat) - (s.get o 3 : Nat)) / 1000)
  | _ => decide (value < 100 * (if s.get o 5 = 0 then s.get o 6 else s.get o 5))

/-- SUPERVISOR_FAULT as the comparators give it: OV, UV or OC has asserted, its input beyond the level for 1 µs (R544 to R546). UV in transition is no fault. -/
def comparatorAsserts (s : State) (n cause value : Nat) : State :=
  let p := s.sup n
  if !(s.rail n).enabled || !s.beyondFault n cause value then s
  else
    let s := s.setSup n (match cause with
      | 0 => { p with ov := true }
      | 1 => { p with uv := true }
      | _ => { p with oc := true })
    if cause = 1 && p.transition then s else takeFault s n (cause + 1)

/-- A comparator releases (R544), letting a pending retry re-enable the rail. -/
def comparatorReleases (s : State) (n cause value : Nat) : State :=
  let p := s.sup n
  if !s.pastRelease n cause value then s
  else
    let s := s.setSup n (match cause with
      | 0 => { p with ov := false }
      | 1 => { p with uv := false }
      | _ => { p with oc := false })
    refreshErrors (tryRetry s n)

/-- The settle time ends the transition of a rail whose command has completed; a UV still asserted is a fault (R545). -/
def settleEnds (s : State) (n : Nat) : State :=
  let p := s.sup n
  if !p.transition || (s.rail n).slewing then s
  else
    let s := s.setSup n { p with transition := false }
    if p.uv && (s.rail n).enabled then takeFault s n 2 else s

/-- The present-state word of a supervisor (Table 14.5, 0D). -/
def supPresent (s : State) (n : Nat) : Nat :=
  let p := s.sup n
  let judging := (s.rail n).enabled && s.hkValid n && !p.transition
  (p.warnings % 8) + 8 * b2n p.ov + 16 * b2n p.uv + 32 * b2n p.oc + (min p.retries 15 <<< 8) + (b2n judging <<< 12)
    + (b2n p.transition <<< 13) + (b2n p.retryPending <<< 14) + (b2n p.latched <<< 15)

/-! ### Shutdown comparators (R514 to R517) -/

/-- A rail that waits for a retry and that a further fault concerns counts one and waits afresh (R559). -/
def restartRetry (s : State) (n : Nat) : State :=
  let p := s.sup n
  if !p.retryPending then s
  else if p.retries + 1 > bits (s.get (supObj n) 7) 4 4 then latchRail s n
  else s.setSup n { p with delayOver := false, retries := p.retries + 1 }

/-- A fault that concerns several rails at once: those that wait for a retry wait afresh, the enabled ones are off by fault. -/
def faultAll (s : State) (rails : List Nat) (cause : Nat) : State :=
  takeFaults (rails.foldl restartRetry s) rails cause

/-- The voltage of a group's temperature level (0x4024 + g, sub-index 03 warning, 04 shutdown) times 10, in µV: V0 + S × T (R512, R514). -/
def State.tmonLevel (s : State) (g sub : Nat) : Int := 10000 * s.get (0x4024 + g) 2 + s.get (0x4024 + g) 1 * s.getS (0x4024 + g) sub

/-- A group's shutdown comparator asserts: every enabled rail with a phase in it is off by fault with cause STAGE_OT (R515). `uv` is what TMON has shown for 1 µs. -/
def tmonShutdown (g uv : Nat) (s : State) : State :=
  if 10 * (uv : Int) ≤ s.tmonLevel g 4 then s
  else
    let s := { s with reg := { s.reg with tmonShut := s.reg.tmonShut.set g true } }
    let s := s.setFlag (0x4024 + g) 6 1 true
    faultAll s ((List.range 16).filter (fun n => (s.phaseList n).any (fun p => s.get (0x4000 + p) 4 == g))) 4

/-- A die shutdown: every PWM ball at high impedance, the charge stage off, and every enabled rail off by fault with cause DIE_OT (R516). `tenths` is what the sensor
has shown for 1 µs, in 0.1 °C. -/
def dieShutdown (k : Nat) (tenths : Int) (s : State) : State :=
  if tenths ≤ 1500 then s
  else
    let s := { s with reg := { s.reg with dieShut := s.reg.dieShut.set k true } }
    let s := s.setFlag 0x4028 4 1 true
    faultAll { s with pack := { s.pack with stageOff := true } } (List.range 16) 5

/-- A shutdown comparator's input has fallen below the voltage of its warning level (R514): µV of a TMON group (0 to 3), 0.1 °C of a die sensor (4 to 7). -/
def State.belowWarning (s : State) (k : Nat) (value : Int) : Bool := if k < 4 then decide (10 * value < s.tmonLevel k 3) else decide (value < 1250)

/-- SHUTDOWN_RELEASE: a comparator releases below its warning level (R514): 0 to 3 the groups, 4 to 7 the die sensors. -/
def actShutdownRelease (comparator : Fin 8) (value : Int) (s : State) : State :=
  let k := comparator.val
  if !s.belowWarning k value then s
  else
    let s :=
      if k < 4 then ({ s with reg := { s.reg with tmonShut := s.reg.tmonShut.set k false } } : State).setFlag (0x4024 + k) 6 1 false
      else
        let t := { s with reg := { s.reg with dieShut := s.reg.dieShut.set (k - 4) false } }
        t.setFlag 0x4028 4 1 (t.reg.dieShut.any id)
    let s := if s.reg.dieShut.any id then s else { s with pack := { s.pack with stageOff := false } }
    refreshErrors ((List.range 16).foldl tryRetry s)

/-! ### Warnings on telemetry (R550) -/

/-- One output of a warning's input: whether it lay beyond the level, whether inside by the hysteresis. -/
def WarnTrack.add (w : WarnTrack) (beyond inside : Bool) : WarnTrack :=
  ⟨w.beyond && beyond, w.inside && inside, w.outputs + 1⟩

/-- The rail voltage in mV from telemetry: ÷ (2 × sense scaling) at HK (Table 11.2). -/
def State.railMv (s : State) (n : Nat) : Int := divRound (s.hkMicro n * 2 * (s.scaling n : Int)) 1000

/-- The rail current in 100 mA units × 100 from its phases' IMON values in 0x3120, in mA. -/
def State.railMa (s : State) (n : Nat) : Int :=
  ((s.phaseList n).map (fun p => 10 * s.phaseCurrent p (s.hkMicro (16 + p)).toNat)).sum

/-- A rail's voltage output: sub-index 0E follows it, and the OV and UV warnings are tracked outside a transition. -/
def supVoltage (s : State) (n : Nat) : State :=
  let mv := s.railMv n
  let s := s.set (railObj n) 14 (clampInt 0 65535 mv).toNat
  let p := s.sup n
  if !(s.rail n).enabled || p.transition then s
  else
    let ref := s.vreg n
    let v : Rat := 100 * mv
    let h := s.get (supObj n) 9
    let ov := s.get (supObj n) 2
    let uv := s.get (supObj n) 3
    s.setSup n { p with
      trackOv := p.trackOv.add (decide (v > ref * (1000 + ov : Nat) / 1000)) (decide (v ≤ ref * ((1000 + ov : Nat) - (h : Rat)) / 1000))
      trackUv := p.trackUv.add (decide (v < ref * ((1000 : Rat) - (uv : Rat)) / 1000))
        (decide (v ≥ ref * ((1000 : Rat) - (uv : Rat) + (h : Rat)) / 1000)) }

/-- A phase's current output: the OC warning of its rail is tracked. A monitor rail has none (R539a). -/
def supCurrent (s : State) (phase : Nat) : State :=
  match s.owner phase with
  | none => s
  | some n =>
    let p := s.sup n
    let lvl := s.get (supObj n) 5
    if !(s.rail n).enabled || p.transition || lvl = 0 || !((s.phaseList n).all (fun q => s.hkValid (16 + q))) then s
    else
      let i := s.railMa n
      let h := s.get (supObj n) 9
      s.setSup n { p with trackOc := p.trackOc.add (decide (i > 100 * lvl)) (decide (i * 1000 ≤ 100 * lvl * (1000 - h))) }

/-- A raised warning reports (R15, R550): cause 1 OV, 2 UV, 3 OC. -/
def raiseWarning (s : State) (n cause : Nat) : State :=
  let p := s.sup n
  let s := s.setSup n { p with warnings := setBit p.warnings (cause - 1) }
  let s := s.setFlag (supObj n) 12 (cause - 1) true
  let s := s.count (supObj n) 15
  raiseEv (emcyLog s 0xFF80 (16 * cause + n)) (464 + n) 262

/-- One warning is judged at the end of a frame. -/
def judgeWarning (s : State) (n cause : Nat) (w : WarnTrack) : State :=
  let p := s.sup n
  let present := bit p.warnings (cause - 1)
  if w.outputs = 0 then s
  else if !present && w.beyond then raiseWarning s n cause
  else if present && w.inside then s.setSup n { p with warnings := clearBit p.warnings (cause - 1) }
  else s

/-- A rail's warnings at the downbeat. A rail that is not enabled has none present (R544: it is not judged; log entry 31). -/
def supDownbeatRail (s : State) (n : Nat) : State :=
  let p := s.sup n
  let s := if (s.rail n).enabled then
      judgeWarning (judgeWarning (judgeWarning s n 1 p.trackOv) n 2 p.trackUv) n 3 p.trackOc
    else s.setSup n { p with warnings := 0 }
  s.setSup n { s.sup n with trackOv := WarnTrack.reset, trackUv := WarnTrack.reset, trackOc := WarnTrack.reset }

/-- The supervisors' part of the downbeat (R550, R552). -/
def supervisionDownbeat (s : State) : State := (List.range 16).foldl supDownbeatRail s

/-! ### Stage and die warnings (R512, R513) -/

/-- A group reading in 0.1 °C (R512): limited to −40.0 to +150.0 °C, and +150.0 °C from 1.790 V or from the scaling's own +150.0 °C. -/
def groupReading (slope v0 : Nat) (uv : Int) : Int :=
  let t := divRound ((uv - 1000 * (v0 : Int)) * 10) (max 1 slope)
  if uv ≥ 1790000 then 1500 else clampInt (-400) 1500 t

/-- A warning of a group (0 to 3) or die sensor (4 to 7) rises: its EMCY 0xFF73, record, event 496 and vector 264. -/
def raiseStageWarning (s : State) (k : Nat) : State :=
  let s := if k < 4 then
      ({ s with reg := { s.reg with tmonWarn := s.reg.tmonWarn.set k true } } : State).setFlag (0x4024 + k) 6 0 true
    else ({ s with reg := { s.reg with dieWarn := s.reg.dieWarn.set (k - 4) true } } : State).setFlag 0x4028 4 0 true
  raiseEv (emcyLog s 0xFF73 k) 496 264

/-- One group or die warning judged at the downbeat, only while its telemetry input is VALID. -/
def judgeStage (s : State) (k : Nat) : State :=
  let valid := if k < 4 then s.hkValid (32 + k) else s.hkValid (32 + k)
  let reading := if k < 4 then s.getS (0x4024 + k) 5 else s.getS 0x4409 (k - 3)
  let level : Int := if k < 4 then s.getS (0x4024 + k) 3 else 1250
  let present := if k < 4 then nth s.reg.tmonWarn k false else nth s.reg.dieWarn (k - 4) false
  if !valid then s
  else if !present && decide (reading ≥ level) then raiseStageWarning s k
  else if present && decide (reading < level - 50) then
    if k < 4 then ({ s with reg := { s.reg with tmonWarn := s.reg.tmonWarn.set k false } } : State).setFlag (0x4024 + k) 6 0 false
    else
      let t := { s with reg := { s.reg with dieWarn := s.reg.dieWarn.set (k - 4) false } }
      t.setFlag 0x4028 4 0 (t.reg.dieWarn.any id)
  else s

/-- The stage and die warnings of a frame (R513). -/
def stageDownbeat (s : State) : State := (List.range 8).foldl judgeStage s

end Sys2Proof.Machine
end

