-- ==== Sys2Proof/Machine/Beat.lean ====
section
/-!
DEFINITION. The downbeat's lock to SYNC (chapter 4): the frame configuration and its apply, the phase error, the lock states and the length of a frame. Times are
in half nanoseconds.
-/

namespace Sys2Proof.Machine

/-- A frame-configuration object in force. -/
def State.frameConf (s : State) (sub : Nat) : Nat := s.inForce 0x2100 sub

/-- The nominal frame length F in half ns. -/
def State.nominal (s : State) : Nat := 2000 * s.frameConf 1

/-- The SYNC ratio k. -/
def State.ratio (s : State) : Nat := max 1 (s.frameConf 2)

/-- The expected SYNC period k × F in half ns (R119). -/
def State.syncPeriod (s : State) : Nat := s.ratio * s.nominal

/-- The QUIET share (0x2100:09) that four phase shares leave. -/
def quietShare (shares : List Nat) : Nat := 1000 - shares.sum

/-- The staged shares LISTEN, SCAN, PROCESS, REPORT. -/
def State.stagedShares (s : State) : List Nat := [4, 5, 6, 7].map (s.get 0x2100)

/-- The staged frame configuration passes Table 4.2 (R113). -/
def State.frameOk (s : State) : Bool :=
  let f := s.get 0x2100 1
  let k := s.get 0x2100 2
  let l := s.stagedShares
  let q := quietShare l
  decide (nth l 0 0 ≤ 200) && decide (100 ≤ nth l 1 0) && decide (nth l 1 0 ≤ 900) && decide (50 ≤ nth l 2 0) && decide (nth l 2 0 ≤ 500)
    && decide (50 ≤ nth l 3 0) && decide (nth l 3 0 ≤ 500) && decide (20 ≤ q) && decide (10 ≤ f * q / 1000)
    && decide (500 ≤ k * f) && decide (k * f ≤ 1280000) && decide (s.get 0x2100 3 < f)

/-- 0x1006 agrees with a frame configuration: 0, or k × F (R119). -/
def periodOk (v k f : Nat) : Bool := v == 0 || v == k * f

/-- The staged set 0x2100:01 to :07. -/
def State.stagedFrame (s : State) : List Nat := (List.range 7).map (fun k => s.get 0x2100 (k + 1))

/-- A value of 0x1006 agrees with the frame configuration that the next downbeat will find: the one in force, or the checked set that waits (R119; log entry
199). -/
def State.periodFits (s : State) (v : Nat) : Bool :=
  match s.beat.applySet with
  | some l => periodOk v (nth l 1 0) (nth l 0 0)
  | none => periodOk v s.ratio (s.frameConf 1)

/-- The check of an apply of the frame configuration (R113, R119). -/
def applyFrame (s : State) : State × Status :=
  if s.frameOk && periodOk (s.get 0x1006 0) (s.get 0x2100 2) (s.get 0x2100 1) then
    ({ s with beat := { s.beat with applySet := some s.stagedFrame } }, .ok)
  else (s, .incompatible)

/-- APPLY_FRAME_CONFIGURATION (R113): 1 to 0x2100:08. -/
def actApplyFrameConfiguration (port : Port) (s : State) : State := portCommand s port 0x2100 8 applyFrame

/-! ### The lock states (R120, Table 4.7) -/

/-- The lock state: 0 FREE, 1 ACQUIRE, 2 LOCKED, 3 MISMATCH. -/
def State.lock (s : State) : Nat := s.get 0x2101 3

/-- The lock state changes (event 462, vector 266); entering LOCKED clears SYNC_LOST, leaving MISMATCH clears SYNC_MISMATCH (R123, R124). -/
def setLock (s : State) (n : Nat) : State :=
  let old := s.lock
  if old = n then s
  else
    let s := s.set 0x2101 3 n
    let s := if n = 2 then s.setFlag 0x2101 4 0 false else s
    let s := if old = 3 then s.setFlag 0x2101 4 1 false else s
    let s : State := if n = 1 || n = 2 then { s with beat := { s.beat with acquired := true } } else s
    logVerbose (raiseVector (raise s 462) 266) 0x2101 3 old n

/-- ACQUIRE is entered from FREE or MISMATCH: drift and applied start at 0 (R121). -/
def enterAcquire (s : State) : State :=
  let s := setLock s 1
  { s with beat := { s.beat with drift := 0, applied := 0, residual := 0, farRun := 0, offRun := 0 } }

/-- FREE: nominal F, drift held at 0 (R123), with SYNC_LOST and its record where the device has been in ACQUIRE or LOCKED (R27). -/
def enterFree (s : State) : State :=
  let s : State := { s with beat := { s.beat with
    drift := 0, residual := 0, applied := 0, missRun := 0, farRun := 0, offRun := 0, goodRun := 0 } }
  let lost := s.beat.acquired && decide (s.lock ≠ 0)
  let s := setLock s 0
  if lost then logCondition (s.setFlag 0x2101 4 0 true) 0x2101 4 0 true 0 else s

/-- A SYNC period counts as missing: the third in a row leads to FREE (R122, R123). -/
def periodMissing (s : State) : State :=
  let n := s.beat.missRun + 1
  if n ≥ 3 then enterFree s else { s with beat := { s.beat with missRun := n } }

/-- The downbeat nearest a target, as the number of frames after the last one, and the phase error: positive when the downbeat is late. The next downbeat is predicted
from the length of the frame that runs, and each one after it from F, without drift and residual (the model's choice, log entry 200). -/
def State.phaseError (s : State) (at_ : Nat) : Nat × Int :=
  let f := s.nominal
  let target : Int := (at_ : Int) + 2000 * (s.frameConf 3 : Int)
  let e0 : Int := (s.beat.lastHalf : Int) - target
  let e1 := e0 + s.beat.lenHalf
  let within (e : Int) : Bool := decide (-(f : Int) < 2 * e) && decide (2 * e ≤ f)
  if within e0 then (0, e0)
  else if within e1 then (1, e1)
  else if within (e1 + f) then (2, e1 + f)
  else
    let w := e1 % f
    (1, if 2 * w ≤ f then w else w - f)

/-- The choice of the SYNC-aligned downbeat (R119): when it moves, 0x2101:06 is renumbered from the next downbeat. -/
def chooseAligned (s : State) (j : Nat) : State :=
  let k := s.ratio
  if (s.get 0x2101 6 + j) % k = 0 then s
  else { s with beat := { s.beat with renumber := some ((2 * k + 1 - j) % k) } }

/-- A rational limited to ±b. -/
def clampRat (b x : Rat) : Rat := max (-b) (min b x)

/-- Half a reception's part of R121: drift from the change of e, then the residual and the filtered error. 0x2101:05 shows it in whole ns, rounded down (the
model's choice, log entry 201). -/
def correct (s : State) (e : Int) (recent : Bool) : State :=
  let b := s.beat
  let drift := if recent then clampRat (s.nominal / 1000 : Rat) (b.drift + ((e : Rat) - b.ePrev + b.applied) / (4 * s.ratio : Nat)) else b.drift
  let locked := s.lock == 2
  let ef := if locked then b.ef + ((e : Rat) - b.ef) / 4 else e
  let residual : Rat := if locked then (e : Rat) / 4 else e
  let s : State := { s with beat := { b with drift := drift, ePrev := e, applied := 0, ef := ef, residual := residual } }
  s.setS 0x2101 5 (satSigned 32 ((ef / 2).floor))

/-- The comparison of a period with k × F: off by more than 0.2 % (R120, R124). -/
def State.periodOff (s : State) (period : Nat) : Bool :=
  decide (((period : Int) - s.syncPeriod).natAbs * 500 > s.syncPeriod)

/-- The period mismatch of R124: eight in a row off lead to MISMATCH, eight in a row good leave it. -/
def judgePeriod (s : State) (off : Bool) : State :=
  if s.lock = 3 then
    let n := if off then 0 else s.beat.goodRun + 1
    let s : State := { s with beat := { s.beat with goodRun := n } }
    if n ≥ 8 then enterAcquire s else s
  else
    let n := if off then s.beat.offRun + 1 else 0
    let s : State := { s with beat := { s.beat with offRun := n } }
    if n ≥ 8 then
      let s : State := { s with beat := { s.beat with offRun := 0, goodRun := 0, drift := 0, residual := 0, applied := 0 } }
      emcyLog ((setLock s 3).setFlag 0x2101 4 1 true) 0xFF10 0
    else s

/-- The phase closes or is lost (R120): ACQUIRE to LOCKED within ±2 µs, LOCKED to ACQUIRE beyond ±10 µs twice in a row. -/
def judgePhase (s : State) (e : Int) : State :=
  if s.lock = 1 then (if e.natAbs ≤ 4000 then setLock { s with beat := { s.beat with farRun := 0 } } 2 else s)
  else if s.lock = 2 then
    let n := if e.natAbs > 20000 then s.beat.farRun + 1 else 0
    let s : State := { s with beat := { s.beat with farRun := n } }
    if n ≥ 2 then setLock { s with beat := { s.beat with farRun := 0 } } 1 else s
  else s

/-- An accepted SYNC reception as the lock takes it (R119 to R124): `at_` is its validation instant. A reception in LOCKED with |e| above 200 µs is rejected
and stands for its period (R122). -/
def lockReception (s : State) (at_ : Nat) : State :=
  let choice := s.phaseError at_
  if s.lock = 2 && choice.2.natAbs > 400000 then periodMissing (s.count 0x2101 8)
  else
    let prev := s.beat.prevAt
    let period := prev.map (fun p => at_ - p)
    let s : State := { s with beat := { s.beat with missRun := 0, prevAt := some at_ } }
    let s := match period with
      | some d => if s.lock = 0 then s else judgePeriod s (s.periodOff d)
      | none => s
    let s := if s.lock = 0 then enterAcquire s else s
    let s := chooseAligned s choice.1
    let recent := match period with
      | some d => decide (d ≤ 2 * s.syncPeriod)
      | none => false
    let s := correct s choice.2 (recent && s.lock ≠ 3)
    if s.lock = 3 then { s with beat := { s.beat with residual := 0, drift := 0 } } else judgePhase s choice.2

/-- The length of a new frame and what R121 keeps of the correction. In FREE and MISMATCH the frame is nominal. 0x2101:02 shows the length in whole ns, rounded
down (the model's choice, log entry 201). -/
def nextLength (s : State) : State :=
  let b := s.beat
  let f : Rat := (s.nominal : Rat)
  let step : Rat := if s.lock = 0 || s.lock = 3 then 0 else clampRat (f / 200) (b.drift + b.residual)
  let len := 5 * (((f - step) / 5 + 1 / 2).floor).toNat
  let s : State := if s.lock = 0 || s.lock = 3 then { s with beat := { b with lenHalf := len } }
    else { s with beat := { b with lenHalf := len, residual := b.residual - (step - b.drift), applied := b.applied + (step - b.drift) } }
  s.set 0x2101 2 (len / 2)

/-- The checked set of an accepted apply takes effect at the downbeat (R113, R128), whatever has been staged since: in ACQUIRE and LOCKED the state becomes ACQUIRE
and drift 0. 0x2100:09 shows the share that the set in force leaves, while 0x2100:04 to :07 read what is staged (the model's choice, log entry 202). -/
def frameInForce (s : State) : State :=
  match s.beat.applySet with
  | none => s
  | some l =>
    let s := (s.putInForce 0x2100 1 l).set 0x2100 9 (quietShare ((l.drop 3).take 4))
    let s : State := { s with beat := { s.beat with applySet := none } }
    if s.lock = 1 || s.lock = 2 then setLock { s with beat := { s.beat with drift := 0 } } 1 else s

end Sys2Proof.Machine
end

