-- ==== Sys2Proof/Machine/Crypto.lean ====
section
/-!
DEFINITION. The checks and cryptographic functions that the spec names by their standards: CRC-32 (R161), the CRC of CiA 301's block
transfers (R224), SHA-256, HMAC-SHA-256 (R588, R594, R720) and ECDSA over P-256 (R679). Bytes are numbers below 256.
-/

namespace Sys2Proof.Machine

/-- Steps of the reflected CRC-32 over the low bits of its register. -/
def crc32Bits : Nat → Nat → Nat
  | 0, r => r
  | n + 1, r => crc32Bits n (if r % 2 = 1 then (r / 2) ^^^ 0xEDB88320 else r / 2)

/-- CRC-32 of a byte string: polynomial 0x04C1_1DB7 reflected, initial value and final XOR 0xFFFF_FFFF (R161). -/
def crc32 (bs : List Nat) : Nat := (bs.foldl (fun r b => crc32Bits 8 (r ^^^ (b % 256))) 0xFFFFFFFF) ^^^ 0xFFFFFFFF

/-- Steps of the CRC-16 with polynomial 0x1021. -/
def crc16Bits : Nat → Nat → Nat
  | 0, r => r
  | n + 1, r => crc16Bits n (if r ≥ 0x8000 then ((2 * r) % 65536) ^^^ 0x1021 else 2 * r)

/-- The CRC of CiA 301's SDO block transfer: polynomial 0x1021, initial value 0 (R224). -/
def crc16 (bs : List Nat) : Nat := bs.foldl (fun r b => crc16Bits 8 (r ^^^ (b % 256 * 256))) 0

/-! ### SHA-256 -/

/-- The first 64 primes: the numbers up to 311 that no prime below 18 divides, and those primes. -/
def firstPrimes : List Nat :=
  let small := [2, 3, 5, 7, 11, 13, 17]
  (List.range 312).filter (fun n => decide (1 < n) && small.all (fun d => n == d || n % d != 0))

/-- The largest number whose k-th power is at most x, found from bit n downwards; `r` holds the bits found. -/
def rootFrom (k x : Nat) : Nat → Nat → Nat
  | 0, r => r
  | n + 1, r => rootFrom k x n (if (r + 2 ^ n) ^ k ≤ x then r + 2 ^ n else r)

/-- The first 32 bits after the point of the k-th root of p. -/
def rootFraction (k p : Nat) : Nat := rootFrom k (p * 2 ^ (32 * k)) 40 0 % 2 ^ 32

/-- The chaining value before the first block: the square roots of the first eight primes. -/
def sha256H : List Nat := (firstPrimes.take 8).map (rootFraction 2)

/-- The constant of each of the 64 rounds: the cube roots of the first 64 primes. -/
def sha256K : List Nat := firstPrimes.map (rootFraction 3)

/-- A 32-bit word rotated right. -/
def rotated (x n : Nat) : Nat := x * 2 ^ (32 - n) % 2 ^ 32 + x / 2 ^ n

/-- The word that follows in the message schedule the words so far, which stand newest first. -/
def nextWord (w : List Nat) : Nat :=
  let old := nth w 14 0
  let late := nth w 1 0
  (nth w 15 0 + nth w 6 0 + (rotated old 7 ^^^ rotated old 18 ^^^ old / 2 ^ 3) + (rotated late 17 ^^^ rotated late 19 ^^^ late / 2 ^ 10)) % 2 ^ 32

/-- The 64 words of a block's schedule, newest first: 16 of the block, and `n` that follow. -/
def schedule : Nat → List Nat → List Nat
  | 0, w => w
  | n + 1, w => schedule n (nextWord w :: w)

/-- The rounds over pairs of a constant and a word of the schedule. The working words are the last four of two sequences, each newest first, and every round adds
one word to each. -/
def sha256Rounds : List (Nat × Nat) → (a b c d e f g h : Nat) → List Nat
  | [], a, b, c, d, e, f, g, h => [a, b, c, d, e, f, g, h]
  | (k, x) :: rest, a, b, c, d, e, f, g, h =>
    let t := h + k + x + (rotated e 6 ^^^ rotated e 11 ^^^ rotated e 25) + (g ^^^ (e &&& (f ^^^ g)))
    sha256Rounds rest ((t + (rotated a 2 ^^^ rotated a 13 ^^^ rotated a 22) + ((a &&& (b ||| c)) ||| (b &&& c))) % 2 ^ 32) a b c ((d + t) % 2 ^ 32) e f g

/-- A byte string in groups of `n`. -/
def chunks (n : Nat) : Nat → List Nat → List (List Nat)
  | 0, _ => []
  | k + 1, l => if l.isEmpty then [] else l.take n :: chunks n k (l.drop n)

/-- One 64-byte block. -/
def sha256Block (v block : List Nat) : List Nat :=
  let w := schedule 48 ((chunks 4 16 block).map fromBE).reverse
  let r := sha256Rounds (sha256K.zip w.reverse) (nth v 0 0) (nth v 1 0) (nth v 2 0) (nth v 3 0) (nth v 4 0) (nth v 5 0) (nth v 6 0) (nth v 7 0)
  List.zipWith (fun x y => (x + y) % 2 ^ 32) v r

/-- The message with its padding: 0x80, zeros up to eight bytes before the end of a block, and the length in bits. -/
def sha256Pad (m : List Nat) : List Nat :=
  m ++ 0x80 :: List.replicate ((64 - (m.length + 9) % 64) % 64) 0 ++ toBE 8 (8 * m.length)

/-- SHA-256 of a byte string, as 32 bytes. -/
def sha256 (m : List Nat) : List Nat :=
  let p := sha256Pad m
  (((chunks 64 (p.length / 64) p).foldl sha256Block sha256H).map (toBE 4)).flatten

/-- HMAC-SHA-256 under a key of at most 64 bytes. -/
def hmacSha256 (key m : List Nat) : List Nat :=
  let k := key ++ List.replicate (64 - key.length) 0
  sha256 (k.map (· ^^^ 0x5C) ++ sha256 (k.map (· ^^^ 0x36) ++ m))

/-! ### ECDSA over P-256 -/

/-- The prime of P-256. -/
def p256P : Nat := 0xFFFFFFFF00000001000000000000000000000000FFFFFFFFFFFFFFFFFFFFFFFF
/-- The order of its base point. -/
def p256N : Nat := 0xFFFFFFFF00000000FFFFFFFFFFFFFFFFBCE6FAADA7179E84F3B9CAC2FC632551
/-- The constant of its equation. -/
def p256B : Nat := 0x5AC635D8AA3A93E7B3EBBD55769886BC651D06B0CC53B0F63BCE3C3E27D2604B
/-- The base point. -/
def p256G : Nat × Nat :=
  (0x6B17D1F2E12C4247F8BCE6E563A440F277037D812DEB33A0F4A13945D898C296,
   0x4FE342E2FE1A7F9B8EE7EB4A7C0F9E162BCE33576B315ECECBB6406837BF51F5)

/-- Powers modulo `m` by the bits of the exponent, highest of `n` first. -/
def powMod (m b e : Nat) : Nat → Nat
  | 0 => 1 % m
  | n + 1 =>
    let r := powMod m b (e / 2) n
    let r := r * r % m
    if e % 2 = 1 then r * b % m else r

/-- The inverse modulo a prime. -/
def invMod (m x : Nat) : Nat := powMod m (x % m) (m - 2) 256

/-- The sum of two points of the curve; `none` is the point at infinity. -/
def p256Add : Option (Nat × Nat) → Option (Nat × Nat) → Option (Nat × Nat)
  | none, q => q
  | p, none => p
  | some (x1, y1), some (x2, y2) =>
    let m := p256P
    if x1 = x2 && (y1 + y2) % m = 0 then none
    else
      let l :=
        if x1 = x2 then (3 * x1 * x1 + (m - 3)) * invMod m (2 * y1) % m
        else (y2 + (m - y1)) * invMod m (x2 + (m - x1)) % m
      let x3 := (l * l + (m - x1) + (m - x2)) % m
      some (x3, (l * (x1 + (m - x3)) + (m - y1)) % m)

/-- A multiple of a point. -/
def p256Mul (q : Option (Nat × Nat)) : Nat → Nat → Option (Nat × Nat)
  | 0, _ => none
  | n + 1, k =>
    let r := p256Mul q n (k / 2)
    let r := p256Add r r
    if k % 2 = 1 then p256Add r q else r

/-- ECDSA over P-256: a public key of 64 bytes (x then y, big-endian), a digest of 32 bytes and a signature of 64 (r then s, big-endian). -/
def ecdsaVerify (key digest sig : List Nat) : Bool :=
  let x := fromBE (key.take 32)
  let y := fromBE (key.drop 32)
  let r := fromBE (sig.take 32)
  let s := fromBE (sig.drop 32)
  let onCurve := decide (x < p256P) && decide (y < p256P)
    && decide (y * y % p256P = (x * x * x + (p256P - 3) * x + p256B) % p256P)
  if !onCurve || r = 0 || s = 0 || decide (r ≥ p256N) || decide (s ≥ p256N) then false
  else
    let w := invMod p256N s
    let u1 := fromBE digest * w % p256N
    let u2 := r * w % p256N
    match p256Add (p256Mul (some p256G) 256 u1) (p256Mul (some (x, y)) 256 u2) with
    | none => false
    | some (px, _) => decide (px % p256N = r)

/-! ### Logarithms -/

/-- Bits of a binary logarithm by repeated squaring: `m` holds a number of [1, 2) with 48 fractional bits. -/
def log2Bits : Nat → Nat → Nat → Nat
  | 0, _, acc => acc
  | n + 1, m, acc =>
    let m2 := m * m / 2 ^ 48
    if m2 ≥ 2 ^ 49 then log2Bits n (m2 / 2) (2 * acc + 1) else log2Bits n m2 (2 * acc)

/-- The binary logarithm of a positive fraction, in 2^-40 (log entry 40). -/
def log2Fix (num den : Nat) : Int :=
  let e : Int := (Nat.log2 num : Int) - (Nat.log2 den : Int)
  let m := if 0 ≤ e then num * 2 ^ 48 / (den * 2 ^ e.toNat) else num * 2 ^ (48 + (-e).toNat) / den
  let (m, e) := if m < 2 ^ 48 then (2 * m, e - 1) else (m, e)
  e * 2 ^ 40 + (log2Bits 40 m 0 : Nat)

/-- The natural logarithm of a positive fraction (log entry 40). -/
def lnRat (num den : Nat) : Rat := (log2Fix num den : Rat) * 12786308645202655660 / (2 ^ 104 : Nat)

/-- The temperature of an NTC of `r25` = 10.00 kΩ and the given B, its voltage being num / den of its reference through a 10.00 kΩ pull-up, in 0.1 °C
(R575, R607's formula); not limited. -/
def ntcTenths (num den b : Nat) : Int :=
  let l := lnRat num den / (max 1 b : Nat)
  let inv : Rat := 20 / 5963 + l
  if inv ≤ 0 then 1500 else (10 / inv - 27315 / 10 + 1 / 2).floor

end Sys2Proof.Machine
end

