-- ==== Sys2Proof/Machine/LogOps.lean ====
section
/-!
DEFINITION. The event log in the external flash and the calendar (chapter 17): slots, the writer, the floor, the cursors and their entries, the opening of
the log, and how calendar time advances and is set.
-/

namespace Sys2Proof.Machine

/-! ### Records as bytes (Table 17.1) -/

/-- The 64 bytes of a committed record. -/
def LogRecord.bytes (r : LogRecord) (lsn session : Nat) : List Nat :=
  let body := toLE 8 lsn ++ toLE 4 session ++ toLE 2 r.code ++ [if r.calValid then 0x80 else 0, 0] ++ toLE 8 r.devTime ++ toLE 6 r.calTime
    ++ toLE 6 r.frame ++ toLE 20 r.data
  body ++ toLE 4 (crc32 body) ++ toLE 4 0x4C4F4721

/-! ### Slots (R649, R653) -/

/-- The number of slots. -/
def logSlots : Nat := 524288

/-- The next slot, wrapping. -/
def nextSlot (n : Nat) : Nat := (n + 1) % logSlots

/-- What slot n holds; none: EMPTY. -/
def Log.slot (l : Log) (n : Nat) : Option LogSlot := (l.slots.find? (fun e => e.1 == n)).map (·.2)

/-- A slot programmed. -/
def Log.program (l : Log) (n : Nat) (x : LogSlot) : Log := { l with slots := sparseInsert l.slots n x }

/-- The sector after the one that holds slot n. -/
def sectorAhead (n : Nat) : Nat := (n / 64 + 1) % 8192

/-- A slot that is not EMPTY lies in a sector. -/
def Log.sectorUsed (l : Log) (sec : Nat) : Bool := l.slots.any (fun e => e.1 / 64 == sec)

/-- A sector holds a record at or above the floor. -/
def Log.sectorKept (l : Log) (sec : Nat) : Bool :=
  l.slots.any (fun e => e.1 / 64 == sec && (match e.2 with
    | .good lsn _ _ => decide (l.floor ≤ lsn)
    | _ => false))

/-- Slots in the order of their age: those from the writer's slot on lie behind it by a pass. -/
def Log.ordered (l : Log) : List (Nat × LogSlot) :=
  l.slots.filter (fun e => decide (l.writeSlot ≤ e.1)) ++ l.slots.filter (fun e => decide (e.1 < l.writeSlot))

/-- A slot that a reader may be given: everything after the last GOOD record below the floor, TORN slots left out (R653, R655). -/
def Log.retained (l : Log) : List (Nat × LogSlot) :=
  (l.ordered.foldl (fun (acc : List (Nat × LogSlot)) e =>
    match e.2 with
    | .good lsn _ _ => if lsn < l.floor then [] else acc ++ [e]
    | .torn => acc
    | .damaged _ => acc ++ [e]) [])

/-- The oldest LSN returned, where a GOOD record is retained (0x4800:04). -/
def Log.oldest (l : Log) : Option Nat :=
  l.retained.findSome? (fun e => match e.2 with
    | .good lsn _ _ => some lsn
    | _ => none)

/-- The records retained (0x4800:05). -/
def Log.kept (l : Log) : Nat :=
  (l.retained.filter (fun e => match e.2 with
    | .good _ _ _ => true
    | _ => false)).length

/-- The slot of the oldest record retained; 0xFFFF_FFFF where there is none. -/
def Log.oldestSlot (l : Log) : Nat :=
  match l.retained with
  | [] => 0xFFFFFFFF
  | e :: _ => e.1

/-! ### The flags of 0x4800:0A -/

/-- NO_LOG. -/
def State.noLog (s : State) : Bool := s.flag 0x4800 10 0

/-- FULL. -/
def State.logFull (s : State) : Bool := s.flag 0x4800 10 2

/-! ### The writer (R648, R649, R652, R666) -/

/-- The writer needs its next sector erased: on entering a sector, and while the one ahead is not erased. -/
def State.eraseDue (s : State) : Bool :=
  decide (s.log.writeSlot % 64 = 0) || s.log.sectorUsed (sectorAhead s.log.writeSlot)

/-- Policy 1 keeps the writer from erasing the sector ahead (R649). -/
def State.eraseBarred (s : State) : Bool :=
  s.eraseDue && s.get 0x4800 1 == 1 && s.log.sectorKept (sectorAhead s.log.writeSlot)

/-- The sector ahead is erased: counted, and cursors in it move to the oldest retained record (R649, R661). -/
def eraseAhead (s : State) : State :=
  let sec := sectorAhead s.log.writeSlot
  let l := { s.log with slots := s.log.slots.filter (fun e => !(e.1 / 64 == sec)) }
  let l := { l with cursors := l.cursors.map (fun c => if c / 64 = sec then l.oldestSlot else c) }
  ({ s with log := l } : State).count 0x4800 12

/-- Records that may use the last erased sector while FULL is set (R649). -/
def LogRecord.mayFill (r : LogRecord) : Bool := r.code == 0x0100 || (r.code == 0x0101 && bits r.data 32 8 == 1)

/-- The queue without its head: there is room for the record of what was dropped at it. -/
def popQueue (s : State) : State := noteDropped { s with log := { s.log with queue := s.log.queue.drop 1 } }

/-- A record goes to the mirror ring, if one of 64-byte entries is open (R652). -/
def mirrorRecord (s : State) (r : LogRecord) (lsn : Nat) : State :=
  let n := s.get 0x4800 13
  if n < 255 && (s.sched.ring n).isOpen && ringSize (s.ringDesc n) == 64 then
    ringProduce s n (r.bytes lsn (s.get 0x4800 11))
  else s

/-- What a slot holds whose record's read-back failed, TORN or DAMAGED: which, and its raw bytes, no rule says (R666; log entry 50). -/
def failedSlot (d : Nat) : LogSlot :=
  if Config.choice d % 2 = 0 then .torn
  else
    let body := toLE 56 (Config.random d 56)
    .damaged (body ++ toLE 4 ((crc32 body + 1 + Config.random (d + 1) 4 % (2 ^ 32 - 1)) % 2 ^ 32) ++ toLE 4 0x4C4F4721)

/-- The record at the head of the queue is programmed into the writer's slot. `good`: the read-back agrees. -/
def programRecord (s : State) (r : LogRecord) (good : Bool) : State :=
  let l := s.log
  if good then
    let lsn := l.nextLsn
    let l := { (l.program l.writeSlot (.good lsn (s.get 0x4800 11) r)) with writeSlot := nextSlot l.writeSlot, nextLsn := lsn + 1, failures := 0 }
    mirrorRecord (popQueue { s with log := l }) r lsn
  else
    let l := { (l.program l.writeSlot (failedSlot s.draws)) with writeSlot := nextSlot l.writeSlot, failures := l.failures + 1 }
    let s : State := ({ s with log := l } : State).draw.draw
    if l.failures ≥ 8 then
      emcy (s.setFlag 0x4800 10 0 true) 0xFFB0 0
    else s

/-- A record is dropped because the log is FULL, counted apart (R649). -/
def dropFull (s : State) : State :=
  let s := popQueue s
  logLost { s with log := { s.log with whileFull := s.log.whileFull.add s.now } }

/-- The writer takes the oldest queued record (R648). -/
def writeRecord64 (s : State) (good : Bool) : State :=
  match s.log.queue with
  | [] => s
  | r :: _ =>
    if s.store.flashAbsent then
      let s := popQueue (mirrorRecord s r s.log.nextLsn)
      logLost { s with log := { s.log with notOpen := s.log.notOpen.add s.now } }
    else if s.noLog || s.power.writesStopped then s
    else if s.eraseBarred || s.logFull then
      let s := s.setFlag 0x4800 10 2 true
      if r.mayFill && (s.log.slot s.log.writeSlot).isNone then programRecord s r good else dropFull s
    else programRecord (if s.eraseDue then eraseAhead s else s) r good

/-- A reset finds the writer in a record: the slot stays TORN where its programming had begun (R94; whether it had, no rule says; log entry 51). -/
def abandonRecord (s : State) : State :=
  if s.log.opened && !s.log.queue.isEmpty && !s.noLog && !s.logFull && !s.eraseDue then
    let begun := Config.choice s.draws % 2 == 1
    let l := s.log
    let l := if begun then { (l.program l.writeSlot .torn) with writeSlot := nextSlot l.writeSlot } else l
    ({ s with log := l } : State).draw
  else s

/-! ### The floor (R649, R655, R663) -/

/-- FULL clears: one RECORDS_LOST record with origin 3 stands for what was dropped. -/
def clearFull (s : State) : State :=
  if !s.logFull then s
  else
    let w := s.log.whileFull
    let s := s.setFlag 0x4800 10 2 false
    let s := noteDropped { s with log := { s.log with whileFull := ⟨0, 0⟩ } }
    if w.count = 0 then s else queueLog s 0x0101 (recordsLostData w.count 3 w.firstTime)

/-- The clear of R655: LOG_CLEARED carries the floor as its LSN; where the queue drops it, the floor is the LSN after those queued. -/
def logClear (s : State) : State :=
  let old := s.log.oldest.getD s.log.nextLsn
  let before := clearFull s
  let s := queueLog before 0x0103 old
  let queued := decide (before.log.queue.length < s.log.queue.length) && s.log.queue.getLast?.map (·.code) == some 0x0103
  { s with log := { s.log with floor := s.log.nextLsn + (s.log.queue.length - b2n queued) } }

/-- A change of policy: FULL clears under policy 0 (Table of 0x4800). -/
def logPolicyChanged (s : State) : State := if s.get 0x4800 1 = 0 then clearFull s else s

/-! ### Reading (R653, R654) -/

/-- The 72-byte entry of a slot. -/
def logEntry (e : Nat × LogSlot) : List Nat :=
  match e.2 with
  | .good lsn session r => [0, 0, 0, 0] ++ toLE 4 e.1 ++ r.bytes lsn session
  | .damaged raw => [1, 0, 0, 0] ++ toLE 4 e.1 ++ raw
  | .torn => []

/-- What is retained from a cursor onward, oldest first. -/
def Log.fromCursor (l : Log) (c : Nat) : List (Nat × LogSlot) :=
  if c = 0xFFFFFFFF then l.retained
  else
    let age := fun (n : Nat) => (n + logSlots - l.writeSlot) % logSlots
    l.retained.filter (fun e => decide (age c ≤ age e.1))

/-- A read of the window with room for `n` entries: the bytes, and the state with the cursor's side effect taken unless it is a PEEK. A cursor at the writer's
slot stands at the newest record's end. -/
def readWindow (s : State) (p : Port) (n : Nat) (peek : Bool) : State × List Nat :=
  let l := s.log
  let c := nth l.cursors p.code 0xFFFFFFFF
  let all := if c = l.writeSlot then [] else l.fromCursor c
  let es := all.take n
  let data := (es.map logEntry).flatten
  if peek || n = 0 then (s, data)
  else
    let damaged := (es.filter (fun e => match e.2 with
      | .damaged _ => true
      | _ => false)).length
    let next := match all.drop n with
      | [] => l.writeSlot
      | e :: _ => e.1
    let s : State := { s with log := { l with cursors := l.cursors.set p.code next } }
    (if damaged = 0 then s else s.countBy 0x4800 8 damaged, data)

/-- A write of the cursor of a port (R654). -/
def writeCursor (s : State) (p : Port) (v : Nat) : State × Status :=
  if v = 0xFFFFFFFF then ({ s with log := { s.log with cursors := s.log.cursors.set p.code s.log.oldestSlot } }, .ok)
  else if v < logSlots then ({ s with log := { s.log with cursors := s.log.cursors.set p.code v } }, .ok)
  else (s, .range)

/-! ### Opening the log (R669) -/

/-- The newest GOOD record of a slot list in order of age that a test accepts. -/
def newestGood (l : List (Nat × LogSlot)) (f : LogRecord → Bool) : Option (Nat × Nat × Nat) :=
  l.foldl (fun (acc : Option (Nat × Nat × Nat)) e =>
    match e.2 with
    | .good lsn session r => if f r && decide ((acc.map (fun a => a.2.1)).getD 0 ≤ lsn) then some (e.1, lsn, session) else acc
    | _ => acc) none

/-- The first EMPTY slot from a slot on, within one pass. -/
def firstEmpty (l : Log) : Nat → Nat → Nat
  | 0, n => n
  | k + 1, n => if (l.slot n).isNone then n else firstEmpty l k (nextSlot n)

/-- SESSION_START's DATA (Table 17.2). -/
def State.sessionData (s : State) : Nat :=
  s.aocb.cause.word + (s.aocb.boot.word <<< 32) + (s.get 0x1018 3 <<< 64) + (s.lifecycleWord <<< 96)

/-- The DATA of an INTERRUPTION record (Table 17.2). -/
def interruptionData (us : Nat) (o : LossOutcome) : Nat := us + (o.code <<< 32)

/-- The first records of a session: SESSION_START, the records a reset lost, VAON_LOST, and the interruptions whose records this start-up writes (R94, R99). -/
def State.firstRecords (s : State) : List LogRecord :=
  [s.logRecord 0x0100 s.sessionData]
    ++ (if s.aocb.cause.logLost > 0 then [s.logRecord 0x0101 (recordsLostData s.aocb.cause.logLost 1 0)] else [])
    ++ (if s.power.vaonRecord then [s.logRecord 0x0102 0xFFFFFFFF] else [])
    ++ s.power.pendingRecords.map (fun r => s.logRecord 0x0110 (interruptionData (r.2.getD s.aocb.lossDur) r.1))

/-- The log opens (R669): the writer stands after the newest committed record, the session and the floor are found, and the first records go to the front.
A clear commanded before the log opened counts from here. -/
def logOpen (s : State) : State :=
  let l := s.log
  let torn := (l.slots.filter (fun e => e.2 == .torn)).length
  let newest := newestGood l.slots (fun _ => true)
  let start := match newest with
    | some (n, _, _) => firstEmpty l l.slots.length (nextSlot n)
    | none => firstEmpty l l.slots.length 0
  let session := match newest with
    | some (_, _, k) => satNat 32 (k + 1)
    | none => 1
  let s := (s.set 0x4800 9 (satNat 16 torn)).set 0x4800 11 session
  let floor := match newestGood l.slots (fun r => r.code == 0x0103) with
    | some (_, lsn, _) => lsn
    | none => 0
  let s := if s.store.flashAbsent then s.setFlag 0x4800 10 0 true else s
  let s := if Config.flashSuspends then s else s.setFlag 0x4800 10 3 true
  let s := s.setFlag 0x4800 10 1 false
  let l : Log := { s.log with
    queue := s.firstRecords ++ s.log.queue
    writeSlot := start
    nextLsn := (match newest with
      | some (_, lsn, _) => lsn + 1
      | none => 0)
    floor := floor
    opened := true
    failures := 0
    notOpen := ⟨0, 0⟩ }
  let lost := s.log.notOpen
  let l := match l.queue.reverse.findIdx? (fun r => r.code == 0x0103) with
    | some k => { l with floor := l.nextLsn + (l.queue.length - 1 - k) }
    | none => l
  let s : State := { s with log := l, power := { s.power with pendingRecords := [], vaonRecord := false } }
  if lost.count = 0 then s
  else { s with log := { s.log with queue := s.log.queue ++ [s.logRecord 0x0101 (recordsLostData lost.count 2 lost.firstTime)] } }

/-! ### Calendar time (R657) -/

/-- Milliseconds in a day. -/
def dayMs : Nat := 86400000

/-- A TIME_OF_DAY as milliseconds. -/
def todMs (v : Nat) : Nat := bits v 32 16 * dayMs + bits v 0 28

/-- Milliseconds as a TIME_OF_DAY; the day count wraps. -/
def msTod (m : Nat) : Nat := ((m / dayMs % 65536) <<< 32) + m % dayMs

/-- The calendar advances by half nanoseconds while it is valid. -/
def calendarAdvance (s : State) (half : Nat) : State :=
  if !s.flag 0x4810 3 0 then s
  else
    let t := s.log.calHalf + half
    let s : State := { s with log := { s.log with calHalf := t % 2000000 } }
    s.set 0x4810 2 (msTod (todMs (s.get 0x4810 2) + t / 2000000))

/-- Device time has advanced: the calendar and 0x4810:04 follow. -/
def timeAdvance (s : State) (half : Nat) : State :=
  let s := calendarAdvance s half
  if s.get 0x4810 4 = 0xFFFFFFFF then s
  else
    let t := s.log.sinceHalf + half
    let s : State := { s with log := { s.log with sinceHalf := t % 2000000000 } }
    s.set 0x4810 4 (satNat 32 (s.get 0x4810 4 + t / 2000000000))

/-- An accepted TIME sets the calendar (R657): the first after VAON valid, and a move by more than 1.000 s, are recorded and counted. -/
def setCalendar (s : State) (tod : Nat) : State :=
  let first := !s.log.timeSeen
  let old := s.get 0x4810 2
  let a := todMs old
  let b := todMs tod
  let moved := first || decide ((if a ≤ b then b - a else a - b) > 1000)
  let s := ((s.set 0x4810 2 tod).setFlag 0x4810 3 0 true).set 0x4810 4 0
  let s : State := { s with log := { s.log with timeSeen := true, calHalf := 0, sinceHalf := 0 } }
  if moved then queueLog (s.count 0x4810 5) 0x0104 (bits old 0 48 + (bits tod 0 48 <<< 48) + (b2n first <<< 96)) else s

/-- The calendar comes back at start-up: on the LF clock it has advanced meanwhile, at a rate no rule fixes (R657; log entry 6). -/
def calendarResume (s : State) : State :=
  if !s.flag 0x4810 3 0 then s else (calendarAdvance s (2 * Config.lfElapsed s.draws)).draw

end Sys2Proof.Machine
end

