-- ==== Sys2Proof/Machine/Flags.lean ====
section
/-!
DEFINITION. The flags of the Tabor core (Tables 10.3 and 10.4): each operation of the arithmetic unit with the flags it would set, and the conditions
of branches. Whether the flags are taken is the instruction's F bit; Q is sticky and set whatever F says (R380).
-/

namespace Sys2Proof.Machine

/-- N and Z of a result. -/
def Flg.nz (o : Flg) (v : Word) : Flg := { o with n := v.msb, z := v == 0#32 }

/-- A result and the flags that go with it. -/
abbrev AluOut := Word × Flg

/-- N and Z alone. -/
def logicOut (v : Word) (o : Flg) : AluOut := (v, o.nz v)

/-- Addition with a carry in: C is the carry out of bit 31, V signed overflow. -/
def addOut (a b : Word) (cin : Bool) (o : Flg) : AluOut :=
  let n := a.toNat + b.toNat + cin.toNat
  let v := BitVec.ofNat 32 n
  (v, { o.nz v with c := decide (2 ^ 32 ≤ n), v := a.msb == b.msb && v.msb != a.msb })

/-- Subtraction with a borrow in: C is no borrow, V signed overflow. -/
def subOut (a b : Word) (borrow : Bool) (o : Flg) : AluOut :=
  let v := a - b - BitVec.ofNat 32 borrow.toNat
  (v, { o.nz v with c := decide (b.toNat + borrow.toNat ≤ a.toNat), v := a.msb != b.msb && v.msb != a.msb })

/-- *sat32*: a value limited to the signed 32-bit range, and whether that limited it. -/
def sat32 (x : Int) : Word × Bool :=
  if x > 2 ^ 31 - 1 then (0x7FFFFFFF#32, true)
  else if x < -(2 ^ 31) then (0x80000000#32, true)
  else (BitVec.ofInt 32 x, false)

/-- A saturated result: N, Z, and Q where it was limited. -/
def satOut (x : Int) (o : Flg) : AluOut :=
  let r := sat32 x
  (r.1, { o.nz r.1 with q := o.q || r.2 })

/-- Shift left: amounts 32 to 63 give 0; C is the last bit shifted out, unchanged for amount 0. -/
def shlOut (a : Word) (n : Nat) (o : Flg) : AluOut :=
  let v := if n < 32 then a <<< n else 0#32
  (v, { o.nz v with c := if n = 0 then o.c else decide (n ≤ 32) && a.getLsbD (32 - n) })

/-- Shift right, logical. -/
def shrOut (a : Word) (n : Nat) (o : Flg) : AluOut :=
  let v := if n < 32 then a >>> n else 0#32
  (v, { o.nz v with c := if n = 0 then o.c else a.getLsbD (n - 1) })

/-- Shift right, arithmetic: amounts 32 to 63 give 32 copies of bit 31. -/
def sarOut (a : Word) (n : Nat) (o : Flg) : AluOut :=
  let v := a.sshiftRight (min n 31)
  (v, { o.nz v with c := if n = 0 then o.c else if n ≤ 32 then a.getLsbD (n - 1) else a.msb })

/-- Rotate right: the last bit shifted out stands in bit 31; amount 0 shifts none out. -/
def rorOut (a : Word) (n : Nat) (o : Flg) : AluOut :=
  let v := a.rotateRight n
  (v, { o.nz v with c := if n = 0 then o.c else v.msb })

/-- The flags an instruction leaves: all that the operation sets where F is set, Q alone where it is not. -/
def Flg.taken (old new : Flg) (f : Bool) : Flg := if f then new else { old with q := new.q }

/-- A condition of Table 10.4; 15 names none. -/
def Flg.holds (x : Flg) (cond : Nat) : Bool :=
  match cond with
  | 0 => x.z
  | 1 => !x.z
  | 2 => x.c
  | 3 => !x.c
  | 4 => x.n
  | 5 => !x.n
  | 6 => x.v
  | 7 => !x.v
  | 8 => x.c && !x.z
  | 9 => !x.c || x.z
  | 10 => x.n == x.v
  | 11 => x.n != x.v
  | 12 => !x.z && x.n == x.v
  | 13 => x.z || x.n != x.v
  | _ => true

/-- FLG as its word (Table 9.2). -/
def Flg.word (x : Flg) : Word := BitVec.ofNat 32 (16 * x.q.toNat + 8 * x.n.toNat + 4 * x.z.toNat + 2 * x.c.toNat + x.v.toNat)

/-- FLG from its word; reserved bits are discarded (R13). -/
def Flg.ofWord (w : Word) : Flg := ⟨w.getLsbD 4, w.getLsbD 3, w.getLsbD 2, w.getLsbD 1, w.getLsbD 0⟩

end Sys2Proof.Machine
end

