-- ==== Sys2Proof/Machine/Paging.lean ====
section
/-!
DEFINITION. Memory and paging (chapter 8): the SECDED code of the SRAM, page tables and the walk, the translation caches, page fills, eviction and
write-back, and the prefetcher.
-/

namespace Sys2Proof.Machine

/-! ### Frames and their classes (R290) -/

/-- The page pool. -/
def Mem.inPool (m : Mem) (f : Nat) : Bool := decide (m.poolFirst ≤ f) && decide (f < m.poolFirst + m.poolCount)

/-- The ring pool. -/
def Mem.inRingPool (m : Mem) (f : Nat) : Bool := decide (m.ringFirst ≤ f) && decide (f < m.ringFirst + m.ringCount)

/-- The pinned region: every other frame. -/
def Mem.pinned (m : Mem) (f : Nat) : Bool := decide (f < 1024) && !m.inPool f && !m.inRingPool f

/-- What occupies a page-pool frame. -/
def Mem.use (m : Mem) (f : Nat) : Option FrameUse := (m.frames.find? (fun e => e.1 == f)).map (·.2)

/-- A frame's use replaced; the newest stands last. -/
def Mem.setUse (m : Mem) (f : Nat) (u : FrameUse) : Mem :=
  { m with frames := m.frames.filter (fun e => e.1 != f) ++ [(f, u)] }

/-- The frames of the page pool that are free. -/
def Mem.freeFrames (m : Mem) : List Nat :=
  (List.range m.poolCount).filterMap (fun k =>
    let f := m.poolFirst + k
    if (m.use f).isNone && !m.retired.contains f then some f else none)

/-- The frames that a prefetch holds: nothing but 0x2220 tells of them before a claim (R309), and 0x2201:01 counts them as free. -/
def Mem.unclaimed (m : Mem) : Nat :=
  (m.frames.filter (fun e => match e.2 with
    | .prefetched _ => true
    | .filling v => m.fills.any (fun x => x.page == v && x.prefetch)
    | _ => false)).length

/-- The free frames of the ring pool (R311): those that no open ring holds. -/
def State.freeRingFrames (s : State) : List Nat :=
  let held := s.sched.rings.flatMap (fun e => e.2.frames)
  (List.range s.mem.ringCount).filterMap (fun k =>
    let f := s.mem.ringFirst + k
    if !held.contains f && !s.mem.retired.contains f then some f else none)

/-- One of several allowed choices (log entry 32). -/
def State.pick (s : State) (l : List Nat) : State × Option Nat :=
  match l with
  | [] => (s, none)
  | [a] => (s, some a)
  | a :: _ => (s.draw, some (nth l (Config.choice s.draws % l.length) a))

/-! ### Translation caches (R296, R297) -/

/-- Every translation of a page is dropped. -/
def Mem.dropPage (m : Mem) (v : Nat) : Mem :=
  { m with micro := m.micro.map (fun l => l.filter (fun e => e.page != v)), main := m.main.filter (fun e => e.page != v) }

/-- Every translation that names a frame is dropped (R299). -/
def Mem.dropFrame (m : Mem) (f : Nat) : Mem :=
  { m with micro := m.micro.map (fun l => l.filter (fun e => e.frame != f)), main := m.main.filter (fun e => e.frame != f) }

/-- Every translation is dropped. -/
def Mem.dropAll (m : Mem) : Mem := { m with micro := m.micro.map (fun _ => []), main := [] }

/-- A frame is released: its translations go first (R299); one to be retired is retired now (R289). -/
def releaseFrame (s : State) (f : Nat) : State :=
  let m := s.mem.dropFrame f
  let s : State := { s with mem := { m with frames := m.frames.filter (fun e => e.1 != f) } }
  if s.mem.retiring.contains f then
    ({ s with mem := { s.mem with retiring := s.mem.retiring.filter (· != f), retired := s.mem.retired ++ [f] } } : State).set 0x2200 8
      (satNat 16 (s.get 0x2200 8 + 1))
  else s

/-! ### Page tables (R291 to R295) -/

/-- A page table entry's fields. -/
def pteBacking (w : Nat) : Nat := bits w 62 2
/-- The host window of a PTE. -/
def pteWindow (w : Nat) : Nat := bits w 58 4
/-- The page within the backing. -/
def pteOff (w : Nat) : Nat := bits w 32 26
/-- The frame of a PTE or an L1 entry. -/
def pteFrame (w : Nat) : Nat := bits w 12 10
/-- RESIDENT. -/
def pteResident (w : Nat) : Bool := bit w 7
/-- DIRTY. -/
def pteDirty (w : Nat) : Bool := bit w 6

/-- An aligned 64-bit word of the SRAM. -/
def Mem.word (m : Mem) (a : Nat) : Nat := fromLE (m.read a 8)

/-- A 64-bit word written at the bank (R293). -/
def State.storeWord (s : State) (a w : Nat) : State := { s with mem := s.mem.store a (toLE 8 w) }

/-- The address of the L1 entry of a page. -/
def State.l1Addr (s : State) (v : Nat) : Nat := bits (s.get 0x2200 1) 10 12 * 1024 + 8 * (v / 512)

/-- The address of the PTE of a page; none where the tables are off or the L1 entry is not valid (R291, R292). -/
def State.pteAddr (s : State) (v : Nat) : Option Nat :=
  let l1 := s.mem.word (s.l1Addr v)
  if s.flag 0x2200 1 31 && bit l1 0 && s.mem.pinned (pteFrame l1) && decide (s.mem.eccOf (s.l1Addr v) 8 ≠ some .double) then
    some (pteFrame l1 * 4096 + 8 * (v % 512))
  else none

/-- BACKING, WINDOW and BACKOFF of a PTE (R294, R300). -/
def pteBack (w : Nat) : Nat := w / 2 ^ 32

/-- The PTE of a page, where a walk finds one that can be read. -/
def State.pte (s : State) (v : Nat) : Option Nat :=
  match s.pteAddr v with
  | none => none
  | some a => if s.mem.eccOf a 8 = some .double then none else some (s.mem.word a)

/-- The hardware-owned fields of a PTE changed (R293). -/
def State.updatePte (s : State) (v : Nat) (f : Nat → Nat) : State :=
  match s.pteAddr v with
  | none => s
  | some a => s.storeWord a (f (s.mem.word a))

/-- The host address of a page of a window. -/
def State.windowPage (s : State) (w off : Nat) : Nat := s.get 0x2034 (3 * w + 1) + 4096 * off

/-- BACKOFF lies within the flash (log entry 33) or the host window. -/
def State.backingHas (s : State) (pte : Nat) : Bool :=
  if pteBacking pte = 2 then decide (pteOff pte < 16384) || decide (pteOff pte < Config.flashPages)
  else if pteBacking pte = 3 then decide (pteOff pte < s.get 0x2034 (3 * pteWindow pte + 2))
  else true

/-- The kinds of access that a translation is asked for. -/
inductive Acc3 where
  | read | write | fetch
deriving DecidableEq, Repr

/-- A PTE allows an access (R292). -/
def State.pteAllows (s : State) (pte : Nat) (a : Acc3) : Bool :=
  bit pte 0 && pteBacking pte != 0 && !(pteBacking pte == 2 && bit pte 3) && s.backingHas pte &&
    (match a with
     | .read => true
     | .write => bit pte 3
     | .fetch => bit pte 2)

/-- A page of the ring area, object space 0x0E00_0000 and up (R295). -/
def ringPage (v : Nat) : Bool := decide (0xE000 ≤ v) && decide (v < 0x10000)

/-- The frame behind a page of the ring area: the ring allocator's own tables (R295, R311). -/
def State.ringFrame (s : State) (v : Nat) : Option Nat :=
  let r := s.sched.ring ((v - 0xE000) / 32)
  if r.isOpen then r.frames[(v - 0xE000) % 32]? else none

/-! ### ECC (R287, R289) -/

/-- The PTE of the page in a frame, as long as it still names the frame: VALID and RESIDENT, with the FRAME, BACKING, WINDOW and BACKOFF of the device's own record
(R300). -/
def State.pteOf (s : State) (f v back : Nat) : Option Nat :=
  (s.pte v).filter (fun w => bit w 0 && pteResident w && pteFrame w == f && pteBack w == back)

/-- Eviction clears what hardware owns in the PTE (R302): RESIDENT, and DIRTY with the page's data. -/
def clearResident (w : Nat) : Nat := clearBit (clearBit w 7) 6

/-- A frame with an uncorrectable word is retired at its release; a clean demand-paged page goes at once (R289). -/
def retireFrame (s : State) (f : Nat) : State :=
  if s.mem.pinned f || s.mem.retired.contains f || s.mem.retiring.contains f then s
  else
    let s : State := { s with mem := { s.mem with retiring := s.mem.retiring ++ [f] } }
    if s.mem.inRingPool f then
      if (s.freeRingFrames).contains f then releaseFrame s f else s
    else
      match s.mem.use f with
      | none => releaseFrame s f
      | some (.page v back) =>
        match s.pteOf f v back with
        | some w => if !pteDirty w then releaseFrame ((s.updatePte v clearResident).count 0x2201 5) f else s
        | none => s
      | some _ => s

/-- An uncorrectable word is found: counted, kept, reported once per frame, event 510 (R287). -/
def uncorrectable (s : State) (word : Nat) : State :=
  let s := ((s.count 0x2200 6).set 0x2200 7 (8 * word)).setFlag 0x2200 9 0 true
  let s := if s.mem.emcySent then s
    else emcyLog { s with mem := { s.mem with emcySent := true } } 0xFF40 (8 * word / 0x20000)
  retireFrame (raise s 510) (8 * word / 4096)

/-- The code of the words an access reads is checked: single errors are corrected and counted; the answer tells whether one is uncorrectable. -/
def checkEcc (s : State) (a n : Nat) : State × Bool :=
  let hit := s.mem.ecc.filter (fun e => decide (a / 8 ≤ e.1) && decide (8 * e.1 < a + n))
  if hit.isEmpty then (s, false)
  else
    let singles := hit.filter (fun e => e.2 == .single)
    let s : State := { s with mem := { s.mem with ecc := s.mem.ecc.filter (fun e => !singles.contains e) } }
    let s := s.countBy 0x2200 5 singles.length
    match hit.find? (fun e => e.2 == .double) with
    | none => (s, false)
    | some e => (uncorrectable s e.1, true)

/-! ### The walk (R292, R296) -/

/-- What a translation gives: the frame with the clocks it took, a fault, or a page that is not resident. -/
inductive Xlat where
  | ok (frame clocks : Nat)
  | fault
  | miss
deriving DecidableEq, Repr

/-- An entry enters a micro-TLB, the oldest of eight leaving. -/
def installMicro (l : List TlbEntry) (e : TlbEntry) : List TlbEntry :=
  let l := l.filter (fun x => x.page != e.page)
  if l.length ≥ 8 then l.drop 1 ++ [e] else l ++ [e]

/-- An entry enters the main TLB; when it is full pseudo-LRU names the one that leaves (log entry 32). -/
def installMain (s : State) (e : TlbEntry) : State :=
  let l := s.mem.main.filter (fun x => x.page != e.page)
  if l.length < 128 then { s with mem := { s.mem with main := l ++ [e] } }
  else
    ({ s with mem := { s.mem with main := l.eraseIdx (Config.choice s.draws % 128) ++ [e] } } : State).draw

/-- Both TLBs of the requester take a completed walk's entry. -/
def install (s : State) (eng : Nat) (e : TlbEntry) : State :=
  let s := installMain s e
  { s with mem := { s.mem with micro := s.mem.micro.modify eng (fun l => installMicro l e) } }

/-- A translation allows an access. -/
def TlbEntry.allows (e : TlbEntry) : Acc3 → Bool
  | .read => true
  | .write => e.writable
  | .fetch => e.exec

/-- ACCESSED, and DIRTY on a write, as an access sets them (Table 8.3); a page of the ring area has no PTE (R295). -/
def markAccess (s : State) (v frame : Nat) (a : Acc3) : State :=
  match s.pte v with
  | none => s
  | some w =>
    let w' := setBit (if a == .write then setBit w 6 else w) 5
    if !ringPage v && pteFrame w = frame && w' ≠ w then s.updatePte v (fun _ => w') else s

/-- A page is walked, without touching what hardware owns: the frame where it is resident or pinned. -/
def State.walkPure (s : State) (v : Nat) (a : Acc3) : Xlat :=
  if ringPage v then
    match s.ringFrame v with
    | some f => if a = .fetch then .fault else .ok f 60
    | none => .fault
  else
    match s.pte v with
    | none => .fault
    | some w =>
      if !s.pteAllows w a then .fault
      else if pteBacking w = 1 then .ok (pteFrame w) 60
      else if pteResident w then .ok (pteFrame w) 60
      else .miss

/-- The entry that a completed walk installs. -/
def State.walkEntry (s : State) (v f : Nat) : TlbEntry :=
  if ringPage v then ⟨v, f, true, false⟩
  else
    let w := (s.pte v).getD 0
    ⟨v, f, bit w 3, bit w 2⟩

/-- The words a walk reads are checked (R292: an uncorrectable one fails it). -/
def walkEcc (s : State) (v : Nat) : State :=
  if ringPage v || !s.flag 0x2200 1 31 then s
  else
    let (s, _) := checkEcc s (s.l1Addr v) 8
    match s.pteAddr v with
    | none => s
    | some a => (checkEcc s a 8).1

/-- A completed walk installs, unless it is the one that a flush or an invalidate met in flight (R296, R297, R329). -/
def installWalk (s : State) (eng v f : Nat) : State :=
  if eng = 3 && s.mem.withheld == some v then s else install s eng (s.walkEntry v f)

/-- An engine's access to a page is translated: its micro-TLB, the main TLB, then the walk, which installs (R296). -/
def translate (s : State) (eng v : Nat) (a : Acc3) : State × Xlat :=
  match (nth s.mem.micro eng []).find? (fun e => e.page == v) with
  | some e => if e.allows a then (markAccess s v e.frame a, .ok e.frame 0) else (s, .fault)
  | none =>
    match s.mem.main.find? (fun e => e.page == v) with
    | some e =>
      if e.allows a then
        let s : State := { s with mem := { s.mem with micro := s.mem.micro.modify eng (fun l => installMicro l e) } }
        (markAccess s v e.frame a, .ok e.frame 2)
      else (s, .fault)
    | none =>
      let s := walkEcc s v
      match s.walkPure v a with
      | .ok f c => (markAccess (installWalk s eng v f) v f a, .ok f c)
      | x => (s, x)

/-! ### Device reads and writes of host windows (R257, R264, R266) -/

/-- The tags of the device's own requests that are free. -/
def State.freeTags (s : State) : List Nat :=
  (List.range 256).filter (fun t => !s.link.tags.any (fun x => x.tag == t))

/-- One MRD of a fill is issued: 256 bytes, a free tag. -/
def issueRead (s : State) (fl : Fill) : State :=
  match s.pte fl.page with
  | none => s
  | some w =>
    match s.pick s.freeTags with
    | (s, none) => s
    | (s, some t) =>
      let s : State := { s with link := { s.link with tags := s.link.tags ++ [⟨t, .fill fl.page, pteWindow w⟩] } }
      let s : State := { s with mem := { s.mem with
        fills := s.mem.fills.map (fun x => if x.page == fl.page then { x with issued := x.issued + 1 } else x) } }
      s.sendPacket (.mrd t 256 (s.windowPage (pteWindow w) (pteOff w) + 256 * fl.issued))

/-- A fill whose next MRD can be issued: its page lies in an open window that is READABLE, and for a prefetch PREFETCHABLE (R266). -/
def State.fillReads (s : State) (fl : Fill) : Bool :=
  fl.frame.isSome && decide (fl.issued < 16) &&
    (match s.pte fl.page with
     | some w => pteBacking w == 3 && s.backingHas w && s.windowOpen (pteWindow w) && bit (s.windowAttr (pteWindow w)) 0
        && (!fl.prefetch || bit (s.windowAttr (pteWindow w)) 2)
     | none => false)

/-- MRDs go out while fills want them and tags are free (R257). -/
def issueReads : Nat → State → State
  | 0, s => s
  | n + 1, s =>
    match s.mem.fills.find? s.fillReads with
    | none => s
    | some fl => if s.freeTags.isEmpty then s else issueReads n (issueRead s fl)

/-- The most MRDs that fills can want: 32 fills of 16. -/
def pumpReads (s : State) : State := issueReads 512 s

/-! ### Eviction (R300, R302, R303) -/

/-- A write-back that link-down or a closed window cuts short loses the page (R303): VALID is cleared, counted and logged. -/
def writeBackLost (s : State) (f v : Nat) : State :=
  let old := s.get 0x2201 9
  let s := (s.updatePte v (fun w => clearBit w 0)).count 0x2201 9
  releaseFrame (logStateChange s 0x2201 9 old (s.get 0x2201 9)) f

/-- A page leaves its frame (R302): RESIDENT clears, translations go, and a dirty host-backed page is written back, its frame
held until the last MWR is acknowledged. -/
def evict (s : State) (f v : Nat) (cmd : Bool) : State :=
  match s.pte v with
  | none => releaseFrame s f
  | some w =>
    let data := s.mem.read (f * 4096) 4096
    let s := (s.updatePte v clearResident).count 0x2201 5
    let s : State := { s with mem := (s.mem.dropPage v).dropFrame f }
    if pteDirty w && pteBacking w == 3 then
      let s := ({ s with mem := s.mem.setUse f (.writeBack v (s.windowPage (pteWindow w) (pteOff w)) cmd) } : State).count 0x2201 6
      if !s.linkUp || !s.windowOpen (pteWindow w) || !s.backingHas w || !bit (s.windowAttr (pteWindow w)) 1 then writeBackLost s f v
      else
        (List.range 16).foldl (fun s k =>
          s.sendPacket (.mwr (s.windowPage (pteWindow w) (pteOff w) + 256 * k) ((data.drop (256 * k)).take 256))) s
    else releaseFrame s f

/-- What the clock sweep finds at a frame: nothing to take, a dirty frame whose ACCESSED was 0, or that it took the frame. -/
inductive Swept where
  | passed | dirty | taken
deriving DecidableEq, Repr

/-- The sweep at a frame (R300, R302): it clears ACCESSED and passes by, or takes a clean frame whose ACCESSED was 0. -/
def sweepAt (s : State) (f : Nat) : State × Swept :=
  match s.mem.use f with
  | some (.page v back) =>
    match s.pteOf f v back with
    | some w =>
      if bit w 4 || (s.pteAddr v).any s.bankHeld then (s, .passed)
      else if bit w 5 then (s.updatePte v (fun w => clearBit w 5), .passed)
      else if pteDirty w then (s, .dirty)
      else (evict s f v false, .taken)
    -- R300: firmware rewrote the PTE; the frame goes without write-back
    | none => (releaseFrame ((s.setFlag 0x2200 9 3 true).count 0x2201 8) f, .taken)
  | _ => (s, .passed)

/-- One turn of the sweep over a list of frames: whether it took one, and the first dirty frame that it could have taken. -/
def sweep (s : State) (dirty : Option Nat) : List Nat → State × Bool × Option Nat
  | [] => (s, false, dirty)
  | f :: rest =>
    match sweepAt { s with mem := { s.mem with hand := f + 1 } } f with
    | (s, .taken) => (s, true, none)
    | (s, .dirty) => sweep s (some (dirty.getD f)) rest
    | (s, .passed) => sweep s dirty rest

/-- The frames of the page pool in the order in which the hand meets them. -/
def Mem.sweepOrder (m : Mem) : List Nat :=
  let k := if m.inPool m.hand then m.hand - m.poolFirst else 0
  (List.range m.poolCount).map (fun j => m.poolFirst + (k + j) % max 1 m.poolCount)

/-! ### Prefetches (R305 to R309) -/

/-- The reads of a fill that ends early lose their use; each keeps its tag until it is completed or times out (R257, R264). -/
def dropReads (s : State) (v : Nat) : State :=
  { s with link := { s.link with tags := s.link.tags.map (fun t => if t.use == .fill v then { t with use := .stale } else t) } }

/-- A page is no longer one that a stream prefetched and nobody claimed. -/
def Mem.leaveStreams (m : Mem) (v : Nat) : Mem := { m with streams := m.streams.map (fun x => { x with pages := x.pages.filter (· != v) }) }

/-- A prefetch is cancelled (R308): its frame returns, and it is counted in 0x2220:05 only. -/
def cancelPrefetch (s : State) (v : Nat) : State :=
  let done := s.mem.frames.find? (fun e => e.2 == .prefetched v)
  let run := s.mem.fills.find? (fun x => x.page == v && x.prefetch)
  let s : State := { s with mem := s.mem.leaveStreams v }
  match done, run with
  | some e, _ => (releaseFrame s e.1).count 0x2220 5
  | none, some fl =>
    let s := dropReads { s with mem := { s.mem with fills := s.mem.fills.filter (fun x => x.page != v) } } v
    let s := match fl.frame with
      | some f => releaseFrame s f
      | none => s
    s.count 0x2220 5
  | none, none => s

/-- The prefetches that lie in a host window. -/
def State.prefetchesIn (s : State) (w : Nat) : List Nat :=
  let pages := s.mem.frames.filterMap (fun e => match e.2 with | .prefetched v => some v | _ => none)
    ++ (s.mem.fills.filter (fun x => x.prefetch)).map (·.page)
  pages.filter (fun v => match s.pte v with
    | some p => pteBacking p == 3 && pteWindow p == w
    | none => false)

/-! ### Fills (R301, R302, R304) -/

/-- The sweep of R302: a turn for a clean frame, then the first dirty one that the turn could have taken; where it met neither, every ACCESSED is now clear, and a
second turn does the same (log entry 221). Its write-back may leave the frame held: the answer names the frame that the sweep took or began to write back. -/
def sweepPool (s : State) : State × Option Nat :=
  let evictDirty := fun (s : State) (f : Nat) =>
    match s.mem.use f with
    | some (.page v _) => evict { s with mem := { s.mem with hand := f + 1 } } f v false
    | _ => s
  let took := fun (s : State) => ((s.mem.hand - 1 : Nat))
  match sweep s none s.mem.sweepOrder with
  | (s, true, _) => (s, some (took s))
  | (s, false, some f) => (evictDirty s f, some f)
  | (s, false, none) =>
    match sweep s none s.mem.sweepOrder with
    | (s, true, _) => (s, some (took s))
    | (s, false, some f) => (evictDirty s f, some f)
    | (s, false, none) => (s, none)

/-- A frame for a fill (R302). -/
inductive FrameHad where
  | frame (f : Nat)
  /-- the frame is written back first -/
  | writesBack (f : Nat)
  | exhausted
deriving DecidableEq, Repr

/-- A free frame is had by R302: free, the oldest prefetched, or one the sweep frees. -/
def takeFrame (s : State) : State × FrameHad :=
  let had := fun (r : State × Option Nat) (f : Nat) => ((match r with | (s, some g) => (s, .frame g) | (s, none) => (s, .writesBack f)) : State × FrameHad)
  match s.pick s.mem.freeFrames with
  | (s, some f) => (s, .frame f)
  | (s, none) =>
    match s.mem.frames.find? (fun e => match e.2 with | .prefetched _ => true | _ => false) with
    | some e =>
      let v := match e.2 with | .prefetched v => v | _ => 0
      let s := cancelPrefetch s v
      had (s.pick s.mem.freeFrames) e.1
    | none =>
      match sweepPool s with
      | (s, some f) => had (s.pick s.mem.freeFrames) f
      | (s, none) => (s.setFlag 0x2200 9 2 true, .exhausted)

/-- A page's backing cannot be read now (R304, R172, R334). -/
def State.backingFails (s : State) (pte : Nat) : Bool :=
  if pteBacking pte = 2 then s.store.flashAbsent
  else !s.linkUp || !s.windowOpen (pteWindow pte) || !bit (s.windowAttr (pteWindow pte)) 0

/-- A failed fill is counted, flagged and raises event 510 (R304). -/
def countFailed (s : State) : State := raise ((s.count 0x2201 4).setFlag 0x2200 9 1 true) 510

/-- The fills that hold a frame. -/
def State.fillsRunning (s : State) : Nat := (s.mem.fills.filter (fun x => x.frame.isSome)).length

/-- A page of the external flash. -/
def State.ofFlash (s : State) (v : Nat) : Bool := match s.pte v with | some p => pteBacking p == 2 | none => false

/-- An erase or a program of the external flash is under way: of the store, or of an update. -/
def State.flashBusy (s : State) : Bool := s.store.job.isSome || s.update.targets.any (fun t => t.stage == .erasing)

/-- One QSPI operation is active and eight are queued (Table 8.13): the reads of fills, and what the flash carries out. -/
def State.qspiFull (s : State) : Bool :=
  decide (9 ≤ (s.mem.fills.filter (fun x => x.frame.isSome && s.ofFlash x.page)).length + b2n s.flashBusy)

/-- A fill's frame is still written back. -/
def State.writesBack (s : State) (f : Nat) : Bool := match s.mem.use f with | some (.writeBack _ _ _) => true | _ => false

/-- A fill that waits takes its frame and its reads go out; at most 32 run, and a flash-backed page's needs room in the QSPI queue (Table 8.13). One whose frame
is written back takes no other but a free one. -/
def startWaiting (s : State) (v : Nat) : State :=
  let awaits := ((s.mem.fills.find? (fun x => x.page == v)).bind (·.awaits)).any s.writesBack
  if s.fillsRunning ≥ 32 || (s.ofFlash v && s.qspiFull) || (awaits && s.mem.freeFrames.isEmpty) then s
  else
    let put := fun (m : Mem) (g : Fill → Fill) => ({ m with fills := m.fills.map (fun x => if x.page == v then g x else x) } : Mem)
    match takeFrame s with
    | (s, .exhausted) => s
    | (s, .writesBack f) => { s with mem := put s.mem (fun x => { x with awaits := some f }) }
    | (s, .frame f) =>
      let host := match s.pte v with | some w => pteBacking w == 3 | none => false
      pumpReads { s with mem := put (s.mem.setUse f (.filling v)) (fun x => { x with frame := some f, issued := if host then 0 else 16, awaits := none }) }

/-- Fills that wait for a frame take one, in order. -/
def serveFills (s : State) : State :=
  (s.mem.fills.filter (fun x => x.frame.isNone)).foldl (fun t x => startWaiting t x.page) s

/-- A page may be prefetched (R305); one of the ring area has no backing to read. -/
def State.prefetchable (s : State) (v : Nat) : Bool :=
  match s.pte v with
  | none => false
  | some w => !ringPage v && s.pteAllows w .read &&
      (pteBacking w == 2 || (pteBacking w == 3 && bit (s.windowAttr (pteWindow w)) 2 && bit (s.windowAttr (pteWindow w)) 0
        && s.windowOpen (pteWindow w)))

/-- A stream has page v ahead of it, within the depth in force or among what was prefetched for it (R305). -/
def State.ofStream (s : State) (x : PfStream) (v : Nat) : Bool :=
  (decide (x.last < v) && decide (v ≤ x.last + s.get 0x2220 2)) || x.pages.contains v

/-- A stream begins; the least recently used of eight gives way, and dies with its prefetches (R305, R308). -/
def beginStream (s : State) (eng v : Nat) : State :=
  match s.mem.streams with
  | old :: rest =>
    if rest.length ≥ 7 then old.pages.foldl cancelPrefetch { s with mem := { s.mem with streams := rest ++ [⟨eng, v, []⟩] } }
    else { s with mem := { s.mem with streams := old :: rest ++ [⟨eng, v, []⟩] } }
  | [] => { s with mem := { s.mem with streams := [⟨eng, v, []⟩] } }

/-- An event is within 1 ms of an earlier one of which the downbeat before it is known. Frames of at most 20.1 ms and the frame under way bound the time between
them; where that does not decide, no command gives it (free; log entry 222). -/
def within1ms (s : State) (time : Nat) : State × Bool :=
  let d := s.now - time
  if 21100000 ≤ d then (s, false)
  else if s.beat.running && d + s.get 0x2101 2 ≤ 1000000 then (s, true)
  else (s.draw, Config.choice s.draws % 2 == 1)

/-- A demand fill or claim of a page by an engine: a stream begins at the second of two in a row within 1 ms, or moves on (R305). -/
def noteDemand (s : State) (eng v : Nat) : State :=
  let before := s.mem.misses.find? (fun x => x.engine == eng)
  let s : State := { s with mem := { s.mem with misses := s.mem.misses.filter (fun x => x.engine != eng) ++ [⟨eng, v, s.now⟩] } }
  match s.mem.streams.find? (fun x => x.engine == eng && s.ofStream x v) with
  | some x => { s with mem := { s.mem with
      streams := s.mem.streams.filter (· != x) ++ [{ x with last := max x.last v, pages := x.pages.filter (· != v) }] } }
  | none =>
    match before with
    | some b =>
      if b.page + 1 = v && s.prefetchable v && s.prefetchable b.page then
        match within1ms s b.time with
        | (s, true) => beginStream s eng v
        | (s, false) => s
      else s
    | none => s

/-- A prefetched frame is claimed (R306): FRAME and RESIDENT without a read. -/
def claim (s : State) (eng f v : Nat) : State :=
  let s : State := { s with mem := s.mem.setUse f (.page v (pteBack ((s.pte v).getD 0))) }
  let s := s.updatePte v (fun w => setBit (clearResident w - pteFrame w * 4096 + f * 4096) 7)
  noteDemand (s.count 0x2220 4) eng v

/-- What a demand on a page that is not resident leads to. -/
inductive Demand where
  /-- the waiter waits on a fill -/
  | waits
  /-- the fill failed at once -/
  | failed
  /-- a prefetched frame was claimed: the page is resident now -/
  | claimed
deriving DecidableEq, Repr

/-- A requester misses a page (R301, R306, R327): it joins the fill that runs, claims a prefetched frame, or starts a fill. -/
def demand (s : State) (eng v : Nat) (w : Waiter) : State × Demand :=
  match s.mem.frames.find? (fun e => e.2 == .prefetched v) with
  | some e => (claim s eng e.1 v, .claimed)
  | none =>
    match s.mem.fills.find? (fun x => x.page == v) with
    | some fl =>
      let s : State := { s with mem := { s.mem with
        fills := s.mem.fills.map (fun x => if x.page == v then { x with prefetch := false, waiters := x.waiters ++ [w] } else x) } }
      (if fl.prefetch then noteDemand (s.count 0x2220 4) eng v else s, .waits)
    | none =>
      match s.pte v with
      | none => (countFailed s, .failed)
      | some p =>
        if s.backingFails p then (countFailed s, .failed)
        else
          let s : State := { s with mem := { s.mem with fills := s.mem.fills ++ [⟨v, eng, none, 0, false, true, [w], none, none⟩] } }
          (startWaiting (noteDemand s eng v) v, .waits)

/-- A fill completes (R301 step 3): the data stand in the frame, FRAME and RESIDENT are set; the waiters are handed on. -/
def fillDone (s : State) (fl : Fill) (f : Nat) (data : List Nat) : State × List Waiter :=
  let m := s.mem.store (f * 4096) ((data ++ List.replicate 4096 0).take 4096)
  let m := { m.setUse f (.page fl.page (pteBack ((s.pte fl.page).getD 0))) with fills := m.fills.filter (fun x => x.page != fl.page) }
  let s : State := { s with mem := m }
  let s := (s.updatePte fl.page (fun w => setBit (clearResident w - pteFrame w * 4096 + f * 4096) 7)).count 0x2201 3
  (pumpReads (serveFills s), fl.waiters)

/-- A fill fails (R304): its frame returns, the failure is counted; the waiters are handed on for Table 8.6. -/
def fillFails (s : State) (fl : Fill) : State × List Waiter :=
  let s : State := { s with mem := { s.mem with fills := s.mem.fills.filter (fun x => x.page != fl.page) } }
  let s := dropReads s fl.page
  let s := match fl.frame with
    | some f => releaseFrame s f
    | none => s
  (pumpReads (serveFills (countFailed s)), fl.waiters)

/-- The pages of a stream that lie ahead: the next to prefetch, none where all stand or the first is not prefetchable (R305). -/
def State.prefetchNext (s : State) (x : PfStream) : Option Nat :=
  let ahead := (List.range (s.get 0x2220 2)).map (fun k => x.last + 1 + k)
  let wanting := ahead.find? (fun v =>
    !(s.prefetchable v && (((s.pte v).map pteResident).getD false || s.mem.frames.any (fun e => e.2 == .prefetched v)
      || s.mem.fills.any (fun f => f.page == v))))
  match wanting with
  | some v => if s.prefetchable v then some v else none
  | none => none

/-- No prefetch is issued (R307). -/
def State.prefetchHeld (s : State) : Bool :=
  decide ((s.mem.fills.filter (fun x => x.prefetch)).length ≥ 8) || decide (s.mem.fills.length ≥ 32) || s.mem.freeFrames.isEmpty
    || s.qspiFull || !s.linkUp

/-! ### TLB commands (R297) -/

/-- The command named by OP: 1 invalidate page, 2 invalidate all, 3 evict page. An evict that writes back completes when that ends. -/
def tlbCommand (s : State) (op v : Nat) : State :=
  if op = 2 then
    let s : State := { s with mem := { s.mem.dropAll with fills := s.mem.fills.map (fun x => { x with install := false }) } }
    s.count 0x2210 2
  else
    let s := cancelPrefetch s v
    let s : State := { s with mem := { s.mem with
      fills := s.mem.fills.map (fun x => if x.page == v then { x with install := false } else x) } }
    let held := s.mem.frames.findSome? (fun e => match e.2 with
      | .page p back => if p = v then some (e.1, back) else none
      | _ => none)
    let s := match op, held with
      | 3, some (f, back) => if (s.pteOf f v back).isSome then serveFills (evict s f v true) else s
      | _, _ => s
    let s : State := { s with mem := s.mem.dropPage v }
    if s.mem.frames.any (fun e => match e.2 with | .writeBack p _ true => p == v | _ => false) then s else s.count 0x2210 2

/-! ### Memory as an engine reads and writes it -/

/-- The outcome of an engine's access to object space. -/
inductive MemOut where
  | bytes (l : List Nat)
  | done
  | fault
  | miss (v : Nat)
  /-- an uncorrectable word (R287) -/
  | poison
  /-- a LOCK sequence holds a bank that the access needs (R352, R372) -/
  | held
deriving DecidableEq, Repr

/-- A LOCK sequence holds the bank of what an access to an address needs: the table entries that its walk reads and marks, or the frame (R372). -/
def State.accessHeld (s : State) (addr : Nat) : Bool :=
  let v := addr / 4096
  s.tabor.core.lock.isSome && (s.bankHeld (s.l1Addr v) || (s.pteAddr v).any s.bankHeld
    || (match s.walkPure v .read with
        | .ok f _ => s.bankHeld (f * 4096)
        | _ => false)
    || s.mem.main.any (fun e => e.page == v && s.bankHeld (e.frame * 4096)))

/-- Bytes read from object space, within one page. -/
def objRead (s : State) (eng addr n : Nat) : State × MemOut :=
  if s.accessHeld addr then (s, .held)
  else
    match translate s eng (addr / 4096) .read with
    | (s, .fault) => (s, .fault)
    | (s, .miss) => (s, .miss (addr / 4096))
    | (s, .ok f _) =>
      let a := f * 4096 + addr % 4096
      let (s, bad) := checkEcc s a n
      if bad then (s, .poison) else (s, .bytes (s.mem.read a n))

/-- The words that a write covers in part are read first, and their code is checked (R287). -/
def storeEcc (s : State) (a n : Nat) : State × Bool :=
  let (s, b1) := if a % 8 ≠ 0 || n < 8 then checkEcc s a 1 else (s, false)
  let (s, b2) := if (a + n) % 8 ≠ 0 && decide (0 < n) then checkEcc s (a + n - 1) 1 else (s, false)
  (s, b1 || b2)

/-- Bytes written to object space, within one page. -/
def objWrite (s : State) (eng addr : Nat) (data : List Nat) : State × MemOut :=
  if s.accessHeld addr then (s, .held)
  else
    match translate s eng (addr / 4096) .write with
    | (s, .fault) => (s, .fault)
    | (s, .miss) => (s, .miss (addr / 4096))
    | (s, .ok f _) =>
      let a := f * 4096 + addr % 4096
      let (s, bad) := storeEcc s a data.length
      if bad then (s, .poison) else ({ s with mem := s.mem.store a data }, .done)

end Sys2Proof.Machine
end

