-- ==== Sys2Proof/Machine/Ranges.lean ====
section
/-!
DEFINITION. The values that an object's own chapter refuses by R11 whatever the state: the fields of descriptors, words and identifiers.
-/

namespace Sys2Proof.Machine

/-- A descriptor is accepted (R310, Table 8.7). -/
def ringDescOk (d : Nat) : Bool :=
  decide (1 ≤ bits d 16 4) && decide (bits d 16 4 ≤ 12) && decide (ringSlots d * ringSize d ≤ 65536) && decide (bits d 60 2 ≠ 3)
    && (bits d 60 2 != 1 || (!bit d 59 && !bit d 62)) && (!bit d 63 || !bit d 62) && (bits d 60 2 != 2 || !bit d 62)

/-- A bank's parameters. -/
structure BankParams where
  d : Nat
  shift : Nat
  m : Nat
  sym : Bool
  taps : Nat
  firShift : Nat
  oShift : Nat
deriving DecidableEq, Repr

/-- A parameter word by field. -/
def BankParams.of (w : Nat) : BankParams :=
  ⟨bits w 56 8 + 1, bits w 51 5, 2 ^ bits w 49 2, bit w 48, bits w 42 6, bits w 37 5, bits w 32 5⟩

/-- A parameter word lies within Table 11.5, and on a telemetry lane D × M within 250 (R420, R422). -/
def bankParamsOk (telemetry : Bool) (w : Nat) : Bool :=
  let p := BankParams.of w
  decide (8 ≤ p.d) && decide (bits w 49 2 ≠ 3) && decide (1 ≤ p.taps) && decide (p.taps ≤ 48) && decide (p.oShift ≤ 16)
    && (!telemetry || decide (p.d * p.m ≤ 250))

/-- The inputs of a task select no source beyond 511 (Table 8.11). -/
def taskInputOk (w : Nat) : Bool := (setBits 8 w).all (fun j => decide (bits w 16 9 + j ≤ 511))

/-- The kind of a task action, and the handler of kind 5 (R358). -/
def taskActionOk (w : Nat) : Bool :=
  let owner := bits w 8 4
  decide (bits w 60 4 ≤ 5) && (bits w 60 4 != 5 || owner == 0 || (decide (owner ≤ 4) && decide (bits w 0 8 ≤ 63)))

/-- A button's word (R462): release below press, and both frame counts at least 1. -/
def buttonOk (w : Nat) : Bool := decide (bits w 12 10 < bits w 22 10) && decide (1 ≤ bits w 8 4) && decide (1 ≤ bits w 4 4)

/-- A fault action word (Table 14.6). -/
def faultActionOk (w : Nat) : Bool :=
  let a := bits w 14 2
  decide (a ≠ 3) && (if a = 1 then decide (1 ≤ bits w 4 4) else bits w 4 4 == 0) && (decide (bits w 0 4 ≤ 7) || bits w 0 4 == 15)

/-- A host window's base, length or attributes (0x2034). -/
def hostWindowOk (sub v : Nat) : Bool :=
  match sub % 3 with
  | 1 => v % 4096 == 0
  | 2 => decide (1 ≤ v) && decide (v ≤ 65536)
  | _ => true

/-- Values refused by R11 for their fields alone. -/
def valueOk (i s v : Nat) : Bool :=
  if i = 0x1005 then !bit v 30
  else if (0x1400 ≤ i && i ≤ 0x143F || 0x1800 ≤ i && i ≤ 0x183F) && s = 2 then decide (v ≤ 240) || decide (0xFE ≤ v)
  else if i = 0x2004 && s ≠ 0 then decide (bits v 32 16 ≤ bits v 16 16)
  else if i = 0x2034 && s ≠ 0 then hostWindowOk s v
  else if i = 0x2035 && s % 2 = 1 then v % 4096 == 0
  else if i = 0x2210 && s = 1 then decide (bits v 62 2 ≠ 0)
  else if 0x2400 ≤ i && i ≤ 0x24FF && s = 1 then ringDescOk v
  else if 0x2500 ≤ i && i ≤ 0x257F then
    (if 1 ≤ s && s ≤ 4 then taskInputOk v else if s = 5 then taskActionOk v else if 8 ≤ s && s ≤ 11 then v == 0 else true)
  else if i = 0x2620 && s ≠ 0 then decide (v ≤ 2)
  else if i = 0x3010 && s = 2 then bit v 28 && bit v 29 && bit v 31
  else if 0x3100 ≤ i && i ≤ 0x3117 && (s = 1 || s = 2) then bankParamsOk (decide (0x3110 ≤ i)) v
  else if i = 0x3203 && 1 ≤ s && s ≤ 8 then decide (50000 ≤ bits v 0 20) && decide (bits v 0 20 ≤ 800000)
  else if i = 0x3220 && s ≠ 0 then buttonOk v
  else if i = 0x4020 && s = 2 then decide (v ≤ 15) || v == 0xFF
  else if 0x4100 ≤ i && i ≤ 0x410F && s = 7 then faultActionOk v
  else if i = 0x4200 && (s = 2 || s = 6) then decide (2 ≤ v) && decide (v ≤ 5)
  else true

end Sys2Proof.Machine
end

