-- ==== Sys2Proof/Machine/Rings.lean ====
section
/-!
DEFINITION. Rings as they are opened, closed, popped, pushed and indexed (R310 to R319), and what the downbeat and the link do to them.
-/

namespace Sys2Proof.Machine

/-- The frames a ring's memory takes (R310). -/
def ringFrames (d : Nat) : Nat := (ringSlots d * ringSize d + 64 + 4095) / 4096

/-- A ring cannot open (R311): already open, its descriptor unfit, its host window closed or the link down, or frames lacking. -/
def State.ringOpenRefused (s : State) (n : Nat) : Bool :=
  let d := s.ringDesc n
  (s.sched.ring n).isOpen || !ringDescOk d
    || (if bit d 59 then !s.linkUp || !s.windowOpen (bits d 55 4) else decide (s.freeRingFrames.length < ringFrames d))

/-- A ring opens (R311): frames first-fit, zeroed, P, C and FLOOR at 0. -/
def ringOpen (s : State) (n opener owner : Nat) : State × Status :=
  let d := s.ringDesc n
  if s.ringOpenRefused n then (s.count 0x2300 5, .incompatible)
  else
    let fs := if bit d 59 then [] else s.freeRingFrames.take (ringFrames d)
    let s : State := { s with mem := fs.foldl (fun m f => m.store (f * 4096) (List.replicate 4096 0)) s.mem }
    let s := s.setRing n { Ring.reset with isOpen := true, opener := opener, owner := owner, frames := fs }
    (if bit d 59 then s.writeIndexBlock n else s, .ok)

/-- A ring closes for good: unmapped by R299, its frames returned (R318). -/
def ringCloseNow (s : State) (n : Nat) : State :=
  let r := s.sched.ring n
  let s := s.setRing n { r with isOpen := false, closing := false, opener := 0, owner := 0, frames := [], linkLoss := false }
  r.frames.foldl releaseFrame s

/-- A close command (R318): the ring stops accepting, and its end waits for the writes in flight to it. -/
def ringClose (s : State) (n : Nat) : State :=
  let r := s.sched.ring n
  if r.isOpen then s.setRing n { r with closing := true } else s

/-- The rings that are open, by number. -/
def State.openRings (s : State) : List Nat := (s.sched.rings.filter (fun e => e.2.isOpen)).map (·.1)

/-- The rings opened by a port (1 C, 2 K, 3 T) close at once (R312, Table 3.6). -/
def closeRingsOf (s : State) (opener : Nat) : State :=
  (s.openRings.filter (fun n => (s.sched.ring n).opener == opener)).foldl ringCloseNow s

/-- The rings of a user program close (R363, R364). -/
def closeRingsOwned (s : State) (owner : Nat) : State :=
  (s.openRings.filter (fun n => (s.sched.ring n).owner == owner)).foldl ringCloseNow s

/-- LINKLOSS is acknowledged (R317). -/
def ringAcknowledge (s : State) (n : Nat) : State :=
  let r := s.sched.ring n
  if r.isOpen && r.linkLoss then (s.setRing n { r with linkLoss := false }).writeIndexBlock n else s

/-- The status byte of a ring (Table 8.9, 03). -/
def ringStatus (s : State) (n : Nat) : Nat :=
  let r := s.sched.ring n
  b2n r.isOpen + 2 * b2n (decide (r.used = 0)) + 4 * b2n (r.isOpen && decide (r.used = ringSlots (s.ringDesc n))) + 8 * b2n r.linkLoss

/-- The device consumes: C advances, and CIDX follows in the index block of a ring in SRAM or in the host's memory. -/
def ringConsume (s : State) (n : Nat) : State :=
  let r := s.sched.ring n
  (s.setRing n { r with cons := (r.cons + 1) % 65536 }).writeIndexBlock n

/-- The entry at C of a ring in SRAM. -/
def State.ringHead (s : State) (n : Nat) : List Nat :=
  let d := s.ringDesc n
  let r := s.sched.ring n
  ringLoad s.mem r ((r.cons % ringSlots d) * ringSize d) (ringSize d)

/-- What a POP gives (R319). -/
inductive PopOut where
  | entry (l : List Nat)
  /-- an empty ring gives no bytes -/
  | empty
  /-- the entry lies in the host's memory and is read first -/
  | awaits (host : Nat)
  /-- a LOCK sequence holds the bank of the entry (R372) -/
  | held
  | failed
deriving DecidableEq, Repr

/-- The words of the entry at C are read, and their code is checked; the answer tells of an uncorrectable one (R287). -/
def ringCheck (s : State) (n : Nat) : State × Bool :=
  let d := s.ringDesc n
  let r := s.sched.ring n
  (List.range (ringSize d / 16)).foldl (fun x k =>
    match checkEcc x.1 (r.addr ((r.cons % ringSlots d) * ringSize d + 16 * k)) 16 with
    | (t, bad) => (t, x.2 || bad)) (s, false)

/-- A read of the POP window; a PEEK advances nothing (Table 5.6). An entry that cannot be read is dropped and counted (Table 8.6), by a PEEK too (DESIGN CHOICE,
log entry 223). -/
def ringPop (s : State) (n : Nat) (peek : Bool) : State × PopOut :=
  let d := s.ringDesc n
  let r := s.sched.ring n
  if !r.isOpen || r.used = 0 then (s, .empty)
  else if bit d 59 then
    if !s.ringReaches n 0 then (s, .failed)
    else (s, .awaits (s.ringHostAddr n ((r.cons % ringSlots d) * ringSize d)))
  else if s.ringHeld n then (s, .held)
  else
    match ringCheck s n with
    | (s, true) => (ringLost (ringConsume s n) n 1, .failed)
    | (s, false) => (if peek then s else ringConsume s n, .entry (s.ringHead n))

/-- What a PUSH meets (R319). -/
inductive PushOut where
  | done
  /-- C on a full STALL ring -/
  | busy
  /-- T on a full STALL ring -/
  | waits
deriving DecidableEq, Repr

/-- A write of the PUSH window. -/
def ringPush (s : State) (n : Nat) (fromT : Bool) (entry : List Nat) : State × PushOut :=
  let d := s.ringDesc n
  let r := s.sched.ring n
  if r.isOpen && !r.closing && !bit d 62 && bits d 60 2 == 2 && decide (r.used ≥ ringSlots d) && !s.ringCut n then
    if fromT then ({ s with sched := { s.sched with pushWait := some (n, entry) } }, .waits) else (s, .busy)
  else (ringProduce s n entry, .done)

/-- Entry C behind FLOOR is taken as FLOOR (R316). -/
def ringFloorOf (d : Nat) (r : Ring) (c : Nat) : Nat :=
  let behind := (r.floor + 65536 - c) % 65536
  if bit d 63 && decide (0 < behind) && decide (behind < 32768) then r.floor else c

/-- A new index from the side that writes it (R268, R315): an index out of range is discarded, counted, and reported if it came from K. -/
def ringIndex (s : State) (n : Nat) (consumer : Bool) (v : Nat) (fromK : Bool) : State :=
  let d := s.ringDesc n
  let r := s.sched.ring n
  let v := v % 65536
  let r' : Ring := if consumer then { r with cons := ringFloorOf d r v } else { r with prod := v }
  if r'.used > ringSlots d then
    let s := ringLost s n 1
    if fromK then raiseVector s 258 else s
  else
    let s := s.setRing n r'
    if !consumer && r'.prod ≠ r.prod then raise s n else s

/-- The side that may write an index (Table 8.9): the consumer of a ring the device fills; the producer, outside the device, of one it empties,
whose consumer index is the device's own. -/
def ringIndexAllowed (d : Nat) (p : Port) (consumer : Bool) : Bool :=
  if bit d 62 then (if consumer then p == .T else p != .T) else consumer

/-- The entry at C is on its way to a POP that was made before now. -/
def State.popped (s : State) (n : Nat) : Bool :=
  s.link.tags.any (fun t => match t.use with
    | .pop m p tag i => m == n && !(p == 3 && tag == 1) && i == some (s.sched.ring n).cons
    | _ => false)

/-- The downbeat's part for one ring (R316): an entry that a POP has taken before is none of those discarded (R331). -/
def ringDiscard (s : State) (n : Nat) : State :=
  let r := s.sched.ring n
  if r.isOpen && bit (s.ringDesc n) 63 then
    let k := r.used - b2n (s.popped n)
    let s := (s.countBy (0x2400 + n) 8 k).countBy 0x2102 4 k
    (s.setRing n { r with floor := r.prod, cons := r.prod, floorFrame := s.frame }).writeIndexBlock n
  else s

/-- Step 2 of Table 4.5: every open frame-scoped ring drains. -/
def ringsDownbeat (s : State) : State := s.openRings.foldl ringDiscard s

/-- A link-down event at the rings in host windows (R317). -/
def ringsLinkDown (s : State) : State :=
  s.openRings.foldl (fun t n =>
    if bit (t.ringDesc n) 59 then t.setRing n { t.sched.ring n with linkLoss := true } else t) s

/-- At LINK_UP the index blocks of rings with LINKLOSS are written again (R317). -/
def ringsLinkUp (s : State) : State :=
  s.openRings.foldl (fun t n => if (t.sched.ring n).linkLoss then t.writeIndexBlock n else t) s

/-- Rings with AUTOOPEN open in ascending number; one that cannot is logged and stays closed (R325). -/
def autoOpen (s : State) : State :=
  (List.range 256).foldl (fun t n =>
    if bit (t.ringDesc n) 54 then
      match ringOpen t n 0 0 with
      | (t', .ok) => t'
      | (t', _) => logCondition t' (0x2400 + n) 1 54 true 0
    else t) s

end Sys2Proof.Machine
end

