-- ==== Sys2Proof/Machine/TaborBase.lean ====
section
/-!
DEFINITION. The Tabor core below its instructions (chapter 9): the register window with spill and fill, the multiplier's pending writes, the address
map with the MPU, exception entry and the end of a user handler.
-/

namespace Sys2Proof.Machine

/-- The core. -/
def State.core (s : State) : Core := s.tabor.core

/-- The core replaced. -/
def State.setCore (s : State) (c : Core) : State := { s with tabor := { s.tabor with core := c } }

/-! ### Registers (R337, R338, Table 9.1) -/

/-- The physical register behind a visible number: 0 to 7 the globals, 8 to 135 the slots, 136 to 139 G4 to G7 of exception level. -/
def Core.regKey (c : Core) (r : Nat) : Nat :=
  if r < 8 then (if c.mst.exl && decide (4 ≤ r) then 132 + r else r)
  else if r < 16 then 8 + 16 * ((c.winb.slot + 1) % 8) + r
  else 8 + 16 * c.winb.slot + (r - 16)

/-- A visible register; G0 reads 0 (R337). -/
def Core.reg (c : Core) (r : Nat) : Word := if r = 0 then 0 else sparseGet c.regs (c.regKey r) 0

/-- A visible register written; a write to G0 is discarded (R337). A load still on its way to it no longer matters. -/
def Core.setReg (c : Core) (r : Nat) (v : Word) : Core :=
  if r = 0 then c
  else { c with regs := sparseSet c.regs (c.regKey r) v 0, loads := c.loads.filter (fun e => e.2 != c.regKey r) }

/-! ### The multiplier (R345, R346) -/

/-- The limits of the accumulator: 72 bits signed. -/
def accMax : Int := 2 ^ 71 - 1
/-- The lower limit. -/
def accMin : Int := -(2 ^ 71)

/-- Q is set by a multiply: a LOCK sequence that is broken later does not take it back, since no multiply is of the sequence (R353). -/
def Core.setQ (c : Core) : Core :=
  { c with flg := { c.flg with q := true }, lock := c.lock.map (fun l => { l with snap := { l.snap with flg := { l.snap.flg with q := true } } }) }

/-- One multiply's write reaches the accumulator: a sum beyond 72 bits saturates and sets Q. -/
def Core.applyMul (c : Core) (w : MulWrite) : Core :=
  match w with
  | .set v => { c with acc := v }
  | .add v =>
    let x := c.acc + v
    if x > accMax then { c with acc := accMax }.setQ
    else if x < accMin then { c with acc := accMin }.setQ
    else { c with acc := x }

/-- `n` clocks pass: multiplies that end write, in the order of their issue; loads are delivered. -/
def Core.pass (c : Core) (n : Nat) : Core :=
  let due := c.muls.filter (fun e => decide (e.1 ≤ n))
  let c := { c with muls := (c.muls.filter (fun e => decide (n < e.1))).map (fun e => (e.1 - n, e.2))
                    loads := (c.loads.filter (fun e => decide (n < e.1))).map (fun e => (e.1 - n, e.2)) }
  due.foldl (fun c e => c.applyMul e.2) c

/-- Every multiply in flight completes (R346). -/
def Core.settle (c : Core) : Core := c.pass 3

/-! ### The MPU and the address map (R342, R343, R394) -/

/-- An effective region of the MPU bank: its rights, where it contains the access wholly. -/
def Core.mpuRegion (c : Core) (r lo hi : Nat) : Option Nat :=
  let base := (nth c.mpu (4 * r) 0).toNat / 64 * 64
  let lim := (nth c.mpu (4 * r + 1) 0).toNat / 64 * 64 + 63
  let w := (nth c.mpu (4 * r + 2) 0).toNat
  if bit w 31 && decide (base ≤ lim) && decide (base ≤ lo) && decide (hi ≤ lim) then some (bits w 0 3) else none

/-- The regions that contain an access, lowest first. -/
def Core.mpuHits (c : Core) (lo hi : Nat) : List Nat := (List.range 8).filterMap (fun r => c.mpuRegion r lo hi)

/-- The right an access needs: bit 0 R, 1 W, 2 X (Table 10.6). -/
def Acc3.right : Acc3 → Nat
  | .read => 0 | .write => 1 | .fetch => 2

/-- The MPU grants an access: the highest-numbered region that contains it decides (R343). -/
def Core.mpuGrants (c : Core) (lo hi : Nat) (a : Acc3) : Bool :=
  match (c.mpuHits lo hi).getLast? with
  | some rights => bit rights a.right
  | none => false

/-- What the core's access meets: a physical byte address and the clocks added, the boot ROM, an exception, or a page that is not resident. -/
inductive CoreAcc where
  | ok (phys clocks : Nat)
  | rom
  | exc (code detail : Nat)
  | miss (v : Nat)
deriving DecidableEq, Repr

/-- An access of `n` bytes in a mode (Table 9.4). -/
def coreTranslate (s : State) (addr n : Nat) (a : Acc3) (user : Bool) : State × CoreAcc :=
  if addr + n ≤ 0x10000000 then
    if user && s.core.mst.mpuen && !s.core.mpuGrants addr (addr + n - 1) a then
      (s, .exc 0x07 (s.core.mpuHits addr (addr + n - 1)).length)
    else
      match translate s (if a == .fetch then 0 else 1) (addr / 4096) a with
      | (s, .ok f c) => (s, .ok (f * 4096 + addr % 4096) c)
      | (s, .fault) => (s, .exc 0x04 0)
      | (s, .miss) => (s, .miss (addr / 4096))
  else if user then (s, .exc 0x04 0)
  else if 0x80000000 ≤ addr && addr + n ≤ 0x80400000 then (s, .ok (addr - 0x80000000) 0)
  else if 0xFFFF0000 ≤ addr && addr + n ≤ 0x100000000 && a != .write then (s, .rom)
  else (s, .exc 0x04 0)

/-- A page missed by the core: the fill, or its failure at once (R301, R304). Multiplies in flight end while the core waits. -/
def coreMiss (s : State) (fetch : Bool) (v code detail : Nat) : State × Demand :=
  match demand s (if fetch then 0 else 1) v (.tabor fetch) with
  | (s, .waits) => ({ s with tabor := { s.tabor with core := s.core.settle, blocked := some (.page v code detail) } }, .waits)
  | r => r

/-! ### The window (R338 to R340) -/

/-- What a move of the window meets. -/
inductive WinOut where
  | ok
  | waits
  | fault
deriving DecidableEq, Repr

/-- The oldest resident slot. -/
def Winb.oldest (w : Winb) : Nat := (w.slot + 9 - w.resident) % 8

/-- The spill pointer of a mode. -/
def Core.wsp (c : Core) (user : Bool) : Word := if user then c.wspUser else c.wspSys

/-- The spill pointer of a mode replaced. -/
def Core.setWsp (c : Core) (user : Bool) (v : Word) : Core := if user then { c with wspUser := v } else { c with wspSys := v }

/-- The bytes of a slot, L0 to L7 and I0 to I7. -/
def Core.slotBytes (c : Core) (slot : Nat) : List Nat :=
  (List.range 16).flatMap (fun k => toLE 4 (sparseGet c.regs (8 + 16 * slot + k) (0 : Word)).toNat)

/-- What a spill or a fill meets: the physical address of its 64 bytes, a wait for their page, or a fault. -/
inductive WinAt where
  | at_ (phys : Nat)
  | waits
  | fault
deriving DecidableEq, Repr

/-- The access of a spill or a fill, checked under the mode that owns the frame (R340). A page that a prefetch holds is claimed, and the access made again. -/
def windowAccess (s : State) (addr : Nat) (a : Acc3) (user : Bool) (detail : Nat) : State × WinAt :=
  match coreTranslate s addr 64 a user with
  | (s, .ok p _) => (s, .at_ p)
  | (s, .miss v) =>
    match coreMiss s false v 0x09 detail with
    | (s, .waits) => (s, .waits)
    | (s, .failed) => (s, .fault)
    | (s, .claimed) =>
      match coreTranslate s addr 64 a user with
      | (s, .ok p _) => (s, .at_ p)
      | (s, _) => (s, .fault)
  | (s, _) => (s, .fault)

/-- The oldest frame is spilled under its own mode: WSP falls by 64, its 64 bytes are stored there, and it is resident no longer (R339). -/
def spill (s : State) : State × WinOut :=
  let c := s.core
  let slot := c.winb.oldest
  let user := bit c.winb.owner slot
  let a := (c.wsp user - 64#32).toNat
  if a % 64 ≠ 0 then (s, .fault)
  else
    match windowAccess s a .write user 1 with
    | (s, .at_ p) =>
      let s : State := { s with mem := s.mem.store p (c.slotBytes slot) }
      (s.setCore { (s.core.setWsp user (c.wsp user - 64#32)) with winb := { c.winb with resident := c.winb.resident - 1 } }, .ok)
    | (s, .waits) => (s, .waits)
    | (s, .fault) => (s, .fault)

/-- The window moves forward to a frame of the given owner, spilling first where all eight slots are needed. -/
def windowForward (s : State) (user : Bool) : State × WinOut :=
  let go (s : State) : State :=
    let w := s.core.winb
    let slot := (w.slot + 1) % 8
    s.setCore { s.core with winb := ⟨putBit w.owner slot user, w.resident + 1, slot⟩ }
  if s.core.winb.resident ≥ 7 then
    match spill s with
    | (s, .ok) => (go s, .ok)
    | r => r
  else (go s, .ok)

/-- A slot's sixteen registers from 64 bytes. -/
def Core.loadSlot (c : Core) (slot : Nat) (data : List Nat) : Core :=
  { c with regs := (List.range 16).foldl (fun m k =>
      sparseSet m (8 + 16 * slot + k) (BitVec.ofNat 32 (fromLE ((data.drop (4 * k)).take 4))) 0) c.regs }

/-- The window moves back, filling the frame it reaches where that is not resident (R339). -/
def windowBack (s : State) : State × WinOut :=
  let w := s.core.winb
  let slot := (w.slot + 7) % 8
  if w.resident > 1 then (s.setCore { s.core with winb := { w with resident := w.resident - 1, slot := slot } }, .ok)
  else
    let user := bit w.owner slot
    let a := (s.core.wsp user).toNat
    if a % 64 ≠ 0 then (s, .fault)
    else
      match windowAccess s a .read user 2 with
      | (s, .at_ p) =>
        match checkEcc s p 64 with
        | (s, true) => (s, .fault)
        | (s, false) =>
          let c := (s.core.loadSlot slot (s.mem.read p 64)).setWsp user (s.core.wsp user + 64#32)
          (s.setCore { c with winb := { w with slot := slot } }, .ok)
      | (s, .waits) => (s, .waits)
      | (s, .fault) => (s, .fault)

/-! ### LOCK sequences broken (R354) -/

/-- The bits that the accesses of a sequence set in PTEs clear again. -/
def undoMarks (s : State) (l : List (Nat × Nat)) : State := l.foldl (fun t e => t.updatePte e.1 (fun w => w - (w &&& e.2))) s

/-- The sequence is broken: multiplies in flight complete (R346), its buffer is discarded, registers, FLG and RC are as before it, the PC at the LOCK; nothing of
its accesses stays in a PTE, nor a breakpoint or watchpoint that it met. -/
def breakLock (s : State) : State :=
  match s.core.settle.lock with
  | none => s
  | some l =>
    let c := { s.core.settle with regs := l.snap.regs, flg := l.snap.flg, rc := l.snap.rc, pc := l.pc, lock := none, loads := [] }
    undoMarks { s with tabor := { s.tabor with core := c, watchHit := 0, breakHit := 0 } } l.marks

/-! ### Retiring an instruction (R347, R352, R355, R374, R395) -/

/-- The words of which the buffer holds a part only: each is read before it is written, and its code is checked (R287). -/
def commitChecks (l : List (Nat × Byte)) : List Nat :=
  ((l.map (fun e => e.1 / 8)).eraseDups).filter (fun k => !(List.range 8).all (fun j => l.any (fun x => x.1 == 8 * k + j)))

/-- The code of the words that a commit writes in part is checked; the answer tells of an uncorrectable one. -/
def commitEcc (s : State) (l : List (Nat × Byte)) : State × Bool :=
  (commitChecks l).foldl (fun x k =>
    match checkEcc x.1 (8 * k) 8 with
    | (t, bad) => (t, x.2 || bad)) (s, false)

/-- The buffered stores reach the SRAM at once; a word of which every byte is written becomes good (R287). -/
def commitStores (m : Mem) (l : List (Nat × Byte)) : Mem :=
  let m := l.foldr (fun e m => m.writeByte e.1 e.2) m
  { m with ecc := m.ecc.filter (fun e => !(List.range 8).all (fun k => l.any (fun x => x.1 == 8 * e.1 + k))) }

/-- The address after the instruction at the PC, and RC: the loop test of R347, against the block in force before it (R385). -/
def Core.following (c : Core) (rsa rea : Word) : Word × Word :=
  if c.pc = rea && c.rc ≠ 0#32 then (if c.rc = 1#32 then (c.pc + 4#32, 0#32) else (rsa, c.rc - 1#32)) else (c.pc + 4#32, c.rc)

/-- The instruction at the PC retires after its clocks, at a target where it transfers control; the last one of a LOCK sequence commits it, one clock
later. The boolean tells of a commit. -/
def advance (s : State) (clocks : Nat) (target : Option Word) (rsa rea : Word) : State × Bool :=
  let c := s.core.pass clocks
  let c : Core := match target with
    | some t => { c with pc := t }
    | none => { c with pc := (c.following rsa rea).1, rc := (c.following rsa rea).2 }
  let s : State := { s.setCore c with tabor := { s.tabor with core := c, inString := false } }
  match c.lock with
  | none => (s, false)
  | some l =>
    if l.left ≤ 1 then
      let s : State := { s with mem := commitStores s.mem l.stores }
      (s.setCore { c.pass 1 with lock := none }, true)
    else (s.setCore { c with lock := some { l with left := l.left - 1 } }, false)

/-- The core halts with a cause (Table 9.10); multiplies in flight complete (R346); TOLL falls until firmware services the watchdog again (R368). -/
def haltNow (s : State) (cause : Nat) (deferred : Bool) : State :=
  let c := s.core.settle
  let c := { c with cst := { c.cst with
    lockBrk := false, halted := true, deferred := deferred, hcause := cause, wphit := s.tabor.watchHit, bphit := s.tabor.breakHit
    user := c.mst.um } }
  { s with tabor := { s.tabor with
    core := c, run := .halted, haltDue := false, stepOne := false, inString := false, watchHit := 0, breakHit := 0, tollHeld := true } }

/-- An instruction boundary: what waits to halt the core there halts it (R355, R365, R367, R370), except inside a LOCK sequence. -/
def boundaryHalt (s : State) (committed : Bool) : State :=
  let t := s.tabor
  if t.core.lock.isSome || t.blocked.isSome || !(t.run == .boot || t.run == .running || t.run == .waiting) then s
  else if t.watchHit ≠ 0 then haltNow s 4 committed
  else if t.breakHit ≠ 0 then haltNow s 3 committed
  else if t.haltDue then haltNow s 1 committed
  else if t.stepOne then haltNow s 5 false
  else s

/-! ### User programs (R362 to R364) -/

/-- The object of user program p, 1 to 4. -/
def progObj (p : Nat) : Nat := 0x280F + p

/-- User program p, 1 to 4. -/
def State.prog (s : State) (p : Nat) : Option Prog := nth s.tabor.programs (p - 1) none

/-- User program p replaced. -/
def State.setProg (s : State) (p : Nat) (x : Option Prog) : State :=
  { s with tabor := { s.tabor with programs := s.tabor.programs.set (p - 1) x } }

/-- The state of user program p: 0 EMPTY, 1 LOADED, 2 RUNNING, 3 STOPPED, 4 FAULTED. -/
def State.progState (s : State) (p : Nat) : Nat := s.get (progObj p) 2

/-- A program's pages are mapped no longer: their PTEs are cleared, and their frames returned by R299 (log entry 224). -/
def unmapProgram (s : State) (x : Prog) : State :=
  let s : State := { s with mem := x.frames.foldl (fun m f => m.dropFrame f) s.mem }
  (List.range x.frames.length).foldl (fun t k => t.updatePte (x.base / 4096 + k) (fun _ => 0)) s

/-- A program is unloaded: rings closed, arena frames returned, EMPTY (R364). -/
def unloadProgram (s : State) (p : Nat) : State :=
  let s := closeRingsOwned s p
  let s := match s.prog p with
    | some x => unmapProgram s x
    | none => s
  ((s.setProg p none).set (progObj p) 2 0).set (progObj p) 6 0

/-- A handler of program p has ended: an INIT leads to RUNNING; a stop or unload that waited for it takes effect (R364). -/
def handlerEnds (s : State) (whole : Bool) : State :=
  match s.tabor.handler with
  | none => s
  | some (p, isInit) =>
    let s : State := { s with tabor := { s.tabor with handler := none, budgetDue := false } }
    let s := if isInit && whole && s.progState p ≠ 4 then s.set (progObj p) 2 2 else s
    match s.prog p with
    | none => s
    | some x =>
      if x.pendingCmd = 1 then (s.setProg p (some { x with pendingCmd := 0 })).set (progObj p) 2 3
      else if x.pendingCmd = 2 then unloadProgram s p
      else s

/-- A program goes to FAULTED (R363): its rings close, EMCY 0xFF50 with its number, a record carrying ECAUSE and EPC. -/
def faultProgram (s : State) (p ecause epc : Nat) : State :=
  if (s.prog p).isNone then s
  else
    let s := ((s.count (progObj p) 8).set (progObj p) 9 ecause).set (progObj p) 10 epc
    let s := closeRingsOwned (s.set (progObj p) 2 4) p
    emcyLogWith (handlerEnds s false) 0xFF50 p (ecause + (epc <<< 32))

/-! ### Exceptions (R356, R357, R375) -/

/-- A double fault stops the core (R375). A parity error of the register file or of a special register stops it in the same way; no command of the table brings one
(log entry 104). -/
def doubleFault (s : State) : State :=
  let s := breakLock s
  let s := s.setCore { s.core with cst := { s.core.cst with double := true } }
  { s with tabor := { s.tabor with run := .stopped, blocked := none } }

/-- ECAUSE (Table 9.6). -/
def ecauseOf (code detail : Nat) (imprecise inlock user : Bool) : Nat :=
  code + ((detail % 256) <<< 16) + (b2n user <<< 29) + (b2n inlock <<< 30) + (b2n imprecise <<< 31)

/-- Steps 2 to 4 and 6 of R356, the window apart. -/
def enterVector (s : State) (code detail epc : Nat) (imprecise inlock flat : Bool) : State :=
  let c := s.core
  let base := if c.mst.bev then 0xFFFF0000 else 0x80000000
  let c := { c with
    epc := BitVec.ofNat 32 epc
    ecause := BitVec.ofNat 32 (ecauseOf code detail imprecise inlock c.mst.um)
    mst := { c.mst with pum := c.mst.um, pee := c.mst.ee, um := false, ee := false, exl := true }
    flat := flat
    pc := BitVec.ofNat 32 (base + 16 * code) }
  let s := (s.setCore c).count 0x2800 3
  { s with tabor := { s.tabor with run := if s.tabor.run = .boot then .boot else .running, blocked := none, inString := false } }

/-- A user program's exception other than TRAP, BUDGET and EVENT sends it to FAULTED (R363). -/
def programFaults (s : State) (user : Bool) (prog code : Nat) : State :=
  if user && prog != 0 && code != 0x0B && code != 0x0C && code != 0x10 then
    faultProgram s prog s.core.ecause.toNat s.core.epc.toNat
  else s

/-- An exception (R356): multiplies settle, EPC and ECAUSE are set, modes saved, the window moved, the vector fetched. At exception level it is
a double fault. A spill that faults becomes WINDOW at the instruction at the PC, whose own entry moves no window (R399; log entry 37); a spill that waits for a page
lets the instruction raise its exception again once the page has come. -/
def takeException (s : State) (code detail epc : Nat) (imprecise inlock : Bool) : State :=
  let s := s.setCore s.core.settle
  if s.core.mst.exl then doubleFault s
  else
    let user := s.core.mst.um
    let prog := s.core.mst.prog
    match windowForward s false with
    | (s, .ok) => programFaults (enterVector s code detail epc imprecise inlock false) user prog code
    | (s, .waits) => s
    | (s, .fault) => programFaults (enterVector s 0x09 1 s.core.pc.toNat false inlock true) user prog 0x09

/-- A fault of the instruction at the PC. Inside a LOCK sequence it breaks the sequence, with EPC at the LOCK (R354). A step ends, and a halt that waits
is taken, at the first instruction of the handler (R367, R370). -/
def instrFault (s : State) (code detail : Nat) : State :=
  match s.core.lock with
  | some _ =>
    let s := (breakLock s).count 0x2802 1
    boundaryHalt (takeException s code detail s.core.pc.toNat false true) false
  | none => boundaryHalt (takeException s code detail s.core.pc.toNat false false) false

/-- The instruction at the PC retires. The last one of a LOCK sequence whose commit would write a part of an uncorrectable word breaks the sequence as a fault in it
does (R287, R354). -/
def retire (s : State) (clocks : Nat) (target : Option Word) : State :=
  let checked := match s.core.lock with
    | some l => if l.left ≤ 1 then commitEcc s l.stores else (s, false)
    | none => (s, false)
  match checked with
  | (s, true) => instrFault s 0x06 0
  | (s, false) =>
    match advance s clocks target s.core.rsa s.core.rea with
    | (s, committed) => boundaryHalt s committed

/-- A user activation that is abandoned at once leaves user mode as one that has ended does, by TRAP 255 at the instruction where it stood (R344, R389, R373; log
entry 225). Where its spill cannot be made, the entry moves no window. -/
def leaveUser (s : State) : State :=
  let run := s.tabor.run
  let s := breakLock s
  let s := s.setCore { s.core.settle with mst := { s.core.mst with prog := 0 } }
  let t := match windowForward s false with
    | (t, .ok) => enterVector t 0x0B 255 s.core.pc.toNat false false false
    | (t, _) => enterVector t 0x0B 255 s.core.pc.toNat false false true
  { t with tabor := { t.tabor with endDue := false, run := if run = .halted then .halted else t.tabor.run } }

end Sys2Proof.Machine
end

