-- ==== Sys2Proof/Machine/Operands.lean ====
section
/-!
DEFINITION. The operands of the Tabor core: immediates, effective addresses, the extensions of a loaded value, register pairs, the special registers
of Table 9.2 and the words of the MPU bank.
-/

namespace Sys2Proof.Machine

/-- A 16-bit field sign-extended. -/
def sext16 (x : BitVec 16) : Word := x.signExtend 32

/-- A 16-bit field zero-extended. -/
def zext16 (x : BitVec 16) : Word := x.zeroExtend 32

/-- A byte offset from the base register, modulo 2^32. -/
def Core.effective (c : Core) (a : Nat) (off : BitVec 16) : Nat := (c.reg a + sext16 off).toNat

/-- Bytes read, as a register takes them: sign- or zero-extended. -/
def extended (bytes : List Nat) (signed : Bool) : Word :=
  let w := 8 * bytes.length
  if signed then BitVec.ofInt 32 (toSigned w (fromLE bytes)) else BitVec.ofNat 32 (fromLE bytes)

/-- The value of a register pair: the even register in bits [31:0]. -/
def Core.pair (c : Core) (r : Nat) : Nat := (c.reg r).toNat + 2 ^ 32 * (c.reg (r + 1)).toNat

/-- A register pair written. -/
def Core.setPair (c : Core) (r v : Nat) : Core := (c.setReg r (BitVec.ofNat 32 v)).setReg (r + 1) (BitVec.ofNat 32 (v / 2 ^ 32))

/-- Leading zeros, 0 to 32. -/
def leadingZeros (a : Word) : Nat := ((List.range 32).find? (fun k => a.getLsbD (31 - k))).getD 32

/-! ### The accumulator as MGD, MHI and MLO -/

/-- The accumulator's 72 bits. -/
def Core.accBits (c : Core) : Nat := ofSigned 72 c.acc

/-- The accumulator from its 72 bits. -/
def Core.setAccBits (c : Core) (n : Nat) : Core := { c with acc := toSigned 72 n }

/-! ### MST and WINB as words (Tables 9.2, 9.3) -/

/-- MST. -/
def Mst.word (m : Mst) : Word :=
  BitVec.ofNat 32 (256 * bits m.prog 0 4 + 128 * b2n m.bev + 64 * b2n m.mpuen + 32 * b2n m.pum + 16 * b2n m.pee + 8 * b2n m.exl + 4 * b2n m.ee + b2n m.um)

/-- MST written by MTS: UM and EXL stand (R385). -/
def Mst.written (m : Mst) (w : Nat) : Mst :=
  { m with prog := bits w 8 4, bev := bit w 7, mpuen := bit w 6, pum := bit w 5, pee := bit w 4, ee := bit w 2 }

/-- WINB. -/
def Winb.word (w : Winb) : Word := BitVec.ofNat 32 (65536 * bits w.owner 0 8 + 256 * bits w.resident 0 4 + bits w.slot 0 3)

/-- WINB from its word. -/
def Winb.ofWord (w : Nat) : Winb := ⟨bits w 16 8, bits w 8 4, bits w 0 3⟩

/-! ### Special registers (Table 9.2) -/

/-- The highest special register. -/
def maxSpecial : Nat := 16

/-- A special register can be read in user mode: all but EPC and ECAUSE. -/
def specialReadable (n : Nat) (user : Bool) : Bool := !user || (n != 12 && n != 13)

/-- A special register can be written by MTS: never PC or CST; in user mode not MST, EPC, ECAUSE or WINB. -/
def specialWritable (n : Nat) (user : Bool) : Bool :=
  n != 0 && n != 16 && !(user && (n == 5 || n == 12 || n == 13 || n == 14))

/-- A special register's value, given CST. -/
def Core.special (c : Core) (cst : Nat) (n : Nat) : Word :=
  match n with
  | 0 => c.pc
  | 1 => c.flg.word
  | 2 => BitVec.ofNat 32 (c.accBits / 2 ^ 32)
  | 3 => BitVec.ofNat 32 c.accBits
  | 4 => BitVec.ofInt 32 (toSigned 8 (c.accBits / 2 ^ 64))
  | 5 => c.mst.word
  | 6 => c.rc
  | 7 => c.rsa
  | 8 => c.rea
  | 9 => c.sa
  | 10 => c.da
  | 11 => c.cnt
  | 12 => c.epc
  | 13 => c.ecause
  | 14 => c.winb.word
  | 15 => c.wsp c.mst.um
  | _ => BitVec.ofNat 32 cst

/-- A special register written; reserved fields are discarded (R13). ECAUSE keeps the fields of Table 9.6. -/
def Core.setSpecial (c : Core) (n : Nat) (v : Word) : Core :=
  let w := v.toNat
  match n with
  | 1 => { c with flg := Flg.ofWord v }
  | 2 => c.setAccBits (c.accBits / 2 ^ 64 * 2 ^ 64 + w * 2 ^ 32 + c.accBits % 2 ^ 32)
  | 3 => c.setAccBits (c.accBits / 2 ^ 32 * 2 ^ 32 + w)
  | 4 => c.setAccBits (w % 256 * 2 ^ 64 + c.accBits % 2 ^ 64)
  | 5 => { c with mst := c.mst.written w }
  | 6 => { c with rc := v }
  | 7 => { c with rsa := v }
  | 8 => { c with rea := v }
  | 9 => { c with sa := v }
  | 10 => { c with da := v }
  | 11 => { c with cnt := v }
  | 12 => { c with epc := v }
  | 13 => { c with ecause := v &&& 0xE0FF00FF#32 }
  | 14 => { c with winb := Winb.ofWord w }
  | 15 => c.setWsp c.mst.um v
  | _ => c

/-! ### The MPU bank (Table 10.6) -/

/-- The bits that word j of a region holds; word 3 reads 0. -/
def mpuMask (w : Nat) : Word :=
  match w % 4 with
  | 0 | 1 => 0xFFFFFFC0#32
  | 2 => 0x80000007#32
  | _ => 0#32

/-- A word of the bank. -/
def Core.mpuWord (c : Core) (w : Nat) : Word := nth c.mpu w 0#32

/-- A word of the bank written. -/
def Core.setMpuWord (c : Core) (w : Nat) (v : Word) : Core := { c with mpu := c.mpu.set w (v &&& mpuMask w) }

end Sys2Proof.Machine
end

