-- ==== Sys2Proof/Machine/Requests.lean ====
section
/-!
DEFINITION. How a request that did not end at once is answered at its port (R143, R164, R171), what the waiters of a fill receive (Table 8.6), and the
entry that a T PUSH waits to place.
-/

namespace Sys2Proof.Machine

/-- A response of the classic SDO server: eight bytes on the COB-ID of 0x1200:02. -/
def sdoSend (s : State) (bytes : List Nat) : State :=
  enqueueTx s .sdo (classic (bits (s.get 0x1200 2) 0 11) ((bytes ++ List.replicate 8 0).take 8))

/-- An LSS answer on COB-ID 0x7E4: on the line that carried the request, and on both in PARALLEL (R206). -/
def lssSend (s : State) (line : Nat) (bytes : List Nat) : State :=
  let both := s.inForce 0x2020 3 == 3
  let f := classic 0x7E4 ((bytes ++ List.replicate 8 0).take 8)
  { s with can := { s.can with txq := s.can.txq ++
      [⟨.lss, f, (both && s.lineInUse .A) || line == 0, (both && s.lineInUse .B) || line == 1, false, s.can.guard⟩] } }

/-- The multiplexor bytes of an object. -/
def muxBytes (i sub : Nat) : List Nat := toLE 2 i ++ [sub]

/-- The object a transfer concerns; 0 where none is in progress. -/
def SdoState.mux : SdoState → Nat × Nat
  | .idle => (0, 0)
  | .awaiting i k _ => (i, k)
  | .download i k _ _ _ _ => (i, k)
  | .upload i k _ _ => (i, k)
  | .blockDownload i k _ _ _ _ _ _ _ _ => (i, k)
  | .blockUpload i k _ _ _ _ _ _ => (i, k)

/-- The classic server aborts with a code and is idle. -/
def sdoAbort (s : State) (i sub code : Nat) : State :=
  let s := sdoSend s ([0x80] ++ muxBytes i sub ++ toLE 4 code)
  { s with can := { s.can with sdo := .idle } }

/-- An upload begins with its value captured (R151): expedited up to four bytes, else in segments. -/
def uploadBegin (s : State) (i sub : Nat) (data : List Nat) : State :=
  let n := data.length
  if 0 < n && n ≤ 4 then
    sdoSend { s with can := { s.can with sdo := .idle } } ((0x43 + 4 * (4 - n)) :: (muxBytes i sub ++ data))
  else sdoSend { s with can := { s.can with sdo := .upload i sub data false } } (0x41 :: (muxBytes i sub ++ toLE 4 n))

/-- A USDO response to an open session (R224): what it says is the abort code, 0 for success, and the data. CiA 1301 lays the frame out, and no rule of the
spec does; these bytes stand for it. -/
def usdoSend (s : State) (client session code : Nat) (data : List Nat) : State :=
  enqueueTx s .usdo ⟨0x580 + s.nodeId, [client, session] ++ toLE 4 code ++ data, true, true, false⟩

/-- The tag under which a USDO session's request waits. -/
def usdoTag (client session : Nat) : Nat := 1 + 256 * client + session

/-- The data bytes of one USDO frame (log entry 11). -/
def usdoRoom : Nat := 56

/-- The transfer of an open session replaced. -/
def setTransfer (s : State) (client session : Nat) (x : UsdoTransfer) : State :=
  { s with can := { s.can with usdo := s.can.usdo.map (fun y => if y.client == client && y.session == session then { y with transfer := x } else y) } }

/-- Data go out as far as one frame carries them; what is left waits for the client's next request (R224). -/
def usdoUpload (s : State) (client session : Nat) (data : List Nat) : State :=
  usdoSend (setTransfer s client session (if data.length ≤ usdoRoom then .idle else .upload (data.drop usdoRoom))) client session 0 (data.take usdoRoom)

/-- A USDO session's request has ended: a value of more than one frame begins a segmented upload. -/
def usdoAnswer (s : State) (tag : Nat) (st : Status) (data : List Nat) : State :=
  match s.can.usdo.find? (fun x => usdoTag x.client x.session == tag) with
  | some x => if st = .ok then usdoUpload s x.client x.session data else usdoSend s x.client x.session st.abort []
  | none => s

/-- The core takes the completion of its object request (R350): a value goes to its register pair; a status that is not OK raises OBJECT. -/
def finishCore (s : State) (st : Status) (data : List Nat) : State :=
  match s.tabor.blocked with
  | some (.object d) =>
    let s : State := { s with tabor := { s.tabor with blocked := none } }
    if st = .ok then
      let c := s.core.settle
      let v := fromLE (data.take 8)
      let c := match d with
        | some r => c.setPair r v
        | none => c
      retire (s.setCore c) 4 none
    else instrFault s 0x08 st.code
  | _ => s

/-- The debug port's request has ended: its status, and the value where it went well. -/
def Dap.finish (d : Dap) (st : Status) (data : List Nat) : Dap :=
  { d with
    busy := false, done := true, status := st.code
    data := if st = .ok && !data.isEmpty then fromLE (data.take 8) else d.data }

/-- A request that waited ends (R143): its reply, and how the port carries it. On C a `tag` that is not 0 is a USDO session's. -/
def finishRequest (s : State) (port i sub tag : Nat) (st : Status) (data : List Nat) : State :=
  match port with
  | 0 =>
    let s := s.reply .C st data
    if tag ≠ 0 then usdoAnswer s tag st data
    else
      match s.can.sdo with
      | .awaiting j k ok =>
        if j = i && k = sub then
          if st ≠ .ok then sdoAbort s i sub st.abort
          else if ok.isEmpty then uploadBegin s i sub data
          else sdoSend { s with can := { s.can with sdo := .idle } } ok
        else s
      | _ => s
  | 1 => (s.reply .K st data).sendPacket (.ocpl tag st.code (if st = .ok then data else []))
  | 2 => finishCore (s.reply .T st data) st data
  | _ =>
    let s := s.reply .D st data
    { s with test := { s.test with dap := s.test.dap.finish st data } }

/-- A lane's library load refused for want of its page (R424, Table 8.6). -/
def laneFillRefused (s : State) (n : Nat) : State :=
  let s : State := { s with sense := { s.sense with lanes := s.sense.lanes.modify n (fun l => { l with loading := false }) } }
  s.set (0x3100 + n) 12 2

/-- A refused MWR is discarded, counted, and raises vector 258 once per frame (R263). -/
def mwrRefused (s : State) : State :=
  let s := s.count 0x2031 11
  if s.link.raised258 then s else raiseVector { s with link := { s.link with raised258 := true } } 258

/-- A host access that cannot be served: an MRD is completed with a status of Table 7.5, an MWR discarded. -/
def inboundFails (s : State) (p : Packet) (status : Nat) : State :=
  match p with
  | .mrd tag _ _ => s.sendPacket (.cpl tag status [])
  | .mwr _ _ => mwrRefused s
  | _ => s

/-- What a waiter receives when its fill fails (Table 8.6). -/
def waiterFails (s : State) (w : Waiter) : State :=
  match w with
  | .tabor _ =>
    match s.tabor.blocked with
    | some (.page _ code detail) =>
      instrFault { s with tabor := { s.tabor with blocked := none } } code detail
    | _ => s
  | .inbound =>
    match s.link.inq with
    | [] => s
    | p :: rest => inboundFails { s with link := { s.link with inq := rest } } p 0x13
  | .lane n => laneFillRefused s n

/-- A fill fails and its waiters receive Table 8.6. -/
def failFill (s : State) (fl : Fill) : State :=
  match fillFails s fl with
  | (s, ws) => ws.foldl waiterFails s

/-- A page's fill fails, if one runs. -/
def failPage (s : State) (v : Nat) : State :=
  match s.mem.fills.find? (fun x => x.page == v) with
  | some fl => if fl.prefetch then cancelPrefetch s v else failFill s fl
  | none => s

/-- A device read that gave nothing ends for whoever asked (R264, R308, R319). -/
def failRead (s : State) (u : ReadUse) : State :=
  match u with
  | .fill v => failPage s v
  | .stale => s
  | .pop n p tag _ => finishRequest s p (0x2400 + n) 9 tag .hardware []

/-- Space has come in a ring: the T PUSH that waits for it is carried out and answered (R315). -/
def ringSpace (s : State) (n : Nat) : State :=
  match s.sched.pushWait with
  | some (m, e) =>
    let r := s.sched.ring m
    if m = n && (!r.isOpen || r.closing || decide (r.used < ringSlots (s.ringDesc m))) then
      let s : State := { s with sched := { s.sched with pushWait := none } }
      finishRequest (ringProduce s m e) 2 (0x2400 + m) 10 0 .ok []
    else s
  | none => s

end Sys2Proof.Machine
end

