-- ==== Sys2Proof/Machine/Flits.lean ====
section
/-!
DEFINITION. The bytes of flits and packets (R249, R250, R254, R255, R270): the encodings of Tables 7.3, 7.4 and 7.6 to 7.8, the parser of received payloads, and what
the device puts on the lanes.
-/

namespace Sys2Proof.Machine

/-! ### Packets (Tables 7.4 and 7.8) -/

/-- The header and data bytes of a packet. -/
def Packet.encode : Packet → List Nat
  | .mrd tag len addr => [0x10, tag] ++ toLE 2 len ++ toLE 4 0 ++ toLE 8 addr
  | .mwr addr data => [0x11, 0] ++ toLE 2 data.length ++ toLE 4 0 ++ toLE 8 addr ++ data
  | .cpl tag status data => [0x12, tag] ++ toLE 2 data.length ++ [status, 0, 0, 0] ++ data
  | .orq tag orw data => [0x20, tag] ++ toLE 2 data.length ++ toLE 4 0 ++ toLE 8 orw ++ data
  | .ocpl tag status data => [0x21, tag] ++ toLE 2 data.length ++ [status, 0, 0, 0] ++ data
  | .dbell n value => [0x30, 0] ++ toLE 2 n ++ toLE 4 value
  | .intmsg count vector frame time => [0x40, count] ++ toLE 2 vector ++ toLE 4 frame ++ toLE 8 time
  | .stream source flags seq time samples => [0x50, source] ++ toLE 2 flags ++ toLE 4 seq ++ toLE 8 time ++ (samples.map (toLE 2)).flatten
  | .cfgrd tag offset => [0x60, tag] ++ toLE 2 offset ++ toLE 4 0

/-- The length of a packet in bytes: header and data. -/
def Packet.bytes (p : Packet) : Nat := p.encode.length

/-- The header bytes of the packets that the host sends, and whether the length in bytes 2 and 3 counts data that follow; none for a type that the device cannot
parse, or that comes against its direction (R255). -/
def hostHeader (ptype : Nat) : Option (Nat × Bool) :=
  match ptype with
  | 0x10 => some (16, false)
  | 0x11 => some (16, true)
  | 0x12 => some (8, true)
  | 0x20 => some (16, true)
  | 0x30 => some (8, false)
  | 0x60 => some (8, false)
  | _ => none

/-- A host packet read from its whole bytes. -/
def Packet.decode (l : List Nat) : Option Packet :=
  let n := fromLE ((l.drop 2).take 2)
  let wide := fromLE ((l.drop 8).take 8)
  match nth l 0 0 with
  | 0x10 => some (.mrd (nth l 1 0) n wide)
  | 0x11 => some (.mwr wide ((l.drop 16).take n))
  | 0x12 => some (.cpl (nth l 1 0) (nth l 4 0) ((l.drop 8).take n))
  | 0x20 => some (.orq (nth l 1 0) wide ((l.drop 16).take n))
  | 0x30 => some (.dbell n (fromLE ((l.drop 4).take 4)))
  | 0x60 => some (.cfgrd (nth l 1 0) n)
  | _ => none

/-- What a receiver has made of bytes: whole packets, the bytes of one whose end has not come, whether it met a packet it cannot parse, and whether a byte of a posted
packet was among them. -/
structure Parsed where
  packets : List Packet
  rest : List Nat
  lost : Bool
  posted : Bool
deriving DecidableEq, Repr

/-- Packets read from bytes that begin at a packet (R254): PAD is skipped, data end at a dword, and a type, direction or length that cannot be ends the reading. -/
def parseBytes : Nat → List Nat → Parsed
  | 0, l => ⟨[], l, false, false⟩
  | n + 1, l =>
    if l.isEmpty then ⟨[], [], false, false⟩
    else if nth l 0 0 = 0 then parseBytes n (l.drop 4)
    else
      match hostHeader (nth l 0 0) with
      | none => ⟨[], [], true, false⟩
      | some (h, data) =>
        let len := if data then fromLE ((l.drop 2).take 2) else 0
        let size := h + (len + 3) / 4 * 4
        let mine := nth l 0 0 == 0x11 || nth l 0 0 == 0x30
        if 256 < len then ⟨[], [], true, mine⟩
        else if l.length < size then ⟨[], l, false, mine⟩
        else
          let r := parseBytes n (l.drop size)
          { r with packets := (Packet.decode (l.take size)).toList ++ r.packets, posted := mine || r.posted }

/-! ### Flits (Table 7.3) -/

/-- The code of a flit type. -/
def FType.code : FType → Nat
  | .idle => 0 | .data => 1 | .link => 2

/-- The code of an ACKTYPE. -/
def AckType.code : AckType → Nat
  | .none => 0 | .ack => 1 | .nak => 2

/-- The header word of a flit. -/
def Flit.header (f : Flit) : Nat :=
  (f.ftype.code <<< 60) + (f.seq <<< 48) + (f.ackSeq <<< 36) + (f.ack.code <<< 34) + (f.pcred <<< 24) + (f.first <<< 16)

/-- The 256 bytes of a flit; its CRC-32 is over bytes 0 to 251 (R249). -/
def Flit.bytes (f : Flit) : List Nat :=
  let body := toLE 8 f.header ++ f.payload
  body ++ toLE 4 (crc32 body)

/-- A flit read from its bytes: good when its CRC matches. A reserved FTYPE is neither sequenced nor parsed, and a reserved ACKTYPE acknowledges nothing (log entry
219). -/
def Flit.of (l : List Nat) : Flit where
  good := l.length == 256 && fromLE (l.drop 252) == crc32 (l.take 252)
  ftype := match bits (fromLE (l.take 8)) 60 4 with
    | 1 => .data
    | 2 => .link
    | _ => .idle
  seq := bits (fromLE (l.take 8)) 48 12
  ack := match bits (fromLE (l.take 8)) 34 2 with
    | 1 => .ack
    | 2 => .nak
    | _ => .none
  ackSeq := bits (fromLE (l.take 8)) 36 12
  pcred := bits (fromLE (l.take 8)) 24 10
  first := bits (fromLE (l.take 8)) 16 8
  payload := (l.drop 8).take 244

/-- The bytes that a flit adds to those of a packet under way: all of its payload, or, after a discontinuity, what begins at FIRSTPKT (R254). -/
def Flit.parsedBytes (f : Flit) (part : List Nat) (lost : Bool) : List Nat :=
  if lost then f.payload.drop (4 * f.first) else part ++ f.payload

/-- What a flit's payload completes. -/
def Flit.parse (f : Flit) (part : List Nat) (lost : Bool) : Parsed :=
  if lost && 60 < f.first then ⟨[], [], true, false⟩
  else
    let l := f.parsedBytes part lost
    parseBytes (l.length + 1) l

/-! ### What the device puts on the lanes (R250 to R252, R258) -/

/-- A flit goes out with the acknowledgement and the credits that are due; a NAK is sent once. -/
def putFlit (s : State) (ftype : FType) (seq first : Nat) (payload : List Nat) : State :=
  let l := s.link
  let credit := min 1023 (l.returned - l.given)
  { s with link := { l with
      sent := l.sent ++ [⟨true, ftype, seq, l.ackType, l.ackSeq, credit, first, payload⟩]
      given := l.given + credit
      ackType := if l.ackType = .nak then .none else l.ackType } }

/-- The payload of a DATA flit: its part of its packet, and PAD. -/
def TxFlit.payload (f : TxFlit) : List Nat :=
  let l := (f.packet.encode.drop (244 * f.part)).take 244
  l ++ List.replicate (244 - l.length) 0

/-- The dword at which the first packet begins in a flit: its own, or the PAD after the end of the one it ends. -/
def TxFlit.first (f : TxFlit) : Nat :=
  if f.part = 0 then 0
  else
    let used := (f.packet.bytes - 244 * f.part + 3) / 4
    if used ≤ 60 then used else 0xFF

/-- A DATA flit goes out. -/
def putData (s : State) (f : TxFlit) : State := putFlit s .data f.seq f.first f.payload

/-- A LINK flit goes out: the capability exchange of CONFIG and RETRAIN (R250): width, SEQ start, posted flit credits and tags, two bytes each (log entry 219). -/
def putLink (s : State) : State :=
  let l := toLE 2 (s.get 0x2031 2) ++ toLE 2 0 ++ toLE 2 512 ++ toLE 2 256
  putFlit s .link 0 0xFF (l ++ List.replicate (244 - l.length) 0)

/-- Nothing has been sent by this command yet. -/
def freshLanes (s : State) : State := { s with link := { s.link with sent := [] } }

/-- A transmitter with nothing to send sends an IDLE flit (R250). -/
def putIdle (s : State) : State := if s.link.sent.isEmpty then putFlit s .idle 0 0xFF (List.replicate 244 0) else s

/-! ### Samples (Tables 7.6 and 7.7) -/

/-- The container of a sample: of a touch position, or of HK (source 16). -/
def Sample.container (source : Nat) (x : Sample) : Nat :=
  if source = 16 then x.code % 4096 * 16 + 8 * b2n x.edge else x.code % 16384 * 4 + 2 * b2n x.outside + b2n x.edge

end Sys2Proof.Machine
end

