-- ==== Sys2Proof/Machine/LinkOps.lean ====
section
/-!
DEFINITION. The Kyodlink's states (R245 to R253, R276 to R280, R284): entering and leaving them, what a link-down event ends, and what LINK_UP starts.
-/

namespace Sys2Proof.Machine

/-- The link state (Table 7.2). -/
def State.linkState (s : State) : Nat := s.get 0x2031 1

/-- The link state replaced, with the record that verbosity adds (R651). -/
def setLink (s : State) (n : Nat) : State :=
  let old := s.linkState
  if old = n then s else logVerbose (s.set 0x2031 1 n) 0x2031 1 old n

/-- The training condition of R246. A failed self-test slice holds the link disabled (Table 19.3). -/
def State.trainCondition (s : State) : Bool :=
  decide (s.get 0x2030 1 ≠ 0) && s.clocks.kref && s.link.hostUp && !bit s.test.degraded 16 && !bit s.test.degraded 17

/-- Stream packets lost with a link-down event, or with the replay buffer, are counted and their sources marked (R271, R278). -/
def streamLost (s : State) (p : Packet) : State :=
  match p with
  | .stream src _ _ _ _ =>
    let s := s.count 0x2032 3
    let s : State := { s with link := { s.link with streams := s.link.streams.modify src (fun x => { x with discont := true }) } }
    if s.link.raised259 then s else raiseVector { s with link := { s.link with raised259 := true } } 259
  | _ => s

/-- Requests of the host that a store job would still answer are dropped without completion (R278). -/
def dropHostAsker (a : Asker) : Asker :=
  match a with
  | .port p i k t => if p = 1 then .none else .port p i k t
  | x => x

/-- Write-backs cut short by a link-down event lose their pages (R303). -/
def writeBacksLost (s : State) : State :=
  s.mem.frames.foldl (fun t e =>
    match e.2 with
    | .writeBack v _ _ => writeBackLost t e.1 v
    | _ => t) s

/-- What a link-down event ends (R253, R278): reads fail, posted traffic is lost, the host's requests are dropped, rings mark LINKLOSS, 0x2031:05 counts
and event 503 is raised. -/
def linkDown (s : State) : State :=
  let lost := (s.link.replay.filter (·.last)).map (·.packet) ++ s.link.out
  let uses := (s.link.tags.map (·.use)).filter (fun u => match u with | .pop _ 1 _ _ => false | _ => true)
  let hostFills := (s.mem.fills.filter (fun x => match s.pte x.page with
    | some p => pteBacking p == 3
    | none => false)).map (fun x => ReadUse.fill x.page)
  let pops := (s.link.pops.filter (fun e => e.2.1 != 1)).map (fun e => ReadUse.pop e.1 e.2.1 e.2.2 none)
  let s : State := { s with
    link := { s.link with
      replay := [], out := [], tags := [], nakSent := false, due257 := true, pops := []
      inq := s.link.inq.filter Packet.posted
      closing := s.link.closing.map (fun e => (e.1, dropHostAsker e.2)) }
    mem := { s.mem with fills := s.mem.fills.map (fun x => { x with waiters := x.waiters.filter (fun w => w != .inbound) }) }
    update := { s.update with asker := dropHostAsker s.update.asker }
    store := { s.store with job := s.store.job.map (fun j => { j with asker := dropHostAsker j.asker }) } }
  let s := s.count 0x2031 5
  let s := lost.foldl streamLost s
  let s := (uses ++ pops ++ hostFills).foldl failRead s
  let s := ringsLinkDown (serveFills (writeBacksLost s))
  raise s 503

/-- The lanes go to electrical idle: IDLE, or DISABLED where training has not begun (Table 7.2; log entry 218). A link that was up goes down first. -/
def linkIdle (s : State) : State :=
  let s := if s.linkUp then linkDown s else s
  (setLink s (if s.linkState = 0 then 0 else 1)).set 0x2031 2 0

/-- DETECT is entered (R246, R253): from LINK_UP or RETRAIN that is a link-down event. Without the training condition the lanes idle. -/
def enterDetect (s : State) : State :=
  if !s.trainCondition then linkIdle s
  else
    let s := if s.linkUp then linkDown s else s
    let s := (setLink s 2).set 0x2031 2 0
    { s with link := { s.link with trainWidth := s.get 0x2030 1 } }

/-- The training condition may have changed: training begins from DISABLED or IDLE, and a link whose condition is false idles. NO_REFCLK stands while KREF is
absent (R284). -/
def linkReview (s : State) : State :=
  let s := s.setFlag 0x2031 13 0 (!s.clocks.kref)
  if !s.trainCondition then linkIdle s
  else if s.linkState ≤ 1 then enterDetect s
  else s

/-- FAILED (R245): TRAIN_FAIL is set and logged. Three in a row lead to DETECT, with TRAIN_FAIL set (R253); `FAILED_TIMEOUT` leads there too. -/
def linkFailed (s : State) : State :=
  let s := (setLink s 8).set 0x2031 2 0
  let s := logCondition (s.setFlag 0x2031 13 3 true) 0x2031 13 3 true 0
  let run := s.link.failedRun + 1
  let s : State := { s with link := { s.link with failedRun := run } }
  if run ≥ 3 then enterDetect { s with link := { s.link with failedRun := 0 } } else s

/-- The bit of an object that opens a host window, an inbound window or a routing entry (R263, R267, R272). -/
def openBit (i sub : Nat) : Option Nat :=
  if i = 0x2034 && sub % 3 = 0 then some 15
  else if (i = 0x2035 && sub % 2 = 0) || (0x2610 ≤ i && i ≤ 0x2619) then some 31
  else none

/-- A port's write of an object opens or closes what it holds: the opening port is kept. -/
def noteOpener (s : State) (p : Port) (i sub old v : Nat) : State :=
  match openBit i sub with
  | none => s
  | some b =>
    if bit old b == bit v b then s
    else
      let l := s.link.openers.filter (fun e => e.1 ≠ key i sub)
      { s with link := { s.link with openers := if bit v b then l ++ [(key i sub, p.code + 1)] else l } }

/-- The object stands open, and not through C or K. -/
def State.openElsewhere (s : State) (i sub : Nat) : Bool :=
  match openBit i sub with
  | none => false
  | some b => bit (s.get i sub) b && !s.link.openers.any (fun e => e.1 == key i sub && (e.2 == 1 || e.2 == 2))

/-- A host window is being closed (R266, R267, R308): prefetches in it are cancelled, and a fill that still has reads to issue fails. -/
def windowCloses (s : State) (w : Nat) : State :=
  let s := (s.prefetchesIn w).foldl cancelPrefetch s
  let cut := (s.mem.fills.filter (fun x => (x.frame.isNone || decide (x.issued < 16)) && (match s.pte x.page with
    | some p => pteBacking p == 3 && pteWindow p == w
    | none => false))).map (·.page)
  cut.foldl failPage s

/-- Every vector with a count tries to send (R272, R278). -/
def sendVectors (s : State) : State := (s.link.vecs.map (·.1)).foldl trySend s

/-- Vector 256 (R276): raised whatever its routing and mask, and sent at once while the link is up; its entry decides only about a pin. -/
def raiseReset (s : State) : State :=
  let s := if bit (s.routing 256) 31 && bit (s.routing 256) 29 then s.setFlag 0x2621 9 0 true else s
  if s.linkUp then s.sendPacket (.intmsg 1 256 (s.frame % 2 ^ 32) s.now)
  else { s with link := { s.link with reset256 := true } }

/-- LINK_UP is entered: counted, TRAIN_FAIL clears, NARROWED at full width; vectors send, then 257, or 256 where a reset waits for it (R272, R278, R279);
rings in host windows rewrite their index blocks (R317); event 502. -/
def linkUpEntered (s : State) (full : Bool) : State :=
  let s := (setLink s 6).count 0x2031 4
  let s := (s.setFlag 0x2031 13 3 false)
  let s := if s.get 0x2031 2 = s.link.trainWidth then s.setFlag 0x2031 13 1 false else s
  let l := s.link
  let l := if full then { l with nextSeq := 0, expected := 0, replay := [], credits := 512, nakSent := false, ackType := .none, ackSeq := 0, returned := 0, given := 0, rxPart := [], rxLost := false } else l
  let s : State := { s with link := { l with failedRun := 0, replayRun := 0 } }
  let s : State := if s.update.windowOpen then { s with update := { s.update with healthReached := s.update.healthReached ||| 4 } } else s
  let s := ringsLinkUp (sendVectors s)
  let due257 := s.link.due257
  let due256 := s.link.reset256
  let s : State := { s with link := { s.link with due257 := false, reset256 := false } }
  let s := if due256 then raiseReset s else if due257 then raiseVector s 257 else s
  raise s 502

/-- The payload capacity at a width, in 10 kbit/s: W × 50.24 Gbit/s (R269). -/
def linkCapacity (w : Nat) : Nat := w * 5024000

/-- The stream rate of a set of sources, in 10 kbit/s, doubled: (156,250 per touch source + 39,062.5 for HK) × 2,064 × 8 bit/s (R269). -/
def streamRate2 (v : Nat) : Nat :=
  (popcount 16 v * 312500 + (if bit v 16 then 78125 else 0)) * 2064 * 8

/-- The sources fit in 60 % of the capacity at a width. -/
def streamFits (v w : Nat) : Bool := decide (streamRate2 v * 10 ≤ 2 * 6 * linkCapacity w * 10000)

/-- A narrowed link that the stream no longer fits suspends it (R271). -/
def streamSuspend (s : State) : State :=
  if s.get 0x2032 1 ≠ 0 && !streamFits (s.get 0x2032 1) (s.get 0x2031 2) then
    let s := (s.set 0x2032 1 0).setFlag 0x2031 13 2 true
    raiseVector (logCondition s 0x2031 13 2 true 0) 259
  else s

/-- RETRAIN is entered (R253): a third within 1 s leads to DETECT instead. -/
def enterRetrain (s : State) : State :=
  let recent := s.link.retrains.filter (fun t => decide (s.now - t < 1000000000))
  let s := s.count 0x2031 6
  let s : State := { s with link := { s.link with retrains := (s.now :: recent).take 3 } }
  if recent.length ≥ 2 then enterDetect { s with link := { s.link with retrains := [] } } else putLink (setLink s 7)

end Sys2Proof.Machine
end

