-- ==== Sys2Proof/Machine/Sequencer.lean ====
section
/-!
DEFINITION. The sequencer (chapter 14): requests, the orders and their steps, failures and retries, the emergency order and a hard reset's order; and the
commands of supervision, whose faults can end a step's wait.
-/

namespace Sys2Proof.Machine

/-! ### Step words (Tables 14.3 and 14.4) -/

/-- The length of a table. -/
def OrderTable.len : OrderTable → Nat
  | .up | .down => 64
  | .emergency => 32

/-- The object of a table. -/
def OrderTable.index : OrderTable → Nat
  | .up => 0x4201 | .down => 0x4202 | .emergency => 0x4203

/-- The step word in force. -/
def State.stepWord (s : State) (t : OrderTable) (k : Nat) : Nat := if k < t.len then s.inForce t.index (k + 1) else 0

/-- TYPE of a step word. -/
def stepType (w : Nat) : Nat := bits w 28 4
/-- LEVEL of a step word. -/
def stepLevel (w : Nat) : Nat := bits w 26 2
/-- TSEL of a step word. -/
def stepTsel (w : Nat) : Nat := bits w 24 2
/-- OBJ of a step word. -/
def stepObj (w : Nat) : Nat := bits w 20 4
/-- TIME of a step word. -/
def stepTime (w : Nat) : Nat := bits w 0 16

/-- The index of a table's END, or its length. -/
def endIndex (word : Nat → Nat) (len : Nat) : Nat := ((List.range len).find? (fun k => stepType (word k) == 0)).getD len

/-- The target of rail n that TSEL names. -/
def State.stateTarget (s : State) (n tsel : Nat) : Nat := s.get (railObj n) (7 + tsel)

/-- The ramp of R542 in µs, rounded up: from the highest of the three state targets to 0 V at the emergency slew. -/
def State.emergencyRamp (s : State) (n : Nat) : Nat :=
  let mv := max (s.stateTarget n 0) (max (s.stateTarget n 1) (s.stateTarget n 2))
  let slew := max 1 (s.inForce 0x4204 (n + 1))
  (mv * 10 + slew - 1) / slew

/-- 0x2013:01 of R542. -/
def State.emergencyDuration (s : State) : Nat :=
  let last := endIndex (s.stepWord .emergency) 32
  let words := (List.range last).map (s.stepWord .emergency)
  let each := words.map (fun w =>
    match stepType w with
    | 8 | 9 => 10 * stepTime w
    | 4 => s.emergencyRamp (stepObj w)
    | _ => 1)
  let named := (words.filter (fun w => stepType w == 3)).map stepObj
  let rest := ((List.range 16).filter (fun n => !named.contains n)).map s.emergencyRamp
  satNat 32 (each.sum + rest.foldl max 0)

/-- 0x2013:01 recomputed (R542). -/
def refreshEmergency (s : State) : State := s.set 0x2013 1 s.emergencyDuration

/-! ### The power state -/

/-- The state of a level. -/
def PState.ofLevel : Nat → PState
  | 0 => .keepalive | 1 => .listen | 2 => .service | _ => .run

/-- The level of a state; OFF and SHIP are reached from KEEPALIVE. -/
def PState.levelOf : PState → Nat
  | .listen => 1 | .service => 2 | .run => 3 | _ => 0

/-- A state by its code, as a request names it. -/
def PState.ofCode : Nat → Option PState
  | 0 => some .off | 1 => some .ship | 2 => some .keepalive | 3 => some .listen | 4 => some .service | 5 => some .run
  | _ => none

/-- The state in force changes (R531): event 492, vector 261; the touch bank powers down where touch does not scan (R439). -/
def setPState (s : State) (p : PState) : State :=
  if s.aocb.pstate = p then s
  else
    let old := s.aocb.pstate
    let s : State := { s with aocb := { s.aocb with pstate := p } }
    let s : State := if s.touchState then s else { s with sense := { s.sense with power := .off } }
    logVerbose (raiseEv s 492 261) 0x4200 1 old.code p.code

/-- The state steps up level by level to `to_`. -/
def climb (s : State) (from_ to_ : Nat) : State :=
  (List.range (to_ - from_)).foldl (fun t k => setPState t (PState.ofLevel (from_ + 1 + k))) s

/-- The state steps down level by level to `to_`. -/
def descend (s : State) (from_ to_ : Nat) : State :=
  (List.range (from_ - to_)).foldl (fun t k => setPState t (PState.ofLevel (from_ - 1 - k))) s

/-- The level that holds the up order's LINK_ON, if any (R537). -/
def State.linkLevel (s : State) : Option Nat :=
  let last := endIndex (s.stepWord .up) 64
  ((List.range last).find? (fun k => stepType (s.stepWord .up k) == 10)).map (fun k => stepLevel (s.stepWord .up k))

/-- The host-domain mark set or cleared (LINK_ON, LINK_OFF). -/
def setHostUp (s : State) (b : Bool) : State := linkReview { s with link := { s.link with hostUp := b } }

/-! ### A run of an order -/

/-- A run replaced. -/
def State.setRun (s : State) (r : Option Run) : State := { s with seq := { s.seq with run := r } }

/-- A step of a run's range (R537). -/
def Run.covers (r : Run) (w : Nat) : Bool :=
  match r.table with
  | .up => decide (r.fromLevel < stepLevel w) && decide (stepLevel w ≤ r.toLevel)
  | .down => decide (r.toLevel < stepLevel w) && decide (stepLevel w ≤ r.fromLevel)
  | .emergency => true

/-- The first step from `k` on that the run carries out: one of its range, or END. -/
def State.seekStep (s : State) (r : Run) (k : Nat) : Nat :=
  ((List.range (r.table.len - k)).find? (fun j =>
    let w := s.stepWord r.table (k + j)
    stepType w == 0 || r.covers w)).map (k + ·) |>.getD r.table.len

/-- The rails a run has commanded are released (Table 13.4, SEQ_OWNED). -/
def releaseRails (s : State) : State :=
  (List.range 16).foldl (fun t n => if (t.rail n).seqOwned then t.setRail n { t.rail n with seqOwned := false } else t) s

/-- A run stands before a step: levels that are complete are taken (R531), and before the first down step of LINK_ON's level the host mark clears
(R537). -/
def arrive (s : State) (r : Run) : State :=
  let w := s.stepWord r.table r.step
  let s := s.setRun (some r)
  match r.table with
  | .up =>
    if stepType w = 0 then s
    else
      let l := stepLevel w - 1
      let s := climb s s.aocb.pstate.levelOf l
      { s with seq := { s.seq with level := max s.seq.level l } }
  | .down =>
    let l := if stepType w = 0 then r.toLevel + 1 else stepLevel w
    let s := match s.linkLevel with
      | some k => if s.link.hostUp && decide (l ≤ k) && decide (k ≤ r.fromLevel) then setHostUp s false else s
      | none => s
    if stepType w = 0 || r.undo then s
    else descend s s.aocb.pstate.levelOf l
  | .emergency => s

/-- An order starts from a level to another. -/
def beginRun (s : State) (t : OrderTable) (from_ to_ : Nat) (undo : Bool) : State :=
  let r : Run := ⟨t, 0, from_, to_, none, undo⟩
  arrive s { r with step := s.seekStep r 0 }

/-- The destination's level. -/
def State.destLevel (s : State) : Nat := ((s.seq.dest).getD s.aocb.pstate).levelOf

/-- A transition to RUN confirms a pre-arm (R472). -/
def prearmConfirm (s : State) : State :=
  if s.prearmed then
    let w := s.touch.acted.foldl (fun w e => clearBit w e.1) (s.get 0x3241 2)
    ((({ s with touch := { s.touch with acted := [] } } : State).set 0x3241 2 w).set 0x3241 1 0).count 0x3241 5
  else s

/-- A transition starts out of LISTEN: to RUN it confirms the pre-arm, to another state it cancels it with cause 5 (R472, R479). -/
def leaveListen (s : State) : State :=
  if s.aocb.pstate = .listen && s.seq.dest ≠ some .listen then
    if s.seq.dest = some .run then prearmConfirm s else prearmCancel s 5
  else s

/-- The destination is reached. -/
def completed (s : State) : State := s.count 0x4200 10

/-- OFF or SHIP follows once KEEPALIVE is reached (R534). -/
def State.setAfter (s : State) : State :=
  { s with seq := { s.seq with after := match s.seq.dest with
      | some .off => some .off
      | some .ship => some .ship
      | _ => none } }

/-- A transition towards the destination in force starts (R537). One that needs no order completes at once. -/
def startTransition (s : State) : State :=
  match s.seq.dest with
  | none => s
  | some d =>
    let s : State := { (leaveListen s).setAfter with aocb := { (leaveListen s).setAfter.aocb with target := d } }
    let s : State := { s with seq := { s.seq with retryDue := false } }
    let l := s.seq.level
    if l < d.levelOf then beginRun s .up l d.levelOf false
    else if d.levelOf < max l s.seq.issued then beginRun s .down (max l s.seq.issued) d.levelOf false
    else s

/-- The run ends where it set out for (END): the state takes its level, and latches clear at KEEPALIVE (R548). -/
def finishRun (s : State) (r : Run) : State :=
  let s := (releaseRails s).setRun none
  if r.undo then
    let s : State := { s with seq := { s.seq with issued := s.seq.level }, aocb := { s.aocb with target := s.aocb.pstate } }
    s
  else
    let s := match r.table with
      | .up => climb s s.aocb.pstate.levelOf r.toLevel
      | _ => descend s s.aocb.pstate.levelOf r.toLevel
    let s : State := { s with seq := { s.seq with level := r.toLevel, issued := r.toLevel } }
    let s := if r.toLevel = 0 && r.table = .down then clearLatches s else s
    if s.destLevel = r.toLevel then
      let s := completed s
      if s.seq.after.isSome then s else { s with aocb := { s.aocb with target := s.aocb.pstate } }
    else startTransition s

/-- The destination is examined at a step boundary (R540): the run goes on towards it, or the opposite order begins. Then the next step. -/
def boundary (s : State) (r : Run) (k : Nat) : State :=
  if r.table = .emergency || s.power.hardReset || s.update.restarting then arrive s { r with step := s.seekStep r k, waiting := none }
  else if r.undo then arrive s { r with step := s.seekStep r k, waiting := none }
  else
    let d := s.destLevel
    let s := s.setAfter
    match r.table with
    | .up =>
      if d < s.seq.issued then beginRun s .down s.seq.issued d false
      else
        let r := { r with toLevel := d, waiting := none }
        arrive s { r with step := s.seekStep r k }
    | _ =>
      if s.seq.level < d then beginRun s .up s.seq.level d false
      else
        let r := { r with toLevel := d, waiting := none }
        arrive s { r with step := s.seekStep r k }

/-- A step has been done: the boundary after it. -/
def stepDone (s : State) (r : Run) : State := boundary s r (r.step + 1)

/-- A step is issued: its level counts as issued going up, and as no longer in force going down. -/
def issueStep (s : State) (r : Run) : State :=
  let l := stepLevel (s.stepWord r.table r.step)
  match r.table with
  | .up => { s with seq := { s.seq with issued := max s.seq.issued l } }
  | .down => { s with seq := { s.seq with level := min s.seq.level (l - 1), passed := s.seq.passed.filter (fun e => decide (e.2 < l)) } }
  | .emergency => s

/-- An up step fails (R538): EMCY 0xFF82 with its record, result 6, the down order over what was issued; the destination stays, and a retry is due. -/
def failStep (s : State) (r : Run) : State :=
  let s := emcyLog s 0xFF82 ((r.table.code <<< 6) + r.step)
  let s := (s.count 0x4200 11).set 0x4200 5 6
  let s : State := { s with seq := { s.seq with retryDue := decide (s.get 0x4200 8 ≠ 0) } }
  beginRun s .down s.seq.issued s.seq.level true

/-- A wait ends by its timeout (R538): an up step fails; in a down or emergency order it is logged, and the order continues. -/
def waitTimesOut (s : State) (r : Run) : State :=
  if r.table = .up then failStep s r
  else
    let v := (r.step <<< 16) + (r.table.code <<< 14)
    stepDone (logStateChange s 0x4200 4 v v) r

/-! ### Requests (R532 to R535) -/

/-- Why a request is refused, as 0x4200:05 records it (R533); none where it is accepted. -/
def State.requestRefusal (s : State) (d : PState) (viaObject : Bool) : Option Nat :=
  let above := decide (0 < ((s.seq.dest).getD s.aocb.pstate).levelOf)
  if s.aocb.pstate = .emergency then some 7
  else if !s.up || s.level.isNone then some 3
  else if (d = .off || d = .ship) && !viaObject && above then some 3
  else if 0 < d.levelOf && s.aocb.boot.trimFault then some 5
  else if 0 < d.levelOf && s.onPack && decide (d.code > s.get 0x4200 6) then some 4
  else if d = .ship && s.get 0x4320 1 ≠ 2 then some 3
  else none

/-- A request from any source of Table 14.2. -/
def powerRequest (s : State) (d : PState) (viaObject : Bool) : State :=
  match s.requestRefusal d viaObject with
  | some k => s.set 0x4200 5 k
  | none =>
    let s := s.set 0x4200 5 1
    let pendingDest := (s.seq.run.isSome || s.seq.retryDue || s.seq.after.isSome) && s.seq.dest.isSome
    let s := if pendingDest then s.count 0x4200 12 else s
    let changed := s.seq.dest ≠ some d
    let s : State := { s with seq := { s.seq with dest := some d, retryDue := false } }
    match s.seq.run with
    | none =>
      if d = s.aocb.pstate then { s with seq := { s.seq with after := none }, aocb := { s.aocb with target := d } }
      else startTransition s
    | some r =>
      let s : State := { s with aocb := { s.aocb with target := d } }
      let r := { r with undo := false }
      if changed && r.waiting.isSome then stepDone s r
      else if changed then boundary s r r.step
      else s.setRun (some r)

/-- POWER_STATE_REQUEST: a write of 0x4200:03. A refused request is answered OK, and 0x4200:05 records why (log entry 38). -/
def writePowerRequest (s : State) (code : Nat) : State × Status :=
  match PState.ofCode code with
  | none => (s, .range)
  | some d => (powerRequest s d true, .ok)

/-! ### Applying orders (R536) -/

/-- One step word of an order carries no refused field. -/
def wordOk (emergency : Bool) (w : Nat) : Bool :=
  let t := stepType w
  decide (t ≤ 11) && decide (stepTsel w ≠ 3)
    && (emergency || t == 0 || decide (stepLevel w ≠ 0))
    && (!(t == 5 || t == 6 || t == 7 || t == 8) || decide (stepObj w < 8))
    && (!emergency || [0, 3, 4, 6, 8, 9, 11].contains t)

/-- The LEVEL fields of an order rise, or fall, before its END. -/
def levelsOk (up : Bool) : List Nat → Bool
  | a :: b :: rest => (if up then decide (a ≤ b) else decide (b ≤ a)) && levelsOk up (b :: rest)
  | _ => true

/-- The staged words of a table before its END. -/
def State.stagedWords (s : State) (t : OrderTable) : List Nat :=
  let word := fun k => s.get t.index (k + 1)
  (List.range (endIndex word t.len)).map word

/-- The staged orders pass R536. -/
def State.ordersOk (s : State) : Bool :=
  let u := s.stagedWords .up
  let d := s.stagedWords .down
  let e := s.stagedWords .emergency
  u.all (wordOk false) && d.all (wordOk false) && e.all (wordOk true)
    && levelsOk true (u.map stepLevel) && levelsOk false (d.map stepLevel)
    && (u ++ d).all (fun w => !(stepType w == 1 || stepType w == 2) || decide (s.stateTarget (stepObj w) (stepTsel w) ≠ 0))

/-- The staged orders and slews come into force, and 0x2013:01 follows. -/
def ordersInForce (s : State) : State :=
  refreshEmergency ((((s.takeInForce 0x4201 1 64).takeInForce 0x4202 1 64).takeInForce 0x4203 1 32).takeInForce 0x4204 1 16)

/-- A write of 1 to 0x4200:0D. -/
def applyOrders (s : State) : State × Status :=
  if s.seq.run.isSome || s.aocb.pstate = .emergency then (s, .live)
  else if !s.ordersOk then (s, .incompatible)
  else (ordersInForce s, .ok)

/-! ### The steps -/

/-- The run and the word of the step due, where its TYPE is `t` and nothing is waited for. -/
def State.stepDue (s : State) (t : Nat) : Option (Run × Nat) :=
  match s.seq.run with
  | some r =>
    let w := s.stepWord r.table r.step
    if r.waiting.isNone && stepType w == t then some (r, w) else none
  | none => none

/-- A rail is owned by the order that commands it. -/
def own (s : State) (n : Nat) : State := s.setRail n { s.rail n with seqOwned := true }

/-- RETARGET (R549): a rail off by fault keeps the target for its retry or clear. -/
def retarget (s : State) (n mv : Nat) : State :=
  let s := own s n
  if (s.rail n).offByFault then s.setSup n { s.sup n with faultTarget := mv }
  else if (s.rail n).enabled then railCommand s n mv false false
  else s

/-- ENABLE fails (R538). -/
def State.enableFails (s : State) (n : Nat) (senseOpen : Bool) : Bool :=
  let p := s.sup n
  !(s.rail n).enabled && (p.latched || s.shutConcerned n || senseOpen)

/-- The steps are carried out while an order runs; a wait of zero length is a wait like any other. ENABLE: enables a rail and commands its state target;
for an enabled rail it acts as RETARGET. The operands are the two readings of the check of R77. -/
def actSeqEnable (sourcedUv sunkUv : Nat) (s : State) : State :=
  match s.stepDue 1 with
  | none => s
  | some (r, w) =>
    let n := stepObj w
    let senseOpen := !(s.rail n).enabled && senseIsOpen sourcedUv sunkUv
    let s := issueStep s r
    if s.enableFails n senseOpen then
      let s := if senseOpen then refuseSense s n else s
      (if r.table = .up then failStep s r else stepDone s r)
    else if (s.rail n).enabled then (stepDone (retarget s n (s.stateTarget n (stepTsel w))) r)
    else
      let s := own (s.setSup n { s.sup n with retryPending := false, delayOver := false }) n
      (stepDone (refreshErrors (railEnable s n (s.stateTarget n (stepTsel w)))) r)

/-- RETARGET: commands a rail to its state target. -/
def actSeqRetarget (s : State) : State :=
  match s.stepDue 2 with
  | none => s
  | some (r, w) =>
    let s := issueStep s r
    (stepDone (retarget s (stepObj w) (s.stateTarget (stepObj w) (stepTsel w))) r)

/-- DISABLE: ramps a rail to 0 V and disables it, at the emergency slew in the emergency order; on a rail off by fault it cancels a pending retry (R539). -/
def actSeqDisable (s : State) : State :=
  match s.stepDue 3 with
  | none => s
  | some (r, w) =>
    let n := stepObj w
    let s := own (issueStep s r) n
    let s := s.setSup n { s.sup n with wasEnabled := false, retryPending := false, delayOver := false }
    (stepDone (refreshErrors (railDisable s n (r.table == .emergency))) r)

/-- WAIT_RAIL's condition (Table 14.4); a rail off by fault passes it in a down or emergency order (R547, R555). -/
def State.railWaitOver (s : State) (r : Run) (n : Nat) : Bool :=
  let x := s.rail n
  if x.offByFault then r.table != .up
  else !x.slewing && (!x.enabled || !(s.sup n).uv)

/-- A step starts to wait. -/
def waitFor (s : State) (r : Run) (w : SeqWait) : State := s.setRun (some { r with waiting := some w })

/-- WAIT_RAIL: passes at once, or waits. -/
def actSeqWaitRail (s : State) : State :=
  match s.stepDue 4 with
  | none => s
  | some (r, w) =>
    let s := issueStep s r
    (if s.railWaitOver r (stepObj w) then stepDone s r else waitFor s r (.rail (stepObj w)))

/-- EXEN_HIGH: drives an EXEN high. -/
def actSeqExenHigh (s : State) : State :=
  match s.stepDue 5 with
  | none => s
  | some (r, w) => (stepDone ((issueStep s r).setFlag 0x4205 1 (stepObj w) true) r)

/-- EXEN_LOW: drives an EXEN low. -/
def actSeqExenLow (s : State) : State :=
  match s.stepDue 6 with
  | none => s
  | some (r, w) => (stepDone ((issueStep s r).setFlag 0x4205 1 (stepObj w) false) r)

/-- A WAIT_PG of the up order has passed: its EXPG is watched while its level is in force (R553). -/
def pgPassed (s : State) (r : Run) (n : Nat) : State :=
  if r.table = .up then
    let l := stepLevel (s.stepWord r.table r.step)
    { s with seq := { s.seq with passed := s.seq.passed.filter (fun e => e.1 != n) ++ [(n, l)] } }
  else s

/-- WAIT_PG: waits for an EXPG to be high; `high` is its level now. -/
def actSeqWaitPg (high : Bool) (s : State) : State :=
  match s.stepDue 7 with
  | none => s
  | some (r, w) =>
    let s := (issueStep s r).setFlag 0x4205 2 (stepObj w) high
    (if high then stepDone (pgPassed s r (stepObj w)) r else waitFor s r (.pgHigh (stepObj w)))

/-- WAIT_PG_LOW: waits for an EXPG to be low; `high` is its level now. -/
def actSeqWaitPgLow (high : Bool) (s : State) : State :=
  match s.stepDue 8 with
  | none => s
  | some (r, w) =>
    let s := (issueStep s r).setFlag 0x4205 2 (stepObj w) high
    (if high then waitFor s r (.pgLow (stepObj w)) else stepDone s r)

/-- DELAY: waits its TIME. -/
def actSeqDelay (s : State) : State :=
  match s.stepDue 9 with
  | none => s
  | some (r, _) => (waitFor (issueStep s r) r .delay)

/-- LINK_ON: marks the host domain up for the training condition (R246). -/
def actSeqLinkOn (s : State) : State :=
  match s.stepDue 10 with
  | none => s
  | some (r, _) => (stepDone (setHostUp (issueStep s r) true) r)

/-- LINK_OFF: clears that mark; the lanes idle. -/
def actSeqLinkOff (s : State) : State :=
  match s.stepDue 11 with
  | none => s
  | some (r, _) => (stepDone (setHostUp (issueStep s r) false) r)

/-- Every rail still enabled is disabled, all in parallel (R541, R543). -/
def disableRest (s : State) (emergency : Bool) : State := (List.range 16).foldl (fun t n => railDisable t n emergency) s

/-- END: the order ends. After the emergency order, and after a hard reset's, the remaining rails ramp down in parallel; a hard reset also drives every
EXEN low (R541, R543). -/
def actSeqEnd (s : State) : State :=
  match s.stepDue 0 with
  | none => s
  | some (r, _) =>
    if r.table = .emergency then
      let s := disableRest s true
      { s with seq := { s.seq with run := none, parallel := true } }
    else if s.power.hardReset || s.update.restarting then
      let s := (disableRest s false).set 0x4205 1 0
      { s with seq := { s.seq with run := none, parallel := true, issued := 0, level := 0 } }
    else (finishRun s r)

/-- STEP_WAIT_SATISFIED: the condition of the step that waits is met. A rail's is judged from the rail; a power-good input and a DELAY by the event itself. -/
def actStepWaitSatisfied (s : State) : State :=
  match s.seq.run with
  | none => s
  | some r =>
    match r.waiting with
    | none => s
    | some (.rail n) => (if s.railWaitOver r n then stepDone s r else s)
    | some (.pgHigh n) => (stepDone (pgPassed (s.setFlag 0x4205 2 n true) r n) r)
    | some (.pgLow n) => (stepDone (s.setFlag 0x4205 2 n false) r)
    | some .delay => (stepDone s r)

/-- STEP_WAIT_TIMEOUT: a wait reaches its timeout. A DELAY has none: it ends. -/
def actStepWaitTimeout (s : State) : State :=
  match s.seq.run with
  | none => s
  | some r =>
    match r.waiting with
    | none => s
    | some .delay => (stepDone s r)
    | some _ => (waitTimesOut s r)

/-- TRANSITION_RETRY: after the retry interval a failed transition is attempted again, its destination still in force (R538). -/
def actTransitionRetry (s : State) : State :=
  if s.seq.retryDue && s.seq.run.isNone then (startTransition s) else s

/-- POWER_STATE_REQUEST (R532). -/
def actPowerStateRequest (port : Port) (code : Nat) (s : State) : State :=
  portCommand s port 0x4200 3 (fun s => writePowerRequest s code)

/-- APPLY_ORDERS (R536). -/
def actApplyOrders (port : Port) (s : State) : State :=
  portCommand s port 0x4200 13 applyOrders

/-- ON_PACK_DWELL_EXPIRY: VSYS has stayed on the pack for the dwell (R535): one request of the lower of the state in force and the ceiling. -/
def actOnPackDwellExpiry (s : State) : State :=
  match s.level with
  | none => s
  | some _ =>
    if s.onPack && decide (s.get 0x4200 7 ≠ 0) && !s.seq.dwellUsed then
      let s : State := { s with seq := { s.seq with dwellUsed := true } }
      let code := min s.aocb.pstate.code (s.get 0x4200 6)
      (match PState.ofCode code with
        | some d => powerRequest s d false
        | none => s)
    else s

/-! ### The emergency order and a hard reset's order -/

/-- The emergency power-down order starts from its step 0, whatever ran (R541, R556); the lanes idle first (R96), and the destination is cleared. -/
def startEmergency (s : State) : State :=
  let s := prearmCancel s 3
  let s := releaseRails (setHostUp s false)
  let s : State := { s with seq := { s.seq with dest := none, after := none, retryDue := false, parallel := false, passed := [] } }
  let s := setPState s .emergency
  let s : State := { s with aocb := { s.aocb with target := .emergency } }
  beginRun s .emergency 0 0 false

/-- A hard reset's power-down order (R543, R557): from the highest level issued to KEEPALIVE. In the emergency order a hard reset changes nothing. -/
def startResetOrder (s : State) : State :=
  let s := releaseRails s
  let s : State := { s with seq := { s.seq with dest := none, after := none, retryDue := false, parallel := false, passed := [] } }
  beginRun s .down s.seq.issued 0 true

/-- Every rail has reached 0 V. -/
def State.railsDown (s : State) : Bool := s.reg.rails.all (fun r => !r.enabled)

/-! ### Supervision's commands -/

/-- A fault on the rail that a step waits for ends the wait: a failure in an up transition, a pass otherwise (R555). -/
def afterFault (s : State) : State :=
  match s.seq.run with
  | none => s
  | some r =>
    match r.waiting with
    | some (.rail n) =>
      if (s.rail n).offByFault then (if r.table = .up then failStep s r else stepDone s r) else s
    | _ => s

/-- TMON_SHUTDOWN: a group's shutdown comparator asserts (R515). -/
def actTmonShutdown (group : Fin 4) (uv : Nat) (s : State) : State := (afterFault (tmonShutdown group.val uv s))

/-- DIE_SHUTDOWN: a die sensor's shutdown comparator asserts (R516). -/
def actDieShutdown (sensor : Fin 4) (tenths : Int) (s : State) : State := (afterFault (dieShutdown sensor.val tenths s))

/-- SUPERVISOR_FAULT: OV (0), UV (1) or OC (2) asserts; `value` is what has stood for 1 µs, the sensed voltage in µV or the rail current in mA (R544 to R546). -/
def actSupervisorFault (rail : Fin 16) (cause : Fin 3) (value : Nat) (s : State) : State :=
  (afterFault (comparatorAsserts s rail.val cause.val value))

/-- SUPERVISOR_COMPARATOR_RELEASE: a comparator releases (R544), which a pending retry may wait for (R547). -/
def actSupervisorComparatorRelease (rail : Fin 16) (cause : Fin 3) (value : Nat) (s : State) : State :=
  comparatorReleases s rail.val cause.val value

/-- RETRY_DELAY_EXPIRY: the retry delay ends; the rail is enabled again once everything concerned has released (R547). -/
def actRetryDelayExpiry (rail : Fin 16) (s : State) : State :=
  let n := rail.val
  if (s.sup n).retryPending then (tryRetry (s.setSup n { s.sup n with delayOver := true }) n) else s

/-- RETRY_COUNT_RESET: the rail has run for 1 s without a fault (R547). -/
def actRetryCountReset (rail : Fin 16) (s : State) : State :=
  let n := rail.val
  if (s.rail n).enabled then (s.setSup n { s.sup n with retries := 0 }) else s

/-- CLEAR_LATCH: a write of 1 to 0x4100 + n:0E (R548), with the two readings of the check of R77. -/
def actClearLatch (port : Port) (rail : Fin 16) (sourcedUv sunkUv : Nat) (s : State) : State :=
  portCommand s port (supObj rail.val) 14 (fun s => clearLatch s rail.val (senseIsOpen sourcedUv sunkUv))

/-- SETTLE_TIME_EXPIRY: the settle time ends a rail's transition (R545). -/
def actSettleTimeExpiry (rail : Fin 16) (s : State) : State := (afterFault (settleEnds s rail.val))

/-- EXPG_LOSS: a power-good input that had passed reads low for 10 µs while its level is in force (R553). -/
def actExpgLoss (n : Fin 8) (s : State) : State :=
  let k := n.val
  let s := s.setFlag 0x4205 2 k false
  if s.seq.passed.any (fun e => e.1 == k && decide (e.2 ≤ s.seq.level)) then
    (emcyLog (s.count 0x4205 3) 0xFF84 k)
  else s

/-- TARGET_VOLTAGE_WRITE: a port writes a rail's target (R493, R495). -/
def actTargetVoltageWrite (port : Port) (rail : Fin 16) (mv : Nat) (s : State) : State :=
  portCommand s port (railObj rail.val) 2 (fun s => writeTarget s rail.val mv)

end Sys2Proof.Machine
end

