-- ==== Sys2Proof/Machine/Thermal.lean ====
section
/-!
DEFINITION. Thermal sensing and the air movers (chapter 16): conversions and warnings, the critical-temperature comparator, tachometers, curves and the speed loops.
-/

namespace Sys2Proof.Machine

/-! ### Readings (R608 to R611, R638) -/

/-- A reading limited to −40.0 to +150.0 °C (R608). -/
def limitTenths (t : Int) : Int := clampInt (-400) 1500 t

/-- The object of sensor TSn. -/
def tsObj (n : Nat) : Nat := 0x4401 + n

/-- The NTC reading of a telemetry value before its offset, and none beyond the limits of Table 2.12 (R609). -/
def State.ntcReading (s : State) (n : Nat) (v : Int) : Option Int :=
  let uv := divRound (v * 1800000) (2 ^ 23)
  if uv ≥ 1450000 || uv ≤ 20000 then none
  else some (ntcTenths (1000 * (6 * v).toNat) (s.get (tsObj n) 2 * ((5 * 2 ^ 23 : Int) - 6 * v).toNat) (s.get (tsObj n) 3))

/-- The diode reading of a pair of telemetry values before its offset, and none beyond the limits of Table 2.12 (R610). -/
def State.diodeReading (s : State) (n : Nat) (high low : Int) : Option Int :=
  let uv := fun (v : Int) => divRound (v * 1800000) (2 ^ 23)
  if uv high ≥ 1200000 || uv low ≥ 1200000 || uv high ≤ 200000 || uv low ≤ 200000 then none
  else
    let dv : Rat := ((high - low) * 1800000 : Int) / (2 ^ 23 : Nat)
    some ((dv * 10000000 / ((s.get (tsObj n) 4 * 19842 : Nat) : Rat) - 27315 / 10 + 1 / 2).floor)

/-- A sensor's FAULT as the objects show it. -/
def setTsFault (s : State) (n : Nat) (b : Bool) : State := (s.setFlag (tsObj n) 8 1 b).setFlag 0x440A 3 (16 + n) b

/-- A sensor's WARNING as the objects show it. -/
def setTsWarning (s : State) (n : Nat) (b : Bool) : State := (s.setFlag (tsObj n) 8 0 b).setFlag 0x440A 3 n b

/-- A reading of TSn (R638): an open or shorted sensor reads +150.0 °C and turns FAULT; FAULT clears at a reading within −40.0 to +120.0 °C. -/
def tsReading (s : State) (n : Nat) (t : Option Int) : State :=
  let v := match t with
    | some t => limitTenths (t + s.getS (tsObj n) 5)
    | none => 1500
  let s := (s.setS (tsObj n) 7 v).setFlag (tsObj n) 8 2 true
  match t with
  | none => if s.flag (tsObj n) 8 1 then s else refreshErrors (emcyLog (setTsFault s n true) 0xFFA1 n)
  | some _ => if decide (v ≤ 1200) then refreshErrors (setTsFault s n false) else s

/-- A telemetry output of a temperature input: groups (32 to 35), dies (36 to 39), TS sensors (40 to 47). -/
def thermalOutput (s : State) (h : Nat) : State :=
  if 32 ≤ h && h < 36 then
    let o := 0x4024 + (h - 32)
    s.setS o 5 (groupReading (s.get o 1) (s.get o 2) (s.hkMicro h))
  else if 36 ≤ h && h < 40 then
    let s := s.setS 0x4409 (h - 35) (limitTenths (Config.dieTenths (h - 36) (s.hkValue h)))
    s.setS 0x4028 3 ((List.range 4).foldl (fun m k => max m (s.getS 0x4409 (k + 1))) (s.getS 0x4409 1))
  else if 40 ≤ h && h < 48 then
    let n := h - 40
    match s.get (tsObj n) 1 with
    | 1 => tsReading s n (s.ntcReading n (s.hkValue h))
    | 2 => { s with thermal := { s.thermal with diodeNow := s.thermal.diodeNow.set n (some (s.hkValue h)) } }
    | _ => s
  else s

/-- DIODE_BIAS_TOGGLE: a half-period of the bias ends; with the second a reading is formed from the pair (R610). -/
def actDiodeBiasToggle (s : State) : State :=
  let t := s.thermal
  if t.biasHigh then
    { s with thermal := { t with biasHigh := false, diodeHigh := t.diodeNow, diodeNow := List.replicate 8 none } }
  else
    let s := (List.range 8).foldl (fun s n =>
      match s.get (tsObj n) 1, nth t.diodeHigh n none, nth t.diodeNow n none with
      | 2, some h, some l => tsReading s n (s.diodeReading n h l)
      | _, _, _ => s) s
    { s with thermal := { s.thermal with biasHigh := true, diodeNow := List.replicate 8 none } }

/-- A change of a sensor's mode clears VALID (Table 16.3), with its warning and fault. -/
def tsModeChanged (s : State) (n : Nat) : State :=
  let s := setTsWarning (setTsFault (s.setFlag (tsObj n) 8 2 false) n false) n false
  refreshErrors { s with thermal := { s.thermal with diodeNow := s.thermal.diodeNow.set n none, diodeHigh := s.thermal.diodeHigh.set n none } }

/-- A sensor's warning at the downbeat (R613, R633). -/
def judgeTs (s : State) (n : Nat) : State :=
  let st := s.get (tsObj n) 8
  let v := s.getS (tsObj n) 7
  let level := s.getS (tsObj n) 6
  if !bit st 2 || bit st 1 || s.get (tsObj n) 1 = 0 then s
  else if !bit st 0 && decide (v ≥ level) then raiseEv (emcyLog (setTsWarning s n true) 0xFFA0 n) 496 264
  else if bit st 0 && decide (v < level - 50) then setTsWarning s n false
  else s

/-- The warnings of TS0 to TS7 at the downbeat. -/
def tsDownbeat (s : State) : State := (List.range 8).foldl judgeTs s

/-- The reading of a source of Table 16.1, where it is VALID and not faulted. -/
def State.sourceReading (s : State) (k : Nat) : Option Int :=
  if k < 8 then
    let st := s.get (tsObj k) 8
    if s.get (tsObj k) 1 ≠ 0 && bit st 2 && !bit st 1 then some (s.getS (tsObj k) 7) else none
  else if k < 12 then (if s.hkValid (28 + k) then some (s.getS 0x4409 (k - 7)) else none)
  else if s.hkValid (20 + k) then some (s.getS (0x4024 + (k - 12)) 5) else none

/-- The hottest VALID source, a faulted one at its +150.0 °C, the lowest index first: reading and index (0x440A:01, :02). -/
def State.hottest (s : State) : Int × Nat :=
  let l := (List.range 16).filterMap (fun k =>
    if k < 8 && s.get (tsObj k) 1 ≠ 0 && bit (s.get (tsObj k) 8) 2 then some (s.getS (tsObj k) 7, k)
    else if k < 8 then none
    else (s.sourceReading k).map (fun t => (t, k)))
  match l with
  | [] => (0, 0)
  | e :: rest => rest.foldl (fun m x => if m.1 < x.1 then x else m) e

/-! ### The critical-temperature comparator (R615 to R617) -/

/-- The critical threshold in 0.1 °C (Table 2.5). -/
def State.tcritTenths (s : State) : Int := 950 + 100 * (s.aocb.straps.tcrit : Int)

/-- An assertion is reported (R616). -/
def reportShdn (s : State) : State :=
  let s : State := (({ s with thermal := { s.thermal with counted := true } } : State).count 0x4410 5).setFlag 0x440A 3 24 true
  if !s.up then s
  else
    let s := if s.can.started then emcyLog s 0xFFA4 s.aocb.straps.tcrit else logCondition s 0x440A 3 24 true 0
    refreshErrors (raiseEv s 496 264)

/-- SHDN_N is released. -/
def releaseShdn (s : State) : State :=
  let s : State := { s with thermal := { s.thermal with shdnLow := false, counted := false } }
  if s.flag 0x440A 3 24 then refreshErrors (logCondition (s.setFlag 0x440A 3 24 false) 0x440A 3 24 false 0) else s

/-- TCRIT_MEASUREMENT: one measurement of DIET, in 0.1 °C. In SHIP and without VAON the comparator does not run (R617, R35). -/
def actTcritMeasurement (diet : Int) (s : State) : State :=
  if !s.power.vaonValid || s.aocb.pstate = .ship then s
  else
    let first := !s.thermal.measured
    let hot := decide (diet ≥ s.tcritTenths)
    let s := s.setS 0x4410 4 (satSigned 16 diet)
    let s : State := { s with thermal := { s.thermal with measured := true, overRun := if hot then s.thermal.overRun + 1 else 0 } }
    (if s.thermal.shdnLow then
      (if diet < s.tcritTenths - 100 then releaseShdn s else if first && !s.thermal.counted then reportShdn s else s)
    else if s.thermal.overRun ≥ 2 then reportShdn { s with thermal := { s.thermal with shdnLow := true } }
    else s)

/-- DIET and the hottest of DIE0 to DIE3 differ by this much, in 0.1 °C, where both are valid (R640). -/
def State.tcritDiffers (s : State) : Option Nat :=
  if s.thermal.measured && (List.range 4).all (fun k => s.hkValid (36 + k)) then some (s.getS 0x4410 4 - s.getS 0x4028 3).natAbs else none

/-- TCRIT_DISAGREE: DIET and the hottest die sensor have differed by more than 10.0 °C for 1 s, or lain within 5.0 °C for 60 s (R640). -/
def actTcritDisagree (differs : Bool) (s : State) : State :=
  if differs then
    (if s.flag 0x440A 3 25 || !s.tcritDiffers.any (fun d => decide (100 < d)) then s else emcyLog (s.setFlag 0x440A 3 25 true) 0xFFA5 0)
  else if s.tcritDiffers.any (fun d => decide (d ≤ 50)) then s.setFlag 0x440A 3 25 false else s

/-! ### Fan channels (R619 to R637) -/

/-- The object of a channel. -/
def fanObj (c : Nat) : Nat := 0x4420 + c

/-- A channel's state. -/
def State.fan (s : State) (c : Nat) : Fan := nth s.thermal.fans c Fan.reset

/-- A channel's state replaced. -/
def State.setFan (s : State) (c : Nat) (f : Fan) : State := { s with thermal := { s.thermal with fans := s.thermal.fans.set c f } }

/-- The speed of a channel. -/
def State.fanSpeed (s : State) (c : Nat) : Nat := s.get (fanObj c) 21

/-- A curve point's temperature and speed. -/
def State.curvePoint (s : State) (c k : Nat) : Int × Nat :=
  let w := s.inForce (fanObj c) (11 + k)
  (toSigned 16 (w / 65536), w % 65536)

/-- The floor between two points, rounded to 1 rpm. -/
def interpolate (p q : Int × Nat) (u : Int) : Nat :=
  if q.1 ≤ p.1 then q.2 else (divRound ((p.2 : Int) * (q.1 - p.1) + (u - p.1) * ((q.2 : Int) - p.2)) (q.1 - p.1).toNat).toNat

/-- The curve floor at a temperature (R623). -/
def State.curveFloor (s : State) (c : Nat) (u : Int) : Nat :=
  let first := s.curvePoint c 0
  let last := s.curvePoint c 7
  let v := if u ≤ first.1 then first.2
    else if u ≥ last.1 then last.2
    else
      match (List.range 7).find? (fun k => decide ((s.curvePoint c k).1 ≤ u) && decide (u < (s.curvePoint c (k + 1)).1)) with
      | some k => interpolate (s.curvePoint c k) (s.curvePoint c (k + 1)) u
      | none => last.2
  if 1 ≤ v && v ≤ 299 then 300 else v

/-- The highest of the selected sources; one that is not VALID or is faulted counts as +150.0 °C (R622). -/
def State.curveInput (s : State) (c : Nat) : Option Int :=
  match setBits 16 (s.inForce (fanObj c) 9) with
  | [] => none
  | l => some (l.foldl (fun m k => max m ((s.sourceReading k).getD 1500)) (-400))

/-- The curve temperature and the floor at a tick. With no source selected there is no curve temperature, and the floor is 0 (log entry 49). -/
def fanCurve (s : State) (c : Nat) : State :=
  let f := s.fan c
  let h : Int := s.get (fanObj c) 10
  let refFault := s.flag 0x3000 10 2
  match s.curveInput c with
  | none => s.set (fanObj c) 27 (if refFault then (s.curvePoint c 7).2 else 0)
  | some t =>
    let u0 := s.getS (fanObj c) 26
    let u := if !f.curveInit || t > u0 then t else if t < u0 - h then t + h else u0
    let s := (s.setFan c { f with curveInit := true }).setS (fanObj c) 26 u
    s.set (fanObj c) 27 (if refFault then (s.curvePoint c 7).2 else s.curveFloor c u)

/-- The feed-forward duty in 1/65,536 of 0.1 % (R625). -/
def State.feedForward (s : State) (c target : Nat) : Int :=
  clampInt (65536 * s.get (fanObj c) 5) (65536 * 1000) (1000 * target * 65536 / max 1 (s.get (fanObj c) 4) : Nat)

/-- The status byte follows (Table 16.5). -/
def refreshFan (s : State) (c : Nat) : State :=
  let o := fanObj c
  let f := s.fan c
  let on := decide (s.get o 1 ≠ 0) && s.thermal.running
  let duty := s.get o 22
  let stall := s.flag o 23 5
  let st := b2n on + 2 * b2n (decide (s.fanSpeed c ≥ 300)) + 4 * b2n (on && (duty == 1000 || duty == s.get o 5))
    + 8 * b2n (decide (s.get o 3 > s.get o 27)) + 16 * b2n f.spinup + 32 * b2n stall + 64 * b2n (s.flag o 23 6)
    + 128 * b2n (on && (stall || s.thermal.forcedB))
  s.set o 23 st

/-- A channel drives a duty. -/
def fanDuty (s : State) (c d : Nat) : State := s.set (fanObj c) 22 d

/-- Spin-up begins (R625). -/
def fanSpin (s : State) (c : Nat) : State := fanDuty (s.setFan c { s.fan c with spinup := true, restart := false }) c 1000

/-- A stall (R628): the third without 10 s of running between is the alarm. -/
def fanStall (s : State) (c : Nat) : State :=
  let f := s.fan c
  let s := s.count (fanObj c) 25
  if f.stallRun + 1 ≥ 3 then
    let s := fanDuty ((s.setFan c { f with stallRun := f.stallRun + 1, spinup := false }).setFlag (fanObj c) 23 5 true) c 1000
    raise (emcyLog s 0xFFA2 c) 497
  else fanSpin (s.setFan c { f with stallRun := f.stallRun + 1 }) c

/-- One tick of the closed loop (R626). -/
def fanLoop (s : State) (c target : Nat) : State :=
  let o := fanObj c
  let f := s.fan c
  let e : Int := (target : Int) - s.fanSpeed c
  let dmin := s.get o 5
  let duty := s.get o 22
  let i := if (duty = 1000 && decide (e > 0)) || (duty = dmin && decide (e < 0)) then f.i
    else clampInt (65536 * dmin) (65536 * 1000) (f.i + s.get o 7 * e)
  let x := i + 64 * s.get o 6 * e
  fanDuty (s.setFan c { f with i := i }) c (clampInt dmin 1000 (Int.tdiv x 65536)).toNat

/-- One channel's tick of 20 ms (R622 to R628, R637). A loss of PLL B and the tachometer-line test drive 100.0 %, and the channel restarts after them (R714). -/
def fanTick (s : State) (c : Nat) : State :=
  let o := fanObj c
  let f := s.fan c
  let s := match f.curveSet with
    | some l => ((s.putInForce o 9 (l.take 1)).putInForce o 11 (l.drop 1)).setFan c { f with curveSet := none }
    | none => s
  let s := fanCurve s c
  let target := max (s.get o 3) (s.get o 27)
  let s := s.set o 20 target
  let f := s.fan c
  let ppr := s.get o 2
  let rises := f.lastTarget == 0 && decide (target ≠ 0)
  if s.get o 1 = 0 then refreshFan (fanDuty (s.setFan c { f with spinup := false, lastTarget := 0, restart := false }) c 1000) c
  else
    let s := s.setFan c { f with lastTarget := target }
    let stall := s.flag o 23 5
    let s :=
      if s.thermal.forcedB || s.test.lineTest = some .tacho then fanDuty (s.setFan c { s.fan c with spinup := false, restart := true }) c 1000
      else if target = 0 then fanDuty (s.setFan c { s.fan c with spinup := false, restart := false }) c 0
      else if stall then fanDuty s c 1000
      else if (rises || f.restart) && ppr ≠ 0 then fanSpin s c
      else if f.spinup then fanDuty s c 1000
      else if ppr ≠ 0 && s.fanSpeed c = 0 then fanStall s c
      else if s.get o 1 = 2 then fanDuty s c (s.feedForward c target / 65536).toNat
      else fanLoop s c target
    refreshFan s c

/-- FAN_LOOP_TICK: the four channels, once they run (R643). A failed self-test slice keeps them off (Table 19.3). -/
def actFanLoopTick (s : State) : State :=
  (if s.thermal.running && !s.thermal.lbistOff then (List.range 4).foldl fanTick s else s)

/-- TACH_EDGE: a rising edge at a SUP clock count (R621, R630). -/
def actTachEdge (fan : Fin 4) (now : Nat) (s : State) : State :=
  let c := fan.val
  let p := s.get (fanObj c) 2
  if p = 0 || !s.thermal.running then s
  else
    let f := s.fan c
    let edges := (now :: f.edges).take (p + 1)
    let rev := f.revEdges + 1
    let s := s.setFan c { f with edges := edges, revEdges := rev % p }
    let s := s.countBy (fanObj c) 24 (rev / p)
    let t := now - nth edges p now
    let s := if edges.length = p + 1 && t ≠ 0 then s.set (fanObj c) 21 (satNat 16 ((2 * 960000000 + t) / (2 * t))) else s
    (refreshFan s c)

/-- TACH_TIMEOUT: no edge for 1 s. -/
def actTachTimeout (fan : Fin 4) (s : State) : State := (refreshFan (s.set (fanObj fan.val) 21 0) fan.val)

/-- SPINUP_END: half the target is reached or the spin-up time has elapsed; the loop starts from the feed-forward duty (R625, R631). -/
def actSpinupEnd (fan : Fin 4) (s : State) : State :=
  let c := fan.val
  let f := s.fan c
  if !f.spinup then s
  else
    let i := s.feedForward c (s.get (fanObj c) 20)
    (refreshFan (fanDuty (s.setFan c { f with spinup := false, i := i }) c (i / 65536).toNat) c)

/-- The stall alarm ends and the loop restarts by R625. -/
def clearStall (s : State) (c : Nat) : State :=
  if s.flag (fanObj c) 23 5 then (s.setFan c { s.fan c with stallRun := 0, restart := true }).setFlag (fanObj c) 23 5 false else s

/-- STALL_ALARM_CLEAR: the speed has stayed at 300 rpm or more for 10 s (R628). -/
def actStallAlarmClear (fan : Fin 4) (s : State) : State :=
  let c := fan.val
  if s.fanSpeed c < 300 then s else refreshFan (clearStall (s.setFan c { s.fan c with stallRun := 0 }) c) c

/-- A condition of SPEED_ALARM as the channel stands (R629): 1 full duty below 80 % of the target in force, 2 minimum duty above 120 % of it, 0 neither. -/
def State.speedCondition (s : State) (c : Nat) : Nat :=
  let o := fanObj c
  if s.get o 22 = 1000 && decide (10 * s.fanSpeed c < 8 * s.get o 20) then 1
  else if s.get o 22 = s.get o 5 && decide (10 * s.fanSpeed c > 12 * s.get o 20) then 2
  else 0

/-- SPEED_ALARM: the condition of R629 has held for 10 s: 1 too slow at full duty, 2 too fast at minimum duty; 0 neither. Judged in the closed loop. -/
def actSpeedAlarm (fan : Fin 4) (kind : Fin 3) (s : State) : State :=
  let c := fan.val
  let o := fanObj c
  let k := kind.val
  if s.speedCondition c ≠ k then s
  else if k = 0 then refreshFan (s.setFlag o 23 6 false) c
  else if s.get o 1 ≠ 1 || s.flag o 23 6 || (s.fan c).spinup || s.flag o 23 5 || s.get o 20 = 0 then s
  else refreshFan (raise (emcyLog (s.setFlag o 23 6 true) 0xFFA3 (16 * k + c)) 497) c

/-- A staged curve obeys R623. -/
def State.curveOk (s : State) (c : Nat) : Bool :=
  let pt := fun k => let w := s.get (fanObj c) (11 + k); (toSigned 16 (w / 65536), w % 65536)
  (List.range 8).all (fun k => (pt k).2 == 0 || (decide (300 ≤ (pt k).2) && decide ((pt k).2 ≤ 20000)))
    && (List.range 7).all (fun k => decide ((pt k).1 < (pt (k + 1)).1) && decide ((pt k).2 ≤ (pt (k + 1)).2))

/-- The staged sources and points of a channel. -/
def State.stagedCurve (s : State) (c : Nat) : List Nat := s.get (fanObj c) 9 :: (List.range 8).map (fun k => s.get (fanObj c) (11 + k))

/-- An apply of a curve: a set that obeys R623 waits for the next tick as it was checked. -/
def applyCurve (s : State) (c : Nat) : State × Status :=
  if s.curveOk c then (s.setFan c { s.fan c with curveSet := some (s.stagedCurve c) }, .ok) else (s, .incompatible)

/-- APPLY_CURVE: command 1 of a channel. -/
def actApplyCurve (port : Port) (fan : Fin 4) (s : State) : State :=
  portCommand s port (fanObj fan.val) 19 (fun s => applyCurve s fan.val)

/-- CLEAR_ALARMS: command 2 of a channel. -/
def actClearAlarms (port : Port) (fan : Fin 4) (s : State) : State :=
  portCommand s port (fanObj fan.val) 19 (fun s =>
    (refreshFan (clearStall (s.setFlag (fanObj fan.val) 23 6 false) fan.val) fan.val, .ok))

/-- The channels start with the restored dictionary (R643), and an assertion of SHDN_N that lasts is shown (R616). -/
def thermalStart (s : State) : State :=
  let s := (List.range 4).foldl (fun t c => (t.takeInForce (fanObj c) 9 1).takeInForce (fanObj c) 11 8) s
  let s : State := { s with thermal := { s.thermal with running := true, fans := List.replicate 4 Fan.reset, lbistOff := bit s.test.degraded 21 } }
  if s.thermal.shdnLow && s.thermal.counted then raiseEv (logCondition (s.setFlag 0x440A 3 24 true) 0x440A 3 24 true 0) 496 264 else s

end Sys2Proof.Machine
end

