-- ==== Sys2Proof/Machine/LogTime.lean ====
section
/-! DEFINITION. The commands of the log (chapter 17): its writer, its commands, its reading, the integrator's records and the snapshots. -/

namespace Sys2Proof.Machine

/-- LOG_OPEN (R669): once at a start-up. -/
def actLogOpen (s : State) : State := (if s.up && !s.log.opened && !s.power.writesStopped then logOpen s else s)

/-- LOG_RECORD_COMMIT (R648, R666): the oldest queued record goes to the flash. -/
def actLogRecordCommit (good : Bool) (s : State) : State := (if s.up && s.log.opened then writeRecord64 s good else s)

/-- LOG_CLEAR (R655): 1 to 0x4800:06. -/
def actLogClear (port : Port) (s : State) : State := portCommand s port 0x4800 6 (fun t => (logClear t, .ok))

/-- LOG_CURSOR_WRITE (R654): a write of 0x4801:01. -/
def actLogCursorWrite (port : Port) (value : Nat) (s : State) : State := portCommand s port 0x4801 1 (fun t => writeCursor t port value)

/-- How many entries a read returns at most (R654): 56 on C; as many as the length holds elsewhere. -/
def windowEntries (p : Port) (length : Nat) : Nat := if p = .C then 56 else min (length / 72) 56

/-- LOG_WINDOW_READ (R653, R654): whole entries from the port's cursor; nothing before the log has opened. -/
def actLogWindowRead (port : Port) (length : Nat) (peek : Bool) (s : State) : State :=
  if !s.up then (s.reply port .notReady [])
  else
    match s.checkRead port 0x4801 2 with
    | .ok =>
      if !s.log.opened then (s.reply port .ok [])
      else
        let r := readWindow s port (windowEntries port length) (peek && port == .D)
        (r.1.reply port .ok r.2)
    | e => (s.reply port e [])

/-- INTEGRATOR_RECORD: a write of 0x4802:01 queues one record (Table 17.2). -/
def actIntegratorRecord (port : Port) (data : List Nat) (s : State) : State :=
  portCommand s port 0x4802 1 (fun t => if data.length ≠ 20 then (t, .length) else (queueLog t 0x0180 (fromLE data), .ok))

/-- The rails of a predicate as a 16-bit word. -/
def railWord (f : Nat → Bool) : Nat := (List.range 16).foldl (fun w n => w + (b2n (f n) <<< n)) 0

/-- A rail has a warning or a fault present. -/
def State.railAlert (s : State) (n : Nat) : Bool :=
  let p := nth s.reg.sups n Sup.reset
  decide (p.warnings ≠ 0) || p.latched || p.retryPending || (nth s.reg.rails n RailSt.reset).offByFault

/-- SNAPSHOT's DATA (Table 17.2). -/
def State.snapshotData (s : State) : Nat :=
  fromLE (toLE 2 (s.get 0x2010 3) ++ [s.aocb.pstate.code, s.get 0x2010 4 % 256] ++ toLE 2 (ofSigned 16 s.hottest.1)
    ++ toLE 2 (s.get 0x4301 5) ++ toLE 2 (s.get 0x4301 6)
    ++ toLE 2 (railWord (fun n => (nth s.reg.rails n RailSt.reset).enabled)) ++ toLE 2 (railWord s.railAlert)
    ++ [s.get 0x4301 1 % 256, s.get 0x2101 3 % 256] ++ toLE 4 (s.get 0x2102 8))

/-- SNAPSHOT_TIMER (R651): at verbosity 2 and 3. -/
def actSnapshotTimer (s : State) : State :=
  (if s.up && decide (s.get 0x4800 2 ≥ 2) then queueLog s 0x0170 s.snapshotData else s)

end Sys2Proof.Machine
end

