-- ==== Sys2Proof/Machine/Charger.lean ====
section
/-!
DEFINITION. The charger (R566 to R576, R596 to R605): thresholds, phases, timers and what the telemetry of the pack changes. Voltages in mV, currents
in mA.
-/

namespace Sys2Proof.Machine

/-! ### The pack condition -/

/-- The pack condition (0x4320:01): 0 absent, 1 untrusted, 2 trusted, 3 pending. -/
def State.packCondition (s : State) : Nat := s.get 0x4320 1

/-- The pack is trusted (R18). -/
def State.trusted (s : State) : Bool := s.packCondition == 2

/-- The identity record's bytes from `a`, `n` of them, little-endian (Table 15.11). -/
def State.ident (s : State) (a n : Nat) : Nat := bits (s.get 0x4320 2) (8 * a) (8 * n)

/-! ### Thresholds (Table 15.3) -/

/-- The configured number of cells. -/
def State.cells (s : State) : Nat := s.get 0x4300 3

/-- Li-ion is configured. -/
def State.liIon (s : State) : Bool := s.get 0x4300 2 == 0

/-- TRICKLE below this. -/
def State.trickleMv (s : State) : Nat := 2000 * s.cells

/-- PRECHARGE below this. -/
def State.prechargeMv (s : State) : Nat := (if s.liIon then 3000 else 2500) * s.cells

/-- The fall-back hysteresis. -/
def State.chargeHystMv (s : State) : Nat := 100 * s.cells

/-- The temperature window (Table 15.5). -/
def State.window (s : State) : Nat := s.get 0x4301 3

/-- The CV in force, whole pack; lowered by 0.10 V per cell in the warm window. -/
def State.cvMv (s : State) : Nat :=
  ((if s.liIon then s.get 0x4300 4 else 3600) - (if s.window = 3 then 100 else 0)) * s.cells

/-- The charge over-voltage stop. -/
def State.ovStopMv (s : State) : Nat := s.cvMv + 100 * s.cells

/-- The discharge cut-off in force (0x4310:03). -/
def State.cutoffMv (s : State) : Nat :=
  (if s.get 0x4300 8 = 0 then (if s.liIon then 3000 else 2600) else s.get 0x4300 8) * s.cells

/-- ICC × w (R573). -/
def State.iccWindow (s : State) : Nat := if s.window = 1 then s.get 0x4300 5 / 2 else s.get 0x4300 5

/-- The limit that P_lim sets at the present pack voltage, where there is one. -/
def State.powerLimitMa (s : State) : Option Nat :=
  if s.get 0x4300 10 = 0 || s.get 0x4301 5 = 0 then none else some (100000 * s.get 0x4300 10 / s.get 0x4301 5)

/-- ICC_eff (R573). -/
def State.iccEff (s : State) : Nat :=
  match s.powerLimitMa with
  | some p => min s.iccWindow p
  | none => s.iccWindow

/-- VSYS lies less than 1.0 V above the CV in force (R572). -/
def State.inputLow (s : State) : Bool := decide (s.vsysMv < (s.cvMv : Int) + 1000)

/-- The objects that follow configuration, window and telemetry: INPUT_LOW, POWER_LIMITED, the current and CV in force, the discharge
cut-off. -/
def chargerRefresh (s : State) : State :=
  let limited := match s.powerLimitMa with
    | some p => decide (p < s.iccWindow)
    | none => false
  let s := (s.setFlag 0x4301 2 2 s.inputLow).setFlag 0x4301 2 1 limited
  ((s.set 0x4301 7 s.iccEff).set 0x4301 8 s.cvMv).set 0x4310 3 s.cutoffMv

/-! ### Phases (Table 15.4) -/

/-- The phase. -/
def State.chargePhase (s : State) : Nat := s.get 0x4301 1

/-- The stage switches: TRICKLE to TOPOFF. -/
def State.charging (s : State) : Bool := decide (2 ≤ s.chargePhase) && decide (s.chargePhase ≤ 6)

/-- The phase changes: event 499 (R571) and, by verbosity, a record (R651). -/
def setChargePhase (s : State) (p : Nat) : State :=
  if s.chargePhase = p then s
  else
    let old := s.chargePhase
    logVerbose (raise (s.set 0x4301 1 p) 499) 0x4301 1 old p

/-- The first, second and fourth conditions of R572; a failed self-test can hold the charger off (Table 19.3). -/
def State.chargerMay (s : State) : Bool :=
  decide (s.get 0x4300 1 ≠ 0) && s.trusted && !s.flag 0x4301 2 3 && s.level.isSome && !s.thermal.lbistOff

/-- The third condition of R572: VSYS has been drawn from VIN for 100 ms. -/
def State.chargerVin (s : State) : Bool := s.onVin && !s.power.vinLost && s.pack.vinSettled

/-- The causes of SUSPENDED (R572). -/
def State.suspendCause (s : State) : Bool := s.window == 0 || s.window == 4 || s.flag 0x4301 2 2 || !s.chargerVin

/-- A new cycle begins (R571, R574). -/
def beginCycle (s : State) : State :=
  let v := s.get 0x4301 5
  let s : State := { s with pack := { s.pack with preQuarter := 0, totalQuarter := 0, topoffQuarter := 0 } }
  let s := ((s.set 0x4301 9 0).set 0x4301 10 0).count 0x4301 11
  setChargePhase s (if v < s.trickleMv then 2 else if v < s.prechargeMv then 3 else 4)

/-- A new cycle begins if R572 lets one. -/
def tryCycle (s : State) : State := if s.chargerMay && s.chargerVin then beginCycle s else s

/-- The phase follows the conditions of R572: OFF when one of them ceases, SUSPENDED and back. -/
def chargerReview (s : State) : State :=
  let s := chargerRefresh s
  let p := s.chargePhase
  if p = 0 || p = 8 then s
  else if !s.chargerMay then setChargePhase s 0
  else if p = 1 then (if s.suspendCause then s else setChargePhase s s.pack.heldPhase)
  else if p = 7 then s
  else if s.suspendCause then setChargePhase { s with pack := { s.pack with heldPhase := p } } 1
  else s

/-- FAULT (R605, R574): causes 1 pre-charge timer, 2 total timer, 3 over-voltage, 4 stage. -/
def chargerFault (s : State) (cause : Nat) : State :=
  let s := s.setFlag 0x4301 2 (if cause = 3 then 5 else if cause = 4 then 7 else 6) true
  let s := ((setChargePhase s 8).count 0x4301 12).set 0x4301 13 cause
  emcyLog s 0xFF92 cause

/-- A pack voltage threshold moves the charger between phases (Table 15.4). -/
def chargeThresholds (s : State) : State :=
  let v := s.get 0x4301 5
  match s.chargePhase with
  | 2 => if v > s.trickleMv then setChargePhase s 3 else s
  | 3 => if v > s.prechargeMv then setChargePhase s 4
         else if v + s.chargeHystMv < s.trickleMv then setChargePhase s 2 else s
  | 4 => if v ≥ s.cvMv then setChargePhase s 5
         else if v + s.chargeHystMv < s.prechargeMv then setChargePhase s 3 else s
  | _ => s

/-! ### The pack condition changes -/

/-- MISMATCH follows the identity of a trusted pack (R569); the first one after a start-up or insertion sends EMCY 0xFF95 (R606). -/
def checkIdentity (s : State) : State :=
  if !s.trusted then s.setFlag 0x4301 2 3 false
  else
    let chem := s.ident 2 1
    let cells := s.ident 3 1
    let ok := chem == s.get 0x4300 2 && cells == s.get 0x4300 3 && decide (s.ident 6 2 ≥ s.get 0x4300 5)
      && (!s.liIon || decide (s.ident 8 2 ≥ s.get 0x4300 4))
    let s := s.setFlag 0x4301 2 3 (!ok)
    if ok || s.pack.mismatchSent then s
    else emcyLog { s with pack := { s.pack with mismatchSent := true } } 0xFF95 ((chem % 16) * 16 + cells % 16)

/-- The pack condition changes: event 498 and vector 265 (R578), MISMATCH and the charger follow. -/
def setPackCondition (s : State) (c : Nat) : State :=
  if s.packCondition = c then s
  else
    let old := s.packCondition
    let s := logVerbose (raiseEv (s.set 0x4320 1 c) 498 265) 0x4320 1 old c
    chargerReview (checkIdentity s)

/-! ### Telemetry of the pack (R568, R575, R604) -/

/-- The current at the sense amplifier in mA, with whether it lies beyond the sense range of ±56.25 mV (R568): HK input 56 is 16 × the drop plus 0.900 V. -/
def State.packMa (s : State) : Int × Bool :=
  let r := max 1 (s.get 0x4300 6)
  let n : Int := s.hkValue 56 * 1800000 - 900000 * 2 ^ 23
  let lim : Int := 56250 * 16 * 2 ^ 23
  (divRound (clampInt (-lim) lim n) (16 * 2 ^ 23 * r), decide (n > lim) || decide (n < -lim))

/-- The pack voltage in mV: VBAT less I × R_CS (R568). -/
def State.packMv (s : State) : Int :=
  divRound (s.hkMicro 50 * 25) 2000 - divRound (s.packMa.1 * (s.get 0x4300 6 : Int)) 1000

/-- 0x4301:05 and :06 follow telemetry inputs 50 and 56. -/
def packReadings (s : State) : State :=
  let i := s.packMa
  let s := (s.setS 0x4301 6 (satSigned 16 i.1)).setFlag 0x4301 2 0 i.2
  s.set 0x4301 5 (clampInt 0 65535 s.packMv).toNat

/-- A telemetry output of VBAT or of the charge current: V and I follow, and thresholds move the charger. -/
def chargerVoltage (s : State) : State := chargeThresholds (chargerReview (packReadings s))

/-- The window a temperature in 0.1 °C lies in (Table 15.5); a window away from normal is entered at its boundary. -/
def rawWindow (t : Int) : Nat := if t < 0 then 0 else if t ≤ 100 then 1 else if t < 450 then 2 else if t ≤ 550 then 3 else 4

/-- The window after a reading (R575): a window is left towards normal once the reading has passed its boundary by 2.0 °C (log entry 43). -/
def nextWindow (old : Nat) (t : Int) : Nat :=
  let raw := rawWindow t
  if old < raw && raw ≤ 2 then max old (if t < 20 then 0 else if t < 120 then 1 else 2)
  else if raw < old && 2 ≤ raw then min old (if t > 530 then 4 else if t > 430 then 3 else 2)
  else raw

/-- The pack temperature of a reading in µV of the 1.500 V reference; none when the sensor is open or shorted (log entry 41). -/
def State.packTenths (s : State) : Option Int :=
  let uv := s.hkMicro 57
  if uv ≥ 1450000 || uv ≤ 20000 then none
  else some (clampInt (-400) 1500 (ntcTenths (6 * s.hkValue 57).toNat ((5 * 2 ^ 23 : Int) - 6 * s.hkValue 57).toNat (s.get 0x4300 9)))

/-- A telemetry output of PACK_NTC: the temperature, NTC_FAULT and the window (R575, R604, R607). -/
def packTemperature (s : State) : State :=
  if !s.hkValid 57 then s
  else
    let t := s.packTenths
    let v := t.getD 1500
    let s := s.setS 0x4301 4 v
    let s := match t with
      | none => if s.flag 0x4301 2 4 then s else emcyLog (s.setFlag 0x4301 2 4 true) 0xFF93 0
      | some v => if decide (v ≤ 1200) then s.setFlag 0x4301 2 4 false else s
    chargerReview (s.set 0x4301 3 (nextWindow s.window v))

/-- Time passes for the timers (R574): `half` is in half nanoseconds; both timers at half rate while ICC_eff lies below ICC. -/
def chargerTime (s : State) (half : Nat) : State :=
  let step := if s.iccEff < s.get 0x4300 5 then half else 2 * half
  let p := s.chargePhase
  let k := s.pack
  let k := { k with
    preQuarter := if p = 2 || p = 3 then k.preQuarter + step else k.preQuarter
    totalQuarter := if 2 ≤ p && p ≤ 5 then k.totalQuarter + step else k.totalQuarter
    topoffQuarter := if p = 6 then k.topoffQuarter + 2 * half else k.topoffQuarter }
  let s : State := { s with pack := k }
  (s.set 0x4301 9 (satNat 16 (k.preQuarter / 4000000000))).set 0x4301 10 (satNat 16 (k.totalQuarter / 4000000000))

/-! ### Commands -/

/-- A write to the charger configuration (R568, R569, R576). -/
def writeCharger (s : State) (sub v : Nat) : State × Status :=
  let cutOk := v == 0 || (if s.liIon then decide (2800 ≤ v) && decide (v ≤ 3400) else decide (2500 ≤ v) && decide (v ≤ 3000))
  let range := match sub with
    | 5 => decide (v * s.get 0x4300 6 ≤ 50000)
    | 6 => decide (s.get 0x4300 5 * v ≤ 50000)
    | 8 => cutOk
    | _ => true
  if !range then (s, .range)
  else
    let s := s.set 0x4300 sub v
    if 2 ≤ sub && sub ≤ 5 then
      let s := if s.chargePhase = 8 then s else setChargePhase s 0
      let s := chargerRefresh (checkIdentity s)
      (if s.chargePhase = 8 then s else tryCycle s, .ok)
    else (chargerReview s, .ok)

/-- The clear command (R603): FAULT stays while the pack is above the over-voltage stop; a cleared timer fault begins a new cycle. -/
def clearCharger (s : State) : State :=
  if s.chargePhase ≠ 8 then s
  else if s.flag 0x4301 2 5 && decide (s.get 0x4301 5 > s.ovStopMv) then s
  else
    let s := ((s.setFlag 0x4301 2 5 false).setFlag 0x4301 2 6 false).setFlag 0x4301 2 7 false
    tryCycle (setChargePhase s 0)

/-- CHARGE_CYCLE_START: all conditions of R572 hold in OFF, and a cycle begins. -/
def actChargeCycleStart (s : State) : State :=
  (if s.chargePhase = 0 then chargerReview (tryCycle s) else s)

/-- The recharge threshold, whole pack (Table 15.3). -/
def State.rechargeMv (s : State) : Nat := s.cvMv - 100 * s.cells

/-- RECHARGE_TIMEOUT: 10 s below the recharge threshold in DONE start a new cycle (R571, R596). -/
def actRechargeTimeout (s : State) : State :=
  (if s.chargePhase = 7 && s.chargerVin && decide (s.get 0x4301 5 < s.rechargeMv) then chargerReview (tryCycle s) else s)

/-- CHARGE_CYCLE_RESUME: VIN has been returned for 100 ms; a held cycle resumes, and DONE judges the recharge threshold again (R596). -/
def actChargeCycleResume (s : State) : State :=
  (if s.onVin && !s.power.vinLost then chargerReview { s with pack := { s.pack with vinSettled := true } } else s)

/-- CHARGE_TIMER_EXPIRY: the total timer of 10 h, or the pre-charge timer of 1 h, expires (R574). -/
def actChargeTimerExpiry (total : Bool) (s : State) : State :=
  let p := s.chargePhase
  (if total then (if 2 ≤ p && p ≤ 5 then chargerFault (s.set 0x4301 10 36000) 2 else s)
    else if p = 2 || p = 3 then chargerFault (s.set 0x4301 9 3600) 1 else s)

/-- CLEAR_CHARGER_FAULT: command 1 (R603). -/
def actClearChargerFault (port : Port) (s : State) : State :=
  portCommand s port 0x4302 1 (fun s => (clearCharger s, .ok))

/-- CHARGE_OVERVOLTAGE: the pack voltage, `packMv` for 1 µs, lies above the stop while the stage is on (R605; log entry 42). -/
def actChargeOvervoltage (packMv : Nat) (s : State) : State := if s.charging && decide (packMv > s.ovStopMv) then chargerFault s 3 else s

/-- CHARGE_STAGE_FAULT: no switching edge in 10 periods, or a current above 1.5 × the current in force plus 100 mA for 1 ms (R605). -/
def actChargeStageFault (switching : Bool) (packMa : Nat) (s : State) : State :=
  if s.charging && (!switching || decide (2 * packMa > 3 * s.iccEff + 200)) then chargerFault s 4 else s

end Sys2Proof.Machine
end

