-- ==== Sys2Proof/Machine/Attributes.lean ====
section
/-!
DEFINITION. What an object's descriptor and header say beyond its row of the index: reserved fields (R13), accepted ranges (R11), and the bits STAGED,
LIVE_LOCK, SEGMENT, SIDE_EFFECT and UNIT_BOUND of Table 5.5.
-/

namespace Sys2Proof.Machine

/-- The bits of an object that no field map reserves; all of them where none is given. -/
def fieldMask (i s : Nat) : Nat :=
  let all := 2 ^ (8 * sizeOf i s) - 1
  if i = 0x2001 && s = 1 then 0xFFFFFF00
  else if i = 0x2004 && s ≠ 0 then 0xFFFFFFFF000F
  else if i = 0x2024 && s ≠ 0 then 0xC0BF
  else if i = 0x2026 && s ≠ 0 then 0xFF00000107FF07FF
  else if i = 0x2032 && s = 1 then 0x1FFFF
  else if i = 0x2034 && s ≠ 0 && s % 3 = 0 then 0x8007
  else if i = 0x2035 && s ≠ 0 then (if s % 2 = 1 then 0x0FFFFFFF else 0xC000FFFF)
  else if 0x2610 ≤ i && i ≤ 0x2619 && s ≠ 0 then 0xE007FFFF
  else if i = 0x2200 && s = 1 then 0x803FFC00
  else if i = 0x2210 && s = 1 then 0xC00000000FFFF000
  else if 0x2400 ≤ i && i ≤ 0x24FF && s = 1 then 0xFFC0FFFF000F0F00
  else if 0x2500 ≤ i && i ≤ 0x257F then
    (if 1 ≤ s && s ≤ 4 then 0x81FF00FF else if s = 5 then 0xF0000000FFFFFFFF else if s = 6 then 0x0F else all)
  else if 0x3100 ≤ i && i ≤ 0x3117 && (s = 1 || s = 2) then 0xFFFFFFFF00000000
  else if (i = 0x3200 || i = 0x3201) && s = 11 then 0x00FFFFFF
  else if i = 0x3203 && s ≠ 0 then 0x800FFFFF
  else if i = 0x3220 && s ≠ 0 then 0xFFFFFFF1
  else if i = 0x3232 && s = 1 then 0x0F
  else if i = 0x3240 && 6 ≤ s && s ≤ 9 then 0xC00F
  else if 0x4010 ≤ i && i ≤ 0x401F && s = 10 then 0xFFFFFFFFFFFFF0FF
  else if i = 0x4021 && s ≠ 0 then 0xCF000FFF
  else if 0x4100 ≤ i && i ≤ 0x410F && s = 7 then 0xF8FF
  else if (i = 0x4201 || i = 0x4202 || i = 0x4203) && s ≠ 0 then 0xFFF0FFFF
  else if i = 0x4900 && s = 3 then 0x1F
  else if i = 0x4A00 && s = 1 then 0x7F
  else all

/-- A value written, its reserved fields discarded (R13); a task's action of kind 5 reserves the upper bits of ARG besides (R358). -/
def keptFields (i s v : Nat) : Nat :=
  let w := v &&& fieldMask i s
  if 0x2500 ≤ i && i ≤ 0x257F && s = 5 && bits w 60 4 = 5 then w &&& 0xF000000000000FFF else w

/-- A value lies in a range; signed types compare as integers. -/
def Rng.ok (r : Rng) (signed : Bool) (width v : Nat) : Bool :=
  let x : Int := if signed then toSigned width v else v
  let stepped := fun (lo : Int) (step : Nat) => step ≤ 1 || decide ((x - lo) % (step : Int) = 0)
  match r with
  | .any => true
  | .span lo hi step => decide (lo ≤ x) && decide (x ≤ hi) && stepped lo step
  | .zeroOr lo hi step => v == 0 || (decide (lo ≤ x) && decide (x ≤ hi) && stepped lo step)
  | .oneOf l => l.contains v
  | .orVal w lo hi => v == w || (decide (lo ≤ x) && decide (x ≤ hi))

/-- A value fits its object's own row (R11): its type's width, the row's range and its fields. Conditions across objects stand
with the chapters. -/
def rowOk (i s v : Nat) : Bool :=
  match descOf i s with
  | none => false
  | some d => (d.ty.size == 0 || decide (v < 2 ^ (8 * d.ty.size))) && (d.ty ≠ .bool || decide (v ≤ 1)) && d.rng.ok d.ty.signed (8 * d.ty.size) v
      && valueOk i s v

/-- A descriptor grants RWS on some port: the object is stored (R159). -/
def Desc.stored (d : Desc) : Bool := d.acc.c == .rws || d.acc.k == .rws || d.acc.t == .rws || d.acc.d == .rws

/-- A descriptor grants RW, RWS or WO on some port: a configuration object (R93). -/
def Desc.writable (d : Desc) : Bool := d.acc.c.writes || d.acc.k.writes || d.acc.t.writes || d.acc.d.writes

/-- An object is stored by 0x1010. -/
def isStored (i s : Nat) : Bool :=
  match descOf i s with
  | some d => d.stored
  | none => false

/-- An object is bound to this unit (R175). -/
def unitBound (i s : Nat) : Bool :=
  i == 0x4330 || i == 0x2002 ||
    (match descOf i s with
     | some d => d.per == .U
     | none => false)

/-- STAGED: the CAN timing and redundancy (R198), the frame configuration (R113), scan profiles and approach calibration (R445), orders and emergency slews (R536) and fan
curves (R623). -/
def staged (i s : Nat) : Bool :=
  s ≠ 0 && (i == 0x2020 || (i == 0x2100 && s ≠ 8) || i == 0x3200 || i == 0x3201 || (i == 0x3233 && s ≤ 8)
    || (0x4201 ≤ i && i ≤ 0x4204) || (0x4420 ≤ i && i ≤ 0x4423 && (s == 9 || (11 ≤ s && s ≤ 18))))

/-- SEGMENT: program data and the configuration images lie in segments (R168, R174, R176, R673). -/
def segment (i s : Nat) : Bool :=
  (i == 0x1F50 && 1 ≤ s && s ≤ 5) || (i == 0x2003 && (s == 1 || s == 2)) || (i == 0x4801 && s == 2)

/-- The RC latches (Table 5.6). -/
def rcLatch (i s : Nat) : Bool :=
  (i == 0x2621 && 1 ≤ s && s ≤ 10) || (i == 0x2200 && s == 9) || (0x2500 ≤ i && i ≤ 0x257F && s == 12)
    || (0x3100 ≤ i && i ≤ 0x3117 && s == 8) || (0x4100 ≤ i && i ≤ 0x410F && s == 12)

/-- A read has a side effect: an RC latch, a POP window or a CURSOR (Table 5.6). -/
def sideEffect (i s : Nat) : Bool :=
  rcLatch i s || (0x2400 ≤ i && i ≤ 0x24FF && s == 9) || (i == 0x4801 && s == 2)

end Sys2Proof.Machine
end

