-- ==== Sys2Proof/Machine/RangeRules.lean ====
section
/-!
DEFINITION. The ranges of one object against another (R11): what a value of an object must satisfy beside the other objects' values, in a write, in a record of an
-/

namespace Sys2Proof.Machine

/-- The transmission type. -/
def State.tpdoType (s : State) (n : Nat) : Nat := s.get (0x1800 + n) 2

/-- The window field. -/
def State.tpdoWindow (s : State) (n : Nat) : Nat := s.get 0x2024 (n + 1)

/-- Synchronous (types 0 to 240). -/
def State.tpdoSync (s : State) (n : Nat) : Bool := decide (s.tpdoType n ≤ 240)

/-- The thresholds of Table 12.5 against each other. -/
def State.detectionOk (s : State) (sub v : Nat) : Bool :=
  match sub with
  | 1 => decide (s.get 0x3210 2 < v)
  | 2 => decide (v < s.get 0x3210 1) && decide (s.get 0x3210 4 < v)
  | 4 => decide (v < s.get 0x3210 2)
  | _ => true

/-- The levels of Table 14.5 against each other. -/
def State.levelsFit (s : State) (n sub v : Nat) : Bool :=
  let g := s.get (supObj n)
  match sub with
  | 1 => decide (g 2 + 5 ≤ v)
  | 2 => decide (v + 5 ≤ g 1)
  | 3 => decide (v + 5 ≤ g 4)
  | 4 => decide (g 3 + 5 ≤ v)
  | 5 => g 6 == 0 || decide (v ≤ g 6)
  | 6 => v == 0 || decide (g 5 ≤ v)
  | _ => true

/-- An action of kind 1 names an event-driven TPDO (Table 8.11). -/
def State.tpdoActionOk (s : State) (w : Nat) : Bool :=
  let n := bits w 0 32
  bits w 60 4 != 1 || (decide (1 ≤ n) && decide (n ≤ 64) && !s.tpdoSync (n - 1))

/-- A value lies in range against the other objects (R11). -/
def State.rangeOk (s : State) (i sub v : Nat) : Bool :=
  if i = 0x2020 && sub = 1 then decide (500 ≤ v) || s.get 0x2020 2 == 0
  else if i = 0x2020 && sub = 2 then v == 0 || decide (500 ≤ s.get 0x2020 1)
  else if i = 0x2024 then !bit v 15 || !s.tpdoSync (sub - 1)
  else if 0x1800 ≤ i && i ≤ 0x183F && sub = 2 then decide (240 < v) || !bit (s.tpdoWindow (i - 0x1800)) 15
  else if i = 0x2200 && sub = 1 then s.mem.pinned (bits v 12 10)
  else if 0x2500 ≤ i && i ≤ 0x257F && sub = 5 then s.tpdoActionOk v
  else if i = 0x3210 then s.detectionOk sub v
  else if 0x4010 ≤ i && i ≤ 0x401F && (sub = 2 || 7 ≤ sub && sub ≤ 9) then
    targetInRange (s.scaling (i - 0x4010)) v && (decide (sub ≠ 2) || decide (v ≠ 0))
  else if 0x4024 ≤ i && i ≤ 0x4027 && sub = 3 then decide (toSigned 16 v + 50 ≤ s.getS i 4)
  else if 0x4024 ≤ i && i ≤ 0x4027 && sub = 4 then decide (s.getS i 3 + 50 ≤ toSigned 16 v)
  else if 0x4100 ≤ i && i ≤ 0x410F then s.levelsFit (i - 0x4100) sub v
  else if i = 0x4200 && sub = 3 then (PState.ofCode v).isSome
  else true

end Sys2Proof.Machine
end

