-- ==== Sys2Proof/Machine/StoreOps.lean ====
section
/-!
DEFINITION. The object dictionary's store (R158 to R182, R189 to R191): images and slots, saves, restores and imports, copies written one after the other,
repairs, and the restore at start-up.
-/

namespace Sys2Proof.Machine

/-! ### Images (Tables 5.7 and 5.8) -/

/-- The bytes of a record. -/
def StoreRecord.bytes (r : StoreRecord) : List Nat :=
  toLE 2 r.index ++ [r.sub, r.type] ++ toLE 2 r.len ++ [0, 0] ++ toLE ((r.len + 3) / 4 * 4) (r.value % 2 ^ (8 * r.len))

/-- The length of an image in bytes. -/
def Image.length (im : Image) : Nat := 72 + (im.records.map (fun r => 8 + (r.len + 3) / 4 * 4)).sum

/-- The bytes of an image. -/
def Image.bytes (im : Image) : List Nat :=
  let body := toLE 4 im.magic ++ toLE 2 im.format ++ [im.kind, 0] ++ toLE 4 im.generation ++ toLE 4 im.length
    ++ toLE 4 im.records.length ++ toLE 4 im.product ++ toLE 4 im.revision ++ toLE 8 im.serial ++ List.replicate 28 0
    ++ (im.records.map StoreRecord.bytes).flatten ++ toLE 4 0x5A5AA5A5
  body ++ toLE 4 (crc32 body)

/-- Records read from bytes, `n` of them. -/
def parseRecords : Nat → List Nat → List StoreRecord
  | 0, _ => []
  | n + 1, l =>
    let len := fromLE ((l.drop 4).take 2)
    ⟨fromLE (l.take 2), nth l 2 0, nth l 3 0, len, fromLE ((l.drop 8).take len)⟩ :: parseRecords n (l.drop (8 + (len + 3) / 4 * 4))

/-- The bytes that `n` records take. -/
def recordBytes : Nat → List Nat → Nat
  | 0, _ => 0
  | n + 1, l =>
    let k := 8 + (fromLE ((l.drop 4).take 2) + 3) / 4 * 4
    k + recordBytes n (l.drop k)

/-- The image that a byte string holds; `intact` says that END and CRC check where LENGTH puts them and that the records fill the space between. -/
def parseImage (l : List Nat) : Image :=
  let f := fun a n => fromLE ((l.drop a).take n)
  let len := f 12 4
  let n := f 16 4
  let room := decide (72 ≤ len) && decide (len ≤ 65536) && decide (len ≤ l.length)
  let fits := room && decide (n ≤ len / 8) && recordBytes n (l.drop 64) == len - 72
  ⟨f 0 4, f 4 2, f 6 1, f 8 4, f 20 4, f 24 4, f 28 8, if fits then parseRecords n (l.drop 64) else [],
    fits && f (len - 8) 4 == 0x5A5AA5A5 && f (len - 4) 4 == crc32 (l.take (len - 4))⟩

/-- A slot is valid (R162). -/
def Slot.valid : Slot → Option Image
  | .holds im =>
    if im.magic = 0x4F445354 && im.format = 1 && im.product = 0x16800 && im.intact && decide (im.length ≤ 65536) then some im else none
  | _ => none

/-- The valid image of slot k. -/
def Store.validAt (t : Store) (k : Nat) : Option Image := (nth t.slots k .erased).valid

/-- The highest generation found in any valid slot; 0 with none. -/
def Store.topGeneration (t : Store) : Nat := (t.slots.map (fun x => (x.valid.map Image.generation).getD 0)).foldl max 0

/-- The slots of a copy. -/
def copySlots (c : Nat) : List Nat := (List.range 4).map (4 * c + ·)

/-- A copy is current (R162). -/
def Store.current (t : Store) (c : Nat) : Bool :=
  (copySlots c).any (fun k => match t.validAt k with
    | some im => im.generation == t.topGeneration
    | none => false)

/-- The slot in force (R163): highest generation, copy A first. -/
def Store.chosen (t : Store) : Option Image :=
  ((List.range 8).filterMap t.validAt).find? (fun im => im.generation == t.topGeneration)

/-- The slot after a copy's newest valid one; its first where it has none (R164). -/
def Store.nextSlot (t : Store) (c : Nat) : Nat :=
  let l := (copySlots c).filterMap (fun k => (t.validAt k).map (fun im => (im.generation, k)))
  let best := l.foldl (fun b e => match b with
    | none => some e
    | some x => if x.1 < e.1 then some e else some x) none
  match best with
  | some e => 4 * c + (e.2 - 4 * c + 1) % 4
  | none => 4 * c

/-- The record of an object's value. -/
def recordOf (i sub v : Nat) : Option StoreRecord :=
  (descOf i sub).map (fun d => ⟨i, sub, d.ty.code % 256, d.ty.size, v⟩)

/-- The group of a sub-index of 0x1010 and 0x1011 (R158). -/
def inGroup (group i : Nat) : Bool :=
  match group with
  | 2 => i < 0x2000
  | 3 => 0x2000 ≤ i
  | _ => true

/-- Records in ascending order of index and sub-index. -/
def insertRecord (r : StoreRecord) : List StoreRecord → List StoreRecord
  | [] => [r]
  | x :: xs => if key r.index r.sub ≤ key x.index x.sub then r :: x :: xs else x :: insertRecord r xs

/-- The COB-IDs that follow the node-ID (R208): EMCY, the SDO server, and PDOs 1 to 4. -/
def followsNode (i sub : Nat) : Bool :=
  (i == 0x1014 && sub == 0) || (i == 0x1200 && (sub == 1 || sub == 2))
    || (sub == 1 && ((0x1400 ≤ i && i < 0x1404) || (0x1800 ≤ i && i < 0x1804)))

/-- What the node-ID in force adds to a predefined identifier. -/
def State.nodeOffset (s : State) : Nat := if s.nodeId = 0xFF then 0 else s.nodeId

/-- An object's default as it stands now (R161): a COB-ID that follows the node-ID has the node-ID in force in it. -/
def State.defaultNow (s : State) (i sub : Nat) : Nat := odDefault i sub + (if followsNode i sub then s.nodeOffset else 0)

/-- The objects whose identifiers follow the node-ID (R208). -/
def nodeObjects : List (Nat × Nat) :=
  [(0x1014, 0), (0x1200, 1), (0x1200, 2)] ++ (List.range 4).map (fun n => (0x1400 + n, 1)) ++ (List.range 4).map (fun n => (0x1800 + n, 1))

/-- The objects whose value may differ from their default as it stands: the listed ones, and those whose default follows the node-ID. -/
def State.listed (s : State) : List (Nat × Nat) :=
  let l := s.od.map (fun e => (e.1 / 256, e.1 % 256))
  l ++ nodeObjects.filter (fun o => !l.contains o)

/-- The stored objects that differ from their defaults (R161), of a group. -/
def State.savedRecords (s : State) (group : Nat) : List StoreRecord :=
  s.listed.filterMap (fun o =>
    let v := s.get o.1 o.2
    if inGroup group o.1 && isStored o.1 o.2 && v != s.defaultNow o.1 o.2 then recordOf o.1 o.2 v else none)

/-- One record's value enters the value table. -/
def takeRecord (s : State) (r : StoreRecord) : State := s.set r.index r.sub r.value

/-- The state as a start with these records has it: every other stored object at its default. -/
def State.startingWith (s : State) (l : List StoreRecord) : State :=
  l.foldl takeRecord { s with od := s.od.filter (fun e => !isStored (e.1 / 256) (e.1 % 256)) }

/-- A stored record does not fit its object (R189): undefined, not RWS, another type or length, or a value outside its own row's range. -/
def recordIll (r : StoreRecord) : Bool :=
  match descOf r.index r.sub with
  | none => true
  | some d => !d.stored || r.type ≠ d.ty.code % 256 || r.len ≠ d.ty.size || !rowOk r.index r.sub r.value

/-- A stored record is discarded (R189); `s` is the state as a start with the image has it, against which the ranges that other objects set are judged (log entry
215). -/
def recordDiscarded (s : State) (r : StoreRecord) : Bool := recordIll r || !s.rangeOk r.index r.sub r.value

/-- The records of an image that a start-up discards, and those it takes (R189). -/
def State.sortRecords (s : State) (im : Image) : List StoreRecord × List StoreRecord :=
  let t := s.startingWith (im.records.filter (fun r => !recordIll r))
  im.records.partition (recordDiscarded t)

/-- The records of the store in force that a start-up takes and that satisfy a condition. -/
def State.storedRecords (s : State) (p : StoreRecord → Bool) : List StoreRecord :=
  match s.store.chosen with
  | some im => (s.sortRecords im).2.filter p
  | none => []

/-- A new image with these records. -/
def State.newImage (s : State) (records : List StoreRecord) : Image :=
  ⟨0x4F445354, 1, 1, s.store.topGeneration + 1, 0x16800, 0x00020001, s.test.serial, records.foldr insertRecord [], true⟩

/-- The copy that is written first (R164): the one that is not current, or A. -/
def Store.firstCopy (t : Store) : Nat := if t.current 0 && !t.current 1 then 1 else 0

/-- The slot being written holds no image until it has passed its read-back. -/
def Store.breakSlot (t : Store) (k : Nat) : Store := { t with slots := t.slots.set k .broken }

/-- 0x2002:03 follows the slots (bit 2 stays). -/
def refreshCopies (s : State) : State :=
  s.set 0x2002 3 (b2n (s.store.current 0) + 2 * b2n (s.store.current 1) + (s.get 0x2002 3 / 4 % 2) * 4)

/-- The slot that a job is writing. -/
def Store.jobSlot (t : Store) (j : StoreJob) : Nat := t.nextSlot j.copy

/-- A job starts on its copy: the sectors of its slot are erased. -/
def startCopy (s : State) (j : StoreJob) : State :=
  { s with store := { s.store.breakSlot (s.store.jobSlot j) with job := some j } }

/-- 0x2002:01 of a job (R167). -/
def JobKind.state : JobKind → Nat
  | .save | .restore | .lss => 1
  | .repair => 2
  | .importing => 3

/-- The flash takes no writes: absent (R191), or stopped by a collapse (R96). -/
def State.flashRefused (s : State) : Bool := s.store.flashAbsent || s.power.writesStopped

/-- A save, restore, import or LSS store runs (R167). -/
def Store.busy (t : Store) : Bool :=
  match t.job with
  | some j => j.kind != JobKind.repair
  | none => false

/-- A store, restore or import begins (R161, R164, R167): it is answered when it ends; `some` is an answer at once. A repair in progress ends. -/
def beginStore (s : State) (kind : JobKind) (records : List StoreRecord) (asker : Asker) : State × Option Status :=
  if s.flashRefused then (s, some .hardware)
  else if s.store.busy then (s, some .busy)
  else
    let im := s.newImage records
    if im.length > 65536 then (s.set 0x2002 8 4, some .notStored)
    else
      let s : State := { s with store := { s.store with job := none } }
      (startCopy (s.set 0x2002 1 kind.state) ⟨kind, im, s.store.firstCopy, false, false, asker⟩, none)

/-- A save of a group (R159). -/
def beginSave (s : State) (group : Nat) (asker : Asker) : State × Option Status :=
  beginStore s .save (s.savedRecords group ++ s.storedRecords (fun r => !inGroup group r.index)) asker

/-- A restore of a group (R160). -/
def beginRestore (s : State) (group : Nat) (asker : Asker) : State × Option Status :=
  beginStore s .restore (s.storedRecords (fun r => !inGroup group r.index)) asker

/-- LSS store configuration (R207): 0x2021:03 and 0x2020:01 take these values. -/
def beginLssStore (s : State) (line node rate : Nat) : State × Option Status :=
  let mine := fun (r : StoreRecord) => (r.index == 0x2021 && r.sub == 3) || (r.index == 0x2020 && r.sub == 1)
  let new := [(0x2021, 3, node), (0x2020, 1, rate)].filterMap (fun e =>
    if e.2.2 = odDefault e.1 e.2.1 then none else recordOf e.1 e.2.1 e.2.2)
  beginStore s .lss (new ++ s.storedRecords (fun r => !mine r)) (.lss line)

/-! ### Import (R176 to R182) -/

/-- A record of an import is refused with this status (R178); `skip`: undefined objects are skipped. `s` is the state as a start with the import has it (log entry
215). -/
def recordRefused (s : State) (skip : Bool) (r : StoreRecord) : Option Status :=
  match descOf r.index r.sub with
  | none => if skip then none else some (definedStatus r.index r.sub)
  | some d =>
    if !d.stored then some .readOnly
    else if unitBound r.index r.sub then some .noAccess
    else if r.type ≠ d.ty.code % 256 then some .incompatible
    else if r.len ≠ d.ty.size then some .length
    else if !rowOk r.index r.sub r.value || !s.rangeOk r.index r.sub r.value then some .range
    else none

/-- The header of an import is right (R178). -/
def importHeaderOk (im : Image) : Bool :=
  im.magic == 0x4F445354 && im.intact && im.kind == 2 && im.product == 0x16800 && decide (im.format ≤ 1)

/-- An import command has ended: the staging segment is emptied (R176, R182). -/
def importEnds (s : State) : State := { s with store := { s.store with staging := [] } }

/-- An import (R178, R179): the staging segment is validated whole, then stored. -/
def beginImport (s : State) (skip : Bool) (asker : Asker) : State × Option Status :=
  if s.flashRefused then (s, some .hardware)
  else if s.store.busy then (s, some .busy)
  else
    let im := parseImage s.store.staging
    let s := (s.set 0x2003 4 0).set 0x2003 5 0
    if !importHeaderOk im then (importEnds s, some .notStored)
    else
      let bound := s.storedRecords (fun r => unitBound r.index r.sub)
      let t := s.startingWith (bound ++ im.records.filter (fun r => !recordIll r && !unitBound r.index r.sub))
      match im.records.find? (fun r => (recordRefused t skip r).isSome) with
      | some r =>
        (importEnds (s.set 0x2003 5 ((r.index <<< 16) + (r.sub <<< 8) + ((recordRefused t skip r).map Status.code).getD 0)), some .notStored)
      | none =>
        let known := im.records.filter (fun r => (descOf r.index r.sub).isSome)
        let s := s.set 0x2003 4 (satNat 16 (im.records.length - known.length))
        let known := known.filter (fun r => decide (r.value ≠ s.defaultNow r.index r.sub))
        match beginStore s .importing (known ++ bound) asker with
        | (u, some st) => (importEnds u, some st)
        | r => r

/-! ### The end of a copy and of a job -/

/-- A request that waited for a job is answered. -/
def answerAsker (s : State) (a : Asker) (st : Status) : State :=
  match a with
  | .none => s
  | .port p i sub tag => finishRequest s p i sub tag st []
  | .lss line => lssSend s line [0x17, if st = .ok then 0 else 2]

/-- The value an image gives an object: its record's, or the default. -/
def Image.value (im : Image) (i sub : Nat) : Nat :=
  match im.records.find? (fun r => r.index == i && r.sub == sub) with
  | some r => r.value
  | none => odDefault i sub

/-- A stored LSS configuration is what 0x2021:03 and 0x2020:01 read (R207). -/
def lssStored (s : State) (im : Image) : State := (s.set 0x2021 3 (im.value 0x2021 3)).set 0x2020 1 (im.value 0x2020 1)

/-- A job ends. A repair that waited is due no longer once both copies are current (R165). -/
def endJob (s : State) (j : StoreJob) (st : Status) : State :=
  let due := if s.store.current 0 && s.store.current 1 then none else s.store.repairDue
  let s : State := { s with store := { s.store with job := none, repairDue := due } }
  let s := if j.kind = .importing then importEnds s else s
  let s := if j.kind = .lss && st = .ok then lssStored s j.image else s
  answerAsker (refreshCopies (s.set 0x2002 1 0)) j.asker st

/-- A job fails on its second attempt at a copy (R177, R182): EMCY 0xFF20 with the copy as detail. -/
def failJob (s : State) (j : StoreJob) : State :=
  let s := if j.kind = .repair then s else s.set 0x2002 8 (if j.second then 3 else 2)
  let s := if j.second && j.kind ≠ .repair then s.set 0x2002 2 j.image.generation else s
  let s := emcyLog s 0xFF20 j.copy
  endJob s j (if j.kind = .importing then .notStored else .hardware)

/-- A copy has passed its read-back (R164, R165). -/
def passCopy (s : State) (j : StoreJob) : State :=
  let k := s.store.jobSlot j
  let s : State := { s with store := { s.store with slots := s.store.slots.set k (.holds j.image) } }
  if j.kind = .repair then endJob (s.count 0x2002 4) j .ok
  else if !j.second then startCopy s { j with copy := 1 - j.copy, second := true, retried := false }
  else endJob (((s.count 0x2002 5).set 0x2002 8 1).set 0x2002 2 j.image.generation) j .ok

/-- STORE_COPY_COMPLETE: one copy's erase, program and read-back have ended, well or not (R164, R177). -/
def actStoreCopyComplete (ok : Bool) (s : State) : State :=
  match s.store.job with
  | none => s
  | some j =>
    if ok then (passCopy s j)
    else if !j.retried then (startCopy s { j with retried := true })
    else (failJob s j)

/-- STORE_REPAIR: after the boot-up message the copy that is not current is rewritten from the chosen image (R165). -/
def actStoreRepair (s : State) : State :=
  match s.store.repairDue, s.store.chosen, s.store.job with
  | some c, some im, none =>
    if s.up && s.can.started && s.can.nmt ≠ .init && !s.flashRefused && !s.store.current c then
      let s : State := { s with store := { s.store with repairDue := none } }
      (startCopy (s.set 0x2002 1 2) ⟨.repair, im, c, false, false, .none⟩)
    else s
  | _, _, _ => s

/-- A job in progress is abandoned without an answer (R166). -/
def abandonStore (s : State) : State :=
  { (s.set 0x2002 1 0) with store := { s.store with job := none } }

/-! ### The restore at start-up (R163, R189) -/

/-- The stored values an application or communication reload takes (R93, R185): the image being written where a save, restore or import runs, else the slot in
force. After an import, R93's reload then takes the imported values, though R179 has the import take effect at the next hard reset (DESIGN CHOICE, log entry
216). -/
def State.reloadRecords (s : State) : List StoreRecord :=
  let im := match s.store.job with
    | some j => if j.kind == JobKind.repair then s.store.chosen else some j.image
    | none => s.store.chosen
  match im with
  | some im => (s.sortRecords im).2
  | none => []

/-- The configuration image of R174: the records of the slot in force with which the unit would start, less those bound to the unit. -/
def State.configImage (s : State) : List Nat :=
  { s.newImage (s.storedRecords (fun r => !unitBound r.index r.sub)) with kind := 2, generation := 0 : Image }.bytes

/-- 0x2002:07 (R168): the worst-case duration in ms of a store of an image of so many bytes. -/
def storeDuration (bytes : Nat) : Nat :=
  let sectors := (bytes + 4095) / 4096
  let pages := (bytes + max 1 Config.pageBytes - 1) / max 1 Config.pageBytes
  satNat 32 ((2 * (sectors * Config.sectorEraseUs + pages * Config.pageProgramUs + Config.readBackUs bytes) + 5000 + 999) / 1000)

/-- The restore: values from the chosen slot, then Table 5.9. A copy that an abandoned store left incomplete is repaired; where that copy still holds the newest image
in another slot it counts as current, as R162 defines it, and Table 5.9 asks for nothing (DESIGN CHOICE, log entry 217). The log records that R189 and Table 5.9 require are queued when the log opens
(they stand in the queue). -/
def restoreStore (s : State) : State :=
  let t := s.store
  let fresh := t.slots.all (fun x => x == .erased)
  let sorted := match t.chosen with
    | some im => s.sortRecords im
    | none => ([], [])
  let bad := sorted.1
  let s := sorted.2.foldl takeRecord s
  let s := (s.set 0x2002 6 (satNat 16 bad.length)).set 0x2002 2 t.topGeneration
  let s := (s.set 0x2002 3 (if t.chosen.isNone then 4 else 0))
  let s := refreshCopies s
  let s := s.set 0x2002 7 (storeDuration ((t.chosen.map Image.length).getD 72))
  let s : State := { s with store := { t with
    repairDue := if t.chosen.isNone then none else if !t.current 0 then some 0 else if !t.current 1 then some 1 else none
    emcyDue := t.chosen.isNone && !fresh } }
  let s : State := { s with aocb := { s.aocb with boot := { s.aocb.boot with odDefaults := t.chosen.isNone && (!fresh || s.aocb.boot.odDefaults) } } }
  let s := match s.store.repairDue with
    | some c => logCondition s 0x2002 3 c false 0
    | none => s
  let s := if t.chosen.isNone && !fresh then logCondition s 0x2002 3 2 true 0 else s
  match bad with
  | r :: _ => logCondition s r.index r.sub 0 false bad.length
  | [] => s

end Sys2Proof.Machine
end

