-- ==== Sys2Proof/Machine/UpdateOps.lean ====
section
/-!
DEFINITION. Firmware update (R670 to R697): the check of an image (R678), boot records (R680, R682), the session and its blocks (R675, R676), trial and
confirmation (R683, R684). Sub-index 1 is firmware, sub-indices 2 to 5 the user program slots.
-/

namespace Sys2Proof.Machine

/-! ### Images -/

/-- A byte field of a block, little-endian. -/
def blockField (b : List Nat) (a n : Nat) : Nat := fromLE ((b.drop a).take n)

/-- Block n of a bank. -/
def Bank.block (b : Bank) (n : Nat) : Option (List Nat) := (b.blocks.find? (fun e => e.1 == n)).map (·.2)

/-- A block's CRC checks (R672). -/
def blockOk (n : Nat) (b : List Nat) : Bool :=
  b.length == 4096 && crc32 (toLE 4 n ++ b.take 4092) == blockField b 4092 4

/-- The most blocks of an image: 1,024 of a firmware bank, 128 of a slot (Table 18.2). -/
def maxBlocks (sub : Nat) : Nat := if sub = 1 then 1024 else 128

/-- The header's error (Table 18.2, Table 18.5): 0 none, 1 header, 2 product, 3 silicon, 11 too large. -/
def headerError (sub : Nat) (h : List Nat) : Nat :=
  let n := blockField h 20 4
  let kind := if sub = 1 then 1 else 2
  if blockField h 0 4 ≠ 0x494D4746 || blockField h 4 2 ≠ 1 || nth h 6 0 ≠ kind || nth h 7 0 ≠ kind - 1 then 1
  else if blockField h 8 4 ≠ 0x16800 then 2
  else if nth h 12 0 % 2 = 0 then 3
  else if n > maxBlocks sub then 11
  else if n < 3 || blockField h 24 4 > (n - 2) * 4092 then 1
  else 0

/-- The OTP key hash of a slot, as a number, if programmed (R673). -/
def State.keyHash (s : State) (k : Nat) : Option Nat :=
  if k = 0 then (if s.update.hash0 then some Config.ifetorKeyHash else none)
  else match nth s.test.hashes k .empty with
    | .key h => some h
    | _ => none

/-- A key slot counts as programmed (R721). -/
def State.keyProgrammed (s : State) (k : Nat) : Bool :=
  if k = 0 then s.update.hash0 else (nth s.test.hashes k .empty).programmed

/-- R678 over the blocks held: 0 when the image verifies, else the ERROR code. `unreadable` lists blocks whose CRC fails at every read. -/
def verifyBlocks (s : State) (sub : Nat) (b : Bank) (unreadable : List Nat) : Nat :=
  match b.block 0 with
  | none => 4
  | some h =>
    let n := blockField h 20 4
    let good := fun k => !unreadable.contains k && (match b.block k with
      | some x => blockOk k x
      | none => false)
    if !good 0 then 4
    else if n ≤ maxBlocks sub && !(List.range n).all good then 4
    else if headerError sub h ≠ 0 then headerError sub h
    else
      let t := (b.block (n - 1)).getD []
      let body := ((List.range (n - 1)).map (fun k => ((b.block k).getD []).take 4092)).flatten
      let key := (t.drop 104).take 64
      if blockField t 0 4 ≠ 0x54524C52 || blockField t 4 4 ≠ n then 5
      else if sha256 body ≠ (t.drop 8).take 32 then 6
      else if !s.keyProgrammed (nth h 7 0) then 12
      else if s.keyHash (nth h 7 0) ≠ some (fromLE (sha256 key)) then 7
      else if !ecdsaVerify key (sha256 (t.take 40)) ((t.drop 40).take 64) then 8
      else 0

/-- The digest of a bank's trailer, as a number. -/
def Bank.digest (b : Bank) : Nat :=
  match b.block 0 with
  | some h => fromLE ((((b.block (blockField h 20 4 - 1)).getD []).drop 8).take 32)
  | none => 0

/-- IMGVER of a valid header, else 0. -/
def Bank.imgver (sub : Nat) (b : Bank) : Nat :=
  match b.block 0 with
  | some h => if blockOk 0 h && headerError sub h = 0 then blockField h 16 4 else 0
  | none => 0

/-- How many leading blocks pass their CRC (R688). -/
def Bank.leading (b : Bank) (limit : Nat) : Nat :=
  ((List.range limit).find? (fun k => match b.block k with
    | some x => !blockOk k x
    | none => true)).getD limit

/-- A bank as the boot ROM finds it: this model's blocks where it has written any, else what was found (log entry 45). -/
def State.bankNow (s : State) (k : Nat) : BankFound :=
  let b := nth s.update.banks k ⟨[], false⟩
  if b.blocks.isEmpty && !b.erasing then nth s.update.found k BankFound.reset
  else
    match b.block 0 with
    | some h => ⟨verifyBlocks s 1 b [] == 0, b.digest, b.imgver 1, blockField h 14 2, blockField h 20 4⟩
    | none => BankFound.reset

/-! ### Boot records (R680) -/

/-- A record is confirmed. -/
def BootRecord.confirmed (r : BootRecord) : Bool := !r.trial || r.confirm

/-- The slot in force: the highest generation, slot 0 on a tie (R682). -/
def Update.inForceSlot (u : Update) : Option Nat :=
  match nth u.slots 0 none, nth u.slots 1 none with
  | none, none => none
  | some _, none => some 0
  | none, some _ => some 1
  | some a, some b => if a.generation < b.generation then some 1 else some 0

/-- The record in force. -/
def Update.record (u : Update) : Option BootRecord := u.inForceSlot.bind (fun k => nth u.slots k none)

/-- The record in force is in TRIAL. -/
def Update.inTrial (u : Update) : Bool := match u.record with
  | some r => !r.confirmed
  | none => false

/-- 0x4900:06 and :08 follow the record in force. -/
def refreshRecord (s : State) : State :=
  match s.update.record with
  | some r => (s.set 0x4900 6 (if r.confirmed then 0 else r.marks)).set 0x4900 8 r.generation
  | none => (s.set 0x4900 6 0).set 0x4900 8 0

/-- A record is written into the slot that does not hold the record in force, with a generation one above the highest valid (R680). -/
def writeRecord (s : State) (bank : Nat) (trial : Bool) (flags imgver digest : Nat) : State :=
  let u := s.update
  let gen := ((u.record).map BootRecord.generation).getD 0 + 1
  let k := match u.inForceSlot with
    | some k => 1 - k
    | none => 0
  refreshRecord { s with update := { u with slots := u.slots.set k (some ⟨gen, bank, trial, flags, imgver, digest, 0, false⟩) } }

/-- A confirmed record for a bank that the boot ROM, the loader or a reject writes. -/
def confirmedRecord (s : State) (bank flags : Nat) : State :=
  let f := s.bankNow bank
  writeRecord s bank false flags f.imgver f.digest

/-- The record in force is changed. -/
def modifyRecord (s : State) (f : BootRecord → BootRecord) : State :=
  match s.update.inForceSlot with
  | some k => refreshRecord { s with update := { s.update with slots := s.update.slots.modify k (fun r => r.map f) } }
  | none => s

/-! ### Targets (Table 18.5) -/

/-- A target. -/
def State.target (s : State) (sub : Nat) : Target := nth s.update.targets (sub - 1) Target.reset

/-- IN_PROGRESS: an erase, a download transfer or a verification runs. -/
def Stage.inProgress : Stage → Bool
  | .erasing | .downloading | .verifying => true
  | _ => false

/-- 0x1F57 of a target. -/
def Target.word (t : Target) : Nat := (t.offset <<< 16) + (t.stage.code <<< 8) + (t.error <<< 1) + b2n t.stage.inProgress

/-- A target changes: 0x1F57 follows, and for firmware 0x4900:01 with event 508, vector 270 and its record. -/
def setTarget (s : State) (sub : Nat) (t : Target) : State :=
  let s : State := { s with update := { s.update with targets := s.update.targets.set (sub - 1) t } }
  let s := s.set 0x1F57 sub t.word
  let old := s.get 0x4900 1
  if sub = 1 && old ≠ t.stage.code then logStateChange (raiseEv (s.set 0x4900 1 t.stage.code) 508 270) 0x4900 1 old t.stage.code
  else s

/-- A target's stage changes with its error. -/
def setStage (s : State) (sub : Nat) (st : Stage) (error : Nat) : State := setTarget s sub { s.target sub with stage := st, error := error }

/-- The bank a download goes to: the one that does not run; under the loader the one not named by the record in force, or A (R685). -/
def State.downloadBank (s : State) : Nat :=
  if s.power.step = .loader then (match s.update.record with
    | some r => 1 - r.bank
    | none => 0)
  else 1 - s.update.running

/-- The flash a target's image lies in. -/
def State.targetBank (s : State) (sub : Nat) : Bank :=
  if sub = 1 then nth s.update.banks s.downloadBank ⟨[], false⟩ else nth s.update.programs (sub - 2) ⟨[], false⟩

/-- The same replaced; what was found in a firmware bank no longer holds. -/
def State.setTargetBank (s : State) (sub : Nat) (b : Bank) : State :=
  if sub = 1 then
    let k := s.downloadBank
    { s with update := { s.update with banks := s.update.banks.set k b, found := s.update.found.set k BankFound.reset } }
  else { s with update := { s.update with programs := s.update.programs.set (sub - 2) b } }

/-- 0x4900:09 and 0x1F56:02 to :05 follow the flash. -/
def refreshVersions (s : State) : State :=
  let s := s.set 0x4900 9 (s.bankNow s.downloadBank).imgver
  (List.range 4).foldl (fun t k => t.set 0x1F56 (k + 2) ((t.targetBank (k + 2)).imgver (k + 2))) s

/-- The stage the scan gives a target (R688, R697). -/
def scanTarget (s : State) (sub : Nat) : Target :=
  let b := s.targetBank sub
  let f := if sub = 1 then nth s.update.found s.downloadBank BankFound.reset else BankFound.reset
  let n := b.leading (maxBlocks sub)
  if sub = 1 && s.update.inTrial then ⟨0, .trial, 0⟩
  else if b.erasing then ⟨0, .partial_, 0⟩
  else if b.blocks.isEmpty then (if f.verifies then ⟨f.nblocks, .complete, 0⟩ else ⟨0, .idle, 0⟩)
  else
    match b.block 0 with
    | some h => if n = blockField h 20 4 && headerError sub h = 0 then ⟨n, .complete, 0⟩ else ⟨n, .partial_, 0⟩
    | none => ⟨0, .partial_, 0⟩

/-! ### Sessions (R675 to R677) -/

/-- A request for the update objects in firmware or under the loader (R685, R686, R697): one session across ports. -/
def updateRequest (s : State) (p : Port) (i sub : Nat) (f : State → State × Option Status) : State :=
  let g := fun (s : State) =>
    if !s.update.scanned && s.power.step ≠ .loader then (s, some Status.busy)
    else
      match s.update.session with
      | some x => if x.port ≠ p.code then (s, some Status.busy) else f s
      | none => f s
  if s.power.step = .loader && !s.power.hardReset then
    if sub ≠ 1 || p = .K || p = .T then (s.reply p .noObject [])
    else
      match s.checkWrite p i sub with
      | .ok =>
        let r := if s.store.flashAbsent then (s, some Status.hardware) else g s
        (match r.2 with
          | some st => r.1.reply p st []
          | none => r.1)
      | e => (s.reply p e [])
  else portRequest s p i sub g

/-- A slot whose program is not EMPTY is in use (R687). -/
def State.slotLive (s : State) (sub : Nat) : Bool := decide (sub ≠ 1) && decide (s.progState (sub - 1) ≠ 0)

/-- A whole block arrives: checked, programmed, read back (R675, R676). -/
def commitBlock (s : State) (sub : Nat) (x : Session) (blk : List Nat) (flashOk : Bool) : State × Status :=
  let t := s.target sub
  let n := t.offset
  let err := if !blockOk n blk then 10 else if n = 0 then headerError sub blk else 0
  let err := if err = 2 || err = 3 then 1 else err
  let x' := { x with block := [] }
  let s' : State := { s with update := { s.update with session := some x' } }
  if err ≠ 0 then (setTarget s' sub { t with error := err }, .notStored)
  else if !flashOk then (setTarget s' sub { t with stage := .failed, error := 9 }, .hardware)
  else
    let b := s.targetBank sub
    let b' : Bank := { b with blocks := (b.blocks.filter (fun e => e.1 ≠ n)) ++ [(n, blk)] }
    let s' := refreshVersions (s'.setTargetBank sub b')
    let total := match b'.block 0 with
      | some h => blockField h 20 4
      | none => 0
    (setTarget s' sub { t with offset := n + 1, stage := if n + 1 = total then .complete else .downloading, error := 0 }, .ok)

/-- Data appended block by block; the fuel bounds the blocks of one write. -/
def appendData : Nat → State → Nat → List Nat → Bool → State × Status
  | 0, s, _, _, _ => (s, .ok)
  | fuel + 1, s, sub, data, flashOk =>
    match s.update.session with
    | none => (s, .incompatible)
    | some x =>
      let room := 4096 - x.block.length
      let blk := x.block ++ data.take room
      if blk.length < 4096 then
        ({ s with update := { s.update with session := some { x with block := blk } } }, .ok)
      else
        match commitBlock s sub x blk flashOk with
        | (s, .ok) => if (data.drop room).isEmpty then (s, .ok) else appendData fuel s sub (data.drop room) flashOk
        | r => r

/-- The byte position at which the next data is appended (R675). -/
def State.appendAt (s : State) (sub : Nat) : Nat :=
  4096 * (s.target sub).offset + ((s.update.session.map (fun x => x.block.length)).getD 0)

/-- How many blocks the image of a target has, by its committed header. -/
def State.imageBlocks (s : State) (sub : Nat) : Nat :=
  match (s.targetBank sub).block 0 with
  | some h => min (blockField h 20 4) (maxBlocks sub)
  | none => maxBlocks sub

/-- A write of program data (R675 to R677). In stage PARTIAL without a session it resumes one (R688); without either it is refused (log entry 46). -/
def programData (s : State) (p sub : Nat) (offset : Option Nat) (data : List Nat) (flashOk : Bool) : State × Status :=
  let t := s.target sub
  let resumes := s.update.session.isNone && t.stage == .partial_
  let s' : State := if resumes then { s with update := { s.update with session := some ⟨sub, p, []⟩ } } else s
  if s.slotLive sub then (s, .live)
  else if s.power.writesStopped then (s, .hardware)
  else if t.stage == .complete || t.stage == .verifying || t.stage == .verified || t.stage == .activated then (s, .length)
  else if !(s'.update.session.map (fun x => x.sub == sub)).getD false
      || !(t.stage == .downloading || t.stage == .partial_) then (s, .incompatible)
  else if (match offset with
      | some o => decide (o ≠ s'.appendAt sub)
      | none => false) then (s, .range)
  else if s'.appendAt sub + data.length > 4096 * s.imageBlocks sub then (s, .length)
  else
    let s' := setStage s' sub .downloading t.error
    appendData (data.length / 4096 + 2) s' sub data flashOk

/-- A flash failure in a session: only Clear leaves the stage FAILED that it set (R696). -/
def State.flashFailed (s : State) (sub : Nat) : Bool := (s.target sub).stage == .failed && (s.target sub).error == 9

/-- Stop (Table 18.4): ends the session; committed blocks stay. An erase under way ends in PARTIAL by itself. -/
def programStop (s : State) : State × Status :=
  match s.update.session with
  | none => (s, .incompatible)
  | some x =>
    let s' : State := { s with update := { s.update with session := none } }
    (if s.flashFailed x.sub || (s.target x.sub).stage == .erasing then s' else setStage s' x.sub .partial_ 0, .ok)

/-- The sub-index whose stage is the given one. -/
def State.targetIn (s : State) (st : Stage) : Option Nat :=
  ([1, 2, 3, 4, 5].find? (fun k => (s.target k).stage == st))

/-- Clear (Table 18.4, R687, R690): the erase begins and the request waits for it. One session runs at a time (R675): a Clear while an erase runs is refused with
BUSY, and one of another sub-index ends the earlier session as Stop does (the model's choices, log entry 170). -/
def programClear (s : State) (p sub : Nat) (asker : Asker) : State × Option Status :=
  if s.power.writesStopped then (s, some .hardware)
  else if (s.targetIn .erasing).isSome then (s, some .busy)
  else if sub = 1 && (s.update.inTrial || (s.target 1).stage == .activated) then (s, some .incompatible)
  else if s.slotLive sub then (s, some .live)
  else
    let s := if (s.update.session.map (fun x => x.sub != sub)).getD false then (programStop s).1 else s
    let s := s.setTargetBank sub ⟨[], true⟩
    let s : State := { s with update := { s.update with session := some ⟨sub, p, []⟩, asker := asker } }
    (refreshVersions (setTarget s sub ⟨0, .erasing, 0⟩), none)

/-- Verify (Table 18.4, R696). -/
def programVerify (s : State) (sub : Nat) : State × Status :=
  match (s.target sub).stage with
  | .complete | .verified | .failed => if s.flashFailed sub then (s, .incompatible) else (setStage s sub .verifying 0, .ok)
  | _ => (s, .incompatible)

/-- Activate (Table 18.4, R680, R685): firmware only. -/
def programActivate (s : State) (sub : Nat) (flashOk : Bool) : State × Status :=
  if s.power.writesStopped then (s, .hardware)
  else if sub ≠ 1 || (s.target 1).stage ≠ .verified then (s, .incompatible)
  else if !flashOk then (setStage s 1 .failed 9, .hardware)
  else
    let k := s.downloadBank
    let f := s.bankNow k
    let s := if s.power.step = .loader then writeRecord s k false 4 f.imgver f.digest else writeRecord s k true 0 f.imgver f.digest
    (setStage s 1 .activated 0, .ok)

/-- The restart of R681: the power-down order of R543, and the watchdog is no longer serviced. -/
def updateRestart (s : State) : State :=
  let s : State := { s with update := { s.update with restarting := true } }
  startResetOrder s

/-- Confirm (R683): CONFIRM is programmed in the record in force. -/
def confirmImage (s : State) : State :=
  let s := modifyRecord s (fun r => { r with confirm := true })
  let s : State := { s with update := { s.update with windowOpen := false } }
  let s := (s.set 0x4900 7 0).count 0x4900 10
  logStateChange (setStage s 1 .idle 0) 0x4900 10 (s.get 0x4900 10 - 1) (s.get 0x4900 10)

/-- The criteria of Table 18.7 that hold now, as a bitmap: 0 watchdog serviced, 1 operational reached, 2 link up reached, 3 no supervisor fault, 4 no LBIST
failure. -/
def State.criteria (s : State) : Nat :=
  1 + (s.update.healthReached &&& 6) + 8 * b2n ((List.range 16).all (fun n => s.get (supObj n) 16 == 0))
    + 16 * b2n (s.get 0x4A00 3 == 0 && s.get 0x4A00 4 == 0)

/-- The selected criteria, the watchdog's always. -/
def State.selected (s : State) : Nat := (s.get 0x4900 3 ||| 1) % 32

/-- The health window ends without confirmation, with its record (R683). -/
def windowFails (s : State) : State :=
  let failed := s.selected &&& (31 - s.criteria)
  logCondition (({ s with update := { s.update with windowOpen := false } } : State).set 0x4900 7 0) 0x4900 3 0 false failed

/-- The window in time: a criterion that fails ends it (R683). `half` is in half nanoseconds. -/
def updateTime (s : State) (half : Nat) : State :=
  if !s.update.windowOpen then s
  else
    let s : State := { s with update := { s.update with windowHalf := s.update.windowHalf + half } }
    let s := s.set 0x4900 7 (s.get 0x4900 4 - s.update.windowHalf / 2000000000)
    if s.get 0x4900 2 = 1 && decide ((s.selected &&& (31 - s.criteria)) &&& 24 ≠ 0) then windowFails s else s

end Sys2Proof.Machine
end

