-- ==== Sys2Proof/Machine/Resets.lean ====
section
/-!
DEFINITION. Resets and the power path (chapter 3): what a hard reset keeps, its cause, the resumption of start-up, the input collapse and the return of VIN.
-/

namespace Sys2Proof.Machine

/-! ### RSTCAUSE (Table 3.5, Table 3.11) -/

/-- The hard-reset sources and what else SOURCE records. -/
inductive Source where
  | vaonPor | resetN | longPress | watchdog | inputLoss | selfSupply | boundaryScan
deriving DecidableEq, Repr

/-- The code of a source (Table 3.5). -/
def Source.code : Source → Nat
  | .vaonPor => 1 | .resetN => 2 | .longPress => 3 | .watchdog => 4 | .inputLoss => 5 | .selfSupply => 6 | .boundaryScan => 7

/-- An emergency power-down order runs, or the wait that follows it (R104). -/
def State.inEmergency (s : State) : Bool := s.power.emergWait || s.aocb.pstate == .emergency

/-- The place of a source in the order of R103. -/
def Source.rank : Source → Nat
  | .vaonPor => 0 | .longPress => 1 | .resetN => 2 | .boundaryScan => 3 | .watchdog => 4 | .inputLoss => 5 | .selfSupply => 6

/-- The ALSO bit of a source, in [12:8] of RSTCAUSE (Table 3.11). -/
def Source.alsoBit : Source → Nat
  | .resetN => 1 | .longPress => 2 | .watchdog => 4 | .inputLoss => 8 | .boundaryScan => 16 | .vaonPor | .selfSupply => 0

/-- The source that SOURCE holds. -/
def Source.ofCode (n : Nat) : Option Source :=
  [Source.vaonPor, .resetN, .longPress, .watchdog, .inputLoss, .selfSupply, .boundaryScan].find? (fun x => x.code == n)

/-- An NMT reset is under way: its boot-up message has not been sent (log entry 193). -/
def State.softResetting (s : State) : Bool :=
  decide (s.power.step = .firmware) && s.can.started && s.can.nmt == .init && decide (s.aocb.cause.soft ≠ 0)

/-- A source is recorded; ALSO_INPUT_LOSS when it meets an emergency order or its wait (R104). SOFT goes on showing a soft reset that the watchdog's expiry cuts
short (R108). With `same` the source comes in the SUP clock of the one recorded last: the first in the order of R103 stands in SOURCE with its qualifier, and
the others set their ALSO bits; after VAON_POR nothing else is recorded. -/
def recordCause (s : State) (src : Source) (qual : Nat) (same : Bool) : State :=
  let now := s.aocb.cause
  let loss := if s.inEmergency && src ≠ .inputLoss then Source.inputLoss.alsoBit else 0
  let fresh : RstCause := ⟨if src = .watchdog && s.softResetting then now.soft else 0, src.code, qual, loss, now.logLost⟩
  let c := match (if same then Source.ofCode now.source else none) with
    | none => fresh
    | some .vaonPor => now
    | some first =>
      if src.rank < first.rank then { fresh with also := fresh.also ||| now.also ||| first.alsoBit }
      else if src = first then { now with also := now.also ||| loss }
      else { now with also := now.also ||| src.alsoBit ||| loss }
  { s with aocb := { s.aocb with cause := c } }

/-! ### What a hard reset keeps (Table 3.6, Table 21.1, R93, R95) -/

/-- A listed value outlives a reset of the domains: the values kept in the SUP and AON domains (the pack condition and identity among them, R579), in flash and in
OTP, the VSYS source, and while the power-down order runs what the regulator and the sequencer need and the state of the door buttons (R95). -/
def keptAtReset (rails : Bool) (k : Nat) : Bool :=
  let i := k / 256
  (match descOf i (k % 256) with
   | some d => d.per == .V || d.per == .F || d.per == .O || d.per == .K
   | none => false)
  || (i == 0x2010 && k % 256 == 4) || (i == 0x4320 && k % 256 ≤ 2)
  || (rails && ((decide (0x4000 ≤ i) && decide (i ≤ 0x42FF)) || i == 0x2013 || (i == 0x3221 && k % 256 ≤ 4)))

/-- The log's write in progress is abandoned and the queue lost, counted in LOGLOST (R94). -/
def loseQueue (s : State) : State :=
  let s := abandonRecord s
  let n := min 255 (s.aocb.cause.logLost + s.log.queue.length)
  { s with
    aocb := { s.aocb with cause := { s.aocb.cause with logLost := n } }
    log := { Log.reset with
      slots := s.log.slots, writeSlot := s.log.writeSlot, nextLsn := s.log.nextLsn, floor := s.log.floor, timeSeen := s.log.timeSeen
      calHalf := s.log.calHalf } }

/-- The pack as a reset leaves it: keys and the account's fractions stay, the exchange ends, reports may come again. -/
def Pack.afterReset (p : Pack) : Pack :=
  { Pack.reset with
    keys := p.keys, removed := p.removed, accounted := p.accounted, chgInFrac := p.chgInFrac, chgOutFrac := p.chgOutFrac
    energyFrac := p.energyFrac, hotFrac := p.hotFrac, onPackFrac := p.onPackFrac, pressHold := p.pressHold }

/-- Thermal sensing as a reset leaves it: the TCRIT comparator and SHDN_N stay (R35, R95). -/
def Thermal.afterReset (t : Thermal) : Thermal :=
  { Thermal.reset with overRun := t.overRun, measured := t.measured, counted := t.counted, shdnLow := t.shdnLow }

/-- Self-test as a reset leaves it: lifecycle, OTP and the TAP stay; the debug session ends (R716) and the access is that of the lifecycle state (R719). -/
def Test.afterReset (t : Test) : Test :=
  { Test.reset with
    tap := t.tap, field := t.field, access := if t.field then .locked else .full, hashes := t.hashes
    baseFields := t.baseFields, serial := t.serial, boundary := t.boundary }

/-- The update state as a reset leaves it: what lies in flash stays. -/
def Update.afterReset (u : Update) : Update :=
  { Update.reset with
    slots := u.slots, banks := u.banks, found := u.found, programs := u.programs, running := u.running, hash0 := u.hash0 }

/-- A new reset or loss counts its own lost records (R94). -/
def clearLost (s : State) : State := { s with aocb := { s.aocb with cause := { s.aocb.cause with logLost := 0 } } }

/-- Every domain but AON and SUP is held in reset. `rails`: the regulator and the sequencer still run a power-down order. -/
def resetDomains (s : State) (rails : Bool) : State :=
  let s := loseQueue s
  { s with
    od := s.od.filter (fun e => keptAtReset rails e.1)
    live := s.live.filter (fun e => rails && keptAtReset true e.1)
    beat := Beat.reset
    store := { Store.reset with slots := s.store.slots, flashAbsent := s.store.flashAbsent }
    can := Can.reset
    link := Link.reset
    mem := Mem.reset
    sched := Sched.reset
    tabor := Tabor.reset
    sense := Sense.reset
    touch := if rails then { Touch.reset with buttons := s.touch.buttons } else Touch.reset
    reg := if rails then s.reg else Reg.reset
    seq := if rails then s.seq else Seq.reset
    pack := s.pack.afterReset
    thermal := s.thermal.afterReset
    update := s.update.afterReset
    test := s.test.afterReset
    clocks := { s.clocks with pllA := false, pllB := false, pllC := false, pllD := rails && s.clocks.pllD, pllsHeld := false } }

/-- A hard reset ends trust (R580): the condition is pending until the next start-up's exchange, or absent with no pack. -/
def packPending (s : State) : State := (s.set 0x4320 1 (if s.pack.removed then 0 else 3)).set 0x4320 2 0

/-! ### Start-up resumes (R91, R107) -/

/-- The watchdog is not armed (R92). -/
def disarm (s : State) : State := { s with power := { s.power with watchdog := Watchdog.reset } }

/-- Start-up goes on from a step: BOOTSTAT starts afresh but for SELF_SUPPLY_FAULT, and for OD_DEFAULTS, which stays until a start-up finds a valid slot (R190). -/
def resumeAt (s : State) (step : StartStep) (progress : Nat) : State :=
  { s with
    aocb := { s.aocb with pstate := .start, target := .start
                          boot := { BootStat.reset with selfSupplyFault := s.aocb.boot.selfSupplyFault, odDefaults := s.aocb.boot.odDefaults, progress := progress } }
    power := { s.power with step := step, attempts := 0, lbistSlot := 0, hardReset := false, emergWait := false, writesStopped := false, flashReset := false
                            interruption := false, holdMv := 7000, watchdog := Watchdog.reset }
    update := { s.update with restarting := false, loader := false } }

/-- Start-up goes on from the self-buck step: they start unless RESET_N is held low (R107). -/
def resumeSupply (s : State) : State :=
  let s := resumeAt s .supply 1
  { s with power := { s.power with selfBuck := if s.power.resetNLow then .stopped else .starting, uvlo := false } }

/-- Start-up goes on from the clocks step; RESET_N held low holds it at the self-buck step (R107). -/
def resumeClocks (s : State) : State :=
  if s.power.resetNLow then resumeAt s .supply 1 else resumeAt s .clocks 2

/-- The restart after a reset: clocks where the self-bucks still regulate, else self-bucks (R91). -/
def resumeStartup (s : State) : State :=
  if s.power.selfBuck = .regulating then resumeClocks s else resumeSupply s

/-- Start-up from time 0 of Table 3.3 on VIN: INSW turns on unless VIN is over-voltage. -/
def startFromVin (s : State) : State :=
  let s := (resetDomains s false).set 0x2010 4 0
  resumeSupply { s with power := { s.power with insw := !s.power.vinOv, batg := false, vinLost := false } }

/-! ### Hard resets (R91, R94, R543) -/

/-- A hard reset of a source (R91, R104). Before start-up has begun, and in OFF, it is recorded and starts nothing; in SHIP the SUP domain does not run. After the
third failed attempt of the self-bucks it is recorded and starts nothing either: R85 keeps the device from retrying until VAON is lost, and the model lets that
stand before the resumption of R91 (the model's choice, log entry 194). `same`: in the SUP clock of the source recorded last (R103). -/
def hardReset (s : State) (src : Source) (qual : Nat) (same : Bool) : State :=
  if !s.power.vaonValid || s.aocb.pstate = .ship then s
  else if s.inEmergency || s.power.hardReset || s.power.step = .idle || s.power.step = .supplyFailed then recordCause s src qual same
  else
    let s := clearLost (recordCause (linkIdle s) src qual same)
    let s := packPending (resetDomains (abandonStore s) true)
    let s := disarm { s with power := { s.power with hardReset := true } }
    startResetOrder s

/-! ### Interruption records (R26, R99) -/

/-- A loss has been measured, in µs, saturating: LOSSDUR holds it, and so does the record that waits for it. -/
def setLossDur (s : State) (us : Nat) : State :=
  let d := satNat 32 us
  { s with
    aocb := { s.aocb with lossDur := d }
    power := { s.power with pendingRecords := s.power.pendingRecords.map (fun r => (r.1, some (r.2.getD d))) } }

/-- A loss ends in a way whose record the next start-up writes. Each loss has its own record (R26); two that come before the log opens are both written, the
older first (log entry 195). -/
def lossEnds (s : State) (o : LossOutcome) : State :=
  { s with power := { s.power with pendingRecords := s.power.pendingRecords ++ [(o, none)] } }

/-- An INTERRUPTION record of LOSSDUR. -/
def logInterruption (s : State) (o : LossOutcome) : State := queueLog s 0x0110 (interruptionData s.aocb.lossDur o)

/-! ### The input collapse (R96) -/

/-- VIN is lost with no trusted pack (R96): writes stop, work is abandoned, the lanes idle, and the emergency order starts. What the flash does is stopped by its reset
sequence where it knows one; else it gets no further command. -/
def collapse (s : State) : State :=
  if s.inEmergency then s
  else
    let cut := Config.flashSoftReset && s.flashBusy
    let s := lossEnds (clearLost (abandonStore s)) .emergency
    let s : State := { s with
      power := { s.power with writesStopped := true, flashReset := cut, batg := false, insw := !s.power.vinOv
                              lossQual := if s.power.vinOv then 2 else 1 }
      log := { s.log with failures := 0 } }
    let s := s.set 0x2010 4 2
    startEmergency (chargerReview s)

/-- A hard reset's order or a restart's, cut short by a collapse, no longer ends in its own restart: the emergency order's end does. -/
def dropResetOrder (s : State) : State :=
  { s with power := { s.power with hardReset := false }, update := { s.update with restarting := false }
           pack := { s.pack with pressHold := false } }

/-- Start-up is abandoned (R90): the self-bucks stop, and it starts again from time 0 when VIN returns. -/
def abandonStartup (s : State) : State :=
  let s := lossEnds (disarm (resetDomains (clearLost s) false)) .startAbandoned
  let s := s.set 0x2010 4 3
  { s with
    power := { s.power with selfBuck := .stopped, step := .idle, insw := false, batg := false
                            hardReset := false }
    aocb := { s.aocb with pstate := .start, target := .start } }

/-- An exchange in progress is abandoned when VIN is lost, and runs again when it may (R597). -/
def abandonExchange (s : State) : State :=
  if s.pack.exchange = .idle then s
  else { s with pack := { s.pack with exchange := .idle, exchangeDue := true } }

/-- VIN is lost and a trusted pack carries VSYS (R24, R81, R101). -/
def ontoPack (s : State) : State :=
  let s : State := { s with power := { s.power with insw := false, batg := true, interruption := true } }
  chargerReview { (s.set 0x2010 4 1) with pack := { s.pack with vinSettled := false } }

/-- What VIN lost leads to in start-up (which lasts until its exchange has decided the pack, R90), operation or during a hard reset (R24, R96, R101). -/
def vinLostActs (s : State) (same : Bool) : State :=
  let s := abandonExchange s
  if s.trusted && !s.power.batgHeld && !s.power.hardReset then ontoPack s
  else if s.power.step ≠ .firmware && s.power.step ≠ .loader && !s.power.hardReset then abandonStartup s
  else if s.packCondition = 3 && s.get 0x4320 3 = 0 && !s.power.hardReset then abandonStartup s
  else collapse (dropResetOrder (if same then recordCause s .inputLoss (if s.power.vinOv then 2 else 1) true else s))

/-- VIN lost now would find no trusted pack and end in the emergency order (Table 3.2, R96). -/
def State.collapses (s : State) : Bool :=
  !(s.trusted && !s.power.batgHeld && !s.power.hardReset)
    && !(s.power.step ≠ .firmware && s.power.step ≠ .loader && !s.power.hardReset)
    && !(s.packCondition = 3 && s.get 0x4320 3 = 0 && !s.power.hardReset)

/-- VSYS on the pack has reached its cut-off, or the pack its end: VIN counts as lost without a trusted pack (R101, R577). -/
def packExhausted (s : State) : State :=
  if s.onPack then collapse (dropResetOrder s) else s

/-- The restart that ends an input loss (R97, R98). -/
def inputLossRestart (s : State) : State :=
  let q := s.power.lossQual
  let s := recordCause { s with power := { s.power with emergWait := false }
                                aocb := { s.aocb with pstate := .start } } .inputLoss q false
  let s := s.set 0x2010 4 0
  let s : State := { s with power := { s.power with insw := true, batg := false, vinLost := false } }
  resumeStartup s

/-- VIN has returned while the pack carried VSYS: VSYS goes back, and a ride-through is counted and recorded (R81, R99, R101). -/
def offPack (s : State) : State :=
  let rode := s.power.interruption
  let s : State := { s with power := { s.power with batg := false, insw := true, interruption := false }
                            seq := { s.seq with dwellUsed := false }, pack := { s.pack with vinSettled := false } }
  let s := s.set 0x2010 4 0
  chargerReview (if rode then logInterruption (s.count 0x4330 9) .onPack else s)

end Sys2Proof.Machine
end

