-- ==== Sys2Proof/Machine/Pack.lean ====
section
/-!
DEFINITION. The backup pack (R577 to R607): presses of the service button, SHIP, authentication, polling, and the life account with its write-back.
-/

namespace Sys2Proof.Machine

/-! ### Identity and life records (Tables 15.11, 15.12) -/

/-- The pack condition changes; before firmware runs nothing is raised by it. -/
def packBecomes (s : State) (c : Nat) : State := if s.up then setPackCondition s c else s.set 0x4320 1 c

/-- The key of the pack's slot as its 32 bytes; none where the slot holds none that can match. -/
def State.packKey (s : State) (slot : Nat) : Option (List Nat) :=
  match nth s.pack.keys slot .empty with
  | .key k => some (toLE 32 k)
  | _ => none

/-- Why an identity record fails step 1 of R588 (codes of 0x4320:03); 0 where it passes. -/
def identReason (s : State) (r : PackRead) : Nat :=
  match r with
  | .noAnswer => 3
  | .failed => 4
  | .bytes l =>
    if l.length ≠ 32 then 4
    else if crc32 (l.take 28) ≠ fromLE (l.drop 28) then 5
    else if nth l 0 0 ≠ 1 then 7
    else if !(nth s.pack.keys (nth l 1 0) .empty).programmed then 6
    else 0

/-- The fields of the account and where the life record holds them: sub-index of 0x4330, first byte, bytes. -/
def lifeFields : List (Nat × Nat × Nat) :=
  [(1, 0, 8), (2, 8, 8), (3, 16, 8), (4, 24, 8), (5, 32, 4), (7, 36, 4), (8, 40, 4), (9, 44, 4), (10, 48, 2), (11, 52, 4)]

/-- The life record with `writes` as its WRITES (Table 15.12). -/
def State.lifeRecord (s : State) (writes : Nat) : List Nat :=
  let g := fun sub n => toLE n (s.get 0x4330 sub)
  let body := g 1 8 ++ g 2 8 ++ g 3 8 ++ g 4 8 ++ g 5 4 ++ g 7 4 ++ g 8 4 ++ g 9 4 ++ g 10 2 ++ [0, 0] ++ toLE 4 writes ++ [0, 0, 0, 0]
  body ++ toLE 4 (crc32 body)

/-- A life record is valid for a serial (R593). -/
def lifeValid (l : List Nat) (serial : Nat) : Bool :=
  l.length == 64 && crc32 (l.take 60) == fromLE (l.drop 60) && fromLE (l.take 8) == serial

/-! ### The account (R592, R595) -/

/-- Days from 0000-03-01 to a date of the Gregorian calendar. -/
def civilDays (y m d : Nat) : Int :=
  let y' : Int := (y : Int) - (if m ≤ 2 then 1 else 0)
  let mp : Int := (m + 9) % 12
  365 * y' + y' / 4 - y' / 100 + y' / 400 + (153 * mp + 2) / 5 + (d : Int) - 1

/-- MFGDATE in days from 1984-01-01, the origin of TIME_OF_DAY. -/
def mfgDays (w : Nat) : Int := civilDays (1980 + w / 512) (w / 32 % 16) (w % 32) - civilDays 1984 1 1

/-- The pack's age in days (R595); 0xFFFF while the calendar has never been valid. -/
def State.packAge (s : State) : Nat :=
  if s.flag 0x4810 3 0 then clampNat 0 65535 ((bits (s.get 0x4810 2) 32 16 : Int) - mfgDays (s.ident 14 2)).toNat else s.get 0x4330 6

/-- End of life is judged (R595): the first of its flags since a start-up or insertion sends EMCY 0xFF94. -/
def judgeEol (s : State) : State :=
  if !s.trusted then s
  else
    let cyc := decide (s.ident 10 2 ≠ 0) && decide (s.get 0x4330 5 ≥ 100 * s.ident 10 2)
    let cal := decide (s.ident 12 2 ≠ 0) && decide (s.get 0x4330 6 ≠ 0xFFFF) && decide (s.get 0x4330 6 ≥ s.ident 12 2)
    let s := s.set 0x4320 5 (putBit (putBit (s.get 0x4320 5) 0 cyc) 1 cal)
    if (cyc || cal) && !s.pack.eolSent then
      emcyLog { s with pack := { s.pack with eolSent := true } } 0xFF94 (b2n cyc + 2 * b2n cal)
    else s

/-- Equivalent cycles from the charge out (R592); a reconciled count is never lowered. -/
def refreshCycles (s : State) : State :=
  let cap := s.ident 4 2
  if cap = 0 then s else s.set 0x4330 5 (max (s.get 0x4330 5) (satNat 32 (100 * s.get 0x4330 3 / (cap * 3600))))

/-- One telemetry output of the pack current, `ns` after the last (R592). -/
def lifeIntegrate (s : State) (ns : Nat) : State :=
  if !s.trusted || !s.pack.accounted then s
  else
    let i := s.getS 0x4301 6
    let q := i.natAbs * ns
    if i ≥ 0 then
      let a := s.pack.chgInFrac + q
      ({ s with pack := { s.pack with chgInFrac := a % 1000000000 } } : State).set 0x4330 2 (s.get 0x4330 2 + a / 1000000000)
    else
      let a := s.pack.chgOutFrac + q
      let e := s.pack.energyFrac + q * s.get 0x4301 5
      let s : State := { s with pack := { s.pack with chgOutFrac := a % 1000000000, energyFrac := e % 1000000000000 } }
      let s := (s.set 0x4330 3 (s.get 0x4330 3 + a / 1000000000)).set 0x4330 4 (s.get 0x4330 4 + e / 1000000000000)
      judgeEol (refreshCycles s)

/-- Time passes for the account, in half ns (R592). -/
def lifeTime (s : State) (half : Nat) : State :=
  if !s.trusted || !s.pack.accounted then s
  else
    let h := s.pack.hotFrac + (if decide (s.getS 0x4301 4 > 450) then half else 0)
    let p := s.pack.onPackFrac + (if s.onPack then half else 0)
    let s : State := { s with pack := { s.pack with hotFrac := h % 120000000000, onPackFrac := p % 2000000000 } }
    (s.countBy 0x4330 7 (h / 120000000000)).countBy 0x4330 8 (p / 2000000000)

/-- The account starts at 0 for a serial. -/
def blankAccount (s : State) (serial : Nat) : State :=
  ([2, 3, 4, 5, 7, 8, 9, 10, 11].foldl (fun t k => t.set 0x4330 k 0) s).set 0x4330 1 serial

/-- The fractions of the account start anew. -/
def clearFractions (s : State) : State :=
  { s with pack := { s.pack with accounted := true, chgInFrac := 0, chgOutFrac := 0, energyFrac := 0, hotFrac := 0, onPackFrac := 0 } }

/-- The account meets the pack's record (R593). -/
def reconcile (s : State) (life : PackRead) : State :=
  let serial := s.ident 16 8
  let have_ := s.pack.accounted && s.get 0x4330 1 == serial
  let rec_ := match life with
    | .bytes l => if lifeValid l serial then some l else none
    | _ => none
  let s := match rec_ with
    | some l =>
      let v := fun (a n : Nat) => fromLE ((l.drop a).take n)
      if have_ then lifeFields.foldl (fun (t : State) (f : Nat × Nat × Nat) => t.set 0x4330 f.1 (max (t.get 0x4330 f.1) (v f.2.1 f.2.2))) s
      else clearFractions (lifeFields.foldl (fun (t : State) (f : Nat × Nat × Nat) => t.set 0x4330 f.1 (v f.2.1 f.2.2)) s)
    | none =>
      if have_ then s else (clearFractions (blankAccount s serial)).setFlag 0x4320 5 2 true
  judgeEol (s.set 0x4330 6 s.packAge)

/-! ### Write-back (R594) -/

/-- A write-back is carried out: `written` says that the pack took LIFE_WRITE, `back` is the LIFE_READ that follows. -/
def lifeWriteBack (s : State) (written : Bool) (back : PackRead) : State :=
  let rec_ := s.lifeRecord (satNat 32 (s.get 0x4330 11 + 1))
  let key := (s.packKey (s.ident 1 1)).getD []
  let tag := (hmacSha256 key (rec_ ++ toLE 16 s.pack.lastChallenge)).take 16
  let s : State := { s with pack := { s.pack with writeDue := false, sent := rec_ ++ tag } }
  if written && back == PackRead.bytes rec_ then
    ({ s with pack := { s.pack with writeFails := 0 } } : State).count 0x4330 11
  else
    let n := s.pack.writeFails + 1
    let s := ({ s with pack := { s.pack with writeFails := n } } : State).count 0x4330 12
    if n = 3 then emcyLog s 0xFF96 0 else s

/-- A trigger of R594: a write-back waits for VIN and for an exchange (R602). -/
def writeBackDue (s : State) (written : Bool) (back : PackRead) : State :=
  if !s.trusted then s
  else if !s.onVin || s.power.vinLost || s.pack.exchange ≠ .idle || s.pack.exchangeDue then
    { s with pack := { s.pack with writeDue := true } }
  else lifeWriteBack s written back

/-! ### The exchange (R588 to R590) -/

/-- The exchange may run now. -/
def State.exchangeMay (s : State) : Bool := s.up && s.onVin && !s.power.vinLost

/-- A trigger of the exchange (R590). -/
def exchangeTrigger (s : State) : State := { s with pack := { s.pack with exchangeDue := true } }

/-- An exchange fails: with no voltage and no answer the pack is absent, else untrusted (R588, R606). -/
def exchangeFails (s : State) (reason : Nat) : State :=
  let s : State := { s with pack := { s.pack with exchange := .idle } }
  let s := (s.set 0x4320 3 reason).count 0x4320 4
  if reason = 3 && s.pack.removed then packBecomes s 0
  else
    let s := packBecomes s 1
    if s.pack.untrustedSent then s
    else emcyLog { s with pack := { s.pack with untrustedSent := true } } 0xFF90 reason

/-- An attempt fails: two more follow (R588). -/
def attemptFails (s : State) (attempt reason : Nat) : State :=
  if attempt < 3 then { s with pack := { s.pack with exchange := .between (attempt + 1) } } else exchangeFails s reason

/-- The attempt that begins now, where one does. -/
def State.attemptNow (s : State) : Option Nat :=
  if !s.exchangeMay then none
  else
    match s.pack.exchange with
    | .idle => if s.pack.exchangeDue then some 1 else none
    | .between k => some k
    | .waiting _ _ => none

/-- AUTHENTICATION_EXCHANGE: steps 1 and 2 of an attempt. -/
def actAuthenticationExchange (ident : PackRead) (written : Bool) (s : State) : State :=
  match s.attemptNow with
  | none => s
  | some k =>
    let s : State := { s with pack := { s.pack with exchangeDue := false } }
    let reason := identReason s ident
    let s := match ident with
      | .bytes l => if l.length = 32 && crc32 (l.take 28) = fromLE (l.drop 28) then s.set 0x4320 2 (fromLE l) else s
      | _ => s
    if reason ≠ 0 then (attemptFails s k reason)
    else
      let c := Config.random s.draws 16 % 2 ^ 128
      let s : State := { s.draw with pack := { s.draw.pack with sent := toLE 16 c } }
      (if written then { s with pack := { s.pack with exchange := .waiting k c } } else attemptFails s k 4)

/-- A pass: the pack is trusted and its account reconciled (R588, R593). -/
def exchangePasses (s : State) (challenge : Nat) (life : PackRead) : State :=
  let s : State := { s with pack := { s.pack with exchange := .idle, lastChallenge := challenge } }
  let s := reconcile (s.set 0x4320 3 1) life
  judgeEol (packBecomes s 2)

/-- AUTHENTICATION_RESPONSE: steps 3 and 4, and after a pass LIFE_READ and the write-back that waited (R602). -/
def actAuthenticationResponse (response life : PackRead) (written : Bool) (back : PackRead) (s : State) : State :=
  match s.pack.exchange with
  | .waiting k c =>
    if !s.exchangeMay then s
    else
      let reason := match response with
        | .noAnswer => 3
        | .failed => 4
        | .bytes l =>
          match s.packKey (s.ident 1 1) with
          | some key => if l = (hmacSha256 key (toLE 16 c ++ toLE 8 (s.ident 16 8))).take 16 then 0 else 2
          | none => 2
      if reason ≠ 0 then (attemptFails s k reason)
      else
        let s := exchangePasses s c life
        (if s.pack.writeDue then writeBackDue s written back else s)
  | _ => s

/-- RUN_EXCHANGE: pack command 1, refused while VSYS is on the pack (R590). -/
def actRunExchange (port : Port) (s : State) : State :=
  portCommand s port 0x4320 6 (fun s => if !s.onVin || s.power.vinLost then (s, .incompatible) else (exchangeTrigger s, .ok))

/-- EXCHANGE_PERIODIC: 24 h after the last exchange that passed. -/
def actExchangePeriodic (s : State) : State := (if s.trusted then exchangeTrigger s else s)

/-- WRITE_BACK_LIFE_RECORD: pack command 2. Without a trusted pack there is no key and no account to write, and the command is refused (log entry 47). -/
def actWriteBackLifeRecord (port : Port) (written : Bool) (back : PackRead) (s : State) : State :=
  portCommand s port 0x4320 6 (fun s => if !s.trusted then (s, .incompatible) else (writeBackDue s written back, .ok))

/-- LIFE_WRITE_BACK_HOURLY: every hour of device time. -/
def actLifeWriteBackHourly (written : Bool) (back : PackRead) (s : State) : State := (writeBackDue s written back)

/-- PACK_AGE_UPDATE: the age is updated once a day while the calendar is valid (R595). -/
def actPackAgeUpdate (s : State) : State :=
  (if s.trusted && s.flag 0x4810 3 0 then judgeEol (s.set 0x4330 6 s.packAge) else s)

/-! ### Polling (R591) -/

/-- The sub-indices of the polled values, in the order of their commands. -/
def pollSubs : List Nat := [9, 7, 8, 10, 11]

/-- The polled voltage differs from V by more than 5 %. -/
def State.pollDiffers (s : State) : Bool :=
  decide (20 * ((s.get 0x4320 7 : Int) - s.get 0x4301 5).natAbs > s.get 0x4301 5)

/-- A poll that completed: values, PORT_FAULT and the watch on the voltage. -/
def pollCompletes (s : State) (values : List Nat) : State :=
  let s := (pollSubs.zip values).foldl (fun t e => t.set 0x4320 e.1 (e.2 % 2 ^ (8 * sizeOf 0x4320 e.1))) s
  let s := ({ s with pack := { s.pack with pollFails := 0 } } : State).setFlag 0x4320 5 3 false
  if !s.pollDiffers then { s with pack := { s.pack with diffSec := 0, diffLogged := false } }
  else
    let n := s.pack.diffSec + 1
    let s : State := { s with pack := { s.pack with diffSec := n } }
    if decide (n > 60) && !s.pack.diffLogged then
      logStateChange { s with pack := { s.pack with diffLogged := true } } 0x4320 7 (s.get 0x4301 5) (s.get 0x4320 7)
    else s

/-- A poll in which a command kept failing: the third in a row sets PORT_FAULT and triggers the exchange. -/
def pollFails (s : State) : State :=
  let n := s.pack.pollFails + 1
  let s : State := { s with pack := { s.pack with pollFails := n } }
  if n = 3 then exchangeTrigger (logCondition (s.setFlag 0x4320 5 3 true) 0x4320 5 3 true 0) else s

/-- PACK_POLL: the five commands of each second, each with its outcome, and the SERIAL where it was read (R590, R591). -/
def actPackPoll (values : List (Option Nat)) (serial : Option Nat) (s : State) : State :=
  if !s.up || s.pack.exchange ≠ .idle then s
  else
    let s := (pollSubs.zip values).foldl (fun (t : State) e => match e.2 with
      | some v => t.set 0x4320 e.1 (v % 2 ^ (8 * sizeOf 0x4320 e.1))
      | none => t) s
    let s := if values.length = 5 && values.all Option.isSome then pollCompletes s (values.filterMap id) else pollFails s
    (match serial with
      | some n => if s.trusted && decide (n ≠ s.ident 16 8) then exchangeTrigger s else s
      | none => s)

/-! ### Removal and insertion (R578, R598) -/

/-- PACK_REMOVAL: VBAT has been below its threshold for 1 ms; `answers` tells whether the pack port still gives an answer. -/
def actPackRemoval (answers : Bool) (s : State) : State :=
  let was := s.trusted
  let s : State := { s with pack := { s.pack with removed := true, exchange := .idle, exchangeDue := answers, writeDue := false } }
  let s := if s.onPack then packExhausted s else s
  let s := packBecomes s (if answers then 1 else 0)
  (if was && s.up then emcyLog s 0xFF91 0 else s)

/-- PACK_INSERTION: VBAT has been above its threshold for 50 ms after a removal; the exchange is triggered, and a charger in FAULT returns to OFF. -/
def actPackInsertion (s : State) : State :=
  if !s.pack.removed then s
  else
    let s : State := { s with pack := { s.pack with removed := false, untrustedSent := false, mismatchSent := false, eolSent := false } }
    let s := (exchangeTrigger s).setFlag 0x4320 5 2 false
    (if s.chargePhase = 8 then
      setChargePhase (((s.setFlag 0x4301 2 5 false).setFlag 0x4301 2 6 false).setFlag 0x4301 2 7 false) 0
    else s)

/-- DISCHARGE_CUTOFF: the pack that carries VSYS has been at or below its cut-off for 100 µs, at `packMv` (R577). -/
def actDischargeCutoff (packMv : Nat) (s : State) : State :=
  if s.onPack && decide (packMv ≤ s.cutoffMv) then
    let s := (s.count 0x4310 2).set 0x4330 10 (satNat 16 (s.get 0x4330 10 + 1))
    (packExhausted s)
  else s

/-! ### The charge cycle's end -/

/-- DONE is entered, with its write-back (R571, R594). -/
def chargeDone (s : State) (written : Bool) (back : PackRead) : State := writeBackDue (setChargePhase s 7) written back

/-- TERMINATION_TIMEOUT: the current has been at or below 5 % of ICC for 30 s in CV. -/
def actTerminationTimeout (written : Bool) (back : PackRead) (s : State) : State :=
  (if s.chargePhase ≠ 5 || decide (20 * s.getS 0x4301 6 > s.get 0x4300 5) then s else if s.get 0x4300 7 = 0 then chargeDone s written back else setChargePhase s 6)

/-- TOPOFF_EXPIRY: the top-off time has elapsed. -/
def actTopoffExpiry (written : Bool) (back : PackRead) (s : State) : State :=
  (if s.chargePhase = 6 then chargeDone s written back else s)

/-- CHARGER_CONFIGURATION_WRITE: a write to 0x4300:01 to :0B (R576). -/
def actChargerConfigurationWrite (port : Port) (sub value : Nat) (s : State) : State :=
  portCommand s port 0x4300 sub (fun s => if !rowOk 0x4300 sub value then (s, .range) else writeCharger s sub value)

/-! ### The service button (R579 to R582) -/

/-- SHORT_PRESS: in OFF it starts the device if VIN is returned or a trusted pack is present; elsewhere it raises event 500. -/
def actShortPress (s : State) : State :=
  if !s.power.vaonValid || s.aocb.pstate = .ship then s
  else if s.aocb.pstate = .off then
    if !s.power.vinLost then (startFromVin (s.count 0x4340 1))
    else if s.trusted && !s.power.batgHeld then
      let s := (resetDomains (s.count 0x4340 1) false).set 0x2010 4 1
      (resumeSupply { s with power := { s.power with batg := true, insw := false } })
    else (s.count 0x4340 5)
  else (raise (s.count 0x4340 1) 500)

/-- SERVICE_REQUEST: a press of 2 s to 12 s. -/
def actServiceRequest (s : State) : State :=
  if !s.power.vaonValid || s.aocb.pstate = .ship then s
  else
    let s := raise (s.count 0x4340 2) 501
    (if s.up && s.get 0x4200 9 ≠ 0 then powerRequest s .service false else s)

/-- LONG_PRESS: a hard reset; once its order has ended BATG is held off for 1.0 s. -/
def actLongPress (same : Bool) (s : State) : State :=
  if !s.power.vaonValid || s.aocb.pstate = .ship then s
  else
    let running := s.power.hardReset && !same
    let s := hardReset (s.count 0x4340 3) .longPress 0 same
    (if s.power.hardReset && !running then { s with pack := { s.pack with pressHold := true } } else s)

/-- LONG_PRESS_HOLD_EXPIRY: the hold ends; start-up resumes if VIN is returned, else the device waits in OFF. -/
def actLongPressHoldExpiry (s : State) : State :=
  if !s.power.batgHeld then s
  else
    let s : State := { s with power := { s.power with batgHeld := false }, pack := { s.pack with pressHold := false } }
    (if !s.power.vinLost then resumeStartup s
      else { s with aocb := { s.aocb with pstate := .off, target := .off }
                    power := { s.power with step := .idle, selfBuck := .stopped, hardReset := false, armedRise := true } })

/-- PRESS_IGNORED: a press below 50 ms. The detector runs from VAON valid (R607). -/
def actPressIgnored (s : State) : State := (if s.power.vaonValid then s.count 0x4340 5 else s)

/-! ### OFF and SHIP (R534, R583, R584) -/

/-- The comparator starts the device on a rise of VIN only after it has seen VIN fall. -/
def State.armAtEntry (s : State) : Bool := s.power.vinLost && !s.power.vinOv

/-- The self-bucks have stopped and the device rests in OFF or SHIP. -/
def restIn (s : State) (p : PState) : State :=
  let s := disarm (resetDomains (clearLost (setPState s p)) false)
  { s with
    aocb := { s.aocb with target := p }
    power := { s.power with selfBuck := .stopped, step := .idle, batg := false, insw := s.power.insw && p == .off, armedRise := s.armAtEntry
                            hardReset := false, interruption := false } }

/-- OFF_ENTRY: KEEPALIVE has been reached on the way to OFF (R534). -/
def actOffEntry (s : State) : State :=
  if s.seq.after = some .off && s.seq.run.isNone && s.aocb.pstate = .keepalive then (restIn s .off) else s

/-- SHIP_ENTRY: KEEPALIVE has been reached on the way to SHIP: the life record is written back, then SHIP is entered and trust ends (R583). -/
def actShipEntry (written : Bool) (back : PackRead) (s : State) : State :=
  if s.seq.after = some .ship && s.seq.run.isNone && s.aocb.pstate = .keepalive then
    let s := if s.trusted && s.onVin && !s.power.vinLost then lifeWriteBack s written back else s
    (packPending (restIn s .ship))
  else s

/-- Leaving SHIP, the critical-temperature comparator starts asserted again (R617). -/
def restartTcrit (s : State) : State :=
  { s with thermal := { s.thermal with shdnLow := true, measured := false, counted := false, overRun := 0 } }

/-- SHIP_EXIT_VIN: VIN rises above its valid threshold in SHIP (R584). -/
def actShipExitVin (s : State) : State :=
  if s.aocb.pstate = .ship && s.power.armedRise then
    (startFromVin (restartTcrit { s with power := { s.power with vinValid := true, armedRise := false } }))
  else s

/-- SHIP_EXIT_PRESS: a press of 500 ms in SHIP leaves it for OFF (R584). -/
def actShipExitPress (s : State) : State :=
  if s.aocb.pstate = .ship then
    { restartTcrit (s.count 0x4340 4) with aocb := { s.aocb with pstate := .off, target := .off } }
  else s

/-- VIN_VALID_FALL: in OFF or SHIP VIN falls below its falling valid threshold, which arms the next rise (R584). -/
def actVinValidFall (s : State) : State :=
  { s with power := { s.power with vinValid := false,
                                         armedRise := s.power.armedRise || s.aocb.pstate == .off || s.aocb.pstate == .ship } }

end Sys2Proof.Machine
end

