-- ==== Sys2Proof/Machine/Programs.lean ====
section
/-!
DEFINITION. User extension programs (R360 to R364): the check and loading of an image, its MPU bank, the four commands, and how firmware enters a handler.
-/

namespace Sys2Proof.Machine

/-! ### The image (Table 9.7) -/

/-- The content bytes of a verified image: blocks 1 to NBLOCKS − 2, as many as CONTENT names. -/
def Bank.content (b : Bank) : List Nat :=
  match b.block 0 with
  | none => []
  | some h =>
    let n := blockField h 20 4
    (((List.range (n - 2)).map (fun k => ((b.block (k + 1)).getD []).take 4092)).flatten).take (blockField h 24 4)

/-- A program image's header and tables. -/
structure ProgImage where
  code : List Nat
  data : List Nat
  bss : Nat
  spill : Nat
  init : Nat
  handlers : List Nat
  bindings : List (Nat × Nat × Bool × Bool)
  shared : List Nat
deriving DecidableEq, Repr

/-- The tables follow the header; code and initialised data follow the tables (log entry 53). Nothing where a field lies out of range. -/
def parseProgram (l : List Nat) : Option ProgImage :=
  let codeSize := blockField l 4 4
  let dataSize := blockField l 8 4
  let spill := blockField l 16 4
  let nh := nth l 20 0
  let nb := nth l 21 0
  let ns := nth l 22 0
  let init := blockField l 24 4
  let at_ := 64 + 4 * nh + 8 * nb + 8 * ns
  let handlers := (List.range nh).map (fun k => blockField l (64 + 4 * k) 4)
  let offsetOk := fun (o : Nat) => o % 4 == 0 && decide (o < codeSize)
  if blockField l 0 4 ≠ 0x54415550 || codeSize % 4 ≠ 0 || codeSize < 4 || codeSize > 262144 || spill % 64 ≠ 0 || spill < 448
      || nh < 1 || nh > 64 || nb > 16 || ns > 5 || !offsetOk init || !handlers.all offsetOk
      || l.length < at_ + codeSize + dataSize then none
  else
    some {
      code := (l.drop at_).take codeSize
      data := (l.drop (at_ + codeSize)).take dataSize
      bss := blockField l 12 4
      spill := spill
      init := init
      handlers := handlers
      bindings := (List.range nb).map (fun k =>
        let w := blockField l (64 + 4 * nh + 8 * k) 8
        (bits w 48 16, bits w 32 16, bit w 1, bit w 0))
      shared := (List.range ns).map (fun k => blockField l (64 + 4 * nh + 8 * nb + 8 * k) 8) }

/-- Pages that a number of bytes takes. -/
def pagesOf (n : Nat) : Nat := (n + 4095) / 4096

/-- A binding list covers an index with the rights needed (R361). -/
def bindingCovers (l : List (Nat × Nat × Bool × Bool)) (i : Nat) (r w : Bool) : Bool :=
  l.any (fun b => decide (b.1 ≤ i) && decide (i ≤ b.2.1) && (!w || b.2.2.1) && (!r || b.2.2.2))

/-- A shared region is granted: it lies in the area of one ring that is open, or whose index a binding covers with the rights it asks (R360; log entry
54). -/
def State.sharedOk (s : State) (b : List (Nat × Nat × Bool × Bool)) (w : Nat) : Bool :=
  let base := bits w 32 32
  let len := 64 * bits w 8 24
  let n := (base - 0x0E000000) / 0x20000
  decide (0x0E000000 ≤ base) && decide (base + len ≤ 0x0E000000 + (n + 1) * 0x20000) && decide (n < 256) && decide (0 < len) && base % 64 == 0
    && ((s.sched.ring n).isOpen || bindingCovers b (0x2400 + n) (bit w 0) (bit w 1))

/-- The four words of an MPU region (Table 10.6). -/
def mpuRegionWords (base len rights : Nat) : List Word :=
  [BitVec.ofNat 32 (base / 64 * 64), BitVec.ofNat 32 ((base + len - 1) / 64 * 64), BitVec.ofNat 32 (0x80000000 + rights), 0#32]

/-- A region not in use. -/
def mpuNoRegion : List Word := [0#32, 0#32, 0#32, 0#32]

/-- The arena frames that no program holds. -/
def State.freeArena (s : State) : List Nat :=
  let held := s.tabor.programs.flatMap (fun x => match x with
    | some q => q.frames
    | none => [])
  ((List.range s.tabor.arenaCount).map (s.tabor.arenaFirst + ·)).filter (fun f => !held.contains f && !s.mem.retired.contains f)

/-- The code bytes of all loaded programs. -/
def State.codeLoaded (s : State) : Nat := ((List.range 4).map (fun k => s.get (progObj (k + 1)) 6)).sum

/-- The PTE of a pinned page. -/
def pinnedPte (frame flags : Nat) : Nat := (1 <<< 62) + (frame <<< 12) + flags

/-- Pages of memory filled from bytes, zero beyond them, and mapped as pinned pages from a page on. -/
def mapPages (s : State) (page flags : Nat) (bytes : List Nat) : List Nat → State
  | [] => s
  | f :: fs =>
    let here := (bytes ++ List.replicate 4096 0).take 4096
    let s : State := { s with mem := (s.mem.store (f * 4096) here).dropPage page }
    mapPages (s.updatePte page (fun _ => pinnedPte f flags)) (page + 1) flags (bytes.drop 4096) fs

/-- A verified image is loaded (R360), at the pages firmware chooses (log entry 36). Where the page tables have no entries for them, as before firmware has built
any, it is refused as the other loads that cannot be made are (log entry 226). -/
def loadImage (s : State) (p : Nat) (im : ProgImage) : State × Status :=
  let nc := pagesOf im.code.length
  let nd := pagesOf (im.data.length + im.bss)
  let ns := pagesOf im.spill
  let page := Config.programPage p % 0xC000
  if s.codeLoaded + im.code.length > 262144 || s.freeArena.length < nc + nd + ns || !im.shared.all (s.sharedOk im.bindings)
      || !(List.range (nc + nd + ns)).all (fun k => (s.pteAddr (page + k)).isSome) then
    (s, .incompatible)
  else
    let fs := s.freeArena.take (nc + nd + ns)
    let s := mapPages s page 5 im.code (fs.take nc)
    let s := mapPages s (page + nc) 9 im.data ((fs.drop nc).take nd)
    let s := mapPages s (page + nc + nd) 9 [] (fs.drop (nc + nd))
    let dataLen := im.data.length + im.bss
    let spillBase := 4096 * (page + nc + nd)
    let regions := mpuRegionWords (4096 * page) im.code.length 5
      ++ (if dataLen = 0 then mpuNoRegion else mpuRegionWords (4096 * (page + nc)) dataLen 3)
      ++ mpuRegionWords spillBase im.spill 3
      ++ (im.shared.map (fun w => mpuRegionWords (bits w 32 32) (64 * bits w 8 24) (bits w 0 2))).flatten
    let x : Prog := {
      nHandlers := im.handlers.length
      init := im.init
      bindings := im.bindings
      handlers := im.handlers
      frames := fs
      base := 4096 * page
      spillTop := spillBase + im.spill
      mpu := (regions ++ List.replicate 32 0#32).take 32
      abandonedRun := 0
      shareSpent := false
      pendingCmd := 0 }
    (((s.setProg p (some x)).set (progObj p) 2 1).set (progObj p) 6 im.code.length, .ok)

/-- Load (R364, R376, R687): the slot is verified first, and its error shows in 0x1F57. -/
def programLoad (s : State) (p : Nat) (unreadable : List Nat) : State × Status :=
  if s.progState p ≠ 0 then (s, .incompatible)
  else
    let b := s.targetBank (p + 1)
    let e := verifyBlocks s (p + 1) b unreadable
    if e ≠ 0 then (setTarget s (p + 1) { s.target (p + 1) with error := e }, .incompatible)
    else
      match parseProgram b.content with
      | none => (s, .incompatible)
      | some im => loadImage s p im

/-! ### Entering user mode (R358, R364) -/

/-- The core can be given a user activation: it runs or waits, in system mode outside exception level, with no handler of a user program under way. -/
def State.coreFree (s : State) : Bool :=
  (s.tabor.run == .running || s.tabor.run == .waiting) && !s.tabor.held && s.tabor.blocked.isNone && s.core.lock.isNone
    && !s.core.mst.exl && !s.core.mst.um && s.tabor.handler.isNone

/-- Firmware enters a program's code in user mode: PROG set, EE clear, the record in I0 to I3, its MPU bank and spill stack in force (R358, R360). -/
def userEntry (s : State) (p addr : Nat) (isInit : Bool) (record : List Nat) : State :=
  match s.prog p with
  | none => s
  | some x =>
    let c := s.core
    let c := { c with
      mst := { c.mst with um := true, exl := false, ee := false, prog := p, mpuen := true }
      winb := { c.winb with owner := setBit c.winb.owner c.winb.slot }
      mpu := x.mpu
      wspUser := BitVec.ofNat 32 x.spillTop
      pc := BitVec.ofNat 32 addr }
    let c := (List.range 4).foldl (fun (c : Core) k => c.setReg (24 + k) (BitVec.ofNat 32 (fromLE ((record.drop (4 * k)).take 4)))) c
    { s.setCore c with tabor := { s.tabor with core := c, handler := some (p, isInit), run := .running, inString := false } }

/-- INIT of a program whose start waits is entered, once the core can be given it (R364). -/
def beginInit (s : State) (p : Nat) : State :=
  match s.prog p with
  | none => s
  | some x =>
    if x.pendingCmd ≠ 3 || !s.coreFree then s
    else
      match windowForward (s.setCore s.core.settle) true with
      | (s, .ok) =>
        let c := s.core
        let s := s.setCore { c with epc := c.pc, mst := { c.mst with pum := c.mst.um, pee := c.mst.ee } }
        userEntry (s.setProg p (some { x with pendingCmd := 0 })) p (x.base + x.init) true []
      | (s, .waits) => s
      | (s, .fault) => faultProgram (s.setProg p (some { x with pendingCmd := 0 })) p (ecauseOf 0x09 1 false false false) s.core.pc.toNat

/-- The INITs that wait, in ascending number. -/
def beginInits (s : State) : State := (List.range 4).foldl (fun t k => beginInit t (k + 1)) s

/-! ### The commands of Table 9.9 (R364) -/

/-- A handler of the program runs. -/
def State.handlerRuns (s : State) (p : Nat) : Bool := match s.tabor.handler with
  | some (q, _) => q == p
  | none => false

/-- Start. A program whose INIT runs is being started already. -/
def programStart (s : State) (p : Nat) : State × Status :=
  match s.prog p with
  | none => (s, .incompatible)
  | some x =>
    if (s.progState p = 1 || s.progState p = 3) && !s.handlerRuns p then
      (beginInit (s.setProg p (some { x with pendingCmd := 3, abandonedRun := 0 })) p, .ok)
    else (s, .incompatible)

/-- Stop. An unload that waits for the handler's end stops the program too. -/
def programHalt (s : State) (p : Nat) : State × Status :=
  match s.prog p with
  | none => (s, .incompatible)
  | some x =>
    if s.progState p = 2 || s.progState p = 4 then
      if s.handlerRuns p then (s.setProg p (some { x with pendingCmd := max 1 x.pendingCmd }), .ok) else (s.set (progObj p) 2 3, .ok)
    else (s, .incompatible)

/-- Unload. -/
def programUnload (s : State) (p : Nat) : State × Status :=
  match s.prog p with
  | none => (s, .incompatible)
  | some x => if s.handlerRuns p then (s.setProg p (some { x with pendingCmd := 2 }), .ok) else (unloadProgram s p, .ok)

/-- A command written to 0x2810 + p − 1:01; other values are refused by R11. -/
def programCommand (s : State) (p v : Nat) : State × Status :=
  if v = 1 then programLoad s p []
  else if v = 2 then programStart s p
  else if v = 3 then programHalt s p
  else if v = 4 then programUnload s p
  else (s, .range)

/-- The named programs are loaded and started in ascending number; one that cannot load stays EMPTY and is logged (R377). -/
def startPrograms (s : State) (which : State → Nat → Bool) : State :=
  (List.range 4).foldl (fun t k =>
    if which t (k + 1) then
      match programLoad t (k + 1) [] with
      | (t, .ok) => (programStart t (k + 1)).1
      | (t, st) => logCondition t (progObj (k + 1)) 3 0 true st.code
    else t) s

/-- Programs with autostart are loaded and started (R377). -/
def autoStart (s : State) : State := startPrograms s (fun t p => t.get (progObj p) 3 == 1)

/-- A user activation is abandoned: counted, and the eighth in a row sends the program to FAULTED (R362). -/
def abandonActivation (s : State) (p : Nat) : State :=
  let s := (handlerEnds s false).count (progObj p) 7
  match s.prog p with
  | none => s
  | some x =>
    let s := s.setProg p (some { x with abandonedRun := x.abandonedRun + 1 })
    if x.abandonedRun + 1 ≥ 8 then faultProgram s p s.core.ecause.toNat s.core.epc.toNat else s

/-- The program was started, and has not stopped. -/
def State.progStarted (s : State) (p : Nat) : Bool :=
  s.progState p == 2 || (match s.prog p with
    | some x => x.pendingCmd == 3
    | none => false) || (s.handlerRuns p && s.progState p == 1)

/-- The user handler under way is abandoned at once (R373): the core leaves user mode now, or when firmware returns to it from an exception that it serves. -/
def abandonHandler (s : State) : State :=
  let was := s.tabor.handler.isSome
  let s : State := { s with tabor := { s.tabor with handler := none, budgetDue := false } }
  if s.tabor.run = .stopped then s
  else if s.core.mst.um then leaveUser s
  else if was then { s with tabor := { s.tabor with core := { s.core with mst := { s.core.mst with prog := 0 } }, endDue := true } }
  else s

/-- An NMT reset application abandons the handler at once; programs are stopped and unloaded, and those that had been started, or have autostart, start again from
their stored images (R373, Table 3.6). -/
def restartPrograms (s : State) : State :=
  let started := (List.range 4).filter (fun k => s.progStarted (k + 1))
  let s := abandonHandler s
  let s := (List.range 4).foldl (fun t k => if (t.prog (k + 1)).isSome then unloadProgram t (k + 1) else t) s
  startPrograms s (fun t p => t.get (progObj p) 3 == 1 || started.contains (p - 1))

/-- The arena is taken at start-up (R364): it must lie in the pinned region, or it has no frames and a record is written. -/
def takeArena (s : State) : State :=
  let first := s.get 0x2801 1
  let n := s.get 0x2801 2
  let ok := ((List.range n).map (first + ·)).all (fun f => s.mem.pinned f)
  let s : State := { s with tabor := { s.tabor with arenaFirst := first, arenaCount := if ok then n else 0 } }
  if ok then s else logCondition s 0x2801 2 0 true n

end Sys2Proof.Machine
end

