-- ==== Sys2Proof/Machine/CanLines.lean ====
section
/-!
DEFINITION. The two CAN lines as every chapter meets them (R201, R202): the state of a line, the switch-over of STANDBY, and in-service self-test of a line's
controller (R704, R705).
-/

namespace Sys2Proof.Machine

/-- The segment that runs is abandoned: counted in 0x2102:06, and run again in the next granted slot (R705). -/
def abandonSegment (s : State) : State :=
  if !s.test.segRuns then s else ({ s with test := { s.test with segRuns := false } } : State).count 0x2102 6

/-- Frames that wait move to a line (R202). -/
def moveFrames (q : List TxFrame) (l : Line) : List TxFrame :=
  q.map (fun f => { f with lineA := l == .A, lineB := l == .B })

/-- The switch-over of STANDBY (R202): the active line is faulty or out of use, and the other is not. -/
def lineSwitch (s : State) : State :=
  let a := s.activeLine
  let o := a.other
  if s.can.started && s.inForce 0x2020 3 = 2 && (s.lineFaulty a || !s.lineInUse a) && s.lineInUse o && !s.lineFaulty o then
    let s := if s.lineUnderTest o then abandonSegment s else s
    let s := (s.set 0x2025 1 o.code).count 0x2025 3
    emcyLog { s with can := { s.can with txq := moveFrames s.can.txq o } } 0xFF30 o.code
  else s

/-- A line's state changes; the error register, the active line and the EMCYs that wait follow. -/
def setLine (s : State) (l : Line) (v : Nat) : State :=
  emcyDrainAll 17 (refreshErrors (lineSwitch (s.set l.index 1 v)))

end Sys2Proof.Machine
end

