-- ==== Sys2Proof/Machine/SelfTest.lean ====
section
/-!
DEFINITION. Self-test and debug access (chapter 19) but for the debug access port: in-service logic BIST, what a failed slice takes out of service, line tests,
JTAG instructions, lifecycle, unlock and the OTP slots.
-/

namespace Sys2Proof.Machine

/-! ### Failed slices (R707 to R709, Table 19.3) -/

/-- Touch is out of service (slices 0 to 4). -/
def State.touchDegraded (s : State) : Bool := decide (s.test.degraded % 32 ≠ 0)

/-- A phase belongs to a failed slice 19 or 20. -/
def State.phaseFailed (s : State) (p : Nat) : Bool := bit s.test.degraded (if p < 8 then 19 else 20)

/-- The rails that contain a failed phase are latched with cause 0 and stay so (Table 19.3). -/
def latchFailedRails (s : State) : State :=
  (List.range 16).foldl (fun t n =>
    if (t.phaseList n).any t.phaseFailed then
      (t.setSup n { t.sup n with latched := true, lbist := true }).set (supObj n) 17 0
    else if (t.sup n).lbist then t.setSup n { t.sup n with lbist := false } else t) s

/-- A failed slice is reported (R708): EMCY 0xFFD0 at start-up or 0xFFD1 in service with its record, event 509 and vector 271. -/
def reportSlice (s : State) (slice : Nat) (inService : Bool) : State :=
  raiseEv (emcyLog (refreshErrors s) (if inService then 0xFFD1 else 0xFFD0) slice) 509 271

/-- The consequences of Table 19.3 begin for slices that failed: at firmware start, and at the next downbeat in service. -/
def takeDegraded (s : State) : State :=
  let new := s.test.degradeNext
  if new = 0 then s
  else
    let s : State := { s with test := { s.test with degraded := s.test.degraded ||| new, degradeNext := 0 } }
    let s := if bit new 5 then setLine s .A 0 else s
    let s := if bit new 6 then setLine s .B 0 else s
    latchFailedRails s

/-! ### In-service cycles (R701 to R706) -/

/-- The result of a slice (0x4A01). -/
def setSliceResult (s : State) (slice r : Nat) : State := s.set 0x4A01 (slice + 1) (r <<< 30)

/-- 0x4A00:09's slice and segment follow. -/
def showProgress (s : State) : State :=
  let w := match s.test.current with
    | some t => (t.slice <<< 24) + (t.segment <<< 16)
    | none => 0xFF <<< 24
  s.set 0x4A00 9 (w + s.get 0x4A00 9 % 65536)

/-- A line that may be quiesced (Table 19.2): DISABLED by the redundancy mode, or not active in STANDBY. -/
def State.lineQuiet (s : State) (l : Line) : Bool :=
  !s.lineInUse l || (s.inForce 0x2020 3 == 2 && s.activeLine != l)

/-- A slice's quiescing condition holds (Table 19.2, R409). -/
def State.sliceEligible (s : State) (slice : Nat) : Bool :=
  if slice ≤ 3 then s.touchState && !s.touchDegraded && s.test.lineTest != some .electrode
  else if slice = 4 then
    s.touchState && !s.touchDegraded && s.test.lineTest != some .electrode && s.sense.out.isSome && s.sense.power == .ready
      && !s.flag 0x3000 10 0 && !s.flag 0x3000 10 1
  else if slice = 5 then s.lineQuiet .A
  else slice == 6 && s.lineQuiet .B

/-- QUIET begins: the slices that are eligible in this frame (R701). -/
def markEligible (s : State) : State :=
  { s with test := { s.test with eligible := ((List.range 7).map (fun k => b2n (s.sliceEligible k) <<< k)).sum } }

/-- A slice may run a segment: eligible when QUIET began, and its condition has not ceased since (R701, R724, R726; log entry 183). -/
def State.slotEligible (s : State) (slice : Nat) : Bool := bit s.test.eligible slice && s.sliceEligible slice

/-- Slices whose turn comes while they are not eligible are passed over and counted (R703). -/
def passOver (s : State) : List Nat → State
  | [] => { s with test := { s.test with todo := [] } }
  | k :: rest =>
    if s.slotEligible k then { s with test := { s.test with todo := rest, current := some ⟨k, 0, false⟩ } }
    else passOver ((setSliceResult s k 3).count 0x4A00 7) rest

/-- Nothing is left to test: a pass counts where every tested slice passed (R703, R732). -/
def cycleFinished (s : State) : State :=
  if s.test.cycleRuns && s.test.current.isNone && s.test.todo.isEmpty then
    let s := if s.test.cycleTested && !s.test.cycleFailed then s.count 0x4A00 5 else s
    let s := s.set 0x4A00 9 ((0xFF <<< 24) + satNat 16 s.test.cycleFrames)
    { s with test := { s.test with cycleRuns := false } }
  else s

/-- A cycle begins: the enabled slices are to be tested in ascending order (R703, R729). -/
def beginTestCycle (s : State) : State :=
  cycleFinished { s with test := { s.test with
    cycleRuns := true, cycleDue := false, todo := setBits 7 (s.get 0x4A00 1), current := none, cycleFailed := false, cycleTested := false
    cycleFrames := 0 } }

/-- The cycle ends when nothing is left to test; where its period has elapsed meanwhile the next begins at once (R703). -/
def cycleEnds (s : State) : State :=
  let s := cycleFinished s
  if !s.test.cycleRuns && s.test.cycleDue then beginTestCycle s else s

/-- INSERVICE_CYCLE_START (R703): the cycle period has elapsed since the previous cycle began; a cycle still running goes on first. -/
def actInserviceCycleStart (s : State) : State :=
  (if !s.up then s
    else if s.test.cycleRuns then { s with test := { s.test with cycleDue := true } }
    else beginTestCycle s)

/-- QUIET lasts more than the 160 µs that a segment and its margin take (R702); lengths in half nanoseconds. -/
def State.quietHolds (s : State) : Bool := decide (320000 * 1000 < s.get 0x2100 9 * s.beat.lenHalf)

/-- A segment's slot (R701, R702): at most one in a frame, and only with 160 µs left before the downbeat. -/
def segmentSlot (s : State) (usLeft : Nat) : State :=
  let s := if s.test.current.isNone then passOver s s.test.todo else s
  match s.test.current with
  | none => cycleEnds s
  | some t =>
    if !s.slotEligible t.slice then s
    else if usLeft < 160 || !s.quietHolds then
      let s := s.count 0x4A00 7
      { s with test := { s.test with granted := true } }
    else
      let s : State := { s with test := { s.test with granted := true, segRuns := true }
                                sense := { s.sense with tested := s.sense.tested || t.slice == 4 } }
      showProgress s

/-- INSERVICE_SEGMENT (R701, R702): at a slice's idle point in QUIET. -/
def actInserviceSegment (usLeft : Nat) (s : State) : State :=
  (if s.up && s.test.cycleRuns && !s.test.segRuns && !s.test.granted && s.beat.phase == .quiet && !s.test.tap.drives
      && s.clocks.pllB then
    segmentSlot s usLeft
  else s)

/-- A slice's seventh segment has ended and its signature is judged (R706). -/
def judgeSlice (s : State) (t : SliceTest) (good : Bool) : State :=
  let done (s : State) : State := showProgress { s with test := { s.test with current := none, cycleTested := true } }
  if good then cycleEnds (done (setSliceResult s t.slice 1))
  else
    let s := s.count 0x4A00 6
    if !t.retest then showProgress { s with test := { s.test with current := some ⟨t.slice, 0, true⟩ } }
    else
      let s := setSliceResult (s.setFlag 0x4A00 4 t.slice true) t.slice 2
      let s : State := { s with test := { s.test with cycleFailed := true, degradeNext := setBit s.test.degradeNext t.slice } }
      cycleEnds (done (reportSlice s t.slice true))

/-- SEGMENT_COMPLETE (R706). -/
def actSegmentComplete (good : Bool) (s : State) : State :=
  match s.test.current with
  | some t =>
    if !s.test.segRuns then s
    else
      let s : State := { s with test := { s.test with segRuns := false } }
      if t.segment < 6 then (showProgress { s with test := { s.test with current := some { t with segment := t.segment + 1 } } })
      else (judgeSlice s t good)
  | none => s

/-- The downbeat's part: the frame's grant is free again, and the cycle's frames count. -/
def testDownbeat (s : State) : State :=
  takeDegraded { s with test := { s.test with
    granted := false, cycleFrames := if s.test.cycleRuns then s.test.cycleFrames + 1 else s.test.cycleFrames } }

/-! ### Line tests (R714) -/

/-- The result bytes of a test's lines (0x4A10:03): the first, and how many. -/
def LineTest.bytes : LineTest → Nat × Nat
  | .electrode => (0, 218) | .pwm => (218, 16) | .tacho => (234, 4)

/-- The command of a test. -/
def LineTest.code : LineTest → Nat
  | .electrode => 1 | .pwm => 2 | .tacho => 3

/-- The condition of a test (Table 19.8). -/
def State.lineTestMay (s : State) (t : LineTest) : Bool :=
  match t with
  | .electrode =>
    s.aocb.pstate == .service && s.aocb.target == .service && s.seq.run.isNone && s.get 0x3241 1 == 0 && !s.flag 0x3202 6 5
  | .pwm =>
    s.aocb.pstate == .keepalive && s.onVin
      && (List.range 16).all (fun n => !(s.rail n).enabled && decide (s.get (railObj n) 14 < 50))
  | .tacho => s.level.isSome && (List.range 4).any (fun c => decide (s.get (fanObj c) 1 ≠ 0))

/-- The result bytes. -/
def State.lineResults (s : State) : List Nat := toLE 238 (s.get 0x4A10 3)

/-- A test starts: the bytes of its own lines clear. -/
def startLineTest (s : State) (t : LineTest) : State × Status :=
  if s.test.lineTest.isSome then (s, .busy)
  else if !s.lineTestMay t then (s, .incompatible)
  else
    let l := s.lineResults
    let (a, n) := t.bytes
    let l := l.take a ++ List.replicate n 0 ++ l.drop (a + n)
    let s := (s.set 0x4A10 3 (fromLE l)).set 0x4A10 2 1
    ({ s with test := { s.test with lineTest := some t } }, .ok)

/-- ELECTRODE_TEST (R714): 1 to 0x4A10:01. -/
def actElectrodeTest (port : Port) (s : State) : State := portCommand s port 0x4A10 1 (fun t => startLineTest t .electrode)

/-- PWM_LINE_TEST (R714): 2 to 0x4A10:01. -/
def actPwmLineTest (port : Port) (s : State) : State := portCommand s port 0x4A10 1 (fun t => startLineTest t .pwm)

/-- TACHOMETER_LINE_TEST (R714): 3 to 0x4A10:01. -/
def actTachometerLineTest (port : Port) (s : State) : State := portCommand s port 0x4A10 1 (fun t => startLineTest t .tacho)

/-- A code of Table 19.8's results that is a fault. -/
def faultCode (c : Nat) : Bool := decide (2 ≤ c) && decide (c ≤ 8)

/-- A test ends or is abandoned: results of its own lines, the count of faults, EMCY 0xFFD2 where any of its lines has one (log entry 55). After an
electrode test every baseline is stale; after a tachometer test the channels restart. -/
def endLineTest (s : State) (t : LineTest) (abandoned : Bool) (codes : List (Nat × Nat)) : State :=
  let (a, n) := t.bytes
  let own := codes.filter (fun e => decide (a ≤ e.1) && decide (e.1 < a + n) && decide (e.2 ≤ 8))
  let l := own.foldl (fun (l : List Nat) e => l.set e.1 e.2) s.lineResults
  let s := ((s.set 0x4A10 3 (fromLE l)).set 0x4A10 2 (if abandoned then 3 else 2)).set 0x4A10 4 (l.filter faultCode).length
  let s : State := { s with
    test := { s.test with lineTest := none }
    touch := if t = .electrode then { s.touch with ages := s.touch.ages.map (fun e => (e.1, { e.2 with stale := true })) } else s.touch }
  if own.any (fun e => faultCode e.2) then emcyLog s 0xFFD2 t.code else s

/-- LINE_TEST_COMPLETE (R714): the test has ended, or, where its condition has ceased, is abandoned. -/
def actLineTestComplete (codes : List (Nat × Nat)) (s : State) : State :=
  match s.test.lineTest with
  | some t => (endLineTest s t (!s.lineTestMay t) codes)
  | none => s

/-! ### JTAG (R710 to R713, R716) -/

/-- The access an instruction needs in FIELD (Table 19.5). -/
def Tap.needs : Tap → Access
  | .samplePreload => .observe
  | .extest | .clamp | .highz | .extestPulse | .extestTrain => .full
  | _ => .locked

/-- The condition of R712 for an instruction that drives the balls. -/
def State.mayDrive (s : State) : Bool :=
  s.reg.rails.all (fun r => !r.enabled) && s.get 0x4301 1 == 0 && s.test.lineTest.isNone

/-- A mask of failed slices halts start-up: a halting slice of Table 19.1, or both CAN slices (R707). -/
def haltingMask (m : Nat) : Bool := [7, 8, 9, 10, 11, 12, 13, 14, 15, 18, 22, 23].any (bit m) || (bit m 5 && bit m 6)

/-- Start-up stopped at a halting slice answers IDCODE, the always-on control block and LBIST_RESULT only (R707). -/
def State.lbistHalted (s : State) : Bool :=
  decide (s.power.step = .lbist) && decide (s.power.lbistSlot = 24) && haltingMask (s.get 0x4A00 3)

/-- An instruction is loaded: refused, it selects BYPASS, which DAPSTAT reports (R710). Leaving the instructions that drive the balls makes a hard reset
(R712). -/
def loadTap (s : State) (t : Tap) : State :=
  let denied := decide (s.test.access.code < t.needs.code)
  let refused := denied || (t.drives && !s.mayDrive) || (s.lbistHalted && t != .idcode && t != .aocb && t != .lbistResult)
  let t := if refused then .bypass else t
  let leaves := s.test.tap.drives && !t.drives
  let s := if leaves then hardReset s .boundaryScan 0 false else s
  let s := if t.drives then abandonSegment s else s
  { s with tdo := 0, test := { s.test with tap := t, dap := { s.test.dap with denied := s.test.dap.denied || denied } } }

/-- A JTAG instruction, while VAON is valid. -/
def tapCommand (s : State) (t : Tap) (out : State → State) : State :=
  if !s.power.vaonValid then s
  else
    let s := loadTap s t
    (if s.test.tap = t then out s else s)

/-- IDCODE (R710). -/
def actJtagIdcode (s : State) : State := tapCommand s .idcode (fun s => { s with tdo := 0x11680F1F })

/-- SAMPLE/PRELOAD (R711): the boundary register takes what is shifted in; what it captures of the balls is a free value (log entry 56). -/
def actJtagSamplePreload (boundary : Nat) (s : State) : State :=
  tapCommand s .samplePreload (fun s =>
    { s.draw with tdo := Config.random s.draws 19 % 2 ^ 146, test := { s.test with boundary := boundary % 2 ^ 146 } })

/-- EXTEST (R712). -/
def actJtagExtest (s : State) : State := tapCommand s .extest (fun s => s)

/-- CLAMP (R712). -/
def actJtagClamp (s : State) : State := tapCommand s .clamp (fun s => s)

/-- HIGHZ (R712). -/
def actJtagHighz (s : State) : State := tapCommand s .highz (fun s => s)

/-- EXTEST_PULSE (R712). -/
def actJtagExtestPulse (s : State) : State := tapCommand s .extestPulse (fun s => s)

/-- EXTEST_TRAIN (R712). -/
def actJtagExtestTrain (s : State) : State := tapCommand s .extestTrain (fun s => s)

/-- LBIST_RESULT (R709): 0x4A00:03 as set at start-up. -/
def actJtagLbistResult (s : State) : State := tapCommand s .lbistResult (fun s => { s with tdo := s.get 0x4A00 3 })

/-- AOCB (R102, Table 19.5): the word at an offset, with its number in [39:32]. -/
def actJtagAocb (offset : Nat) (s : State) : State :=
  tapCommand s .aocb (fun s => { s with tdo := ((offset / 4 % 256) <<< 32) + s.aocbWord (offset / 4 % 256 * 4) })

/-- The instruction an opcode selects: one that is not listed selects BYPASS (Table 19.5, R710). -/
def Tap.ofOpcode (opcode : Nat) : Tap :=
  match opcode with
  | 0x01 => .idcode | 0x02 => .samplePreload | 0x03 => .extest | 0x04 => .clamp | 0x05 => .highz | 0x06 => .extestPulse | 0x07 => .extestTrain
  | 0x10 => .dap | 0x11 => .lbistResult | 0x12 => .aocb | _ => .bypass

/-- BYPASS (R710): an opcode that is not listed. A listed one selects its own instruction, with no scan of its data register. -/
def actJtagBypass (opcode : Nat) (s : State) : State := tapCommand s (Tap.ofOpcode opcode) (fun s => s)

/-- TRST_N_LOW (R710, R716): the TAP is reset, never the device; the session ends. -/
def actTrstNLow (s : State) : State :=
  (if s.power.vaonValid then { s with tdo := 0, test := { s.test with tap := .idcode, session := false } } else s)

/-- A debug session starts with PEEK set (R154, R716). -/
def startSession (s : State) : State :=
  { s with test := { s.test with session := true, dap := { s.test.dap with orw := s.test.dap.orw % 2 ^ 63 + 2 ^ 63 } } }

/-- TEST_LOGIC_RESET (R716): the TAP enters Test-Logic-Reset, which selects IDCODE and starts a session. -/
def actTestLogicReset (s : State) : State :=
  (if s.power.vaonValid then startSession { s with tdo := 0, test := { s.test with tap := .idcode } } else s)

/-! ### Lifecycle and unlock (R717 to R720) -/

/-- The lifecycle command (R718). -/
def toField (s : State) (v : Nat) : State × Status :=
  if v ≠ 0x4649454C then (s, .range)
  else if s.test.field || !(nth s.test.hashes 2 .empty).programmed || !s.onVin then (s, .incompatible)
  else
    let s : State := { s with test := { s.test with field := true, access := .locked, session := false } }
    (emcyLog s 0xFFD4 0, .ok)

/-- LIFECYCLE_TO_FIELD (R718). -/
def actLifecycleToField (port : Port) (value : Nat) (s : State) : State := portCommand s port 0x5F00 2 (fun t => toField t value)

/-- The challenge of 0x5F00:04: the nonce, then the serial number. -/
def challengeBytes (nonce serial : Nat) : List Nat := toLE 32 nonce ++ toLE 8 serial

/-- A fresh nonce (R720). -/
def drawNonce (s : State) : State × Status :=
  let n := Config.random s.draws 32 % 2 ^ 256
  let s := s.draw.set 0x5F00 4 (fromLE (challengeBytes n s.test.serial))
  ({ s with test := { s.test with nonce := some n } }, .ok)

/-- UNLOCK_NONCE (R720): 1 to 0x5F00:05. -/
def actUnlockNonce (port : Port) (s : State) : State := portCommand s port 0x5F00 5 drawNonce

/-- Access returns to that of the lifecycle state; the session ends (R716, R719). -/
def relock (s : State) : State × Status :=
  ({ s with test := { s.test with access := if s.test.field then .locked else .full, session := false } }, .ok)

/-- RELOCK (R720): 2 to 0x5F00:05. -/
def actRelock (port : Port) (s : State) : State := portCommand s port 0x5F00 5 relock

/-- A response is accepted (R720): the key's hash is OTP slot 2's, and the signature over challenge and level verifies. -/
def State.responseGood (s : State) (data : List Nat) : Bool :=
  let key := (data.drop 4).take 64
  match s.test.nonce, s.keyHash 2 with
  | some n, some h =>
    h == fromLE (sha256 key)
      && ecdsaVerify key (sha256 (challengeBytes n s.test.serial ++ [nth data 0 0])) ((data.drop 68).take 64)
  | _, _ => false

/-- A response (R720). One that fails ends with INCOMPATIBLE, and the third in a row begins the lockout (log entry 57). -/
def unlockResponse (s : State) (data : List Nat) : State × Status :=
  if data.length ≠ 132 then (s, .length)
  else if s.test.lockout then (s, .busy)
  else if nth data 0 0 ≠ 1 && nth data 0 0 ≠ 2 then (s, .range)
  else
    let ok := s.responseGood data
    let s := s.set 0x5F00 4 0
    let s : State := { s with test := { s.test with nonce := none } }
    if ok then
      let level := if nth data 0 0 = 1 then Access.observe else .full
      let s : State := { s with test := { s.test with failures := 0, access := if s.test.field then level else .full } }
      (emcyLog ((startSession s).count 0x5F00 8) 0xFFD3 level.code, .ok)
    else
      let f := s.test.failures + 1
      let s : State := { s with test := { s.test with failures := if f ≥ 3 then 0 else f, lockout := decide (f ≥ 3) } }
      (s.count 0x5F00 7, .incompatible)

/-- UNLOCK_RESPONSE (R720). -/
def actUnlockResponse (port : Port) (data : List Nat) (s : State) : State := portCommand s port 0x5F00 6 (fun t => unlockResponse t data)

/-- UNLOCK_LOCKOUT_EXPIRY (R720): 60 s after the third failure. -/
def actUnlockLockoutExpiry (s : State) : State := { s with test := { s.test with lockout := false } }

/-! ### OTP slots (R721, R722, Table 19.9) -/

/-- A slot as a program leaves it. -/
def programmedSlot (v : Nat) (readBack : Bool) : KeySlot := if readBack then .key v else .bad

/-- A program of an OTP slot is refused (R721). -/
def State.otpRefused (s : State) (programmed : Bool) : Bool := programmed || s.onPack

/-- The end of a program (R721). -/
def otpStatus (readBack : Bool) : Status := if readBack then .ok else .hardware

/-- The next node-ID base field (R722). What a field reads as whose read-back failed, no rule says (log entry 58). -/
def programBase (s : State) (v : Nat) (readBack : Bool) : State × Status :=
  if v > 127 then (s, .range)
  else if s.otpRefused (decide (s.test.baseFields.length ≥ 4)) then (s, .incompatible)
  else
    let f := if readBack then v else Config.random s.draws 1 % 128
    ({ s.draw with test := { s.test with baseFields := s.test.baseFields ++ [f] } }, otpStatus readBack)

/-- PROGRAM_NODE_ID_BASE (R722). -/
def actProgramNodeIdBase (port : Port) (value : Nat) (readBack : Bool) (s : State) : State :=
  portCommand s port 0x5F10 1 (fun t => programBase t value readBack)

/-- A pack key slot (R721). -/
def programKey (s : State) (slot v : Nat) (readBack : Bool) : State × Status :=
  if s.otpRefused (nth s.pack.keys slot .empty).programmed then (s, .incompatible)
  else ({ s with pack := { s.pack with keys := s.pack.keys.set slot (programmedSlot (v % 2 ^ 256) readBack) } }, otpStatus readBack)

/-- PROGRAM_PACK_KEY (R721). -/
def actProgramPackKey (port : Port) (slot : Fin 4) (key : Nat) (readBack : Bool) (s : State) : State :=
  portCommand s port 0x5F10 (3 + slot.val) (fun t => programKey t slot.val key readBack)

/-- A key hash slot, 1 or 2 (R721). -/
def programHash (s : State) (slot v : Nat) (readBack : Bool) : State × Status :=
  if s.otpRefused (nth s.test.hashes slot .empty).programmed then (s, .incompatible)
  else ({ s with test := { s.test with hashes := s.test.hashes.set slot (programmedSlot (v % 2 ^ 256) readBack) } }, otpStatus readBack)

/-- PROGRAM_INTEGRATOR_KEY_HASH (R721). -/
def actProgramIntegratorKeyHash (port : Port) (hash : Nat) (readBack : Bool) (s : State) : State :=
  portCommand s port 0x5F10 7 (fun t => programHash t 1 hash readBack)

/-- PROGRAM_DEBUG_KEY_HASH (R721). -/
def actProgramDebugKeyHash (port : Port) (hash : Nat) (readBack : Bool) (s : State) : State :=
  portCommand s port 0x5F10 8 (fun t => programHash t 2 hash readBack)

/-- The node-ID base offset: the highest programmed field, or 1 (R722). -/
def State.nodeBase (s : State) : Nat := nth s.test.baseFields.reverse 0 1

/-- 0x5F10:09. -/
def State.slotsProgrammed (s : State) : Nat :=
  b2n s.update.hash0 + 2 * b2n (nth s.test.hashes 1 .empty).programmed + 4 * b2n (nth s.test.hashes 2 .empty).programmed
    + 8 * ((List.range 4).map (fun k => b2n (nth s.pack.keys k .empty).programmed <<< k)).sum

/-- 0x5F10:0A to :0D: the first four bytes of the SHA-256 of a pack key (R721). -/
def State.keyCheck (s : State) (slot : Nat) : Nat :=
  match nth s.pack.keys slot .empty with
  | .key k => fromLE ((sha256 (toLE 32 k)).take 4)
  | _ => 0

end Sys2Proof.Machine
end

