-- ==== Sys2Proof/Machine/Scans.lean ====
section
/-!
DEFINITION. The scans of the touch surface: profiles and their cost (chapter 12), the hop table's frequencies, and the order in which a scan's bursts convert their
channels (R405, R448).
-/

namespace Sys2Proof.Machine

/-! ### Profiles (R442 to R446, Table 12.2) -/

/-- A scan profile. -/
structure Scan where
  first : Nat
  rows : Nat
  gang : Nat
  coded : Bool
  grid : List Nat
  cm : Nat
  selfs : List Nat
  cs : Nat
deriving DecidableEq, Repr

/-- A profile from its sub-indices. -/
def Scan.of (g : Nat → Nat) : Scan where
  first := g 1
  rows := g 2
  gang := g 3
  coded := g 4 == 1
  grid := setBits 80 (g 5 + (g 6 <<< 32) + (g 7 <<< 64))
  cm := g 8
  selfs := setBits 88 (g 9 + (g 10 <<< 32) + (bits (g 11) 0 16 <<< 64) + (bits (g 11) 16 8 <<< 80))
  cs := g 12

/-- Profile p in force, and as staged. -/
def State.scan (s : State) (p : Nat) : Scan := Scan.of (s.inForce (0x3200 + p))
/-- Profile p as staged. -/
def State.stagedScan (s : State) (p : Nat) : Scan := Scan.of (s.get (0x3200 + p))

/-- The smallest power of two that is at least 4 and at least the number of rows (R444). -/
def codedSteps (rows : Nat) : Nat := ([4, 8, 16, 32, 64, 128].find? (fun k => decide (rows ≤ k))).getD 128

/-- The scan steps of the mutual scan (R444). -/
def Scan.steps (c : Scan) : Nat := if c.rows = 0 then 0 else if c.coded then codedSteps c.rows else c.rows

/-- G of R405: the length of the longest position list. -/
def groups (chs : List Nat) : Nat :=
  ((List.range 16).map (fun p => (chs.filter (fun c => c % 16 == p)).length)).foldl max 0

/-- The frequency of a hop entry that is enabled. -/
def State.hopFreq (s : State) (h : Nat) : Nat := bits (s.get 0x3203 (h + 1)) 0 20

/-- The enabled hop entries, ascending. -/
def State.hops (s : State) : List Nat := (List.range 8).filter (fun h => bit (s.get 0x3203 (h + 1)) 31)

/-- The lowest enabled hop frequency. -/
def State.fMin (s : State) : Nat := ((s.hops.map s.hopFreq).foldl (fun (m : Option Nat) f => some (match m with | some x => min x f | none => f)) none).getD 0

/-- The excitation cycles of a whole scan (R445). -/
def Scan.cycles (c : Scan) : Nat := c.steps * groups c.grid * c.cm + groups c.selfs * c.cs

/-- The scan time in µs, rounded up (R445). -/
def Scan.timeUs (c : Scan) (f : Nat) : Nat := if f = 0 then 0 else (c.cycles * 1000000 + f - 1) / f

/-- The end of the first k phases of the frame in force, in µs after the downbeat (R114). -/
def State.boundaryUs (s : State) (k : Nat) : Nat :=
  s.inForce 0x2100 1 * ((List.range k).map (fun j => s.inForce 0x2100 (4 + j))).sum / 1000

/-- The SCAN phase in force, in µs. -/
def State.scanUs (s : State) : Nat := s.boundaryUs 2 - s.boundaryUs 1

/-- A profile fits the SCAN phase in force at a lowest frequency. -/
def State.scanFits (s : State) (c : Scan) (f : Nat) : Bool := decide (c.cycles * 1000000 ≤ s.scanUs * f)

/-- The calibration points are strictly ascending in distance and strictly descending in sum (R469). -/
def pointsOk (l : List Nat) : Bool :=
  (List.zip l (l.drop 1)).all (fun e => decide (bits e.1 24 8 < bits e.2 24 8) && decide (bits e.2 0 24 < bits e.1 0 24))

/-- The checks of an apply of profiles (R445). -/
def State.profilesOk (s : State) : Bool :=
  ([0, 1].all (fun p =>
    let c := s.stagedScan p
    decide (c.first + c.rows * c.gang ≤ 128) && (decide (c.rows = 0) || !c.grid.isEmpty) && s.scanFits c s.fMin))
    && pointsOk ((List.range 8).map (fun k => s.get 0x3233 (k + 1)))

/-- The profile in force, none where no scan runs. -/
def State.profile (s : State) : Option Nat := if s.get 0x3202 4 ≤ 1 then some (s.get 0x3202 4) else none

/-- The bytes required (0x3202:09): the image buffer in [31:0], the baseline store in [63:32] (R447; log entry 64). -/
def State.bytesRequired (s : State) : Nat :=
  let image (c : Scan) : Nat := 8 * (c.steps * (if c.rows = 0 then 0 else c.grid.length) + c.selfs.length)
  let base (c : Scan) : Nat := 4 * (c.rows * c.grid.length + c.selfs.length) * s.hops.length
  max (image (s.scan 0)) (image (s.scan 1)) + ((base (s.scan 0) + base (s.scan 1)) <<< 32)

/-! ### The bursts of a scan (R405, R448) -/

/-- The channels of a list whose positions a slice serves (R436). -/
def State.servedOf (s : State) (chs : List Nat) : List Nat := chs.filter (fun c => (nth s.sense.map (c % 16) none).isSome)

/-- The channels that burst g of a scan step converts: entry g of each position's list L_p (R405). -/
def burstOf (chs : List Nat) (g : Nat) : List Nat := (List.range 16).filterMap (fun p => (chs.filter (fun c => c % 16 == p))[g]?)

/-- The G bursts of one scan step. -/
def stepBursts (chs : List Nat) : List (List Nat) := (List.range (groups chs)).map (burstOf chs)

/-- The bursts of a frame's SCAN phase in their order, of step and then of g: the mutual scan first, then the self scan (R405, Table 12.1). -/
def State.scanBursts (s : State) (c : Scan) : List (List Nat) :=
  (List.replicate c.steps (stepBursts (s.servedOf c.grid))).flatten ++ stepBursts (s.servedOf c.selfs)

/-- The listening burst in µs, where noise listening takes place (R448). -/
def State.listenUs (s : State) (c : Scan) : Option Nat :=
  let n := s.hops.length * groups c.grid
  let t := s.boundaryUs 1 / max 1 n
  if n = 0 || t < 5 then none else some t

/-- The bursts of noise listening: each enabled hop in ascending order converts the mutual mask in its groups (R448). -/
def State.listenBursts (s : State) (c : Scan) : List (List Nat) :=
  if (s.listenUs c).isSome then (List.replicate s.hops.length (stepBursts (s.servedOf c.grid))).flatten else []

/-- A result of channel `ch` is due next: it belongs to the first burst that is not complete, and has not come yet. `given` are the channels that have come, oldest
first. -/
def dueIn : List (List Nat) → List Nat → Nat → Bool
  | [], _, _ => false
  | b :: rest, given, ch =>
    if b.length ≤ given.length then dueIn rest (given.drop b.length) ch else b.contains ch && !given.contains ch

/-- The burst results a whole image holds. -/
def State.expected (s : State) (c : Scan) : Nat := ((s.scanBursts c).map List.length).sum

/-- The electrode test runs, for which touch stops (R714). -/
def State.electrodeTest (s : State) : Bool := s.test.lineTest == some .electrode

end Sys2Proof.Machine
end

