-- ==== Sys2Proof/Machine/Sense.lean ====
section
/-!
DEFINITION. The sense path (chapter 11): the arithmetic of the filter lanes, burst results, telemetry outputs and their consumers, coefficient banks, their
library and their switching, and the calibration of the touch slices.
-/

namespace Sys2Proof.Machine

/-! ### Banks (R422, Table 11.5) -/

/-- The index of a lane's object: touch lanes 0 to 15, telemetry lanes 16 to 23. -/
def laneObj (n : Nat) : Nat := 0x3100 + n

/-- Lane n. -/
def State.lane (s : State) (n : Nat) : Lane := nth s.sense.lanes n Lane.reset

/-- Lane n replaced. -/
def State.setLane (s : State) (n : Nat) (l : Lane) : State := { s with sense := { s.sense with lanes := s.sense.lanes.set n l } }

/-- A bank's parameters. -/
def State.bank (s : State) (n : Nat) (b : Bool) : BankParams := BankParams.of (s.get (laneObj n) (if b then 2 else 1))

/-- Coefficient k of a bank, 18-bit two's complement in 3 bytes; with SYM tap k uses the mirrored one (R422). -/
def State.coefficient (s : State) (n : Nat) (b : Bool) (k : Nat) : Int :=
  let p := s.bank n b
  let j := if p.sym then min k (p.taps - 1 - k) else k
  toSigned 18 (bits (s.get (laneObj n) (if b then 4 else 3)) (24 * j) 18)

/-- The coefficients of a bank, one per tap. -/
def State.coefficients (s : State) (n : Nat) (b : Bool) : List Int := (List.range (s.bank n b).taps).map (s.coefficient n b)

/-- A bank is in use: active, or pending, warming or fading in (R423). -/
def Lane.inUse (l : Lane) (b : Bool) : Bool := l.activeB == b || l.pending || l.switching

/-- The status of a lane (Table 11.7, 07). A telemetry switch that waits for the next output instant reads PENDING (log entry 60). -/
def laneStatus (s : State) (n : Nat) : Nat :=
  let l := s.lane n
  let warming := l.fades.any (fun f => match f with | .warming _ => true | _ => false)
  let fading := l.fades.any (fun f => match f with | .fading _ | .done => true | _ => false)
  b2n l.activeB + 2 * b2n (l.pending || (l.switching && !warming && !fading)) + 4 * b2n fading + 8 * b2n warming + 16 * b2n l.loading

/-! ### The stages (R417, Table 11.3) -/

/-- A right shift that rounds; a shift of 0 adds no rounding term. -/
def roundShift (v : Int) (k : Nat) : Int := if k = 0 then v else (v + 2 ^ (k - 1)) / 2 ^ k

/-- Whether a value was limited to w bits. -/
def limited (w : Nat) (v : Int) : Bool := decide (satSigned w v ≠ v)

/-- Arithmetic modulo 2^48. -/
def wrap48 (v : Int) : Int := toSigned 48 (ofSigned 48 v)

/-- The four integrators, one after another. -/
def integrate (x : Int) : List Int → List Int
  | [] => []
  | i :: rest => wrap48 (i + x) :: integrate (wrap48 (i + x)) rest

/-- The four combs, one after another: their new delays and the result. -/
def combine (x : Int) : List Int → List Int × Int
  | [] => ([], x)
  | d :: rest =>
    let r := combine (wrap48 (x - d)) rest
    (x :: r.1, r.2)

/-- What a datapath has given: its state, the FIR's outputs oldest first, and whether the CIC and the FIR saturated. -/
structure PathOut where
  filt : Filt
  inputs : Nat
  outs : List Int
  cic : Bool
  fir : Bool

/-- One sample through the CIC and, when due, the FIR. -/
def pathSample (p : BankParams) (coef : List Int) (o : PathOut) (x : Int) : PathOut :=
  let n := o.inputs + 1
  let ints := integrate x o.filt.ints
  if n % p.d ≠ 0 then { o with filt := { o.filt with ints := ints }, inputs := n }
  else
    let c := combine (ints.getLastD 0) o.filt.combs
    let w := roundShift c.2 p.shift
    let taps := (satSigned 28 w :: o.filt.taps).take 48
    let f : Filt := ⟨ints, c.1, taps⟩
    if (n / p.d) % p.m ≠ 0 then { o with filt := f, inputs := n, cic := o.cic || limited 28 w }
    else
      let a := roundShift ((List.zipWith (fun (a b : Int) => a * b) coef taps).sum) p.firShift
      ⟨f, n, o.outs ++ [satSigned 28 a], o.cic || limited 28 w, o.fir || limited 28 a⟩

/-- Samples through a datapath. -/
def runPath (p : BankParams) (coef : List Int) (f : Filt) (xs : List Int) : PathOut :=
  xs.foldl (pathSample p coef) ⟨f, 0, [], false, false⟩

/-- Flags raised in a lane's RC latch, and a saturated output counted (R421). -/
def laneFlags (s : State) (n flags : Nat) : State :=
  if flags = 0 then s
  else (s.set (laneObj n) 8 (s.get (laneObj n) 8 ||| flags)).count (laneObj n) 9

/-- The flags of the stages (Table 11.7, 08). -/
def stageFlags (corr cic fir out : Bool) : Nat := 8 * b2n corr + 4 * b2n cic + 2 * b2n fir + b2n out

/-! ### Touch lanes (R406, R418, R419) -/

/-- The correction of a touch code by its slice's O and G before the limit of sat16 (R406). -/
def touchCorrect (o : Int) (g : Nat) (c : Nat) : Int := ((4 * ((c : Int) - 8192) - o) * g + 8192) / 2 ^ 14

/-- The mixer (Table 11.3). -/
def mix (x c : Int) : Int := (x * c + 16384) / 2 ^ 15

/-- The sum of the burst window in an accumulator of 40 bits that saturates, and whether it did. -/
def dump (xs : List Int) : Int × Bool :=
  xs.foldl (fun (a : Int × Bool) x => (satSigned 40 (a.1 + x), a.2 || limited 40 (a.1 + x))) (0, false)

/-- The outputs discarded at the start: W = ⌈(4 + TAPS) / M⌉ (R418). -/
def BankParams.warmUp (p : BankParams) : Nat := (4 + p.taps + p.m - 1) / p.m

/-- One burst: the result and the lane's flags. The NCO's cosine and sine come with the samples (log entry 61). -/
def burst (p : BankParams) (coef : List Int) (settle : Nat) (o : Int) (g channel : Nat) (codes : List Nat) (nco : List (Int × Int)) (ovr : Bool) :
    BurstRes × Nat :=
  let raw := codes.map (touchCorrect o g)
  let corr := raw.any (limited 16)
  let xs := ((raw.map (satSigned 16)).zip nco).drop settle
  let i := runPath p coef Filt.reset (xs.map (fun x => mix x.1 x.2.1))
  let q := runPath p coef Filt.reset (xs.map (fun x => mix x.1 x.2.2))
  let iSum := dump (i.outs.drop p.warmUp)
  let qSum := dump (q.outs.drop p.warmUp)
  let short := (i.outs.drop p.warmUp).isEmpty
  let iv := roundShift iSum.1 p.oShift
  let qv := roundShift qSum.1 p.oShift
  let flags := stageFlags corr (i.cic || q.cic) (i.fir || q.fir) (iSum.2 || qSum.2 || limited 24 iv || limited 24 qv)
  (⟨channel, satSigned 24 iv, satSigned 24 qv, 64 * b2n (decide (flags ≠ 0)) + 32 * b2n ovr + 16 * b2n short⟩, flags)

/-- The eight bytes of a burst result (Table 11.4). -/
def BurstRes.bytes (r : BurstRes) : List Nat := toLE 3 (ofSigned 24 r.i) ++ toLE 3 (ofSigned 24 r.q) ++ [r.channel, r.flags]

/-- The touch bank, its lanes and the contact engine work in this frame (R134, R439, Table 19.3). -/
def State.touchRuns (s : State) : Bool :=
  s.up && s.touchState && s.sense.power == .ready && !s.beat.stoppedB && s.clocks.pllB && !s.touchDegraded

/-- Bytes of the image buffer written by the contact engine; an access that faults is an overrun with CAUSE bit 0 (Table 8.6), and one whose bank a LOCK sequence
holds waits (R372). -/
def imageWrite (s : State) (addr : Nat) (bytes : List Nat) : State :=
  match objWrite s 6 addr bytes with
  | (s, .done) => s
  | (s, .held) => { s with mem := { s.mem with heldImage := s.mem.heldImage ++ [(addr, bytes)] } }
  | (s, _) => { s with touch := { s.touch with imageFault := true }, beat := { s.beat with imageMissing := true } }

/-- A burst result goes to the image buffer of the frame (R419, R447). -/
def storeBurst (s : State) (r : BurstRes) : State :=
  imageWrite { s with touch := { s.touch with image := s.touch.image ++ [r] } } (s.get 0x3202 7 + 8 * s.touch.image.length) r.bytes

/-- A channel's result is due in this phase: in SCAN by the profile in force while transmit runs, in LISTEN by the noise listening (R405, R448). -/
def State.burstDue (s : State) (channel : Nat) : Bool :=
  match s.profile, s.beat.phase with
  | some p, .scan => !s.beat.stoppedC && s.clocks.pllC && dueIn (s.scanBursts (s.scan p)) (s.touch.image.map (·.channel)) channel
  | some p, .listen => dueIn (s.listenBursts (s.scan p)) (s.touch.listen.map (·.channel)) channel
  | _, _ => false

/-- BURST_END (R403 to R406, R417 to R421, R434): the codes are the slice's 14 bits, oldest first; OVR comes only with a code of 0 or 16383 (Table 11.1), and the
NCO's values lie in ±32,767. A burst that the scan does not have next is none. Results of the noise-listening scan are kept apart for R448. -/
def actBurstEnd (position : Fin 16) (channel : Nat) (codes : List Nat) (nco : List (Int × Int)) (ovr : Bool) (s : State) : State :=
  match nth s.sense.map position.val none with
  | none => s
  | some k =>
    if !s.touchRuns || s.electrodeTest || channel % 16 ≠ position.val || !s.burstDue channel then s
    else
      let n := position.val
      let sl := nth s.sense.slices k ⟨.failed, 0, 0, 0, 16384⟩
      let b := (s.lane n).activeB
      let codes := codes.map (· % 16384)
      let nco := nco.map (fun e => (clampInt (-32767) 32767 e.1, clampInt (-32767) 32767 e.2))
      let r := burst (s.bank n b) (s.coefficients n b) (s.inForce 0x3000 3) sl.o sl.g channel codes nco
        (ovr && codes.any (fun c => c == 0 || c == 16383))
      let s := laneFlags s n r.2
      if s.beat.phase == .scan then storeBurst s r.1
      else { s with touch := { s.touch with listen := s.touch.listen ++ [r.1] } }

/-! ### Telemetry lanes (R413 to R416, R420, R425, R431) -/

/-- The HK inputs in the scan of this session (R416: inputs 60, 61 and 63 always). -/
def State.hkScanned (s : State) : List Nat :=
  let m := s.inForce 0x3010 1 + (s.inForce 0x3010 2 <<< 32)
  (List.range 64).filter (fun h => bit m h || h == 60 || h == 61 || h == 63)

/-- The HK round time in ns (R414). -/
def State.hkRound (s : State) : Nat := 200 * s.hkScanned.length

/-- The scanned inputs of a telemetry lane. -/
def State.laneInputs (s : State) (n : Nat) : List Nat := s.hkScanned.filter (fun h => h / 8 + 16 == n)

/-- The correction of an HK code before the limit of sat16 (R415). -/
def hkCorrect (trim c : Nat) : Int := ((8 * (c : Int) - toSigned 16 (bits trim 0 16)) * bits trim 16 16 + 8192) / 2 ^ 14

/-- One output of a datapath: its state after the samples, the 24-bit output, and the flags of its stages. -/
def telemetryPath (s : State) (n : Nat) (b : Bool) (f : Filt) (xs : List Int) (corr : Bool) : Filt × Int × Nat :=
  let p := s.bank n b
  let o := runPath p (s.coefficients n b) f xs
  let y := roundShift (o.outs.getLastD 0) p.oShift
  (o.filt, satSigned 24 y, stageFlags corr o.cic o.fir (limited 24 y))

/-- A lane whose inputs have all faded has switched (R425 step 4). -/
def fadeEnds (s : State) (n : Nat) : State :=
  let l := s.lane n
  if l.switching && (s.laneInputs n).all (fun h => nth l.fades (h % 8) .none == .done) then
    (s.setLane n { l with
      activeB := !l.activeB, switching := false, fades := List.replicate 8 .none, filt := l.filtNew
      filtNew := List.replicate 8 Filt.reset }).count (laneObj n) 11
  else s

/-- One input's output, with its warm-up or fade (R420, R425). -/
def laneOutput (s : State) (n j : Nat) (xs : List Int) (corr : Bool) : State × Int × Nat :=
  let l := s.lane n
  let old := telemetryPath s n l.activeB (nth l.filt j Filt.reset) xs corr
  let new := telemetryPath s n (!l.activeB) (nth l.filtNew j Filt.reset) xs corr
  let keepOld : Lane := { l with filt := l.filt.set j old.1 }
  let both : Lane := { keepOld with filtNew := l.filtNew.set j new.1 }
  if !l.switching then (s.setLane n keepOld, old.2)
  else
    match nth l.fades j .none with
    | .none =>
      (s.setLane n { keepOld with
        filtNew := l.filtNew.set j Filt.reset, fades := l.fades.set j (.warming (s.bank n (!l.activeB)).warmUp) }, old.2)
    | .warming k =>
      (s.setLane n { both with fades := l.fades.set j (if k ≤ 1 then .fading 1 else .warming (k - 1)) }, old.2.1, old.2.2 ||| new.2.2)
    | .fading k =>
      let len := s.get (laneObj n) 10
      let y := old.2.1 + divRound ((new.2.1 - old.2.1) * k) len
      (fadeEnds (s.setLane n { both with fades := l.fades.set j (if k ≥ len then .done else .fading (k + 1)) }) n, y, old.2.2 ||| new.2.2)
    | .done => (s.setLane n { l with filtNew := l.filtNew.set j new.1 }, new.2)

/-- The window of a reference input in µV (R416): 60, 61, 63 are the references 0, 1, 2. -/
def refWindow : Nat → Int × Int
  | 0 => (1188000, 1212000) | 1 => (-2000, 2000) | _ => (297000, 303000)

/-- The check of the references (R416): 16 outputs out of window set HK_REF_FAULT, 256 of all three within clear it. -/
def refCheck (s : State) (k hk : Nat) : State :=
  let v := s.hkValue hk * 1800000
  let w := refWindow k
  let good := decide (w.1 * 2 ^ 23 ≤ v) && decide (v ≤ w.2 * 2 ^ 23)
  let out := if good then 0 else min 17 (nth s.sense.refOut k 0 + 1)
  let in_ := if good then min 256 (nth s.sense.refIn k 0 + 1) else 0
  let s : State := { s with sense := { s.sense with refOut := s.sense.refOut.set k out, refIn := s.sense.refIn.set k in_ } }
  let s := if out = 16 then emcyLog (s.setFlag 0x3000 10 2 true) 0xFF61 hk else s
  if s.sense.refIn.all (fun n => decide (256 ≤ n)) then s.setFlag 0x3000 10 2 false else s

/-- What reads a telemetry output at once (R420): the supervisors, temperatures, the charger and the pack's account (R592). -/
def telemetryConsumers (s : State) (h : Nat) : State :=
  if h < 16 then supVoltage s h
  else if h < 32 then supCurrent s (h - 16)
  else if h < 48 then thermalOutput s h
  else if h = 49 then chargerReview s
  else if h = 50 then (if s.hkValid 56 then chargerVoltage s else s)
  else if h = 56 then
    let p := s.bank 23 (s.lane 23).activeB
    lifeIntegrate (if s.hkValid 50 then chargerVoltage s else s) (25 * s.hkScanned.length * p.d * p.m)
  else if h = 57 then packTemperature s
  else if h = 60 then refCheck s 0 60
  else if h = 61 then refCheck s 1 61
  else if h = 63 then refCheck s 2 63
  else s

/-- TELEMETRY_OUTPUT (R420): the codes are the D × M of the input's output interval, of HK's 12 bits, oldest first. -/
def actTelemetryOutput (hk : Fin 64) (codes : List Nat) (s : State) : State :=
  let h := hk.val
  let n := 16 + h / 8
  let p := s.bank n (s.lane n).activeB
  if !s.sense.hkRunning || s.beat.stoppedB || !s.clocks.pllB || !s.hkScanned.contains h || codes.length ≠ p.d * p.m then s
  else
    let raw := (codes.map (· % 4096)).map (hkCorrect (s.get 0x3010 3))
    let r := laneOutput s n (h % 8) (raw.map (satSigned 16)) (raw.any (limited 16))
    let s := laneFlags r.1 n r.2.2
    let word := (1 <<< 31) + (b2n (s.flag 0x3000 10 2) <<< 30) + (b2n (decide (r.2.2 ≠ 0)) <<< 29) + ofSigned 24 r.2.1
    (telemetryConsumers (s.set 0x3120 (h + 1) word) h)

/-! ### Switching (R423, R425, R426, R429, R432) -/

/-- A lane is busy with a switch or a load (R423). -/
def Lane.busy (l : Lane) : Bool := l.pending || l.switching || l.loading

/-- A switch command on a lane (R425, R426). -/
def laneSwitch (s : State) (n : Nat) : State × Status :=
  let l := s.lane n
  if l.busy then (s, .busy)
  else if n < 16 then (s.setLane n { l with pending := true }, .ok)
  else
    let a := s.bank n l.activeB
    let b := s.bank n (!l.activeB)
    if a.d * a.m ≠ b.d * b.m || !((s.laneInputs n).all s.hkValid) then (s, .incompatible)
    else (s.setLane n { l with switching := true, fades := List.replicate 8 .none }, .ok)

/-- TELEMETRY_BANK_SWITCH (R425): 1 to sub-index 05 of a telemetry lane. -/
def actTelemetryBankSwitch (port : Port) (lane : Fin 8) (s : State) : State :=
  portCommand s port (laneObj (16 + lane.val)) 5 (fun t => laneSwitch t (16 + lane.val))

/-- TOUCH_BANK_SWITCH (R426): 1 to sub-index 05 of a touch lane. -/
def actTouchBankSwitch (port : Port) (lane : Fin 16) (s : State) : State :=
  portCommand s port (laneObj lane.val) 5 (fun t => laneSwitch t lane.val)

/-- The touch lanes' part of the downbeat, step 4 (R426, R432). -/
def lanesDownbeat (s : State) : State :=
  (List.range 16).foldl (fun (t : State) n =>
    let l := t.lane n
    if l.pending then (t.setLane n { l with pending := false, activeB := !l.activeB }).count (laneObj n) 11 else t) s

/-- The telemetry lanes restart empty after a loss of PLL B, a switch in progress abandoned (R432). -/
def lanesRestart (s : State) : State :=
  { s with sense := { s.sense with lanes := s.sense.lanes.map (fun l => { l with
      switching := false, fades := List.replicate 8 .none, filt := List.replicate 8 Filt.reset, filtNew := List.replicate 8 Filt.reset }) } }

/-! ### The library (R424) -/

/-- The micro-TLB of a lane (Table 8.4). -/
def laneEngine (n : Nat) : Nat := if n < 16 then 7 else 8

/-- A part of a record, within one page. -/
inductive RecordPart where
  | bytes (l : List Nat)
  | waits
  | refused

/-- One part read, or waited for. -/
def recordPart (s : State) (n addr len : Nat) : State × RecordPart :=
  match objRead s (laneEngine n) addr len with
  | (s, .bytes l) => (s, .bytes l)
  | (s, .miss v) =>
    match demand s (laneEngine n) v (.lane n) with
    | (s, .failed) => (s, .refused)
    | (s, .claimed) =>
      match objRead s (laneEngine n) addr len with
      | (s, .bytes l) => (s, .bytes l)
      | (s, .held) => (s, .waits)
      | (s, _) => (s, .refused)
    | (s, .waits) => (s, .waits)
  | (s, .held) => (s, .waits)
  | (s, _) => (s, .refused)

/-- The 160 bytes of a record, which may lie in two pages. -/
def readRecord (s : State) (n : Nat) : State × RecordPart :=
  let a := s.get (laneObj n) 6
  let first := min 160 (4096 - a % 4096)
  match recordPart s n a first with
  | (s, .bytes l) =>
    if first = 160 then (s, .bytes l)
    else
      match recordPart s n (trunc 32 (a + first)) (160 - first) with
      | (s, .bytes r) => (s, .bytes (l ++ r))
      | r => r
  | r => r

/-- A load is refused for want of its page: result 2, the bank unchanged. -/
def loadFails (s : State) (n result : Nat) : State :=
  (s.setLane n { s.lane n with loading := false }).set (laneObj n) 12 result

/-- A lane begins to read its record: BUSY during a switch or a load (R423, R424). -/
def laneLoad (s : State) (n : Nat) : State × Status :=
  let l := s.lane n
  if l.busy then (s, .busy)
  else
    match readRecord (s.setLane n { l with loading := true }) n with
    | (s, .refused) => (loadFails s n 2, .ok)
    | (s, _) => (s, .ok)

/-- LOAD_LIBRARY_RECORD (R424): 2 to sub-index 05 of a lane. -/
def actLoadLibraryRecord (port : Port) (lane : Fin 24) (s : State) : State :=
  portCommand s port (laneObj lane.val) 5 (fun t => laneLoad t lane.val)

/-- A record whose CRC or a field of whose parameter word is bad: EMCY 0xFF62 with the lane (R424). -/
def recordBad (s : State) (n result : Nat) : State := emcyLog (loadFails s n result) 0xFF62 n

/-- LIBRARY_LOAD_COMPLETE (R424): the whole record has been read. While a page of it is still on its way nothing happens. -/
def actLibraryLoadComplete (lane : Fin 24) (s : State) : State :=
  let n := lane.val
  if !(s.lane n).loading then s
  else
    match readRecord s n with
    | (t, .waits) => (if (s.mem.fills.any (fun f => f.waiters.contains (.lane n))) then s else t)
    | (t, .refused) => (loadFails t n 2)
    | (t, .bytes l) =>
      if crc32 (l.take 156) ≠ fromLE (l.drop 156) then (recordBad t n 3)
      else if !bankParamsOk (decide (16 ≤ n)) (fromLE (l.take 8)) then (recordBad t n 4)
      else
        let b := !(t.lane n).activeB
        let t := t.set (laneObj n) (if b then 2 else 1) (fromLE (l.take 8))
        let t := t.set (laneObj n) (if b then 4 else 3) (fromLE ((l.drop 8).take 144))
        (loadFails t n 1)

/-! ### The touch bank and its slices (R407 to R412, R436, R439, R440) -/

/-- A slice is failed (R410): SPARE_LOST, EMCY 0xFF60 with its number, a record. -/
def failSlice (s : State) (k : Nat) : State :=
  let s : State := { s with sense := { s.sense with
    slices := s.sense.slices.modify k (fun x => { x with state := .failed })
    out := if s.sense.out == some k then none else s.sense.out } }
  emcyLog (s.setFlag 0x3000 10 1 true) 0xFF60 k

/-- The slices that can serve, in ascending order. -/
def Sense.available (x : Sense) : List Nat := (List.range 17).filter (fun k => (nth x.slices k ⟨.failed, 0, 0, 0, 0⟩).state != .failed)

/-- After a failure of a slice in service the positions are served in ascending order by the slices available (R436); with fewer than sixteen POSITION_LOST
is set and reported with the slice that failed. -/
def serveAgain (s : State) (failed : Nat) : State :=
  let l := s.sense.available
  let s : State := { s with sense := { s.sense with
    map := (List.range 16).map (fun p => l[p]?), out := l[16]?
    slices := l.foldl (fun (m : List Slice) k => m.modify k (fun x => { x with state := .inService })) s.sense.slices } }
  if l.length < 16 && !s.flag 0x3000 10 3 then emcyLog (s.setFlag 0x3000 10 3 true) 0xFF60 failed else s

/-- Slice k has not converged in the 2.0 ms of a power-up (R439). -/
def powerUpFails (s : State) (k : Nat) : State :=
  let serving := s.sense.map.contains (some k)
  let s := failSlice s k
  if serving then serveAgain s k else s

/-- TOUCH_BANK_POWER_UP (R439): scanning starts; all slices calibrate. -/
def actTouchBankPowerUp (s : State) : State :=
  (if s.up && s.touchState && s.sense.power == .off && s.clocks.pllB && !s.touchDegraded then
    { s with sense := { s.sense with power := .calibrating } }
  else s)

/-- The estimates meet R407 over two intervals: residual at most 64, O within 1 and G within 2 of the interval before. -/
def SliceEst.steady (before after : SliceEst) : Bool :=
  decide (after.residual ≤ 64) && decide ((after.o - before.o).natAbs ≤ 1) && decide (((after.g : Int) - before.g).natAbs ≤ 2)

/-- TOUCH_CALIBRATION_COMPLETE (R439): `est` holds what each slice estimated over the last two of the eight intervals of 0.25 ms, the earlier one first. A slice
that does not meet R407 between them is failed. -/
def actTouchCalibrationComplete (est : List (SliceEst × SliceEst)) (s : State) : State :=
  if s.sense.power != .calibrating then s
  else
    let live := s.sense.available
    let s : State := { s with sense := { s.sense with
      power := .calibrated
      slices := live.foldl (fun (m : List Slice) k => match est[k]? with
        | some e => m.modify k (fun x => { x with residual := e.2.residual, o := satSigned 16 e.2.o, g := e.2.g % 65536 })
        | none => m) s.sense.slices } }
    ((live.filter (fun k => !(est[k]?).any (fun e => e.1.steady e.2))).foldl powerUpFails s)

/-- A slice is converged (R407): 8 frames since it went out, residual at most 64, O within 1 and G within 2 of the last frame. -/
def converges (before : Slice) (frames : Nat) (e : SliceEst) : Bool :=
  decide (8 ≤ frames) && SliceEst.steady ⟨before.residual, before.o, before.g⟩ e

/-- The out slice computes its residual after each frame (R407); the frame of a test of its logic does not count towards convergence (R428). -/
def calibrateOut (s : State) (e : SliceEst) : State :=
  match s.sense.out with
  | none => s
  | some k =>
    if s.sense.power != .ready then s
    else
      let before := nth s.sense.slices k ⟨.out, 0, 0, 0, 0⟩
      let frames := if s.sense.tested then s.sense.calFrames else s.sense.calFrames + 1
      let now : Slice := { before with residual := e.residual, o := satSigned 16 e.o, g := e.g % 65536 }
      { s with sense := { s.sense with
        slices := s.sense.slices.set k now, calFrames := frames
        converged := if s.sense.tested then s.sense.converged else converges before frames e } }

/-- A swap takes effect (R408). -/
def swap (s : State) (k : Nat) : State :=
  let p := s.sense.next
  let outgoing := nth s.sense.map p none
  let slices := s.sense.slices.modify k (fun x => { x with state := .inService, missed := 0 })
  let slices := match outgoing with
    | some j => slices.modify j (fun x => { x with state := .out, missed := 0 })
    | none => slices
  let s : State := { s with sense := { s.sense with
    slices := slices, map := s.sense.map.set p (some k), out := outgoing, next := (p + 1) % 16, framesOut := 0, calFrames := 0
    converged := false } }
  (s.set 0x3000 6 s.frame).count 0x3000 7

/-- A period ends without convergence (R410): deferred and counted; the third in a row fails the slice. -/
def deferSwap (s : State) (k period : Nat) : State :=
  if (s.sense.framesOut + 1) % period = 0 then
    let s := s.count 0x3000 8
    let missed := (nth s.sense.slices k ⟨.out, 0, 0, 0, 0⟩).missed + 1
    let s : State := { s with sense := { s.sense with slices := s.sense.slices.modify k (fun x => { x with missed := min 3 missed }) } }
    if missed ≥ 3 then failSlice s k else s
  else s

/-- The rotation's part of the downbeat, step 4 (R407, R408, R410, R411, R428): `e` is what the out slice estimated over the frame that ends. -/
def rotationDownbeat (s : State) (e : SliceEst) : State :=
  let s := calibrateOut (s.setInForce 0x3000 1 (s.get 0x3000 1)) e
  let period := s.inForce 0x3000 1
  let s := s.setFlag 0x3000 10 0 (period == 0)
  let tested := s.sense.tested
  let s : State := { s with sense := { s.sense with tested := false } }
  match s.sense.out with
  | none => s
  | some k =>
    if s.sense.power != .ready then s
    else if period ≠ 0 && s.sense.framesOut + 1 ≥ period && s.sense.converged && !tested then swap s k
    else
      let s := if period ≠ 0 && !s.sense.converged then deferSwap s k period else s
      { s with sense := { s.sense with framesOut := s.sense.framesOut + 1 } }

/-- A swap is due at the end of this frame: the out slice shadows position `next` in its SCAN phase (R409). -/
def State.swapDue (s : State) : Bool :=
  let period := s.inForce 0x3000 1
  s.sense.out.isSome && s.sense.power == .ready && decide (period ≠ 0) && decide (s.sense.framesOut + 1 ≥ period) && s.sense.converged

/-- The comparison of R409 at the end of SCAN: the mean difference in 1/16 LSB is recorded against the outgoing slice; beyond the limit it is counted
and logged. -/
def handover (s : State) (diff : Int) : State :=
  match s.swapDue, nth s.sense.map s.sense.next none with
  | true, some j =>
    let v := satSigned 16 diff
    let old := s.get 0x3003 (j + 1)
    let s := s.setS 0x3003 (j + 1) v
    if decide (v.natAbs > s.get 0x3000 2) then
      logStateChange (s.count 0x3000 9) 0x3003 (j + 1) old (ofSigned 16 v)
    else s
  | _, _ => s

/-- The rotation state (0x3000:04), the position map (:05), and a slice's status (0x3001) and correction (0x3002) as they read. -/
def rotationWord (s : State) : Nat :=
  (satNat 16 s.sense.framesOut <<< 16) + (s.sense.next <<< 8) + s.sense.out.getD 31

/-- The position map: 0xFF where unserved. -/
def positionMap (s : State) : Nat := fromLE (s.sense.map.map (fun p => p.getD 0xFF))

/-- A slice's status word. -/
def sliceWord (s : State) (k : Nat) : Nat :=
  let x := nth s.sense.slices k ⟨.failed, 0, 0, 0, 0⟩
  let st := match x.state with | .inService => 0 | .out => 1 | .failed => 2
  (st <<< 30) + (x.missed <<< 24) + satNat 16 x.residual

/-- A slice's correction word. -/
def correctionWord (s : State) (k : Nat) : Nat :=
  let x := nth s.sense.slices k ⟨.failed, 0, 0, 0, 0⟩
  (x.g <<< 16) + ofSigned 16 x.o

end Sys2Proof.Machine
end

