-- ==== Sys2Proof/Machine/TouchPicture.lean ====
section
/-!
DEFINITION. The touch picture (chapter 12): the decoding of an image, signals, deltas and baselines, and the geometry of
blobs and peaks.
-/

namespace Sys2Proof.Machine

/-! ### Signals (R443, R444) -/

/-- The integer square root: the largest r of n bits whose square is not above v. -/
def isqrtFrom : Nat → Nat → Nat → Nat
  | 0, _, r => r
  | n + 1, v, r => isqrtFrom n v (if (r + 2 ^ n) * (r + 2 ^ n) ≤ v then r + 2 ^ n else r)

/-- The integer square root of a number below 2^128. -/
def isqrt (v : Nat) : Nat := isqrtFrom 64 v 0

/-- s = √(I² + Q²) in 1/256 count, of a sum over `div` steps. -/
def signal (i q : Int) (div : Nat) : Nat := isqrt ((i * i + q * q).toNat * 65536 / (max 1 div * max 1 div))

/-- Entry (k, r) of the Sylvester Hadamard matrix. -/
def hadamard (k r : Nat) : Int := if popcount 7 (k &&& r) % 2 = 0 then 1 else -1

/-- The results of a channel, in order. -/
def resultsOf (img : List BurstRes) (c : Nat) : List BurstRes := img.filter (fun r => r.channel == c)

/-- The signal of a mutual node: its row's step, or decoded from all of them (R444). -/
def nodeSignal (c : Scan) (img : List BurstRes) (row rx : Nat) : Option Nat :=
  let rs := (resultsOf img rx).take c.steps
  if rs.length < c.steps then none
  else if c.coded then
    let z := (List.range c.steps).zip rs
    some (signal ((z.map (fun e => hadamard e.1 row * e.2.i)).sum) ((z.map (fun e => hadamard e.1 row * e.2.q)).sum) c.steps)
  else (rs[row]?).map (fun r => signal r.i r.q 1)

/-- The signal of a self channel: the result after those of its mutual steps. -/
def chanSignal (c : Scan) (img : List BurstRes) (ch : Nat) : Option Nat :=
  let skip := if c.rows ≠ 0 && c.grid.contains ch then c.steps else 0
  ((resultsOf img ch)[skip]?).map (fun r => signal r.i r.q 1)

/-! ### Baselines (R451, R452; log entry 30) -/

/-- The number of a mutual node among the nodes and channels. -/
def nodeNo (row rx : Nat) : Nat := row * 80 + rx

/-- The number of a self channel. -/
def chanNo (ch : Nat) : Nat := 10240 + ch

/-- The key of a baseline by profile and hop. -/
def baseKey (p h i : Nat) : Nat := (p * 8 + h) * 16384 + i

/-- A baseline. -/
def State.base (s : State) (p h i : Nat) : Base := sparseGet s.touch.bases (baseKey p h i) ⟨0, 0⟩

/-- A baseline replaced. -/
def State.setBase (s : State) (p h i : Nat) (b : Base) : State :=
  { s with touch := { s.touch with bases := sparseSet s.touch.bases (baseKey p h i) b ⟨0, 0⟩ } }

/-- The age of a hop's baselines. -/
def State.hopAge (s : State) (p h : Nat) : Option HopAge := (s.touch.ages.find? (fun e => e.1 == p * 8 + h)).map (·.2)

/-- A hop's baselines are stale: never formed, marked, or not updated for the rebase age (R452). -/
def State.hopStale (s : State) (p h : Nat) : Bool :=
  match s.hopAge p h with
  | none => true
  | some a => a.stale || decide (a.updated + s.get 0x3210 12 * 1000000000 ≤ s.now)

/-- A hop's baselines have been updated in this frame. -/
def hopUpdated (s : State) (p h : Nat) : State :=
  { s with touch := { s.touch with ages := sparseInsert s.touch.ages (p * 8 + h) ⟨s.now, false⟩ } }

/-- Every baseline becomes stale (R452). -/
def staleAll (s : State) : State :=
  { s with touch := { s.touch with ages := s.touch.ages.map (fun e => (e.1, { e.2 with stale := true })) } }

/-- The delta of a signal against its baseline in 1/1024, towards zero and limited (R443): `rises` for a self channel. -/
def delta (s : State) (rises : Bool) (i b sig : Nat) : Int :=
  let x : Int := if rises then (sig : Int) - b else (b : Int) - sig
  clampInt (-32768) 32767 (if b = 0 then Config.deltaAtZero s.draws i else (1024 * x).tdiv b)

/-- A list in order by a relation: insertion. -/
def insertBy (le : α → α → Bool) (x : α) : List α → List α
  | [] => [x]
  | y :: rest => if le x y then x :: y :: rest else y :: insertBy le x rest

/-- A list sorted by a relation, equal elements in their order. -/
def sortBy (le : α → α → Bool) (l : List α) : List α := l.foldr (insertBy le) []

/-- The median of a list of rationals: the mean of the middle two where the count is even. -/
def medianRat (l : List Rat) : Option Rat :=
  let m := sortBy (fun (a b : Rat) => decide (a ≤ b)) l
  match m[m.length / 2]?, m[(m.length - 1) / 2]? with
  | some a, some b => some ((a + b) / 2)
  | _, _ => none

/-- A measured point: its number, whether it lies in the footprints of R451, and its signal. -/
structure Meas where
  no : Nat
  inside : Bool
  sig : Nat
deriving DecidableEq, Repr

/-- The rebase of R452: points outside the footprints take b = s; those inside their stale b times the median of s / b of the others. -/
def rebase (s : State) (p h : Nat) (l : List Meas) : State :=
  let out := l.filter (fun m => !m.inside)
  let ratio := medianRat ((out.filter (fun m => decide ((s.base p h m.no).b ≠ 0))).map (fun m => (m.sig : Rat) / (s.base p h m.no).b))
  l.foldl (fun (t : State) m =>
    if !m.inside then t.setBase p h m.no ⟨m.sig, 0⟩
    else
      match ratio with
      | some r => t.setBase p h m.no ⟨((t.base p h m.no).b * r).floor.toNat, 0⟩
      | none => t) s

/-- The seeding of R488: every baseline of the hop in force takes b = s. -/
def seed (s : State) (p h : Nat) (l : List Meas) : State := l.foldl (fun (t : State) m => t.setBase p h m.no ⟨m.sig, 0⟩) s

/-- The update of one baseline at the end of PROCESS (R451): `k` is the rate, `neg` the negative threshold in force. -/
def trackBase (s : State) (p h k neg : Nat) (d : Int) (m : Meas) : State :=
  let b := s.base p h m.no
  if m.inside then s
  else if d.natAbs ≤ s.get 0x3210 4 then
    s.setBase p h m.no ⟨((b.b : Int) + ((m.sig : Int) - b.b).tdiv (2 ^ k)).toNat, b.neg⟩
  else if d ≤ -(neg : Int) then
    if b.neg + 1 ≥ s.get 0x3210 13 then s.setBase p h m.no ⟨m.sig, 0⟩ else s.setBase p h m.no ⟨b.b, b.neg + 1⟩
  else s.setBase p h m.no ⟨b.b, 0⟩

/-! ### Geometry -/

/-- A mutual node of the picture. -/
structure Node where
  row : Nat
  rx : Nat
  sig : Nat
  d : Int
deriving DecidableEq, Repr

/-- A self channel of the picture. -/
structure Chan where
  ch : Nat
  sig : Nat
  d : Int
deriving DecidableEq, Repr

/-- The square of the distance between two points. -/
def dist2 (a b : Nat × Nat) : Nat :=
  (((a.1 : Int) - b.1) * ((a.1 : Int) - b.1) + ((a.2 : Int) - b.2) * ((a.2 : Int) - b.2)).toNat

/-- A node's place. -/
def Node.at_ (n : Node) : Nat × Nat := (n.row, n.rx)

/-- Two nodes touch, diagonally too. -/
def Node.adjacent (a b : Node) : Bool := decide (dist2 a.at_ b.at_ ≤ 2)

/-- A node joins the blobs it touches, which become one. -/
def joinBlob (blobs : List (List Node)) (n : Node) : List (List Node) :=
  let touching := blobs.filter (fun b => b.any (fun m => m.adjacent n))
  let apart := blobs.filter (fun b => !b.any (fun m => m.adjacent n))
  apart ++ [touching.flatten ++ [n]]

/-- The blobs at a threshold: sets of 8-connected nodes (R455). -/
def blobsAt (nodes : List Node) (thr : Int) : List (List Node) :=
  (nodes.filter (fun n => decide (thr ≤ n.d))).foldl joinBlob []

/-- The node with the highest d, ties to the lower row and then the lower RX. -/
def Node.above (a b : Node) : Bool :=
  decide (b.d < a.d) || (decide (a.d = b.d) && (decide (a.row < b.row) || (a.row == b.row && decide (a.rx < b.rx))))

/-- The highest node of a blob. -/
def topNode (b : List Node) : Option Node :=
  b.foldl (fun (m : Option Node) n => match m with
    | none => some n
    | some x => if n.above x then some n else some x) none

/-- The peaks among nodes at or above a threshold (R457): above each neighbour, and those less than 2 nodes apart merged into the higher one. -/
def peaksAt (nodes : List Node) (thr : Int) : List Node :=
  let ps := nodes.filter (fun n => decide (thr ≤ n.d) && nodes.all (fun m => m.at_ == n.at_ || !m.adjacent n || n.above m))
  (sortBy Node.above ps).foldl (fun (l : List Node) n => if l.any (fun m => decide (dist2 m.at_ n.at_ < 4)) then l else l ++ [n]) []

/-- d at a neighbour of a peak, clipped at 0; beyond the grid's edge it is mirrored (R457). -/
def neighbourD (c : Scan) (nodes : List Node) (n : Node) (dr dx : Int) : Int :=
  let inRow (k : Int) : Bool := decide (0 ≤ k) && decide (k < c.rows)
  let inCol (k : Int) : Bool := decide (0 ≤ k) && c.grid.contains k.toNat
  let r := if inRow ((n.row : Int) + dr) then (n.row : Int) + dr else (n.row : Int) - dr
  let x := if inCol ((n.rx : Int) + dx) then (n.rx : Int) + dx else (n.rx : Int) - dx
  match nodes.find? (fun m => decide ((m.row : Int) = r) && decide ((m.rx : Int) = x)) with
  | some m => max 0 m.d
  | none => 0

/-- The offsets of the 3 × 3 nodes. -/
def around : List (Int × Int) := [(-1, -1), (-1, 0), (-1, 1), (0, -1), (0, 0), (0, 1), (1, -1), (1, 0), (1, 1)]

/-- The centroid along one axis in 1/64 node, rounded to nearest. -/
def centroid (centre : Nat) (l : List (Int × Int)) : Nat :=
  let w := (l.map (·.2)).sum
  if w ≤ 0 then 64 * centre else (64 * (centre : Int) + divRound (64 * (l.map (fun e => e.1 * e.2)).sum) w.toNat).toNat

/-- The contact at a peak (R457, R486): `blob` are the nodes of its blob, `peaks` all peaks of the picture. -/
def contactAt (c : Scan) (nodes : List Node) (peaks : List Node) (blob : List Node) (n : Node) : Contact :=
  let near := blob.filter (fun m => peaks.all (fun q => q.at_ == n.at_ || decide (dist2 m.at_ n.at_ ≤ dist2 m.at_ q.at_)))
  let ds := around.map (fun o => (o, neighbourD c nodes n o.1 o.2))
  let axes := Config.touchAxes (near.map (fun m => (m.row, m.rx, m.d)))
  { row := n.row, rx := n.rx
    x := centroid n.rx (ds.map (fun e => (e.1.2, e.2)))
    y := centroid n.row (ds.map (fun e => (e.1.1, e.2)))
    peak := n.d.toNat, area := near.length, major := min 255 axes.1, minor := min 255 axes.2
    edge := around.any (fun o => !nodes.any (fun m =>
      decide ((m.row : Int) = n.row + o.1) && decide ((m.rx : Int) = n.rx + o.2))) }

end Sys2Proof.Machine
end

