-- ==== Sys2Proof/Machine/Touch.lean ====
section
/-!
DEFINITION. The contact engine (chapter 12): PROCESS in the order of Table 12.6, reports, buttons, gestures, approach and pre-arm, the hop decision, and the
timers and commands of the touch surface.
-/

namespace Sys2Proof.Machine

/-! ### Step 1: the picture -/

/-- What PROCESS works on in one frame. -/
structure Look where
  scan : Scan
  prof : Nat
  hop : Nat
  nodes : List Node
  chans : List Chan
  meas : List (Meas × Int)
  /-- a channel of the scan has no burst result (R486) -/
  missing : Bool
  rebased : Bool
  settling : Bool
  /-- the mutual image is discarded (R485) -/
  hvBad : Bool

/-- Button b is pressed. -/
def State.pressed (s : State) (b : Nat) : Bool := s.flag 0x3221 1 b

/-- The factor on every threshold in force while NOISE is set (R487). -/
def State.noiseFactor (s : State) : Nat := if s.flag 0x3202 6 4 then 2 else 1

/-- A threshold of 0x3210 in force. -/
def State.threshold (s : State) (sub : Nat) : Nat := s.noiseFactor * s.get 0x3210 sub

/-- The raw signals of the image: the mutual nodes and the self channels that have results. -/
def rawSignals (s : State) (c : Scan) (hvBad : Bool) : List (Nat × Nat × Nat) × List (Nat × Nat) :=
  let img := s.touch.image
  let nodes := if hvBad then [] else
    (List.range c.rows).flatMap (fun r => c.grid.filterMap (fun x => (nodeSignal c img r x).map (fun v => (r, x, v))))
  (nodes, c.selfs.filterMap (fun ch => (chanSignal c img ch).map (fun v => (ch, v))))

/-- The points measured, each with whether it lies in the footprints of R451 or belongs to a pressed button. -/
def measured (s : State) (foot : List (Nat × Nat)) (raw : List (Nat × Nat × Nat) × List (Nat × Nat)) : List Meas :=
  raw.1.map (fun e => ⟨nodeNo e.1 e.2.1, foot.contains (e.1, e.2.1), e.2.2⟩)
    ++ raw.2.map (fun e => ⟨chanNo e.1,
      (decide (e.1 < 80) && foot.any (fun f => f.2 == e.1)) || (decide (80 ≤ e.1) && s.pressed (e.1 - 80)), e.2⟩)

/-- The buttons that take b = s after a stuck press (R464). -/
def rebaseButtons (s : State) (p h : Nat) (l : List Meas) : State :=
  let due (m : Meas) : Bool := decide (chanNo 80 ≤ m.no) && (nth s.touch.buttons (m.no - chanNo 80) ⟨0, 0, false⟩).rebase
  let t := seed s p h (l.filter due)
  { t with touch := { t.touch with buttons := t.touch.buttons.map (fun b => { b with rebase := false }) } }

/-- Step 1 (R443, R444, R452, R483, R486, R488): the image is decoded, stale baselines are rebased or seeded, and every d is computed. -/
def takePicture (s : State) (p : Nat) (hvBad : Bool) : State × Look :=
  let s := s.draw
  let c := s.scan p
  let h := s.get 0x3203 12
  let raw := rawSignals s c hvBad
  let l := measured s s.touch.footprint raw
  let settling := s.touch.seedDue || decide (s.touch.settleLeft > 0)
  let seeding := s.touch.seedDue && !hvBad
  let stale := !s.touch.seedDue && s.hopStale p h
  let s := rebaseButtons s p h l
  let s := if seeding then seed s p h l else if stale then rebase s p h l else s
  let s : State := if seeding then { s with touch := { s.touch with seedDue := false, settleLeft := 8 } }
    else if s.touch.seedDue then s
    else { s with touch := { s.touch with settleLeft := s.touch.settleLeft - 1 } }
  let s := if hvBad then s else hopUpdated s p h
  let served (ch : Nat) : Bool := (nth s.sense.map (ch % 16) none).isSome
  (s,
    { scan := c, prof := p, hop := h
      nodes := raw.1.map (fun e => ⟨e.1, e.2.1, e.2.2, delta s false (nodeNo e.1 e.2.1) (s.base p h (nodeNo e.1 e.2.1)).b e.2.2⟩)
      chans := raw.2.map (fun e => ⟨e.1, e.2, delta s true (chanNo e.1) (s.base p h (chanNo e.1)).b e.2⟩)
      meas := l.map (fun m => (m, delta s (decide (chanNo 0 ≤ m.no)) m.no (s.base p h m.no).b m.sig))
      missing := (if c.rows = 0 then [] else c.grid).any (fun ch => !served ch) || c.selfs.any (fun ch => !served ch)
      rebased := stale, settling := settling, hvBad := hvBad })

/-! ### Step 2: water, palm and glove (R453 to R455) -/

/-- The self d of a channel. -/
def Look.selfD (v : Look) (ch : Nat) : Option Int := (v.chans.find? (fun c => c.ch == ch)).map (·.d)

/-- Glove mode is in force (R454). -/
def State.gloved (s : State) : Bool := s.get 0x3210 10 == 2 || (s.get 0x3210 10 == 0 && s.touch.gloveMode)

/-- Glove mode starts after 3 frames in a row with a peak between the thresholds over a self d at the glove threshold (R454). -/
def gloveStep (s : State) (v : Look) : State :=
  let hit := !v.settling && (peaksAt v.nodes (s.threshold 2)).any (fun n =>
    decide (n.d < s.threshold 1) && ((v.selfD n.rx).map (fun d => decide ((s.threshold 2 : Int) ≤ d))).getD false)
  let run := if hit && s.get 0x3210 10 == 0 then min 3 (s.touch.gloveRun + 1) else 0
  { s with touch := { s.touch with
    gloveRun := run, gloveMode := s.get 0x3210 10 == 0 && (s.touch.gloveMode || decide (run = 3)) } }

/-- A blob is water: the self scan covers its columns and none shows a touch (R453). -/
def State.waterBlob (s : State) (v : Look) (b : List Node) : Bool :=
  s.get 0x3210 11 == 0 && b.all (fun n => match v.selfD n.rx with
    | some d => decide (d < s.threshold 2)
    | none => false)

/-- The blobs of the frame by kind, the nodes that mark water, and the candidates. -/
structure Kinds where
  palms : List (List Node)
  water : List (List Node)
  fingers : List (List Node)
  negative : List Node
  cands : List Contact

/-- The threshold in force for contacts (R454). -/
def State.contactThreshold (s : State) : Nat := if s.gloved then s.threshold 2 else s.threshold 1

/-- Classification (R453, R455, R457). -/
def classify (s : State) (v : Look) : Kinds :=
  let thr := s.contactThreshold
  let blobs := blobsAt v.nodes thr
  let water := blobs.filter (s.waterBlob v)
  let rest := blobs.filter (fun b => !s.waterBlob v b)
  let palms := rest.filter (fun b => decide (s.get 0x3210 9 ≤ b.length))
  let fingers := rest.filter (fun b => !decide (s.get 0x3210 9 ≤ b.length))
  let peaks := peaksAt v.nodes thr
  let free (n : Node) : Bool := !palms.any (fun b => b.any (fun m => decide (dist2 m.at_ n.at_ ≤ 4)))
  { palms := palms, water := water, fingers := fingers
    negative := if s.get 0x3210 11 = 0 then v.nodes.filter (fun n => decide (n.d ≤ -(s.threshold 3 : Int))) else []
    cands := (peaks.filter free).filterMap (fun n =>
      (fingers.find? (fun b => b.contains n)).map (fun b => contactAt v.scan v.nodes peaks b n)) }

/-! ### Step 3: tracking (R458, R459) -/

/-- What tracking has found: live tracks, ended ones with STUCK and LOST, candidates, new tracks, and completed taps. -/
structure Tracking where
  live : List Track
  ups : List (Track × Bool × Bool)
  cands : List Cand
  fresh : List Track
  taps : List TouchTap
  /-- candidates that found no slot -/
  unslotted : Nat
  nextId : Nat

/-- A track's position in 1/64 node. -/
def Contact.pos (c : Contact) : Nat × Nat := (c.x, c.y)

/-- The pairs of a track and a candidate no more than the maximum jump apart, nearest first, ties to the lower track ID. -/
def pairsOf (tracks : List Track) (cands : List Contact) (jump : Nat) : List (Track × Contact) :=
  let all := tracks.flatMap (fun t => cands.map (fun c => (t, c)))
  let d (e : Track × Contact) : Nat := dist2 e.1.at_.pos e.2.pos
  sortBy (fun a b => decide (d a < d b) || (decide (d a = d b) && decide (a.1.id ≤ b.1.id)))
    (all.filter (fun e => decide (d e ≤ 64 * jump * (64 * jump))))

/-- Pairs matched while both are free (R458 step 1). -/
def matchPairs (l : List (Track × Contact)) : List (Track × Contact) :=
  l.foldl (fun (m : List (Track × Contact)) e => if m.any (fun x => x.1.id == e.1.id || x.2 == e.2) then m else m ++ [e]) []

/-- The next ID not in use (R458 step 4). -/
def freeId (live : List Nat) : Nat → Nat → Nat
  | 0, n => n
  | k + 1, n => if live.contains n then freeId live k ((n + 1) % 256) else n

/-- A candidate's frames within 1 node of its first position. -/
def candOf (old : List Cand) (c : Contact) : Cand :=
  match old.find? (fun x => decide (dist2 (x.firstX, x.firstY) c.pos ≤ 4096)) with
  | some x => { x with frames := x.frames + 1 }
  | none => ⟨c.x, c.y, 1⟩

/-- The new contacts (R458 steps 3 to 5): in order of descending peak while slots are left. -/
def startNew (s : State) (need slots : Nat) (l : List Contact) (t : Tracking) : Tracking :=
  (sortBy (fun (a b : Contact) => decide (b.peak ≤ a.peak)) l).foldl (fun (t : Tracking) c =>
    let k := candOf s.touch.cands c
    if k.frames < need then { t with cands := t.cands ++ [k] }
    else if t.fresh.length ≥ slots then { t with cands := t.cands ++ [k], unslotted := t.unslotted + 1 }
    else
      let id := freeId ((t.live ++ t.fresh).map (·.id)) 256 t.nextId
      { t with fresh := t.fresh ++ [⟨id, c, s.frame, s.now, c.x, c.y, false⟩], nextId := (id + 1) % 256 }) t

/-- A track lies inside a palm (R455): the node nearest to it is one of the palm's. -/
def insidePalm (k : Kinds) (t : Track) : Bool :=
  let n := ((t.at_.y + 32) / 64, (t.at_.x + 32) / 64)
  k.palms.any (fun b => b.any (fun m => m.at_ == n))

/-- Tracking in a frame whose mutual image stands (R458, R459). -/
def trackContacts (s : State) (k : Kinds) : Tracking :=
  let held := if s.touch.overruns ≥ 3 then s.touch.tracks else []
  let now := if s.touch.overruns ≥ 3 then [] else s.touch.tracks
  let palmed := now.filter (insidePalm k)
  let tracks := now.filter (fun t => !insidePalm k t)
  let pairs := matchPairs (pairsOf tracks k.cands (s.get 0x3210 6))
  let lifted := tracks.filter (fun t => !pairs.any (fun e => e.1.id == t.id))
  let moved := pairs.map (fun e => { e.1 with at_ := e.2 })
  let stuck := moved.filter (fun t => s.touch.stuckTracks.contains t.id)
  let live := moved.filter (fun t => !s.touch.stuckTracks.contains t.id)
  let ups := (s.touch.ending ++ held).map (fun t => (t, false, true)) ++ (palmed ++ lifted).map (fun t => (t, false, false))
    ++ stuck.map (fun t => (t, true, false))
  let thr := s.contactThreshold
  let fits (c : Contact) : Bool :=
    !k.negative.any (fun n => decide (dist2 n.at_ (c.row, c.rx) ≤ 4)) || decide (3 * thr ≤ 2 * c.peak)
  let unmatched := (k.cands.filter (fun c => !pairs.any (fun e => e.2 == c))).filter fits
  let taps := (lifted.filter (fun t => decide (s.now - t.downTime ≤ s.get 0x3232 3 * 1000000))).map
    (fun t => (⟨t.downTime, t.downX, t.downY⟩ : TouchTap))
  startNew s (s.get 0x3210 7 + b2n (s.flag 0x3202 6 4)) (20 - ups.length - live.length) unmatched
    ⟨live, ups, [], [], taps, 0, s.touch.nextId⟩

/-- Tracking without a mutual image, or in SETTLING: tracks are held, nothing starts (R485, R488). -/
def holdTracks (s : State) : Tracking :=
  let held := if s.touch.overruns ≥ 3 then s.touch.tracks else []
  ⟨if s.touch.overruns ≥ 3 then [] else s.touch.tracks, (s.touch.ending ++ held).map (fun t => (t, false, true)),
    s.touch.cands, [], [], 0, s.touch.nextId⟩

/-- A contact record (Table 12.8): `state` 0 DOWN, 1 MOVE, 2 UP. -/
def contactRecord (s : State) (state : Nat) (stuck lost : Bool) (t : Track) : List Nat :=
  let c := t.at_
  [0x11, t.id, (state <<< 6) + 32 * b2n s.gloved + 16 * b2n c.edge + 8 * b2n stuck + 4 * b2n lost, 0]
    ++ toLE 2 c.x ++ toLE 2 c.y ++ toLE 2 c.peak ++ toLE 2 (satNat 16 c.area) ++ [c.major, c.minor]
    ++ toLE 2 (satNat 16 (s.frame - t.downFrame))

/-- The records of a report: UP first, continuing tracks second, new contacts last (R458 step 5). -/
def Tracking.records (t : Tracking) (s : State) : List (List Nat) :=
  (t.ups.map (fun e => contactRecord s 2 e.2.1 e.2.2 e.1) ++ t.live.map (contactRecord s 1 false false)
    ++ t.fresh.map (contactRecord s 0 false false)).take 20

/-! ### Step 4: buttons (R462 to R465) -/

/-- A button as the frame finds it. -/
inductive ButtonSeen where
  /-- it reads released: not scanned, settling, or without a result -/
  | released (missing : Bool)
  | at_ (d : Int)

/-- The settings of button b. -/
def State.buttonWord (s : State) (b : Nat) : Nat := s.get 0x3220 (b + 1)

/-- What the frame shows of button b. -/
def seeButton (s : State) (v : Look) (b : Nat) : ButtonSeen :=
  let enabled := bit (s.buttonWord b) 0 && v.scan.selfs.contains (80 + b)
  match v.selfD (80 + b) with
  | none => .released enabled
  | some d => if enabled && !v.settling then .at_ d else .released false

/-- A button's bit changes with its event (R462). -/
def setButton (s : State) (b : Nat) (p : Bool) : State :=
  if s.pressed b = p then s else raise (s.setFlag 0x3221 1 b p) (480 + b)

/-- The runs of a button replaced. -/
def State.setRuns (s : State) (b press release : Nat) : State :=
  { s with touch := { s.touch with buttons := s.touch.buttons.modify b (fun x => { x with pressRun := press, releaseRun := release }) } }

/-- Button b's runs and release (R462, R486); presses are decided together. -/
def stepButton (s : State) (v : Look) (b : Nat) : State :=
  let x := nth s.touch.buttons b ⟨0, 0, false⟩
  let w := s.buttonWord b
  match seeButton s v b with
  | .released m => setButton ((s.setFlag 0x3221 3 b m).setRuns b 0 0) b false
  | .at_ d =>
    let s := s.setFlag 0x3221 3 b false
    if s.pressed b then
      let run := if d < (s.noiseFactor * bits w 12 10 : Nat) then x.releaseRun + 1 else 0
      if run ≥ bits w 4 4 then setButton (s.setRuns b 0 0) b false else s.setRuns b 0 run
    else s.setRuns b (if (s.noiseFactor * bits w 22 10 : Nat) ≤ d then x.pressRun + 1 else 0) 0

/-- The presses R462 would report. -/
def State.pressesDue (s : State) : List Nat :=
  (List.range 8).filter (fun b => !s.pressed b && decide (0 < (nth s.touch.buttons b ⟨0, 0, false⟩).pressRun)
    && decide (bits (s.buttonWord b) 8 4 ≤ (nth s.touch.buttons b ⟨0, 0, false⟩).pressRun))

/-- A press is reported: its stuck bit clears and it counts (R462, R464). -/
def pressButton (s : State) (b : Nat) : State := setButton (((s.setRuns b 0 0).setFlag 0x3221 2 b false).count 0x3221 (8 + b)) b true

/-- Step 4: the state, and the presses reported (R463). -/
def buttonStep (s : State) (v : Look) : State × List Nat :=
  let s := (List.range 8).foldl (fun (t : State) b => stepButton t v b) s
  let due := s.pressesDue
  let held := ((List.range 8).filter s.pressed).length
  if due.isEmpty then (s, [])
  else if held + due.length > s.get 0x3221 5 then (s.count 0x3221 7, [])
  else (due.foldl pressButton s, due)

/-! ### Step 5: gestures (R466 to R468) -/

/-- The blobs at the glove threshold, by their peaks, carried from frame to frame within the maximum jump; those that end in time are impulses. -/
def impulseStep (s : State) (v : Look) : State × List Nat :=
  if v.hvBad || v.settling then (s, [])
  else
    let tops := (blobsAt v.nodes (s.threshold 2)).filterMap topNode
    let near (i : Impulse) (n : Node) : Bool := decide (dist2 (i.row, i.rx) n.at_ ≤ s.get 0x3210 6 * s.get 0x3210 6)
    let gone := s.touch.blobs.filter (fun i => !tops.any (near i))
    let blobs := tops.map (fun n => match s.touch.blobs.find? (fun i => near i n) with
      | some i => (⟨i.start, n.row, n.rx⟩ : Impulse)
      | none => ⟨s.now, n.row, n.rx⟩)
    ({ s with touch := { s.touch with blobs := blobs } },
      (gone.filter (fun i => decide (s.now - i.start ≤ s.get 0x3232 9 * 1000000))).map (·.start))

/-- Each new element pairs with an earlier one, which it consumes, or waits (R467): what waits, and whether a pair was formed. -/
def pairUp (fits : α → α → Bool) (waiting new : List α) : List α × Bool :=
  new.foldl (fun (m : List α × Bool) x =>
    match m.1.findIdx? (fun y => fits y x) with
    | some i => (m.1.eraseIdx i, true)
    | none => (m.1 ++ [x], m.2)) (waiting, false)

/-- Two taps form a double tap (R466). -/
def State.tapsPair (s : State) (a b : TouchTap) : Bool :=
  decide (((a.time : Int) - b.time).natAbs ≤ s.get 0x3232 4 * 1000000)
    && decide (dist2 (a.x, a.y) (b.x, b.y) ≤ 64 * s.get 0x3232 5 * (64 * s.get 0x3232 5))

/-- The swipe of a single contact (R466): its code, measured from its DOWN record (log entry 65). -/
def State.swipeOf (s : State) (t : Track) : Option Nat :=
  let dx := (t.at_.x : Int) - t.downX
  let dy := (t.at_.y : Int) - t.downY
  let far := decide (64 * s.get 0x3232 6 * (64 * s.get 0x3232 6) ≤ dist2 t.at_.pos (t.downX, t.downY))
  if t.swiped || !far || s.now - t.downTime > s.get 0x3232 7 * 1000000 then none
  else if dy.natAbs ≤ dx.natAbs then some (if 0 < dx then 2 else 3)
  else some (if 0 < dy then 4 else 5)

/-- The bit of 0x3232:01 for a gesture; 0 is a button press. -/
def gestureBit (g : Nat) : Nat := if g = 1 then 0 else if g = 6 then 2 else if g = 0 then 3 else 1

/-- No transition is in progress, in LISTEN. -/
def State.listenAtRest (s : State) : Bool := s.aocb.pstate == .listen && s.aocb.target == .listen && s.seq.run.isNone

/-- A recognised gesture (R468): reported, and when enabled raised and, in LISTEN, a wake request. -/
def recognise (s : State) (g : Nat) : State :=
  let s := if g = 0 then s else s.set 0x3232 10 g
  if !s.flag 0x3232 1 (gestureBit g) then s
  else
    let s := raiseEv s 489 268
    if s.listenAtRest && s.get 0x3232 2 == 1 then powerRequest (s.count 0x3232 11) .run false else s

/-- Step 5: the state, the new contacts' list with a swipe marked, and GESTURE. Where a swipe comes in the frame of a double tap or a knock, each is recognised, and
GESTURE and 0x3232:0A show the tap or knock (the model's choice, log entry 65). -/
def gestureStep (s : State) (v : Look) (t : Tracking) (presses : List Nat) : State × Tracking × Nat :=
  let imp := impulseStep s v
  let s := imp.1
  let tapLife := (s.get 0x3232 4 + s.get 0x3232 3) * 1000000
  let knockLife := (s.get 0x3232 8 + s.get 0x3232 9) * 1000000
  let taps := pairUp s.tapsPair (s.touch.taps.filter (fun x => decide (s.now ≤ x.time + tapLife))) t.taps
  let knocks := pairUp (fun (a b : Nat) => decide (((a : Int) - b).natAbs ≤ s.get 0x3232 8 * 1000000))
    (s.touch.impulses.filter (fun x => decide (s.now ≤ x + knockLife))) imp.2
  let s : State := { s with touch := { s.touch with taps := taps.1, impulses := knocks.1 } }
  let swipe := match t.live, t.fresh with
    | [x], [] => s.swipeOf x
    | _, _ => none
  let t := if swipe.isSome then { t with live := t.live.map (fun x => { x with swiped := true }) } else t
  let found := if v.settling then [] else
    (if taps.2 then [1] else if knocks.2 then [6] else []) ++ swipe.toList
  let s := (found.reverse ++ (if presses.isEmpty then [] else [0])).foldl recognise s
  (s, t, found.headD 0)

/-! ### Step 6: approach and pre-arm (R469 to R476) -/

/-- The self sum: the positive self d of the RX channels (R469). -/
def Look.selfSum (v : Look) : Nat := ((v.chans.filter (fun c => decide (c.ch < 80))).map (fun c => c.d.toNat)).sum

/-- Calibration point k in force: distance and sum. -/
def State.point (s : State) (k : Nat) : Nat × Nat := (bits (s.inForce 0x3233 (k + 1)) 24 8, bits (s.inForce 0x3233 (k + 1)) 0 24)

/-- The distance of a self sum (R469), rounded to 1 mm. -/
def State.distanceOf (s : State) (sum : Nat) : Nat :=
  if (s.point 0).2 ≤ sum then (s.point 0).1
  else
    match (List.range 7).find? (fun k => decide ((s.point (k + 1)).2 ≤ sum)) with
    | none => 0xFF
    | some k =>
      let a := s.point k
      let b := s.point (k + 1)
      let w := a.2 - b.2
      a.1 + (2 * (b.1 - a.1) * (a.2 - sum) + w) / (2 * w)

/-- The approach distance of the frame. -/
def State.approach (s : State) (v : Look) (contact : Bool) : Nat :=
  if v.settling then 0xFF
  else if contact then 0
  else if !v.scan.selfs.any (fun c => decide (c < 80)) then 0xFF
  else s.distanceOf v.selfSum

/-- One enabled entry acts on its rail at the start (R471); `true` marks a rail the pre-arm itself enabled. -/
def prearmEntry (s : State) (w : Nat) : State × Option (Nat × Bool) :=
  let n := bits w 0 4
  let target := s.stateTarget n 2
  let r := s.rail n
  let standing := r.enabled && !r.disabling && r.vset == 100 * target
  if !bit w 15 || target = 0 || standing || r.offByFault || s.enableFails n false then (s, none)
  else if r.enabled then (railCommand s n target false false, some (n, false))
  else if bit w 14 then
    (match readSense s with
      | (s, true) => (refuseSense s n, none)
      | (s, false) => (railEnable s n target, some (n, true)))
  else (s, none)

/-- The pre-arm starts (R471). -/
def prearmStart (s : State) : State :=
  let r := (List.range 4).foldl (fun (m : State × List (Nat × Bool)) k =>
    match prearmEntry m.1 (s.get 0x3240 (6 + k)) with
    | (t, some a) => (t, m.2 ++ [a])
    | (t, none) => (t, m.2)) (s, [])
  let w := r.2.foldl (fun w e => setBit (clearBit w (16 + e.1)) e.1) (s.get 0x3241 2)
  let s := (r.1.set 0x3241 2 w).set 0x3241 1 1
  raiseEv (({ s with touch := { s.touch with acted := r.2 } } : State).count 0x3241 3) 490 269

/-- Whether a pre-arm starts in this frame (R470). -/
def State.prearmDue (s : State) : Bool :=
  s.get 0x3240 1 == 1 && (List.range 4).any (fun k => bit (s.get 0x3240 (6 + k)) 15) && s.get 0x3241 1 == 0 && s.listenAtRest && s.onVin
    && decide (s.get 0x3240 3 ≤ s.touch.approachRun)

/-- Step 6 (R470, R472, R477): the start, the hold of a pre-arm that stands, and its return. -/
def prearmStep (s : State) (v : Look) (contact landed : Bool) : State :=
  let dist := s.approach v contact
  let s := (s.set 0x3233 9 dist).set 0x3233 10 v.selfSum
  if v.settling then { s with touch := { s.touch with approachRun := 0 } }
  else
    let quiet := !contact && decide (s.get 0x3221 1 = 0)
    let near := quiet && decide (dist ≤ s.get 0x3240 2)
    let s : State := { s with touch := { s.touch with approachRun := if near then min 16 (s.touch.approachRun + 1) else 0 } }
    if s.get 0x3241 1 == 1 && landed then s.set 0x3241 1 2
    else if s.get 0x3241 1 == 2 && quiet then s.set 0x3241 1 1
    else if s.prearmDue then prearmStart s
    else s

/-! ### Step 7: the hop decision and the baselines (R448, R449, R451, R487) -/

/-- The median baseline of a hop: mutual, or self where rows are 0 (R448). -/
def State.medianBase (s : State) (c : Scan) (p h : Nat) : Option Nat :=
  let keys := if c.rows = 0 then c.selfs.map chanNo else (List.range c.rows).flatMap (fun r => c.grid.map (nodeNo r))
  let bs := (keys.map (fun i => (s.base p h i).b)).filter (fun b => decide (b ≠ 0))
  (medianRat (bs.map (fun (b : Nat) => (b : Rat)))).map (fun r => r.floor.toNat)

/-- n(h) in 1/256 from the sum of I² + Q² over `n` channels (R448); a hop without baselines has a free one. -/
def State.noiseOf (s : State) (c : Scan) (p h tl sum n : Nat) : Nat :=
  match s.medianBase c p h with
  | none => Config.noiseAtZero s.draws h
  | some b =>
    -- (1024 · 256)² · (sum / n) · (t_m / t_l) / (b / 256)², with t_m = c_m / f
    isqrt ((1024 * 256) ^ 2 * sum * c.cm * 1000000 * 65536 / (max 1 n * s.hopFreq h * tl * b * b))

/-- The noise of each enabled hop at the end of LISTEN (R448): hops in ascending order, each channel once at each. -/
def measureNoise (s : State) (p : Nat) : State :=
  let c := s.scan p
  match s.listenUs c with
  | none => s
  | some tl =>
    let s := s.draw
    let at_ (k : Nat) : List BurstRes := c.grid.filterMap (fun ch => (resultsOf s.touch.listen ch)[k]?)
    let noise := (List.range 8).map (fun h => match s.hops.findIdx? (fun x => x == h) with
      | some k => s.noiseOf c p h tl ((at_ k).map (fun r => (r.i * r.i + r.q * r.q).toNat)).sum (at_ k).length
      | none => 0)
    { s with touch := { s.touch with noise := noise } }

/-- The hop with the lowest filtered noise, ties to the lower entry. -/
def State.bestHop (s : State) (nf : List Rat) : Nat :=
  (s.hops.foldl (fun (m : Option Nat) h => match m with
    | none => some h
    | some b => if nth nf h 0 < nth nf b 0 then some h else some b) none).getD 0

/-- NOISE follows the lowest filtered noise (R487). -/
def noiseFlag (s : State) (low : Rat) : State :=
  if low > (s.get 0x3203 10 : Rat) then { s.setFlag 0x3202 6 4 true with touch := { s.touch with quietRun := 0 } }
  else if s.flag 0x3202 6 4 then
    if s.touch.quietRun + 1 ≥ 16 then { s.setFlag 0x3202 6 4 false with touch := { s.touch with quietRun := 0 } }
    else { s with touch := { s.touch with quietRun := s.touch.quietRun + 1 } }
  else s

/-- The hop decision (R449). Without listening the hop stays on the lowest enabled entry and NOISE is never set (R448). -/
def hopDecision (s : State) (v : Look) : State :=
  let cur := v.hop
  match s.listenUs v.scan with
  | none => { s.setFlag 0x3202 6 4 false with touch := { s.touch with nextHop := s.hops.headD 0, hopCond := false } }
  | some _ =>
    let n (h : Nat) : Rat := ((nth s.touch.noise h (0 : Nat) : Nat) : Rat) / 256
    let nf := (List.range 8).map (fun h =>
      let old := nth s.touch.filtered h 0
      if s.hops.contains h then old + (n h - old) / 4 else old)
    let best := s.bestHop nf
    let cond := decide (nth nf cur 0 * 8 > (s.get 0x3203 9 : Rat) * nth nf best 0)
    let choose := !s.hops.contains cur || (decide (n cur > (s.get 0x3203 10 : Rat)) && best != cur)
      || (cond && s.touch.hopCond && decide (s.get 0x3203 11 ≤ s.touch.framesSinceHop))
    let s := (List.range 8).foldl (fun (t : State) h => t.set 0x3204 (h + 1) (satNat 16 (nth nf h 0).floor.toNat)) s
    let s : State := { s with touch := { s.touch with
      filtered := nf, hopCond := cond, nextHop := if choose then best else cur } }
    noiseFlag s (nth nf best 0)

/-- The nodes within one node of a blob's. -/
def expand (c : Scan) (blobs : List (List Node)) : List (Nat × Nat) :=
  let at_ := blobs.flatten.map Node.at_
  (List.range c.rows).flatMap (fun r => c.grid.filterMap (fun x => if at_.any (fun a => decide (dist2 a (r, x) ≤ 2)) then some (r, x) else none))

/-- Blobs whose nodes take b = s: those of contacts and palms that the stuck time has ended (R459). -/
def absorbed (s : State) (k : Kinds) (t : Tracking) : List (List Node) :=
  k.fingers.filter (fun b => t.ups.any (fun e => e.2.1 && b.any (fun n => n.at_ == (e.1.at_.row, e.1.at_.rx))))
    ++ k.palms.filter (fun b => s.touch.stuckPalms.any (fun q => b.any (fun n => n.at_ == q)))

/-- The update of every baseline of the hop in force (R451, R459, R488). -/
def baselineStep (s : State) (v : Look) (k : Kinds) (t : Tracking) : State :=
  let gone := absorbed s k t
  let at_ := gone.flatten.map Node.at_
  let held := (k.fingers.filter (fun b => t.live.any (fun x => b.any (fun n => n.at_ == (x.at_.row, x.at_.rx)))
    || t.fresh.any (fun x => b.any (fun n => n.at_ == (x.at_.row, x.at_.rx))))) ++ k.palms ++ k.water
  let foot := if v.hvBad then s.touch.footprint else expand v.scan (held.filter (fun b => !gone.contains b))
  let rate := if v.settling then 2 else s.get 0x3210 5
  let inside (m : Meas) : Bool :=
    if m.no < chanNo 0 then foot.contains (m.no / 80, m.no % 80)
    else if m.no < chanNo 80 then foot.any (fun f => f.2 == m.no - chanNo 0)
    else s.pressed (m.no - chanNo 80)
  let neg := s.threshold 3
  let s := v.meas.foldl (fun (t : State) e =>
    if at_.any (fun a => nodeNo a.1 a.2 == e.1.no) then t.setBase v.prof v.hop e.1.no ⟨e.1.sig, 0⟩
    else trackBase t v.prof v.hop rate neg e.2 { e.1 with inside := inside e.1 }) s
  { s with touch := { s.touch with footprint := foot } }

/-! ### Step 8 and the report (R456, R460, R461) -/

/-- The reference baselines are captured from the enabled buttons (R465). -/
def captureStep (s : State) (v : Look) : State :=
  if !s.touch.capture then s
  else
    let s := (List.range 8).foldl (fun (t : State) b =>
      if bit (t.buttonWord b) 0 then (t.set 0x3222 (b + 1) (t.base v.prof v.hop (chanNo (80 + b))).b).setFlag 0x3221 4 b false else t) s
    { s with touch := { s.touch with capture := false } }

/-- A drifted button's bit clears when its baseline is within the limit again, or its reference is 0 (R465). -/
def State.drifted (s : State) (p h b : Nat) : Bool :=
  let ref := s.get 0x3222 (b + 1)
  let base := (s.base p h (chanNo (80 + b))).b
  decide (ref ≠ 0) && decide (((base : Int) - ref).natAbs * 100 > s.get 0x3222 10 * ref)

/-- The drift bits that no longer hold clear. -/
def driftStep (s : State) (v : Look) : State :=
  (List.range 8).foldl (fun (t : State) b => if t.flag 0x3221 4 b && !t.drifted v.prof v.hop b then t.setFlag 0x3221 4 b false else t) s

/-- The touch flags of the frame (Table 12.3, 06): SCAN_FIT, HV_FAULT and NOISE stand as they are. -/
def frameFlags (s : State) (v : Look) (k : Kinds) : State :=
  let w := s.get 0x3202 6
  let kept := b2n (bit w 7) * 128 + b2n (bit w 5) * 32 + b2n (bit w 4) * 16
  s.set 0x3202 6 (kept + 256 * b2n v.settling + 64 * b2n v.hvBad + 8 * b2n s.gloved
    + 4 * b2n (!v.settling && (!k.water.isEmpty || !k.negative.isEmpty)) + 2 * b2n (!v.settling && !k.palms.isEmpty) + b2n v.rebased)

/-- The report's header (Table 12.7). -/
def reportHeader (s : State) (v : Look) (ncont gesture : Nat) : List Nat :=
  let w := s.get 0x3202 6
  let flags := 128 * b2n v.settling + 64 * b2n v.hvBad + 32 * b2n (bit w 4) + 16 * b2n v.missing + 8 * b2n (bit w 3) + 4 * b2n (bit w 2)
    + 2 * b2n (bit w 1) + b2n (s.touch.image.any (fun r => bit r.flags 6))
  [0x10, ncont] ++ toLE 2 s.touch.seq ++ toLE 6 s.frame
    ++ [s.get 0x3221 1, gesture, 8 * b2n v.rebased + v.hop, flags, s.get 0x3233 9, 0]

/-- HVOUT's lowest reading in mV lies below 90 % of its setting of 0x3202:05 in 0.1 V (R485). -/
def State.hvLow (s : State) (minMv : Nat) : Bool := decide (minMv < 90 * s.get 0x3202 5)

/-- HVOUT has settled within 2 % of its setting (R485). -/
def State.hvSettled (s : State) (minMv maxMv : Nat) : Bool := decide (98 * s.get 0x3202 5 ≤ minMv) && decide (maxMv ≤ 102 * s.get 0x3202 5)

/-- HVOUT in the frame (R485), from its lowest and its highest voltage over the mutual scan: whether its mutual image is discarded; three such frames in a row
outside a change set HV_FAULT, end every track and restart the pump. -/
def hvStep (s : State) (rows minMv maxMv : Nat) : State × Bool :=
  let changing := s.touch.hvChanging && !s.hvSettled minMv maxMv
  let bad := decide (rows ≠ 0) && (s.hvLow minMv || changing)
  let run := if bad && !changing then min 4 (s.touch.hvLowRun + 1) else 0
  let s : State := { s with touch := { s.touch with hvChanging := changing, hvLowRun := run } }
  if run = 3 then
    let s : State := { s with touch := { s.touch with
      tracks := [], cands := [], ending := s.touch.ending ++ s.touch.tracks, pumpRestart := true } }
    (emcyLog (s.setFlag 0x3202 6 5 true) 0xFF63 0, bad)
  else if !bad && rows ≠ 0 then (s.setFlag 0x3202 6 5 false, bad)
  else (s, bad)

/-- The pages of the image buffer's and baseline store's bytes. -/
def pagesAt (base n : Nat) : List Nat := if n = 0 then [] else (List.range ((base + n - 1) / 4096 - base / 4096 + 1)).map (fun k => base / 4096 + k)

/-- Every page of the baseline store can be written by the contact engine (R447, Table 8.4). -/
def baselineAccess (s : State) : State × Bool :=
  (pagesAt (s.get 0x3202 8) (s.bytesRequired >>> 32)).foldl (fun (m : State × Bool) v =>
    match translate m.1 6 (v % 1048576) .write with
    | (t, .ok _ _) => (t, m.2)
    | (t, _) => (t, false)) (s, true)

/-- PROCESS of a frame, steps 1 to 8 (Table 12.6). -/
def processFrame (s : State) (p hvMinMv hvMaxMv : Nat) : State :=
  let hv := hvStep s (s.scan p).rows hvMinMv hvMaxMv
  let pic := takePicture hv.1 p hv.2
  let v := pic.2
  let s := gloveStep pic.1 v
  let k := classify s v
  let t := if v.hvBad || v.settling then holdTracks s else trackContacts s k
  let s := s.countBy 0x3230 2 t.unslotted
  let btn := buttonStep s v
  let g := gestureStep btn.1 v t btn.2
  let t := g.2.1
  let contact := !t.live.isEmpty || !t.fresh.isEmpty
  let s := prearmStep g.1 v contact (!t.fresh.isEmpty || !btn.2.isEmpty)
  let s := baselineStep (hopDecision s v) v k t
  let s := driftStep (captureStep (frameFlags s v k) v) v
  let recs := t.records s
  { s with
    touch := { s.touch with
      tracks := t.live ++ t.fresh, cands := t.cands, ending := [], nextId := t.nextId, overruns := 0
      palms := k.palms.filterMap (fun b => (topNode b).map Node.at_), stuckTracks := [], stuckPalms := []
      report := some (reportHeader s v recs.length g.2.2 :: recs) }
    beat := { s.beat with processDone := true } }

/-- PROCESS_FRAME (R456): in the PROCESS phase of a frame whose scan is whole and whose buffers are there. The operands are the lowest and
the highest voltage of HVOUT over the mutual scan in mV. -/
def actProcessFrame (hvMinMv hvMaxMv : Nat) (s : State) : State :=
  match s.profile with
  | none => s
  | some p =>
    if !s.touchRuns || s.electrodeTest || s.beat.stoppedC || s.beat.phase != .process || s.beat.processDone || !s.beat.scanDone
        || s.touch.imageFault || s.flag 0x3202 6 7 then s
    else
      match baselineAccess s with
      | (s, false) => { s with touch := { s.touch with imageFault := true }, beat := { s.beat with imageMissing := true } }
      | (s, true) => processFrame s p hvMinMv hvMaxMv

/-- The records of a report, or an overrun record alone, are delivered (R118, R461): to the ring whole or not at all, and to the objects. -/
def deliver (s : State) (records : List (List Nat)) : State :=
  let n := s.get 0x3230 1
  let s := if n = 0xFF then s else ringProduceAll s n records
  let s := s.set 0x3230 4 (fromLE (records.headD []))
  let s := (List.range 20).foldl (fun (t : State) k => t.set 0x3231 (k + 1) (fromLE ((records.drop 1).getD k []))) s
  { s with touch := { s.touch with seq := (s.touch.seq + 1) % 65536 } }

/-- The report of the frame at the start of REPORT (R461). -/
def deliverReport (s : State) : State :=
  match s.touch.report with
  | none => s
  | some l =>
    let s := raise ((deliver s l).count 0x3230 3) 488
    { s with touch := { s.touch with report := none }, beat := { s.beat with reportDone := true } }

/-- An overrun record (R118, Table 4.6): its cause, the frame lost, and the events counted at the downbeat. -/
def overrun (s : State) (cause frame abandoned : Nat) : State :=
  let rec_ := [0xF0, cause] ++ toLE 2 s.touch.seq ++ toLE 6 frame ++ toLE 2 (satNat 16 abandoned) ++ [0, 0, 0, 0]
  let s := (deliver s [rec_]).count 0x2102 8
  { s with touch := { s.touch with report := none, overruns := s.touch.overruns + 1 } }

/-- Every button reads released: while touch is out of service with its bit in 0x3221:03, and during an electrode test (Table 19.3, R714). -/
def releaseButtons (s : State) (dead : Bool) : State :=
  (List.range 8).foldl (fun (t : State) b =>
    let t := setButton (t.setRuns b 0 0) b false
    if dead && bit (t.buttonWord b) 0 then t.setFlag 0x3221 3 b true else t) s

/-! ### Commands and timers -/

/-- The staged set that an apply of profiles checks: profile 0, profile 1, and the calibration (R445). -/
def State.stagedProfiles (s : State) : List Nat × List Nat × List Nat :=
  let staged (i n : Nat) : List Nat := (List.range n).map (fun k => s.get i (k + 1))
  (staged 0x3200 13, staged 0x3201 13, staged 0x3233 8)

/-- An accepted apply of profiles waits for the downbeat, with the set that was checked (R445). -/
def applyProfiles (s : State) : State × Status :=
  if !s.profilesOk then (s, .incompatible)
  else ({ s with touch := { s.touch with applySet := some s.stagedProfiles } }, .ok)

/-- APPLY_PROFILES (R445, R469): 1 to 0x3202:01. -/
def actApplyProfiles (port : Port) (s : State) : State := portCommand s port 0x3202 1 applyProfiles

/-- The checked profiles and calibration take effect (R445), whatever has been staged since. -/
def profilesInForce (s : State) (set : List Nat × List Nat × List Nat) : State :=
  ((s.putInForce 0x3200 1 set.1).putInForce 0x3201 1 set.2.1).putInForce 0x3233 1 set.2.2

/-- CONTACT_STUCK_TIMEOUT (R459): a contact by its ID, or a palm by its place among the last frame's. It ends in the next processed frame. -/
def actContactStuckTimeout (palm : Bool) (id : Nat) (s : State) : State :=
  if s.get 0x3210 8 = 0 then s
  else if palm then
    match s.touch.palms[id]? with
    | some q => { s with touch := { s.touch with stuckPalms := s.touch.stuckPalms ++ [q] } }
    | none => s
  else if s.touch.tracks.any (fun t => t.id == id) then
    { s with touch := { s.touch with stuckTracks := s.touch.stuckTracks ++ [id] } }
  else s

/-- BUTTON_STUCK_TIMEOUT (R464): the button is reported released and stuck, and takes b = s. -/
def actButtonStuckTimeout (b : Fin 8) (s : State) : State :=
  if !s.up || !s.pressed b.val || s.get 0x3221 6 = 0 then s
  else
    let s := setButton ((s.setFlag 0x3221 2 b.val true).setRuns b.val 0 0) b.val false
    { s with touch := { s.touch with buttons := s.touch.buttons.modify b.val (fun x => { x with rebase := true }) } }

/-- BUTTON_DRIFT (R465): its baseline has differed from its reference by more than the limit for 10 s. -/
def actButtonDrift (b : Fin 8) (s : State) : State :=
  match s.profile with
  | some p =>
    if s.up && !s.flag 0x3221 4 b.val && bit (s.buttonWord b.val) 0 && s.drifted p (s.get 0x3203 12) b.val then
      (emcyLog (s.setFlag 0x3221 4 b.val true) 0xFF64 b.val)
    else s
  | none => s

/-- CAPTURE_REFERENCE_BASELINES (R465): 1 to 0x3222:09; the capture comes with the next step 8. -/
def actCaptureReferenceBaselines (port : Port) (s : State) : State :=
  portCommand s port 0x3222 9 (fun t => ({ t with touch := { t.touch with capture := true } }, .ok))

/-- GLOVE_MODE_END (R454): 10 s in which no contact's peak lay below the touch threshold. -/
def actGloveModeEnd (s : State) : State :=
  if s.touch.tracks.any (fun t => decide (t.at_.peak < s.threshold 1)) then s
  else { s with touch := { s.touch with gloveMode := false, gloveRun := 0 } }

/-- PREARM_HOLD_EXPIRY (R473, R477): the hold time ends in PREARMED. -/
def actPrearmHoldExpiry (s : State) : State := (if s.get 0x3241 1 == 1 then prearmCancel s 1 else s)

/-- PREARM_HOLDOFF_EXPIRY (R473). -/
def actPrearmHoldoffExpiry (s : State) : State := (if s.get 0x3241 1 == 3 then s.set 0x3241 1 0 else s)

end Sys2Proof.Machine
end

