-- ==== Sys2Proof/Machine/ReadValue.lean ====
section
/-!
DEFINITION. What an object reads as (R141): most objects read their stored value; the mirrors and views below are formed from the state at the instant of
the read.
-/

namespace Sys2Proof.Machine

/-- The core's status word (Table 9.10). -/
def Core.cstWord (c : Core) : Nat :=
  (b2n c.cst.lockBrk <<< 15) + (b2n c.cst.double <<< 14) + (b2n c.cst.halted <<< 13) + (b2n c.lock.isSome <<< 12) + (b2n c.cst.deferred <<< 11)
    + (bits c.cst.hcause 0 3 <<< 8) + (bits c.cst.wphit 0 2 <<< 6) + (bits c.cst.bphit 0 4 <<< 2) + (b2n c.cst.user <<< 1)

/-- The transition status 0x4200:04. -/
def State.transitionWord (s : State) : Nat :=
  let w := match s.seq.run with
    | some r => ((if r.step < r.table.len then r.step else 0xFF) <<< 16) + (r.table.code <<< 14)
    | none => 0xFF <<< 16
  w + (s.aocb.target.code <<< 4) + s.aocb.pstate.code

/-- Views of 0x1018 to 0x1FFF: the serial number, and program control (R672, Table 18.4). -/
def viewComm (s : State) (i sub : Nat) : Option Nat :=
  if i = 0x1018 && sub = 4 then some (bits s.test.serial 0 32)
  else if i = 0x1F51 && sub = 1 then some (b2n (decide (s.power.step = .firmware)))
  else if i = 0x1F51 && 2 ≤ sub && sub ≤ 5 then some (b2n (s.progState (sub - 1) == 2))
  else none

/-- Views of 0x2000 to 0x2032: the mirrors of the always-on control block (R147, chapter 3), the VIN return level (R80), the node-ID base (R722) and the
rate of the raw stream (R269). -/
def viewGlobal (s : State) (i sub : Nat) : Option Nat :=
  if i = 0x2000 && sub = 3 then some s.pwrStateWord
  else if i = 0x2000 && sub = 4 then some s.aocb.straps.word
  else if i = 0x2000 && sub = 5 then some s.lifecycleWord
  else if i = 0x2010 && sub = 2 then some (max 7600 (s.power.holdMv + 600))
  else if i = 0x2011 && sub = 1 then some s.aocb.cause.word
  else if i = 0x2011 && sub = 2 then some (bits s.aocb.lossDur 0 32)
  else if i = 0x2011 && sub = 3 then some s.aocb.boot.word
  else if i = 0x2021 && sub = 1 then some s.nodeBase
  else if i = 0x2032 && sub = 4 then some (streamRate2 (s.get 0x2032 1) / 2000000)
  else none

/-- Views of chapter 8 and of the core. -/
def viewMemory (s : State) (i sub : Nat) : Option Nat :=
  if i = 0x2201 && sub = 1 then some (s.mem.freeFrames.length + s.mem.unclaimed)
  else if i = 0x2201 && sub = 2 then some (s.mem.frames.filter (fun e => match e.2 with
    | .page _ _ => true
    | _ => false)).length
  else if i = 0x2201 && sub = 7 then some (s.mem.fills.filter (fun x => !x.prefetch)).length
  else if i = 0x2300 && sub = 3 then some s.freeRingFrames.length
  else if i = 0x2300 && sub = 4 then some s.openRings.length
  else if 0x2400 ≤ i && i ≤ 0x24FF then
    let r := s.sched.ring (i - 0x2400)
    if sub = 3 then some (ringStatus s (i - 0x2400))
    else if sub = 4 then some r.prod
    else if sub = 5 then some r.cons
    else if sub = 11 then some r.opener
    else none
  else if i = 0x2800 && sub = 1 then some s.tabor.run.code
  else if i = 0x2800 && sub = 2 then some s.core.cstWord
  else none

/-- Views of the sense path and of touch. -/
def viewSense (s : State) (i sub : Nat) : Option Nat :=
  if i = 0x3000 && sub = 4 then some (rotationWord s)
  else if i = 0x3000 && sub = 5 then some (positionMap s)
  else if i = 0x3001 && sub ≠ 0 then some (sliceWord s (sub - 1))
  else if i = 0x3002 && sub ≠ 0 then some (correctionWord s (sub - 1))
  else if i = 0x3010 && sub = 4 then some s.hkRound
  else if 0x3100 ≤ i && i ≤ 0x3117 && sub = 7 then some (laneStatus s (i - 0x3100))
  else if i = 0x3202 && (sub = 2 || sub = 3) then some ((s.scan (sub - 2)).timeUs s.fMin)
  else if i = 0x3202 && sub = 9 then some s.bytesRequired
  else none

/-- Views of the regulator, the supervisors, the sequencer, the pack and the thermal sources. -/
def viewPower (s : State) (i sub : Nat) : Option Nat :=
  if 0x4000 ≤ i && i ≤ 0x400F && sub = 8 then some (phaseStatus s (i - 0x4000))
  else if 0x4010 ≤ i && i ≤ 0x401F && sub = 11 then some (railStatus s (i - 0x4010))
  else if 0x4100 ≤ i && i ≤ 0x410F && sub = 13 then some (supPresent s (i - 0x4100))
  else if i = 0x4200 && sub = 1 then some s.aocb.pstate.code
  else if i = 0x4200 && sub = 4 then some s.transitionWord
  else if i = 0x4310 && sub = 1 then some (b2n s.power.batg)
  else if i = 0x440A && sub = 1 then some (ofSigned 16 s.hottest.1)
  else if i = 0x440A && sub = 2 then some s.hottest.2
  else if i = 0x4410 && sub = 1 then some s.aocb.straps.tcrit
  else if i = 0x4410 && sub = 2 then some (ofSigned 16 s.tcritTenths)
  else if i = 0x4410 && sub = 3 then some (b2n s.thermal.shdnLow)
  else none

/-- Views of the log, of time and of chapter 19. -/
def viewService (s : State) (i sub : Nat) : Option Nat :=
  if i = 0x4800 && sub = 3 then some s.log.nextLsn
  else if i = 0x4800 && sub = 4 then some (s.log.oldest.getD 0)
  else if i = 0x4800 && sub = 5 then some s.log.kept
  else if i = 0x4810 && sub = 1 then some s.now
  else if i = 0x4810 && sub = 3 then some (putBit (s.get 0x4810 3) 1 s.clocks.lfInternal)
  else if i = 0x5F00 && sub = 1 then some s.lifecycleWord
  else if i = 0x5F00 && sub = 3 then some s.test.access.code
  else if i = 0x5F10 && sub = 2 then some s.test.baseFields.length
  else if i = 0x5F10 && sub = 9 then some s.slotsProgrammed
  else if i = 0x5F10 && 10 ≤ sub && sub ≤ 13 then some (s.keyCheck (sub - 10))
  else none

/-- The view of an object, where it is one. -/
def viewOf (s : State) (i sub : Nat) : Option Nat :=
  if i < 0x2000 then viewComm s i sub
  else if i < 0x2200 then viewGlobal s i sub
  else if i < 0x3000 then viewMemory s i sub
  else if i < 0x4000 then viewSense s i sub
  else if i < 0x4800 then viewPower s i sub
  else viewService s i sub

/-- The value an object reads as, whoever asks. -/
def readValue (s : State) (i sub : Nat) : Nat := (viewOf s i sub).getD (s.get i sub)

/-! ### Descriptors (R146, R148, Table 5.5) -/

/-- LIVE_LOCK (R157): ring descriptors, PDO mappings and routing entries, and the tables whose chapters lock them while in use. -/
def liveLock (i sub : Nat) : Bool :=
  (0x1600 ≤ i && i ≤ 0x163F) || (0x1A00 ≤ i && i ≤ 0x1A3F)
    || (0x1400 ≤ i && i ≤ 0x143F && (sub == 1 || sub == 2)) || (0x1800 ≤ i && i ≤ 0x183F && (sub == 1 || sub == 2))
    || (sub ≠ 0 && (i == 0x2024 || i == 0x2026 || i == 0x2034 || i == 0x2035 || (0x2610 ≤ i && i ≤ 0x2619) || i == 0x4021))
    || (0x2400 ≤ i && i ≤ 0x24FF && sub == 1) || (0x2500 ≤ i && i ≤ 0x257F && 1 ≤ sub && sub ≤ 5)
    || (0x4000 ≤ i && i ≤ 0x400F && (sub == 1 || sub == 2 || sub == 4))
    || (0x4010 ≤ i && i ≤ 0x401F && (sub == 1 || sub == 3 || sub == 4 || sub == 6 || sub == 10))
    || (0x4024 ≤ i && i ≤ 0x4027 && (sub == 1 || sub == 2 || sub == 4))
    || (0x4420 ≤ i && i ≤ 0x4423 && (sub == 1 || sub == 2 || sub == 4))
    || (i == 0x3240 && 2 ≤ sub && sub ≤ 9)

/-- The indices that no user program may reach (Table 9.8). -/
def userBarred (i sub : Nat) : Bool :=
  i == 0x1010 || i == 0x1011 || (0x1F50 ≤ i && i ≤ 0x1F57) || i == 0x2003 || i == 0x2004 || (i == 0x2200 && sub == 1) || i == 0x2210
    || (0x2800 ≤ i && i ≤ 0x28FF) || (0x4900 ≤ i && i ≤ 0x49FF) || (0x5F00 ≤ i && i ≤ 0x5FFF)

/-- A user program's binding limit grants a read or a write of an object (R351, R361). -/
def State.userGrants (s : State) (prog i sub : Nat) (read write : Bool) : Bool :=
  !userBarred i sub &&
    (match nth s.tabor.programs (prog - 1) none with
     | some p => bindingCovers p.bindings i read write
     | none => false)

/-- An access narrowed to what it still grants. -/
def Acc.narrow (a : Acc) (mayRead mayWrite : Bool) : Acc :=
  match a with
  | .none => .none
  | .const => if mayRead then .const else .none
  | .ro => if mayRead then .ro else .none
  | .wo => if mayWrite then .wo else .none
  | .rw => if mayRead && mayWrite then .rw else if mayRead then .ro else if mayWrite then .wo else .none
  | .rws => if mayRead && mayWrite then .rws else if mayRead then .ro else if mayWrite then .wo else .none

/-- What one port could do with an object at this moment (R146). `user` is the program whose user mode asks, 0 for none. -/
def State.accNow (s : State) (p : Port) (i sub user : Nat) : Acc :=
  let a := accessOf p i sub
  let a := a.narrow true (!s.lockDenies p i)
  let a := if p = .D then a.narrow (!s.gateDenies .D i sub false) (!s.gateDenies .D i sub true) else a
  if p = .T && user ≠ 0 then a.narrow (s.userGrants user i sub true false) (s.userGrants user i sub false true) else a

/-- The present length of a DOMAIN (Table 5.5). -/
def State.domainLength (s : State) (_p : Port) (i sub : Nat) : Nat :=
  if i = 0x2003 && sub = 1 then s.configImage.length
  else if i = 0x2003 && sub = 2 then s.store.staging.length
  else if i = 0x4801 && sub = 2 then 4032
  else if i = 0x1F50 && 1 ≤ sub && sub ≤ 5 then (s.target sub).offset
  else 0

/-- The size a value has: a ring's windows have its entry size (Table 8.9). -/
def State.sizeNow (s : State) (p : Port) (i sub : Nat) : Nat :=
  if 0x2400 ≤ i && i ≤ 0x24FF && (sub = 9 || sub = 10) then ringSize (s.ringDesc (i - 0x2400))
  else if segment i sub then s.domainLength p i sub
  else sizeOf i sub

/-- The descriptor of an object (Table 5.5); 0 where there is none. -/
def State.descriptor (s : State) (p : Port) (i sub user : Nat) : Nat :=
  match descOf i sub with
  | none => 0
  | some d =>
    (d.ty.code <<< 48) + (bits (s.sizeNow p i sub) 0 24 <<< 24) + ((s.accNow .C i sub 0).code <<< 20) + ((s.accNow .K i sub 0).code <<< 16)
      + ((s.accNow .T i sub user).code <<< 12) + ((s.accNow .D i sub 0).code <<< 8) + (b2n d.pdo <<< 7) + (b2n (sideEffect i sub) <<< 6)
      + (b2n (segment i sub) <<< 5) + (b2n (staged i sub) <<< 4) + (b2n (liveLock i sub) <<< 3) + (b2n (unitBound i sub) <<< 2)

/-- The user program whose user mode the core runs, 0 for none. -/
def State.userNow (s : State) : Nat := if s.core.mst.um then s.core.mst.prog else 0

/-- The descriptor of the target that a port last wrote to 0x2001:01 (R148). -/
def State.queried (s : State) (p : Port) : Nat :=
  let t := nth s.store.query p.code 0
  s.descriptor p (bits t 16 16) (bits t 8 8) (if p = .T then s.userNow else 0)

end Sys2Proof.Machine
end

