-- ==== Sys2Proof/Machine/PdoOps.lean ====
section
/-!
DEFINITION. The transmit half of the PDO scheduler (R226 to R230): mappings, sampling, the windows of a frame, and IMMEDIATE TPDOs.
-/

namespace Sys2Proof.Machine

/-- FD operation (R197). -/
def State.fdOn (s : State) : Bool := decide (s.inForce 0x2020 2 ≠ 0)

/-- The bytes a PDO may carry. -/
def State.pdoMax (s : State) : Nat := if s.fdOn then 64 else 8

/-- A length rounded up to the next FD length (R226). -/
def fdLength (n : Nat) : Nat := if n ≤ 8 then n else ([12, 16, 20, 24, 32, 48, 64].find? (fun k => decide (n ≤ k))).getD 64

/-- Data as a PDO carries it: padded with 0x00 in FD operation. -/
def State.padded (s : State) (d : List Nat) : List Nat :=
  if s.fdOn then d ++ List.replicate (fdLength d.length - d.length) 0 else d

/-! ### Mappings (R12, R227) -/

/-- A mapping entry: index, sub-index and length in bytes. -/
structure PdoEntry where
  index : Nat
  sub : Nat
  bytes : Nat
deriving DecidableEq, Repr

/-- An entry may be mapped: a defined object that PDOs may carry, of whole bytes and its own length, which port C may read (TPDO) or write (RPDO). -/
def entryOk (tx : Bool) (w : Nat) : Bool :=
  match descOf (bits w 16 16) (bits w 8 8) with
  | some d => d.pdo && bits w 0 8 == 8 * d.ty.size && decide (0 < d.ty.size) && (if tx then d.acc.c.reads else d.acc.c.writes)
  | none => false

/-- The entries of the mapping object. -/
def State.mapping (s : State) (i : Nat) : List Nat := (List.range (s.get i 0)).map (fun k => s.get i (k + 1))

/-- An entry read. -/
def PdoEntry.of (w : Nat) : PdoEntry := ⟨bits w 16 16, bits w 8 8, bits w 0 8 / 8⟩

/-- The bytes of a mapping. -/
def mapLength (l : List Nat) : Nat := (l.map (fun w => bits w 0 8 / 8)).sum

/-- A PDO is in use: operational, valid, and with a mapping that may be carried (Table 6.4). `comm` is 0x1800 for a TPDO, 0x1400 for an RPDO. -/
def State.pdoActive (s : State) (comm n : Nat) : Bool :=
  let l := s.mapping (comm + 0x200 + n)
  s.can.nmt == .operational && !bit (s.get (comm + n) 1) 31 && !l.isEmpty && l.all (entryOk (comm == 0x1800)) && decide (mapLength l ≤ s.pdoMax)

/-- The numbers of the PDOs that are valid; every other one holds its default, which is invalid. -/
def State.validPdos (s : State) (comm : Nat) : List Nat :=
  (s.od.filter (fun e => decide (key comm 0 ≤ e.1) && decide (e.1 < key (comm + 64) 0) && e.1 % 256 == 1 && !bit e.2 31)).map (fun e => e.1 / 256 - comm)

/-- The TPDOs in use, in ascending number. -/
def State.activeTpdos (s : State) : List Nat := (s.validPdos 0x1800).filter (s.pdoActive 0x1800)

/-- The mapped values of a TPDO, sampled together (R184). -/
def State.sample (s : State) (n : Nat) : List Nat :=
  ((s.mapping (0x1A00 + n)).map (fun w => let e := PdoEntry.of w; toLE e.bytes (readValue s e.index e.sub))).flatten

/-! ### What a TPDO is (Table 6.7, 0x2024) -/

/-- Event-driven and IMMEDIATE. -/
def State.tpdoImmediate (s : State) (n : Nat) : Bool := !s.tpdoSync n && bit (s.tpdoWindow n) 15

/-- The window of this frame is one of the TPDO's (R228). -/
def State.inWindow (s : State) (n : Nat) : Bool :=
  let w := s.tpdoWindow n
  bit w 7 || bits w 0 6 % max 1 (s.inForce 0x2100 2) == s.get 0x2101 6

/-- The scheduler's entry of a TPDO. -/
def State.tpdo (s : State) (n : Nat) : Tpdo := nth s.can.tpdos n Tpdo.reset

/-- The scheduler's entry of a TPDO replaced. -/
def State.setTpdo (s : State) (n : Nat) (t : Tpdo) : State := { s with can := { s.can with tpdos := s.can.tpdos.set n t } }

/-- A TPDO newly in use: nothing sent, and the SYNC start value awaited where one is configured (R215). -/
def State.freshTpdo (s : State) (n : Nat) : Tpdo :=
  { Tpdo.reset with started := s.tpdoType n == 0 || s.get 0x1019 0 == 0 || s.get (0x1800 + n) 6 == 0 }

/-! ### The queue -/

/-- A TPDO waits for arbitration. -/
def queueTpdo (s : State) (n : Nat) (windowed : Bool) (data : List Nat) : State :=
  let d := s.padded data
  enqueueTx s (.tpdo n windowed) ⟨bits (s.get (0x1800 + n) 1) 0 11, d, s.fdOn, s.fdOn, false⟩

/-- A frame is a windowed TPDO's that has been sent on no line. -/
def TxFrame.withdrawable (f : TxFrame) : Bool :=
  match f.kind with
  | .tpdo _ w => w && !f.sent
  | _ => false

/-- The windowed TPDOs that satisfy a condition are withdrawn and counted (R230). -/
def withdraw (s : State) (p : Nat → Bool) : State :=
  let mine := fun (f : TxFrame) => match f.kind with
    | .tpdo n true => p n
    | _ => false
  let out := s.can.txq.filter mine
  let s : State := { s with can := { s.can with txq := s.can.txq.filter (fun f => !mine f) } }
  s.countBy 0x2102 5 (out.filter TxFrame.withdrawable).length

/-- The window closes (R228): what has not been sent is withdrawn. -/
def closeWindow (s : State) : State :=
  if !s.can.window then s
  else withdraw { s with can := { s.can with window := false } } (fun _ => true)

/-- A windowed TPDO enters arbitration in this window; with every line in use faulty it is withdrawn and counted instead (R237). -/
def sendInWindow (s : State) (n : Nat) (data : List Nat) : State :=
  let s := s.setTpdo n { s.tpdo n with due := false }
  if s.allFaulty then s.count 0x2102 5 else queueTpdo s n true data

/-- What a TPDO does as one of its windows opens (R229). -/
def openFor (s : State) (n : Nat) : State :=
  let t := s.tpdo n
  if !s.inWindow n || s.tpdoImmediate n then s
  else if s.tpdoSync n then
    if !t.due then s
    else sendInWindow s n (if bit (s.tpdoWindow n) 14 then s.sample n else t.sampled.getD (s.sample n))
  else
    let d := s.sample n
    if !t.timed && t.lastSent == some d then s.setTpdo n { t with due := false }
    else if t.inhibit then s.setTpdo n { t with due := true, sampled := some d }
    else sendInWindow s n d

/-- The windows of this frame open (R228), in ascending TPDO number. -/
def openWindow (s : State) : State :=
  if s.can.nmt ≠ .operational || s.can.guard then s
  else s.activeTpdos.foldl openFor { s with can := { s.can with window := true } }

/-! ### IMMEDIATE TPDOs (R229, R237) -/

/-- An IMMEDIATE TPDO that is due enters arbitration with its present values, in place of one of its own still waiting. With every line in use faulty it is not
sent and stays due (R230, R237). -/
def sendImmediate (s : State) (n : Nat) : State :=
  let t := s.tpdo n
  if !t.due || t.inhibit || s.allFaulty then s
  else
    let s := s.setTpdo n { t with due := false }
    let old := fun (f : TxFrame) => match f.kind with
      | .tpdo m _ => m == n && !f.sent
      | _ => false
    let s : State := { s with can := { s.can with txq := s.can.txq.filter (fun f => !old f) } }
    queueTpdo s n false (s.sample n)

/-- One IMMEDIATE TPDO is compared with the values last seen; one that stayed due is sent as soon as it may be. -/
def seeImmediate (s : State) (n : Nat) : State :=
  if !s.tpdoImmediate n then s
  else
    let d := s.sample n
    let t := s.tpdo n
    sendImmediate (if t.sampled == some d then s else s.setTpdo n { t with sampled := some d, due := true }) n

/-- A change of a mapped value makes an IMMEDIATE TPDO due, in any phase (R229). -/
def immediates (s : State) : State :=
  if s.can.nmt == .operational then s.activeTpdos.foldl seeImmediate s else s

/-! ### SYNC (R215, R229) -/

/-- A SYNC as a TPDO's trigger: type 0 after a change, types 1 to 240 at every n-th from the SYNC start value on. -/
def syncTpdo (counter : Option Nat) (s : State) (n : Nat) : State :=
  let t := s.tpdo n
  if !s.tpdoSync n then s
  else if s.tpdoType n = 0 then
    let d := s.sample n
    if t.lastSent == some d then s else s.setTpdo n { t with due := true, sampled := some d }
  else if !t.started then
    match counter with
    | some c =>
      if c = s.get (0x1800 + n) 6 then s.setTpdo n { t with started := true, syncs := 0, due := true, sampled := some (s.sample n) } else s
    | none => s.setTpdo n { t with started := true, syncs := 0, due := true, sampled := some (s.sample n) }
  else if t.syncs + 1 < s.tpdoType n then s.setTpdo n { t with syncs := t.syncs + 1 }
  else s.setTpdo n { t with syncs := 0, due := true, sampled := some (s.sample n) }

/-- Every TPDO in use sees a SYNC. -/
def syncTpdos (s : State) (counter : Option Nat) : State := s.activeTpdos.foldl (syncTpdo counter) s

/-- PDOs start afresh: on entering operational. -/
def freshPdos (s : State) : State :=
  { s with can := { s.can with tpdos := (List.range 64).map s.freshTpdo, rpdos := List.replicate 64 Rpdo.reset } }

/-- PDOs stop with the operational state (R235): due windowed TPDOs are withdrawn and, where `counted`, counted; IMMEDIATE ones go. -/
def stopPdos (s : State) (counted : Bool) : State :=
  let s := if counted then withdraw s (fun _ => true) else s
  let s : State := { s with can := { s.can with
    window := false
    txq := s.can.txq.filter (fun f => match f.kind with
      | .tpdo _ _ => false
      | _ => true)
    tpdos := List.replicate 64 Tpdo.reset
    rpdos := List.replicate 64 Rpdo.reset } }
  s

end Sys2Proof.Machine
end

