-- ==== Sys2Proof/Machine/Update.lean ====
section
/-! DEFINITION. The commands of the firmware update (chapter 18). -/

namespace Sys2Proof.Machine

/-- PROGRAM_DATA_WRITE (R675 to R677): data appended to the image in progress. -/
def actProgramDataWrite (port : Port) (sub : Nat) (offset : Option Nat) (data : List Nat) (flashOk : Bool) (s : State) : State :=
  updateRequest s port 0x1F50 sub (fun t =>
    let r := programData t port.code sub offset data flashOk
    (r.1, some r.2))

/-- PROGRAM_CONTROL_STOP (Table 18.4, value 0). -/
def actProgramControlStop (port : Port) (sub : Nat) (s : State) : State :=
  updateRequest s port 0x1F51 sub (fun t =>
    let r := programStop t
    (r.1, some r.2))

/-- Start (Table 18.4, value 1): the restart into the activated image, or the start of a user program. -/
def programControlStart (s : State) (sub : Nat) : State × Status :=
  if sub = 1 then (if (s.target 1).stage = .activated then (updateRestart s, .ok) else (s, .incompatible))
  else programStart s (sub - 1)

/-- PROGRAM_CONTROL_START (Table 18.4, value 1; R681, R364). -/
def actProgramControlStart (port : Port) (sub : Nat) (s : State) : State :=
  updateRequest s port 0x1F51 sub (fun t =>
    let r := programControlStart t sub
    (r.1, some r.2))

/-- PROGRAM_CONTROL_CLEAR (Table 18.4, value 3): the request ends with the erase (R677). -/
def actProgramControlClear (port : Port) (sub : Nat) (s : State) : State :=
  updateRequest s port 0x1F51 sub (fun t => programClear t port.code sub (.port port.code 0x1F51 sub 0))

/-- An erase of a Clear has ended (R675, R676, R677); where its session has ended meanwhile, the stage is PARTIAL. -/
def clearEnds (s : State) (flashOk : Bool) : State :=
  match s.targetIn .erasing with
  | none => s
  | some sub =>
    let asker := s.update.asker
    let s : State := { s with update := { s.update with asker := .none } }
    if flashOk then
      let next := if s.update.session.isNone then Stage.partial_ else .downloading
      answerAsker (refreshVersions (setTarget (s.setTargetBank sub ⟨[], false⟩) sub ⟨0, next, 0⟩)) asker .ok
    else answerAsker (setTarget s sub ⟨0, .failed, 9⟩) asker .hardware

/-- CLEAR_ERASE_COMPLETE (R677). An erase that an input collapse has stopped does not end (R96). -/
def actClearEraseComplete (flashOk : Bool) (s : State) : State := if s.power.writesStopped then s else (clearEnds s flashOk)

/-- PROGRAM_CONTROL_VERIFY (Table 18.4, value 0x80). -/
def actProgramControlVerify (port : Port) (sub : Nat) (s : State) : State :=
  updateRequest s port 0x1F51 sub (fun t =>
    let r := programVerify t sub
    (r.1, some r.2))

/-- What the check of R678 finds in a target. -/
def State.verifyTarget (s : State) (sub : Nat) (unreadable : List Nat) : Nat :=
  let b := s.targetBank sub
  if sub = 1 && b.blocks.isEmpty && !b.erasing then (if (s.bankNow s.downloadBank).verifies then 0 else 4)
  else verifyBlocks s sub b unreadable

/-- A verification has ended (R678). -/
def verifyEnds (s : State) (unreadable : List Nat) : State :=
  match s.targetIn .verifying with
  | none => s
  | some sub =>
    let e := s.verifyTarget sub unreadable
    if e = 0 then setStage s sub .verified 0 else emcyLog (setStage s sub .failed e) 0xFFC0 e

/-- VERIFY_COMPLETE (R678). -/
def actVerifyComplete (unreadable : List Nat) (s : State) : State := (verifyEnds s unreadable)

/-- PROGRAM_CONTROL_ACTIVATE (Table 18.4, value 0x81; R680). -/
def actProgramControlActivate (port : Port) (sub : Nat) (flashOk : Bool) (s : State) : State :=
  updateRequest s port 0x1F51 sub (fun t =>
    let r := programActivate t sub flashOk
    (r.1, some r.2))

/-- Confirm, accepted in TRIAL (R683, R692). -/
def updateConfirm (s : State) : State × Status :=
  if (s.target 1).stage ≠ .trial then (s, .incompatible)
  else if s.power.writesStopped || s.store.flashAbsent then (s, .hardware)
  else (confirmImage s, .ok)

/-- UPDATE_CONFIRM (R683): 1 to 0x4900:05. -/
def actUpdateConfirm (port : Port) (s : State) : State := portCommand s port 0x4900 5 updateConfirm

/-- Reject, accepted in TRIAL when the other bank verifies (R684), as it is found. -/
def updateReject (s : State) (other : BankFound) : State × Status :=
  if (s.target 1).stage ≠ .trial then (s, .incompatible)
  else if s.power.writesStopped || s.store.flashAbsent then (s, .hardware)
  else
    let k := 1 - s.update.running
    let s : State := { s with update := { s.update with found := s.update.found.set k other } }
    if (s.bankNow k).verifies then (updateRestart ((confirmedRecord s k 1).count 0x4900 11), .ok) else (s, .incompatible)

/-- UPDATE_REJECT (R684): 2 to 0x4900:05; `other` is the other bank as it is found. -/
def actUpdateReject (port : Port) (other : BankFound) (s : State) : State :=
  portCommand s port 0x4900 5 (fun t => updateReject t other)

/-- The health window's end (R683): with automatic confirmation, every selected criterion having held confirms, unless an input collapse has stopped the flash
writes (R96). -/
def windowEnds (s : State) : State :=
  if !s.update.windowOpen then s
  else if s.get 0x4900 2 = 0 then ({ s with update := { s.update with windowOpen := false } } : State).set 0x4900 7 0
  else if s.selected &&& (31 - s.criteria) = 0 then (if s.power.writesStopped then s else confirmImage s)
  else windowFails s

/-- HEALTH_WINDOW_END (R683). -/
def actHealthWindowEnd (s : State) : State := (if s.up then windowEnds s else s)

/-- 0x4900:0C (R677): the worst-case time in ms to erase a bank of 4 MB with the largest erase that aligns with it (R671), computed like R168: the sum of the erases
and 5 ms, rounded up (log entry 44). -/
def bankEraseMs : Nat := satNat 32 (((0x400000 + max 1 Config.blockBytes - 1) / max 1 Config.blockBytes * Config.blockEraseUs + 5000 + 999) / 1000)

/-- The start-up scan (R688, R697). -/
def imageScan (s : State) : State :=
  let s := refreshVersions { s with update := { s.update with scanned := true } }
  let s := s.set 0x4900 12 bankEraseMs
  [1, 2, 3, 4, 5].foldl (fun t k => setTarget t k (scanTarget t k)) s

/-- IMAGE_SCAN (R697): once after firmware start. -/
def actImageScan (s : State) : State := (if s.up && !s.update.scanned && !s.store.flashAbsent then imageScan s else s)

end Sys2Proof.Machine
end

