-- ==== Sys2Proof/Machine/WriteRules.lean ====
section
/-!
DEFINITION. What an object's chapter refuses of a write beyond its own range: values out of range against another object (R11), tables in use (R157), and
sets or commands that do not fit (INCOMPATIBLE). All are judged before the write changes anything (R143).
-/

namespace Sys2Proof.Machine

/-! ### Tables in use, sets and commands that do not fit -/

/-- OK where a condition holds, else a status. -/
def needs (c : Bool) (st : Status) : Status := if c then .ok else st

/-- A PDO is valid: bit 31 of its COB-ID is 0. -/
def State.pdoValid (s : State) (comm n : Nat) : Bool := !bit (s.get (comm + n) 1) 31

/-- A mapping's sub-index 0 (R157, R227): of an invalid PDO only, and the entries it counts may be mapped and fit. -/
def State.mapCountRule (s : State) (comm n v : Nat) : Status :=
  let i := comm + 0x200 + n
  let l := (List.range v).map (fun k => s.get i (k + 1))
  if v = s.get i 0 then .ok
  else if s.pdoValid comm n then .live
  else if !l.all (entryOk (comm == 0x1800)) then .notMappable
  else if mapLength l > s.pdoMax then .pdoLength
  else .ok

/-- A mapping's entry: while sub-index 0 is 0, and only what may be mapped (R12, R157, R227). -/
def State.mapEntryRule (s : State) (comm n v : Nat) : Status :=
  if s.get (comm + 0x200 + n) 0 ≠ 0 then .live
  else if v ≠ 0 && !entryOk (comm == 0x1800) v then .notMappable
  else .ok

/-- A PDO's communication object: its COB-ID and transmission type change only while it is invalid (R227). -/
def State.pdoRule (s : State) (comm n sub v : Nat) : Status :=
  if sub = 1 then needs (!s.pdoValid comm n || bit v 31 || v == s.get (comm + n) 1) .live
  else if sub = 2 then needs (!s.pdoValid comm n || v == s.get (comm + n) 2) .live
  else .ok

/-- A heartbeat consumer entry fits the others (R213, CiA 301): with a time other than 0, its node-ID has no other entry with a time other than 0. -/
def State.consumerFits (s : State) (sub v : Nat) : Bool :=
  sub == 0 || bits v 0 16 == 0 || bits v 16 8 == 0 || (List.range 8).all (fun k =>
    let w := s.get 0x1016 (k + 1)
    k + 1 == sub || bits w 0 16 == 0 || bits w 16 8 != bits v 16 8)

/-- Rules of 0x1000 to 0x1FFF. -/
def State.commRule (s : State) (i sub v : Nat) : Status :=
  if i = 0x1006 then needs (s.periodFits v) .incompatible
  else if i = 0x1016 then needs (s.consumerFits sub v) .incompatible
  else if 0x1400 ≤ i && i ≤ 0x143F then s.pdoRule 0x1400 (i - 0x1400) sub v
  else if 0x1800 ≤ i && i ≤ 0x183F then s.pdoRule 0x1800 (i - 0x1800) sub v
  else if 0x1600 ≤ i && i ≤ 0x163F then
    if sub = 0 then s.mapCountRule 0x1400 (i - 0x1600) v else s.mapEntryRule 0x1400 (i - 0x1600) v
  else if 0x1A00 ≤ i && i ≤ 0x1A3F then
    if sub = 0 then s.mapCountRule 0x1800 (i - 0x1A00) v else s.mapEntryRule 0x1800 (i - 0x1A00) v
  else .ok

/-- A host window (R267): base and length are live-locked while it is open; none opens while the link is disabled. -/
def State.hostWindowRule (s : State) (sub v : Nat) : Status :=
  let w := (sub - 1) / 3
  if sub % 3 ≠ 0 then needs (!bit (s.windowAttr w) 15 && !s.link.closing.any (fun e => e.1 == w)) .live
  else needs (!bit v 15 || s.get 0x2030 1 ≠ 0) .incompatible

/-- An inbound window (R265): live-locked while open, but for a write that only clears OPEN. -/
def State.inboundRule (s : State) (sub v : Nat) : Status :=
  let c := s.get 0x2035 (2 * ((sub - 1) / 2) + 2)
  needs (!bit c 31 || (sub % 2 == 0 && v == clearBit c 31)) .live

/-- Rules of 0x2000 to 0x21FF. -/
def State.globalRule (s : State) (i sub v : Nat) : Status :=
  if i = 0x2024 then needs (!s.pdoValid 0x1800 (sub - 1)) .live
  else if i = 0x2026 then needs (!bit (s.get i sub) 32 || !bit v 32) .live
  else if i = 0x2030 && sub = 3 then needs (s.linkState == 6) .incompatible
  else if i = 0x2032 && sub = 1 then needs ((s.linkUp || v == 0) && streamFits v (s.get 0x2031 2)) .incompatible
  else if i = 0x2034 then s.hostWindowRule sub v
  else if i = 0x2035 then s.inboundRule sub v
  else .ok

/-- The TPDO that a task action of kind 1 names is event-driven (Table 8.11). -/
def State.taskTpdo (s : State) (arg : Nat) : Bool := decide (1 ≤ arg) && decide (arg ≤ 64) && decide (s.get (0x1800 + (arg - 1)) 2 > 240)

/-- Rules of 0x2200 to 0x2FFF. -/
def State.memoryRule (s : State) (p : Port) (i sub v : Nat) : Status :=
  if 0x2400 ≤ i && i ≤ 0x24FF then
    if sub = 1 then needs (!(s.sched.ring (i - 0x2400)).isOpen) .live
    else if sub = 4 || sub = 5 then needs (ringIndexAllowed (s.ringDesc (i - 0x2400)) p (sub == 5)) .readOnly
    else .ok
  else if 0x2500 ≤ i && i ≤ 0x257F && sub ≤ 5 then
    if bit (s.get i 6) 0 then .live
    else if sub = 5 && bits v 60 4 = 1 then needs (s.taskTpdo (bits v 0 32)) .range
    else .ok
  else if 0x2610 ≤ i && i ≤ 0x2619 then needs (!bit (s.get i sub) 31 || v == clearBit (s.get i sub) 31) .live
  else .ok

/-- A change of a hop entry leaves an entry enabled and lowers f_min no further than the profiles in force allow (R445). -/
def State.hopRule (s : State) (sub v : Nat) : Status :=
  let t := s.set 0x3203 sub v
  needs (!t.hops.isEmpty && (decide (s.fMin ≤ t.fMin) || [0, 1].all (fun p => s.scanFits (s.scan p) t.fMin))) .incompatible

/-- Rules of 0x3000 to 0x3FFF. -/
def State.senseRule (s : State) (i sub v : Nat) : Status :=
  if 0x3100 ≤ i && i ≤ 0x3117 && 1 ≤ sub && sub ≤ 4 then needs (!(s.lane (i - 0x3100)).inUse (sub % 2 == 0)) .incompatible
  else if 0x3100 ≤ i && i ≤ 0x310F && sub = 10 then .noSubindex
  else if i = 0x3203 && sub ≤ 8 then s.hopRule sub v
  else if i = 0x3230 && sub = 1 then
    needs (v == 0xFF || !(s.sched.ring v).isOpen || ringSize (s.ringDesc v) == 16) .incompatible
  else if i = 0x3240 && 2 ≤ sub then needs (!s.prearmed) .live
  else .ok

/-- The rail that a timing reference of rail n leads to; 16 where it names no rail. -/
def State.refOf (s : State) (n : Nat) : Nat :=
  let w := s.get 0x4021 (n + 1)
  if bits w 30 2 = 2 then bits w 24 4 else 16

/-- Following references from rail m reaches rail n. -/
def State.refReaches (s : State) (n : Nat) : Nat → Nat → Bool
  | 0, _ => false
  | k + 1, m => if m = 16 then false else m == n || s.refReaches n k (s.refOf m)

/-- A timing reference is accepted (R508). -/
def State.refOk (s : State) (n v : Nat) : Bool :=
  let m := bits v 24 4
  decide (bits v 30 2 ≠ 3) && decide (bits v 0 12 < s.railN n)
    && (bits v 30 2 != 2 || (decide (s.railN m = s.railN n) && !s.refReaches n 17 m))

/-- A phase belongs to a rail that is enabled. -/
def State.phaseInUse (s : State) (p : Nat) : Bool :=
  match s.owner p with
  | some n => (s.rail n).enabled
  | none => false

/-- A rail's object (R492, R493): live-locked while enabled; phase sets do not overlap; targets stay in a new range. -/
def State.railRule (s : State) (n sub v : Nat) : Status :=
  if (sub = 1 || sub = 3 || sub = 4 || sub = 6 || sub = 10) && (s.rail n).enabled then .live
  else if sub = 1 then
    needs ((List.range 16).all (fun m => m == n || (s.get (railObj m) 1 &&& v) == 0)) .incompatible
  else if sub = 3 then needs ([7, 8, 9].all (fun k => targetInRange (2 ^ v) (s.get (railObj n) k))) .incompatible
  else .ok

/-- A fan channel's object: live-locked while its target in force is not 0; no pulses per revolution only in mode 2 (Table 16.5). -/
def State.fanRule (s : State) (c sub v : Nat) : Status :=
  let o := fanObj c
  if (sub = 1 || sub = 2 || sub = 4) && s.get o 1 ≠ 0 && s.get o 20 ≠ 0 then .live
  else if sub = 1 then needs (v == 2 || s.get o 2 ≠ 0) .incompatible
  else if sub = 2 then needs (v ≠ 0 || s.get o 1 == 2) .incompatible
  else .ok

/-- Rules of 0x4000 to 0x4FFF. -/
def State.powerRule (s : State) (i sub v : Nat) : Status :=
  if i ≤ 0x400F then needs (!((sub == 1 || sub == 2 || sub == 4) && s.phaseInUse (i - 0x4000))) .live
  else if i ≤ 0x401F then s.railRule (i - 0x4010) sub v
  else if i = 0x4021 then if (s.rail (sub - 1)).enabled then .live else needs (s.refOk (sub - 1) v) .incompatible
  else if 0x4024 ≤ i && i ≤ 0x4027 then
    needs (!((sub == 1 || sub == 2 || sub == 4) && (List.range 16).any (fun p => s.get (0x4000 + p) 4 == i - 0x4024 && s.phaseInUse p))) .live
  else if 0x4420 ≤ i && i ≤ 0x4423 then s.fanRule (i - 0x4420) sub v
  else if i = 0x4800 && sub = 13 then needs (v == 0xFF || ringSize (s.ringDesc v) == 64) .incompatible
  else .ok

/-- What an object's chapter answers to a write whose value is in range. -/
def State.writeRule (s : State) (p : Port) (i sub v : Nat) : Status :=
  if i < 0x2000 then s.commRule i sub v
  else if i < 0x2200 then s.globalRule i sub v
  else if i < 0x3000 then s.memoryRule p i sub v
  else if i < 0x4000 then s.senseRule i sub v
  else s.powerRule i sub v

end Sys2Proof.Machine
end

