-- ==== Sys2Proof/Machine/ObjWrite.lean ====
section
/-!
DEFINITION. What an accepted write of an object does beyond storing its value: the commands and applies of every chapter, and what a changed value sets
off. A write that ends later has no status yet; its port is answered when it ends.
-/

namespace Sys2Proof.Machine

/-- A state, and the status of the request where it has ended. -/
abbrev Ended := State × Option Status

/-- A request carried out. -/
def done (s : State) : Ended := (s, some .ok)

/-- A command's outcome as a request's. -/
def ended (r : State × Status) : Ended := (r.1, some r.2)

/-! ### 0x1000 to 0x1FFF -/

/-- A PDO's entry starts afresh when its parameters or its mapping change while PDOs run. -/
def pdoChanged (s : State) (comm n : Nat) : State :=
  if s.can.nmt ≠ .operational then s
  else if comm = 0x1800 then s.setTpdo n (s.freshTpdo n)
  else { s with can := { s.can with rpdos := s.can.rpdos.set n Rpdo.reset } }

/-- Program control (Table 18.4). -/
def programControl (s : State) (p sub v : Nat) (asker : Asker) : Ended :=
  if !s.update.scanned && s.power.step ≠ .loader then (s, some .busy)
  else if (s.update.session.map (fun x => x.port != p)).getD false then (s, some .busy)
  else
    match v with
    | 0 => ended (programStop s)
    | 1 => ended (programControlStart s sub)
    | 3 => programClear s p sub asker
    | 0x80 => ended (programVerify s sub)
    | 0x81 => ended (programActivate s.draw sub (Config.outcome s.draws))
    | _ => (s, some .range)

/-- Writes of 0x1000 to 0x1FFF. -/
def writeComm (s : State) (p : Port) (tag i sub v : Nat) : Ended :=
  let t := s.set i sub v
  let asker := Asker.port p.code i sub tag
  if i = 0x1003 then done ((List.range 17).foldl (fun u k => u.set 0x1003 k 0) s)
  else if i = 0x1010 then beginSave s sub asker
  else if i = 0x1011 then beginRestore s sub asker
  else if i = 0x1016 then done { t with can := { t.can with consumers := t.can.consumers.set (sub - 1) .idle } }
  else if 0x1400 ≤ i && i ≤ 0x143F then done (if sub ≤ 2 then pdoChanged t 0x1400 (i - 0x1400) else t)
  else if 0x1600 ≤ i && i ≤ 0x163F then done (if sub = 0 then pdoChanged t 0x1400 (i - 0x1600) else t)
  else if 0x1800 ≤ i && i ≤ 0x183F then done (if sub ≤ 2 || sub = 6 then pdoChanged t 0x1800 (i - 0x1800) else t)
  else if 0x1A00 ≤ i && i ≤ 0x1A3F then done (if sub = 0 then pdoChanged t 0x1800 (i - 0x1A00) else t)
  else if i = 0x1F51 then programControl s p.code sub v asker
  else done t

/-! ### 0x2000 to 0x21FF -/

/-- Attributes of a host window (R267): a write that clears OPEN ends when every read outstanding to the window has ended. -/
def writeWindowAttr (s : State) (p : Port) (tag sub v : Nat) : Ended :=
  let w := sub / 3 - 1
  let closes := bit (s.get 0x2034 sub) 15 && !bit v 15
  let t := noteOpener (s.set 0x2034 sub v) p 0x2034 sub (s.get 0x2034 sub) v
  let t := if closes then windowCloses t w else t
  if closes && s.link.tags.any (fun x => x.window == w) then
    ({ t with link := { t.link with closing := t.link.closing ++ [(w, .port p.code 0x2034 sub tag)] } }, none)
  else done t

/-- Writes of 0x2000 to 0x21FF. -/
def writeGlobal (s : State) (p : Port) (tag i sub v : Nat) : Ended :=
  let t := s.set i sub v
  if i = 0x2001 then done { s with store := { s.store with query := s.store.query.set p.code v } }
  else if i = 0x2003 then beginImport s (v == 2) (.port p.code i sub tag)
  else if i = 0x2030 && sub = 3 then done (if v = 1 then enterRetrain s else enterDetect s)
  else if i = 0x2030 then done (linkReview t)
  else if i = 0x2032 then done (t.setFlag 0x2031 13 2 false)
  else if i = 0x2034 && sub % 3 = 0 then writeWindowAttr s p tag sub v
  else if i = 0x2035 then done (noteOpener t p i sub (s.get i sub) v)
  else if i = 0x2100 && sub = 8 then ended (applyFrame s)
  else done t

/-! ### 0x2200 to 0x2FFF -/

/-- The page-table base (R290): a change of the base is followed by an invalidate-all. -/
def writePageBase (s : State) (v : Nat) : State :=
  let t := s.set 0x2200 1 v
  if bits v 10 12 ≠ bits (s.get 0x2200 1) 10 12 then tlbCommand t 2 0 else t

/-- A ring's command (Table 8.9): the opening port is recorded, and the user program where one opens it. -/
def ringCommand (s : State) (p : Port) (n v : Nat) : State × Status :=
  match v with
  | 1 => ringOpen s n (p.code + 1) (if p = .T then s.userNow else 0)
  | 2 => (ringClose s n, .ok)
  | _ => (ringAcknowledge s n, .ok)

/-- A write of the PUSH window (R319). -/
def pushWindow (s : State) (p : Port) (n : Nat) (entry : List Nat) : Ended :=
  match ringPush s n (p == .T) entry with
  | (t, .done) => done t
  | (t, .busy) => (t, some .busy)
  | (t, .waits) => (t, none)

/-- A task's control (R324): a task enabled or disabled starts with nothing pending and nothing seen. -/
def writeTaskControl (s : State) (t v : Nat) : State :=
  let was := bit (s.get (0x2500 + t) 6) 0
  let s := s.set (0x2500 + t) 6 v
  if was == bit v 0 then s
  else { s with sched := { s.sched.setTask t Task.reset with ready := s.sched.ready.filter (fun x => x != t) } }

/-- A word of vector masks: vectors unmasked try to send (R272). -/
def writeMask (s : State) (sub v : Nat) : State :=
  let old := s.get 0x2622 sub
  (setBits 32 old).foldl (fun t b => if bit v b then t else trySend t (32 * (sub - 1) + b)) (s.set 0x2622 sub v)

/-- Writes of 0x2200 to 0x2FFF. -/
def writeMemory (s : State) (p : Port) (i sub v : Nat) : Ended :=
  let t := s.set i sub v
  if i = 0x2200 && sub = 1 then done (writePageBase s v)
  else if i = 0x2210 then done (tlbCommand s (bits v 62 2) (bits v 12 16))
  else if 0x2400 ≤ i && i ≤ 0x24FF then
    let n := i - 0x2400
    if sub = 2 then ended (ringCommand s p n v)
    else if sub = 4 || sub = 5 then done (ringSpace (ringIndex s n (sub == 5) v (p == .K)) n)
    else if sub = 10 then pushWindow s p n (toLE (ringSize (s.ringDesc n)) v)
    else done t
  else if 0x2500 ≤ i && i ≤ 0x257F && sub = 6 then done (writeTaskControl s (i - 0x2500) v)
  else if 0x2610 ≤ i && i ≤ 0x2619 then done (noteOpener t p i sub (s.get i sub) v)
  else if i = 0x2622 then done (writeMask s sub v)
  else if i = 0x2623 then done (raiseVector s v)
  else if 0x2810 ≤ i && i ≤ 0x2813 && sub = 1 then ended (programCommand s (i - 0x2810 + 1) v)
  else done t

/-! ### 0x3000 to 0x3FFF -/

/-- The drive voltage of HVOUT changes: every baseline is stale (R452), and HVOUT has yet to settle (R485). -/
def writeDrive (s : State) (v : Nat) : State :=
  if v = s.get 0x3202 5 then s
  else
    let s := staleAll (s.set 0x3202 5 v)
    { s with touch := { s.touch with hvChanging := true } }

/-- Pre-arm enable: 0 cancels a pre-arm with cause 6. -/
def writePrearm (s : State) (v : Nat) : State :=
  let t := s.set 0x3240 1 v
  if v = 0 && s.prearmed then prearmCancel t 6 else t

/-- Writes of 0x3000 to 0x3FFF. -/
def writeSense (s : State) (i sub v : Nat) : Ended :=
  if 0x3100 ≤ i && i ≤ 0x3117 && sub = 5 then ended (if v = 1 then laneSwitch s (i - 0x3100) else laneLoad s (i - 0x3100))
  else if i = 0x3202 && sub = 1 then ended (applyProfiles s)
  else if i = 0x3202 && sub = 5 then done (writeDrive s v)
  else if i = 0x3222 && sub = 9 then done { s with touch := { s.touch with capture := true } }
  else if i = 0x3240 && sub = 1 then done (writePrearm s v)
  else done (s.set i sub v)

/-! ### 0x4000 to 0x47FF -/

/-- A fan channel's command: apply curve or clear alarms (Table 16.5). -/
def fanCommand (s : State) (c v : Nat) : State × Status :=
  if v = 1 then applyCurve s c
  else (refreshFan (clearStall (s.setFlag (fanObj c) 23 6 false) c) c, .ok)

/-- A pack command (Table 15.12). What the pack answers to a write-back given by a plain write is the surroundings' (log entry 39). -/
def packCommand (s : State) (v : Nat) : State × Status :=
  if v = 1 then (if !s.onVin || s.power.vinLost then (s, .incompatible) else (exchangeTrigger s, .ok))
  else if !s.trusted then (s, .incompatible)
  else
    let good := Config.outcome s.draws
    (writeBackDue s.draw good (if good then .bytes (s.lifeRecord (satNat 32 (s.get 0x4330 11 + 1))) else .noAnswer), .ok)

/-- Writes of 0x4000 to 0x42FF. -/
def writePower (s : State) (i sub v : Nat) : Ended :=
  if 0x4010 ≤ i && i ≤ 0x401F then
    if sub = 2 then ended (writeTarget s (i - 0x4010) v)
    else if 7 ≤ sub && sub ≤ 9 then done (refreshEmergency (s.set i sub v))
    else done (s.set i sub v)
  else if 0x4100 ≤ i && i ≤ 0x410F && sub = 14 then ended (clearLatch (readSense s).1 (i - 0x4100) (readSense s).2)
  else if i = 0x4200 && sub = 3 then ended (writePowerRequest s v)
  else if i = 0x4200 && sub = 13 then ended (applyOrders s)
  else done (s.set i sub v)

/-- Writes of 0x4300 to 0x47FF. -/
def writePackThermal (s : State) (i sub v : Nat) : Ended :=
  if i = 0x4300 then ended (writeCharger s sub v)
  else if i = 0x4302 then done (clearCharger s)
  else if i = 0x4320 then ended (packCommand s v)
  else if 0x4401 ≤ i && i ≤ 0x4408 && sub = 1 then
    done (if v = s.get i 1 then s else tsModeChanged (s.set i 1 v) (i - 0x4401))
  else if 0x4420 ≤ i && i ≤ 0x4423 then
    if sub = 19 then ended (fanCommand s (i - 0x4420) v) else done (refreshFan (s.set i sub v) (i - 0x4420))
  else done (s.set i sub v)

/-! ### 0x4800 to 0x5FFF -/

/-- Update confirm and reject. -/
def updateCommand (s : State) (v : Nat) : State × Status :=
  if v = 1 then updateConfirm s else updateReject s (nth s.update.found (1 - s.update.running) BankFound.reset)

/-- Line tests by command (R714). -/
def lineTestCommand (s : State) (v : Nat) : State × Status :=
  startLineTest s (match v with | 1 => .electrode | 2 => .pwm | _ => .tacho)

/-- An OTP slot of 0x5F10 (Table 19.9). Whether it reads back is the surroundings' (log entry 39). -/
def writeOtp (s : State) (sub v : Nat) : State × Status :=
  let good := Config.outcome s.draws
  let s := s.draw
  if sub = 1 then programBase s v good
  else if 3 ≤ sub && sub ≤ 6 then programKey s (sub - 3) v good
  else programHash s (sub - 6) v good

/-- Debug access (0x5F00). -/
def writeDebug (s : State) (sub v : Nat) : State × Status :=
  if sub = 2 then toField s v
  else if sub = 6 then unlockResponse s (toLE 132 v)
  else if v = 1 then drawNonce s
  else if v = 2 then relock s
  else (s, .range)

/-- Writes of 0x4800 to 0x5FFF. -/
def writeService (s : State) (p : Port) (i sub v : Nat) : Ended :=
  if i = 0x4800 && sub = 1 then done (logPolicyChanged (s.set i sub v))
  else if i = 0x4800 && sub = 6 then done (logClear s)
  else if i = 0x4801 then ended (writeCursor s p v)
  else if i = 0x4802 then done (queueLog s 0x0180 v)
  else if i = 0x4900 && sub = 5 then ended (updateCommand s v)
  else if i = 0x4A10 then ended (lineTestCommand s v)
  else if i = 0x5F00 then ended (writeDebug s sub v)
  else if i = 0x5F10 then ended (writeOtp s sub v)
  else done (s.set i sub v)

/-- What an accepted write does. -/
def writeEffect (s : State) (p : Port) (tag i sub v : Nat) : Ended :=
  if i < 0x2000 then writeComm s p tag i sub v
  else if i < 0x2200 then writeGlobal s p tag i sub v
  else if i < 0x3000 then writeMemory s p i sub v
  else if i < 0x4000 then writeSense s i sub v
  else if i < 0x4300 then writePower s i sub v
  else if i < 0x4800 then writePackThermal s i sub v
  else writeService s p i sub v

end Sys2Proof.Machine
end

