-- ==== Sys2Proof/Machine/ObjRequests.lean ====
section
/-!
DEFINITION. The arbiter (R142, R143): what a port's read, write, segment access or descriptor query ends with. A request that ends later (a store, an
erase, a POP from the host's memory, a full ring) is answered by `finishRequest`.
-/

namespace Sys2Proof.Machine

/-- A state, and the status and data of the read where it has ended. -/
abbrev ReadEnded := State × Option (Status × List Nat)

/-- A read carried out. -/
def gave (s : State) (data : List Nat) : ReadEnded := (s, some (.ok, data))

/-- A read refused. -/
def refusedRead (s : State) (st : Status) : ReadEnded := (s, some (st, []))

/-- The objects that the recovery loader serves (R685). -/
def loaderServes (i sub : Nat) : Bool :=
  i == 0x1000 || i == 0x1018 || (sub == 1 && (i == 0x1F50 || i == 0x1F51 || i == 0x1F56 || i == 0x1F57)) || (i == 0x4900 && sub == 1)

/-- The recovery loader runs (R685). -/
def State.inLoader (s : State) : Bool := decide (s.power.step = .loader) && !s.power.hardReset

/-- The objects that command the store: 0x1010, 0x1011 and 0x2003:03 (R191). -/
def storeCommand (i sub : Nat) : Bool := ((i == 0x1010 || i == 0x1011) && 1 ≤ sub && sub ≤ 3) || (i == 0x2003 && sub == 3)

/-- Why no object is reached at all: the loader serves few (R685, R686), and refuses the store's commands with HARDWARE where the flash is absent (R191); before the
restore the dictionary is not ready (R193). -/
def State.barred (s : State) (p : Port) (i sub : Nat) (write : Bool) : Option Status :=
  if s.inLoader then
    if p == .K || p == .T then some .noObject
    else if s.store.flashAbsent && write && storeCommand i sub then some .hardware
    else if !loaderServes i sub then some .noObject
    else if s.store.flashAbsent && i ≠ 0x1000 && i ≠ 0x1018 then
      some (if write && (i == 0x1F50 || i == 0x1F51) then .hardware else .noObject)
    else none
  else if s.up then none else some .notReady

/-! ### POP windows -/

/-- An MRD for the entry at C of a ring in a host window (R319). -/
def popIssue (s : State) (n port tag host : Nat) : State :=
  match s.pick s.freeTags with
  | (s, none) => s
  | (s, some t) =>
    let s : State := { s with link := { s.link with tags := s.link.tags ++ [⟨t, .pop n port tag (some (s.sched.ring n).cons), bits (s.ringDesc n) 55 4⟩] } }
    s.sendPacket (.mrd t (ringSize (s.ringDesc n)) host)

/-- What a POP of an empty ring returns (R319). -/
def State.emptyEntry (s : State) (n : Nat) : List Nat := List.replicate (ringSize (s.ringDesc n)) 0

/-- A waiting POP: one at a time for each ring in a host window, and only with a free tag (R257); or one whose bank was held (R372). -/
def servePop (s : State) (e : Nat × Nat × Nat) : State :=
  let (n, port, tag) := e
  let outstanding := s.link.tags.any (fun x => match x.use with
    | .pop m _ _ _ => m == n
    | _ => false)
  if outstanding || s.freeTags.isEmpty then { s with link := { s.link with pops := s.link.pops ++ [e] } }
  else
    let answer := fun (t : State) (st : Status) (d : List Nat) => finishRequest t port (0x2400 + n) 9 tag st d
    match ringPop s n (port = 3 && tag = 1) with
    | (t, .held) => { t with link := { t.link with pops := t.link.pops ++ [e] } }
    | (t, .awaits host) => popIssue t n port tag host
    | (t, .empty) => answer t .ok (t.emptyEntry n)
    | (t, .entry d) => answer t .ok d
    | (t, .failed) => answer t .hardware []

/-- The waiting POPs, oldest first. -/
def servePops (s : State) : State := s.link.pops.foldl servePop { s with link := { s.link with pops := [] } }

/-- A read of a POP window (R319). -/
def popWindow (s : State) (p : Port) (n tag : Nat) (peek : Bool) : ReadEnded :=
  match ringPop s n peek with
  | (t, .entry e) => gave t e
  | (t, .empty) => gave t (t.emptyEntry n)
  | (t, .failed) => refusedRead t .hardware
  | (t, .awaits _) | (t, .held) =>
    let e := (n, p.code, if p = .D then b2n peek else tag)
    (servePops { t with link := { t.link with pops := t.link.pops ++ [e] } }, none)

/-! ### Segments (R169 to R176, R653, R675) -/

/-- The first access of a port's export transfer captures its image (R174). -/
def captureExport (s : State) (p : Port) : State := { s with store := { s.store with exports := s.store.exports.set p.code (some s.configImage) } }

/-- A read of a segment's bytes, or of the log window from the port's cursor. -/
def segmentData (s : State) (p : Port) (i offset length : Nat) (peek : Bool) : State × List Nat :=
  if i = 0x2003 then
    let s := if offset = 0 || (nth s.store.exports p.code none).isNone then captureExport s p else s
    (s, (((nth s.store.exports p.code none).getD []).drop offset).take length)
  else if !s.log.opened then (s, [])
  else readWindow s p (windowEntries p length) peek

/-- Bytes placed in the staging segment (R176). -/
def stageBytes (s : State) (offset : Nat) (data : List Nat) : State × Status :=
  let l := s.store.staging
  if offset + data.length > 65536 then (s, .length)
  else
    let l := l ++ List.replicate (offset - l.length) 0
    ({ s with store := { s.store with staging := l.take offset ++ data ++ l.drop (offset + data.length) } }, .ok)

/-- A write to a segment: the staging segment, or program data, which is appended (R675, R677). Whether the flash takes a block is the surroundings' (log
entry 39). -/
def segmentStore (s : State) (p : Port) (i sub offset : Nat) (data : List Nat) : State × Status :=
  if i = 0x2003 then stageBytes s offset data
  else if !s.update.scanned && !s.inLoader then (s, .busy)
  else if (s.update.session.map (fun x => x.port != p.code)).getD false then (s, .busy)
  else programData s.draw p.code sub (if p = .C then none else some offset) data (Config.outcome s.draws)

/-- A segment read from a port. -/
def segRead (s : State) (p : Port) (i sub offset length : Nat) (peek : Bool) : ReadEnded :=
  match s.barred p i sub false with
  | some st => refusedRead s st
  | none =>
    if peek && p ≠ .D then refusedRead s .noAccess
    else if definedStatus i sub ≠ .ok then refusedRead s (definedStatus i sub)
    else if !segment i sub then refusedRead s .badRequest
    else
      match s.checkRead p i sub with
      | .ok =>
        let r := segmentData s p i offset length peek
        gave r.1 r.2
      | e => refusedRead s e

/-- A segment write from a port. -/
def segWrite (s : State) (p : Port) (i sub offset : Nat) (data : List Nat) : Ended :=
  match s.barred p i sub true with
  | some st => (s, some st)
  | none =>
    if definedStatus i sub ≠ .ok then (s, some (definedStatus i sub))
    else if !segment i sub then (s, some .badRequest)
    else
      match s.checkWrite p i sub with
      | .ok => ended (segmentStore s p i sub offset data)
      | e => (s, some e)

/-! ### Whole values -/

/-- The value of a resident object as its port reads it. -/
def State.valueAt (s : State) (p : Port) (i sub : Nat) : Nat :=
  if i = 0x2001 && sub = 1 then nth s.store.query p.code 0
  else if i = 0x2001 && sub = 2 then s.queried p
  else if i = 0x4801 && sub = 1 then nth s.log.cursors p.code 0xFFFFFFFF
  else readValue s i sub

/-- A read of one sub-index (R141, R150 to R155). `tag` is a K request's. On C a segment is read whole. -/
def readRequest (s : State) (p : Port) (i sub : Nat) (peek : Bool) (tag : Nat) : ReadEnded :=
  if segment i sub && p = .C then segRead s p i sub 0 16777215 peek
  else
    match s.barred p i sub false with
    | some st => refusedRead s st
    | none =>
      if peek && p ≠ .D then refusedRead s .noAccess
      else if segment i sub then refusedRead s .badRequest
      else
        match s.checkRead p i sub with
        | .ok =>
          if 0x2400 ≤ i && i ≤ 0x24FF && sub = 9 then popWindow s p (i - 0x2400) tag peek
          else gave (if rcLatch i sub && !peek then s.set i sub 0 else s) (toLE (sizeOf i sub) (s.valueAt p i sub))
        | e => refusedRead s e

/-- A PUSH window. -/
def isPush (i sub : Nat) : Bool := decide (0x2400 ≤ i) && decide (i ≤ 0x24FF) && sub == 10

/-- The checks of a write's value: its length, its range, and what its object's chapter refuses (R11, R13, R157). -/
def State.judgeWrite (s : State) (p : Port) (i sub : Nat) (data : List Nat) : Status :=
  let v := keptFields i sub (fromLE data)
  if data.length ≠ s.sizeNow p i sub then .length
  else if isPush i sub then .ok
  else if !rowOk i sub v || !s.rangeOk i sub v then .range
  else s.writeRule p i sub v

/-- The value of a write with what its reserved fields carry discarded (R13); an entry for a PUSH window is taken as it is. -/
def writtenValue (i sub : Nat) (data : List Nat) : Nat :=
  if isPush i sub then fromLE data else keptFields i sub (fromLE data)

/-- A write of one sub-index (R141, R143). On C a segment is written from its start. -/
def writeRequest (s : State) (p : Port) (i sub : Nat) (data : List Nat) (tag : Nat) : Ended :=
  if segment i sub && p = .C then segWrite s p i sub 0 data
  else
    match s.barred p i sub true with
    | some st => (s, some st)
    | none =>
      if segment i sub then (s, some .badRequest)
      else
        match s.checkWrite p i sub with
        | .ok =>
          match s.judgeWrite p i sub data with
          | .ok => writeEffect s p tag i sub (writtenValue i sub data)
          | e => (s, some e)
        | e => (s, some e)

/-- A descriptor query (R146). -/
def queryDescriptor (s : State) (p : Port) (i sub : Nat) : ReadEnded :=
  match s.barred p i sub false with
  | some st => refusedRead s st
  | none =>
    if s.gateDenies p i sub false then refusedRead s .noAccess
    else gave s (toLE 8 (s.descriptor p i sub (if p = .T then s.userNow else 0)))

/-! ### The commands -/

/-- The reply to a request that has ended. -/
def answer (p : Port) (r : Ended) : State :=
  (match r.2 with
    | some st => r.1.reply p st []
    | none => r.1)

/-- The reply to a read that has ended. -/
def answerRead (p : Port) (r : ReadEnded) : State :=
  (match r.2 with
    | some x => r.1.reply p x.1 x.2
    | none => r.1)

/-- A command given by writing a value to an object. -/
def writeCommand (s : State) (p : Port) (i sub v : Nat) : State := answer p (writeRequest s p i sub (toLE (s.sizeNow p i sub) v) 0)

/-- OBJECT_READ (R141, R143, R151). -/
def actObjectRead (port : Port) (index sub : Nat) (peek : Bool) (s : State) : State := answerRead port (readRequest s port index sub peek 0)

/-- OBJECT_WRITE (R143, R11). -/
def actObjectWrite (port : Port) (index sub value size : Nat) (s : State) : State :=
  answer port (writeRequest s port index sub (toLE size value) 0)

/-- SEGMENT_READ (R169, R172). -/
def actSegmentRead (port : Port) (index sub offset length : Nat) (s : State) : State :=
  answerRead port (segRead s port index sub offset length false)

/-- SEGMENT_WRITE (R169, R176). -/
def actSegmentWrite (port : Port) (index sub offset : Nat) (data : List Nat) (s : State) : State :=
  answer port (segWrite s port index sub offset data)

/-- DESCRIPTOR_QUERY (R146). -/
def actDescriptorQuery (port : Port) (index sub : Nat) (s : State) : State := answerRead port (queryDescriptor s port index sub)

/-- RC_LATCH_READ (R150, R153). -/
def actRcLatchRead (port : Port) (index sub : Nat) (peek : Bool) (s : State) : State :=
  answerRead port (readRequest s port index sub peek 0)

/-- Why an access to a segment is refused at once; OK where it may go on. -/
def State.segmentAccess (s : State) (p : Port) (i sub : Nat) (write : Bool) : Status :=
  match s.barred p i sub write with
  | some st => st
  | none =>
    if definedStatus i sub ≠ .ok then definedStatus i sub
    else if !segment i sub then .badRequest
    else if write then s.checkWrite p i sub else s.checkRead p i sub

/-- An access whose fill did not come within 100 ms is refused with HARDWARE and counted as a failed fill; on C the transfer of the object is aborted (R171). -/
def segmentUnfilled (s : State) (p : Port) (i sub : Nat) : State :=
  let s := (countFailed s).reply p .hardware []
  if p = .C && s.can.sdo.mux == (i, sub) then sdoAbort s i sub Status.hardware.abort else s

/-- SEGMENT_FILL_TIMEOUT (R171): a read or write of a segment that missed its page, and whose fill did not come. An access that would have been refused at once never
waited, and gets that answer (log entry 35). -/
def actSegmentFillTimeout (port : Port) (index sub : Nat) (write : Bool) (s : State) : State :=
  (match s.segmentAccess port index sub write with
    | .ok => segmentUnfilled s port index sub
    | st => s.reply port st [])

/-- SAVE_PARAMETERS (R158, R159). -/
def actSaveParameters (port : Port) (group signature : Nat) (s : State) : State := writeCommand s port 0x1010 group signature

/-- RESTORE_DEFAULT_PARAMETERS (R158, R160). -/
def actRestoreDefaultParameters (port : Port) (group signature : Nat) (s : State) : State := writeCommand s port 0x1011 group signature

/-- CONFIGURATION_EXPORT (R174): the first access, of as much as the port carries at once. -/
def actConfigurationExport (port : Port) (s : State) : State :=
  answerRead port (segRead s port 0x2003 1 0 (if port = .C then 16777215 else 256) false)

/-- IMPORT_STRICT (R178, R179). -/
def actImportStrict (port : Port) (s : State) : State := writeCommand s port 0x2003 3 1

/-- IMPORT_SKIP_UNKNOWN (R178, R179). -/
def actImportSkipUnknown (port : Port) (s : State) : State := writeCommand s port 0x2003 3 2

end Sys2Proof.Machine
end

