-- ==== Sys2Proof/Machine/Link.lean ====
section
/-!
DEFINITION. The Kyodlink commands of the link itself (R245 to R253, R257 to R259, R264, R269 to R274, R284): training, flits with their sequence, replay and
credits, the stream, moderation and the closing of host windows. What a received packet does is `Machine/Inbound.lean`'s.
-/

namespace Sys2Proof.Machine

/-! ### Training (Table 7.2, R246, R247, R253) -/

/-- The lanes of a width (R241): x1 lane 0, x2 lanes 0 and 1, x4 lanes 0 to 3. -/
def widthLanes (w : Nat) : Nat := 2 ^ w - 1

/-- Every lane of a width shows signal. -/
def widthSignal (signal w : Nat) : Bool := (signal &&& widthLanes w) == widthLanes w

/-- The width at which the link trains (R247), none where no width qualifies. -/
def State.widthFound (s : State) (signal : Nat) : Option Nat :=
  let w := s.link.trainWidth
  if widthSignal signal w then some w
  else if s.get 0x2030 2 ≠ 1 then none
  else [2, 1].find? (fun x => decide (x < w) && widthSignal signal x)

/-- DETECT_COMPLETE (R245, R247): lanes with signal are reported; the link trains at the width found, NARROWED where it is not the configured one, or fails. -/
def actDetectComplete (signal : Nat) (s : State) : State :=
  (if s.linkState ≠ 2 then s
    else
      let s := s.set 0x2031 3 (signal % 16)
      match s.widthFound (signal % 16) with
      | none => linkFailed s
      | some w => setLink ((if w = s.link.trainWidth then s else s.setFlag 0x2031 13 1 true).set 0x2031 2 w) 3)

/-- EQUALISE_COMPLETE (Table 7.2). -/
def actEqualiseComplete (s : State) : State := (if s.linkState = 3 then setLink s 4 else s)

/-- ALIGN_COMPLETE (Table 7.2). -/
def actAlignComplete (s : State) : State := (if s.linkState = 4 then putLink (setLink (freshLanes s) 5) else s)

/-- CONFIG_COMPLETE (Table 7.2, R251, R278, R279). -/
def actConfigComplete (s : State) : State := (if s.linkState = 5 then linkUpEntered s true else s)

/-- TRAINING_PHASE_TIMEOUT (R245): a phase of the training exceeds its limit. -/
def actTrainingPhaseTimeout (s : State) : State := (if 2 ≤ s.linkState && s.linkState ≤ 5 then linkFailed s else s)

/-- FAILED_TIMEOUT (Table 7.2). -/
def actFailedTimeout (s : State) : State := (if s.linkState = 8 then enterDetect s else s)

/-- A width that a retrain can come back with: the one in force, or a narrower one where that is allowed (R247, R253). -/
def State.retrainWidthOk (s : State) (w : Nat) : Bool :=
  w == s.get 0x2031 2 || ((w == 1 || w == 2) && decide (w < s.get 0x2031 2) && s.get 0x2030 2 == 1)

/-- RETRAIN_COMPLETE (R253): LINK_UP again with nothing lost; a narrower width sets NARROWED and may suspend the stream (R271). -/
def actRetrainComplete (width : Nat) (s : State) : State :=
  (if s.linkState ≠ 7 || !s.retrainWidthOk width then s
    else
      let s := (if width = s.link.trainWidth then s else s.setFlag 0x2031 13 1 true).set 0x2031 2 width
      streamSuspend (linkUpEntered s false))

/-- RETRAIN_TIMEOUT (R253): a link-down event. -/
def actRetrainTimeout (s : State) : State := (if s.linkState = 7 then enterDetect s else s)

/-- RETRAIN_REQUEST (R246): 1 to 0x2030:03. -/
def actRetrainRequest (port : Port) (s : State) : State := writeCommand s port 0x2030 3 1

/-- FULL_TRAINING_REQUEST (R246): 2 to 0x2030:03. -/
def actFullTrainingRequest (port : Port) (s : State) : State := writeCommand s port 0x2030 3 2

/-- KREF_LOSS (R284). -/
def actKrefLoss (s : State) : State := (linkReview { s with clocks := { s.clocks with kref := false } })

/-- KREF_RETURN (R284): training begins if the condition of R246 holds. -/
def actKrefReturn (s : State) : State := (linkReview { s with clocks := { s.clocks with kref := true } })

/-! ### Sending (R251, R256, R258, R259) -/

/-- The packets of `out` that may leave now without passing one they may not pass (R256): all before the first posted packet, and that one. -/
def mayLeave : List Packet → List Packet
  | [] => []
  | p :: rest => if p.posted then [p] else p :: mayLeave rest

/-- A posted packet has its credits (R258). -/
def State.affords (s : State) (n : Nat) (p : Packet) : Bool := !p.posted || decide (n ≤ s.link.credits)

/-- The flits that a packet fills, 244 bytes each; the device begins each packet in a flit of its own (a choice that R254 leaves it, PAD filling the rest). -/
def flitsOf (p : Packet) : Nat := (p.bytes + 243) / 244

/-- The packet that leaves next: of each class the first issued, and of those the one of the highest priority that is not stalled for credits (R256, R258, R259). -/
def State.nextPacket (s : State) : Option Packet :=
  let l := mayLeave s.link.out
  [1, 2, 3, 4].findSome? (fun n => (l.find? (fun p => p.priority == n)).filter (fun p => s.affords (flitsOf p) p))

/-- The replay buffer has room for a packet (R251). -/
def State.roomFor (s : State) (p : Packet) : Bool := decide (s.link.replay.length + flitsOf p ≤ 128)

/-- A packet leaves in its flits: each waits in the replay buffer; posted ones cost a credit each. -/
def sendFlits (s : State) (p : Packet) : State :=
  let n := flitsOf p
  let l := s.link
  let fresh : List TxFlit := (List.range n).map (fun k => ⟨(l.nextSeq + k) % 4096, p, k, k + 1 == n⟩)
  fresh.foldl putData { s with link := { l with
      replay := l.replay ++ fresh
      nextSeq := (l.nextSeq + n) % 4096
      credits := if p.posted then l.credits - n else l.credits } }

/-- The oldest stream packet over all sources: the lowest SEQ, modulo 2^32, first. -/
def Link.streamHead (l : Link) (next : Nat) : Option Packet :=
  let heads := l.streams.filterMap (fun x => x.buffer.head?)
  let age : Packet → Nat := fun p => match p with
    | .stream _ _ q _ _ => (next + 2 ^ 32 - q) % 2 ^ 32
    | _ => 0
  heads.foldl (fun (m : Option Packet) p => match m with
    | none => some p
    | some q => if age q < age p then some p else some q) none

/-- A stream packet leaves its buffer with DISCONT where one of its source was dropped since the last sent (Table 7.8). -/
def sendStream (s : State) (p : Packet) : State :=
  match p with
  | .stream src flags q t samples =>
    let dis := ((s.link.streams[src]?).map (·.discont)).getD false
    let s : State := { s with link := { s.link with
      streams := s.link.streams.modify src (fun x => { x with buffer := x.buffer.drop 1, discont := false }) } }
    sendFlits s (.stream src (putBit flags 15 dis) q t samples)
  | _ => s

/-- DATA flits fill by priority (R259) while packets may leave and room and credits last. A class that is stalled for credits leaves way to the next; STREAM fills what
remains. -/
def transmit : Nat → State → State
  | 0, s => s
  | n + 1, s =>
    match s.nextPacket with
    | some p =>
      if s.roomFor p then transmit n (sendFlits { s with link := { s.link with out := s.link.out.erase p } } p) else s
    | none =>
      if s.link.out.any Packet.posted then s
      else
        match s.link.streamHead (s.get 0x2032 2) with
        | some p => if s.roomFor p && s.affords (flitsOf p) p then transmit n (sendStream s p) else s
        | none => s

/-- The device sends what it may: in LINK_UP only, no more packets than the replay buffer holds flits. -/
def sendData (s : State) : State := if s.linkState = 6 then transmit 128 s else s

/-! ### Receiving (R248 to R254, R258) -/

/-- Every flit not acknowledged goes out again, in order (R251). -/
def resend (s : State) : State := if s.linkState = 6 then s.link.replay.foldl putData s else s

/-- A replay (R251, R253): counted, and every flit after the last one acknowledged is sent again; the fourth in succession at the same flit leads to RETRAIN. -/
def replay (s : State) : State :=
  if s.link.replay.isEmpty then s
  else
    let run := s.link.replayRun + 1
    let s : State := (s.count 0x2031 7)
    if run ≥ 4 && s.linkState = 6 then enterRetrain { s with link := { s.link with replayRun := 0 } }
    else resend { s with link := { s.link with replayRun := run } }

/-- An acknowledgement of every flit up to `a` within the window of 128 behind the next SEQ (R251). -/
def acknowledge (s : State) (a : Nat) : State :=
  let l := s.link
  if (l.nextSeq + 4095 - a) % 4096 < 128 then
    let left := l.replay.filter (fun f => decide ((a + 4096 - f.seq) % 4096 ≥ 128))
    { s with link := { l with replay := left, replayRun := if left.length < l.replay.length then 0 else l.replayRun } }
  else s

/-- The receiver asks for a resend, once until it has accepted the next expected flit. -/
def sendNak (s : State) : State :=
  if s.link.nakSent then s
  else { s with link := { s.link with nakSent := true, ackType := .nak, ackSeq := (s.link.expected + 4095) % 4096 } }

/-- A flit's payload is parsed (R254): what it completes goes on as its own commands, posted bytes return their credit, and a packet that cannot be parsed, or that comes
against its direction, is counted and reported, with the rest of the payload discarded. -/
def parsePayload (s : State) (f : Flit) : State :=
  let r := f.parse s.link.rxPart s.link.rxLost
  let again := s.link.rxLost && decide (60 < f.first)
  let s : State := { s with link := { s.link with
    rxPart := r.rest, rxLost := r.lost, parsed := r.packets
    returned := if r.posted then s.link.returned + 1 else s.link.returned } }
  if r.lost && !again then raiseVector (s.count 0x2031 11) 258 else s

/-- A DATA flit that is good (R251). It is acknowledged at once, which keeps both limits of R252. -/
def acceptData (s : State) (f : Flit) : State :=
  let ahead := (f.seq + 4096 - s.link.expected) % 4096
  if ahead = 0 then
    let l := s.link
    parsePayload { s with link := { l with expected := (l.expected + 1) % 4096, nakSent := false, ackType := .ack, ackSeq := f.seq % 4096 } } f
  else if ahead ≥ 4096 - 128 then s
  else sendNak s

/-- A good flit: its credits and its ACK or NAK, then its payload. -/
def goodFlit (s : State) (f : Flit) : State :=
  let s : State := { s with link := { s.link with credits := s.link.credits + f.pcred } }
  let s := match f.ack with
    | .none => s
    | .ack => acknowledge s f.ackSeq
    | .nak => replay (acknowledge s f.ackSeq)
  match f.ftype with
  | .data => acceptData s f
  | _ => s

/-- FLIT_RECEIVED (R248 to R251, R254, R258): from CONFIG on, codewords are counted, the flit is taken or discarded, and in LINK_UP the device sends what waits, or an
IDLE flit. `uncorrectable`: the codewords that carry it and cannot be corrected. -/
def actFlitReceived (bytes : List Nat) (corrected uncorrectable : Nat) (s : State) : State :=
  (if s.linkState < 5 || 7 < s.linkState then s
    else
      let flit := Flit.of bytes
      let s := (s.set 0x2031 9 (satNat 64 (s.get 0x2031 9 + corrected))).countBy 0x2031 10 uncorrectable
      let s := freshLanes s
      let s := if flit.good && uncorrectable = 0 then goodFlit s flit else sendNak (s.count 0x2031 8)
      let s := sendData s
      if s.linkState = 6 then putIdle s else s)

/-- ACK_TIMEOUT (R252): the oldest flit unacknowledged has waited 2 µs. -/
def actAckTimeout (s : State) : State := (if s.linkState = 6 then replay (freshLanes s) else s)

/-! ### Completions of the device's reads (R257, R262, R264) -/

/-- A link error: a packet discarded, with vector 258 (R254, R257, R268). -/
def linkError (s : State) : State := raiseVector (s.count 0x2031 11) 258

/-- A POP of a ring in a host window ends with the entry read: C advances, except for a PEEK from D (R155, R319), and where C has left the entry already (R331). -/
def popEnds (s : State) (n port tag : Nat) (index : Option Nat) (data : List Nat) : State :=
  let s := if (port = 3 && tag = 1) || index ≠ some (s.sched.ring n).cons then s else ringConsume s n
  finishRequest s port (0x2400 + n) 9 tag .ok data

/-- The tag is freed; what waited for one goes on. -/
def freeTag (s : State) (t : Nat) (f : State → State) : State :=
  servePops (pumpReads (f { s with link := { s.link with tags := s.link.tags.filter (fun x => x.tag != t) } }))

/-- CPL (R257, R262): the data of a fill's page come with PAGE_FILL_COMPLETE once each of its reads has been completed. -/
def completion (s : State) (tag status : Nat) (data : List Nat) : State :=
  match s.link.tags.find? (fun x => x.tag == tag) with
  | none => linkError s
  | some x =>
    freeTag s tag (fun t =>
      if status ≠ 0 then failRead t x.use
      else
        match x.use with
        | .pop n p g i => popEnds t n p g i data
        | _ => t)

/-- MRD_COMPLETION_TIMEOUT (R264): 50 ms without a completion free the tag and fail the read. -/
def actMrdCompletionTimeout (tag : Nat) (s : State) : State :=
  (match s.link.tags.find? (fun x => x.tag == tag) with
    | none => s
    | some x => freeTag (s.count 0x2031 12) tag (fun t => failRead t x.use))

/-- HOST_WINDOW_CLOSE_COMPLETE (R267): no read of the window is outstanding, and whoever closed it is answered. -/
def actHostWindowCloseComplete (w : Fin 16) (s : State) : State :=
  (if s.link.tags.any (fun x => x.window == w.val) then s
    else
      let askers := (s.link.closing.filter (fun e => e.1 == w.val)).map (·.2)
      let s : State := { s with link := { s.link with closing := s.link.closing.filter (fun e => e.1 != w.val) } }
      askers.foldl (fun t a => answerAsker t a .ok) s)

/-! ### The raw stream (R269 to R271) -/

/-- STREAM_SOURCES_WRITE (R269). -/
def actStreamSourcesWrite (port : Port) (value : Nat) (s : State) : State := writeCommand s port 0x2032 1 value

/-- A full buffer drops its oldest packet: counted, DISCONT due, vector 259 once per frame (R271). -/
def streamDrop (s : State) (src : Nat) : State :=
  let s : State := (s.count 0x2032 3)
  let s : State := { s with link := { s.link with
    streams := s.link.streams.modify src (fun x => { x with buffer := x.buffer.drop 1, discont := true }) } }
  if s.link.raised259 then s else raiseVector { s with link := { s.link with raised259 := true } } 259

/-- A source's packet at its boundary (R269, R270): SEQ counts whether or not it is sent; the source then follows 0x2032:01. -/
def formPacket (s : State) (src time : Nat) (dbOffset : Option Nat) (samples : List Nat) : State :=
  let on := bit (s.get 0x2032 1) src
  let x := nth s.link.streams src ⟨false, [], false⟩
  let put := fun (t : State) (f : StreamSrc → StreamSrc) => ({ t with link := { t.link with streams := t.link.streams.modify src f } } : State)
  let s := put s (fun y => { y with active := on })
  if !x.active then s
  else
    let q := s.get 0x2032 2
    let flags := match dbOffset with
      | some k => 2 ^ 14 + k % 1024
      | none => 0
    let s := if x.buffer.length ≥ 8 then streamDrop s src else s
    let s := put s (fun y => { y with buffer := y.buffer ++ [.stream src flags q time samples] })
    s.set 0x2032 2 ((q + 1) % 2 ^ 32)

/-- STREAM_PACKET_FORMED (R270, R271): 1,024 samples of a source make a packet. A link up too narrow for the sources suspends them. -/
def actStreamPacketFormed (source : Fin 17) (time : Nat) (dbOffset : Option Nat) (samples : List Sample) (s : State) : State :=
  (if !s.up || samples.length ≠ 1024 then s
    else
      let s := formPacket (freshLanes s) source.val time dbOffset (samples.map (Sample.container source.val))
      sendData (if s.linkUp then streamSuspend s else s))

/-! ### Moderation (R272, R274) -/

/-- HOLDOFF_EXPIRY (R272). -/
def actHoldoffExpiry (v : Fin 320) (s : State) : State :=
  (if (s.link.vec v.val).holdoff then
      trySend { s with link := s.link.setVec v.val { s.link.vec v.val with holdoff := false } } v.val
    else s)

/-- RAISE_USER_VECTOR (R274): a T write of 0x2623:01. -/
def actRaiseUserVector (v : Nat) (s : State) : State := writeCommand s .T 0x2623 1 v

end Sys2Proof.Machine
end

