-- ==== Sys2Proof/Machine/Inbound.lean ====
section
/-!
DEFINITION. What the host's packets do (R254 to R256, R260 to R265, R268): accesses to object space through inbound windows, object requests, doorbells and
reads of configuration space. A packet that must not pass one that waits on a page fill waits behind it.
-/

namespace Sys2Proof.Machine

/-! ### Object requests (Table 5.3) -/

/-- An object request word served for a port (R142, R260): malformed, it is refused; LENGTH 0 stands for 256 bytes of a segment. A
malformed word is judged before the dictionary's readiness (R193; DESIGN CHOICE, log entry 24). -/
def orwRequest (s : State) (p : Port) (tag orw : Nat) (data : List Nat) : ReadEnded :=
  let op := bits orw 60 3
  let i := bits orw 40 16
  let sub := bits orw 32 8
  let len := if bits orw 0 8 = 0 then 256 else bits orw 0 8
  let peek := bit orw 63
  let wrote := fun (r : Ended) => ((r.1, r.2.map (fun st => (st, []))) : ReadEnded)
  if op ≥ 5 || (op != 2 && op != 3 && bits orw 0 32 != 0) then refusedRead s .badRequest
  else if peek && p ≠ .D then refusedRead s .noAccess
  else
    match op with
    | 0 => readRequest s p i sub peek tag
    | 1 => wrote (writeRequest s p i sub data tag)
    | 2 => segRead s p i sub (bits orw 8 24) len peek
    | 3 => if data.length ≠ len then refusedRead s .badRequest else wrote (segWrite s p i sub (bits orw 8 24) data)
    | _ => queryDescriptor s p i sub

/-- An ORQ (R260): answered by its OCPL when it ends. -/
def serveOrq (s : State) (tag orw : Nat) (data : List Nat) : State :=
  match orwRequest s .K tag orw data with
  | (t, some (st, d)) => finishRequest t 1 (bits orw 40 16) (bits orw 32 8) tag st d
  | (t, none) => t

/-! ### Inbound windows (R265) -/

/-- Base and bytes of an inbound window that is open. -/
def State.inboundWindow (s : State) (w : Nat) : Option (Nat × Nat × Bool) :=
  let c := s.get 0x2035 (2 * w + 2)
  if bit c 31 then some (bits (s.get 0x2035 (2 * w + 1)) 0 28, (bits c 0 16 + 1) * 4096, bit c 30) else none

/-- The open inbound windows. -/
def State.inboundWindows (s : State) : List (Nat × Nat × Bool) := (List.range 16).filterMap s.inboundWindow

/-- The status of Table 7.5 for an access of `n` bytes, 0 where one open window holds it whole and, for a write, lets it. -/
def State.inboundStatus (s : State) (addr n : Nat) (write : Bool) : Nat :=
  let l := s.inboundWindows.filter (fun w => !write || w.2.2)
  if n % 4 ≠ 0 || n = 0 || 256 < n then 0x10
  else if l.any (fun w => decide (w.1 ≤ addr) && decide (addr + n ≤ w.1 + w.2.1)) && addr + n ≤ 2 ^ 28 then 0
  else if l.any (fun w => decide (w.1 ≤ addr) && decide (addr < w.1 + w.2.1)) then 0x10
  else 0x11

/-- What an inbound access meets; it waits for a fill, or for a bank that a LOCK sequence holds (R372). -/
inductive InOut where
  | bytes (l : List Nat)
  | waits
  | status (n : Nat)
deriving DecidableEq, Repr

/-- An access part's outcome after a miss: it waits on the fill, or the fill failed at once (Table 8.6). -/
def inMiss (s : State) (v : Nat) (again : State → State × MemOut) : State × InOut :=
  match demand s 3 v .inbound with
  | (s, .waits) => (s, .waits)
  | (s, .failed) => (s, .status 0x13)
  | (s, .claimed) =>
    match again s with
    | (s, .bytes l) => (s, .bytes l)
    | (s, .done) => (s, .bytes [])
    | (s, .poison) => (s, .status 0x14)
    | (s, .held) => (s, .waits)
    | (s, _) => (s, .status 0x11)

/-- A part of an access within one page, by the inbound windows' engine. -/
def inPart (s : State) (again : State → State × MemOut) : State × InOut :=
  match again s with
  | (s, .bytes l) => (s, .bytes l)
  | (s, .done) => (s, .bytes [])
  | (s, .poison) => (s, .status 0x14)
  | (s, .miss v) => inMiss s v again
  | (s, .held) => (s, .waits)
  | (s, .fault) => (s, .status 0x11)

/-- An access of at most 256 bytes as its parts in one or two pages: address and first byte, length. -/
def pageParts (addr n : Nat) : List (Nat × Nat × Nat) :=
  let first := min n (4096 - addr % 4096)
  if first = n then [(addr, 0, n)] else [(addr, 0, first), (addr + first, first, n - first)]

/-- The parts in turn, until one waits or fails. -/
def inParts (s : State) (acc : List Nat) (go : State → Nat × Nat × Nat → State × MemOut) : List (Nat × Nat × Nat) → State × InOut
  | [] => (s, .bytes acc)
  | p :: rest =>
    match inPart s (fun t => go t p) with
    | (s, .bytes l) => inParts s (acc ++ l) go rest
    | r => r

/-- An inbound read of object space. -/
def inRead (s : State) (addr n : Nat) : State × InOut := inParts s [] (fun t p => objRead t 3 p.1 p.2.2) (pageParts addr n)

/-- An inbound write of object space: a write of which a part waits or is refused is not carried out in part (R263). -/
def inWrite (s : State) (addr : Nat) (data : List Nat) : State × InOut :=
  let parts := pageParts addr data.length
  match inParts s [] (fun t p =>
      if t.accessHeld p.1 then (t, .held)
      else
        match translate t 3 (p.1 / 4096) .write with
        | (t, .fault) => (t, .fault)
        | (t, .miss) => (t, .miss (p.1 / 4096))
        | (t, .ok f _) =>
          match storeEcc t (f * 4096 + p.1 % 4096) p.2.2 with
          | (t, true) => (t, .poison)
          | (t, false) => (t, .done)) parts with
  | (t, .bytes _) => inParts t [] (fun u p => objWrite u 3 p.1 ((data.drop p.2.1).take p.2.2)) parts
  | r => r

/-! ### Doorbells and configuration space -/

/-- A doorbell (R268); one to a ring that is closed, or is being closed, counts as a post to it too (R332). -/
def serveDbell (s : State) (n value : Nat) : State :=
  if n < 256 then
    let r := s.sched.ring n
    if !r.isOpen || r.closing then linkError (s.count 0x2300 6)
    else ringSpace (ringIndex s n (!bit (s.ringDesc n) 62) (value % 65536) true) n
  else if n < 320 then raiseWith s n (value % 65536)
  else linkError s

/-- A word of configuration space (R261): none where no offset is defined. -/
def State.configWord (s : State) (offset : Nat) : Option Nat :=
  if offset % 4 ≠ 0 then none
  else if offset < 0x100 then some (s.aocbWord offset)
  else if offset < 0x140 then
    let k := (offset - 0x100) / 4
    some (if k < 8 then readValue s 0x2031 (k + 1)
      else if k = 8 then readValue s 0x2031 9 % 2 ^ 32
      else if k = 9 then readValue s 0x2031 9 / 2 ^ 32
      else if k < 14 then readValue s 0x2031 k
      else 0)
  else none

/-- A read of configuration space. -/
def serveCfgrd (s : State) (tag offset : Nat) : State :=
  match s.configWord offset with
  | some w => s.sendPacket (.cpl tag 0 (toLE 4 w))
  | none => s.sendPacket (.cpl tag 0x11 [])

/-! ### The inbound queue (R256) -/

/-- A host access through a window: completed, discarded, or waiting on a fill. -/
def serveAccess (s : State) (p : Packet) : State × Bool :=
  match p with
  | .mrd tag n addr =>
    match inRead s addr n with
    | (t, .bytes l) => (t.sendPacket (.cpl tag 0 l), true)
    | (t, .status st) => (inboundFails t p st, true)
    | (t, .waits) => (t, false)
  | .mwr addr data =>
    match inWrite s addr data with
    | (t, .bytes _) => (t, true)
    | (t, .status st) => (inboundFails t p st, true)
    | (t, .waits) => (t, false)
  | _ => (s, true)

/-- A host packet served: whether it has ended. -/
def servePacket (s : State) (p : Packet) : State × Bool :=
  match p with
  | .cpl tag status data => (completion s tag status data, true)
  | .orq tag orw data => (serveOrq s tag orw data, true)
  | .dbell n v => (serveDbell s n v, true)
  | .cfgrd tag off => (serveCfgrd s tag off, true)
  | x => serveAccess s x

/-- The packet at the head of the inbound queue waits on a fill. -/
def State.inboundWaits (s : State) : Bool := s.mem.fills.any (fun x => x.waiters.contains .inbound)

/-- The packets that wait are served in order while none waits on a fill. -/
def drainInbound : Nat → State → State
  | 0, s => s
  | n + 1, s =>
    match s.link.inq with
    | [] => s
    | p :: rest =>
      if s.inboundWaits then s
      else
        match servePacket { s with link := { s.link with inq := rest } } p with
        | (t, true) => drainInbound n t
        | (t, false) => { t with link := { t.link with inq := p :: t.link.inq } }

/-- The packets that wait, as far as they can be served. -/
def settleInbound (s : State) : State := drainInbound s.link.inq.length s

/-- A packet must wait: an access behind any that waits (the windows' engine stalls), another behind a posted one (R256). -/
def State.mustWait (s : State) (p : Packet) : Bool :=
  match p with
  | .mrd _ _ _ | .mwr _ _ => !s.link.inq.isEmpty
  | _ => s.link.inq.any Packet.posted

/-- A host packet arrives, the link up. -/
def packetIn (s : State) (p : Packet) : State :=
  let s := settleInbound s
  if s.mustWait p then { s with link := { s.link with inq := s.link.inq ++ [p] } }
  else
    match servePacket s p with
    | (t, true) => t
    | (t, false) => { t with link := { t.link with inq := p :: t.link.inq } }

/-- A read of the device completes a page that a host access waits for: its completion goes ahead of that access (log entry 220). -/
def State.fillAwaited (s : State) (tag : Nat) : Bool :=
  match s.link.tags.find? (fun x => x.tag == tag) with
  | some ⟨_, .fill page, _⟩ => s.mem.fills.any (fun x => x.page == page && x.waiters.contains .inbound)
  | _ => false

/-- CPL (R256, R257, R262): it passes no MWR or DBELL that came before it and waits. -/
def actCpl (tag status : Nat) (data : List Nat) (s : State) : State :=
  (if !s.linkUp then s
    else if s.fillAwaited tag then completion s tag status data
    else packetIn s (.cpl tag status data))

/-- MRD (R262, R265): judged against the windows as they stand when it arrives. -/
def actMrd (tag len addr : Nat) (s : State) : State :=
  (if !s.linkUp then s
    else
      let st := s.inboundStatus addr len false
      if st ≠ 0 then inboundFails s (.mrd tag len addr) st else packetIn s (.mrd tag len addr))

/-- MWR (R263, R265). -/
def actMwr (addr : Nat) (data : List Nat) (s : State) : State :=
  (if !s.linkUp then s
    else if s.inboundStatus addr data.length true ≠ 0 then mwrRefused s
    else packetIn s (.mwr addr data))

/-- ORQ (R260). -/
def actOrq (tag orw : Nat) (data : List Nat) (s : State) : State := (if s.linkUp then packetIn s (.orq tag orw data) else s)

/-- DBELL (R268). -/
def actDbell (n value : Nat) (s : State) : State := (if s.linkUp then packetIn s (.dbell n value) else s)

/-- CFGRD (R261): answered from CONFIG on. -/
def actCfgrd (tag offset : Nat) (s : State) : State :=
  (if 5 ≤ s.linkState && s.linkState ≤ 7 then packetIn s (.cfgrd tag offset) else s)

end Sys2Proof.Machine
end

