-- ==== Sys2Proof/Machine/Memory.lean ====
section
/-!
DEFINITION. The commands of memory and paging (R286 to R309): the scrubber, page fills and write-backs, the prefetcher, and the TLB commands.
-/

namespace Sys2Proof.Machine

/-! ### The scrubber (R288) -/

/-- A word's code as the bank now finds it: a flip of one or two bits since it was last written joins the words whose code is not good. -/
def Mem.found (m : Mem) (word : Nat) (e : EccErr) : Mem :=
  let worse := if m.ecc.contains (word, .double) then EccErr.double else e
  { m with ecc := m.ecc.filter (fun x => x.1 != word) ++ [(word, worse)] }

/-- SCRUB_WORD (R287, R288, R372: not while a LOCK sequence holds the bank): the next of the 524,288 words is read, in the condition in which the bank finds it, and corrected or counted and reported. -/
def actScrubWord (found : Option EccErr) (s : State) : State :=
  (if !s.up || s.bankHeld (8 * s.mem.scrub) then s
    else
      let w := s.mem.scrub
      let m := match found with
        | some e => s.mem.found w e
        | none => s.mem
      let s : State := { s with mem := { m with scrub := (w + 1) % 524288 } }
      (checkEcc s (8 * w) 8).1)

/-! ### Fills (R301, R304) -/

/-- Every read of a fill from a host window has been completed. -/
def State.fillRead (s : State) (fl : Fill) : Bool :=
  decide (16 ≤ fl.issued) && !s.link.tags.any (fun t => t.use == .fill fl.page)

/-- The core's walk has completed: its TLBs take the page, unless a flush or an invalidate during the fill withholds that (R296, R297, R329). -/
def fillInstalls (s : State) (page : Nat) (inst fetch : Bool) : State :=
  match s.walkPure page .read with
  | .ok f _ => if inst then install s (if fetch then 0 else 1) (s.walkEntry page f) else s
  | _ => s

/-- The host's access that waited goes on; where the install of its walk is withheld, that access alone goes on first (R297, R329). -/
def settleWalk (s : State) (page : Nat) (inst : Bool) : State :=
  if inst then settleInbound s
  else
    let t := drainInbound 1 { s with mem := { s.mem with withheld := some page } }
    settleInbound { t with mem := { t.mem with withheld := none } }

/-- A waiter goes on once its page is resident. What waits in the inbound queue, and a lane's load, go on of themselves: their walks complete as they are
served. -/
def waiterServed (page : Nat) (inst : Bool) (s : State) (w : Waiter) : State :=
  match w, s.tabor.blocked with
  | .tabor fetch, some (.page _ code _) =>
    fillInstalls { s with tabor := { s.tabor with blocked := none, moveDue := code == 0x09 } } page inst fetch
  | _, _ => s

/-- A LOCK sequence holds the bank of a fill's frame, or of its page's table entries (R372). -/
def State.fillHeld (s : State) (page f : Nat) : Bool := s.bankHeld (f * 4096) || s.bankHeld (s.l1Addr page) || (s.pteAddr page).any s.bankHeld

/-- The bytes of a fill's page have come: it is resident, or, of a prefetch, marked (R301, R306); they wait for a bank that is held. -/
def pageArrives (s : State) (fl : Fill) (data : List Nat) : State :=
  match fl.frame with
  | none => s
  | some f =>
    if s.fillHeld fl.page f then
      { s with mem := { s.mem with fills := s.mem.fills.map (fun x => if x.page == fl.page then { x with arrived := some data } else x) } }
    else if fl.prefetch then
      let m := s.mem.store (f * 4096) ((data ++ List.replicate 4096 0).take 4096)
      pumpReads { s with mem := { m.setUse f (.prefetched fl.page) with fills := m.fills.filter (fun x => x.page != fl.page) } }
    else
      match fillDone s fl f data with
      | (t, ws) => settleWalk (ws.foldl (waiterServed fl.page fl.install) t) fl.page fl.install

/-- PAGE_FILL_COMPLETE (R301): the page's 4,096 bytes have been read. -/
def actPageFillComplete (page : Nat) (data : List Nat) (s : State) : State :=
  (match s.mem.fills.find? (fun x => x.page == page) with
    | none => s
    | some fl => if fl.prefetch || !s.fillRead fl then s else pageArrives s fl data)

/-- PAGE_FILL_FAILED (R304): the flash cannot be read, or 100 ms have passed. -/
def actPageFillFailed (page : Nat) (s : State) : State := (settleInbound (failPage s page))

/-! ### Write-backs (R303) -/

/-- An MWR to a range of host addresses has yet to be acknowledged. -/
def State.writesIn (s : State) (base len : Nat) : Bool :=
  (s.link.out ++ s.link.replay.map (·.packet)).any (fun p => match p with
    | .mwr a _ => decide (base ≤ a) && decide (a < base + len)
    | _ => false)

/-- WRITE_BACK_COMPLETE (R303, R297): each of the 16 MWRs has been acknowledged; the frame is free, and an evict command that waited has completed. -/
def actWriteBackComplete (frame : Nat) (s : State) : State :=
  (match s.mem.use frame with
    | some (.writeBack _ host cmd) =>
      if s.writesIn host 4096 then s
      else
        let s := releaseFrame s frame
        serveFills (if cmd then s.count 0x2210 2 else s)
    | _ => s)

/-! ### The prefetcher (R305 to R308) -/

/-- A prefetch takes a free frame for a stream; its reads go out (R306). A flash that cannot be read fails it at once (R308, R334). -/
def prefetchStart (s : State) (x : PfStream) (v : Nat) : State :=
  if s.ofFlash v && s.store.flashAbsent then (s.count 0x2220 3).count 0x2220 5
  else
    match s.pick s.mem.freeFrames with
    | (s, none) => s.count 0x2220 6
    | (s, some f) =>
      let m := s.mem.setUse f (.filling v)
      let s : State := { s with mem := { m with
        fills := m.fills ++ [⟨v, x.engine, some f, if s.ofFlash v then 16 else 0, true, true, [], none, none⟩]
        streams := m.streams.map (fun y => if y == x then { y with pages := y.pages ++ [v] } else y) } }
      pumpReads (s.count 0x2220 3)

/-- The streams of an engine that want a page, each with it. -/
def State.wanting (s : State) (engine : Nat) : List (PfStream × Nat) :=
  (s.mem.streams.filter (fun x => x.engine == engine)).filterMap (fun x => (s.prefetchNext x).map (fun v => (x, v)))

/-- PREFETCH_ISSUE (R305, R307): the next page ahead of a stream of the engine, the least recently claimed that wants one, unless the prefetcher is off or something
holds it back. -/
def actPrefetchIssue (engine : Fin 12) (s : State) : State :=
  (if s.get 0x2220 1 ≠ 1 then s
    else
      match s.wanting engine.val with
      | [] => s
      | (x, v) :: _ => if s.prefetchHeld then s.count 0x2220 6 else prefetchStart s x v)

/-- PREFETCH_COMPLETE (R306): the frame holds the page and is marked; no PTE changes. -/
def actPrefetchComplete (page : Nat) (data : List Nat) (s : State) : State :=
  (match s.mem.fills.find? (fun x => x.page == page && x.prefetch) with
    | none => s
    | some fl => if !s.fillRead fl then s else pageArrives s fl data)

/-- PREFETCH_STREAM_DEATH (R305, R308): no page of the engine's least recently claimed stream was claimed for 2 ms; what was prefetched for it is cancelled. -/
def actPrefetchStreamDeath (engine : Fin 12) (s : State) : State :=
  (match s.mem.streams.find? (fun x => x.engine == engine.val) with
    | none => s
    | some x => x.pages.foldl cancelPrefetch { s with mem := { s.mem with streams := s.mem.streams.filter (· != x) } })

/-! ### TLB commands and the page-table base (R290, R297) -/

/-- A TLB command: OP and a page number to 0x2210:01. -/
def tlbWrite (s : State) (p : Port) (op page : Nat) : State := writeCommand s p 0x2210 1 (op * 2 ^ 62 + page % 65536 * 4096)

/-- TLB_INVALIDATE_PAGE (R297). -/
def actTlbInvalidatePage (port : Port) (page : Nat) (s : State) : State := tlbWrite s port 1 page

/-- TLB_INVALIDATE_ALL (R297). -/
def actTlbInvalidateAll (port : Port) (s : State) : State := tlbWrite s port 2 0

/-- TLB_EVICT_PAGE (R297). -/
def actTlbEvictPage (port : Port) (page : Nat) (s : State) : State := tlbWrite s port 3 page

/-- PAGE_TABLE_BASE_WRITE (R290). -/
def actPageTableBaseWrite (port : Port) (value : Nat) (s : State) : State := writeCommand s port 0x2200 1 value

end Sys2Proof.Machine
end

