-- ==== Sys2Proof/Machine/Pdo.lean ====
section
/-!
DEFINITION. The commands of the PDO scheduler (R226 to R237): reception of RPDOs, the timers of PDOs, SYNC as it reaches PDOs and the downbeat, the SYNC guard,
and the end of a transmission.
-/

namespace Sys2Proof.Machine

/-! ### RPDOs (R231, R232) -/

/-- The mapped values of an RPDO's data, in the order of its mapping: index, sub-index, value. -/
def splitMapped : List Nat → List Nat → List (Nat × Nat × Nat)
  | [], _ => []
  | w :: ws, d =>
    let e := PdoEntry.of w
    (e.index, e.sub, fromLE (d.take e.bytes)) :: splitMapped ws (d.drop e.bytes)

/-- One mapped value passes R11 and the write locks of port C (R149). -/
def State.rpdoValueOk (s : State) (e : Nat × Nat × Nat) : Bool :=
  let v := keptFields e.1 e.2.1 e.2.2
  rowOk e.1 e.2.1 v && s.rangeOk e.1 e.2.1 v && !s.lockDenies .C e.1

/-- The scheduler's entry of an RPDO. -/
def State.rpdo (s : State) (n : Nat) : Rpdo := nth s.can.rpdos n Rpdo.reset

/-- The scheduler's entry of an RPDO replaced. -/
def State.setRpdo (s : State) (n : Nat) (r : Rpdo) : State := { s with can := { s.can with rpdos := s.can.rpdos.set n r } }

/-- An RPDO's values are written together. -/
def writeMapped (s : State) (l : List (Nat × Nat × Nat)) : State :=
  l.foldl (fun t e => (writeRequest t .C e.1 e.2.1 (toLE (sizeOf e.1 e.2.1) e.2.2) 0).1) s

/-- An RPDO is refused: counted, and EMCY 0xFF32 once until the next of its number passes. -/
def refuseRpdo (s : State) (n : Nat) : State :=
  let r := s.rpdo n
  let s := (s.setRpdo n { r with held := [], refused := true }).count 0x2025 7
  if r.refused then s else emcy s 0xFF32 n

/-- An RPDO whose values pass, or the refusal of all of them. -/
def applyRpdo (s : State) (n : Nat) (l : List (Nat × Nat × Nat)) : State :=
  if l.all s.rpdoValueOk then writeMapped (s.setRpdo n { s.rpdo n with held := [], refused := false }) l else refuseRpdo s n

/-- Values of an RPDO that fits its mapping: at once for types 0xFE and 0xFF, else held for the next SYNC. -/
def takeRpdo (s : State) (n : Nat) (l : List (Nat × Nat × Nat)) : State :=
  if 240 < s.get (0x1400 + n) 2 then applyRpdo s n l
  else if l.all s.rpdoValueOk then s.setRpdo n { s.rpdo n with held := l, refused := false }
  else refuseRpdo s n

/-- An RPDO received (R231): a reception shorter than its mapping, or longer than it with its padding, is not processed. -/
def rpdoReceived (s : State) (n : Nat) (data : List Nat) : State :=
  if !s.pdoActive 0x1400 n then s
  else
    let l := s.mapping (0x1600 + n)
    let need := mapLength l
    let most := if s.fdOn then fdLength need else need
    if data.length < need then emcy s 0x8210 n
    else if data.length > most then emcy s 0x8220 n
    else
      let s := raise s (320 + n)
      takeRpdo (s.setRpdo n { s.rpdo n with timing := decide (s.get (0x1400 + n) 5 ≠ 0) }) n (splitMapped l data)

/-- RPDO_RECEIVED (R231). -/
def actRpdoReceived (n : Fin 64) (data : List Nat) (s : State) : State := rpdoReceived (served s (.rpdo n.val)) n.val data

/-- The values that RPDOs hold are written at a SYNC, in ascending RPDO number (R231). -/
def applyHeld (s : State) : State :=
  (List.range 64).foldl (fun t n => if (t.rpdo n).held.isEmpty then t else applyRpdo t n (t.rpdo n).held) s

/-- RPDO_EVENT_TIMER_EXPIRY (R232). -/
def actRpdoEventTimerExpiry (n : Fin 64) (s : State) : State :=
  (if s.pdoActive 0x1400 n.val && (s.rpdo n.val).timing then
      emcyLog (raise (s.setRpdo n.val { s.rpdo n.val with timing := false }) (384 + n.val)) 0x8250 n.val
    else s)

/-! ### TPDO timers (R229, R230) -/

/-- A TPDO's event timer has expired: an IMMEDIATE one is due at once, a windowed one at its next window. -/
def tpdoTimed (s : State) (n : Nat) : State :=
  if !s.pdoActive 0x1800 n || s.tpdoSync n then s
  else if s.tpdoImmediate n then sendImmediate (s.setTpdo n { s.tpdo n with due := true }) n
  else s.setTpdo n { s.tpdo n with timed := true }

/-- TPDO_EVENT_TIMER_EXPIRY (R229). -/
def actTpdoEventTimerExpiry (n : Fin 64) (s : State) : State :=
  (if s.get (0x1800 + n.val) 5 = 0 then s else tpdoTimed s n.val)

/-- A TPDO's inhibit time has ended: what it held is sent, where it may be. -/
def inhibitEnds (s : State) (n : Nat) : State :=
  let t := { s.tpdo n with inhibit := false }
  let s := s.setTpdo n t
  if !s.pdoActive 0x1800 n || s.tpdoSync n then s
  else if s.tpdoImmediate n then sendImmediate s n
  else if s.can.window && t.due && s.inWindow n then sendInWindow s n (t.sampled.getD (s.sample n))
  else s

/-- TPDO_INHIBIT_EXPIRY (R229). -/
def actTpdoInhibitExpiry (n : Fin 64) (s : State) : State := (inhibitEnds s n.val)

/-- TPDO_LATEST_START (R230). -/
def actTpdoLatestStart (n : Fin 64) (s : State) : State := (withdraw s (fun m => m == n.val))

/-! ### SYNC (R214 to R217, R220) -/

/-- The SYNC source line (R216): in a SINGLE mode the line in use, which Table 19.3 may have moved. -/
def State.syncSource (s : State) : Line :=
  match s.inForce 0x2020 3 with
  | 0 => if !s.lineInUse .A && s.lineInUse .B then .B else .A
  | 1 => if !s.lineInUse .B && s.lineInUse .A then .A else .B
  | 2 => s.activeLine
  | _ =>
    let p := if s.inForce 0x2020 4 = 0 then Line.A else Line.B
    if s.lineInUse p && !s.lineFaulty p then p else if s.lineInUse p.other then p.other else p

/-- The SYNC guard ends: what it held may start (R220). -/
def endGuard (s : State) : State :=
  { s with can := { s.can with guard := false, txq := s.can.txq.map (fun f => { f with held := false }) } }

/-- A SYNC used: its line is the source, held transmissions may start, the downbeat takes it, and in operational it reaches the PDOs: RPDOs received before
it are written, then TPDOs are sampled (R235). -/
def useSync (s : State) (line : Line) (counter : Option Nat) (at_ : Nat) : State :=
  let s := (s.set 0x2025 2 line.code)
  let s := endGuard s
  let s : State := { s with can := { s.can with otherSync := none, lastSync := some at_, syncCount := counter.getD s.can.syncCount } }
  let s := raise s 505
  let s := if s.beat.running then lockReception s at_ else s
  if s.can.nmt ≠ .operational then s else syncTpdos (applyHeld s) counter

/-- A SYNC of the other line belongs to the period of the one last used: it came less than half a SYNC period after it (log entry 210). -/
def State.syncOfPeriod (s : State) (atHalf : Nat) : Bool :=
  match s.can.lastSync with
  | some t => decide (2 * (atHalf - t) < s.nominal * s.inForce 0x2100 2)
  | none => false

/-- A SYNC of the other line that is not used is a duplicate (R216): counted, unless the duplicate window already counted it (R200). -/
def duplicateSync (s : State) (line : Line) (atHalf : Nat) : State :=
  match s.can.lastSync with
  | some t => if atHalf - t ≤ 2000 * s.inForce 0x2020 5 then s else s.count line.index 8
  | none => s

/-- SYNC_RECEPTION (R121, R214, R216): on the source line it is used, and a copy that the other line gave before is a duplicate; on another line it is the
duplicate of one already used in this period, or waits to stand for the source's. -/
def actSyncReception (line : Line) (counter : Option Nat) (atHalf : Nat) (s : State) : State :=
  let s := fifoTake s (fun e => e == (line, .sync))
  (if !s.lineRuns line then s
    else if line = s.syncSource then
      let s := match s.can.otherSync with
        | some o => s.count o.1.index 8
        | none => s
      useSync s line counter atHalf
    else if s.syncOfPeriod atHalf then duplicateSync s line atHalf
    else { s with can := { s.can with otherSync := some (line, counter, atHalf) } })

/-- SYNC_MISSING (R122, R123, R216, R220): the expected period has passed without a SYNC on the source line. One of the other line stands for it; without one
the period is missing, and is counted but in FREE. The guard ends. -/
def actSyncMissing (s : State) : State :=
  (match s.can.otherSync with
    | some o => useSync s o.1 o.2.1 o.2.2
    | none =>
      let s := endGuard s
      if s.lock = 0 then s else periodMissing (s.count 0x2101 7))

/-- SYNC_GUARD_BEGIN (R220, R228): in ACQUIRE and LOCKED no transmission starts until the SYNC, and an open window closes. `onA` and `onB` are the places in the
queue of the frames whose transmission on that line has started already: they go on. -/
def actSyncGuardBegin (onA onB : Option Nat) (s : State) : State :=
  (if s.canRuns && (s.lock = 1 || s.lock = 2) then
      closeWindow { s with can := { s.can with
        guard := true
        txq := s.can.txq.mapIdx (fun k f => { f with held := onA != some k && onB != some k }) } }
    else s)

end Sys2Proof.Machine
end

