-- ==== Sys2Proof/Machine/Tasks.lean ====
section
/-!
DEFINITION. The commands of the rings (R311, R315, R317 to R319) and the actions of the task scheduler (R323, R324).
-/

namespace Sys2Proof.Machine

/-! ### Rings -/

/-- RING_OPEN (R311): 1 to 0x24nn:02. -/
def actRingOpen (port : Port) (n : Fin 256) (s : State) : State := writeCommand s port (0x2400 + n.val) 2 1

/-- RING_CLOSE (R318): 2 to 0x24nn:02. -/
def actRingClose (port : Port) (n : Fin 256) (s : State) : State := writeCommand s port (0x2400 + n.val) 2 2

/-- RING_ACKNOWLEDGE_LINKLOSS (R317): 3 to 0x24nn:02. -/
def actRingAcknowledgeLinkloss (port : Port) (n : Fin 256) (s : State) : State := writeCommand s port (0x2400 + n.val) 2 3

/-- RING_CLOSE_COMPLETE (R318): no write to a closing ring is in flight, and it is unmapped. A PUSH that waited for it is a post to a closed ring. -/
def actRingCloseComplete (n : Fin 256) (s : State) : State :=
  let r := s.sched.ring n.val
  let d := s.ringDesc n.val
  (if !r.closing || (bit d 59 && s.writesIn (s.ringHostAddr n.val 0) (4096 * ringFrames d)) then s
    else ringSpace (ringCloseNow s n.val) n.val)

/-- RING_POP (R319): a read of the POP window. -/
def actRingPop (port : Port) (n : Fin 256) (peek : Bool) (s : State) : State :=
  answerRead port (readRequest s port (0x2400 + n.val) 9 peek 0)

/-- RING_PUSH (R319): a write of the PUSH window. -/
def actRingPush (port : Port) (n : Fin 256) (data : List Nat) (s : State) : State :=
  answer port (writeRequest s port (0x2400 + n.val) 10 data 0)

/-- RING_INDEX_WRITE (R315): a write of 0x24nn:04 or :05. -/
def actRingIndexWrite (port : Port) (n : Fin 256) (consumer : Bool) (value : Nat) (s : State) : State :=
  writeCommand s port (0x2400 + n.val) (if consumer then 5 else 4) value

/-! ### Tasks -/

/-- TASK_DISABLE (R324): a control word with ENABLE clear. -/
def actTaskDisable (port : Port) (t : Fin 128) (control : Nat) (s : State) : State :=
  writeCommand s port (0x2500 + t.val) 6 (clearBit control 0)

/-- The kind of a task's action. -/
def State.taskKind (s : State) (t : Nat) : Nat := bits (s.get (0x2500 + t) 5) 60 4

/-- The ARG of a task's action. -/
def State.taskArg (s : State) (t : Nat) : Nat := bits (s.get (0x2500 + t) 5) 0 32

/-- The handler named by the action of task t: owner and number (R358). -/
def State.handlerOf (s : State) (t : Nat) : Nat × Nat := (bits (s.taskArg t) 8 4, bits (s.taskArg t) 0 8)

/-- The share of the program that owns task t's handler is spent: its activations stay in the queue and are passed over (R362). -/
def State.passedOver (s : State) (t : Nat) : Bool :=
  let p := (s.handlerOf t).1
  s.taskKind t == 5 && p != 0 && (match nth s.tabor.programs (p - 1) none with
    | some x => x.shareSpent
    | none => false)

/-- The task at the head of the ready queue (R323): the lowest PRIORITY number, then the order of activation. -/
def State.readyHead (s : State) : Option Nat :=
  let l := s.sched.ready.filter (fun t => !s.passedOver t)
  let prio := fun (t : Nat) => bits (s.get (0x2500 + t) 6) 2 2
  [0, 1, 2, 3].findSome? (fun p => l.find? (fun t => prio t == p))

/-- A task's slot is freed. -/
def freeSlot (s : State) (t : Nat) : State :=
  { s with sched := { s.sched.setTask t { s.sched.task t with pending := none } with ready := s.sched.ready.filter (fun x => x != t) } }

/-- An action that cannot be carried out is counted (R323). -/
def actionFails (s : State) (t : Nat) : State := s.count (0x2500 + t) 14

/-- The head of the queue has an action of a kind, and it is task t: the slot is freed and the action carried out, or counted as failed. -/
def taskAction (s : State) (t kind : Nat) (f : State → Activation → State × Bool) : State :=
  (match s.readyHead, (s.sched.task t).pending with
    | some h, some a =>
      if h ≠ t || s.taskKind t ≠ kind then s
      else
        match f (freeSlot s t) a with
        | (s, true) => s
        | (s, false) => actionFails s t
    | _, _ => s)

/-- Kind 1: an event-driven TPDO that is in use becomes due, changed or not. -/
def makeDue (s : State) (arg : Nat) : State × Bool :=
  if s.taskTpdo arg && s.pdoActive 0x1800 (arg - 1) then (tpdoTimed s (arg - 1), true) else (s, false)

/-- TASK_ACTION_TPDO_DUE (R323). -/
def actTaskActionTpdoDue (t : Fin 128) (s : State) : State := taskAction s t.val 1 (fun s _ => makeDue s (s.taskArg t.val))

/-- Kind 2: the activation record goes to a ring; a ring that does not take it is a failure. -/
def postRecord (s : State) (t : Nat) (a : Activation) : State × Bool :=
  let n := s.taskArg t
  if 255 < n then (s, false) else (ringProduce s n (a.record t), s.ringAccepts n)

/-- TASK_ACTION_POST_RECORD (R323). -/
def actTaskActionPostRecord (t : Fin 128) (s : State) : State := taskAction s t.val 2 (fun s a => postRecord s t.val a)

/-- Kind 3: a TASK record with the task and ARG (Table 17.2); one dropped at the queue is a failure. -/
def logTask (s : State) (t : Nat) : State × Bool :=
  let u := queueLog s 0x0160 (t + (s.taskArg t <<< 32))
  (u, u.get 0x4800 7 == s.get 0x4800 7)

/-- TASK_ACTION_LOG (R323). -/
def actTaskActionLog (t : Fin 128) (s : State) : State := taskAction s t.val 3 (fun s _ => logTask s t.val)

/-- Kind 4: a power-state request; one that is refused, or names no state, is a failure. -/
def requestPower (s : State) (arg : Nat) : State × Bool :=
  match PState.ofCode arg with
  | none => (s, false)
  | some d => (powerRequest s d false, (s.requestRefusal d false).isNone)

/-- TASK_ACTION_POWER_REQUEST (R323, R532). -/
def actTaskActionPowerRequest (t : Fin 128) (s : State) : State := taskAction s t.val 4 (fun s _ => requestPower s (s.taskArg t.val))

end Sys2Proof.Machine
end

