-- ==== Sys2Proof/Machine/TaborRun.lean ====
section
/-!
DEFINITION. How the Tabor core issues an instruction (R348, R353, R355, R365, R382, R383): the halts, the breakpoint and the fetch that come before it, the
interlock, what an access of memory meets, and what ends a user activation. The command that names an instruction stands for the word at the PC (log entry
68).
-/

namespace Sys2Proof.Machine

/-! ### The budget of an activation (R362) -/

/-- BUDGET is raised and the activation abandoned; an entry that waits for a page is made again. -/
def raiseBudget (s : State) (p : Nat) : State :=
  let s := takeException s 0x0C p s.core.pc.toNat false false
  if s.tabor.blocked.isSome then { s with tabor := { s.tabor with budgetDue := true } } else boundaryHalt (abandonActivation s p) false

/-- The imprecise ECC exception is taken, with EPC at the next instruction not yet issued (R357). An entry that waits for a page, or whose spill faults, leaves it due. -/
def raiseEcc (s : State) : State :=
  let t := takeException s 0x06 0 s.core.pc.toNat true false
  let done := t.tabor.run == .stopped || (t.tabor.blocked.isNone && t.core.ecause.toNat % 256 == 6)
  boundaryHalt { t with tabor := { t.tabor with eccDue := !done } } false

/-- What waits for the core to reach a boundary outside a LOCK sequence: the imprecise ECC exception, and, once the core is in user mode, the end of an abandoned
activation or BUDGET (R355, R357, R362, R373). -/
def settleBudget (s : State) : State :=
  if s.core.lock.isSome || s.tabor.blocked.isSome then s
  else if s.tabor.eccDue && !s.core.mst.exl then raiseEcc s
  else if !s.core.mst.um then s
  else if s.tabor.endDue then leaveUser s
  else if !s.tabor.budgetDue then s
  else
    let s : State := { s with tabor := { s.tabor with budgetDue := false } }
    match s.tabor.handler with
    | some (p, _) => raiseBudget s p
    | none => s

/-- An instruction of `clocks` clocks retires; `target` is where it transfers control. -/
def retireAt (s : State) (clocks : Nat) (target : Option Word) : State := settleBudget (retire s clocks target)

/-- An instruction of `clocks` clocks retires, in sequence. -/
def retired (s : State) (clocks : Nat) : State := retireAt s clocks none

/-! ### Issue -/

/-- The core can issue: released, clocked, not halted or stopped, and waiting for nothing. -/
def State.canIssue (s : State) : Bool :=
  !s.tabor.held && s.clocks.pllA && s.tabor.blocked.isNone && (s.tabor.run == .boot || s.tabor.run == .running || s.tabor.run == .waiting)

/-- The activation at the head of the ready queue, where it is the core's (kind 5). -/
def State.coreHead (s : State) : Option Nat := s.readyHead.filter (fun t => s.taskKind t == 5)

/-- A firmware-owned activation is at the head of the ready queue. -/
def State.firmwareHead (s : State) : Bool :=
  match s.coreHead with
  | some t => (s.handlerOf t).1 == 0
  | none => false

/-- WAIT ends: execution goes on after it (R390). -/
def endWait (s : State) : State := retire { s with tabor := { s.tabor with run := .running } } 1 none

/-- A core in WAIT goes on by itself where a firmware-owned activation heads the queue and EE is 0 (R390). -/
def wake (s : State) : State :=
  if s.tabor.run = .waiting && s.firmwareHead && !s.core.mst.ee then endWait s else s

/-- The breakpoints armed at the PC, as a bitmap; none between the units of one string issue (R397). -/
def State.breakMatch (s : State) : Nat :=
  if s.tabor.inString then 0
  else (List.range 4).foldl (fun m k => if bit s.tabor.breakOn k && nth s.tabor.breakAddr k 0 == s.core.pc.toNat then setBit m k else m) 0

/-- A LOCK sequence restarts from its LOCK once the fill that it missed has come (R354). -/
def lockRestart (s : State) : State :=
  match s.core.lock with
  | none => s
  | some _ => (breakLock s).count 0x2802 2

/-- LOCK_ILLEGAL on the LOCK, before its sequence starts: nothing of it remains (R353). -/
def lockIllegal (s : State) : State :=
  let s := breakLock s
  boundaryHalt (takeException s 0x0A 0 s.core.pc.toNat false false) false

/-- What an access of the core meets: a physical address and the clocks it adds, the boot ROM, or an end of the instruction (an exception, or a wait for a
fill). -/
inductive CoreOut where
  | ok (phys clocks : Nat)
  | rom
  | ended
deriving DecidableEq, Repr

/-- The bits that an access of a LOCK sequence set in its page's PTE are kept, for a break to clear (R354). -/
def noteMarks (before : Option Nat) (s : State) (v : Nat) : State :=
  match s.core.lock, before, s.pte v with
  | some l, some w, some w' => if w = w' then s else s.setCore { s.core with lock := some { l with marks := (v, w' - w) :: l.marks } }
  | _, _, _ => s

/-- An access with what cannot be served taken as the exceptions of Table 9.5, or as a wait for the fill. -/
def coreAccess (s : State) (addr n : Nat) (a : Acc3) : State × CoreOut :=
  let before := s.pte (addr / 4096)
  match coreTranslate s addr n a s.core.mst.um with
  | (s, .ok p c) => (noteMarks before s (addr / 4096), .ok p c)
  | (s, .rom) => (s, .rom)
  | (s, .exc code d) => (instrFault s code d, .ended)
  | (s, .miss v) =>
    match coreMiss s (a == .fetch) v 0x05 0 with
    | (s, .waits) => (lockRestart s, .ended)
    | (s, .failed) => (instrFault s 0x05 0, .ended)
    | (s, .claimed) =>
      let before := s.pte (addr / 4096)
      match coreTranslate s addr n a s.core.mst.um with
      | (s, .ok p c) => (noteMarks before s (addr / 4096), .ok p c)
      | (s, _) => (instrFault s 0x04 0, .ended)

/-- The instruction at the PC is fetched: whether it can execute. -/
def fetchWord (s : State) : State × Bool :=
  match coreAccess s s.core.pc.toNat 4 .fetch with
  | (s, .ended) => (s, false)
  | (s, .rom) => (s, true)
  | (s, .ok p c) =>
    match checkEcc s p 4 with
    | (s, true) => (instrFault s 0x06 0, false)
    | (s, false) => (s.setCore (s.core.pass c), true)

/-- What comes before an instruction executes: the halts of the boundary, unless a spill or fill in progress is to complete first (R365), a breakpoint (deferred inside
a LOCK sequence; a step executes), the fetch. -/
def beforeIssue (s : State) : State × Bool :=
  let hits := s.breakMatch
  let moving := s.tabor.moveDue
  let s : State := { s with tabor := { s.tabor with moveDue := false } }
  if s.tabor.haltDue && s.core.lock.isNone && !moving then (haltNow s 1 false, false)
  else if hits ≠ 0 && s.core.lock.isNone && !s.tabor.stepOne then
    (haltNow { s with tabor := { s.tabor with breakHit := hits } } 3 false, false)
  else
    let s : State := if hits ≠ 0 && s.core.lock.isSome then { s with tabor := { s.tabor with breakHit := s.tabor.breakHit ||| hits } } else s
    fetchWord s

/-- The clocks until the registers read are delivered (R382). -/
def Core.loadWait (c : Core) (srcs : List Nat) : Nat :=
  (c.loads.filter (fun e => srcs.any (fun r => r != 0 && c.regKey r == e.2))).foldl (fun m e => max m e.1) 0

/-- An instruction that reads `srcs` issues, if the core can issue and nothing comes before it. -/
def issue (s : State) (srcs : List Nat) (f : State → State) : State :=
  (if !s.canIssue then s
    else
      let s := wake s
      if !s.canIssue || s.tabor.run = .waiting then s
      else
        match beforeIssue s with
        | (s, false) => s
        | (s, true) => f (s.setCore (s.core.pass (s.core.loadWait srcs))))

/-- An instruction that may not stand in a LOCK sequence (R353). -/
def issueUnlocked (s : State) (srcs : List Nat) (f : State → State) : State :=
  issue s srcs (fun t => if t.core.lock.isSome then lockIllegal t else f t)

/-- A word that is ILLEGAL (R379). -/
def illegal (s : State) : State := instrFault s 0x01 0

/-! ### Data -/

/-- A watchpoint matches an access: noted until the boundary (R365). -/
def watchAccess (s : State) (addr n : Nat) (write : Bool) : State :=
  let hits := (List.range 2).foldl (fun (m : Nat) k =>
    if bit s.tabor.watchOn (2 * k + b2n write) && decide (addr ≤ nth s.tabor.watchAddr (2 * k + 1) 0) && decide (nth s.tabor.watchAddr (2 * k) 0 < addr + n)
    then setBit m k else m) 0
  if hits = 0 then s else { s with tabor := { s.tabor with watchHit := s.tabor.watchHit ||| hits } }

/-- A LOCK sequence claims the bank of an address (R352). -/
def Core.claimBank (c : Core) (p : Nat) : Core :=
  { c with lock := c.lock.map (fun l => if l.banks.contains (p / 0x20000) then l else { l with banks := l.banks ++ [p / 0x20000] }) }

/-- Bytes as the core reads them: what its LOCK sequence has stored, over the SRAM. -/
def State.coreBytes (s : State) (p n : Nat) : List Nat :=
  let held := match s.core.lock with
    | some l => l.stores
    | none => []
  (List.range n).map (fun k =>
    match held.find? (fun e => e.1 == p + k) with
    | some e => e.2.toNat
    | none => (s.mem.readByte (p + k)).toNat)

/-- Bytes stored by the core: into the commit buffer inside a LOCK sequence, else into the SRAM. -/
def coreStore (s : State) (p : Nat) (data : List Nat) : State :=
  match s.core.lock with
  | some l =>
    let put := (List.range data.length).map (fun k => (p + k, BitVec.ofNat 8 (nth data k 0)))
    s.setCore { s.core with lock := some { l with stores := put ++ l.stores } }
  | none => { s with mem := s.mem.store p data }

/-- Bytes of the boot ROM (Table 9.4; log entry 34). -/
def romBytes (addr n : Nat) : List Nat := (List.range n).map (fun k => (Config.bootRom (addr + k - 0xFFFF0000)).toNat)

/-- A load of the core: its bytes, the clocks it adds and whether a word of it is uncorrectable; none where the instruction has ended. -/
def loadBytes (s : State) (addr n : Nat) : State × Option (List Nat × Nat × Bool) :=
  match coreAccess s addr n .read with
  | (s, .ended) => (s, none)
  | (s, .rom) => (watchAccess s addr n false, some (romBytes addr n, 0, false))
  | (s, .ok p c) =>
    let s := watchAccess (s.setCore (s.core.claimBank p)) addr n false
    match checkEcc s p n with
    | (s, bad) => (s, some (s.coreBytes p n, c, bad))

/-- A store of the core: the clocks it adds; none where the instruction has ended. A word written in part whose code is uncorrectable raises ECC (R287); what a LOCK
sequence writes of a word is known at its commit, and checked there. -/
def storeBytes (s : State) (addr : Nat) (data : List Nat) : State × Option Nat :=
  match coreAccess s addr data.length .write with
  | (s, .ok p c) =>
    match (if s.core.lock.isSome then (s, false) else storeEcc s p data.length) with
    | (s, true) => (instrFault s 0x06 0, none)
    | (s, false) => (coreStore (watchAccess (s.setCore (s.core.claimBank p)) addr data.length true) p data, some c)
  | (s, _) => (s, none)

/-- A load whose word is uncorrectable (R357): the load issues, its register has no stated value, and ECC is raised, imprecise, with EPC at the next
instruction; at exception level it is a double fault. Inside a LOCK sequence the fault breaks it (R354). -/
def poisonedLoad (s : State) (regs : List Nat) (clocks : Nat) : State :=
  match s.core.lock with
  | some _ =>
    let s := (breakLock s).count 0x2802 1
    boundaryHalt (takeException s 0x06 0 s.core.pc.toNat true true) false
  | none =>
    let s := regs.foldl (fun (t : State) r => t.draw.setCore (t.core.setReg r (Config.poisoned t.draws))) s
    match advance s clocks none s.core.rsa s.core.rea with
    | (s, _) => raiseEcc s

/-! ### The end of a user activation (R358, R389) -/

/-- A user handler has ended in firmware's hands: an activation that was not abandoned breaks the run of abandoned ones (R362). -/
def activationEnds (s : State) : State :=
  match s.tabor.handler with
  | some (p, _) =>
    let s := match s.prog p with
      | some x => s.setProg p (some { x with abandonedRun := 0 })
      | none => s
    handlerEnds s true
  | none => s

end Sys2Proof.Machine
end

