-- ==== Sys2Proof/Machine/Settle.lean ====
section
/-!
DEFINITION. What follows a command of itself: a T PUSH and host packets that waited go on, a budget that expired in a wait takes effect, a program's INIT that
waited for the core is entered, and IMMEDIATE TPDOs see what has changed.
-/

namespace Sys2Proof.Machine

/-- The T PUSH that waits for space in a ring is carried out where there is some (R315). -/
def pushOn (s : State) : State :=
  match s.sched.pushWait with
  | some (n, _) => ringSpace s n
  | none => s

/-- What the ring engine has held goes on. -/
def ringsFreed (s : State) : State :=
  s.sched.held.foldl (fun t e => match e.2 with
    | some entry => ringProduce t e.1 entry
    | none => t.writeIndexBlock e.1) { s with sched := { s.sched with held := [] } }

/-- The pages that came while their banks were held. -/
def fillsFreed (s : State) : State :=
  s.mem.fills.foldl (fun t fl => match fl.arrived with
    | some data => pageArrives t fl data
    | none => t) s

/-- The burst results that waited. -/
def imagesFreed (s : State) : State :=
  s.mem.heldImage.foldl (fun t e => imageWrite t e.1 e.2) { s with mem := { s.mem with heldImage := [] } }

/-- Outside a LOCK sequence no bank is held: what waited for one goes on (R352, R372). -/
def bankFreed (s : State) : State :=
  if s.tabor.core.lock.isSome then s
  else
    let s := imagesFreed (fillsFreed (ringsFreed s))
    settleInbound (if s.link.pops.isEmpty then s else servePops s)

/-- What waited and no longer need wait goes on: for a bank, the T PUSH, host packets, an expired budget, an INIT. -/
def settleAll (s : State) : State := beginInits (settleBudget (settleInbound (pushOn (bankFreed s))))

/-- A command that ends nobody's wait: IMMEDIATE TPDOs see what it changed (R229). -/
def observed (s : State) : Result := .next (immediates s)

/-- A command of the core: what waited for a bank may follow, and an INIT that waits for the core (R364, R372). -/
def launched (s : State) : Result := .next (immediates (beginInits (bankFreed s)))

/-- A command that may end what another agent waits for. -/
def settled (s : State) : Result := .next (immediates (settleAll s))

end Sys2Proof.Machine
end

