-- ==== Sys2Proof/Machine/TaborAlu.lean ====
section
/-!
DEFINITION. The arithmetic of the Tabor core (Table 10.5, majors 0x00 to 0x09): register and immediate instructions, and the multiplier.
-/

namespace Sys2Proof.Machine

/-! ### Register and immediate arithmetic -/

/-- An instruction of one clock that writes d from registers and flags; F takes the flags that the operation sets. -/
def alu (s : State) (d : Nat) (srcs : List Nat) (f : Bool) (op : Core → AluOut) : State :=
  issue s srcs (fun t =>
    let c := t.core
    let r := op c
    retired (t.setCore { c.setReg d r.1 with flg := c.flg.taken r.2 f }) 1)

/-- Two source registers. -/
def alu2 (s : State) (d a b : Fin 32) (f : Bool) (op : Word → Word → Flg → AluOut) : State :=
  alu s d.val [a.val, b.val] f (fun c => op (c.reg a.val) (c.reg b.val) c.flg)

/-- One source register. -/
def alu1 (s : State) (d a : Fin 32) (f : Bool) (op : Word → Word) : State :=
  alu s d.val [a.val] f (fun c => logicOut (op (c.reg a.val)) c.flg)

/-- One source register and an immediate; no flag changes. -/
def aluImm (s : State) (d a : Fin 32) (op : Word → Word) : State :=
  alu s d.val [a.val] false (fun c => (op (c.reg a.val), c.flg))

/-- ADD. -/
def actTAdd (d a b : Fin 32) (f : Bool) (s : State) : State := alu2 s d a b f (fun x y o => addOut x y false o)
/-- ADDC. -/
def actTAddc (d a b : Fin 32) (f : Bool) (s : State) : State := alu2 s d a b f (fun x y o => addOut x y o.c o)
/-- SUB. -/
def actTSub (d a b : Fin 32) (f : Bool) (s : State) : State := alu2 s d a b f (fun x y o => subOut x y false o)
/-- SUBC: the borrow is 1 − C. -/
def actTSubc (d a b : Fin 32) (f : Bool) (s : State) : State := alu2 s d a b f (fun x y o => subOut x y (!o.c) o)
/-- ADDS. -/
def actTAdds (d a b : Fin 32) (f : Bool) (s : State) : State := alu2 s d a b f (fun x y o => satOut (x.toInt + y.toInt) o)
/-- SUBS. -/
def actTSubs (d a b : Fin 32) (f : Bool) (s : State) : State := alu2 s d a b f (fun x y o => satOut (x.toInt - y.toInt) o)
/-- AND. -/
def actTAnd (d a b : Fin 32) (f : Bool) (s : State) : State := alu2 s d a b f (fun x y o => logicOut (x &&& y) o)
/-- OR. -/
def actTOr (d a b : Fin 32) (f : Bool) (s : State) : State := alu2 s d a b f (fun x y o => logicOut (x ||| y) o)
/-- XOR. -/
def actTXor (d a b : Fin 32) (f : Bool) (s : State) : State := alu2 s d a b f (fun x y o => logicOut (x ^^^ y) o)
/-- ANDN: a AND NOT b. -/
def actTAndn (d a b : Fin 32) (f : Bool) (s : State) : State := alu2 s d a b f (fun x y o => logicOut (x &&& ~~~y) o)
/-- SHL: by b[5:0]. -/
def actTShl (d a b : Fin 32) (f : Bool) (s : State) : State := alu2 s d a b f (fun x y o => shlOut x (y.toNat % 64) o)
/-- SHR: by b[5:0]. -/
def actTShr (d a b : Fin 32) (f : Bool) (s : State) : State := alu2 s d a b f (fun x y o => shrOut x (y.toNat % 64) o)
/-- SAR: by b[5:0]. -/
def actTSar (d a b : Fin 32) (f : Bool) (s : State) : State := alu2 s d a b f (fun x y o => sarOut x (y.toNat % 64) o)
/-- ROR: by b[4:0]. -/
def actTRor (d a b : Fin 32) (f : Bool) (s : State) : State := alu2 s d a b f (fun x y o => rorOut x (y.toNat % 32) o)
/-- MIN, signed. -/
def actTMin (d a b : Fin 32) (f : Bool) (s : State) : State := alu2 s d a b f (fun x y o => logicOut (if x.slt y then x else y) o)
/-- MAX, signed. -/
def actTMax (d a b : Fin 32) (f : Bool) (s : State) : State := alu2 s d a b f (fun x y o => logicOut (if x.slt y then y else x) o)
/-- MINU. -/
def actTMinu (d a b : Fin 32) (f : Bool) (s : State) : State := alu2 s d a b f (fun x y o => logicOut (if x.ult y then x else y) o)
/-- MAXU. -/
def actTMaxu (d a b : Fin 32) (f : Bool) (s : State) : State := alu2 s d a b f (fun x y o => logicOut (if x.ult y then y else x) o)
/-- CLZ. -/
def actTClz (d a : Fin 32) (f : Bool) (s : State) : State := alu1 s d a f (fun x => BitVec.ofNat 32 (leadingZeros x))
/-- SEXTB. -/
def actTSextb (d a : Fin 32) (f : Bool) (s : State) : State := alu1 s d a f (fun x => (x.truncate 8).signExtend 32)
/-- SEXTH. -/
def actTSexth (d a : Fin 32) (f : Bool) (s : State) : State := alu1 s d a f (fun x => (x.truncate 16).signExtend 32)
/-- ZEXTB. -/
def actTZextb (d a : Fin 32) (f : Bool) (s : State) : State := alu1 s d a f (fun x => (x.truncate 8).zeroExtend 32)
/-- ZEXTH. -/
def actTZexth (d a : Fin 32) (f : Bool) (s : State) : State := alu1 s d a f (fun x => (x.truncate 16).zeroExtend 32)
/-- ADDI. -/
def actTAddi (d a : Fin 32) (imm : BitVec 16) (s : State) : State := aluImm s d a (fun x => x + sext16 imm)
/-- ANDI. -/
def actTAndi (d a : Fin 32) (imm : BitVec 16) (s : State) : State := aluImm s d a (fun x => x &&& zext16 imm)
/-- ORI. -/
def actTOri (d a : Fin 32) (imm : BitVec 16) (s : State) : State := aluImm s d a (fun x => x ||| zext16 imm)
/-- XORI. -/
def actTXori (d a : Fin 32) (imm : BitVec 16) (s : State) : State := aluImm s d a (fun x => x ^^^ zext16 imm)

/-- A shift by an immediate amount: kinds 0 shl, 1 shr, 2 sar, 3 ror. -/
def shiftKind (kind n : Nat) (x : Word) : Word :=
  match kind with
  | 0 => x <<< n
  | 1 => x >>> n
  | 2 => x.sshiftRight n
  | _ => x.rotateRight n

/-- SHI. -/
def actTShi (d a : Fin 32) (kind : Fin 4) (n : Fin 32) (s : State) : State := aluImm s d a (shiftKind kind.val n.val)
/-- LUI: its A field is 0. -/
def actTLui (d : Fin 32) (imm : BitVec 16) (s : State) : State := aluImm s d 0 (fun _ => zext16 imm <<< 16)
/-- CMPI: the flags of a − sext(IMM16). -/
def actTCmpi (a : Fin 32) (imm : BitVec 16) (s : State) : State :=
  alu s 0 [a.val] true (fun c => subOut (c.reg a.val) (sext16 imm) false c.flg)
/-- TSTI: N and Z of a AND zext(IMM16); C and V cleared. -/
def actTTsti (a : Fin 32) (imm : BitVec 16) (s : State) : State :=
  alu s 0 [a.val] true (fun c =>
    let v := c.reg a.val &&& zext16 imm
    (v, { c.flg.nz v with c := false, v := false }))

/-! ### The multiplier (R345, R353) -/

/-- A multiply: operands read now, the accumulator written at the end of the third clock. None may stand in a LOCK sequence. -/
def multiply (s : State) (a b : Fin 32) (op : Word → Word → MulWrite) : State :=
  issueUnlocked s [a.val, b.val] (fun t =>
    let c := t.core
    retired (t.setCore { c with muls := c.muls ++ [(3, op (c.reg a.val) (c.reg b.val))] }) 1)

/-- The product of two registers as signed numbers. -/
def sprod (x y : Word) : Int := x.toInt * y.toInt
/-- The product of two registers as unsigned numbers. -/
def uprod (x y : Word) : Int := ((x.toNat * y.toNat : Nat) : Int)

/-- MUL. -/
def actTMul (a b : Fin 32) (s : State) : State := multiply s a b (fun x y => .set (sprod x y))
/-- MULU. -/
def actTMulu (a b : Fin 32) (s : State) : State := multiply s a b (fun x y => .set (uprod x y))
/-- MAC. -/
def actTMac (a b : Fin 32) (s : State) : State := multiply s a b (fun x y => .add (sprod x y))
/-- MACU. -/
def actTMacu (a b : Fin 32) (s : State) : State := multiply s a b (fun x y => .add (uprod x y))
/-- MSU. -/
def actTMsu (a b : Fin 32) (s : State) : State := multiply s a b (fun x y => .add (-sprod x y))
/-- MSUU. -/
def actTMsuu (a b : Fin 32) (s : State) : State := multiply s a b (fun x y => .add (-uprod x y))

end Sys2Proof.Machine
end

