-- ==== Sys2Proof/Machine/TaborEvents.lean ====
section
/-!
DEFINITION. What reaches the Tabor core from the scheduler and from user programs' objects (R358, R359, R362 to R364): event dispatch, budgets, and the commands
of Table 9.9.
-/

namespace Sys2Proof.Machine

/-! ### Event dispatch -/

/-- The handler named by task t exists: firmware's, or one in the table of a program that is RUNNING (R359). -/
def State.handlerExists (s : State) (t : Nat) : Bool :=
  let o := s.handlerOf t
  if o.1 = 0 then true
  else
    match s.prog o.1 with
    | some x => s.progState o.1 == 2 && decide (o.2 < x.nHandlers)
    | none => false

/-- The core takes a dispatch at this boundary: EE is 1, no exception level, no LOCK sequence, no step, and no user handler under way (R358, R367). -/
def State.dispatchable (s : State) : Bool :=
  s.canIssue && s.core.lock.isNone && s.core.mst.ee && !s.core.mst.exl && !s.tabor.stepOne && s.tabor.handler.isNone

/-- The activation record in the banked G4 to G7, bytes 0 to 3 in G4. -/
def Core.takeRecord (c : Core) (record : List Nat) : Core :=
  (List.range 4).foldl (fun (c : Core) k => c.setReg (4 + k) (BitVec.ofNat 32 (fromLE ((record.drop (4 * k)).take 4)))) c

/-- Firmware enters the program's handler that the activation names (R358). The frame it enters may wait for a page; the dispatch then is made again. -/
def enterHandler (before s : State) (p handler : Nat) (record : List Nat) : State :=
  match s.prog p, windowForward s true with
  | some x, (u, .ok) => userEntry u p (x.base + nth x.handlers handler 0) false record
  | _, (u, .waits) =>
    { u.set 0x2800 3 (before.get 0x2800 3) with tabor := { before.tabor with blocked := u.tabor.blocked }, sched := before.sched }
  | _, (u, _) => doubleFault u

/-- The EVENT exception of task t's activation (R358): the record in G4 to G7, the slot freed, the worst latency kept. -/
def eventEnters (s : State) (t : Nat) (a : Activation) (latencyNs : Nat) : State :=
  let o := s.handlerOf t
  let u := takeException s 0x10 o.2 s.core.pc.toNat false false
  if !(u.core.mst.exl && u.core.ecause.toNat % 256 == 0x10) then u
  else
    let u := freeSlot (u.setCore (u.core.takeRecord (a.record t))) t
    let u := u.set 0x2800 5 (min 0xFFFFFFFF (max (u.get 0x2800 5) latencyNs))
    if o.1 = 0 then u else enterHandler s u o.1 o.2 (a.record t)

/-- EVENT_DISPATCH (R323, R358, R359, R370): the activation of task t, at the head of the ready queue, is taken by the core; one whose handler does not exist is
an action failure. -/
def actEventDispatch (task : Fin 128) (latencyNs : Nat) (s : State) : State :=
  let t := task.val
  (match (s.sched.task t).pending with
    | none => s
    | some a =>
      if s.coreHead ≠ some t then s
      else if !s.handlerExists t then actionFails (freeSlot s t) t
      else if !s.dispatchable then s
      else
        let s := if s.tabor.run = .waiting then endWait s else s
        if !s.dispatchable then s else eventEnters s t a latencyNs)

/-! ### Limits of user programs (R362) -/

/-- ACTIVATION_BUDGET_EXPIRY: the handler of program p has run longer than its budget. Inside a LOCK sequence, or while an object instruction runs, it takes
effect afterwards (R350, R355); budgets do not count while the core is halted (R368). -/
def actActivationBudgetExpiry (p : Fin 4) (s : State) : State :=
  (if !s.handlerRuns (p.val + 1) || s.tabor.held || s.tabor.run == .halted || s.tabor.run == .stopped then s
    else settleBudget { s with tabor := { s.tabor with budgetDue := true } })

/-- FRAME_SHARE_SPENT: the program's activations are passed over until the next downbeat. -/
def actFrameShareSpent (p : Fin 4) (s : State) : State :=
  (match s.prog (p.val + 1) with
    | some x => if s.progState (p.val + 1) = 2 then s.setProg (p.val + 1) (some { x with shareSpent := true }) else s
    | none => s)

/-! ### The commands of Table 9.9 (R364) -/

/-- USER_PROGRAM_LOAD (R360, R364, R376, R687): `unreadable` are the blocks of its slot that cannot be read. -/
def actUserProgramLoad (port : Port) (p : Fin 4) (unreadable : List Nat) (s : State) : State :=
  portCommand s port (progObj (p.val + 1)) 1 (fun s => programLoad s (p.val + 1) unreadable)

/-- USER_PROGRAM_START. -/
def actUserProgramStart (port : Port) (p : Fin 4) (s : State) : State := writeCommand s port (progObj (p.val + 1)) 1 2

/-- USER_PROGRAM_STOP. -/
def actUserProgramStop (port : Port) (p : Fin 4) (s : State) : State := writeCommand s port (progObj (p.val + 1)) 1 3

/-- USER_PROGRAM_UNLOAD. -/
def actUserProgramUnload (port : Port) (p : Fin 4) (s : State) : State := writeCommand s port (progObj (p.val + 1)) 1 4

end Sys2Proof.Machine
end

