-- ==== Sys2Proof/Machine/TaborDecode.lean ====
section
/-!
DEFINITION. The words of the Tabor core (R378, R379, Tables 10.1, 10.2 and 10.5): the instruction that a word encodes, and none where it is ILLEGAL.
-/

namespace Sys2Proof.Machine

/-! ### Fields (Table 10.1) -/

/-- Register field D. -/
def wordD (w : Nat) : Fin 32 := ⟨w / 2 ^ 21 % 32, Nat.mod_lt _ (by decide)⟩

/-- Register field A. -/
def wordA (w : Nat) : Fin 32 := ⟨w / 2 ^ 16 % 32, Nat.mod_lt _ (by decide)⟩

/-- Register field B. -/
def wordB (w : Nat) : Fin 32 := ⟨w / 2 ^ 11 % 32, Nat.mod_lt _ (by decide)⟩

/-- IMM16 or OFF16. -/
def wordImm (w : Nat) : BitVec 16 := BitVec.ofNat 16 w

/-- N of the SPC format. -/
def wordN (w : Nat) : BitVec 8 := BitVec.ofNat 8 (w / 2 ^ 8)

/-- An instruction whose must-be-0 fields are 0. -/
def zeros (ok : Bool) (i : Instr) : Option Instr := if ok then some i else none

/-! ### Majors (Table 10.5) -/

/-- Major 0x00: arithmetic, logic, shifts and comparisons by F. -/
def decodeArith (w : Nat) : Option Instr :=
  let d := wordD w
  let a := wordA w
  let b := wordB w
  let f := bit w 10
  let one := bits w 11 5 == 0
  match bits w 0 10 with
  | 0x000 => some (.tAdd d a b f)
  | 0x001 => some (.tAddc d a b f)
  | 0x002 => some (.tSub d a b f)
  | 0x003 => some (.tSubc d a b f)
  | 0x004 => some (.tAdds d a b f)
  | 0x005 => some (.tSubs d a b f)
  | 0x008 => some (.tAnd d a b f)
  | 0x009 => some (.tOr d a b f)
  | 0x00A => some (.tXor d a b f)
  | 0x00B => some (.tAndn d a b f)
  | 0x010 => some (.tShl d a b f)
  | 0x011 => some (.tShr d a b f)
  | 0x012 => some (.tSar d a b f)
  | 0x013 => some (.tRor d a b f)
  | 0x018 => some (.tMin d a b f)
  | 0x019 => some (.tMax d a b f)
  | 0x01A => some (.tMinu d a b f)
  | 0x01B => some (.tMaxu d a b f)
  | 0x020 => zeros one (.tClz d a f)
  | 0x021 => zeros one (.tSextb d a f)
  | 0x022 => zeros one (.tSexth d a f)
  | 0x023 => zeros one (.tZextb d a f)
  | 0x024 => zeros one (.tZexth d a f)
  | _ => none

/-- Major 0x01: the multiplier; D and F are 0. -/
def decodeMul (w : Nat) : Option Instr :=
  let a := wordA w
  let b := wordB w
  let none_ := bits w 21 5 == 0 && !bit w 10
  match bits w 0 10 with
  | 0x000 => zeros none_ (.tMul a b)
  | 0x001 => zeros none_ (.tMulu a b)
  | 0x002 => zeros none_ (.tMac a b)
  | 0x003 => zeros none_ (.tMacu a b)
  | 0x004 => zeros none_ (.tMsu a b)
  | 0x005 => zeros none_ (.tMsuu a b)
  | _ => none

/-- SHI: the kind in IMM16 [6:5], the amount in [4:0], and the rest 0. -/
def decodeShi (w : Nat) : Option Instr :=
  zeros (bits w 7 9 == 0) (.tShi (wordD w) (wordA w) ⟨w / 2 ^ 5 % 4, Nat.mod_lt _ (by decide)⟩ ⟨w % 32, Nat.mod_lt _ (by decide)⟩)

/-- Majors 0x30: control, special registers, LOCK, RPT, ACCX and the MPU bank. The fields that an instruction does not use are 0 (log entry 227). -/
def decodeControl (w : Nat) : Option Instr :=
  let d := wordD w
  let a := wordA w
  let n := wordN w
  let d0 := bits w 21 5 == 0
  let a0 := bits w 16 5 == 0
  let n0 := bits w 8 8 == 0
  match bits w 0 8 with
  | 0x00 => zeros (d0 && a0 && n0) .tNop
  | 0x01 => zeros (a0 && decide (n.toNat ≤ 16)) (.tMfs d n)
  | 0x02 => zeros (d0 && decide (n.toNat ≤ 16)) (.tMts n a)
  | 0x03 => zeros (d0 && n0) (.tJr a)
  | 0x04 => zeros (d0 && n0) (.tCallr a)
  | 0x05 => zeros (d0 && a0 && n0) .tRet
  | 0x06 => zeros (d0 && a0 && n0) .tRete
  | 0x07 => zeros (d0 && a0) (.tTrap n)
  | 0x08 => zeros (d0 && a0 && n0) .tWait
  | 0x09 => zeros (d0 && a0 && decide (1 ≤ n.toNat) && decide (n.toNat ≤ 8)) (.tLock n)
  | 0x0A => zeros d0 (.tRpt a n)
  | 0x0B => zeros (a0 && decide (n.toNat ≤ 40)) (.tAccx d n)
  | 0x0C => zeros (a0 && decide (n.toNat ≤ 31)) (.tMpur d n)
  | 0x0D => zeros (d0 && decide (n.toNat ≤ 31)) (.tMpuw n a)
  | _ => none

/-- Major 0x31: string and object instructions. -/
def decodeString (w : Nat) : Option Instr :=
  let d := wordD w
  let a := wordA w
  let d0 := bits w 21 5 == 0
  let a0 := bits w 16 5 == 0
  let n0 := bits w 8 8 == 0
  let even := a.val % 2 == 0
  match bits w 0 8 with
  | 0x00 => zeros (d0 && a0 && n0) .tMovs
  | 0x01 => zeros (d0 && n0) (.tFills a)
  | 0x02 => zeros (d0 && a0 && n0) .tCmps
  | 0x03 => zeros (d0 && n0 && even) (.tOsr a)
  | 0x04 => zeros (d0 && n0 && even) (.tOsw a)
  | 0x05 => zeros (n0 && even && d.val % 2 == 0) (.tOrd d a)
  | 0x06 => zeros (n0 && even && d.val % 2 == 0) (.tOwr d a)
  | _ => none

/-- The instruction that a word encodes; none where it is ILLEGAL (R379). -/
def decodeTabor (w : Nat) : Option Instr :=
  let d := wordD w
  let a := wordA w
  let imm := wordImm w
  match bits w 26 6 with
  | 0x00 => decodeArith w
  | 0x01 => decodeMul w
  | 0x02 => some (.tAddi d a imm)
  | 0x03 => some (.tAndi d a imm)
  | 0x04 => some (.tOri d a imm)
  | 0x05 => some (.tXori d a imm)
  | 0x06 => decodeShi w
  | 0x07 => zeros (bits w 16 5 == 0) (.tLui d imm)
  | 0x08 => zeros (bits w 21 5 == 0) (.tCmpi a imm)
  | 0x09 => zeros (bits w 21 5 == 0) (.tTsti a imm)
  | 0x10 => some (.tLdw d a imm)
  | 0x11 => some (.tLdh d a imm)
  | 0x12 => some (.tLdhu d a imm)
  | 0x13 => some (.tLdb d a imm)
  | 0x14 => some (.tLdbu d a imm)
  | 0x15 => zeros (d.val % 2 == 0) (.tLdd d a imm)
  | 0x18 => some (.tStw d a imm)
  | 0x19 => some (.tSth d a imm)
  | 0x1A => some (.tStb d a imm)
  | 0x1B => zeros (d.val % 2 == 0) (.tStd d a imm)
  | 0x20 => zeros (bits w 22 4 != 15) (.tB ⟨w / 2 ^ 22 % 16, Nat.mod_lt _ (by decide)⟩ (BitVec.ofNat 22 w))
  | 0x21 => some (.tCall (BitVec.ofNat 26 w))
  | 0x30 => decodeControl w
  | 0x31 => decodeString w
  | _ => none

/-! ### LOCK sequences (R353) -/

/-- The instruction may not stand in a LOCK sequence. A branch raises LOCK_ILLEGAL when it is reached, and is none of these. -/
def barredInLock (i : Instr) : Bool :=
  match i with
  | .tCall _ | .tCallr _ | .tRet | .tRete | .tRpt _ _ | .tMts _ _ | .tMpuw _ _ | .tLock _ | .tWait | .tTrap _
  | .tMovs | .tFills _ | .tCmps | .tOsr _ | .tOsw _ | .tOrd _ _ | .tOwr _ _
  | .tMul _ _ | .tMulu _ _ | .tMac _ _ | .tMacu _ _ | .tMsu _ _ | .tMsuu _ _ => true
  | _ => false

/-- A word that may not stand in a LOCK sequence. -/
def wordBarred (w : Nat) : Bool := ((decodeTabor w).map barredInLock).getD false

end Sys2Proof.Machine
end

