-- ==== Sys2Proof/Machine/TaborFlow.lean ====
section
/-!
DEFINITION. The control instructions of the Tabor core (Table 10.5, majors 0x20, 0x21 and 0x30): branches, calls and returns, TRAP, WAIT, LOCK, RPT, the special
registers, ACCX and the MPU bank.
-/

namespace Sys2Proof.Machine

/-! ### Branches (R353, R395, R401) -/

/-- An instruction word as a fetch would find it, where that needs no fill; nothing is changed. -/
def State.peekWord (s : State) (addr : Nat) : Option Nat :=
  if addr < 0x10000000 then
    match s.walkPure (addr / 4096) .fetch with
    | .ok f _ => some (fromLE (s.mem.read (f * 4096 + addr % 4096) 4))
    | _ => none
  else if 0x80000000 ≤ addr && addr < 0x80400000 then some (fromLE (s.mem.read (addr - 0x80000000) 4))
  else if 0xFFFF0000 ≤ addr then some (fromLE (romBytes addr 4))
  else none

/-- A word is a LOCK of at least k instructions. -/
def isLockOf (w k : Nat) : Bool := bits w 26 6 == 0x30 && bits w 16 10 == 0 && bits w 0 8 == 9 && decide (k ≤ bits w 8 8) && decide (bits w 8 8 ≤ 8)

/-- An address lies inside a LOCK sequence: one of the eight words before it is a LOCK that reaches it. -/
def State.targetInLock (s : State) (addr : Nat) : Bool :=
  addr % 4 == 0 && (List.range 8).any (fun j =>
    if addr < 4 * (j + 1) then false
    else
      match s.peekWord (addr - 4 * (j + 1)) with
      | some w => isLockOf w (j + 1)
      | none => false)

/-- A branch: inside a LOCK sequence, or into one, it raises LOCK_ILLEGAL when it is reached; a target that is not a multiple of four raises ALIGN. -/
def branchTo (s : State) (target : Word) (taken : Bool) : State :=
  if s.core.lock.isSome || s.targetInLock target.toNat then instrFault s 0x0A 0
  else if !taken then retired s 1
  else if target.toNat % 4 ≠ 0 then instrFault s 0x03 0
  else retireAt s 2 (some target)

/-- B: COND 15 is ILLEGAL (R381). -/
def actTB (cond : Fin 16) (disp : BitVec 22) (s : State) : State :=
  if cond.val = 15 then issue s [] illegal
  else issue s [] (fun t => branchTo t (t.core.pc + 4#32 * disp.signExtend 32) (t.core.flg.holds cond.val))

/-- JR. -/
def actTJr (a : Fin 32) (s : State) : State := issue s [a.val] (fun t => branchTo t (t.core.reg a.val) true)

/-! ### Calls and returns (R338, R388, R399) -/

/-- The window moves forward, the callee's L7 takes the return address, and the target is reached. -/
def callTo (s : State) (target : Word) : State :=
  if target.toNat % 4 ≠ 0 then instrFault s 0x03 0
  else
    let spills := decide (7 ≤ s.core.winb.resident)
    let ret := s.core.pc + 4#32
    match windowForward s s.core.mst.um with
    | (t, .ok) => retireAt (t.setCore (t.core.setReg 23 ret)) (if spills then 12 else 2) (some target)
    | (t, .waits) => t
    | (t, .fault) => instrFault t 0x09 1

/-- CALL. -/
def actTCall (disp : BitVec 26) (s : State) : State :=
  issueUnlocked s [] (fun t => callTo t (t.core.pc + 4#32 * disp.signExtend 32))

/-- CALLR: the target is read before the window moves. -/
def actTCallr (a : Fin 32) (s : State) : State := issueUnlocked s [a.val] (fun t => callTo t (t.core.reg a.val))

/-- The window moves back and execution goes on at a target; `f` is what else the return does. -/
def returnTo (s : State) (target : Word) (clocks : Nat) (f : Core → Core) : State :=
  let fills := decide (s.core.winb.resident ≤ 1)
  match windowBack s with
  | (t, .ok) => retireAt (t.setCore (f t.core)) (if fills then clocks + 12 else clocks) (some target)
  | (t, .waits) => t
  | (t, .fault) => instrFault t 0x09 2

/-- RET: to L7 as it stands. -/
def actTRet (s : State) : State :=
  issueUnlocked s [23] (fun t =>
    let target := t.core.reg 23
    if target.toNat % 4 ≠ 0 then instrFault t 0x03 0 else returnTo t target 2 id)

/-- The modes that an exception saved are in force again (R356). -/
def Core.unsaved (c : Core) : Core := { c with mst := { c.mst with um := c.mst.pum, ee := c.mst.pee, exl := false }, flat := false }

/-- RC after a trap's loop test; the entry itself keeps RC. -/
def trapEntry (s : State) (clocks n epc : Nat) (rc : Word) : State :=
  let user := s.core.mst.um
  let t := takeException (s.setCore (s.core.pass clocks)) 0x0B n epc false false
  if t.core.mst.exl && !s.core.mst.exl && t.core.ecause.toNat % 256 == 0x0B then
    let t := t.setCore { t.core with rc := rc }
    settleBudget (boundaryHalt (if user && n == 255 then activationEnds t else t) false)
  else boundaryHalt t false

/-- RETE in system mode: the saved modes come back, the window moves back unless the entry moved none, and execution resumes at EPC. -/
def systemRete (s : State) : State :=
  let epc := s.core.epc
  if epc.toNat % 4 ≠ 0 then instrFault s 0x03 0
  else if s.core.flat then retireAt (s.setCore s.core.unsaved) 3 (some epc)
  else returnTo s epc 3 Core.unsaved

/-- RETE; in user mode it is the end of the activation: TRAP 255 with EPC at the RETE (R389). -/
def actTRete (s : State) : State :=
  issueUnlocked s [] (fun t => if t.core.mst.um then trapEntry t 3 255 t.core.pc.toNat t.core.rc else systemRete t)

/-- TRAP: EPC is the address after it, as the loop test gives it (R374). -/
def actTTrap (n : BitVec 8) (s : State) : State :=
  issueUnlocked s [] (fun t =>
    let next := t.core.following t.core.rsa t.core.rea
    trapEntry t 4 n.toNat next.1.toNat next.2)

/-! ### WAIT, LOCK and RPT -/

/-- NOP. -/
def actTNop (s : State) : State := issue s [] (fun t => retired t 1)

/-- WAIT (R390): issue stops until a firmware-owned activation heads the queue or a halt comes; multiplies in flight end meanwhile. -/
def actTWait (s : State) : State :=
  issueUnlocked s [] (fun t =>
    if t.core.mst.um then instrFault t 0x02 0
    else if t.firmwareHead || t.tabor.haltDue || t.tabor.stepOne then retired t 1
    else { t.setCore t.core.settle with tabor := { t.tabor with core := t.core.settle, run := .waiting } })

/-- The block-repeat end lies in the n instructions after the PC while a loop is in force (R391). -/
def Core.loopsInside (c : Core) (n : Nat) : Bool :=
  decide (1 < c.rc.toNat) && (List.range n).any (fun k => c.rea == c.pc + BitVec.ofNat 32 (4 * (k + 1)))

/-- LOCK of n instructions (R352): what a break restores is kept, and the sequence runs from the next instruction. -/
def lockBegins (s : State) (n : Nat) : State :=
  let c := s.core
  let snap : LockSnap := ⟨c.regs, c.flg, c.rc⟩
  match advance s 1 none c.rsa c.rea with
  | (t, _) => t.setCore { t.core with lock := some ⟨c.pc, n, snap, [], [], []⟩ }

/-- An instruction that may not stand in the sequence of a LOCK of n at the PC lies there, as far as its words can be read without a fill; another is refused when it
is reached (R353). -/
def State.barredAhead (s : State) (n : Nat) : Bool :=
  (List.range n).any (fun k => ((s.peekWord ((s.core.pc.toNat + 4 * (k + 1)) % 2 ^ 32)).map wordBarred).getD false)

/-- LOCK: 1 to 8 instructions. -/
def actTLock (n : BitVec 8) (s : State) : State :=
  if n.toNat = 0 || 8 < n.toNat then issue s [] illegal
  else
    issueUnlocked s [] (fun t =>
      if t.core.loopsInside n.toNat || t.barredAhead n.toNat then instrFault t 0x0A 0 else lockBegins t n.toNat)

/-- RPT (R347, R391): the block that it sets replaces any in force. -/
def actTRpt (a : Fin 32) (n : BitVec 8) (s : State) : State :=
  issueUnlocked s [a.val] (fun t =>
    let c := t.core
    retired (t.setCore { c with rc := c.reg a.val, rsa := c.pc + 4#32, rea := c.pc + BitVec.ofNat 32 (4 * (n.toNat + 1)) }) 1)

/-! ### Special registers, the accumulator and the MPU bank (R341, R385, R394) -/

/-- MFS. -/
def actTMfs (d : Fin 32) (n : BitVec 8) (s : State) : State :=
  if maxSpecial < n.toNat then issue s [] illegal
  else
    issue s [] (fun t =>
      let c := t.core
      if !specialReadable n.toNat c.mst.um then instrFault t 0x02 0
      else retired (t.setCore (c.setReg d.val (c.special c.cstWord n.toNat))) 1)

/-- MTS: it takes effect for the next instruction, so that its own loop test is against the old block, with the RC it wrote (R385, R395). -/
def actTMts (n : BitVec 8) (a : Fin 32) (s : State) : State :=
  if maxSpecial < n.toNat then issue s [] illegal
  else
    issueUnlocked s [a.val] (fun t =>
      let c := t.core
      if !specialWritable n.toNat c.mst.um then instrFault t 0x02 0
      else
        match advance (t.setCore (c.setSpecial n.toNat (c.reg a.val))) (if n.toNat = 5 then 2 else 1) none c.rsa c.rea with
        | (u, committed) => settleBudget (boundaryHalt u committed))

/-- ACCX: *sat32* of the accumulator shifted right; Q where that limits it. -/
def actTAccx (d : Fin 32) (n : BitVec 8) (s : State) : State :=
  if 40 < n.toNat then issue s [] illegal
  else
    issue s [] (fun t =>
      let c := t.core
      let r := sat32 (c.acc / 2 ^ n.toNat)
      retired (t.setCore { c.setReg d.val r.1 with flg := { c.flg with q := c.flg.q || r.2 } }) 1)

/-- MPUR. -/
def actTMpur (d : Fin 32) (w : BitVec 8) (s : State) : State :=
  if 31 < w.toNat then issue s [] illegal
  else
    issue s [] (fun t =>
      if t.core.mst.um then instrFault t 0x02 0
      else retired (t.setCore (t.core.setReg d.val (t.core.mpuWord w.toNat))) 1)

/-- MPUW. -/
def actTMpuw (w : BitVec 8) (a : Fin 32) (s : State) : State :=
  if 31 < w.toNat then issue s [] illegal
  else
    issueUnlocked s [a.val] (fun t =>
      if t.core.mst.um then instrFault t 0x02 0
      else retired (t.setCore (t.core.setMpuWord w.toNat (t.core.reg a.val))) 2)

end Sys2Proof.Machine
end

