-- ==== Sys2Proof/Machine/TaborMem.lean ====
section
/-!
DEFINITION. The memory instructions of the Tabor core (Table 10.5): loads and stores, the string instructions unit by unit (R348, R392), and the object
instructions (R349 to R351, R361, R393, R402).
-/

namespace Sys2Proof.Machine

/-! ### Loads and stores -/

/-- A load of `size` bytes: ALIGN, then the access; the registers it delivers are ready three clocks later (R382). -/
def loadInto (s : State) (a : Fin 32) (off : BitVec 16) (size : Nat) (regs : List Nat) (put : List Nat → Core → Core) : State :=
  issue s [a.val] (fun t =>
    let addr := t.core.effective a.val off
    if addr % size ≠ 0 then instrFault t 0x03 0
    else
      match loadBytes t addr size with
      | (u, none) => u
      | (u, some (_, clocks, true)) => poisonedLoad u regs (1 + clocks)
      | (u, some (bytes, clocks, false)) =>
        let c := put bytes u.core
        let late := (regs.filter (· != 0)).map (fun r => (3, c.regKey r))
        retired (u.setCore { c.pass clocks with loads := (c.pass clocks).loads ++ late }) 1)

/-- A load of one register. -/
def load (s : State) (d a : Fin 32) (off : BitVec 16) (size : Nat) (signed : Bool) : State :=
  loadInto s a off size [d.val] (fun bytes c => c.setReg d.val (extended bytes signed))

/-- LDW. -/
def actTLdw (d a : Fin 32) (off : BitVec 16) (s : State) : State := load s d a off 4 false
/-- LDH. -/
def actTLdh (d a : Fin 32) (off : BitVec 16) (s : State) : State := load s d a off 2 true
/-- LDHU. -/
def actTLdhu (d a : Fin 32) (off : BitVec 16) (s : State) : State := load s d a off 2 false
/-- LDB. -/
def actTLdb (d a : Fin 32) (off : BitVec 16) (s : State) : State := load s d a off 1 true
/-- LDBU. -/
def actTLdbu (d a : Fin 32) (off : BitVec 16) (s : State) : State := load s d a off 1 false

/-- LDD: ILLEGAL for an odd D. -/
def actTLdd (d a : Fin 32) (off : BitVec 16) (s : State) : State :=
  if d.val % 2 ≠ 0 then issue s [] illegal
  else loadInto s a off 8 [d.val, d.val + 1] (fun bytes c => c.setPair d.val (fromLE bytes))

/-- A store of the low `size` bytes of a value. -/
def storeFrom (s : State) (a : Fin 32) (off : BitVec 16) (size : Nat) (regs : List Nat) (value : Core → Nat) : State :=
  issue s (a.val :: regs) (fun t =>
    let addr := t.core.effective a.val off
    if addr % size ≠ 0 then instrFault t 0x03 0
    else
      match storeBytes t addr (toLE size (value t.core)) with
      | (u, none) => u
      | (u, some clocks) => retired u (1 + clocks))

/-- STW. -/
def actTStw (d a : Fin 32) (off : BitVec 16) (s : State) : State := storeFrom s a off 4 [d.val] (fun c => (c.reg d.val).toNat)
/-- STH. -/
def actTSth (d a : Fin 32) (off : BitVec 16) (s : State) : State := storeFrom s a off 2 [d.val] (fun c => (c.reg d.val).toNat)
/-- STB. -/
def actTStb (d a : Fin 32) (off : BitVec 16) (s : State) : State := storeFrom s a off 1 [d.val] (fun c => (c.reg d.val).toNat)

/-- STD: ILLEGAL for an odd D. -/
def actTStd (d a : Fin 32) (off : BitVec 16) (s : State) : State :=
  if d.val % 2 ≠ 0 then issue s [] illegal
  else storeFrom s a off 8 [d.val, d.val + 1] (fun c => c.pair d.val)

/-! ### String instructions -/

/-- A string instruction's command stands for one unit of it, with the two clocks of its issue ahead of the first. -/
def issueUnit (s : State) (srcs : List Nat) (f : State → Nat → State) : State :=
  issueUnlocked s srcs (fun t =>
    if t.core.cnt = 0#32 then f t 0
    else f { t with tabor := { t.tabor with inString := true } } (if t.tabor.inString then 0 else 2))

/-- A unit has ended with clocks to count: the instruction retires, or stays at its address for the next unit, where a halt can be taken (R348, R367). -/
def unitEnds (s : State) (clocks : Nat) (done : Bool) : State :=
  if done then retired s clocks
  else settleBudget (boundaryHalt (s.setCore (s.core.pass clocks)) false)

/-- The bytes of a unit that lies in one 64-bit word of source and destination (R392). -/
def Core.unitBoth (c : Core) : Nat := min (min (8 - c.sa.toNat % 8) (8 - c.da.toNat % 8)) c.cnt.toNat

/-- The bytes of a unit of FILLS. -/
def Core.unitDest (c : Core) : Nat := min (8 - c.da.toNat % 8) c.cnt.toNat

/-- SA, DA and CNT after a unit of n bytes. -/
def Core.step (c : Core) (n : Nat) (sa : Bool) : Core :=
  { c with sa := if sa then c.sa + BitVec.ofNat 32 n else c.sa, da := c.da + BitVec.ofNat 32 n, cnt := c.cnt - BitVec.ofNat 32 n }

/-- A unit's read of an uncorrectable word: ECC at the string instruction, its unit not carried out. -/
def unitPoison (s : State) : State := boundaryHalt (takeException s 0x06 0 s.core.pc.toNat true false) false

/-- One unit of MOVS: all its source bytes are read before any is written. -/
def movsUnit (s : State) (setup : Nat) : State :=
  if s.core.cnt = 0#32 then retired s 1
  else
    let n := s.core.unitBoth
    match loadBytes s s.core.sa.toNat n with
    | (s, none) => s
    | (s, some (_, _, true)) => unitPoison s
    | (s, some (bytes, c1, false)) =>
      match storeBytes s s.core.da.toNat bytes with
      | (s, none) => s
      | (s, some c2) =>
        let s := s.setCore (s.core.step n true)
        unitEnds s (setup + 2 + c1 + c2) (s.core.cnt == 0#32)

/-- MOVS. -/
def actTMovs (s : State) : State := issueUnit s [] movsUnit

/-- One unit of FILLS. -/
def fillsUnit (a : Nat) (s : State) (setup : Nat) : State :=
  if s.core.cnt = 0#32 then retired s 1
  else
    let n := s.core.unitDest
    match storeBytes s s.core.da.toNat (List.replicate n ((s.core.reg a).toNat % 256)) with
    | (s, none) => s
    | (s, some c) =>
      let s := s.setCore (s.core.step n false)
      unitEnds s (setup + 1 + c) (s.core.cnt == 0#32)

/-- FILLS. -/
def actTFills (a : Fin 32) (s : State) : State := issueUnit s [a.val] (fillsUnit a.val)

/-- Z and C of CMPS; N and V clear. -/
def cmpsFlags (o : Flg) (z c : Bool) : Flg := { o with n := false, v := false, z := z, c := c }

/-- The first byte in which two units differ. -/
def firstDiff : List Nat → List Nat → Option (Nat × Nat)
  | x :: xs, y :: ys => if x = y then firstDiff xs ys else some (x, y)
  | _, _ => none

/-- One unit of CMPS: it retires at CNT 0 with Z set and C clear, or at the first differing unit (R392). -/
def cmpsUnit (s : State) (setup : Nat) : State :=
  if s.core.cnt = 0#32 then retired (s.setCore { s.core with flg := cmpsFlags s.core.flg true false }) 1
  else
    let n := s.core.unitBoth
    match loadBytes s s.core.sa.toNat n with
    | (s, none) => s
    | (s, some (_, _, true)) => unitPoison s
    | (s, some (x, c1, false)) =>
      match loadBytes s s.core.da.toNat n with
      | (s, none) => s
      | (s, some (_, _, true)) => unitPoison s
      | (s, some (y, c2, false)) =>
        match firstDiff x y with
        | some (p, q) => unitEnds (s.setCore { s.core with flg := cmpsFlags s.core.flg false (decide (q < p)) }) (setup + 2 + c1 + c2) true
        | none =>
          let c := s.core.step n true
          let last := c.cnt == 0#32
          unitEnds (s.setCore (if last then { c with flg := cmpsFlags c.flg true false } else c)) (setup + 2 + c1 + c2) last

/-- CMPS. -/
def actTCmps (s : State) : State := issueUnit s [] cmpsUnit

/-! ### Object instructions -/

/-- A user program may make a request: bound to the index with the right needed (R351, R361). -/
def State.userMay (s : State) (i sub : Nat) (write : Bool) : Bool :=
  !s.core.mst.um || (s.core.mst.prog != 0 && s.userGrants s.core.mst.prog i sub (!write) write)

/-- A request that did not go well raises OBJECT with its status; it has completed, so what halts the core waits no longer. -/
def objectFault (s : State) (st : Status) : State := instrFault s 0x08 st.code

/-- ORD or OWR with its ORW: the operation must be the instruction's own; the core stalls until the completion comes. -/
def objectRequest (s : State) (d orw : Nat) (write : Bool) : State :=
  let op := bits orw 60 3
  let i := bits orw 40 16
  let sub := bits orw 32 8
  if !s.userMay i sub write then objectFault s .noAccess
  else if op ≠ 0 && !(op == 4 && !write) && !(op == 1 && write) || (op == 0 && write) then objectFault s .badRequest
  else
    let data := if write then toLE (s.sizeNow .T i sub) (s.core.pair d) else []
    let s : State := { s with tabor := { s.tabor with blocked := some (.object (if write then none else some d)) } }
    match orwRequest s .T 0 orw data with
    | (t, some (st, bytes)) => settleBudget (finishCore (t.reply .T st bytes) st bytes)
    | (t, none) => t

/-- ORD: D and A even. -/
def actTOrd (d a : Fin 32) (s : State) : State :=
  if d.val % 2 ≠ 0 || a.val % 2 ≠ 0 then issue s [] illegal
  else issueUnlocked s [a.val, a.val + 1] (fun t => objectRequest t d.val (t.core.pair a.val) false)

/-- OWR: D and A even. -/
def actTOwr (d a : Fin 32) (s : State) : State :=
  if d.val % 2 ≠ 0 || a.val % 2 ≠ 0 then issue s [] illegal
  else issueUnlocked s [a.val, a.val + 1, d.val, d.val + 1] (fun t => objectRequest t d.val (t.core.pair a.val) true)

/-- A segment unit's ORW: the LENGTH field is the unit's. -/
def unitOrw (orw n : Nat) : Nat := orw / 256 * 256 + n % 256

/-- After a unit the OFFSET field of register A, SA or DA, and CNT describe what remains (R393). -/
def Core.segmentStep (c : Core) (a n : Nat) (read : Bool) : Core :=
  let c := c.setReg a (c.reg a + BitVec.ofNat 32 (256 * n))
  { c with
    sa := if read then c.sa else c.sa + BitVec.ofNat 32 n
    da := if read then c.da + BitVec.ofNat 32 n else c.da
    cnt := c.cnt - BitVec.ofNat 32 n }

/-- The memory of a unit in parts that lie in one 64-bit word each: address, first byte and length of each. -/
def wordParts : Nat → Nat → Nat → Nat → List (Nat × Nat × Nat)
  | 0, _, _, _ => []
  | fuel + 1, a, done, n =>
    if n = 0 then []
    else
      let k := min (8 - a % 8) n
      ((a % 2 ^ 32, done, k)) :: wordParts fuel (a + k) (done + k) (n - k)

/-- The parts of at most 256 bytes. -/
def unitParts (a n : Nat) : List (Nat × Nat × Nat) := wordParts 33 a 0 n

/-- The destination of a segment read can be written, part by part; false where the instruction has ended. -/
def reachParts (s : State) : List (Nat × Nat × Nat) → State × Bool
  | [] => (s, true)
  | p :: rest =>
    match coreAccess s p.1 p.2.2 .write with
    | (s, .ok _ _) => reachParts s rest
    | (s, _) => (s, false)

/-- The bytes of a unit stored, part by part. -/
def storeParts (s : State) (data : List Nat) : List (Nat × Nat × Nat) → State × Bool
  | [] => (s, true)
  | p :: rest =>
    let bytes := (data.drop p.2.1).take p.2.2
    if bytes.isEmpty then (s, true)
    else
      match storeBytes s p.1 bytes with
      | (s, some _) => storeParts s data rest
      | (s, none) => (s, false)

/-- The bytes of a unit loaded, part by part. -/
def loadParts (s : State) (acc : List Nat) : List (Nat × Nat × Nat) → State × Option (List Nat)
  | [] => (s, some acc)
  | p :: rest =>
    match loadBytes s p.1 p.2.2 with
    | (s, none) => (s, none)
    | (s, some (_, _, true)) => (unitPoison s, none)
    | (s, some (bytes, _, false)) => loadParts s (acc ++ bytes) rest

/-- A unit of OSR or OSW: at most 256 bytes. -/
def Core.unitSegment (c : Core) : Nat := min 256 c.cnt.toNat

/-- A segment instruction's ORW is refused before its request is made: a wrong operation, or a user program without the right (R351, R393). -/
def State.segmentRefused (s : State) (orw op : Nat) : Option Status :=
  if !s.userMay (bits orw 40 16) (bits orw 32 8) (op == 3) then some .noAccess
  else if bits orw 60 3 ≠ op then some .badRequest
  else none

/-- The clocks of a unit of n bytes besides its completion. -/
def segmentClocks (setup n : Nat) : Nat := setup + (n + 7) / 8

/-- One unit of OSR (R349, R402): the destination is reached first, so that no completed request is repeated. -/
def osrUnit (a : Nat) (s : State) (setup : Nat) : State :=
  let n := s.core.unitSegment
  let orw := s.core.pair a
  let parts := unitParts s.core.da.toNat n
  if n = 0 then retired s 1
  else
    match s.segmentRefused orw 2 with
    | some st => objectFault s st
    | none =>
      match reachParts s parts with
      | (s, false) => s
      | (s, true) =>
        match orwRequest s .T 0 (unitOrw orw n) [] with
        | (t, some (.ok, bytes)) =>
          match storeParts (t.reply .T .ok bytes) bytes parts with
          | (u, false) => u
          | (u, true) =>
            let u := u.setCore (u.core.segmentStep a n true)
            unitEnds u (segmentClocks setup n) (u.core.cnt == 0#32)
        | (t, some (st, _)) => objectFault (t.reply .T st []) st
        | (t, none) => t

/-- OSR: A even. -/
def actTOsr (a : Fin 32) (s : State) : State :=
  if a.val % 2 ≠ 0 then issue s [] illegal else issueUnit s [a.val, a.val + 1] (osrUnit a.val)

/-- One unit of OSW. -/
def oswUnit (a : Nat) (s : State) (setup : Nat) : State :=
  let n := s.core.unitSegment
  let orw := s.core.pair a
  if n = 0 then retired s 1
  else
    match s.segmentRefused orw 3 with
    | some st => objectFault s st
    | none =>
      match loadParts s [] (unitParts s.core.sa.toNat n) with
      | (s, none) => s
      | (s, some bytes) =>
        match orwRequest s .T 0 (unitOrw orw n) bytes with
        | (t, some (.ok, _)) =>
          let u := (t.reply .T .ok []).setCore (t.core.segmentStep a n false)
          unitEnds u (segmentClocks setup n) (u.core.cnt == 0#32)
        | (t, some (st, _)) => objectFault (t.reply .T st []) st
        | (t, none) => t

/-- OSW: A even. -/
def actTOsw (a : Fin 32) (s : State) : State :=
  if a.val % 2 ≠ 0 then issue s [] illegal else issueUnit s [a.val, a.val + 1] (oswUnit a.val)

end Sys2Proof.Machine
end

