-- ==== Sys2Proof/Machine/TaborWord.lean ====
section
/-!
DEFINITION. A word of the Tabor core as what it encodes (R378, R379): the instruction's own effect, or ILLEGAL.
-/

namespace Sys2Proof.Machine

/-- The effect of an instruction of the core; none for a command of another agent. -/
def runTabor (i : Instr) : Option (State → State) :=
  match i with
  | .tAdd d a b f => some (actTAdd d a b f)
  | .tAddc d a b f => some (actTAddc d a b f)
  | .tSub d a b f => some (actTSub d a b f)
  | .tSubc d a b f => some (actTSubc d a b f)
  | .tAdds d a b f => some (actTAdds d a b f)
  | .tSubs d a b f => some (actTSubs d a b f)
  | .tAnd d a b f => some (actTAnd d a b f)
  | .tOr d a b f => some (actTOr d a b f)
  | .tXor d a b f => some (actTXor d a b f)
  | .tAndn d a b f => some (actTAndn d a b f)
  | .tShl d a b f => some (actTShl d a b f)
  | .tShr d a b f => some (actTShr d a b f)
  | .tSar d a b f => some (actTSar d a b f)
  | .tRor d a b f => some (actTRor d a b f)
  | .tMin d a b f => some (actTMin d a b f)
  | .tMax d a b f => some (actTMax d a b f)
  | .tMinu d a b f => some (actTMinu d a b f)
  | .tMaxu d a b f => some (actTMaxu d a b f)
  | .tClz d a f => some (actTClz d a f)
  | .tSextb d a f => some (actTSextb d a f)
  | .tSexth d a f => some (actTSexth d a f)
  | .tZextb d a f => some (actTZextb d a f)
  | .tZexth d a f => some (actTZexth d a f)
  | .tMul a b => some (actTMul a b)
  | .tMulu a b => some (actTMulu a b)
  | .tMac a b => some (actTMac a b)
  | .tMacu a b => some (actTMacu a b)
  | .tMsu a b => some (actTMsu a b)
  | .tMsuu a b => some (actTMsuu a b)
  | .tAddi d a imm => some (actTAddi d a imm)
  | .tAndi d a imm => some (actTAndi d a imm)
  | .tOri d a imm => some (actTOri d a imm)
  | .tXori d a imm => some (actTXori d a imm)
  | .tShi d a kind n => some (actTShi d a kind n)
  | .tLui d imm => some (actTLui d imm)
  | .tCmpi a imm => some (actTCmpi a imm)
  | .tTsti a imm => some (actTTsti a imm)
  | .tLdw d a off => some (actTLdw d a off)
  | .tLdh d a off => some (actTLdh d a off)
  | .tLdhu d a off => some (actTLdhu d a off)
  | .tLdb d a off => some (actTLdb d a off)
  | .tLdbu d a off => some (actTLdbu d a off)
  | .tLdd d a off => some (actTLdd d a off)
  | .tStw d a off => some (actTStw d a off)
  | .tSth d a off => some (actTSth d a off)
  | .tStb d a off => some (actTStb d a off)
  | .tStd d a off => some (actTStd d a off)
  | .tB cond disp => some (actTB cond disp)
  | .tCall disp => some (actTCall disp)
  | .tNop => some actTNop
  | .tMfs d n => some (actTMfs d n)
  | .tMts n a => some (actTMts n a)
  | .tJr a => some (actTJr a)
  | .tCallr a => some (actTCallr a)
  | .tRet => some actTRet
  | .tRete => some actTRete
  | .tTrap n => some (actTTrap n)
  | .tWait => some actTWait
  | .tLock n => some (actTLock n)
  | .tRpt a n => some (actTRpt a n)
  | .tAccx d n => some (actTAccx d n)
  | .tMpur d w => some (actTMpur d w)
  | .tMpuw w a => some (actTMpuw w a)
  | .tMovs => some actTMovs
  | .tFills a => some (actTFills a)
  | .tCmps => some actTCmps
  | .tOsr a => some (actTOsr a)
  | .tOsw a => some (actTOsw a)
  | .tOrd d a => some (actTOrd d a)
  | .tOwr d a => some (actTOwr d a)
  | _ => none

/-- ILLEGAL (R379): the word at the PC encodes no instruction, and nothing of it is carried out. A word that does encode one is that instruction. -/
def actTIllegal (word : BitVec 32) (s : State) : State :=
  match (decodeTabor word.toNat).bind runTabor with
  | some f => f s
  | none => issue s [] illegal

end Sys2Proof.Machine
end

