-- ==== Sys2Proof/Machine/MeaningsCore.lean ====
section
/-! DEFINITION. The meanings of the commands of the Tabor core (chapters 9 and 10): each command's own effect, then what follows it of itself (`Machine/Settle.lean`). -/

namespace Sys2Proof.Machine

/-! ### `Machine/TaborAlu.lean` -/

/-- ADD. -/
def execTAdd (d a b : Fin 32) (f : Bool) (s : State) : Result := launched (actTAdd d a b f s)

/-- ADDC. -/
def execTAddc (d a b : Fin 32) (f : Bool) (s : State) : Result := launched (actTAddc d a b f s)

/-- SUB. -/
def execTSub (d a b : Fin 32) (f : Bool) (s : State) : Result := launched (actTSub d a b f s)

/-- SUBC. -/
def execTSubc (d a b : Fin 32) (f : Bool) (s : State) : Result := launched (actTSubc d a b f s)

/-- ADDS. -/
def execTAdds (d a b : Fin 32) (f : Bool) (s : State) : Result := launched (actTAdds d a b f s)

/-- SUBS. -/
def execTSubs (d a b : Fin 32) (f : Bool) (s : State) : Result := launched (actTSubs d a b f s)

/-- AND. -/
def execTAnd (d a b : Fin 32) (f : Bool) (s : State) : Result := launched (actTAnd d a b f s)

/-- OR. -/
def execTOr (d a b : Fin 32) (f : Bool) (s : State) : Result := launched (actTOr d a b f s)

/-- XOR. -/
def execTXor (d a b : Fin 32) (f : Bool) (s : State) : Result := launched (actTXor d a b f s)

/-- ANDN. -/
def execTAndn (d a b : Fin 32) (f : Bool) (s : State) : Result := launched (actTAndn d a b f s)

/-- SHL. -/
def execTShl (d a b : Fin 32) (f : Bool) (s : State) : Result := launched (actTShl d a b f s)

/-- SHR. -/
def execTShr (d a b : Fin 32) (f : Bool) (s : State) : Result := launched (actTShr d a b f s)

/-- SAR. -/
def execTSar (d a b : Fin 32) (f : Bool) (s : State) : Result := launched (actTSar d a b f s)

/-- ROR. -/
def execTRor (d a b : Fin 32) (f : Bool) (s : State) : Result := launched (actTRor d a b f s)

/-- MIN. -/
def execTMin (d a b : Fin 32) (f : Bool) (s : State) : Result := launched (actTMin d a b f s)

/-- MAX. -/
def execTMax (d a b : Fin 32) (f : Bool) (s : State) : Result := launched (actTMax d a b f s)

/-- MINU. -/
def execTMinu (d a b : Fin 32) (f : Bool) (s : State) : Result := launched (actTMinu d a b f s)

/-- MAXU. -/
def execTMaxu (d a b : Fin 32) (f : Bool) (s : State) : Result := launched (actTMaxu d a b f s)

/-- CLZ. -/
def execTClz (d a : Fin 32) (f : Bool) (s : State) : Result := launched (actTClz d a f s)

/-- SEXTB. -/
def execTSextb (d a : Fin 32) (f : Bool) (s : State) : Result := launched (actTSextb d a f s)

/-- SEXTH. -/
def execTSexth (d a : Fin 32) (f : Bool) (s : State) : Result := launched (actTSexth d a f s)

/-- ZEXTB. -/
def execTZextb (d a : Fin 32) (f : Bool) (s : State) : Result := launched (actTZextb d a f s)

/-- ZEXTH. -/
def execTZexth (d a : Fin 32) (f : Bool) (s : State) : Result := launched (actTZexth d a f s)

/-- MUL. -/
def execTMul (a b : Fin 32) (s : State) : Result := launched (actTMul a b s)

/-- MULU. -/
def execTMulu (a b : Fin 32) (s : State) : Result := launched (actTMulu a b s)

/-- MAC. -/
def execTMac (a b : Fin 32) (s : State) : Result := launched (actTMac a b s)

/-- MACU. -/
def execTMacu (a b : Fin 32) (s : State) : Result := launched (actTMacu a b s)

/-- MSU. -/
def execTMsu (a b : Fin 32) (s : State) : Result := launched (actTMsu a b s)

/-- MSUU. -/
def execTMsuu (a b : Fin 32) (s : State) : Result := launched (actTMsuu a b s)

/-- ADDI. -/
def execTAddi (d a : Fin 32) (imm : BitVec 16) (s : State) : Result := launched (actTAddi d a imm s)

/-- ANDI. -/
def execTAndi (d a : Fin 32) (imm : BitVec 16) (s : State) : Result := launched (actTAndi d a imm s)

/-- ORI. -/
def execTOri (d a : Fin 32) (imm : BitVec 16) (s : State) : Result := launched (actTOri d a imm s)

/-- XORI. -/
def execTXori (d a : Fin 32) (imm : BitVec 16) (s : State) : Result := launched (actTXori d a imm s)

/-- SHI. -/
def execTShi (d a : Fin 32) (kind : Fin 4) (n : Fin 32) (s : State) : Result := launched (actTShi d a kind n s)

/-- LUI. -/
def execTLui (d : Fin 32) (imm : BitVec 16) (s : State) : Result := launched (actTLui d imm s)

/-- CMPI. -/
def execTCmpi (a : Fin 32) (imm : BitVec 16) (s : State) : Result := launched (actTCmpi a imm s)

/-- TSTI. -/
def execTTsti (a : Fin 32) (imm : BitVec 16) (s : State) : Result := launched (actTTsti a imm s)

/-! ### `Machine/TaborFlow.lean` -/

/-- B. -/
def execTB (cond : Fin 16) (disp : BitVec 22) (s : State) : Result := launched (actTB cond disp s)

/-- CALL. -/
def execTCall (disp : BitVec 26) (s : State) : Result := launched (actTCall disp s)

/-- NOP. -/
def execTNop (s : State) : Result := launched (actTNop s)

/-- MFS. -/
def execTMfs (d : Fin 32) (n : BitVec 8) (s : State) : Result := launched (actTMfs d n s)

/-- MTS. -/
def execTMts (n : BitVec 8) (a : Fin 32) (s : State) : Result := launched (actTMts n a s)

/-- JR. -/
def execTJr (a : Fin 32) (s : State) : Result := launched (actTJr a s)

/-- CALLR. -/
def execTCallr (a : Fin 32) (s : State) : Result := launched (actTCallr a s)

/-- RET. -/
def execTRet (s : State) : Result := launched (actTRet s)

/-- RETE. -/
def execTRete (s : State) : Result := launched (actTRete s)

/-- TRAP. -/
def execTTrap (n : BitVec 8) (s : State) : Result := launched (actTTrap n s)

/-- WAIT. -/
def execTWait (s : State) : Result := launched (actTWait s)

/-- LOCK. -/
def execTLock (n : BitVec 8) (s : State) : Result := launched (actTLock n s)

/-- RPT. -/
def execTRpt (a : Fin 32) (n : BitVec 8) (s : State) : Result := launched (actTRpt a n s)

/-- ACCX. -/
def execTAccx (d : Fin 32) (n : BitVec 8) (s : State) : Result := launched (actTAccx d n s)

/-- MPUR. -/
def execTMpur (d : Fin 32) (w : BitVec 8) (s : State) : Result := launched (actTMpur d w s)

/-- MPUW. -/
def execTMpuw (w : BitVec 8) (a : Fin 32) (s : State) : Result := launched (actTMpuw w a s)

/-- ILLEGAL. -/
def execTIllegal (_word : BitVec 32) (s : State) : Result := launched (actTIllegal _word s)

/-! ### `Machine/TaborMem.lean` -/

/-- LDW. -/
def execTLdw (d a : Fin 32) (off : BitVec 16) (s : State) : Result := launched (actTLdw d a off s)

/-- LDH. -/
def execTLdh (d a : Fin 32) (off : BitVec 16) (s : State) : Result := launched (actTLdh d a off s)

/-- LDHU. -/
def execTLdhu (d a : Fin 32) (off : BitVec 16) (s : State) : Result := launched (actTLdhu d a off s)

/-- LDB. -/
def execTLdb (d a : Fin 32) (off : BitVec 16) (s : State) : Result := launched (actTLdb d a off s)

/-- LDBU. -/
def execTLdbu (d a : Fin 32) (off : BitVec 16) (s : State) : Result := launched (actTLdbu d a off s)

/-- LDD. -/
def execTLdd (d a : Fin 32) (off : BitVec 16) (s : State) : Result := launched (actTLdd d a off s)

/-- STW. -/
def execTStw (d a : Fin 32) (off : BitVec 16) (s : State) : Result := launched (actTStw d a off s)

/-- STH. -/
def execTSth (d a : Fin 32) (off : BitVec 16) (s : State) : Result := launched (actTSth d a off s)

/-- STB. -/
def execTStb (d a : Fin 32) (off : BitVec 16) (s : State) : Result := launched (actTStb d a off s)

/-- STD. -/
def execTStd (d a : Fin 32) (off : BitVec 16) (s : State) : Result := launched (actTStd d a off s)

/-- MOVS. -/
def execTMovs (s : State) : Result := launched (actTMovs s)

/-- FILLS. -/
def execTFills (a : Fin 32) (s : State) : Result := launched (actTFills a s)

/-- CMPS. -/
def execTCmps (s : State) : Result := launched (actTCmps s)

/-- OSR. -/
def execTOsr (a : Fin 32) (s : State) : Result := launched (actTOsr a s)

/-- OSW. -/
def execTOsw (a : Fin 32) (s : State) : Result := launched (actTOsw a s)

/-- ORD. -/
def execTOrd (d a : Fin 32) (s : State) : Result := launched (actTOrd d a s)

/-- OWR. -/
def execTOwr (d a : Fin 32) (s : State) : Result := launched (actTOwr d a s)

/-! ### `Machine/TaborEvents.lean` -/

/-- EVENT_DISPATCH. -/
def execEventDispatch (task : Fin 128) (latencyNs : Nat) (s : State) : Result := launched (actEventDispatch task latencyNs s)

/-- ACTIVATION_BUDGET_EXPIRY. -/
def execActivationBudgetExpiry (p : Fin 4) (s : State) : Result := launched (actActivationBudgetExpiry p s)

/-- FRAME_SHARE_SPENT. -/
def execFrameShareSpent (p : Fin 4) (s : State) : Result := launched (actFrameShareSpent p s)

/-- USER_PROGRAM_LOAD. -/
def execUserProgramLoad (port : Port) (p : Fin 4) (unreadable : List Nat) (s : State) : Result := launched (actUserProgramLoad port p unreadable s)

/-- USER_PROGRAM_START. -/
def execUserProgramStart (port : Port) (p : Fin 4) (s : State) : Result := launched (actUserProgramStart port p s)

/-- USER_PROGRAM_STOP. -/
def execUserProgramStop (port : Port) (p : Fin 4) (s : State) : Result := launched (actUserProgramStop port p s)

/-- USER_PROGRAM_UNLOAD. -/
def execUserProgramUnload (port : Port) (p : Fin 4) (s : State) : Result := launched (actUserProgramUnload port p s)

end Sys2Proof.Machine
end

