-- ==== Sys2Proof/Machine/MeaningsHost.lean ====
section
/-! DEFINITION. The meanings of the commands of the Kyodlink port (chapter 7), memory, rings and tasks (8): each command's own effect, then what follows it of itself (`Machine/Settle.lean`). -/

namespace Sys2Proof.Machine

/-! ### `Machine/Link.lean` -/

/-- DETECT_COMPLETE. -/
def execDetectComplete (signal : Nat) (s : State) : Result := settled (actDetectComplete signal s)

/-- EQUALISE_COMPLETE. -/
def execEqualiseComplete (s : State) : Result := settled (actEqualiseComplete s)

/-- ALIGN_COMPLETE. -/
def execAlignComplete (s : State) : Result := settled (actAlignComplete s)

/-- CONFIG_COMPLETE. -/
def execConfigComplete (s : State) : Result := settled (actConfigComplete s)

/-- TRAINING_PHASE_TIMEOUT. -/
def execTrainingPhaseTimeout (s : State) : Result := settled (actTrainingPhaseTimeout s)

/-- FAILED_TIMEOUT. -/
def execFailedTimeout (s : State) : Result := settled (actFailedTimeout s)

/-- RETRAIN_COMPLETE. -/
def execRetrainComplete (width : Nat) (s : State) : Result := settled (actRetrainComplete width s)

/-- RETRAIN_TIMEOUT. -/
def execRetrainTimeout (s : State) : Result := settled (actRetrainTimeout s)

/-- RETRAIN_REQUEST. -/
def execRetrainRequest (port : Port) (s : State) : Result := settled (actRetrainRequest port s)

/-- FULL_TRAINING_REQUEST. -/
def execFullTrainingRequest (port : Port) (s : State) : Result := settled (actFullTrainingRequest port s)

/-- KREF_LOSS. -/
def execKrefLoss (s : State) : Result := settled (actKrefLoss s)

/-- KREF_RETURN. -/
def execKrefReturn (s : State) : Result := settled (actKrefReturn s)

/-- FLIT_RECEIVED. -/
def execFlitReceived (bytes : List Nat) (corrected uncorrectable : Nat) (s : State) : Result := settled (actFlitReceived bytes corrected uncorrectable s)

/-- ACK_TIMEOUT. -/
def execAckTimeout (s : State) : Result := settled (actAckTimeout s)

/-- CPL. -/
def execCpl (tag status : Nat) (data : List Nat) (s : State) : Result := settled (actCpl tag status data s)

/-- MRD_COMPLETION_TIMEOUT. -/
def execMrdCompletionTimeout (tag : Nat) (s : State) : Result := settled (actMrdCompletionTimeout tag s)

/-- STREAM_SOURCES_WRITE. -/
def execStreamSourcesWrite (port : Port) (value : Nat) (s : State) : Result := settled (actStreamSourcesWrite port value s)

/-- STREAM_PACKET_FORMED. -/
def execStreamPacketFormed (source : Fin 17) (time : Nat) (dbOffset : Option Nat) (samples : List Sample) (s : State) : Result := settled (actStreamPacketFormed source time dbOffset samples s)

/-- HOLDOFF_EXPIRY. -/
def execHoldoffExpiry (v : Fin 320) (s : State) : Result := settled (actHoldoffExpiry v s)

/-- RAISE_USER_VECTOR. -/
def execRaiseUserVector (v : Nat) (s : State) : Result := settled (actRaiseUserVector v s)

/-- HOST_WINDOW_CLOSE_COMPLETE. -/
def execHostWindowCloseComplete (w : Fin 16) (s : State) : Result := settled (actHostWindowCloseComplete w s)

/-! ### `Machine/Inbound.lean` -/

/-- MRD. -/
def execMrd (tag len addr : Nat) (s : State) : Result := settled (actMrd tag len addr s)

/-- MWR. -/
def execMwr (addr : Nat) (data : List Nat) (s : State) : Result := settled (actMwr addr data s)

/-- ORQ. -/
def execOrq (tag orw : Nat) (data : List Nat) (s : State) : Result := settled (actOrq tag orw data s)

/-- DBELL. -/
def execDbell (n value : Nat) (s : State) : Result := settled (actDbell n value s)

/-- CFGRD. -/
def execCfgrd (tag offset : Nat) (s : State) : Result := settled (actCfgrd tag offset s)

/-! ### `Machine/Memory.lean` -/

/-- SCRUB_WORD. -/
def execScrubWord (found : Option EccErr) (s : State) : Result := settled (actScrubWord found s)

/-- PAGE_FILL_COMPLETE. -/
def execPageFillComplete (page : Nat) (data : List Nat) (s : State) : Result := settled (actPageFillComplete page data s)

/-- PAGE_FILL_FAILED. -/
def execPageFillFailed (page : Nat) (s : State) : Result := settled (actPageFillFailed page s)

/-- WRITE_BACK_COMPLETE. -/
def execWriteBackComplete (frame : Nat) (s : State) : Result := settled (actWriteBackComplete frame s)

/-- PREFETCH_ISSUE. -/
def execPrefetchIssue (engine : Fin 12) (s : State) : Result := settled (actPrefetchIssue engine s)

/-- PREFETCH_COMPLETE. -/
def execPrefetchComplete (page : Nat) (data : List Nat) (s : State) : Result := settled (actPrefetchComplete page data s)

/-- PREFETCH_STREAM_DEATH. -/
def execPrefetchStreamDeath (engine : Fin 12) (s : State) : Result := settled (actPrefetchStreamDeath engine s)

/-- TLB_INVALIDATE_PAGE. -/
def execTlbInvalidatePage (port : Port) (page : Nat) (s : State) : Result := settled (actTlbInvalidatePage port page s)

/-- TLB_INVALIDATE_ALL. -/
def execTlbInvalidateAll (port : Port) (s : State) : Result := settled (actTlbInvalidateAll port s)

/-- TLB_EVICT_PAGE. -/
def execTlbEvictPage (port : Port) (page : Nat) (s : State) : Result := settled (actTlbEvictPage port page s)

/-- PAGE_TABLE_BASE_WRITE. -/
def execPageTableBaseWrite (port : Port) (value : Nat) (s : State) : Result := settled (actPageTableBaseWrite port value s)

/-! ### `Machine/Tasks.lean` -/

/-- RING_OPEN. -/
def execRingOpen (port : Port) (n : Fin 256) (s : State) : Result := settled (actRingOpen port n s)

/-- RING_CLOSE. -/
def execRingClose (port : Port) (n : Fin 256) (s : State) : Result := settled (actRingClose port n s)

/-- RING_CLOSE_COMPLETE. -/
def execRingCloseComplete (n : Fin 256) (s : State) : Result := settled (actRingCloseComplete n s)

/-- RING_ACKNOWLEDGE_LINKLOSS. -/
def execRingAcknowledgeLinkloss (port : Port) (n : Fin 256) (s : State) : Result := settled (actRingAcknowledgeLinkloss port n s)

/-- RING_POP. -/
def execRingPop (port : Port) (n : Fin 256) (peek : Bool) (s : State) : Result := settled (actRingPop port n peek s)

/-- RING_PUSH. -/
def execRingPush (port : Port) (n : Fin 256) (data : List Nat) (s : State) : Result := settled (actRingPush port n data s)

/-- RING_INDEX_WRITE. -/
def execRingIndexWrite (port : Port) (n : Fin 256) (consumer : Bool) (value : Nat) (s : State) : Result := settled (actRingIndexWrite port n consumer value s)

/-- TASK_DISABLE. -/
def execTaskDisable (port : Port) (t : Fin 128) (control : Nat) (s : State) : Result := settled (actTaskDisable port t control s)

/-- TASK_ACTION_TPDO_DUE. -/
def execTaskActionTpdoDue (t : Fin 128) (s : State) : Result := settled (actTaskActionTpdoDue t s)

/-- TASK_ACTION_POST_RECORD. -/
def execTaskActionPostRecord (t : Fin 128) (s : State) : Result := settled (actTaskActionPostRecord t s)

/-- TASK_ACTION_LOG. -/
def execTaskActionLog (t : Fin 128) (s : State) : Result := settled (actTaskActionLog t s)

/-- TASK_ACTION_POWER_REQUEST. -/
def execTaskActionPowerRequest (t : Fin 128) (s : State) : Result := settled (actTaskActionPowerRequest t s)

end Sys2Proof.Machine
end

