-- ==== Sys2Proof/Machine/Nmt.lean ====
section
/-!
DEFINITION. The NMT states, the soft resets and the node-ID (R204 to R211, R235, R240; R93, Table 3.6): what a soft reset reloads and what it keeps, the
configuration of the lines, the resolution of the node-ID, and the boot-up message.
-/

namespace Sys2Proof.Machine

/-! ### The NMT state (R209) -/

/-- The heartbeat byte of an NMT state (R212). -/
def Nmt.byte : Nmt → Nat
  | .init => 0x00 | .stopped => 0x04 | .operational => 0x05 | .preOp => 0x7F

/-- The NMT state changes: event 495 and its record; PDOs stop or start with operational, and EMCYs that waited are sent (R223, R235). Leaving for stopped or
pre-operational withdraws due TPDOs and ends SDO and USDO transfers without an abort. -/
def setNmt (s : State) (n : Nmt) : State :=
  let old := s.can.nmt
  if old = n then s
  else
    let s := if old = .operational then stopPdos s (n == .stopped || n == .preOp) else s
    let s : State := { s with can := { s.can with nmt := n } }
    let s := if n = .operational then freshPdos s else s
    let s : State := if n = .operational && s.update.windowOpen then
        { s with update := { s.update with healthReached := s.update.healthReached ||| 2 } }
      else s
    emcyDrainAll 17 (raise (logVerbose s 0 0 old.byte n.byte) 495)

/-- A transfer in progress ends without an abort frame; a request already accepted continues to its end (R235). -/
def endTransfers (s : State) : State :=
  let s : State := { s with can := { s.can with
    sdo := (match s.can.sdo with
      | .awaiting i sub ok => .awaiting i sub ok
      | _ => .idle)
    usdo := [] } }
  s.set 0x2025 6 0

/-! ### The lines' configuration (R198, R199, R202, R240) -/

/-- A line starts or stops with a change of its bit timing or its use; else it keeps its state and its error counters. -/
def configureLine (s : State) (l : Line) (changed : Bool) : State :=
  if !s.lineInUse l then ((s.set l.index 1 0).set l.index 2 0).set l.index 3 0
  else if changed || s.lineState l = 0 then ((s.set l.index 1 1).set l.index 2 0).set l.index 3 0
  else s

/-- The staged objects of 0x2020 take effect (R198). A rate that LSS activated stays in force unless 0x2020:01 was written since. -/
def configureLines (s : State) (hard : Bool) : State :=
  let rate := s.inForce 0x2020 1
  let data := s.inForce 0x2020 2
  let keep := !hard && (s.can.lss.kept == some (s.get 0x2020 1))
  let s := s.takeInForce 0x2020 1 8
  let s : State := if keep then s.setInForce 0x2020 1 rate
    else { s with can := { s.can with lss := { s.can.lss with kept := none } } }
  let changed := hard || s.inForce 0x2020 1 ≠ rate || s.inForce 0x2020 2 ≠ data
  let s := configureLine (configureLine s .A changed) .B changed
  let p := if s.inForce 0x2020 4 = 0 then Line.A else Line.B
  let mode := s.inForce 0x2020 3
  let active := if mode = 0 then Line.A else if mode = 1 then Line.B else if s.lineInUse p then p else p.other
  let s := s.set 0x2025 1 active.code
  refreshErrors (s.set 0x2025 2 s.syncSource.code)

/-! ### The node-ID (R204, R208) -/

/-- The node-ID that resolution finds, and its source. -/
def State.foundNode (s : State) : Nat × Nat :=
  let kept := s.get 0x2021 3
  let strap := s.get 0x2021 2 + s.nodeBase
  if s.can.lss.nodeSet then (s.get 0x2021 5, 2)
  else if 1 ≤ kept && kept ≤ 127 then (kept, 1)
  else if 1 ≤ strap && strap ≤ 127 then (strap, 0)
  else (0xFF, 3)

/-- The slot in force, or the image being written, holds a value of an object. -/
def State.holdsRecord (s : State) (i sub : Nat) : Bool := s.reloadRecords.any (fun r => r.index == i && r.sub == sub)

/-- An identifier that holds its predefined value follows the node-ID from one offset to another (R208). Where no node-ID was in force, a value from the store is
no predefined one: it keeps its value. The recovery loader takes no COB-ID from the store (R685). -/
def followNode (old new : Nat) (s : State) (o : Nat × Nat) : State :=
  let v := s.get o.1 o.2
  let base := bits (odDefault o.1 o.2) 0 11
  let stored := old == 0 && !s.update.loader && s.holdsRecord o.1 o.2
  if bits v 0 11 = base + old && !stored then s.set o.1 o.2 (v - (base + old) + (base + new)) else s

/-- The resolution of R204: the pending value is consumed, NODEID_RANGE is set and logged where nothing applies, and identifiers follow. -/
def resolveNode (s : State) : State :=
  let r := s.foundNode
  let old := s.nodeOffset
  let s := ((s.set 0x2021 4 r.1).set 0x2021 5 0xFF).set 0x2021 6 r.2
  let s : State := { s with can := { s.can with lss := { s.can.lss with nodeSet := false } } }
  let s := if r.2 = 3 then
      (if s.flag 0x2021 7 0 then s else logCondition (s.setFlag 0x2021 7 0 true) 0x2021 7 0 true 0)
    else s.setFlag 0x2021 7 0 false
  nodeObjects.foldl (followNode old s.nodeOffset) s

/-- The boot-up message waits for transmission (R29, R240); an unconfigured device sends none (R205). -/
def sendBootUp (s : State) : State :=
  if s.nodeId = 0xFF then s else enqueueTx s .bootUp (classic (0x700 + s.nodeId) [0])

/-! ### What a reload takes (R93) -/

/-- An object is reloaded by a soft reset: a configuration object, unless its value is held where no reset reaches it. -/
def reloadable (i sub : Nat) : Bool :=
  i != 0x1003 && i != 0x2101 && i != 0x2102 &&
    (match descOf i sub with
     | some d => d.writable && (d.per == .S || d.per == .U || d.per == .H)
     | none => false)

/-- A phase group serves an enabled rail. -/
def State.groupInUse (s : State) (g : Nat) : Bool := (List.range 16).any (fun p => s.get (0x4000 + p) 4 == g && s.phaseInUse p)

/-- An object of 0x2000 to 0x5FFF is live-locked at this moment (R157), the tables apart that a reset application itself closes: rings, windows and routing opened
through C or K, and the rings of user programs. -/
def State.liveLocked (s : State) (i sub : Nat) : Bool :=
  if i = 0x2024 then s.pdoValid 0x1800 (sub - 1)
  else if i = 0x2026 then bit (s.get i sub) 32
  else if 0x2400 ≤ i && i ≤ 0x24FF then
    let r := s.sched.ring (i - 0x2400)
    sub == 1 && r.isOpen && r.opener != 1 && r.opener != 2 && r.owner == 0
  else if i = 0x2034 then s.openElsewhere i (3 * ((sub - 1) / 3) + 3)
  else if i = 0x2035 then s.openElsewhere i (2 * ((sub - 1) / 2) + 2)
  else if 0x2610 ≤ i && i ≤ 0x2619 then s.openElsewhere i sub
  else if 0x2500 ≤ i && i ≤ 0x257F then decide (sub ≤ 5) && bit (s.get i 6) 0
  else if i = 0x3240 then decide (2 ≤ sub) && s.prearmed
  else if 0x4000 ≤ i && i ≤ 0x400F then (sub == 1 || sub == 2 || sub == 4) && s.phaseInUse (i - 0x4000)
  else if 0x4010 ≤ i && i ≤ 0x401F then decide (sub ≠ 2) && (s.rail (i - 0x4010)).enabled
  else if i = 0x4021 then (s.rail (sub - 1)).enabled
  else if 0x4024 ≤ i && i ≤ 0x4027 then (sub == 1 || sub == 2 || sub == 4) && s.groupInUse (i - 0x4024)
  else if 0x4420 ≤ i && i ≤ 0x4423 then (sub == 1 || sub == 2 || sub == 4) && decide (s.get i 1 ≠ 0) && decide (s.get i 20 ≠ 0)
  else false

/-- A value that an NMT reset application keeps (R93). -/
def State.keptLive (s : State) (i sub : Nat) : Bool :=
  s.liveLocked i sub
    || (decide (0x4010 ≤ i) && decide (i ≤ 0x401F) && sub == 2)
    || (decide (0x4100 ≤ i) && decide (i ≤ 0x410F) && (s.rail (i - 0x4100)).enabled)
    || (i == 0x4200 && sub == 3) || (decide (0x4201 ≤ i) && decide (i ≤ 0x4204)) || i == 0x4300
    || (decide (0x4420 ≤ i) && decide (i ≤ 0x4423) && sub == 3)

/-- A listed value is returned by a reload of the objects up to `hi`. -/
def State.reloads (s : State) (hi i sub : Nat) : Bool :=
  decide (0x1000 ≤ i) && decide (i ≤ hi) && reloadable i sub && (decide (i < 0x2000) || !s.keptLive i sub)

/-- The values of the objects up to `hi` return to stored or default values. Identifiers that follow the node-ID take its present one. -/
def reloadObjects (s : State) (hi : Nat) : State :=
  let back := s.reloads hi
  let records := s.reloadRecords.filter (fun r => back r.index r.sub)
  let s : State := { s with od := s.od.filter (fun e => !back (e.1 / 256) (e.1 % 256)) }
  let s := nodeObjects.foldl (fun t o => t.set o.1 o.2 (t.defaultNow o.1 o.2)) s
  records.foldl takeRecord s

/-- 0x1006 reloaded with a value that breaks R119 is loaded as 0, with EMCY 0xFF10 (R129). -/
def checkPeriod (s : State) : State :=
  if s.periodFits (s.get 0x1006 0) then s else emcy (s.set 0x1006 0 0) 0xFF10 0

/-- A task whose ENABLE a reload changed starts with nothing pending. -/
def taskReloaded (was : List Nat) (s : State) (t : Nat) : State :=
  if was.contains t == bit (s.get (0x2500 + t) 6) 0 then s
  else { s with sched := { s.sched.setTask t Task.reset with ready := s.sched.ready.filter (fun x => x != t) } }

/-- What the values that a reload changed set off, as a write of each would. -/
def reloadEffects (old s : State) : State :=
  let s := (List.range 4).foldl (fun t c => if t.get (fanObj c) 1 = old.get (fanObj c) 1 then t else refreshFan t c) s
  let s := (List.range 8).foldl (fun t n => if t.get (tsObj n) 1 = old.get (tsObj n) 1 then t else tsModeChanged t n) s
  let s : State := if s.get 0x3202 5 = old.get 0x3202 5 then s
    else (let t := staleAll s; { t with touch := { t.touch with hvChanging := true } })
  let s := if bits (s.get 0x2200 1) 10 12 = bits (old.get 0x2200 1) 10 12 then s else tlbCommand s 2 0
  let s := (List.range 128).foldl (taskReloaded old.enabledTasks) s
  let s := (List.range 10).foldl (fun t k => writeMask (t.set 0x2622 (k + 1) (old.get 0x2622 (k + 1))) (k + 1) (t.get 0x2622 (k + 1))) s
  let s := if s.get 0x4800 1 = old.get 0x4800 1 then s else logPolicyChanged s
  resolvePhaseSets (refreshEmergency s)

/-! ### NMT reset communication (R235) -/

/-- The last soft reset is recorded (Table 3.11, SOFT). -/
def recordSoft (s : State) (n : Nat) : State := { s with aocb := { s.aocb with cause := { s.aocb.cause with soft := n } } }

/-- Every session and queue of the port empties, without counting. -/
def emptyPort (s : State) : State :=
  let s : State := { s with can := { s.can with
    consumers := List.replicate 8 .idle, emcyQ := [], emcyInhibit := false, txq := [], window := false, sdo := .idle, usdo := []
    tpdos := List.replicate 64 Tpdo.reset, rpdos := List.replicate 64 Rpdo.reset } }
  s.set 0x2025 6 0

/-- VERIFIED is lost at every soft reset (R679). -/
def loseVerified (s : State) : State :=
  (List.range 5).foldl (fun t k => if (t.target (k + 1)).stage = .verified then setStage t (k + 1) .complete 0 else t) s

/-- A soft reset loses the bytes of a block in progress (R676). A CAN session's download ends: committed blocks stay, the stage becomes PARTIAL and the port
keeps ownership (R691). -/
def endCanDownload (s : State) : State :=
  match s.update.session with
  | some x =>
    let s : State := { s with update := { s.update with session := some { x with block := [] } } }
    if x.port = 0 && (s.target x.sub).stage = .downloading then setStage s x.sub .partial_ 0 else s
  | none => s

/-- What both soft resets begin their restart of the port with: NMT initialisation, 0x1006 and the lines' configuration. -/
def portRestart (s : State) : State := configureLines (checkPeriod (setNmt s .init)) false

/-- The boot-up message that ends a restart of the port. -/
def portReady (s : State) : State := sendBootUp (s.setFlag 0x2021 7 1 false)

/-- NMT reset communication. The recovery loader, which serves it to LSS alone, has no dictionary to reload (R685). -/
def resetCommunication (s : State) : State :=
  if s.inLoader then sendBootUp (resolveNode (setNmt (loseVerified (endCanDownload (emptyPort s))) .init))
  else portReady (resolveNode (portRestart (reloadObjects (loseVerified (endCanDownload (emptyPort (recordSoft s 2)))) 0x1FFF)))

/-! ### NMT reset application (R93, Table 3.6) -/

/-- VERIFIED is lost and ownership ends (R679, R691): a download under way stays PARTIAL, and may be resumed. -/
def endOwnership (s : State) : State :=
  let s := (List.range 5).foldl (fun t k => if (t.target (k + 1)).stage = .downloading then setStage t (k + 1) .partial_ 0 else t) (loseVerified s)
  { s with update := { s.update with session := none } }

/-- The host windows opened through C or K close (R276); one to which reads are outstanding waits for those reads. -/
def closeWindows (s : State) : State :=
  let shut := (List.range 16).filter (fun w => bit (s.windowAttr w) 15 && !s.openElsewhere 0x2034 (3 * w + 3))
  let s := shut.foldl (fun t w => windowCloses (t.set 0x2034 (3 * w + 3) (clearBit (t.windowAttr w) 15)) w) s
  let busy := shut.filter (fun w => s.link.tags.any (fun x => x.window == w))
  { s with link := { s.link with closing := s.link.closing ++ busy.map (fun w => (w, Asker.none)) } }

/-- NMT reset application: vector 256 at its start; rings and windows of C and K close; programs are stopped, unloaded and started again. The node-ID in force
stays: only NMT reset communication and a hard reset resolve it (R28, R204). -/
def resetApplication (s : State) : State :=
  let s := raiseReset (recordSoft s 1)
  let s := endOwnership (endCanDownload (emptyPort s))
  let s := closeWindows (closeRingsOf (closeRingsOf s 1) 2)
  let s : State := { s with store := { s.store with staging := [], query := [0, 0, 0, 0] } }
  let s := reloadEffects s (reloadObjects s 0x5FFF)
  portReady (portRestart (restartPrograms s))

/-! ### The NMT commands (R107, R205, R209) -/

/-- The same NMT command came on the other line within the duplicate window (R235). -/
def State.nmtCopy (s : State) (command : Nat) (line : Line) (node timeNs : Nat) : Bool :=
  match s.can.nmtSeen with
  | some e => s.lineInUse .A && s.lineInUse .B && e.line == line.other && e.command == command && e.node == node
      && decide (timeNs - e.time ≤ 1000 * s.inForce 0x2020 5)
  | none => false

/-- An NMT command addressed to 0 or to the node-ID in force is carried out, after the boot-up message, and once when its copies on the two lines fall within the
duplicate window; an unconfigured device serves LSS only. -/
def nmtCommand (s : State) (command : Nat) (line : Line) (node timeNs : Nat) (f : State → State) : State :=
  let s := fifoTake s (fun e => e == (line, .nmt))
  if s.up && s.lineRuns line && s.can.nmt ≠ .init && s.nodeId ≠ 0xFF && (node = 0 || node = s.nodeId) && !s.nmtCopy command line node timeNs then
    f { s with can := { s.can with nmtSeen := some ⟨line, command, node, timeNs⟩ } }
  else s

/-- NMT_START_REMOTE_NODE (R209). -/
def actNmtStartRemoteNode (line : Line) (node timeNs : Nat) (s : State) : State :=
  nmtCommand s 1 line node timeNs (fun t => setNmt t .operational)

/-- NMT_STOP_REMOTE_NODE (R209, R235). -/
def actNmtStopRemoteNode (line : Line) (node timeNs : Nat) (s : State) : State :=
  nmtCommand s 2 line node timeNs (fun t => setNmt (endTransfers t) .stopped)

/-- NMT_ENTER_PRE_OPERATIONAL (R209, R235). -/
def actNmtEnterPreOperational (line : Line) (node timeNs : Nat) (s : State) : State :=
  nmtCommand s 128 line node timeNs (fun t => setNmt (endTransfers t) .preOp)

/-- NMT_RESET_APPLICATION (R93). -/
def actNmtResetApplication (line : Line) (node timeNs : Nat) (s : State) : State := nmtCommand s 129 line node timeNs resetApplication

/-- NMT_RESET_COMMUNICATION (R235). -/
def actNmtResetCommunication (line : Line) (node timeNs : Nat) (s : State) : State := nmtCommand s 130 line node timeNs resetCommunication

end Sys2Proof.Machine
end

