-- ==== Sys2Proof/Machine/Lss.lean ====
section
/-!
DEFINITION. The LSS services (R205 to R207, Table 6.3, CiA 305).
-/

namespace Sys2Proof.Machine

/-- Part k of the LSS address: vendor, product, revision, serial number (R206). -/
def State.identity (s : State) (k : Nat) : Nat := readValue s 0x1018 (k + 1)

/-- The port serves LSS: its controllers run. In the configuration state only, where `config` asks for it. -/
def lssServed (s : State) (config : Bool) (f : State → State) : State :=
  let s := served s .lss
  (if s.canRuns && (!config || s.can.lss.configuring) then f s else s)

/-- The LSS state replaced. -/
def State.setLss (s : State) (l : Lss) : State := { s with can := { s.can with lss := l } }

/-- LSS switches the device to its configuration state (1) or back to waiting (0). A device that was unconfigured and was given a node-ID then performs NMT
reset communication (R205). -/
def lssSwitch (s : State) (mode : Nat) : State :=
  let was := s.can.lss.configuring
  if mode = 1 then s.setLss { s.can.lss with configuring := true }
  else if mode = 0 then
    let s := s.setLss { s.can.lss with configuring := false }
    if was && s.nodeId = 0xFF && s.can.lss.nodeSet && s.get 0x2021 5 ≠ 0xFF then resetCommunication s else s
  else s

/-- LSS_SWITCH_STATE_GLOBAL (R206). -/
def actLssSwitchStateGlobal (mode : Nat) (s : State) : State := lssServed s false (fun t => lssSwitch t mode)

/-- LSS_SWITCH_STATE_SELECTIVE (R206): all four parts of the address match. -/
def actLssSwitchStateSelective (line : Line) (vendor product revision serial : Nat) (s : State) : State :=
  lssServed s false (fun t =>
    if vendor = t.identity 0 && product = t.identity 1 && revision = t.identity 2 && serial = t.identity 3 then
      lssSend (t.setLss { t.can.lss with configuring := true }) line.code [0x44]
    else t)

/-- LSS_CONFIGURE_NODE_ID (R28): 1 to 127 or 0xFF becomes pending; anything else answers error code 1. -/
def actLssConfigureNodeId (line : Line) (node : Nat) (s : State) : State :=
  lssServed s true (fun t =>
    if (1 ≤ node && node ≤ 127) || node = 0xFF then
      lssSend ((t.set 0x2021 5 node).setLss { t.can.lss with nodeSet := true }) line.code [0x11, 0, 0]
    else lssSend t line.code [0x11, 1, 0])

/-- The nominal rate of a table index (Table 6.3). -/
def lssRate (table index : Nat) : Option Nat :=
  if table ≠ 0 then none
  else
    match index with
    | 0 => some 1000
    | 2 => some 500
    | 3 => some 250
    | 4 => some 125
    | _ => none

/-- LSS_CONFIGURE_BIT_TIMING (R206): a rate that R197 refuses beside the data rate in force answers error code 1 like any other combination. -/
def actLssConfigureBitTiming (line : Line) (table index : Nat) (s : State) : State :=
  lssServed s true (fun t =>
    match lssRate table index with
    | some r =>
      if t.fdOn && r < 500 then lssSend t line.code [0x13, 1, 0]
      else lssSend (t.setLss { t.can.lss with rate := some r }) line.code [0x13, 0, 0]
    | none => lssSend t line.code [0x13, 1, 0])

/-- LSS_ACTIVATE_BIT_TIMING (R206): the nominal rate switches; the data rate and the controllers' counters stay. The delay is time, which the model leaves to
its surroundings. -/
def actLssActivateBitTiming (_delayMs : Nat) (s : State) : State :=
  lssServed s true (fun t =>
    match t.can.lss.rate with
    | some r => (t.setInForce 0x2020 1 r).setLss { t.can.lss with kept := some (t.get 0x2020 1) }
    | none => t)

/-- LSS_STORE_CONFIGURATION (R207): a store of the node-ID and the nominal rate; the answer comes with its end, or at once where it is refused. -/
def actLssStoreConfiguration (line : Line) (s : State) : State :=
  lssServed s true (fun t =>
    let node := if t.can.lss.nodeSet then t.get 0x2021 5 else t.nodeId
    match beginLssStore t line.code node (t.can.lss.rate.getD (t.inForce 0x2020 1)) with
    | (u, some _) => lssSend u line.code [0x17, 2, 0]
    | (u, none) => u)

/-- LSS_INQUIRE_IDENTITY (R206). -/
def actLssInquireIdentity (line : Line) (part : Fin 4) (s : State) : State :=
  lssServed s true (fun t => lssSend t line.code ((0x5A + part.val) :: toLE 4 (t.identity part.val)))

/-- LSS_INQUIRE_NODE_ID (R206). -/
def actLssInquireNodeId (line : Line) (s : State) : State := lssServed s true (fun t => lssSend t line.code [0x5E, t.nodeId])

/-- LSS_IDENTIFY_REMOTE_SLAVE (R206): the address lies in the given range. -/
def actLssIdentifyRemoteSlave (line : Line) (vendor product revLow revHigh serLow serHigh : Nat) (s : State) : State :=
  lssServed s false (fun t =>
    if vendor = t.identity 0 && product = t.identity 1 && revLow ≤ t.identity 2 && t.identity 2 ≤ revHigh && serLow ≤ t.identity 3
        && t.identity 3 ≤ serHigh then lssSend t line.code [0x4F]
    else t)

/-- LSS_IDENTIFY_NON_CONFIGURED (R206). -/
def actLssIdentifyNonConfigured (line : Line) (s : State) : State :=
  lssServed s false (fun t => if t.nodeId = 0xFF then lssSend t line.code [0x50] else t)

/-- One step of fastscan on an unconfigured device (CiA 305): bit check 0x80 begins a scan; else the address part in turn is compared from the bit given
upwards, and the last bit of the last part enters the configuration state. -/
def fastscan (s : State) (line idNumber bitCheck lssSub lssNext : Nat) : State :=
  let l := s.can.lss
  if s.nodeId ≠ 0xFF || l.nodeSet || l.configuring then s
  else if bitCheck = 0x80 then lssSend (s.setLss { l with matched := 0 }) line [0x4F]
  else if 31 < bitCheck || 3 < lssSub || 3 < lssNext || lssSub ≠ l.matched then s
  else if s.identity lssSub >>> bitCheck ≠ idNumber >>> bitCheck then s
  else
    let found := bitCheck = 0 && lssNext < lssSub
    lssSend (s.setLss { l with matched := lssNext, configuring := found }) line [0x4F]

/-- LSS_FASTSCAN (R206). -/
def actLssFastscan (line : Line) (idNumber bitCheck lssSub lssNext : Nat) (s : State) : State :=
  lssServed s false (fun t => fastscan t line.code idNumber bitCheck lssSub lssNext)

end Sys2Proof.Machine
end

