-- ==== Sys2Proof/Machine/CanPort.lean ====
section
/-!
DEFINITION. Frames as they come and go on the two lines (R196 to R203, R214, R233 to R240): acceptance, duplicates, dispatch, receive copies, error counters,
bus-off, silence, transmission, heartbeat, TIME and the EMCY inhibit time.
-/

namespace Sys2Proof.Machine

/-! ### Error counters and line states (R201, R236, ISO 11898-1) -/

/-- The transmit and receive error counters of a line. -/
def State.txErrors (s : State) (l : Line) : Nat := s.get l.index 2

/-- The receive error counter of a line. -/
def State.rxErrors (s : State) (l : Line) : Nat := s.get l.index 3

/-- A line whose counters have fallen is ERROR_ACTIVE again. -/
def lineEases (s : State) (l : Line) : State :=
  if s.lineState l = 2 && s.txErrors l ≤ 127 && s.rxErrors l ≤ 127 then setLine s l 1 else s

/-- A line has become faulty: heartbeats do not wait for it, and with every line in use faulty windowed TPDOs are withdrawn (R237). -/
def lineFails (s : State) : State :=
  let gone := fun (f : TxFrame) =>
    if f.kind == .heartbeat then
      { f with lineA := f.lineA && !s.lineFaulty .A, lineB := f.lineB && !s.lineFaulty .B }
    else f
  let s : State := { s with can := { s.can with txq := (s.can.txq.map gone).filter (fun f => f.lineA || f.lineB) } }
  if s.allFaulty then withdraw s (fun _ => true) else s

/-- Bus-off (R236): counted; EMCY 0xFF31 goes out on the other line, if one is in use. -/
def busOff (s : State) (l : Line) : State :=
  let s := lineFails (setLine (s.count l.index 4) l 3)
  if s.lineInUse l.other then emcy s 0xFF31 l.code else s

/-- An error frame: the counter of its direction grows; above 127 the line is ERROR_PASSIVE, and a transmit counter above 255 is bus-off. -/
def errorDetected (s : State) (l : Line) (transmitting : Bool) (inc : Nat) : State :=
  let sub := if transmitting then 2 else 3
  let v := s.get l.index sub + inc
  let s := (s.count l.index 7).set l.index sub (satNat 8 v)
  if transmitting && 255 < v then busOff s l
  else if s.lineState l = 1 && 127 < v then emcy (setLine s l 2) 0x8120 l.code
  else s

/-- CAN_ERROR_DETECTED (R236). -/
def actCanErrorDetected (line : Line) (transmitting : Bool) (inc : Nat) (s : State) : State :=
  (if s.lineRuns line then errorDetected s line transmitting inc else s)

/-- BUS_OFF_RECOVERY_DELAY_EXPIRY (R236). -/
def actBusOffRecoveryDelayExpiry (line : Line) (s : State) : State :=
  (if s.canRuns && s.lineState line = 3 then setLine s line 4 else s)

/-- BUS_OFF_RECOVERY_COMPLETE (R236): ERROR_ACTIVE with counters at 0, and EMCY 0x8140. -/
def actBusOffRecoveryComplete (line : Line) (s : State) : State :=
  (if s.canRuns && s.lineState line = 4 then
      emcy (setLine ((s.set line.index 2 0).set line.index 3 0) line 1) 0x8140 line.code
    else s)

/-- LINE_SILENT (R201, R239): with both lines in use. -/
def actLineSilent (line : Line) (s : State) : State :=
  (if s.canRuns && s.lineInUse .A && s.lineInUse .B && (s.lineState line = 1 || s.lineState line = 2) then
      emcy (lineFails (setLine s line 5)) 0xFF31 line.code
    else s)

/-! ### Acceptance (R200, R214, R233, R238) -/

/-- The identifiers that the device itself sends on, as R238 names them. -/
def State.ownIds (s : State) : List Nat :=
  let emcyId := s.get 0x1014 0
  [0x700 + s.nodeId, bits (s.get 0x1200 2) 0 11] ++ (if bit emcyId 31 then [] else [bits emcyId 0 11])
    ++ (s.validPdos 0x1800).map (fun n => bits (s.get (0x1800 + n) 1) 0 11)

/-- NODEID_CONFLICT (R238). -/
def noteConflict (s : State) (id : Nat) : State :=
  if s.nodeId ≠ 0xFF && !s.flag 0x2021 7 1 && s.ownIds.contains id then logCondition (s.setFlag 0x2021 7 1 true) 0x2021 7 1 true 0 else s

/-- The SYNC identifier. -/
def State.syncId (s : State) : Nat := bits (s.get 0x1005 0) 0 11

/-- The service a frame belongs to. -/
def State.service (s : State) (f : CanFrame) : Service :=
  if f.id = 0 then (if f.data.length = 2 then .nmt else .none)
  else if f.id = 0x7E5 then .lss
  else if f.id = s.syncId then (if f.data.length ≤ 1 then .sync else .none)
  else if f.id = bits (s.get 0x1012 0) 0 11 then .time
  else if f.id = bits (s.get 0x1200 1) 0 11 then .sdo
  else if 0x700 < f.id && f.id < 0x780 && f.data.length = 1 then .heartbeat (f.id - 0x700)
  else
    match ((List.range 64).filter (fun n => s.pdoValid 0x1400 n && bits (s.get (0x1400 + n) 1) 0 11 == f.id)).head? with
    | some n => .rpdo n
    | none => .none

/-- A heartbeat arms every consumer entry of its node (R213). -/
def heartbeatSeen (s : State) (node : Nat) : State :=
  if s.can.nmt = .init then s
  else
    let hit := fun (k : Nat) => let w := s.get 0x1016 (k + 1); bits w 16 8 == node && bits w 0 16 != 0
    refreshErrors { s with can := { s.can with consumers := s.can.consumers.mapIdx (fun k c => if hit k then .armed else c) } }

/-- A received-frame copy (Table 6.8). -/
def copyRecord (s : State) (l : Line) (f : CanFrame) (timeNs : Nat) : List Nat :=
  let flags := 128 * l.code + 64 * b2n f.fd + 32 * b2n f.brs + 16 * b2n f.esi
  toLE 4 (timeNs / 1000) ++ toLE 2 f.id ++ [flags, f.data.length] ++ (f.data ++ List.replicate 64 0).take 64 ++ toLE 6 s.frame ++ [0, 0]

/-- The frame is copied by the lowest-numbered filter that matches (R233). -/
def copyFrame (s : State) (l : Line) (f : CanFrame) (timeNs : Nat) : State :=
  let hit := (List.range 8).filter (fun k =>
    let w := s.get 0x2026 (k + 1)
    bit w 32 && (f.id &&& bits w 16 11) == (bits w 0 11 &&& bits w 16 11))
  match hit.head? with
  | some k => ringProduce s (bits (s.get 0x2026 (k + 1)) 56 8) (copyRecord s l f timeNs)
  | none => s

/-- The other line gave the same frame within the duplicate window (R200). -/
def State.seenOnOther (s : State) (l : Line) (f : CanFrame) (timeNs : Nat) : Bool :=
  s.lineInUse .A && s.lineInUse .B && s.can.seen.any (fun e => e.line == l.other && e.id == f.id && e.data == f.data
    && decide (timeNs - e.time ≤ 1000 * s.inForce 0x2020 5))

/-- The frame is a duplicate (R200). The SYNC of the source line is none while a copy of the other line only waits to stand for it (R216). -/
def State.duplicate (s : State) (l : Line) (f : CanFrame) (timeNs : Nat) : Bool :=
  s.seenOnOther l f timeNs && !(f.id == s.syncId && l == s.syncSource && s.can.otherSync.isSome)

/-- The frame goes to its service: a heartbeat at once, any other waits in the line's receive FIFO for its service's command. -/
def dispatchFrame (s : State) (l : Line) (f : CanFrame) : State :=
  match s.service f with
  | .heartbeat n => heartbeatSeen s n
  | .none => if f.id = s.syncId && f.id ≠ 0 then emcy s 0x8240 l.code else s
  | x => { s with can := { s.can with fifo := s.can.fifo ++ [(l, x)] } }

/-- A good frame in the controller: counted, the receive counter falls, and a SILENT line is back. -/
def frameCounts (s : State) (l : Line) : State :=
  let r := s.rxErrors l
  let s := s.count l.index 5
  let s := if r > 127 then (s.set l.index 3 (119 + Config.choice s.draws % 9)).draw else s.set l.index 3 (r - 1)
  if s.lineState l = 5 then setLine s l 1 else lineEases s l

/-- A frame accepted on a line. -/
def frameAccepted (s : State) (l : Line) (f : CanFrame) (timeNs : Nat) : State :=
  let s := noteConflict (frameCounts s l) f.id
  let recent := s.can.seen.filter (fun e => decide (timeNs - e.time ≤ 1000 * s.inForce 0x2020 5))
  if s.duplicate l f timeNs then
    ({ s with can := { s.can with seen := recent } } : State).count l.index 8
  else
    let again := s.seenOnOther l f timeNs
    let s : State := { s with can := { s.can with seen := recent ++ [⟨l, f.id, f.data, timeNs⟩] } }
    dispatchFrame (if again then s else copyFrame s l f timeNs) l f

/-- The receive FIFO of a line is full: 64 frames (Table 6.5). -/
def State.fifoFull (s : State) (l : Line) : Bool := decide (64 ≤ (s.can.fifo.filter (fun e => e.1 == l)).length)

/-- CAN_FRAME_ACCEPTED (R200): in classic operation an FD frame is not accepted (R197); one that finds the receive FIFO full is lost (EMCY 0x8110, R326). -/
def actCanFrameAccepted (line : Line) (frame : CanFrame) (timeNs : Nat) (s : State) : State :=
  (if !s.lineRuns line || (frame.fd && !s.fdOn) then s
    else if s.fifoFull line then emcy s 0x8110 line.code
    else frameAccepted s line frame timeNs)

/-! ### Transmission (R230, R211) -/

/-- What the first completion of a frame does. -/
def frameSent (s : State) (k : TxKind) (data : List Nat) : State :=
  match k with
  | .emcy => raise s 504
  | .tpdo n _ => s.setTpdo n { s.tpdo n with lastSent := some data, timed := false, inhibit := decide (s.get (0x1800 + n) 3 ≠ 0) }
  | .bootUp => if s.can.nmt = .init then setNmt s .preOp else s
  | _ => s

/-- The mapped values in a TPDO's frame: its data less the padding. -/
def State.sentValues (s : State) (k : TxKind) (data : List Nat) : List Nat :=
  match k with
  | .tpdo n _ => data.take (mapLength (s.mapping (0x1A00 + n)))
  | _ => data

/-- A frame is not sent at present: the SYNC guard holds it (R220), or every line in use is faulty and it is a TPDO or a heartbeat (R237). -/
def State.mayNotSend (s : State) (f : TxFrame) : Bool :=
  f.held || (s.allFaulty && (match f.kind with
    | .heartbeat | .tpdo _ _ => true
    | _ => false))

/-- A transmission has ended well on a line. -/
def transmitted (s : State) (l : Line) (pos : Nat) : State :=
  match s.can.txq[pos]? with
  | none => s
  | some f =>
    if !(match l with | .A => f.lineA | .B => f.lineB) || s.mayNotSend f then s
    else
      let g := { f with lineA := f.lineA && l != .A, lineB := f.lineB && l != .B, sent := true }
      let q := if g.lineA || g.lineB then s.can.txq.set pos g else s.can.txq.eraseIdx pos
      let s : State := { s with can := { s.can with txq := q } }
      let s := (s.count l.index 6).set l.index 2 (s.txErrors l - 1)
      let s := lineEases s l
      if f.sent then s else frameSent s f.kind (s.sentValues f.kind f.frame.data)

/-- CAN_TRANSMIT_COMPLETE (R230): the frame at a position of those that wait. -/
def actCanTransmitComplete (line : Line) (pos : Nat) (s : State) : State :=
  (if s.lineRuns line then transmitted s line pos else s)

/-! ### Heartbeat, TIME, EMCY (R212, R213, R221, R223) -/

/-- HEARTBEAT_PRODUCE (R212, R205, R237). The recovery loader's comes every 1,000 ms (R685). -/
def actHeartbeatProduce (s : State) : State :=
  (if !s.canRuns || s.can.nmt = .init || s.nodeId = 0xFF || s.allFaulty || (!s.inLoader && s.get 0x1017 0 = 0) then s
    else enqueueTx s .heartbeat (classic (0x700 + s.nodeId) [s.can.nmt.byte]))

/-- HEARTBEAT_CONSUMER_EXPIRY (R213). -/
def actHeartbeatConsumerExpiry (n : Fin 8) (s : State) : State :=
  (if s.canRuns && nth s.can.consumers n.val .idle = .armed then
      let s : State := { s with can := { s.can with consumers := s.can.consumers.set n.val .expired } }
      let s := refreshErrors (s.count 0x2025 8)
      raise (emcyLog s 0x8130 (bits (s.get 0x1016 (n.val + 1)) 16 8)) (448 + n.val)
    else s)

/-- TIME_RECEIVED (R221, Table 6.4): a TIME of six bytes, in pre-operational and operational. -/
def actTimeReceived (data : List Nat) (s : State) : State :=
  let s := served s .time
  (if s.canRuns && !s.inLoader && data.length = 6 && (s.can.nmt = .preOp || s.can.nmt = .operational) then
      raise (setCalendar s (fromLE data)) 506
    else s)

/-- EMCY_INHIBIT_EXPIRY (R223). -/
def actEmcyInhibitExpiry (s : State) : State :=
  (emcyDrainAll 17 { s with can := { s.can with emcyInhibit := false } })

end Sys2Proof.Machine
end

