-- ==== Sys2Proof/Machine/Sdo.lean ====
section
/-!
DEFINITION. The classic SDO server and the USDO sessions (R224, R225, R235, CiA 301): downloads and uploads, expedited, in segments and in blocks. A request's
bytes are its frame's. Program data go to the flash as they come (R677); every other value is written when it is whole.
-/

namespace Sys2Proof.Machine

/-- The abort codes of Table 6.6. -/
inductive SdoFault where
  | toggle | timeout | command | blockSize | sequence | crc | memory | connection
deriving DecidableEq, Repr

/-- The code of a fault of the transfer protocol (Table 6.6). -/
def SdoFault.code : SdoFault → Nat
  | .toggle => 0x05030000 | .timeout => 0x05040000 | .command => 0x05040001 | .blockSize => 0x05040002 | .sequence => 0x05040003
  | .crc => 0x05040004 | .memory => 0x05040005 | .connection => 0x060A0023

/-- The state of the transfer replaced. -/
def State.setSdo (s : State) (x : SdoState) : State := { s with can := { s.can with sdo := x } }

/-- The transfer in progress ends with an abort. -/
def sdoFault (s : State) (f : SdoFault) : State :=
  let m := s.can.sdo.mux
  sdoAbort s m.1 m.2 f.code

/-- A service of the server: in pre-operational and operational (Table 6.4), and under the recovery loader. A request that comes while the previous one
still awaits its completion is discarded and counted (R225). -/
def sdoServe (s : State) (data : List Nat) (f : State → State) : State :=
  let s := served s .sdo
  (if !s.canRuns || s.nodeId = 0xFF || !(s.can.nmt == .preOp || s.can.nmt == .operational) || data.length ≠ 8 then s
    else
      match s.can.sdo with
      | .awaiting _ _ _ => s.count 0x2025 5
      | _ => f s)

/-- The index that a request names. -/
def muxIndex (d : List Nat) : Nat := fromLE ((d.drop 1).take 2)

/-- The sub-index that a request names. -/
def muxSub (d : List Nat) : Nat := nth d 3 0

/-- The command byte. -/
def commandByte (d : List Nat) : Nat := nth d 0 0

/-- Data handed on as they come: program data (R677). -/
def streams (i : Nat) : Bool := i == 0x1F50

/-! ### Writing -/

/-- A write's outcome on C: its response, its abort, or the wait for its completion (R143, R225). -/
def writeAnswered (r : Ended) (i sub : Nat) (ok : List Nat) : State :=
  match r.2 with
  | some .ok => sdoSend ((r.1.reply .C .ok []).setSdo .idle) ok
  | some st => sdoAbort (r.1.reply .C st []) i sub st.abort
  | none => r.1.setSdo (.awaiting i sub ok)

/-- The value of a download is whole and is written. -/
def downloadEnds (s : State) (i sub : Nat) (size : Option Nat) (got : List Nat) (count : Nat) (ok : List Nat) : State :=
  if segment i sub && (size.map (fun n => decide (n < count))).getD false then sdoFault s .memory
  else if (size.map (fun n => n != count)).getD false then sdoAbort s i sub Status.length.abort
  else if streams i then sdoSend (s.setSdo .idle) ok
  else writeAnswered (writeRequest s .C i sub got 0) i sub ok

/-- Bytes received: program data are handed on, others are held. The status is the hand-over's. -/
def takeBytes (s : State) (i sub : Nat) (got new : List Nat) : State × List Nat × Status :=
  if streams i then
    match segWrite s .C i sub 0 new with
    | (t, some st) => (t, [], st)
    | (t, none) => (t, [], .ok)
  else (s, got ++ new, .ok)

/-- SDO_INITIATE_DOWNLOAD: expedited, or the start of a segmented transfer. -/
def initiateDownload (s : State) (d : List Nat) : State :=
  let b := commandByte d
  let i := muxIndex d
  let sub := muxSub d
  let s := s.setSdo .idle
  let ok := 0x60 :: muxBytes i sub
  if bit b 1 && segment i sub then sdoAbort s i sub Status.badRequest.abort
  else if bit b 1 then
    let n := if bit b 0 then 4 - bits b 2 2 else min 4 (s.sizeNow .C i sub)
    writeAnswered (writeRequest s .C i sub ((d.drop 4).take n) 0) i sub ok
  else if definedStatus i sub ≠ .ok then sdoAbort s i sub (definedStatus i sub).abort
  else sdoSend (s.setSdo (.download i sub (if bit b 0 then some (fromLE ((d.drop 4).take 4)) else none) [] 0 false)) ok

/-- SDO_INITIATE_DOWNLOAD (R224). -/
def actSdoInitiateDownload (data : List Nat) (s : State) : State := sdoServe s data (fun t => initiateDownload t data)

/-- A download segment: its toggle bit alternates; a DOMAIN beyond its stated size is refused (Table 6.6). -/
def downloadSegment (s : State) (d : List Nat) : State :=
  match s.can.sdo with
  | .download i sub size got count toggle =>
    let b := commandByte d
    if bit b 4 ≠ toggle then sdoFault s .toggle
    else
      let new := (d.drop 1).take (7 - bits b 1 3)
      let count := count + new.length
      if segment i sub && (size.map (fun n => decide (n < count))).getD false then sdoFault s .memory
      else
        match takeBytes s i sub got new with
        | (s, got, .ok) =>
          let ack := [0x20 + 16 * b2n toggle]
          if bit b 0 then downloadEnds s i sub size got count ack
          else sdoSend (s.setSdo (.download i sub size got count (!toggle))) ack
        | (s, _, st) => sdoAbort s i sub st.abort
  | _ => sdoFault s .command

/-- SDO_DOWNLOAD_SEGMENT (R224). -/
def actSdoDownloadSegment (data : List Nat) (s : State) : State := sdoServe s data (fun t => downloadSegment t data)

/-! ### Reading -/

/-- SDO_INITIATE_UPLOAD: the value is captured (R151). -/
def initiateUpload (s : State) (d : List Nat) : State :=
  let i := muxIndex d
  let sub := muxSub d
  match readRequest (s.setSdo .idle) .C i sub false 0 with
  | (t, some (.ok, v)) => uploadBegin (t.reply .C .ok v) i sub v
  | (t, some (st, _)) => sdoAbort (t.reply .C st []) i sub st.abort
  | (t, none) => t.setSdo (.awaiting i sub [])

/-- SDO_INITIATE_UPLOAD (R224). -/
def actSdoInitiateUpload (data : List Nat) (s : State) : State := sdoServe s data (fun t => initiateUpload t data)

/-- An upload segment. -/
def uploadSegment (s : State) (d : List Nat) : State :=
  match s.can.sdo with
  | .upload i sub rest toggle =>
    if bit (commandByte d) 4 ≠ toggle then sdoFault s .toggle
    else
      let chunk := rest.take 7
      let last := rest.length ≤ 7
      let b := 16 * b2n toggle + 2 * (7 - chunk.length) + b2n last
      sdoSend (s.setSdo (if last then .idle else .upload i sub (rest.drop 7) (!toggle))) (b :: chunk)
  | _ => sdoFault s .command

/-- SDO_UPLOAD_SEGMENT (R224). -/
def actSdoUploadSegment (data : List Nat) (s : State) : State := sdoServe s data (fun t => uploadSegment t data)

/-! ### Block download -/

/-- The block size that the server asks for: 1 to 127, whichever the device takes. -/
def drawBlockSize (s : State) : State × Nat := (s.draw, 1 + Config.choice s.draws % 127)

/-- SDO_BLOCK_DOWNLOAD_INITIATE. -/
def initiateBlockDownload (s : State) (d : List Nat) : State :=
  let b := commandByte d
  let i := muxIndex d
  let sub := muxSub d
  let s := s.setSdo .idle
  if definedStatus i sub ≠ .ok then sdoAbort s i sub (definedStatus i sub).abort
  else
    let r := drawBlockSize s
    let size := if bit b 1 then some (fromLE ((d.drop 4).take 4)) else none
    sdoSend (r.1.setSdo (.blockDownload i sub size [] 0 0 (bit b 2) r.2 0 false)) (0xA4 :: (muxBytes i sub ++ [r.2]))

/-- SDO_BLOCK_DOWNLOAD_INITIATE (R224). -/
def actSdoBlockDownloadInitiate (data : List Nat) (s : State) : State := sdoServe s data (fun t => initiateBlockDownload t data)

/-- A sub-block has ended: what came in sequence is acknowledged, with the size of the next. Program data but for the last segment are handed on. -/
def subBlockEnds (s : State) (i sub : Nat) (size : Option Nat) (got : List Nat) (count crc : Nat) (check : Bool) (seq : Nat) (ending : Bool) : State :=
  if segment i sub && (size.map (fun n => decide (n + 7 ≤ count))).getD false then sdoFault s .memory
  else
    let cut := if streams i then got.length - 7 else 0
    let new := got.take cut
    let h := if cut = 0 then (s, [], Status.ok) else takeBytes s i sub [] new
    if h.2.2 ≠ .ok then sdoAbort h.1 i sub h.2.2.abort
    else
      let r := drawBlockSize h.1
      let crc := new.foldl (fun c x => crc16Bits 8 (c ^^^ (x % 256 * 256))) crc
      sdoSend (r.1.setSdo (.blockDownload i sub size (got.drop cut) count crc check r.2 0 ending)) [0xA2, seq, r.2]

/-- SDO_BLOCK_DOWNLOAD_SEGMENT: a segment out of sequence is not taken; the last of a sub-block gets the acknowledgement. -/
def blockDownloadSegment (s : State) (d : List Nat) : State :=
  match s.can.sdo with
  | .blockDownload i sub size got count crc check blksize seq false =>
    let b := commandByte d
    let n := bits b 0 7
    if n = 0 || blksize < n then sdoFault s .sequence
    else
      let good := n == seq + 1
      let got := if good then got ++ d.drop 1 else got
      let count := if good then count + 7 else count
      let seq := if good then n else seq
      let ending := good && bit b 7
      if bit b 7 || n = blksize then subBlockEnds s i sub size got count crc check seq ending
      else s.setSdo (.blockDownload i sub size got count crc check blksize seq false)
  | _ => sdoFault s .command

/-- SDO_BLOCK_DOWNLOAD_SEGMENT (R224). -/
def actSdoBlockDownloadSegment (data : List Nat) (s : State) : State := sdoServe s data (fun t => blockDownloadSegment t data)

/-- SDO_BLOCK_DOWNLOAD_END: the CRC is checked before the data count as right (R225). -/
def blockDownloadEnd (s : State) (d : List Nat) : State :=
  match s.can.sdo with
  | .blockDownload i sub size got count crc check _ _ true =>
    let pad := bits (commandByte d) 2 3
    let got := got.take (got.length - pad)
    let count := count - pad
    let sum := got.foldl (fun c x => crc16Bits 8 (c ^^^ (x % 256 * 256))) crc
    if check && sum ≠ fromLE ((d.drop 1).take 2) then sdoFault s .crc
    else
      match takeBytes s i sub [] got with
      | (s, got, .ok) => downloadEnds s i sub size got count [0xA1]
      | (s, _, st) => sdoAbort s i sub st.abort
  | _ => sdoFault s .command

/-- SDO_BLOCK_DOWNLOAD_END (R224, R225). -/
def actSdoBlockDownloadEnd (data : List Nat) (s : State) : State := sdoServe s data (fun t => blockDownloadEnd t data)

/-! ### Block upload -/

/-- SDO_BLOCK_UPLOAD_INITIATE: block sizes from 1 to 127 (R224). A value that the host's memory still holds back is not sent in blocks but by `uploadBegin`. -/
def initiateBlockUpload (s : State) (d : List Nat) : State :=
  let i := muxIndex d
  let sub := muxSub d
  let blksize := nth d 4 0
  let s := s.setSdo .idle
  if blksize = 0 || 127 < blksize then sdoAbort s i sub SdoFault.blockSize.code
  else
    match readRequest s .C i sub false 0 with
    | (t, some (.ok, v)) =>
      sdoSend ((t.reply .C .ok v).setSdo (.blockUpload i sub v v (bit (commandByte d) 2) blksize false false))
        (0xC6 :: (muxBytes i sub ++ toLE 4 v.length))
    | (t, some (st, _)) => sdoAbort (t.reply .C st []) i sub st.abort
    | (t, none) => t.setSdo (.awaiting i sub [])

/-- SDO_BLOCK_UPLOAD_INITIATE (R224). -/
def actSdoBlockUploadInitiate (data : List Nat) (s : State) : State := sdoServe s data (fun t => initiateBlockUpload t data)

/-- How many segments the next sub-block has. -/
def subBlock (rest blksize : Nat) : Nat := min blksize (max 1 ((rest + 6) / 7))

/-- The segments of a sub-block: sequence number, with bit 7 on the value's last, and seven bytes. -/
def sendSubBlock (s : State) (rest : List Nat) (blksize : Nat) : State :=
  (List.range (subBlock rest.length blksize)).foldl (fun t k =>
    let last := rest.length ≤ 7 * (k + 1)
    sdoSend t ((k + 1 + 128 * b2n last) :: (rest.drop (7 * k)).take 7)) s

/-- The end of a block upload: the bytes of the last segment that are no data, and the CRC. -/
def sendBlockEnd (s : State) (v : List Nat) (check : Bool) : State :=
  let n := if v.isEmpty then 7 else (7 - v.length % 7) % 7
  sdoSend s ((0xC1 + 4 * n) :: toLE 2 (if check then crc16 v else 0))

/-- SDO_BLOCK_UPLOAD_ACK: the client starts the transfer (0xA3), acknowledges a sub-block (0xA2) or confirms the end (0xA1). -/
def blockUploadAck (s : State) (d : List Nat) : State :=
  match s.can.sdo with
  | .blockUpload i sub v rest check blksize started ending =>
    let b := commandByte d
    if b = 0xA3 && !started then sendSubBlock (s.setSdo (.blockUpload i sub v rest check blksize true false)) rest blksize
    else if b = 0xA2 && started && !ending then
      let acked := nth d 1 0
      let size := nth d 2 0
      if subBlock rest.length blksize < acked then sdoFault s .sequence
      else if size = 0 || 127 < size then sdoFault s .blockSize
      else
        let left := rest.drop (7 * acked)
        if 0 < acked && left.isEmpty then sendBlockEnd (s.setSdo (.blockUpload i sub v [] check size true true)) v check
        else sendSubBlock (s.setSdo (.blockUpload i sub v left check size true false)) left size
    else if b = 0xA1 && ending then s.setSdo .idle
    else sdoFault s .command
  | _ => sdoFault s .command

/-- SDO_BLOCK_UPLOAD_ACK (R224). -/
def actSdoBlockUploadAck (data : List Nat) (s : State) : State := sdoServe s data (fun t => blockUploadAck t data)

/-! ### Ends (R225) -/

/-- SDO_ABORT_RECEIVED (R224): the client's abort ends the transfer; a request already accepted continues to its end. -/
def actSdoAbortReceived (data : List Nat) (s : State) : State :=
  (match s.can.sdo with
    | .awaiting _ _ _ => s
    | _ => if s.canRuns && data.length = 8 then (served s .sdo).setSdo .idle else s)

/-- The open USDO sessions replaced; 0x2025:06 counts them. -/
def State.setUsdo (s : State) (l : List UsdoSession) : State := ({ s with can := { s.can with usdo := l } } : State).set 0x2025 6 l.length

/-- A session has a transfer in progress. -/
def State.transferring (s : State) (client session : Nat) : Bool :=
  s.can.usdo.any (fun y => y.client == client && y.session == session && y.transfer != .idle)

/-- A session closes. -/
def closeUsdo (s : State) (client session : Nat) : State :=
  s.setUsdo (s.can.usdo.filter (fun y => !(y.client == client && y.session == session)))

/-- SDO_TIMEOUT (R225): the classic transfer, or the transfer of a USDO session, is aborted with 0x0504_0000; the session is closed. -/
def actSdoTimeout (usdo : Option (Nat × Nat)) (s : State) : State :=
  (match usdo with
    | some x => closeUsdo (if s.transferring x.1 x.2 then usdoSend s x.1 x.2 SdoFault.timeout.code [] else s) x.1 x.2
    | none =>
      match s.can.sdo with
      | .idle => s
      | .awaiting _ _ _ => s
      | _ => sdoFault s .timeout)

/-! ### USDO (R224, R225) -/

/-- The session of a request: an open one, or a new one where a connection is free: four sessions, and five with the classic transfer. -/
def usdoSession (s : State) (client session : Nat) : Option State :=
  if s.can.usdo.any (fun y => y.client == client && y.session == session) then some s
  else if 4 ≤ s.can.usdo.length || 5 ≤ s.can.usdo.length + b2n (s.can.sdo != .idle) then none
  else some (s.setUsdo (s.can.usdo ++ [⟨client, session, .idle⟩]))

/-- The transfer of a session ends with an abort of the protocol (Table 6.6). -/
def usdoFault (s : State) (client session : Nat) (f : SdoFault) : State :=
  usdoSend (setTransfer s client session .idle) client session f.code []

/-- The transfer a session has in progress. -/
def State.transfer (s : State) (client session : Nat) : UsdoTransfer :=
  match s.can.usdo.find? (fun y => y.client == client && y.session == session) with
  | some y => y.transfer
  | none => .idle

/-- The frames of a bulk upload, one after the other. -/
def usdoBulk : Nat → State → Nat → Nat → List Nat → State
  | 0, s, _, _, _ => s
  | n + 1, s, client, session, data =>
    let s := usdoSend s client session 0 (data.take usdoRoom)
    if data.length ≤ usdoRoom then s else usdoBulk n s client session (data.drop usdoRoom)

/-- A write's outcome for a session. -/
def usdoWritten (r : Ended) (client session : Nat) : State :=
  match r.2 with
  | some st => usdoAnswer (r.1.reply .C st []) (usdoTag client session) st []
  | none => r.1

/-- The bytes of a download are whole: written, unless they were handed on as they came (R677). -/
def usdoWhole (s : State) (client session i sub : Nat) (got : List Nat) : State :=
  if streams i then usdoSend s client session 0 []
  else usdoWritten (writeRequest s .C i sub got (usdoTag client session)) client session

/-- A segment of a download: its number follows the last one's, and the bytes stay within the size stated. Each is confirmed, and of a bulk transfer the last alone. -/
def usdoSegment (s : State) (client session number : Nat) (data : List Nat) (last : Bool) : State :=
  match s.transfer client session with
  | .download i sub size bulk got count next =>
    let count := count + data.length
    if number ≠ next then usdoFault s client session .sequence
    else if size < count then
      (if segment i sub then usdoFault s client session .memory
       else usdoSend (setTransfer s client session .idle) client session Status.length.abort [])
    else
      match takeBytes s i sub got data with
      | (s, got, .ok) =>
        if last then
          let s := setTransfer s client session .idle
          if count ≠ size then usdoSend s client session Status.length.abort [] else usdoWhole s client session i sub got
        else
          let s := setTransfer s client session (.download i sub size bulk got count ((next + 1) % 256))
          if bulk then s else usdoSend s client session 0 []
      | (s, _, st) => usdoSend (setTransfer s client session .idle) client session st.abort []
  | _ => usdoFault s client session .command

/-- A request of an open session. -/
def usdoServe (s : State) (client session : Nat) (req : UsdoReq) : State :=
  let tag := usdoTag client session
  match req with
  | .next =>
    match s.transfer client session with
    | .upload rest => usdoUpload s client session rest
    | _ => usdoFault s client session .command
  | .bulkRead i sub =>
    match readRequest s .C i sub false tag with
    | (t, some (.ok, v)) => let t := t.reply .C .ok v; usdoBulk (v.length + 1) (setTransfer t client session .idle) client session v
    | (t, some (st, _)) => usdoAnswer (t.reply .C st []) tag st []
    | (t, none) => t
  | .begin_ i sub size bulk =>
    if definedStatus i sub ≠ .ok then usdoSend s client session (definedStatus i sub).abort []
    else usdoSend (setTransfer s client session (.download i sub size bulk [] 0 0)) client session 0 []
  | .segment k d last => usdoSegment s client session k d last
  | .read i sub =>
    match readRequest s .C i sub false tag with
    | (t, some (st, v)) => usdoAnswer (t.reply .C st v) tag st v
    | (t, none) => t
  | .write i sub v => usdoWritten (writeRequest s .C i sub v tag) client session
  | .abort => closeUsdo s client session

/-- USDO_REQUEST (R224, R225): in FD operation, in pre-operational and operational; without a free connection it is refused with 0x060A_0023. -/
def actUsdoRequest (client session : Nat) (req : UsdoReq) (s : State) : State :=
  (if !s.canRuns || !s.fdOn || s.nodeId = 0xFF || !(s.can.nmt == .preOp || s.can.nmt == .operational) then s
    else
      match usdoSession s client session with
      | some t => usdoServe t client session req
      | none => usdoSend s client session SdoFault.connection.code [])

end Sys2Proof.Machine
end

