-- ==== Sys2Proof/Machine/MeaningsPort.lean ====
section
/-! DEFINITION. The meanings of the commands of the object dictionary (chapter 5) and the CANopen port (6): each command's own effect, then what follows it of itself (`Machine/Settle.lean`). -/

namespace Sys2Proof.Machine

/-! ### `Machine/CanPort.lean` -/

/-- CAN_FRAME_ACCEPTED. -/
def execCanFrameAccepted (line : Line) (frame : CanFrame) (timeNs : Nat) (s : State) : Result := observed (actCanFrameAccepted line frame timeNs s)

/-- CAN_ERROR_DETECTED. -/
def execCanErrorDetected (line : Line) (transmitting : Bool) (inc : Nat) (s : State) : Result := observed (actCanErrorDetected line transmitting inc s)

/-- BUS_OFF_RECOVERY_DELAY_EXPIRY. -/
def execBusOffRecoveryDelayExpiry (line : Line) (s : State) : Result := observed (actBusOffRecoveryDelayExpiry line s)

/-- BUS_OFF_RECOVERY_COMPLETE. -/
def execBusOffRecoveryComplete (line : Line) (s : State) : Result := observed (actBusOffRecoveryComplete line s)

/-- LINE_SILENT. -/
def execLineSilent (line : Line) (s : State) : Result := observed (actLineSilent line s)

/-- HEARTBEAT_PRODUCE. -/
def execHeartbeatProduce (s : State) : Result := observed (actHeartbeatProduce s)

/-- HEARTBEAT_CONSUMER_EXPIRY. -/
def execHeartbeatConsumerExpiry (n : Fin 8) (s : State) : Result := observed (actHeartbeatConsumerExpiry n s)

/-- TIME_RECEIVED. -/
def execTimeReceived (data : List Nat) (s : State) : Result := observed (actTimeReceived data s)

/-- EMCY_INHIBIT_EXPIRY. -/
def execEmcyInhibitExpiry (s : State) : Result := observed (actEmcyInhibitExpiry s)

/-- CAN_TRANSMIT_COMPLETE. -/
def execCanTransmitComplete (line : Line) (pos : Nat) (s : State) : Result := observed (actCanTransmitComplete line pos s)

/-! ### `Machine/Lss.lean` -/

/-- LSS_SWITCH_STATE_GLOBAL. -/
def execLssSwitchStateGlobal (mode : Nat) (s : State) : Result := observed (actLssSwitchStateGlobal mode s)

/-- LSS_SWITCH_STATE_SELECTIVE. -/
def execLssSwitchStateSelective (line : Line) (vendor product revision serial : Nat) (s : State) : Result := observed (actLssSwitchStateSelective line vendor product revision serial s)

/-- LSS_CONFIGURE_NODE_ID. -/
def execLssConfigureNodeId (line : Line) (node : Nat) (s : State) : Result := observed (actLssConfigureNodeId line node s)

/-- LSS_CONFIGURE_BIT_TIMING. -/
def execLssConfigureBitTiming (line : Line) (table index : Nat) (s : State) : Result := observed (actLssConfigureBitTiming line table index s)

/-- LSS_ACTIVATE_BIT_TIMING. -/
def execLssActivateBitTiming (_delayMs : Nat) (s : State) : Result := observed (actLssActivateBitTiming _delayMs s)

/-- LSS_STORE_CONFIGURATION. -/
def execLssStoreConfiguration (line : Line) (s : State) : Result := observed (actLssStoreConfiguration line s)

/-- LSS_INQUIRE_IDENTITY. -/
def execLssInquireIdentity (line : Line) (part : Fin 4) (s : State) : Result := observed (actLssInquireIdentity line part s)

/-- LSS_INQUIRE_NODE_ID. -/
def execLssInquireNodeId (line : Line) (s : State) : Result := observed (actLssInquireNodeId line s)

/-- LSS_IDENTIFY_REMOTE_SLAVE. -/
def execLssIdentifyRemoteSlave (line : Line) (vendor product revLow revHigh serLow serHigh : Nat) (s : State) : Result := observed (actLssIdentifyRemoteSlave line vendor product revLow revHigh serLow serHigh s)

/-- LSS_IDENTIFY_NON_CONFIGURED. -/
def execLssIdentifyNonConfigured (line : Line) (s : State) : Result := observed (actLssIdentifyNonConfigured line s)

/-- LSS_FASTSCAN. -/
def execLssFastscan (line : Line) (idNumber bitCheck lssSub lssNext : Nat) (s : State) : Result := observed (actLssFastscan line idNumber bitCheck lssSub lssNext s)

/-! ### `Machine/Nmt.lean` -/

/-- NMT_START_REMOTE_NODE. -/
def execNmtStartRemoteNode (line : Line) (node timeNs : Nat) (s : State) : Result := observed (actNmtStartRemoteNode line node timeNs s)

/-- NMT_STOP_REMOTE_NODE. -/
def execNmtStopRemoteNode (line : Line) (node timeNs : Nat) (s : State) : Result := observed (actNmtStopRemoteNode line node timeNs s)

/-- NMT_ENTER_PRE_OPERATIONAL. -/
def execNmtEnterPreOperational (line : Line) (node timeNs : Nat) (s : State) : Result := observed (actNmtEnterPreOperational line node timeNs s)

/-- NMT_RESET_APPLICATION. -/
def execNmtResetApplication (line : Line) (node timeNs : Nat) (s : State) : Result := settled (actNmtResetApplication line node timeNs s)

/-- NMT_RESET_COMMUNICATION. -/
def execNmtResetCommunication (line : Line) (node timeNs : Nat) (s : State) : Result := observed (actNmtResetCommunication line node timeNs s)

/-! ### `Machine/Pdo.lean` -/

/-- SYNC_RECEPTION. -/
def execSyncReception (line : Line) (counter : Option Nat) (atHalf : Nat) (s : State) : Result := observed (actSyncReception line counter atHalf s)

/-- SYNC_MISSING. -/
def execSyncMissing (s : State) : Result := observed (actSyncMissing s)

/-- RPDO_RECEIVED. -/
def execRpdoReceived (n : Fin 64) (data : List Nat) (s : State) : Result := observed (actRpdoReceived n data s)

/-- RPDO_EVENT_TIMER_EXPIRY. -/
def execRpdoEventTimerExpiry (n : Fin 64) (s : State) : Result := observed (actRpdoEventTimerExpiry n s)

/-- TPDO_EVENT_TIMER_EXPIRY. -/
def execTpdoEventTimerExpiry (n : Fin 64) (s : State) : Result := observed (actTpdoEventTimerExpiry n s)

/-- TPDO_INHIBIT_EXPIRY. -/
def execTpdoInhibitExpiry (n : Fin 64) (s : State) : Result := observed (actTpdoInhibitExpiry n s)

/-- TPDO_LATEST_START. -/
def execTpdoLatestStart (n : Fin 64) (s : State) : Result := observed (actTpdoLatestStart n s)

/-- SYNC_GUARD_BEGIN. -/
def execSyncGuardBegin (onA onB : Option Nat) (s : State) : Result := observed (actSyncGuardBegin onA onB s)

/-! ### `Machine/Sdo.lean` -/

/-- SDO_INITIATE_DOWNLOAD. -/
def execSdoInitiateDownload (data : List Nat) (s : State) : Result := settled (actSdoInitiateDownload data s)

/-- SDO_DOWNLOAD_SEGMENT. -/
def execSdoDownloadSegment (data : List Nat) (s : State) : Result := settled (actSdoDownloadSegment data s)

/-- SDO_INITIATE_UPLOAD. -/
def execSdoInitiateUpload (data : List Nat) (s : State) : Result := settled (actSdoInitiateUpload data s)

/-- SDO_UPLOAD_SEGMENT. -/
def execSdoUploadSegment (data : List Nat) (s : State) : Result := settled (actSdoUploadSegment data s)

/-- SDO_BLOCK_DOWNLOAD_INITIATE. -/
def execSdoBlockDownloadInitiate (data : List Nat) (s : State) : Result := settled (actSdoBlockDownloadInitiate data s)

/-- SDO_BLOCK_DOWNLOAD_SEGMENT. -/
def execSdoBlockDownloadSegment (data : List Nat) (s : State) : Result := settled (actSdoBlockDownloadSegment data s)

/-- SDO_BLOCK_DOWNLOAD_END. -/
def execSdoBlockDownloadEnd (data : List Nat) (s : State) : Result := settled (actSdoBlockDownloadEnd data s)

/-- SDO_BLOCK_UPLOAD_INITIATE. -/
def execSdoBlockUploadInitiate (data : List Nat) (s : State) : Result := settled (actSdoBlockUploadInitiate data s)

/-- SDO_BLOCK_UPLOAD_ACK. -/
def execSdoBlockUploadAck (data : List Nat) (s : State) : Result := settled (actSdoBlockUploadAck data s)

/-- SDO_ABORT_RECEIVED. -/
def execSdoAbortReceived (data : List Nat) (s : State) : Result := settled (actSdoAbortReceived data s)

/-- USDO_REQUEST. -/
def execUsdoRequest (client session : Nat) (req : UsdoReq) (s : State) : Result := settled (actUsdoRequest client session req s)

/-- SDO_TIMEOUT. -/
def execSdoTimeout (usdo : Option (Nat × Nat)) (s : State) : Result := settled (actSdoTimeout usdo s)

/-! ### `Machine/ObjRequests.lean` -/

/-- OBJECT_READ. -/
def execObjectRead (port : Port) (index sub : Nat) (peek : Bool) (s : State) : Result := settled (actObjectRead port index sub peek s)

/-- OBJECT_WRITE. -/
def execObjectWrite (port : Port) (index sub value size : Nat) (s : State) : Result := settled (actObjectWrite port index sub value size s)

/-- SEGMENT_READ. -/
def execSegmentRead (port : Port) (index sub offset length : Nat) (s : State) : Result := settled (actSegmentRead port index sub offset length s)

/-- SEGMENT_WRITE. -/
def execSegmentWrite (port : Port) (index sub offset : Nat) (data : List Nat) (s : State) : Result := settled (actSegmentWrite port index sub offset data s)

/-- DESCRIPTOR_QUERY. -/
def execDescriptorQuery (port : Port) (index sub : Nat) (s : State) : Result := settled (actDescriptorQuery port index sub s)

/-- RC_LATCH_READ. -/
def execRcLatchRead (port : Port) (index sub : Nat) (peek : Bool) (s : State) : Result := settled (actRcLatchRead port index sub peek s)

/-- SEGMENT_FILL_TIMEOUT. -/
def execSegmentFillTimeout (port : Port) (index sub : Nat) (write : Bool) (s : State) : Result := settled (actSegmentFillTimeout port index sub write s)

/-- SAVE_PARAMETERS. -/
def execSaveParameters (port : Port) (group signature : Nat) (s : State) : Result := settled (actSaveParameters port group signature s)

/-- RESTORE_DEFAULT_PARAMETERS. -/
def execRestoreDefaultParameters (port : Port) (group signature : Nat) (s : State) : Result := settled (actRestoreDefaultParameters port group signature s)

/-- CONFIGURATION_EXPORT. -/
def execConfigurationExport (port : Port) (s : State) : Result := settled (actConfigurationExport port s)

/-- IMPORT_STRICT. -/
def execImportStrict (port : Port) (s : State) : Result := settled (actImportStrict port s)

/-- IMPORT_SKIP_UNKNOWN. -/
def execImportSkipUnknown (port : Port) (s : State) : Result := settled (actImportSkipUnknown port s)

/-! ### `Machine/StoreOps.lean` -/

/-- STORE_COPY_COMPLETE. -/
def execStoreCopyComplete (ok : Bool) (s : State) : Result := settled (actStoreCopyComplete ok s)

/-- STORE_REPAIR. -/
def execStoreRepair (s : State) : Result := settled (actStoreRepair s)

end Sys2Proof.Machine
end

