-- ==== Sys2Proof/Machine/Downbeat.lean ====
section
/-!
DEFINITION. The downbeat (R117, Table 4.5) with everything the chapters judge once per frame, and the boundaries between the phases of a frame (R114).
-/

namespace Sys2Proof.Machine

/-- The frame that ends had a touch report to give (R118, R138). -/
def State.reportOwed (s : State) : Bool := s.beat.scanFrame && s.touchState && !s.beat.reportDone

/-- CAUSE of an overrun record (Table 4.6): each bit shows its own condition. PROCESS counts as not complete where SCAN was, since without SCAN there is nothing to
process (log entry 203). -/
def State.overrunCause (s : State) : Nat :=
  b2n (s.beat.imageMissing || s.touch.imageFault) + 2 * b2n (!s.beat.scanDone || s.flag 0x3202 6 7)
    + 4 * b2n (s.beat.scanDone && !s.beat.processDone) + 8 * b2n (s.beat.stoppedB || s.beat.stoppedC)

/-- The events of Table 4.4 counted so far. -/
def State.abandonedSum (s : State) : Nat := ((List.range 7).map (fun k => s.get 0x2102 (k + 1))).sum

/-- Step 1: the frame-scoped engines abandon what is not complete (R14, Table 4.4). What PLL C's or PLL B's loss stopped restarts with this downbeat (R134, R135). -/
def abandonWork (s : State) (bursts dumps : Nat) : State :=
  let s := (s.countBy 0x2102 1 bursts).countBy 0x2102 2 dumps
  let s := if s.beat.scanFrame && s.beat.scanDone && !s.beat.processDone then s.count 0x2102 3 else s
  let s := if s.test.segRuns then s.count 0x2102 6 else s
  if s.swapDue && s.sense.tested then s.count 0x2102 7 else s

/-- Step 3: every translation cache empties, and a walk in flight installs nothing (R296). -/
def flushTranslations (s : State) : State :=
  { s with mem := { s.mem.dropAll with fills := s.mem.fills.map (fun x => { x with install := false }), emcySent := false } }

/-- Engines that a relock freed restart (R134, R135, R432). EXC_UNLOCK clears where ADC_DSP_UNLOCK does, at the first downbeat after the relock: for it no rule
states the moment (log entry 204). -/
def restartStopped (s : State) : State :=
  let s := if s.beat.stoppedB && s.clocks.pllB then
      let t := lanesRestart s
      ({ t with
        beat := { t.beat with stoppedB := false }
        sense := { t.sense with calFrames := 0, converged := false }
        thermal := { t.thermal with forcedB := false } } : State).setFlag 0x2101 4 2 false
    else s
  if s.beat.stoppedC && s.clocks.pllC then
    ({ s with beat := { s.beat with stoppedC := false } } : State).setFlag 0x2101 4 3 false
  else s

/-- Step 4: swaps and touch coefficient switches take effect; a calibrated bank scans from this downbeat on (R440, R488). Every request that stands is taken, also one
of the last 2 µs, where R132 leaves the downbeat open (log entry 205). While PLL B's loss holds the slices and lanes stopped they wait (R134). -/
def takeSwaps (s : State) (est : SliceEst) : State :=
  let s := restartStopped (if s.beat.stoppedB then s else lanesDownbeat (rotationDownbeat s est))
  if s.sense.power == .calibrated then
    { s with sense := { s.sense with power := .ready }, touch := { s.touch with seedDue := true, settleLeft := 0 } }
  else s

/-- Step 5: PLL C is retuned to the hop chosen for the new frame. -/
def retune (s : State) : State :=
  let h := s.touch.nextHop
  if s.get 0x3203 12 = h then { s with touch := { s.touch with framesSinceHop := s.touch.framesSinceHop + 1 } }
  else
    let s := (s.set 0x3203 12 h).count 0x3203 13
    { s with touch := { s.touch with framesSinceHop := 0 } }

/-- Step 7: the frame counter and the position in the SYNC period, with the new frame's length (R119, R121, R126). -/
def countFrame (s : State) : State :=
  let s := s.set 0x2101 1 (incWrap 48 s.frame)
  let position := s.beat.renumber.getD ((s.get 0x2101 6 + 1) % s.ratio)
  let s : State := { s with beat := { s.beat with renumber := none, lastHalf := s.beat.lastHalf + s.beat.lenHalf } }
  let s := frameInForce s
  nextLength (s.set 0x2101 6 (position % s.ratio))

/-- Step 8: the overrun record of the frame that ended (R118). -/
def recordOverrun (s : State) (owed : Bool) (cause frame abandoned : Nat) : State :=
  if owed then raiseVector (raise (overrun s cause frame abandoned) 463) 267 else s

/-- Step 9: LISTEN of the new frame begins, with nothing done. -/
def beginFrame (s : State) : State :=
  { s with
    beat := { s.beat with phase := .listen, reportDone := false, scanDone := false, processDone := false, imageMissing := false
                          scanFrame := s.touchState && !s.touchDegraded }
    touch := { s.touch with image := [], listen := [], imageFault := false, report := none } }

/-- The profile that the power state in force takes (Table 12.1). -/
def State.profileFor (s : State) : Nat :=
  match s.aocb.pstate with
  | .listen => 0
  | .service | .run => 1
  | _ => 0xFF

/-- Profiles at the downbeat (R445, R446, R482, R485): an accepted apply takes effect and leaves baselines stale; at a change of profile every track ends. -/
def profilesDownbeat (s : State) : State :=
  let s := match s.touch.applySet with
    | some set =>
      let t := staleAll (profilesInForce s set)
      { t with touch := { t.touch with applySet := none, ending := t.touch.ending ++ t.touch.tracks, tracks := [], cands := [] } }
    | none => s
  let p := s.profileFor
  let s := if s.get 0x3202 4 = p then s
    else
      let t := s.set 0x3202 4 p
      { t with touch := { t.touch with ending := t.touch.ending ++ t.touch.tracks, tracks := [], cands := [] } }
  let fits := match s.profile with
    | some k => s.scanFits (s.scan k) s.fMin
    | none => true
  let s := s.setFlag 0x3202 6 7 (!fits)
  if s.touch.pumpRestart then { s with touch := { s.touch with pumpRestart := false, hvChanging := true, hvLowRun := 0 } } else s

/-- Touch that a failed slice or an electrode test keeps from scanning reads every button released (Table 19.3, R714). -/
def touchOutDownbeat (s : State) : State :=
  if s.touchDegraded then releaseButtons { s with sense := { s.sense with power := .off } } true
  else if s.electrodeTest then releaseButtons s false
  else s

/-- The VIN reading 0x2010:03 takes the latest output of HK input 48 (chapter 3), and the hold threshold its setting (R106). -/
def vinDownbeat (s : State) : State :=
  let s := s.set 0x2010 3 (clampInt 0 65535 (divRound (s.hkMicro 48 * 25) 10000)).toNat
  { s with power := { s.power with holdMv := s.get 0x2010 1 } }

/-- Values whose change waits for a downbeat: the scan mask of HK and the stream of 0x3121. -/
def senseInForce (s : State) : State := (s.takeInForce 0x3000 3 1).takeInForce 0x3121 1 16

/-- The core's load over the frame that ended (0x2800:04): how long it waited is no input of this model (free; log entry 66). -/
def coreLoad (s : State) : State :=
  if s.up then (s.set 0x2800 4 (Config.random s.draws 2 % 1001)).draw else s

/-- What the chapters judge once per frame, over the `half` half nanoseconds of the frame that ended. -/
def judgeFrame (s : State) (half : Nat) : State :=
  let s := stageDownbeat (supervisionDownbeat s)
  let s := regulatorDownbeat (tsDownbeat s)
  let s := touchOutDownbeat (testDownbeat s)
  let s := updateTime (lifeTime (chargerTime (timeAdvance s half) half) half) half
  let s := coreLoad (senseInForce (vinDownbeat s))
  { s with
    link := { s.link with raised258 := false, raised259 := false }
    tabor := { s.tabor with programs := s.tabor.programs.map (fun p => p.map (fun x => { x with shareSpent := false })) } }

/-- The downbeat's actions in the order of Table 4.5, then what is judged once per frame. -/
def downbeat (s : State) (bursts dumps : Nat) (est : SliceEst) : State :=
  let half := s.beat.lenHalf
  let frame := s.frame
  let owed := s.reportOwed
  let cause := s.overrunCause
  let before := s.abandonedSum
  let s := ringsDownbeat (abandonWork s bursts dumps)
  let abandoned := s.abandonedSum - before
  let s := retune (takeSwaps (flushTranslations s) est)
  let s := countFrame (closeWindow s)
  let s := beginFrame (recordOverrun s owed cause frame abandoned)
  let s := profilesDownbeat (judgeFrame s half)
  raiseAll s ((if s.get 0x2101 6 = 0 then [461] else []) ++ [456] |>.map (fun n => (n, 0)))

/-- DOWNBEAT (R117). The downbeat runs from firmware start on, while PLL A keeps SYS clocked (R136, R138). -/
def actDownbeat (bursts dumps : Nat) (est : SliceEst) (s : State) : State :=
  (if s.beat.running && s.clocks.pllA then downbeat s bursts dumps est else s)

/-! ### The boundaries between phases (R114) -/

/-- A phase of the frame begins: only the one that follows. -/
def beginPhase (s : State) (p : Phase) : State := { s with beat := { s.beat with phase := p } }

/-- SCAN begins: what LISTEN heard is judged (R448). -/
def scanBegins (s : State) : State :=
  let s := match s.profile with
    | some p => if s.touchRuns then measureNoise s p else s
    | none => s
  raise (beginPhase s .scan) 457

/-- PROCESS begins: SCAN is complete if every result has come (R118), and the outgoing slice has been compared with the one that takes its place (R409). -/
def processBegins (s : State) (diff : Int) : State :=
  let whole := match s.profile with
    | some p => s.touchRuns && decide (s.touch.image.length = s.expected (s.scan p))
    | none => false
  let s := handover (beginPhase s .process) diff
  raise { s with beat := { s.beat with scanDone := whole } } 458

/-- REPORT begins: the report is delivered (R461), and the PDO windows of this frame open (R228). -/
def reportBegins (s : State) : State := openWindow (raise (deliverReport (beginPhase s .report)) 459)

/-- QUIET begins: the windows close (R228). -/
def quietBegins (s : State) : State := raise (markEligible (closeWindow (beginPhase s .quiet))) 460

/-- PHASE_BOUNDARY (R114): the phase named begins; one that is not the next in order changes nothing. -/
def actPhaseBoundary (boundary : Phase) (handover : Int) (s : State) : State :=
  (if !s.beat.running || !s.clocks.pllA then s
    else match s.beat.phase, boundary with
      | .listen, .scan => scanBegins s
      | .scan, .process => processBegins s handover
      | .process, .report => reportBegins s
      | .report, .quiet => quietBegins s
      | _, _ => s)

end Sys2Proof.Machine
end

