-- ==== Sys2Proof/Machine/Startup.lean ====
section
/-!
DEFINITION. Start-up (Table 3.3): VAON, the self-bucks, the clocks step with its straps, start-up LBIST, the boot ROM's choice, the recovery loader, and
firmware start with all that each chapter begins there.
-/

namespace Sys2Proof.Machine

/-! ### VAON (R86, R91, R95, R103) -/

/-- A two-level strap: an indeterminate pin reads 0 (R59, R61, R62). -/
def Band.reads (b : Band) : Nat := if b = .high then 1 else 0

/-- VAON_VALID: AON and SUP start, every comparator in its safe state (Table 3.7), the TCRIT straps are sampled, the cause is VAON_POR, and the pack is
pending (R607). RESET_N keeps its level (R71). -/
def actVaonValid (tcritPin1 tcritPin0 : Option Nat) (lfCrystal : Bool) (s : State) : State :=
  if s.power.vaonValid then s
  else
    let tcrit1 := Band.ofPin tcritPin1
    let tcrit0 := Band.ofPin tcritPin0
    let straps : Straps := { Straps.reset with
      tcrit := 2 * tcrit1.reads + tcrit0.reads, tcritIndeterminate := tcrit1 == .indeterminate || tcrit0 == .indeterminate }
    let s : State := { s with
      power := { Power.reset with vaonValid := true, vaonRecord := true, resetNLow := s.power.resetNLow }
      aocb := { Aocb.reset with straps := straps, cause := ⟨0, Source.vaonPor.code, 0, 0, 0⟩ }
      thermal := { s.thermal with shdnLow := true, measured := false, counted := false, overRun := 0 }
      clocks := { s.clocks with lfInternal := !lfCrystal }
      test := { s.test with access := if s.test.field then .locked else .full } }
    let s := (s.set 0x4330 6 0xFFFF).setFlag 0x4810 3 1 (!lfCrystal)
    (packPending s)

/-- What the loss of VAON leaves: flash, OTP and the commands that wait (R91). -/
def loseVaon (s : State) : State :=
  let s := abandonRecord s
  { State.reset with
    pending := s.pending
    draws := s.draws
    od := s.od.filter (fun e => match descOf (e.1 / 256) (e.1 % 256) with
      | some d => d.per == .F || d.per == .O
      | none => false)
    store := { Store.reset with slots := s.store.slots }
    log := { Log.reset with slots := s.log.slots }
    update := s.update.afterReset
    pack := { Pack.reset with keys := s.pack.keys }
    test := { Test.reset with
      field := s.test.field, hashes := s.test.hashes, baseFields := s.test.baseFields, serial := s.test.serial
      access := if s.test.field then .locked else .full } }

/-- VAON_LOSS: the hard reset that clears the always-on control block; nothing but flash and OTP outlives it. -/
def actVaonLoss (s : State) : State := if s.power.vaonValid then (loseVaon s) else s

/-! ### The self-bucks (R85, R107) -/

/-- VIN_VALID_RISE: start-up begins at time 0 of Table 3.3, or in OFF after VIN has been seen to fall (R80, R584). -/
def actVinValidRise (s : State) : State :=
  let start := s.power.vaonValid && s.power.armedRise && decide (s.power.step = .idle) && decide (s.aocb.pstate ≠ .ship)
  let s : State := { s with power := { s.power with vinValid := true } }
  (if start then startFromVin { s with power := { s.power with armedRise := false } } else s)

/-- Start-up stands at a step, and no hard reset is under way. -/
def State.atStep (s : State) (k : StartStep) : Bool := s.power.vaonValid && decide (s.power.step = k) && !s.power.hardReset

/-- The clocks step begins. -/
def toClocks (s : State) : State :=
  { s with power := { s.power with step := .clocks }, aocb := { s.aocb with boot := { s.aocb.boot with progress := 2 } } }

/-- SELF_BUCK_CHECK: in regulation, start-up goes on to the clocks step unless RESET_N is low; the third failure ends the attempts. -/
def actSelfBuckCheck (ok : Bool) (s : State) : State :=
  if !s.atStep .supply || s.power.selfBuck ≠ .starting then s
  else if ok then
    let s : State := { s with power := { s.power with selfBuck := .regulating } }
    (if s.power.resetNLow then s else toClocks s)
  else
    let s : State := { s with power := { s.power with selfBuck := .stopped, attempts := s.power.attempts + 1 } }
    if s.power.attempts < 3 then s
    else
      let s : State := { s with power := { s.power with step := .supplyFailed }
                                aocb := { s.aocb with boot := { s.aocb.boot with selfSupplyFault := true } } }
      (recordCause s .selfSupply 0 false)

/-- SELF_BUCK_RETRY: 100 ms after a failed attempt. -/
def actSelfBuckRetry (s : State) : State :=
  if s.atStep .supply && decide (s.power.selfBuck = .stopped) && decide (1 ≤ s.power.attempts) && !s.power.resetNLow then
    { s with power := { s.power with selfBuck := .starting } }
  else s

/-- RESET_N_RELEASE: 100 µs after RESET_N is released, start-up held at the self-buck step goes on (R107). -/
def actResetNRelease (s : State) : State :=
  if !s.power.resetNLow then s
  else
    let s : State := { s with power := { s.power with resetNLow := false } }
    if !s.atStep .supply then s
    else (match s.power.selfBuck with
      | .stopped => { s with power := { s.power with selfBuck := .starting } }
      | .starting => s
      | .regulating => toClocks s)

/-! ### The clocks step (R56 to R62, R75) -/

/-- The level of an address strap and whether it is marginal (R57): `n` is the sum of its sixteen 8-bit readings, 4,080 for the full ratio; level L lies at
L/7 with a band of 0.035 on each side, and midway goes to the lower. -/
def strapLevel (n : Nat) : Nat × Bool :=
  let n := min n 4080
  let l := (14 * n + 4079) / 8160
  (l, decide (((7 * n : Nat) - (4080 * l : Nat) : Int).natAbs * 1000 > 999600))

/-- The clocks step with XIN found present or absent: the PLLs lock, the OTP trim is read, and the ADDR and BOOTSEL straps. -/
def clocksStep (s : State) (xin trimBad : Bool) (ratio1 ratio0 : Nat) (bootselPin : Option Nat) : State :=
  let bootsel := Band.ofPin bootselPin
  if !xin then
    { s with clocks := { s.clocks with xin := false }
             aocb := { s.aocb with boot := { s.aocb.boot with xinAbsent := true, progress := 2 } } }
  else
    let a0 := strapLevel ratio0
    let a1 := strapLevel ratio1
    let s : State := { s with
      clocks := { s.clocks with xin := true, pllsHeld := false, pllA := true, pllB := true, pllC := true, pllD := true }
      power := { s.power with step := .lbist, lbistSlot := 0 }
      aocb := { s.aocb with
        straps := { s.aocb.straps with
          addr0 := a0.1, addr1 := a1.1, addr0Marginal := a0.2, addr1Marginal := a1.2
          bootsel := bootsel == .high, bootselIndeterminate := bootsel == .indeterminate }
        boot := { s.aocb.boot with xinAbsent := false, trimFault := trimBad, progress := 5 } } }
    s.set 0x2021 2 (8 * a1.1 + a0.1)

/-- STARTUP_CLOCKS_STEP (R75). -/
def actStartupClocksStep (xin trimBad : Bool) (ratio1 ratio0 : Nat) (bootsel : Option Nat) (s : State) : State :=
  (if s.atStep .clocks && !s.aocb.boot.xinAbsent then clocksStep s xin trimBad ratio1 ratio0 bootsel else s)

/-- XIN_ABSENT_RECHECK (R75): every 100 ms, without limit. -/
def actXinAbsentRecheck (xin trimBad : Bool) (ratio1 ratio0 : Nat) (bootsel : Option Nat) (s : State) : State :=
  (if s.atStep .clocks && s.aocb.boot.xinAbsent then clocksStep s xin trimBad ratio1 ratio0 bootsel else s)

/-! ### Start-up LBIST (R700, R707, R708) -/

/-- STARTUP_LBIST_SLOT: the next slice in ascending number; it fails only if its second run mismatches too. -/
def actStartupLbistSlot (pass passAgain : Bool) (s : State) : State :=
  let k := s.power.lbistSlot
  if !s.atStep .lbist || !s.clocks.pllA || 24 ≤ k then s
  else
    let s : State := { s with power := { s.power with lbistSlot := k + 1 } }
    if pass || passAgain then s
    else
      let s := s.setFlag 0x4A00 3 k true
      { s with aocb := { s.aocb with boot := { s.aocb.boot with lbistFail := true } }
               test := { s.test with degradeNext := setBit s.test.degradeNext k } }

/-! ### The boot ROM (R682) -/

/-- What the boot ROM decides: the bank to run and whether in trial, or no image. -/
inductive BootChoice where
  | run (bank : Nat) (trial : Bool)
  | noImage
deriving DecidableEq, Repr

/-- A bank verifies, Ifetor's key being programmed (R678, R695). -/
def State.verifies (s : State) (k : Nat) : Bool := (s.bankNow k).verifies && s.update.hash0

/-- The other bank runs instead, by a record with FALLBACK or REVERTED: counted, logged and reported after the boot-up message. -/
def bootOther (s : State) (bank flags : Nat) (report : Nat × Nat) : State :=
  let s := confirmedRecord s bank flags
  let s := s.count 0x4900 11
  { s with update := { s.update with emcyDue := some report } }

/-- The choice of R682. -/
def bootSelect (s : State) : State × BootChoice :=
  match s.update.record with
  | none =>
    if s.verifies 0 then (confirmedRecord s 0 0, .run 0 false)
    else if s.verifies 1 then (confirmedRecord s 1 0, .run 1 false)
    else (s, .noImage)
  | some r =>
    let own := s.verifies r.bank && decide ((s.bankNow r.bank).digest = r.digest)
    let o := 1 - r.bank
    if r.confirmed then
      if own then (s, .run r.bank false)
      else if s.verifies o then (bootOther s o 2 (0xFFC2, 0), .run o false)
      else (s, .noImage)
    else if r.marks < 3 && own then (modifyRecord s (fun x => { x with marks := x.marks + 1 }), .run r.bank true)
    else if s.verifies o then (bootOther s o 1 (0xFFC1, r.marks), .run o false)
    else (bootOther s r.bank 2 (0xFFC2, 0), .run r.bank false)

/-- The boot ROM hands over to the recovery loader. -/
def toLoader (s : State) (progress : Nat) (recovery : Bool) : State :=
  { s with update := { s.update with loader := true }
           aocb := { s.aocb with boot := { s.aocb.boot with progress := progress, recovery := recovery } } }

/-- The boot ROM after discovery: recovery by BOOTSEL, by an absent flash or by no image (R685, R686, R191), else the image of R682. -/
def bootRom (s : State) : State :=
  if s.aocb.straps.bootsel then toLoader s 6 true
  else if s.store.flashAbsent then toLoader s 8 false
  else
    match bootSelect s with
    | (s, .noImage) => toLoader s 8 false
    | (s, .run bank trial) =>
      { s with update := { s.update with running := bank }
               aocb := { s.aocb with boot := { s.aocb.boot with bankB := bank == 1, trial := trial, progress := 7 } } }

/-- BOOT_ROM_START: the watchdog is armed (R92), the core leaves reset (R377), and the boot ROM chooses. A halting slice stops start-up before it (R707). -/
def actBootRomStart (found : BootFindings) (s : State) : State :=
  if !s.atStep .lbist || !s.clocks.pllA || s.power.lbistSlot < 24 || s.lbistHalted then s
  else
    let s : State := { s with
      power := { s.power with step := .bootRom, watchdog := Watchdog.start }
      tabor := { s.tabor with held := false, run := .boot, breakOn := 0 }
      store := { s.store with flashAbsent := !found.flash }
      update := { s.update with found := [found.bankA, found.bankB] }
      aocb := { s.aocb with boot := { s.aocb.boot with progress := 6 } } }
    (bootRom (s.set 0x1018 3 (odDefault 0x1018 3)))

/-! ### The recovery loader (R685, R686) -/

/-- A value of the store as the loader reads it: the chosen image's record, else the object's default; with no readable copy `d`. -/
def State.loaderValue (s : State) (i sub d : Nat) : Nat :=
  match (if s.store.flashAbsent then none else s.store.chosen) with
  | none => d
  | some im => ((im.records.find? (fun r => r.index == i && r.sub == sub && !recordIll r)).map (·.value)).getD (odDefault i sub)

/-- The port starts: its node-ID, its lines and the boot-up message (R240). -/
def startPort (s : State) : State :=
  let s := configureLines (resolveNode s) true
  let s : State := { s with can := { s.can with started := true, nmt := .init } }
  sendBootUp (s.setFlag 0x2021 7 1 false)

/-- RECOVERY_LOADER_START: CAN alone, classic, on the preferred line; rate and node-ID from the store where it can be read, else 125 kbit/s and the straps. The
loader keeps no log. -/
def actRecoveryLoaderStart (s : State) : State :=
  if !s.atStep .bootRom || !s.clocks.pllA || !s.update.loader then s
  else
    let line := s.loaderValue 0x2020 4 (odDefault 0x2020 4)
    let rate := s.loaderValue 0x2020 1 125
    let node := s.loaderValue 0x2021 3 0xFF
    let log := s.log
    let s := (((s.set 0x2020 1 rate).set 0x2020 2 0).set 0x2020 3 line).set 0x2020 4 line
    let s := startPort ((refreshVersions (s.set 0x2021 3 node)).set 0x1017 0 1000)
    { s with power := { s.power with step := .loader }, log := log }

/-! ### Firmware start (R138, R240, R325, R377, R438, R565, R643, R751) -/

/-- The values of a group's objects return to their defaults for the session (R751). -/
def defaultsOf (s : State) (p : Nat → Nat → Bool) : State := { s with od := s.od.filter (fun e => !p (e.1 / 256) (e.1 % 256)) }

/-- A group is checked as its apply object checks it; one that fails takes its defaults, with a record that names the apply object (R751). -/
def checkGroup (s : State) (ok : Bool) (group : Nat → Nat → Bool) (i sub : Nat) : State :=
  if ok then s else logCondition (defaultsOf s group) i sub 0 true 0

/-- The groups of R751. -/
def checkGroups (s : State) : State :=
  let s := checkGroup s s.frameOk (fun i sub => i == 0x2100 && decide (1 ≤ sub) && decide (sub ≤ 7)) 0x2100 8
  let s := checkGroup s s.profilesOk (fun i _ => i == 0x3200 || i == 0x3201 || i == 0x3233) 0x3202 1
  let s := checkGroup s s.ordersOk (fun i _ => decide (0x4201 ≤ i) && decide (i ≤ 0x4204)) 0x4200 13
  let s := (List.range 4).foldl (fun (t : State) c =>
    checkGroup t (t.curveOk c) (fun i sub => i == fanObj c && (sub == 9 || (decide (11 ≤ sub) && decide (sub ≤ 18)))) (fanObj c) 19) s
  checkGroup s (s.get 0x2020 2 == 0 || decide (500 ≤ s.get 0x2020 1)) (fun i _ => i == 0x2020) 0x2020 0

/-- The pools of R290: overlapping, past frame 1023 or fewer than 64 page frames, both take their defaults, with a record. -/
def checkPools (s : State) : State :=
  let pf := s.get 0x2200 2
  let pn := s.get 0x2200 3
  let rf := s.get 0x2300 1
  let rn := s.get 0x2300 2
  let apart := decide (pf + pn ≤ rf) || decide (rf + rn ≤ pf) || rn == 0
  let ok := apart && decide (pf + pn ≤ 1024) && decide (rf + rn ≤ 1024) && decide (64 ≤ pn)
  let s := if ok then s
    else logCondition (defaultsOf s (fun i sub => (i == 0x2200 && (sub == 2 || sub == 3)) || (i == 0x2300 && (sub == 1 || sub == 2))))
      0x2200 3 0 true 0
  { s with mem := { s.mem with
    poolFirst := s.get 0x2200 2, poolCount := s.get 0x2200 3, ringFirst := s.get 0x2300 1, ringCount := s.get 0x2300 2, hand := s.get 0x2200 2 } }

/-- Frames in which firmware may place its page tables: pinned, outside the range of R734 and the arena. -/
def State.tableFrames (s : State) : List Nat :=
  (List.range 1024).filter (fun f => s.mem.pinned f && !(decide (128 ≤ f) && decide (f ≤ 383))
    && !(decide (s.tabor.arenaFirst ≤ f) && decide (f < s.tabor.arenaFirst + s.tabor.arenaCount)))

/-- Firmware line 1 maps object space 0x0040_0000 to 0x004F_FFFF onto pinned frames 128 to 383, NOEVICT and writable (R734). Where its tables lie no rule says
(free; log entry 69). -/
def mapBuffers (s : State) : State :=
  match s.pick s.tableFrames with
  | (s, none) => s
  | (s, some f1) =>
    match s.pick (s.tableFrames.filter (· != f1)) with
    | (s, none) => s
    | (s, some f2) =>
      let s := s.set 0x2200 1 (2 ^ 31 + ((4 * f1) <<< 10))
      let s := s.storeWord (4096 * f1 + 8 * 2) ((f2 <<< 12) + 1)
      (List.range 256).foldl (fun (t : State) k =>
        if t.mem.pinned (128 + k) then t.storeWord (4096 * f2 + 8 * k) (2 ^ 62 + ((128 + k) <<< 12) + 25) else t) s

/-- The dictionary: the restore, the groups of R751, the pools, and 0x1006 against the frame in force (R129). -/
def startDictionary (s : State) : State :=
  let s := resolvePhaseSets (checkPools (checkGroups (restoreStore s)))
  let s := (s.takeInForce 0x2100 1 7).set 0x2100 9 (quietShare s.stagedShares)
  let s := ordersInForce s
  let s := senseInForce (profilesInForce s s.stagedProfiles)
  let s := (s.takeInForce 0x3000 1 1).takeInForce 0x3010 1 2
  let s := s.set 0x2101 2 (s.nominal / 2)
  let s : State := { s with beat := { s.beat with running := true, lenHalf := s.nominal }, power := { s.power with holdMv := s.get 0x2010 1 } }
  checkPeriod s

/-- The engines: fans (R643), HK and telemetry (R438), rings, programs and tasks (R325, R377), and what firmware maps (R734). -/
def startEngines (s : State) : State :=
  let s := mapBuffers (takeArena (thermalStart s))
  let s : State := { s with sense := { s.sense with hkRunning := true }, tabor := { s.tabor with run := .running } }
  let s := autoStart (autoOpen s)
  let s : State := { s with sched := { s.sched with live := true } }
  if s.log.timeSeen then calendarResume s else s

/-- What start-up found is reported: each strap flag at the start-up that reads the strap (R60, R63), the slices that failed (R708), the store (R190) and the boot ROM's record (R682). -/
def startReports (s : State) : State :=
  let w := s.aocb.straps
  let found := [(12, w.addr0Marginal), (13, w.addr1Marginal), (14, w.tcritIndeterminate && s.power.vaonRecord), (15, w.bootselIndeterminate)]
  let s := found.foldl (fun (t : State) (e : Nat × Bool) => if e.2 then logCondition t 0x2000 4 e.1 true 0 else t) s
  let s := (setBits 24 (s.get 0x4A00 3)).foldl (fun (t : State) k => reportSlice t k false) s
  let s := if s.store.emcyDue then emcy { s with store := { s.store with emcyDue := false } } 0x5530 0 else s
  match s.update.emcyDue with
  | some e => emcyLog { s with update := { s.update with emcyDue := none } } e.1 e.2
  | none => s

/-- The image that runs: its version and line (R674), its record, and the health window of a trial (R683). -/
def startImage (s : State) : State :=
  let f := s.bankNow s.update.running
  let s := ((refreshRecord s).set 0x1F56 1 f.imgver).set 0x1018 3 ((2 <<< 16) + bits f.line 0 16)
  if s.aocb.boot.trial then
    let s := setStage { s with update := { s.update with windowOpen := true, windowHalf := 0, healthReached := 0 } } 1 .trial 0
    s.set 0x4900 7 (s.get 0x4900 4)
  else s

/-! ### Losses of PLL B and PLL C (R134, R135, R637, R705) -/

/-- Every channel in mode 1 or 2 is driven at 100.0 % (R637). -/
def fansForced (s : State) : State :=
  let s : State := { s with thermal := { s.thermal with forcedB := true } }
  (List.range 4).foldl (fun t c =>
    if t.get (fanObj c) 1 = 0 then t
    else refreshFan (fanDuty (t.setFan c { t.fan c with spinup := false, restart := true }) c 1000) c) s

/-- What PLL B's loss stops and reports once firmware runs (R134, R637, R705). -/
def lossOfB (s : State) : State :=
  let s := (abandonSegment s).setFlag 0x2101 4 2 true
  emcyLog (fansForced { s with beat := { s.beat with stoppedB := true } }) 0xFF11 1

/-- What PLL C's loss stops and reports once firmware runs (R135). -/
def lossOfC (s : State) : State :=
  emcyLog ({ s with beat := { s.beat with stoppedC := true } }.setFlag 0x2101 4 3 true) 0xFF11 2

/-- A PLL that lost lock before firmware ran stops its engines now (R134, R135). -/
def lostBefore (s : State) : State :=
  let s := if s.clocks.pllB then s else lossOfB s
  if s.clocks.pllC then s else lossOfC s

/-- Firmware starts: KEEPALIVE, the downbeat in FREE, the dictionary, the engines, the port, the reports, the exchange (R590), and the request for the start-up
target (R565). Firmware has set its vectors and cleared BEV before it starts a program (R377; log entry 233). -/
def firmwareStart (s : State) : State :=
  let s := s.setCore { s.core with mst := { s.core.mst with bev := false } }
  let s : State := { s with
    power := { s.power with step := .firmware }
    aocb := { s.aocb with pstate := .keepalive, target := .keepalive, boot := { s.aocb.boot with progress := 12 } }
    pack := { s.pack with vinSettled := s.onVin } }
  let s := startEngines (takeDegraded (startDictionary (s.setFlag 0x4800 10 1 true)))
  let s := lostBefore (startReports (startImage (startPort s)))
  let s := exchangeTrigger (linkReview s)
  match PState.ofCode (s.get 0x4200 2) with
  | some d => powerRequest s d true
  | none => s

/-- FIRMWARE_START (R138). -/
def actFirmwareStart (s : State) : State :=
  (if s.atStep .bootRom && s.clocks.pllA && !s.update.loader then firmwareStart s else s)

end Sys2Proof.Machine
end

