-- ==== Sys2Proof/Machine/Power.lean ====
section
/-!
DEFINITION. The power path, the ends of the power-down orders, RESET_N, the watchdog and losses of lock (chapter 3; R75, R92, R134 to R136).
-/

namespace Sys2Proof.Machine

/-! ### TOLL (R31, R98, R368, R709) -/

/-- TOLL toggles at 1 kHz; else it is held low (R31). -/
def State.tollToggles (s : State) : Bool :=
  (s.level.isSome || (s.aocb.pstate == .emergency && s.power.step == .firmware)) && s.power.watchdog.armed && !s.power.watchdog.expired && !s.power.hardReset && !s.power.emergWait
    && !s.aocb.boot.trimFault && s.get 0x4A00 3 == 0 && !(s.get 0x4A00 4 != 0 && s.get 0x4A00 2 == 1)
    && s.tabor.run != .halted && !s.tabor.tollHeld && !s.test.tap.drives

/-! ### VIN (R80, R81, R96 to R101, R105, R109) -/

/-- A loss of VIN is judged: from the start of start-up until OFF or SHIP (R80). -/
def State.judgesVin (s : State) : Bool :=
  !s.power.vinLost && s.power.vaonValid && decide (s.power.step ≠ .idle) && decide (s.power.step ≠ .supplyFailed) && !s.power.batgHeld

/-- The comparators see VIN lost; over-voltage turns INSW off whatever the pack (R81, R109). -/
def vinFalls (s : State) (overVoltage : Bool) : State :=
  { s with power := { s.power with vinLost := true, vinOv := s.power.vinOv || overVoltage, insw := s.power.insw && !overVoltage } }

/-- VIN stays lost past the moment at which the emergency order starts (R83). A further loss while the order runs leaves the order running, and has a record of its
own (R26, R97; log entry 195). -/
def vinStaysLost (s : State) (overVoltage same : Bool) : State :=
  let judged := s.judgesVin
  let s := vinFalls s overVoltage
  if !judged then s
  else if s.power.emergWait then s
  else if s.inEmergency then lossEnds (raise s 493) .emergency
  else vinLostActs (raise s 493) same

/-- VIN is back before the emergency order has started: the loss is ridden through on hold-up, and recorded (R26, R99). -/
def ridesHoldUp (s : State) (us : Nat) : State := logInterruption (raise (raise (setLossDur s us) 493) 494) .onHoldup

/-- VIN_OVERVOLTAGE_FALL: INSW turns on again where it feeds VSYS; on the pack it stays off (R109). -/
def actVinOvervoltageFall (s : State) : State :=
  if !s.power.vinOv then s
  else
    let on := s.power.vaonValid && !s.power.batg && decide (s.aocb.pstate ≠ .ship) && (s.get 0x2010 4 == 0 || s.get 0x2010 4 == 2)
    { s with power := { s.power with vinOv := false, insw := s.power.insw || on } }

/-- The domains rest in reset before an input loss's restart, and trust is decided anew (R97, R98). -/
def restartAfterLoss (s : State) : State := inputLossRestart (packPending (resetDomains s false))

/-- VIN has returned while start-up had not begun again, or the device rests after an emergency order (R90, R98, R580). -/
def returnedAtRest (s : State) : State :=
  match s.power.pendingRecords.getLast? with
  | some (.startAbandoned, _) | some (.hardReset, _) => startFromVin s
  | some (.emergency, _) => if s.power.uvlo then restartAfterLoss s else s
  | _ => s

/-- VIN_RETURNED: the loss is measured (R99), and what it led to ends: the ride-through on the pack, the wait after the emergency order, or the rest of an
abandoned start-up. A running emergency order goes on (R97). -/
def actVinReturned (lossUs : Nat) (s : State) : State :=
  if !s.power.vinLost then s
  else
    let s : State := { s with power := { s.power with vinLost := false, vinOv := false } }
    if !s.power.vaonValid || s.power.step = .supplyFailed then s
    else if s.power.step = .idle then
      (match s.aocb.pstate, s.power.pendingRecords with
        | .ship, _ | _, [] => s
        | _, _ :: _ => returnedAtRest (setLossDur s lossUs))
    else
      let s := raise (setLossDur s lossUs) 494
      if s.power.emergWait then (restartAfterLoss s)
      else if s.aocb.pstate = .emergency then s
      else if s.onPack && !s.power.hardReset then (offPack s)
      else ({ s with power := { s.power with batg := false, insw := true } }.set 0x2010 4 0)

/-- VIN_LOST, for good or with VIN back within the 5 µs that R83 leaves before the emergency order starts (`back`, in µs): then a loss that would have ended in that
order is ridden through on hold-up, and any other one ends as VIN_RETURNED ends it. -/
def actVinLost (overVoltage : Bool) (back : Option (Fin 5)) (same : Bool) (s : State) : State :=
  match back with
  | none => vinStaysLost s overVoltage same
  | some us =>
    if s.judgesVin && !s.inEmergency && s.collapses then ridesHoldUp s us.val
    else actVinReturned us.val (vinStaysLost s overVoltage same)

/-- EMERGENCY_ORDER_END: with VIN back the device restarts (R97); else it waits in reset with TOLL low and the fans free (R98). -/
def actEmergencyOrderEnd (s : State) : State :=
  if s.aocb.pstate ≠ .emergency || s.power.emergWait || s.seq.run.isSome || !s.seq.parallel || !s.railsDown then s
  else if !s.power.vinLost then (restartAfterLoss s)
  else
    let s := disarm (resetDomains s false)
    { s with power := { s.power with emergWait := true }, aocb := { s.aocb with target := .emergency } }

/-- VSYS_UVLO: the self-bucks stop, and every domain but AON and SUP is held in reset (R86). -/
def actVsysUvlo (s : State) : State :=
  if !s.power.vaonValid || s.power.uvlo then s
  else
    let p := s.power
    let rests := decide (p.step ≠ .idle) && decide (p.step ≠ .supplyFailed) && !p.hardReset
    let s := if rests && !s.inEmergency then clearLost s else s
    let s := (disarm (resetDomains s false)).set 0x2010 4 3
    let p : Power := { s.power with uvlo := true, selfBuck := .stopped, batg := false }
    { s with power := if rests then
        { p with step := .idle, interruption := false
                 pendingRecords := if (p.interruption && !s.inEmergency) || p.pendingRecords = [] then p.pendingRecords ++ [(.emergency, none)] else p.pendingRecords }
      else p }

/-! ### Hard resets (R68, R91, R543, R580, R582) -/

/-- RESET_N is low, and a hard reset follows (R68). -/
def resetNFalls (s : State) (same : Bool) : State := hardReset { s with power := { s.power with resetNLow := true } } .resetN 0 same

/-- RESET_N_PULSE: 10 µs or more resets, below 1 µs is ignored, and between the two it may or may not (free; log entry 4). RESET_N stays low until it is released
(RESET_N_RELEASE). -/
def actResetNPulse (widthNs : Nat) (same : Bool) (s : State) : State :=
  if widthNs < 1000 then s
  else if 10000 ≤ widthNs then (resetNFalls s same)
  else (if Config.resetPulse s.draws then resetNFalls s.draw same else s.draw)

/-- HARD_RESET_ORDER_END: the domains are held in reset; then a long press holds BATG off, a device on the pack waits in OFF (R580), or start-up resumes (R91). -/
def actHardResetOrderEnd (s : State) : State :=
  if !s.power.hardReset || s.power.batgHeld || s.seq.run.isSome || !s.railsDown then s
  else
    let s := resetDomains s false
    let s : State := if s.power.interruption then
        (let t := lossEnds s .hardReset
         { t with power := { t.power with interruption := false } })
      else s
    let onPack := s.onPack
    let s : State := if onPack then { s with power := { s.power with batg := false } }.set 0x2010 4 3 else s
    (if s.pack.pressHold then
        { s with power := { s.power with batg := false, batgHeld := true }, pack := { s.pack with stageOff := true } }
      else if onPack then
        { s with power := { s.power with step := .idle, selfBuck := .stopped, hardReset := false, armedRise := false }
                 aocb := { s.aocb with pstate := .off, target := .off } }
      else resumeStartup s)

/-! ### The watchdog (R92, R136, R681) -/

/-- WATCHDOG_SERVICE: firmware's service, which a running core alone can give (R390), sets the timeout and lets TOLL toggle again after a debug halt (R368); the
boot ROM's and the loader's restart 1.000 s. An expiry that has come stays (R31). -/
def actWatchdogService (firmware : Bool) (s : State) : State :=
  let w := s.power.watchdog
  if !w.armed || s.update.restarting || (firmware && (!s.up || s.tabor.run != .running)) then s
  else if firmware then
    { s with power := { s.power with watchdog := { w with byFirmware := true, timeoutMs := s.get 0x2012 1 } }
             tabor := { s.tabor with tollHeld := false } }
  else (if w.byFirmware then s else { s with power := { s.power with watchdog := { w with timeoutMs := 1000 } } })

/-- The qualifier of an expiry (R92, R136, R681). Where XIN is lost after an update's Start has stopped the servicing, R75 and R681 each name one; the model
gives UPDATE_RESTART (the model's choice, log entry 196). -/
def State.watchdogQual (s : State) : Nat :=
  if s.update.restarting then 4
  else if !s.clocks.xin then 1
  else if !s.clocks.pllA then 5
  else if !s.power.watchdog.byFirmware then 2
  else 3

/-- WATCHDOG_EXPIRY: armed, not stopped by a debug halt (R368), and not expired before. Where the reset starts nothing (R104) the watchdog stays armed and
expired. -/
def actWatchdogExpiry (same : Bool) (s : State) : State :=
  if s.power.watchdog.armed && !s.power.watchdog.expired && s.tabor.run != .halted then
    (let t := hardReset s .watchdog s.watchdogQual same
     if t.power.watchdog.armed then { t with power := { t.power with watchdog := { t.power.watchdog with expired := true } } } else t)
  else s

/-! ### Losses of XIN and of lock (R75, R134 to R136, R637, R705) -/

/-- Every PWM output goes to high impedance: rails with phases are off, without the reports that SYS would make (R75). -/
def floatRails (s : State) : State :=
  (List.range 16).foldl (fun t n => if (t.rail n).enabled && !t.monitor n then railOff t n else t) s

/-- XIN_LOSS in operation: the PLLs are held in reset, SYS stops; PWM and fan outputs go to high impedance and touch transmit stops. -/
def actXinLoss (s : State) : State :=
  if !s.clocks.xin then s
  else
    let s := floatRails s
    { s with
      clocks := { s.clocks with xin := false, pllsHeld := true, pllA := false, pllB := false, pllC := false, pllD := false }
      thermal := { s.thermal with running := false } }

/-- PLL_A_LOSS: SYS stops, with the downbeat (R136). -/
def actPllALoss (s : State) : State := { s with clocks := { s.clocks with pllA := false } }

/-- PLL_B_LOSS. -/
def actPllBLoss (s : State) : State :=
  if !s.clocks.pllB then s
  else
    let s : State := { s with clocks := { s.clocks with pllB := false } }
    (if s.up then lossOfB s else s)

/-- PLL_C_LOSS. -/
def actPllCLoss (s : State) : State :=
  if !s.clocks.pllC then s
  else
    let s : State := { s with clocks := { s.clocks with pllC := false } }
    (if s.up then lossOfC s else s)

/-- PLL_D_LOSS: a fault PWM_LOSS on every enabled rail that has phases; a monitor rail goes on (R136, R546). -/
def actPllDLoss (s : State) : State :=
  if !s.clocks.pllD then s
  else
    let s : State := { s with clocks := { s.clocks with pllD := false } }
    (afterFault (faultAll s ((List.range 16).filter (fun n => !s.monitor n)) 6))

/-- PLL_RELOCK of PLL A to D (0 to 3): engines stopped restart at the next downbeat, and rails that wait for PLL D retry. PLL A's loss ends in the watchdog's
reset, and after a loss of XIN no PLL relocks (R75, R136). -/
def actPllRelock (pll : Fin 4) (s : State) : State :=
  if s.clocks.pllsHeld || !s.clocks.xin || !s.clocks.pllA then s
  else (match pll.val with
    | 1 => { s with clocks := { s.clocks with pllB := true } }
    | 2 => { s with clocks := { s.clocks with pllC := true } }
    | 3 => (List.range 16).foldl tryRetry { s with clocks := { s.clocks with pllD := true } }
    | _ => s)

end Sys2Proof.Machine
end

