-- ==== Sys2Proof/Machine/MeaningsPower.lean ====
section
/-! DEFINITION. The meanings of the commands of power: start-up, resets and the power path (chapter 3), the regulator, the sequencer and supervision (13, 14), the pack and the charger (15), thermal and fans (16): each command's own effect, then what follows it of itself (`Machine/Settle.lean`). -/

namespace Sys2Proof.Machine

/-! ### `Machine/Startup.lean` -/

/-- VAON_VALID. -/
def execVaonValid (tcrit1 tcrit0 : Option Nat) (lfCrystal : Bool) (s : State) : Result := observed (actVaonValid tcrit1 tcrit0 lfCrystal s)

/-- VAON_LOSS. -/
def execVaonLoss (s : State) : Result := observed (actVaonLoss s)

/-- VIN_VALID_RISE. -/
def execVinValidRise (s : State) : Result := observed (actVinValidRise s)

/-- SELF_BUCK_CHECK. -/
def execSelfBuckCheck (ok : Bool) (s : State) : Result := observed (actSelfBuckCheck ok s)

/-- SELF_BUCK_RETRY. -/
def execSelfBuckRetry (s : State) : Result := observed (actSelfBuckRetry s)

/-- STARTUP_CLOCKS_STEP. -/
def execStartupClocksStep (xin trimBad : Bool) (ratio1 ratio0 : Nat) (bootsel : Option Nat) (s : State) : Result := observed (actStartupClocksStep xin trimBad ratio1 ratio0 bootsel s)

/-- XIN_ABSENT_RECHECK. -/
def execXinAbsentRecheck (xin trimBad : Bool) (ratio1 ratio0 : Nat) (bootsel : Option Nat) (s : State) : Result := observed (actXinAbsentRecheck xin trimBad ratio1 ratio0 bootsel s)

/-- STARTUP_LBIST_SLOT. -/
def execStartupLbistSlot (pass passAgain : Bool) (s : State) : Result := observed (actStartupLbistSlot pass passAgain s)

/-- BOOT_ROM_START. -/
def execBootRomStart (found : BootFindings) (s : State) : Result := observed (actBootRomStart found s)

/-- FIRMWARE_START. -/
def execFirmwareStart (s : State) : Result := observed (actFirmwareStart s)

/-- RECOVERY_LOADER_START. -/
def execRecoveryLoaderStart (s : State) : Result := observed (actRecoveryLoaderStart s)

/-- RESET_N_RELEASE. -/
def execResetNRelease (s : State) : Result := observed (actResetNRelease s)

/-! ### `Machine/Power.lean` -/

/-- VIN_LOST. -/
def execVinLost (overVoltage : Bool) (back : Option (Fin 5)) (same : Bool) (s : State) : Result := observed (actVinLost overVoltage back same s)

/-- VIN_OVERVOLTAGE_FALL. -/
def execVinOvervoltageFall (s : State) : Result := observed (actVinOvervoltageFall s)

/-- VIN_RETURNED. -/
def execVinReturned (lossUs : Nat) (s : State) : Result := observed (actVinReturned lossUs s)

/-- EMERGENCY_ORDER_END. -/
def execEmergencyOrderEnd (s : State) : Result := observed (actEmergencyOrderEnd s)

/-- VSYS_UVLO. -/
def execVsysUvlo (s : State) : Result := observed (actVsysUvlo s)

/-- RESET_N_PULSE. -/
def execResetNPulse (widthNs : Nat) (same : Bool) (s : State) : Result := observed (actResetNPulse widthNs same s)

/-- HARD_RESET_ORDER_END. -/
def execHardResetOrderEnd (s : State) : Result := observed (actHardResetOrderEnd s)

/-- WATCHDOG_SERVICE. -/
def execWatchdogService (firmware : Bool) (s : State) : Result := observed (actWatchdogService firmware s)

/-- WATCHDOG_EXPIRY. -/
def execWatchdogExpiry (same : Bool) (s : State) : Result := observed (actWatchdogExpiry same s)

/-- XIN_LOSS. -/
def execXinLoss (s : State) : Result := observed (actXinLoss s)

/-- PLL_A_LOSS. -/
def execPllALoss (s : State) : Result := observed (actPllALoss s)

/-- PLL_B_LOSS. -/
def execPllBLoss (s : State) : Result := observed (actPllBLoss s)

/-- PLL_C_LOSS. -/
def execPllCLoss (s : State) : Result := observed (actPllCLoss s)

/-- PLL_D_LOSS. -/
def execPllDLoss (s : State) : Result := observed (actPllDLoss s)

/-- PLL_RELOCK. -/
def execPllRelock (pll : Fin 4) (s : State) : Result := observed (actPllRelock pll s)

/-! ### `Machine/Pack.lean` -/

/-- OFF_ENTRY. -/
def execOffEntry (s : State) : Result := observed (actOffEntry s)

/-- TERMINATION_TIMEOUT. -/
def execTerminationTimeout (written : Bool) (back : PackRead) (s : State) : Result := observed (actTerminationTimeout written back s)

/-- TOPOFF_EXPIRY. -/
def execTopoffExpiry (written : Bool) (back : PackRead) (s : State) : Result := observed (actTopoffExpiry written back s)

/-- CHARGER_CONFIGURATION_WRITE. -/
def execChargerConfigurationWrite (port : Port) (sub value : Nat) (s : State) : Result := observed (actChargerConfigurationWrite port sub value s)

/-- DISCHARGE_CUTOFF. -/
def execDischargeCutoff (packMv : Nat) (s : State) : Result := observed (actDischargeCutoff packMv s)

/-- PACK_REMOVAL. -/
def execPackRemoval (answers : Bool) (s : State) : Result := observed (actPackRemoval answers s)

/-- PACK_INSERTION. -/
def execPackInsertion (s : State) : Result := observed (actPackInsertion s)

/-- SHORT_PRESS. -/
def execShortPress (s : State) : Result := observed (actShortPress s)

/-- SERVICE_REQUEST. -/
def execServiceRequest (s : State) : Result := observed (actServiceRequest s)

/-- LONG_PRESS. -/
def execLongPress (same : Bool) (s : State) : Result := observed (actLongPress same s)

/-- LONG_PRESS_HOLD_EXPIRY. -/
def execLongPressHoldExpiry (s : State) : Result := observed (actLongPressHoldExpiry s)

/-- PRESS_IGNORED. -/
def execPressIgnored (s : State) : Result := observed (actPressIgnored s)

/-- SHIP_EXIT_PRESS. -/
def execShipExitPress (s : State) : Result := observed (actShipExitPress s)

/-- SHIP_ENTRY. -/
def execShipEntry (written : Bool) (back : PackRead) (s : State) : Result := observed (actShipEntry written back s)

/-- SHIP_EXIT_VIN. -/
def execShipExitVin (s : State) : Result := observed (actShipExitVin s)

/-- AUTHENTICATION_EXCHANGE. -/
def execAuthenticationExchange (ident : PackRead) (written : Bool) (s : State) : Result := observed (actAuthenticationExchange ident written s)

/-- AUTHENTICATION_RESPONSE. -/
def execAuthenticationResponse (response life : PackRead) (written : Bool) (back : PackRead) (s : State) : Result := observed (actAuthenticationResponse response life written back s)

/-- RUN_EXCHANGE. -/
def execRunExchange (port : Port) (s : State) : Result := observed (actRunExchange port s)

/-- EXCHANGE_PERIODIC. -/
def execExchangePeriodic (s : State) : Result := observed (actExchangePeriodic s)

/-- WRITE_BACK_LIFE_RECORD. -/
def execWriteBackLifeRecord (port : Port) (written : Bool) (back : PackRead) (s : State) : Result := observed (actWriteBackLifeRecord port written back s)

/-- LIFE_WRITE_BACK_HOURLY. -/
def execLifeWriteBackHourly (written : Bool) (back : PackRead) (s : State) : Result := observed (actLifeWriteBackHourly written back s)

/-- PACK_POLL. -/
def execPackPoll (values : List (Option Nat)) (serial : Option Nat) (s : State) : Result := observed (actPackPoll values serial s)

/-- PACK_AGE_UPDATE. -/
def execPackAgeUpdate (s : State) : Result := observed (actPackAgeUpdate s)

/-- VIN_VALID_FALL. -/
def execVinValidFall (s : State) : Result := observed (actVinValidFall s)

/-! ### `Machine/Charger.lean` -/

/-- CHARGE_CYCLE_START. -/
def execChargeCycleStart (s : State) : Result := observed (actChargeCycleStart s)

/-- RECHARGE_TIMEOUT. -/
def execRechargeTimeout (s : State) : Result := observed (actRechargeTimeout s)

/-- CHARGE_TIMER_EXPIRY. -/
def execChargeTimerExpiry (total : Bool) (s : State) : Result := observed (actChargeTimerExpiry total s)

/-- CLEAR_CHARGER_FAULT. -/
def execClearChargerFault (port : Port) (s : State) : Result := observed (actClearChargerFault port s)

/-- CHARGE_OVERVOLTAGE. -/
def execChargeOvervoltage (packMv : Nat) (s : State) : Result := observed (actChargeOvervoltage packMv s)

/-- CHARGE_STAGE_FAULT. -/
def execChargeStageFault (switching : Bool) (packMa : Nat) (s : State) : Result := observed (actChargeStageFault switching packMa s)

/-- CHARGE_CYCLE_RESUME. -/
def execChargeCycleResume (s : State) : Result := observed (actChargeCycleResume s)

/-! ### `Machine/Sequencer.lean` -/

/-- TARGET_VOLTAGE_WRITE. -/
def execTargetVoltageWrite (port : Port) (rail : Fin 16) (mv : Nat) (s : State) : Result := observed (actTargetVoltageWrite port rail mv s)

/-- TMON_SHUTDOWN. -/
def execTmonShutdown (group : Fin 4) (uv : Nat) (s : State) : Result := observed (actTmonShutdown group uv s)

/-- DIE_SHUTDOWN. -/
def execDieShutdown (sensor : Fin 4) (tenths : Int) (s : State) : Result := observed (actDieShutdown sensor tenths s)

/-- POWER_STATE_REQUEST. -/
def execPowerStateRequest (port : Port) (code : Nat) (s : State) : Result := observed (actPowerStateRequest port code s)

/-- APPLY_ORDERS. -/
def execApplyOrders (port : Port) (s : State) : Result := observed (actApplyOrders port s)

/-- ENABLE. -/
def execSeqEnable (sourcedUv sunkUv : Nat) (s : State) : Result := observed (actSeqEnable sourcedUv sunkUv s)

/-- RETARGET. -/
def execSeqRetarget (s : State) : Result := observed (actSeqRetarget s)

/-- DISABLE. -/
def execSeqDisable (s : State) : Result := observed (actSeqDisable s)

/-- WAIT_RAIL. -/
def execSeqWaitRail (s : State) : Result := observed (actSeqWaitRail s)

/-- EXEN_HIGH. -/
def execSeqExenHigh (s : State) : Result := observed (actSeqExenHigh s)

/-- EXEN_LOW. -/
def execSeqExenLow (s : State) : Result := observed (actSeqExenLow s)

/-- WAIT_PG. -/
def execSeqWaitPg (high : Bool) (s : State) : Result := observed (actSeqWaitPg high s)

/-- WAIT_PG_LOW. -/
def execSeqWaitPgLow (high : Bool) (s : State) : Result := observed (actSeqWaitPgLow high s)

/-- DELAY. -/
def execSeqDelay (s : State) : Result := observed (actSeqDelay s)

/-- LINK_ON. -/
def execSeqLinkOn (s : State) : Result := observed (actSeqLinkOn s)

/-- LINK_OFF. -/
def execSeqLinkOff (s : State) : Result := observed (actSeqLinkOff s)

/-- END. -/
def execSeqEnd (s : State) : Result := observed (actSeqEnd s)

/-- STEP_WAIT_SATISFIED. -/
def execStepWaitSatisfied (s : State) : Result := observed (actStepWaitSatisfied s)

/-- STEP_WAIT_TIMEOUT. -/
def execStepWaitTimeout (s : State) : Result := observed (actStepWaitTimeout s)

/-- TRANSITION_RETRY. -/
def execTransitionRetry (s : State) : Result := observed (actTransitionRetry s)

/-- ON_PACK_DWELL_EXPIRY. -/
def execOnPackDwellExpiry (s : State) : Result := observed (actOnPackDwellExpiry s)

/-- SUPERVISOR_FAULT. -/
def execSupervisorFault (rail : Fin 16) (cause : Fin 3) (value : Nat) (s : State) : Result := observed (actSupervisorFault rail cause value s)

/-- RETRY_DELAY_EXPIRY. -/
def execRetryDelayExpiry (rail : Fin 16) (s : State) : Result := observed (actRetryDelayExpiry rail s)

/-- RETRY_COUNT_RESET. -/
def execRetryCountReset (rail : Fin 16) (s : State) : Result := observed (actRetryCountReset rail s)

/-- CLEAR_LATCH. -/
def execClearLatch (port : Port) (rail : Fin 16) (sourcedUv sunkUv : Nat) (s : State) : Result := observed (actClearLatch port rail sourcedUv sunkUv s)

/-- SETTLE_TIME_EXPIRY. -/
def execSettleTimeExpiry (rail : Fin 16) (s : State) : Result := observed (actSettleTimeExpiry rail s)

/-- EXPG_LOSS. -/
def execExpgLoss (n : Fin 8) (s : State) : Result := observed (actExpgLoss n s)

/-- SUPERVISOR_COMPARATOR_RELEASE. -/
def execSupervisorComparatorRelease (rail : Fin 16) (cause : Fin 3) (value : Nat) (s : State) : Result := observed (actSupervisorComparatorRelease rail cause value s)

/-! ### `Machine/Regulator.lean` -/

/-- SETPOINT_STEP. -/
def execSetpointStep (s : State) : Result := observed (actSetpointStep s)

/-- LOOP_SAMPLE. -/
def execLoopSample (rail : Fin 16) (senseUv : Nat) (imonUv : List Nat) (s : State) : Result := observed (actLoopSample rail senseUv imonUv s)

/-- PWM_PERIOD_START. -/
def execPwmPeriodStart (phase : Fin 16) (now imonUv : Nat) (closing : Int) (s : State) : Result := observed (actPwmPeriodStart phase now imonUv closing s)

/-- DELAY_LINE_UNLOCK. -/
def execDelayLineUnlock (bank : Fin 4) (s : State) : Result := observed (actDelayLineUnlock bank s)

/-- DELAY_LINE_RELOCK. -/
def execDelayLineRelock (bank : Fin 4) (s : State) : Result := observed (actDelayLineRelock bank s)

/-- SYNCIN_PULSE. -/
def execSyncinPulse (now : Nat) (s : State) : Result := observed (actSyncinPulse now s)

/-- SYNCIN_LOSS. -/
def execSyncinLoss (s : State) : Result := observed (actSyncinLoss s)

/-! ### `Machine/Supervision.lean` -/

/-- SHUTDOWN_RELEASE. -/
def execShutdownRelease (comparator : Fin 8) (value : Int) (s : State) : Result := observed (actShutdownRelease comparator value s)

/-! ### `Machine/Thermal.lean` -/

/-- DIODE_BIAS_TOGGLE. -/
def execDiodeBiasToggle (s : State) : Result := observed (actDiodeBiasToggle s)

/-- TCRIT_MEASUREMENT. -/
def execTcritMeasurement (diet : Int) (s : State) : Result := observed (actTcritMeasurement diet s)

/-- TCRIT_DISAGREE. -/
def execTcritDisagree (differs : Bool) (s : State) : Result := observed (actTcritDisagree differs s)

/-- TACH_EDGE. -/
def execTachEdge (fan : Fin 4) (now : Nat) (s : State) : Result := observed (actTachEdge fan now s)

/-- TACH_TIMEOUT. -/
def execTachTimeout (fan : Fin 4) (s : State) : Result := observed (actTachTimeout fan s)

/-- FAN_LOOP_TICK. -/
def execFanLoopTick (s : State) : Result := observed (actFanLoopTick s)

/-- SPINUP_END. -/
def execSpinupEnd (fan : Fin 4) (s : State) : Result := observed (actSpinupEnd fan s)

/-- STALL_ALARM_CLEAR. -/
def execStallAlarmClear (fan : Fin 4) (s : State) : Result := observed (actStallAlarmClear fan s)

/-- SPEED_ALARM. -/
def execSpeedAlarm (fan : Fin 4) (kind : Fin 3) (s : State) : Result := observed (actSpeedAlarm fan kind s)

/-- APPLY_CURVE. -/
def execApplyCurve (port : Port) (fan : Fin 4) (s : State) : Result := observed (actApplyCurve port fan s)

/-- CLEAR_ALARMS. -/
def execClearAlarms (port : Port) (fan : Fin 4) (s : State) : Result := observed (actClearAlarms port fan s)

end Sys2Proof.Machine
end

