-- ==== Sys2Proof/Machine/Debug.lean ====
section
/-!
DEFINITION. The debug access port (R715, R719, Table 19.6): halting, stepping and resuming the core (R365 to R369), its registers and memory while it is halted,
breakpoints and watchpoints, and object requests with the rights of port D.
-/

namespace Sys2Proof.Machine

/-! ### Halting (R365 to R368) -/

/-- A halt request: at the next instruction boundary, which is now unless a LOCK sequence or an instruction that waits is under way. -/
def requestHalt (s : State) : State :=
  let t := s.tabor
  if t.held || t.run == .halted || t.run == .stopped then s
  else if t.core.lock.isSome || t.blocked.isSome || !s.clocks.pllA then { s with tabor := { t with haltDue := true } }
  else if t.run = .waiting then endWait { s with tabor := { t with haltDue := true } }
  else haltNow s 1 false

/-- A forced halt: inside a LOCK sequence it breaks it and halts at the LOCK (R366). -/
def forceHalt (s : State) : State :=
  if s.core.lock.isNone then requestHalt s
  else
    let s := haltNow ((breakLock s).count 0x2802 1) 2 false
    s.setCore { s.core with cst := { s.core.cst with lockBrk := true } }

/-- A halted core goes on; LOCKBRK and DEFERRED clear (R366). -/
def resumeCore (s : State) (one : Bool) : State :=
  if s.tabor.run ≠ .halted then s
  else
    let c := { s.core with cst := { s.core.cst with halted := false, lockBrk := false, deferred := false } }
    { s with tabor := { s.tabor with core := c, run := if s.up then .running else .boot, stepOne := one } }

/-! ### Registers and memory of the halted core (R369) -/

/-- A register as the debug port reads it: bit 5 of its number names a special register. -/
def debugRegister (s : State) (sel : Nat) : Word :=
  if bit sel 5 then
    if sel % 32 ≤ maxSpecial then s.core.special s.core.cstWord (sel % 32) else 0#32
  else s.core.reg (sel % 32)

/-- CST as the debug port writes it: what it records of the last halt; HALTED and INLOCK stand. -/
def Cst.written (c : Cst) (w : Nat) : Cst :=
  { c with
    lockBrk := bit w 15, double := bit w 14, deferred := bit w 11, hcause := bits w 8 3, wphit := bits w 6 2, bphit := bits w 2 4, user := bit w 1 }

/-- A register written by the debug port, as MTS writes it, and CST (Table 9.2). -/
def setDebugRegister (s : State) (sel : Nat) (v : Word) : State :=
  if bit sel 5 then
    if sel % 32 = 16 then s.setCore { s.core with cst := s.core.cst.written v.toNat } else s.setCore (s.core.setSpecial (sel % 32) v)
  else s.setCore (s.core.setReg (sel % 32) v)

/-- The frame of a page for a debug read, through micro-TLB 11: nothing is installed or marked. -/
def State.debugFrame (s : State) (v : Nat) : Option Nat :=
  match ((nth s.mem.micro 11 []) ++ s.mem.main).find? (fun e => e.page == v) with
  | some e => some e.frame
  | none =>
    match s.walkPure v .read with
    | .ok f _ => some f
    | _ => none

/-- A word of memory as the halted core's debug port reads it; none is an error status. Nothing is changed. -/
def State.debugRead (s : State) (addr : Nat) : Option Nat :=
  let at_ := fun (p : Nat) => if s.mem.eccOf p 4 = some .double then none else some (fromLE (s.mem.read p 4))
  if addr < 0x10000000 then (s.debugFrame (addr / 4096)).bind (fun f => at_ (f * 4096 + addr % 4096))
  else if 0x80000000 ≤ addr && addr < 0x80400000 then at_ (addr - 0x80000000)
  else if 0xFFFF0000 ≤ addr then some (fromLE (romBytes addr 4))
  else none

/-- A word of memory written by the debug port; false is an error status. -/
def debugWrite (s : State) (addr : Nat) (v : Word) : State × Bool :=
  let data := toLE 4 v.toNat
  if addr < 0x10000000 then
    match objWrite s 11 addr data with
    | (s, .done) => (s, true)
    | (s, _) => (s, false)
  else if 0x80000000 ≤ addr && addr < 0x80400000 then
    match storeEcc s (addr - 0x80000000) 4 with
    | (s, false) => ({ s with mem := s.mem.store (addr - 0x80000000) data }, true)
    | (s, true) => (s, false)
  else (s, false)

/-! ### Object requests (R142, R154, R719) -/

/-- The debug access port replaced. -/
def State.setDap (s : State) (d : Dap) : State := { s with test := { s.test with dap := d } }

/-- A status that came at once. -/
def dapEnds (s : State) (st : Status) (data : List Nat) : State := (s.reply .D st data).setDap (s.test.dap.finish st data)

/-- The bytes that the ORW's LENGTH asks for. -/
def Dap.segLength (d : Dap) : Nat := if bits d.orw 0 8 = 0 then 256 else bits d.orw 0 8

/-- A segment write collects its bytes. -/
def Dap.collecting (d : Dap) : Bool := bits d.orw 60 3 == 3 && !d.busy && !d.done && decide (d.seg.length < d.segLength)

/-- The request in the ORW registers is made: a write carries as many bytes as its object has, of at most eight. -/
def dapRequest (s : State) (data : List Nat) : State :=
  let d := s.test.dap
  let s := s.setDap { d with busy := true, done := false }
  match orwRequest s .D 0 d.orw data with
  | (t, some (st, bytes)) =>
    if bits d.orw 60 3 = 2 then
      let u := dapEnds t st []
      u.setDap { u.test.dap with seg := bytes, segPos := 0 }
    else dapEnds t st bytes
  | (t, none) => t

/-- A write of 0x02 starts a request; a segment write first takes its bytes through 0x06. -/
def dapStart (s : State) : State :=
  let d := s.test.dap
  if bits d.orw 60 3 = 3 then s.setDap { d with done := false, seg := [], segPos := 0 }
  else dapRequest s (toLE (min 8 (s.sizeNow .D (bits d.orw 40 16) (bits d.orw 32 8))) d.data)

/-- Four bytes through the segment window. -/
def dapSegment (s : State) (write : Bool) (v : Nat) : State :=
  let d := s.test.dap
  if !write then s.setDap { d with segPos := d.segPos + 4 }
  else if !d.collecting then s
  else
    let seg := (d.seg ++ toLE 4 v).take d.segLength
    let s := s.setDap { d with seg := seg, segPos := d.segPos + 4 }
    if seg.length < d.segLength then s else dapRequest s seg

/-! ### The registers (Table 19.6) -/

/-- The access a register needs; none where it names no register. -/
def dapNeeds (r : Nat) : Option Access :=
  if r = 0 then some .locked
  else if r ≤ 6 || r = 9 then some .observe
  else if r = 8 || (0x0A ≤ r && r ≤ 0x0D) || (0x10 ≤ r && r ≤ 0x14) || (0x18 ≤ r && r ≤ 0x1C) then some .full
  else none

/-- DAPSTAT. -/
def State.dapStat (s : State) : Nat :=
  128 * b2n s.test.dap.denied + 64 * b2n s.test.dap.busy + 16 * s.test.access.code + (if s.test.field then 7 else 3)

/-- The halted core can be reached. -/
def State.debugReach (s : State) : Bool := s.tabor.run == .halted

/-- A register's value as captured; none is an error status. -/
def State.dapRead (s : State) (r : Nat) : Option Nat :=
  let d := s.test.dap
  if r = 0 then some s.dapStat
  else if r = 1 then some (bits d.orw 0 32)
  else if r = 2 then some (bits d.orw 32 32)
  else if r = 3 then some (bits d.data 0 32)
  else if r = 4 then some (bits d.data 32 32)
  else if r = 5 then some (2 ^ 31 * b2n d.done + bits d.status 0 8)
  else if r = 6 then some (fromLE ((d.seg.drop d.segPos).take 4))
  else if r = 9 then some s.core.cstWord
  else if r = 0x0A then some d.regSel
  else if r = 0x0B then if s.debugReach then some (debugRegister s d.regSel).toNat else none
  else if r = 0x0C then some d.memAddr
  else if r = 0x0D then if s.debugReach then s.debugRead d.memAddr else none
  else if 0x10 ≤ r && r ≤ 0x13 then some (nth s.tabor.breakAddr (r - 0x10) 0)
  else if r = 0x14 then some s.tabor.breakOn
  else if 0x18 ≤ r && r ≤ 0x1B then some (nth s.tabor.watchAddr (r - 0x18) 0)
  else if r = 0x1C then some s.tabor.watchOn
  else some 0

/-- What a read does besides: the two windows advance. -/
def dapReadEffect (s : State) (r : Nat) : State :=
  let d := s.test.dap
  if r = 6 then dapSegment s false 0
  else if r = 0x0D then s.setDap { d with memAddr := (d.memAddr + 4) % 2 ^ 32 }
  else s

/-- A command of the core control register. -/
def coreControl (s : State) (v : Nat) : State :=
  if v = 1 then requestHalt s
  else if v = 2 then forceHalt s
  else if v = 3 then resumeCore s false
  else if v = 4 then resumeCore s true
  else s

/-- A register written; false is an error status. While a request runs its registers take no write. -/
def dapWrite (s : State) (r v : Nat) : State × Bool :=
  let d := s.test.dap
  let t := s.tabor
  if 1 ≤ r && r ≤ 6 && d.busy then (s, true)
  else if r = 1 then (s.setDap { d with orw := d.orw / 2 ^ 32 * 2 ^ 32 + v }, true)
  else if r = 2 then (dapStart (s.setDap { d with orw := d.orw % 2 ^ 32 + v * 2 ^ 32 }), true)
  else if r = 3 then (s.setDap { d with data := d.data / 2 ^ 32 * 2 ^ 32 + v }, true)
  else if r = 4 then (s.setDap { d with data := d.data % 2 ^ 32 + v * 2 ^ 32 }, true)
  else if r = 6 then (dapSegment s true v, true)
  else if r = 8 then (coreControl s v, true)
  else if r = 0x0A then (s.setDap { d with regSel := v % 64 }, true)
  else if r = 0x0B then if s.debugReach then (setDebugRegister s d.regSel (BitVec.ofNat 32 v), true) else (s, false)
  else if r = 0x0C then (s.setDap { d with memAddr := v / 4 * 4 }, true)
  else if r = 0x0D then
    if !s.debugReach then (s, false)
    else
      match debugWrite s d.memAddr (BitVec.ofNat 32 v) with
      | (s, true) => (s.setDap { d with memAddr := (d.memAddr + 4) % 2 ^ 32 }, true)
      | r => r
  else if 0x10 ≤ r && r ≤ 0x13 then ({ s with tabor := { t with breakAddr := t.breakAddr.set (r - 0x10) (v / 4 * 4) } }, true)
  else if r = 0x14 then ({ s with tabor := { t with breakOn := v % 16 } }, true)
  else if 0x18 ≤ r && r ≤ 0x1B then ({ s with tabor := { t with watchAddr := t.watchAddr.set (r - 0x18) v } }, true)
  else if r = 0x1C then ({ s with tabor := { t with watchOn := v % 16 } }, true)
  else (s, true)

/-- DENIED, which tells of a refusal and of an error status; a read of DAPSTAT leaves it. -/
def denied (s : State) (v : Bool) : State := s.setDap { s.test.dap with denied := v }

/-- An access of a DAP register (R715): one that the access in force does not allow reads 0, ignores writes and sets DENIED. -/
def dapAccess (s : State) (write : Bool) (reg data : Nat) : State :=
  let r := reg % 128
  let v := data % 2 ^ 32
  let out := fun (t : State) (x : Nat) => ({ t with tdo := (r <<< 32) + x } : State)
  match dapNeeds r with
  | none => out s 0
  | some a =>
    if s.test.access.code < a.code then out (denied s true) 0
    else if write then
      match dapWrite s r v with
      | (t, ok) => out (if r = 0 then t else denied t (!ok)) v
    else
      match s.dapRead r with
      | none => out (denied s true) 0
      | some x => out (if r = 0 then s else denied (dapReadEffect s r) false) x

/-- An access through the DAP instruction. -/
def viaDap (s : State) (write : Bool) (reg data : Nat) : State := tapCommand s .dap (fun t => dapAccess t write reg data)

/-! ### The commands -/

/-- DAP (R715). -/
def actJtagDap (write : Bool) (reg data : Nat) (s : State) : State := viaDap s write reg data

/-- HALT_REQUEST (R365): 1 to core control. -/
def actHaltRequest (s : State) : State := viaDap s true 8 1

/-- FORCED_HALT (R366): 2 to core control. -/
def actForcedHalt (s : State) : State := viaDap s true 8 2

/-- RESUME (R366): 3 to core control. -/
def actResume (s : State) : State := viaDap s true 8 3

/-- STEP (R367): 4 to core control. The instruction stepped is the next that comes. -/
def actStep (s : State) : State := viaDap s true 8 4

/-- DEBUG_REGISTER_ACCESS (R369): register select, then register data. -/
def actDebugRegisterAccess (reg : Nat) (write : Option Word) (s : State) : State :=
  tapCommand s .dap (fun t =>
    let t := dapAccess t true 0x0A reg
    match write with
    | some v => dapAccess t true 0x0B v.toNat
    | none => dapAccess t false 0x0B 0)

/-- DEBUG_MEMORY_ACCESS (R369): the word at the memory address, which advances. -/
def actDebugMemoryAccess (write : Option Word) (s : State) : State :=
  match write with
  | some v => viaDap s true 0x0D v.toNat
  | none => viaDap s false 0x0D 0

/-- DEBUG_OBJECT_REQUEST (R715): the request that stands in the ORW registers is started. -/
def actDebugObjectRequest (s : State) : State := viaDap s true 2 (bits s.test.dap.orw 32 32)

/-- DEBUG_SEGMENT_DATA (R715): four bytes of a segment transfer. -/
def actDebugSegmentData (write : Option Word) (s : State) : State :=
  match write with
  | some v => viaDap s true 6 v.toNat
  | none => viaDap s false 6 0

end Sys2Proof.Machine
end

