-- ==== Sys2Proof/Machine/MeaningsTest.lean ====
section
/-! DEFINITION. The meanings of the commands of logs (chapter 17), the firmware update (18), self-test and debug access (19): each command's own effect, then what follows it of itself (`Machine/Settle.lean`). -/

namespace Sys2Proof.Machine

/-! ### `Machine/LogTime.lean` -/

/-- LOG_OPEN. -/
def execLogOpen (s : State) : Result := observed (actLogOpen s)

/-- LOG_RECORD_COMMIT. -/
def execLogRecordCommit (good : Bool) (s : State) : Result := observed (actLogRecordCommit good s)

/-- LOG_CLEAR. -/
def execLogClear (port : Port) (s : State) : Result := observed (actLogClear port s)

/-- LOG_CURSOR_WRITE. -/
def execLogCursorWrite (port : Port) (value : Nat) (s : State) : Result := observed (actLogCursorWrite port value s)

/-- LOG_WINDOW_READ. -/
def execLogWindowRead (port : Port) (length : Nat) (peek : Bool) (s : State) : Result := observed (actLogWindowRead port length peek s)

/-- INTEGRATOR_RECORD. -/
def execIntegratorRecord (port : Port) (data : List Nat) (s : State) : Result := observed (actIntegratorRecord port data s)

/-- SNAPSHOT_TIMER. -/
def execSnapshotTimer (s : State) : Result := observed (actSnapshotTimer s)

/-! ### `Machine/Update.lean` -/

/-- IMAGE_SCAN. -/
def execImageScan (s : State) : Result := settled (actImageScan s)

/-- PROGRAM_DATA_WRITE. -/
def execProgramDataWrite (port : Port) (sub : Nat) (offset : Option Nat) (data : List Nat) (flashOk : Bool) (s : State) : Result := settled (actProgramDataWrite port sub offset data flashOk s)

/-- PROGRAM_CONTROL_STOP. -/
def execProgramControlStop (port : Port) (sub : Nat) (s : State) : Result := settled (actProgramControlStop port sub s)

/-- PROGRAM_CONTROL_START. -/
def execProgramControlStart (port : Port) (sub : Nat) (s : State) : Result := settled (actProgramControlStart port sub s)

/-- PROGRAM_CONTROL_CLEAR. -/
def execProgramControlClear (port : Port) (sub : Nat) (s : State) : Result := settled (actProgramControlClear port sub s)

/-- CLEAR_ERASE_COMPLETE. -/
def execClearEraseComplete (flashOk : Bool) (s : State) : Result := settled (actClearEraseComplete flashOk s)

/-- PROGRAM_CONTROL_VERIFY. -/
def execProgramControlVerify (port : Port) (sub : Nat) (s : State) : Result := settled (actProgramControlVerify port sub s)

/-- VERIFY_COMPLETE. -/
def execVerifyComplete (unreadable : List Nat) (s : State) : Result := settled (actVerifyComplete unreadable s)

/-- PROGRAM_CONTROL_ACTIVATE. -/
def execProgramControlActivate (port : Port) (sub : Nat) (flashOk : Bool) (s : State) : Result := settled (actProgramControlActivate port sub flashOk s)

/-- UPDATE_CONFIRM. -/
def execUpdateConfirm (port : Port) (s : State) : Result := settled (actUpdateConfirm port s)

/-- UPDATE_REJECT. -/
def execUpdateReject (port : Port) (other : BankFound) (s : State) : Result := settled (actUpdateReject port other s)

/-- HEALTH_WINDOW_END. -/
def execHealthWindowEnd (s : State) : Result := settled (actHealthWindowEnd s)

/-! ### `Machine/SelfTest.lean` -/

/-- INSERVICE_CYCLE_START. -/
def execInserviceCycleStart (s : State) : Result := observed (actInserviceCycleStart s)

/-- INSERVICE_SEGMENT. -/
def execInserviceSegment (usLeft : Nat) (s : State) : Result := observed (actInserviceSegment usLeft s)

/-- SEGMENT_COMPLETE. -/
def execSegmentComplete (good : Bool) (s : State) : Result := observed (actSegmentComplete good s)

/-- IDCODE. -/
def execJtagIdcode (s : State) : Result := observed (actJtagIdcode s)

/-- SAMPLE_PRELOAD. -/
def execJtagSamplePreload (boundary : Nat) (s : State) : Result := observed (actJtagSamplePreload boundary s)

/-- EXTEST. -/
def execJtagExtest (s : State) : Result := observed (actJtagExtest s)

/-- CLAMP. -/
def execJtagClamp (s : State) : Result := observed (actJtagClamp s)

/-- HIGHZ. -/
def execJtagHighz (s : State) : Result := observed (actJtagHighz s)

/-- EXTEST_PULSE. -/
def execJtagExtestPulse (s : State) : Result := observed (actJtagExtestPulse s)

/-- EXTEST_TRAIN. -/
def execJtagExtestTrain (s : State) : Result := observed (actJtagExtestTrain s)

/-- LBIST_RESULT. -/
def execJtagLbistResult (s : State) : Result := observed (actJtagLbistResult s)

/-- AOCB. -/
def execJtagAocb (offset : Nat) (s : State) : Result := observed (actJtagAocb offset s)

/-- BYPASS. -/
def execJtagBypass (opcode : Nat) (s : State) : Result := observed (actJtagBypass opcode s)

/-- TRST_N_LOW. -/
def execTrstNLow (s : State) : Result := observed (actTrstNLow s)

/-- TEST_LOGIC_RESET. -/
def execTestLogicReset (s : State) : Result := observed (actTestLogicReset s)

/-- ELECTRODE_TEST. -/
def execElectrodeTest (port : Port) (s : State) : Result := observed (actElectrodeTest port s)

/-- PWM_LINE_TEST. -/
def execPwmLineTest (port : Port) (s : State) : Result := observed (actPwmLineTest port s)

/-- TACHOMETER_LINE_TEST. -/
def execTachometerLineTest (port : Port) (s : State) : Result := observed (actTachometerLineTest port s)

/-- LINE_TEST_COMPLETE. -/
def execLineTestComplete (codes : List (Nat × Nat)) (s : State) : Result := observed (actLineTestComplete codes s)

/-- LIFECYCLE_TO_FIELD. -/
def execLifecycleToField (port : Port) (value : Nat) (s : State) : Result := observed (actLifecycleToField port value s)

/-- UNLOCK_NONCE. -/
def execUnlockNonce (port : Port) (s : State) : Result := observed (actUnlockNonce port s)

/-- RELOCK. -/
def execRelock (port : Port) (s : State) : Result := observed (actRelock port s)

/-- UNLOCK_RESPONSE. -/
def execUnlockResponse (port : Port) (data : List Nat) (s : State) : Result := observed (actUnlockResponse port data s)

/-- UNLOCK_LOCKOUT_EXPIRY. -/
def execUnlockLockoutExpiry (s : State) : Result := observed (actUnlockLockoutExpiry s)

/-- PROGRAM_NODE_ID_BASE. -/
def execProgramNodeIdBase (port : Port) (value : Nat) (readBack : Bool) (s : State) : Result := observed (actProgramNodeIdBase port value readBack s)

/-- PROGRAM_PACK_KEY. -/
def execProgramPackKey (port : Port) (slot : Fin 4) (key : Nat) (readBack : Bool) (s : State) : Result := observed (actProgramPackKey port slot key readBack s)

/-- PROGRAM_INTEGRATOR_KEY_HASH. -/
def execProgramIntegratorKeyHash (port : Port) (hash : Nat) (readBack : Bool) (s : State) : Result := observed (actProgramIntegratorKeyHash port hash readBack s)

/-- PROGRAM_DEBUG_KEY_HASH. -/
def execProgramDebugKeyHash (port : Port) (hash : Nat) (readBack : Bool) (s : State) : Result := observed (actProgramDebugKeyHash port hash readBack s)

/-! ### `Machine/Debug.lean` -/

/-- HALT_REQUEST. -/
def execHaltRequest (s : State) : Result := settled (actHaltRequest s)

/-- FORCED_HALT. -/
def execForcedHalt (s : State) : Result := settled (actForcedHalt s)

/-- RESUME. -/
def execResume (s : State) : Result := settled (actResume s)

/-- STEP. -/
def execStep (s : State) : Result := settled (actStep s)

/-- DEBUG_REGISTER_ACCESS. -/
def execDebugRegisterAccess (reg : Nat) (write : Option Word) (s : State) : Result := settled (actDebugRegisterAccess reg write s)

/-- DEBUG_MEMORY_ACCESS. -/
def execDebugMemoryAccess (write : Option Word) (s : State) : Result := settled (actDebugMemoryAccess write s)

/-- DEBUG_OBJECT_REQUEST. -/
def execDebugObjectRequest (s : State) : Result := settled (actDebugObjectRequest s)

/-- DEBUG_SEGMENT_DATA. -/
def execDebugSegmentData (write : Option Word) (s : State) : Result := settled (actDebugSegmentData write s)

/-- DAP. -/
def execJtagDap (write : Bool) (reg data : Nat) (s : State) : Result := settled (actJtagDap write reg data s)

end Sys2Proof.Machine
end

