-- ==== Sys2Proof/Machine/MeaningsTouch.lean ====
section
/-! DEFINITION. The meanings of the commands of the downbeat (chapter 4), the sense path (11) and touch (12): each command's own effect, then what follows it of itself (`Machine/Settle.lean`). -/

namespace Sys2Proof.Machine

/-! ### `Machine/Beat.lean` -/

/-- APPLY_FRAME_CONFIGURATION. -/
def execApplyFrameConfiguration (port : Port) (s : State) : Result := observed (actApplyFrameConfiguration port s)

/-! ### `Machine/Downbeat.lean` -/

/-- DOWNBEAT. -/
def execDownbeat (bursts dumps : Nat) (est : SliceEst) (s : State) : Result := settled (actDownbeat bursts dumps est s)

/-- PHASE_BOUNDARY. -/
def execPhaseBoundary (boundary : Phase) (handover : Int) (s : State) : Result := observed (actPhaseBoundary boundary handover s)

/-! ### `Machine/Sense.lean` -/

/-- BURST_END. -/
def execBurstEnd (position : Fin 16) (channel : Nat) (codes : List Nat) (nco : List (Int × Int)) (ovr : Bool) (s : State) : Result := observed (actBurstEnd position channel codes nco ovr s)

/-- TOUCH_BANK_POWER_UP. -/
def execTouchBankPowerUp (s : State) : Result := observed (actTouchBankPowerUp s)

/-- TOUCH_CALIBRATION_COMPLETE. -/
def execTouchCalibrationComplete (est : List (SliceEst × SliceEst)) (s : State) : Result := observed (actTouchCalibrationComplete est s)

/-- TELEMETRY_OUTPUT. -/
def execTelemetryOutput (hk : Fin 64) (codes : List Nat) (s : State) : Result := observed (actTelemetryOutput hk codes s)

/-- TELEMETRY_BANK_SWITCH. -/
def execTelemetryBankSwitch (port : Port) (lane : Fin 8) (s : State) : Result := observed (actTelemetryBankSwitch port lane s)

/-- TOUCH_BANK_SWITCH. -/
def execTouchBankSwitch (port : Port) (lane : Fin 16) (s : State) : Result := observed (actTouchBankSwitch port lane s)

/-- LOAD_LIBRARY_RECORD. -/
def execLoadLibraryRecord (port : Port) (lane : Fin 24) (s : State) : Result := observed (actLoadLibraryRecord port lane s)

/-- LIBRARY_LOAD_COMPLETE. -/
def execLibraryLoadComplete (lane : Fin 24) (s : State) : Result := observed (actLibraryLoadComplete lane s)

/-! ### `Machine/Touch.lean` -/

/-- APPLY_PROFILES. -/
def execApplyProfiles (port : Port) (s : State) : Result := observed (actApplyProfiles port s)

/-- PROCESS_FRAME. -/
def execProcessFrame (hvMinMv hvMaxMv : Nat) (s : State) : Result := observed (actProcessFrame hvMinMv hvMaxMv s)

/-- CONTACT_STUCK_TIMEOUT. -/
def execContactStuckTimeout (palm : Bool) (id : Nat) (s : State) : Result := observed (actContactStuckTimeout palm id s)

/-- BUTTON_STUCK_TIMEOUT. -/
def execButtonStuckTimeout (b : Fin 8) (s : State) : Result := observed (actButtonStuckTimeout b s)

/-- BUTTON_DRIFT. -/
def execButtonDrift (b : Fin 8) (s : State) : Result := observed (actButtonDrift b s)

/-- CAPTURE_REFERENCE_BASELINES. -/
def execCaptureReferenceBaselines (port : Port) (s : State) : Result := observed (actCaptureReferenceBaselines port s)

/-- GLOVE_MODE_END. -/
def execGloveModeEnd (s : State) : Result := observed (actGloveModeEnd s)

/-- PREARM_HOLD_EXPIRY. -/
def execPrearmHoldExpiry (s : State) : Result := observed (actPrearmHoldExpiry s)

/-- PREARM_HOLDOFF_EXPIRY. -/
def execPrearmHoldoffExpiry (s : State) : Result := observed (actPrearmHoldoffExpiry s)

end Sys2Proof.Machine
end

