-- ==== Sys2Proof/Machine/Dispatch.lean ====
section
/-!
DEFINITION. The dispatch: one arm per command, each one direct call of the command's meaning.
-/

namespace Sys2Proof.Machine

/-- The effect of a command on everything but the queue. -/
def exec (i : Instr) (s : State) : Host.Outcome State Fault Refusal :=
  match i with
  | .vaonValid tcrit1 tcrit0 lfCrystal => Sys2Proof.Machine.execVaonValid tcrit1 tcrit0 lfCrystal s
  | .vaonLoss => Sys2Proof.Machine.execVaonLoss s
  | .vinValidRise => Sys2Proof.Machine.execVinValidRise s
  | .selfBuckCheck ok => Sys2Proof.Machine.execSelfBuckCheck ok s
  | .selfBuckRetry => Sys2Proof.Machine.execSelfBuckRetry s
  | .startupClocksStep xin trimBad ratio1 ratio0 bootsel => Sys2Proof.Machine.execStartupClocksStep xin trimBad ratio1 ratio0 bootsel s
  | .xinAbsentRecheck xin trimBad ratio1 ratio0 bootsel => Sys2Proof.Machine.execXinAbsentRecheck xin trimBad ratio1 ratio0 bootsel s
  | .startupLbistSlot pass passAgain => Sys2Proof.Machine.execStartupLbistSlot pass passAgain s
  | .bootRomStart found => Sys2Proof.Machine.execBootRomStart found s
  | .firmwareStart => Sys2Proof.Machine.execFirmwareStart s
  | .logOpen => Sys2Proof.Machine.execLogOpen s
  | .imageScan => Sys2Proof.Machine.execImageScan s
  | .vinLost overVoltage back same => Sys2Proof.Machine.execVinLost overVoltage back same s
  | .vinOvervoltageFall => Sys2Proof.Machine.execVinOvervoltageFall s
  | .vinReturned lossUs => Sys2Proof.Machine.execVinReturned lossUs s
  | .emergencyOrderEnd => Sys2Proof.Machine.execEmergencyOrderEnd s
  | .vsysUvlo => Sys2Proof.Machine.execVsysUvlo s
  | .resetNPulse widthNs same => Sys2Proof.Machine.execResetNPulse widthNs same s
  | .hardResetOrderEnd => Sys2Proof.Machine.execHardResetOrderEnd s
  | .watchdogService firmware => Sys2Proof.Machine.execWatchdogService firmware s
  | .watchdogExpiry same => Sys2Proof.Machine.execWatchdogExpiry same s
  | .xinLoss => Sys2Proof.Machine.execXinLoss s
  | .pllALoss => Sys2Proof.Machine.execPllALoss s
  | .pllBLoss => Sys2Proof.Machine.execPllBLoss s
  | .pllCLoss => Sys2Proof.Machine.execPllCLoss s
  | .pllDLoss => Sys2Proof.Machine.execPllDLoss s
  | .pllRelock pll => Sys2Proof.Machine.execPllRelock pll s
  | .downbeat bursts dumps est => Sys2Proof.Machine.execDownbeat bursts dumps est s
  | .phaseBoundary boundary handover => Sys2Proof.Machine.execPhaseBoundary boundary handover s
  | .applyFrameConfiguration port => Sys2Proof.Machine.execApplyFrameConfiguration port s
  | .syncReception line counter atHalf => Sys2Proof.Machine.execSyncReception line counter atHalf s
  | .syncMissing => Sys2Proof.Machine.execSyncMissing s
  | .objectRead port index sub peek => Sys2Proof.Machine.execObjectRead port index sub peek s
  | .objectWrite port index sub value size => Sys2Proof.Machine.execObjectWrite port index sub value size s
  | .segmentRead port index sub offset length => Sys2Proof.Machine.execSegmentRead port index sub offset length s
  | .segmentWrite port index sub offset data => Sys2Proof.Machine.execSegmentWrite port index sub offset data s
  | .descriptorQuery port index sub => Sys2Proof.Machine.execDescriptorQuery port index sub s
  | .rcLatchRead port index sub peek => Sys2Proof.Machine.execRcLatchRead port index sub peek s
  | .segmentFillTimeout port index sub write => Sys2Proof.Machine.execSegmentFillTimeout port index sub write s
  | .saveParameters port group signature => Sys2Proof.Machine.execSaveParameters port group signature s
  | .restoreDefaultParameters port group signature => Sys2Proof.Machine.execRestoreDefaultParameters port group signature s
  | .storeCopyComplete ok => Sys2Proof.Machine.execStoreCopyComplete ok s
  | .storeRepair => Sys2Proof.Machine.execStoreRepair s
  | .configurationExport port => Sys2Proof.Machine.execConfigurationExport port s
  | .importStrict port => Sys2Proof.Machine.execImportStrict port s
  | .importSkipUnknown port => Sys2Proof.Machine.execImportSkipUnknown port s
  | .nmtStartRemoteNode line node timeNs => Sys2Proof.Machine.execNmtStartRemoteNode line node timeNs s
  | .nmtStopRemoteNode line node timeNs => Sys2Proof.Machine.execNmtStopRemoteNode line node timeNs s
  | .nmtEnterPreOperational line node timeNs => Sys2Proof.Machine.execNmtEnterPreOperational line node timeNs s
  | .nmtResetApplication line node timeNs => Sys2Proof.Machine.execNmtResetApplication line node timeNs s
  | .nmtResetCommunication line node timeNs => Sys2Proof.Machine.execNmtResetCommunication line node timeNs s
  | .lssSwitchStateGlobal mode => Sys2Proof.Machine.execLssSwitchStateGlobal mode s
  | .lssSwitchStateSelective line vendor product revision serial => Sys2Proof.Machine.execLssSwitchStateSelective line vendor product revision serial s
  | .lssConfigureNodeId line node => Sys2Proof.Machine.execLssConfigureNodeId line node s
  | .lssConfigureBitTiming line table index => Sys2Proof.Machine.execLssConfigureBitTiming line table index s
  | .lssActivateBitTiming delayMs => Sys2Proof.Machine.execLssActivateBitTiming delayMs s
  | .lssStoreConfiguration line => Sys2Proof.Machine.execLssStoreConfiguration line s
  | .lssInquireIdentity line part => Sys2Proof.Machine.execLssInquireIdentity line part s
  | .lssInquireNodeId line => Sys2Proof.Machine.execLssInquireNodeId line s
  | .lssIdentifyRemoteSlave line vendor product revLow revHigh serLow serHigh => Sys2Proof.Machine.execLssIdentifyRemoteSlave line vendor product revLow revHigh serLow serHigh s
  | .lssIdentifyNonConfigured line => Sys2Proof.Machine.execLssIdentifyNonConfigured line s
  | .lssFastscan line idNumber bitCheck lssSub lssNext => Sys2Proof.Machine.execLssFastscan line idNumber bitCheck lssSub lssNext s
  | .canFrameAccepted line frame timeNs => Sys2Proof.Machine.execCanFrameAccepted line frame timeNs s
  | .canErrorDetected line transmitting inc => Sys2Proof.Machine.execCanErrorDetected line transmitting inc s
  | .busOffRecoveryDelayExpiry line => Sys2Proof.Machine.execBusOffRecoveryDelayExpiry line s
  | .busOffRecoveryComplete line => Sys2Proof.Machine.execBusOffRecoveryComplete line s
  | .lineSilent line => Sys2Proof.Machine.execLineSilent line s
  | .heartbeatProduce => Sys2Proof.Machine.execHeartbeatProduce s
  | .heartbeatConsumerExpiry n => Sys2Proof.Machine.execHeartbeatConsumerExpiry n s
  | .timeReceived data => Sys2Proof.Machine.execTimeReceived data s
  | .emcyInhibitExpiry => Sys2Proof.Machine.execEmcyInhibitExpiry s
  | .sdoInitiateDownload data => Sys2Proof.Machine.execSdoInitiateDownload data s
  | .sdoDownloadSegment data => Sys2Proof.Machine.execSdoDownloadSegment data s
  | .sdoInitiateUpload data => Sys2Proof.Machine.execSdoInitiateUpload data s
  | .sdoUploadSegment data => Sys2Proof.Machine.execSdoUploadSegment data s
  | .sdoBlockDownloadInitiate data => Sys2Proof.Machine.execSdoBlockDownloadInitiate data s
  | .sdoBlockDownloadSegment data => Sys2Proof.Machine.execSdoBlockDownloadSegment data s
  | .sdoBlockDownloadEnd data => Sys2Proof.Machine.execSdoBlockDownloadEnd data s
  | .sdoBlockUploadInitiate data => Sys2Proof.Machine.execSdoBlockUploadInitiate data s
  | .sdoBlockUploadAck data => Sys2Proof.Machine.execSdoBlockUploadAck data s
  | .sdoAbortReceived data => Sys2Proof.Machine.execSdoAbortReceived data s
  | .usdoRequest client session req => Sys2Proof.Machine.execUsdoRequest client session req s
  | .sdoTimeout usdo => Sys2Proof.Machine.execSdoTimeout usdo s
  | .rpdoReceived n data => Sys2Proof.Machine.execRpdoReceived n data s
  | .rpdoEventTimerExpiry n => Sys2Proof.Machine.execRpdoEventTimerExpiry n s
  | .tpdoEventTimerExpiry n => Sys2Proof.Machine.execTpdoEventTimerExpiry n s
  | .tpdoInhibitExpiry n => Sys2Proof.Machine.execTpdoInhibitExpiry n s
  | .tpdoLatestStart n => Sys2Proof.Machine.execTpdoLatestStart n s
  | .canTransmitComplete line pos => Sys2Proof.Machine.execCanTransmitComplete line pos s
  | .syncGuardBegin onA onB => Sys2Proof.Machine.execSyncGuardBegin onA onB s
  | .detectComplete signal => Sys2Proof.Machine.execDetectComplete signal s
  | .equaliseComplete => Sys2Proof.Machine.execEqualiseComplete s
  | .alignComplete => Sys2Proof.Machine.execAlignComplete s
  | .configComplete => Sys2Proof.Machine.execConfigComplete s
  | .trainingPhaseTimeout => Sys2Proof.Machine.execTrainingPhaseTimeout s
  | .failedTimeout => Sys2Proof.Machine.execFailedTimeout s
  | .retrainComplete width => Sys2Proof.Machine.execRetrainComplete width s
  | .retrainTimeout => Sys2Proof.Machine.execRetrainTimeout s
  | .retrainRequest port => Sys2Proof.Machine.execRetrainRequest port s
  | .fullTrainingRequest port => Sys2Proof.Machine.execFullTrainingRequest port s
  | .krefLoss => Sys2Proof.Machine.execKrefLoss s
  | .krefReturn => Sys2Proof.Machine.execKrefReturn s
  | .flitReceived bytes corrected uncorrectable => Sys2Proof.Machine.execFlitReceived bytes corrected uncorrectable s
  | .ackTimeout => Sys2Proof.Machine.execAckTimeout s
  | .mrd tag len addr => Sys2Proof.Machine.execMrd tag len addr s
  | .mwr addr data => Sys2Proof.Machine.execMwr addr data s
  | .cpl tag status data => Sys2Proof.Machine.execCpl tag status data s
  | .orq tag orw data => Sys2Proof.Machine.execOrq tag orw data s
  | .dbell n value => Sys2Proof.Machine.execDbell n value s
  | .cfgrd tag offset => Sys2Proof.Machine.execCfgrd tag offset s
  | .mrdCompletionTimeout tag => Sys2Proof.Machine.execMrdCompletionTimeout tag s
  | .streamSourcesWrite port value => Sys2Proof.Machine.execStreamSourcesWrite port value s
  | .streamPacketFormed source time dbOffset samples => Sys2Proof.Machine.execStreamPacketFormed source time dbOffset samples s
  | .holdoffExpiry v => Sys2Proof.Machine.execHoldoffExpiry v s
  | .raiseUserVector v => Sys2Proof.Machine.execRaiseUserVector v s
  | .hostWindowCloseComplete w => Sys2Proof.Machine.execHostWindowCloseComplete w s
  | .scrubWord found => Sys2Proof.Machine.execScrubWord found s
  | .pageFillComplete page data => Sys2Proof.Machine.execPageFillComplete page data s
  | .pageFillFailed page => Sys2Proof.Machine.execPageFillFailed page s
  | .writeBackComplete frame => Sys2Proof.Machine.execWriteBackComplete frame s
  | .prefetchIssue engine => Sys2Proof.Machine.execPrefetchIssue engine s
  | .prefetchComplete page data => Sys2Proof.Machine.execPrefetchComplete page data s
  | .prefetchStreamDeath engine => Sys2Proof.Machine.execPrefetchStreamDeath engine s
  | .tlbInvalidatePage port page => Sys2Proof.Machine.execTlbInvalidatePage port page s
  | .tlbInvalidateAll port => Sys2Proof.Machine.execTlbInvalidateAll port s
  | .tlbEvictPage port page => Sys2Proof.Machine.execTlbEvictPage port page s
  | .pageTableBaseWrite port value => Sys2Proof.Machine.execPageTableBaseWrite port value s
  | .ringOpen port n => Sys2Proof.Machine.execRingOpen port n s
  | .ringClose port n => Sys2Proof.Machine.execRingClose port n s
  | .ringCloseComplete n => Sys2Proof.Machine.execRingCloseComplete n s
  | .ringAcknowledgeLinkloss port n => Sys2Proof.Machine.execRingAcknowledgeLinkloss port n s
  | .ringPop port n peek => Sys2Proof.Machine.execRingPop port n peek s
  | .ringPush port n data => Sys2Proof.Machine.execRingPush port n data s
  | .ringIndexWrite port n consumer value => Sys2Proof.Machine.execRingIndexWrite port n consumer value s
  | .taskDisable port t control => Sys2Proof.Machine.execTaskDisable port t control s
  | .taskActionTpdoDue t => Sys2Proof.Machine.execTaskActionTpdoDue t s
  | .taskActionPostRecord t => Sys2Proof.Machine.execTaskActionPostRecord t s
  | .taskActionLog t => Sys2Proof.Machine.execTaskActionLog t s
  | .taskActionPowerRequest t => Sys2Proof.Machine.execTaskActionPowerRequest t s
  | .eventDispatch task latencyNs => Sys2Proof.Machine.execEventDispatch task latencyNs s
  | .activationBudgetExpiry p => Sys2Proof.Machine.execActivationBudgetExpiry p s
  | .frameShareSpent p => Sys2Proof.Machine.execFrameShareSpent p s
  | .userProgramLoad port p unreadable => Sys2Proof.Machine.execUserProgramLoad port p unreadable s
  | .userProgramStart port p => Sys2Proof.Machine.execUserProgramStart port p s
  | .userProgramStop port p => Sys2Proof.Machine.execUserProgramStop port p s
  | .userProgramUnload port p => Sys2Proof.Machine.execUserProgramUnload port p s
  | .tAdd d a b f => Sys2Proof.Machine.execTAdd d a b f s
  | .tAddc d a b f => Sys2Proof.Machine.execTAddc d a b f s
  | .tSub d a b f => Sys2Proof.Machine.execTSub d a b f s
  | .tSubc d a b f => Sys2Proof.Machine.execTSubc d a b f s
  | .tAdds d a b f => Sys2Proof.Machine.execTAdds d a b f s
  | .tSubs d a b f => Sys2Proof.Machine.execTSubs d a b f s
  | .tAnd d a b f => Sys2Proof.Machine.execTAnd d a b f s
  | .tOr d a b f => Sys2Proof.Machine.execTOr d a b f s
  | .tXor d a b f => Sys2Proof.Machine.execTXor d a b f s
  | .tAndn d a b f => Sys2Proof.Machine.execTAndn d a b f s
  | .tShl d a b f => Sys2Proof.Machine.execTShl d a b f s
  | .tShr d a b f => Sys2Proof.Machine.execTShr d a b f s
  | .tSar d a b f => Sys2Proof.Machine.execTSar d a b f s
  | .tRor d a b f => Sys2Proof.Machine.execTRor d a b f s
  | .tMin d a b f => Sys2Proof.Machine.execTMin d a b f s
  | .tMax d a b f => Sys2Proof.Machine.execTMax d a b f s
  | .tMinu d a b f => Sys2Proof.Machine.execTMinu d a b f s
  | .tMaxu d a b f => Sys2Proof.Machine.execTMaxu d a b f s
  | .tClz d a f => Sys2Proof.Machine.execTClz d a f s
  | .tSextb d a f => Sys2Proof.Machine.execTSextb d a f s
  | .tSexth d a f => Sys2Proof.Machine.execTSexth d a f s
  | .tZextb d a f => Sys2Proof.Machine.execTZextb d a f s
  | .tZexth d a f => Sys2Proof.Machine.execTZexth d a f s
  | .tMul a b => Sys2Proof.Machine.execTMul a b s
  | .tMulu a b => Sys2Proof.Machine.execTMulu a b s
  | .tMac a b => Sys2Proof.Machine.execTMac a b s
  | .tMacu a b => Sys2Proof.Machine.execTMacu a b s
  | .tMsu a b => Sys2Proof.Machine.execTMsu a b s
  | .tMsuu a b => Sys2Proof.Machine.execTMsuu a b s
  | .tAddi d a imm => Sys2Proof.Machine.execTAddi d a imm s
  | .tAndi d a imm => Sys2Proof.Machine.execTAndi d a imm s
  | .tOri d a imm => Sys2Proof.Machine.execTOri d a imm s
  | .tXori d a imm => Sys2Proof.Machine.execTXori d a imm s
  | .tShi d a kind n => Sys2Proof.Machine.execTShi d a kind n s
  | .tLui d imm => Sys2Proof.Machine.execTLui d imm s
  | .tCmpi a imm => Sys2Proof.Machine.execTCmpi a imm s
  | .tTsti a imm => Sys2Proof.Machine.execTTsti a imm s
  | .tLdw d a off => Sys2Proof.Machine.execTLdw d a off s
  | .tLdh d a off => Sys2Proof.Machine.execTLdh d a off s
  | .tLdhu d a off => Sys2Proof.Machine.execTLdhu d a off s
  | .tLdb d a off => Sys2Proof.Machine.execTLdb d a off s
  | .tLdbu d a off => Sys2Proof.Machine.execTLdbu d a off s
  | .tLdd d a off => Sys2Proof.Machine.execTLdd d a off s
  | .tStw d a off => Sys2Proof.Machine.execTStw d a off s
  | .tSth d a off => Sys2Proof.Machine.execTSth d a off s
  | .tStb d a off => Sys2Proof.Machine.execTStb d a off s
  | .tStd d a off => Sys2Proof.Machine.execTStd d a off s
  | .tB cond disp => Sys2Proof.Machine.execTB cond disp s
  | .tCall disp => Sys2Proof.Machine.execTCall disp s
  | .tNop => Sys2Proof.Machine.execTNop s
  | .tMfs d n => Sys2Proof.Machine.execTMfs d n s
  | .tMts n a => Sys2Proof.Machine.execTMts n a s
  | .tJr a => Sys2Proof.Machine.execTJr a s
  | .tCallr a => Sys2Proof.Machine.execTCallr a s
  | .tRet => Sys2Proof.Machine.execTRet s
  | .tRete => Sys2Proof.Machine.execTRete s
  | .tTrap n => Sys2Proof.Machine.execTTrap n s
  | .tWait => Sys2Proof.Machine.execTWait s
  | .tLock n => Sys2Proof.Machine.execTLock n s
  | .tRpt a n => Sys2Proof.Machine.execTRpt a n s
  | .tAccx d n => Sys2Proof.Machine.execTAccx d n s
  | .tMpur d w => Sys2Proof.Machine.execTMpur d w s
  | .tMpuw w a => Sys2Proof.Machine.execTMpuw w a s
  | .tMovs => Sys2Proof.Machine.execTMovs s
  | .tFills a => Sys2Proof.Machine.execTFills a s
  | .tCmps => Sys2Proof.Machine.execTCmps s
  | .tOsr a => Sys2Proof.Machine.execTOsr a s
  | .tOsw a => Sys2Proof.Machine.execTOsw a s
  | .tOrd d a => Sys2Proof.Machine.execTOrd d a s
  | .tOwr d a => Sys2Proof.Machine.execTOwr d a s
  | .haltRequest => Sys2Proof.Machine.execHaltRequest s
  | .forcedHalt => Sys2Proof.Machine.execForcedHalt s
  | .resume => Sys2Proof.Machine.execResume s
  | .step => Sys2Proof.Machine.execStep s
  | .debugRegisterAccess reg write => Sys2Proof.Machine.execDebugRegisterAccess reg write s
  | .debugMemoryAccess write => Sys2Proof.Machine.execDebugMemoryAccess write s
  | .debugObjectRequest => Sys2Proof.Machine.execDebugObjectRequest s
  | .debugSegmentData write => Sys2Proof.Machine.execDebugSegmentData write s
  | .burstEnd position channel codes nco ovr => Sys2Proof.Machine.execBurstEnd position channel codes nco ovr s
  | .touchBankPowerUp => Sys2Proof.Machine.execTouchBankPowerUp s
  | .touchCalibrationComplete est => Sys2Proof.Machine.execTouchCalibrationComplete est s
  | .telemetryOutput hk codes => Sys2Proof.Machine.execTelemetryOutput hk codes s
  | .telemetryBankSwitch port lane => Sys2Proof.Machine.execTelemetryBankSwitch port lane s
  | .touchBankSwitch port lane => Sys2Proof.Machine.execTouchBankSwitch port lane s
  | .loadLibraryRecord port lane => Sys2Proof.Machine.execLoadLibraryRecord port lane s
  | .libraryLoadComplete lane => Sys2Proof.Machine.execLibraryLoadComplete lane s
  | .applyProfiles port => Sys2Proof.Machine.execApplyProfiles port s
  | .processFrame hvMinMv hvMaxMv => Sys2Proof.Machine.execProcessFrame hvMinMv hvMaxMv s
  | .contactStuckTimeout palm id => Sys2Proof.Machine.execContactStuckTimeout palm id s
  | .buttonStuckTimeout b => Sys2Proof.Machine.execButtonStuckTimeout b s
  | .buttonDrift b => Sys2Proof.Machine.execButtonDrift b s
  | .captureReferenceBaselines port => Sys2Proof.Machine.execCaptureReferenceBaselines port s
  | .gloveModeEnd => Sys2Proof.Machine.execGloveModeEnd s
  | .prearmHoldExpiry => Sys2Proof.Machine.execPrearmHoldExpiry s
  | .prearmHoldoffExpiry => Sys2Proof.Machine.execPrearmHoldoffExpiry s
  | .targetVoltageWrite port rail mv => Sys2Proof.Machine.execTargetVoltageWrite port rail mv s
  | .setpointStep => Sys2Proof.Machine.execSetpointStep s
  | .loopSample rail senseUv imonUv => Sys2Proof.Machine.execLoopSample rail senseUv imonUv s
  | .pwmPeriodStart phase now imonUv closing => Sys2Proof.Machine.execPwmPeriodStart phase now imonUv closing s
  | .delayLineUnlock bank => Sys2Proof.Machine.execDelayLineUnlock bank s
  | .delayLineRelock bank => Sys2Proof.Machine.execDelayLineRelock bank s
  | .syncinPulse now => Sys2Proof.Machine.execSyncinPulse now s
  | .syncinLoss => Sys2Proof.Machine.execSyncinLoss s
  | .tmonShutdown group uv => Sys2Proof.Machine.execTmonShutdown group uv s
  | .dieShutdown sensor tenths => Sys2Proof.Machine.execDieShutdown sensor tenths s
  | .shutdownRelease comparator value => Sys2Proof.Machine.execShutdownRelease comparator value s
  | .powerStateRequest port code => Sys2Proof.Machine.execPowerStateRequest port code s
  | .applyOrders port => Sys2Proof.Machine.execApplyOrders port s
  | .seqEnable sourcedUv sunkUv => Sys2Proof.Machine.execSeqEnable sourcedUv sunkUv s
  | .seqRetarget => Sys2Proof.Machine.execSeqRetarget s
  | .seqDisable => Sys2Proof.Machine.execSeqDisable s
  | .seqWaitRail => Sys2Proof.Machine.execSeqWaitRail s
  | .seqExenHigh => Sys2Proof.Machine.execSeqExenHigh s
  | .seqExenLow => Sys2Proof.Machine.execSeqExenLow s
  | .seqWaitPg high => Sys2Proof.Machine.execSeqWaitPg high s
  | .seqWaitPgLow high => Sys2Proof.Machine.execSeqWaitPgLow high s
  | .seqDelay => Sys2Proof.Machine.execSeqDelay s
  | .seqLinkOn => Sys2Proof.Machine.execSeqLinkOn s
  | .seqLinkOff => Sys2Proof.Machine.execSeqLinkOff s
  | .seqEnd => Sys2Proof.Machine.execSeqEnd s
  | .stepWaitSatisfied => Sys2Proof.Machine.execStepWaitSatisfied s
  | .stepWaitTimeout => Sys2Proof.Machine.execStepWaitTimeout s
  | .transitionRetry => Sys2Proof.Machine.execTransitionRetry s
  | .offEntry => Sys2Proof.Machine.execOffEntry s
  | .onPackDwellExpiry => Sys2Proof.Machine.execOnPackDwellExpiry s
  | .supervisorFault rail cause value => Sys2Proof.Machine.execSupervisorFault rail cause value s
  | .retryDelayExpiry rail => Sys2Proof.Machine.execRetryDelayExpiry rail s
  | .retryCountReset rail => Sys2Proof.Machine.execRetryCountReset rail s
  | .clearLatch port rail sourcedUv sunkUv => Sys2Proof.Machine.execClearLatch port rail sourcedUv sunkUv s
  | .settleTimeExpiry rail => Sys2Proof.Machine.execSettleTimeExpiry rail s
  | .expgLoss n => Sys2Proof.Machine.execExpgLoss n s
  | .chargeCycleStart => Sys2Proof.Machine.execChargeCycleStart s
  | .terminationTimeout written back => Sys2Proof.Machine.execTerminationTimeout written back s
  | .topoffExpiry written back => Sys2Proof.Machine.execTopoffExpiry written back s
  | .rechargeTimeout => Sys2Proof.Machine.execRechargeTimeout s
  | .chargeTimerExpiry total => Sys2Proof.Machine.execChargeTimerExpiry total s
  | .clearChargerFault port => Sys2Proof.Machine.execClearChargerFault port s
  | .chargerConfigurationWrite port sub value => Sys2Proof.Machine.execChargerConfigurationWrite port sub value s
  | .chargeOvervoltage packMv => Sys2Proof.Machine.execChargeOvervoltage packMv s
  | .chargeStageFault switching packMa => Sys2Proof.Machine.execChargeStageFault switching packMa s
  | .dischargeCutoff packMv => Sys2Proof.Machine.execDischargeCutoff packMv s
  | .packRemoval answers => Sys2Proof.Machine.execPackRemoval answers s
  | .packInsertion => Sys2Proof.Machine.execPackInsertion s
  | .shortPress => Sys2Proof.Machine.execShortPress s
  | .serviceRequest => Sys2Proof.Machine.execServiceRequest s
  | .longPress same => Sys2Proof.Machine.execLongPress same s
  | .longPressHoldExpiry => Sys2Proof.Machine.execLongPressHoldExpiry s
  | .pressIgnored => Sys2Proof.Machine.execPressIgnored s
  | .shipExitPress => Sys2Proof.Machine.execShipExitPress s
  | .shipEntry written back => Sys2Proof.Machine.execShipEntry written back s
  | .shipExitVin => Sys2Proof.Machine.execShipExitVin s
  | .authenticationExchange ident written => Sys2Proof.Machine.execAuthenticationExchange ident written s
  | .authenticationResponse response life written back => Sys2Proof.Machine.execAuthenticationResponse response life written back s
  | .runExchange port => Sys2Proof.Machine.execRunExchange port s
  | .exchangePeriodic => Sys2Proof.Machine.execExchangePeriodic s
  | .writeBackLifeRecord port written back => Sys2Proof.Machine.execWriteBackLifeRecord port written back s
  | .lifeWriteBackHourly written back => Sys2Proof.Machine.execLifeWriteBackHourly written back s
  | .packPoll values serial => Sys2Proof.Machine.execPackPoll values serial s
  | .packAgeUpdate => Sys2Proof.Machine.execPackAgeUpdate s
  | .diodeBiasToggle => Sys2Proof.Machine.execDiodeBiasToggle s
  | .tcritMeasurement diet => Sys2Proof.Machine.execTcritMeasurement diet s
  | .tcritDisagree differs => Sys2Proof.Machine.execTcritDisagree differs s
  | .tachEdge fan now => Sys2Proof.Machine.execTachEdge fan now s
  | .tachTimeout fan => Sys2Proof.Machine.execTachTimeout fan s
  | .fanLoopTick => Sys2Proof.Machine.execFanLoopTick s
  | .spinupEnd fan => Sys2Proof.Machine.execSpinupEnd fan s
  | .stallAlarmClear fan => Sys2Proof.Machine.execStallAlarmClear fan s
  | .speedAlarm fan kind => Sys2Proof.Machine.execSpeedAlarm fan kind s
  | .applyCurve port fan => Sys2Proof.Machine.execApplyCurve port fan s
  | .clearAlarms port fan => Sys2Proof.Machine.execClearAlarms port fan s
  | .logRecordCommit good => Sys2Proof.Machine.execLogRecordCommit good s
  | .logClear port => Sys2Proof.Machine.execLogClear port s
  | .logCursorWrite port value => Sys2Proof.Machine.execLogCursorWrite port value s
  | .logWindowRead port length peek => Sys2Proof.Machine.execLogWindowRead port length peek s
  | .integratorRecord port data => Sys2Proof.Machine.execIntegratorRecord port data s
  | .snapshotTimer => Sys2Proof.Machine.execSnapshotTimer s
  | .programDataWrite port sub offset data flashOk => Sys2Proof.Machine.execProgramDataWrite port sub offset data flashOk s
  | .programControlStop port sub => Sys2Proof.Machine.execProgramControlStop port sub s
  | .programControlStart port sub => Sys2Proof.Machine.execProgramControlStart port sub s
  | .programControlClear port sub => Sys2Proof.Machine.execProgramControlClear port sub s
  | .clearEraseComplete flashOk => Sys2Proof.Machine.execClearEraseComplete flashOk s
  | .programControlVerify port sub => Sys2Proof.Machine.execProgramControlVerify port sub s
  | .verifyComplete unreadable => Sys2Proof.Machine.execVerifyComplete unreadable s
  | .programControlActivate port sub flashOk => Sys2Proof.Machine.execProgramControlActivate port sub flashOk s
  | .updateConfirm port => Sys2Proof.Machine.execUpdateConfirm port s
  | .updateReject port other => Sys2Proof.Machine.execUpdateReject port other s
  | .healthWindowEnd => Sys2Proof.Machine.execHealthWindowEnd s
  | .recoveryLoaderStart => Sys2Proof.Machine.execRecoveryLoaderStart s
  | .inserviceCycleStart => Sys2Proof.Machine.execInserviceCycleStart s
  | .inserviceSegment usLeft => Sys2Proof.Machine.execInserviceSegment usLeft s
  | .segmentComplete good => Sys2Proof.Machine.execSegmentComplete good s
  | .jtagIdcode => Sys2Proof.Machine.execJtagIdcode s
  | .jtagSamplePreload boundary => Sys2Proof.Machine.execJtagSamplePreload boundary s
  | .jtagExtest => Sys2Proof.Machine.execJtagExtest s
  | .jtagClamp => Sys2Proof.Machine.execJtagClamp s
  | .jtagHighz => Sys2Proof.Machine.execJtagHighz s
  | .jtagExtestPulse => Sys2Proof.Machine.execJtagExtestPulse s
  | .jtagExtestTrain => Sys2Proof.Machine.execJtagExtestTrain s
  | .jtagDap write reg data => Sys2Proof.Machine.execJtagDap write reg data s
  | .jtagLbistResult => Sys2Proof.Machine.execJtagLbistResult s
  | .jtagAocb offset => Sys2Proof.Machine.execJtagAocb offset s
  | .jtagBypass opcode => Sys2Proof.Machine.execJtagBypass opcode s
  | .trstNLow => Sys2Proof.Machine.execTrstNLow s
  | .testLogicReset => Sys2Proof.Machine.execTestLogicReset s
  | .electrodeTest port => Sys2Proof.Machine.execElectrodeTest port s
  | .pwmLineTest port => Sys2Proof.Machine.execPwmLineTest port s
  | .tachometerLineTest port => Sys2Proof.Machine.execTachometerLineTest port s
  | .lineTestComplete codes => Sys2Proof.Machine.execLineTestComplete codes s
  | .lifecycleToField port value => Sys2Proof.Machine.execLifecycleToField port value s
  | .unlockNonce port => Sys2Proof.Machine.execUnlockNonce port s
  | .relock port => Sys2Proof.Machine.execRelock port s
  | .unlockResponse port data => Sys2Proof.Machine.execUnlockResponse port data s
  | .unlockLockoutExpiry => Sys2Proof.Machine.execUnlockLockoutExpiry s
  | .programNodeIdBase port value readBack => Sys2Proof.Machine.execProgramNodeIdBase port value readBack s
  | .programPackKey port slot key readBack => Sys2Proof.Machine.execProgramPackKey port slot key readBack s
  | .programIntegratorKeyHash port hash readBack => Sys2Proof.Machine.execProgramIntegratorKeyHash port hash readBack s
  | .programDebugKeyHash port hash readBack => Sys2Proof.Machine.execProgramDebugKeyHash port hash readBack s
  | .tIllegal word => Sys2Proof.Machine.execTIllegal word s
  | .resetNRelease => Sys2Proof.Machine.execResetNRelease s
  | .vinValidFall => Sys2Proof.Machine.execVinValidFall s
  | .chargeCycleResume => Sys2Proof.Machine.execChargeCycleResume s
  | .supervisorComparatorRelease rail cause value => Sys2Proof.Machine.execSupervisorComparatorRelease rail cause value s

end Sys2Proof.Machine
end

