-- ==== Sys2Proof/WellFormed.lean ====
section
/-!
DEFINITION. Which commands are well formed: every operand fits the field that carries it (a sub-index a byte, an index sixteen bits, a frame's data
the bytes a frame can hold). A command that some port or environment can send is well formed; the meanings are total all the same.
-/

namespace Sys2Proof

open Machine

/-- A value of one byte. -/
def u8 (n : Nat) : Bool := n < 256

/-- A value of sixteen bits. -/
def u16 (n : Nat) : Bool := n < 65536

/-- A value of 32 bits. -/
def u32 (n : Nat) : Bool := n < 2 ^ 32

/-- A value of 64 bits. -/
def u64 (n : Nat) : Bool := n < 2 ^ 64

/-- A key or a digest of 32 bytes. -/
def u256 (n : Nat) : Bool := n < 2 ^ 256

/-- A byte string. -/
def bytes (l : List Nat) : Bool := l.all u8

/-- The data of a classic CAN frame. -/
def canBytes (l : List Nat) : Bool := bytes l && l.length ≤ 8

/-- A CAN frame: an identifier of 11 bits, at most 64 bytes, and 8 in the classic format (R210). -/
def Machine.CanFrame.wf (f : CanFrame) : Bool := f.id < 2048 && bytes f.data && f.data.length ≤ (if f.fd then 64 else 8)

/-- A USDO request names an object and carries bytes (R224). -/
def Machine.UsdoReq.wf : UsdoReq → Bool
  | .read i n | .bulkRead i n => u16 i && u8 n
  | .write i n d => u16 i && u8 n && bytes d
  | .begin_ i n size _ => u16 i && u8 n && u32 size
  | .segment k d _ => u8 k && bytes d && d.length ≤ 64
  | .next | .abort => true

/-- What a pack transaction reads is bytes (R585). -/
def Machine.PackRead.wf : PackRead → Bool
  | .bytes l => Sys2Proof.bytes l
  | _ => true

/-- What the boot ROM finds in a bank (R686): a digest of 32 bytes and header fields of 32 bits. -/
def Machine.BankFound.wf (b : BankFound) : Bool := u256 b.digest && u32 b.imgver && u32 b.line && u32 b.nblocks

/-- What the boot ROM finds (R682). -/
def Machine.BootFindings.wf (f : BootFindings) : Bool := f.bankA.wf && f.bankB.wf

/-- A sample's code fits its converter: 14 bits, or 12 of HK (Tables 7.6 and 7.7). -/
def Machine.Sample.wf (source : Nat) (x : Sample) : Bool := if source = 16 then x.code < 4096 && !x.outside else x.code < 16384

/-- A command is well formed: each operand fits its field. -/
def Instr.wf : Instr → Bool
  | .startupClocksStep _ _ ratio1 ratio0 _ => ratio1 ≤ 4080 && ratio0 ≤ 4080
  | .xinAbsentRecheck _ _ ratio1 ratio0 _ => ratio1 ≤ 4080 && ratio0 ≤ 4080
  | .bootRomStart found => found.wf
  | .vinReturned lossUs => u32 lossUs
  | .downbeat bursts dumps _ => u16 bursts && u16 dumps
  | .syncReception _ counter _ => counter.all u8
  | .objectRead _ index sub _ => u16 index && u8 sub
  | .objectWrite _ index sub value size => u16 index && u8 sub && value < 256 ^ size && size ≤ 8
  | .segmentRead _ index sub offset length => u16 index && u8 sub && u32 offset && u32 length
  | .segmentWrite _ index sub offset data => u16 index && u8 sub && u32 offset && bytes data
  | .descriptorQuery _ index sub => u16 index && u8 sub
  | .rcLatchRead _ index sub _ => u16 index && u8 sub
  | .segmentFillTimeout _ index sub _ => u16 index && u8 sub
  | .saveParameters _ group signature => u8 group && u32 signature
  | .restoreDefaultParameters _ group signature => u8 group && u32 signature
  | .nmtStartRemoteNode _ node _ => u8 node
  | .nmtStopRemoteNode _ node _ => u8 node
  | .nmtEnterPreOperational _ node _ => u8 node
  | .nmtResetApplication _ node _ => u8 node
  | .nmtResetCommunication _ node _ => u8 node
  | .lssSwitchStateGlobal mode => u8 mode
  | .lssSwitchStateSelective _ vendor product revision serial => u32 vendor && u32 product && u32 revision && u32 serial
  | .lssConfigureNodeId _ node => u8 node
  | .lssConfigureBitTiming _ table index => u8 table && u16 index
  | .lssActivateBitTiming delayMs => u16 delayMs
  | .lssIdentifyRemoteSlave _ vendor product revLow revHigh serLow serHigh => u32 vendor && u32 product && u32 revLow && u32 revHigh && u32 serLow && u32 serHigh
  | .lssFastscan _ idNumber bitCheck lssSub lssNext => u32 idNumber && u8 bitCheck && u8 lssSub && u8 lssNext
  | .canFrameAccepted _ frame _ => frame.wf
  | .canErrorDetected _ _ inc => inc ≤ 8
  | .timeReceived data => canBytes data
  | .sdoInitiateDownload data => canBytes data
  | .sdoDownloadSegment data => canBytes data
  | .sdoInitiateUpload data => canBytes data
  | .sdoUploadSegment data => canBytes data
  | .sdoBlockDownloadInitiate data => canBytes data
  | .sdoBlockDownloadSegment data => canBytes data
  | .sdoBlockDownloadEnd data => canBytes data
  | .sdoBlockUploadInitiate data => canBytes data
  | .sdoBlockUploadAck data => canBytes data
  | .sdoAbortReceived data => canBytes data
  | .usdoRequest client session req => u8 client && u8 session && req.wf
  | .sdoTimeout usdo => usdo.all fun k => u8 k.1 && u8 k.2
  | .rpdoReceived _ data => bytes data && data.length ≤ 64
  | .detectComplete signal => u8 signal
  | .retrainComplete width => width ≤ 8
  | .flitReceived l _ _ => bytes l && l.length == 256
  | .mrd tag len addr => u16 tag && u16 len && u64 addr
  | .mwr addr data => u64 addr && bytes data
  | .cpl tag status data => u16 tag && u8 status && bytes data
  | .orq tag orw data => u16 tag && u8 orw && bytes data
  | .dbell n value => u16 n && u32 value
  | .cfgrd tag offset => u16 tag && u32 offset
  | .mrdCompletionTimeout tag => u16 tag
  | .streamSourcesWrite _ value => u32 value
  | .streamPacketFormed source time dbOffset samples => u64 time && dbOffset.all u32 && samples.all (·.wf source.val) && samples.length == 1024
  | .raiseUserVector v => u16 v
  | .pageFillComplete page data => page < 1048576 && bytes data
  | .pageFillFailed page => page < 1048576
  | .writeBackComplete frame => frame < 640
  | .prefetchComplete page data => page < 1048576 && bytes data
  | .tlbInvalidatePage _ page => page < 1048576
  | .tlbEvictPage _ page => page < 1048576
  | .pageTableBaseWrite _ value => u32 value
  | .ringPush _ _ data => bytes data
  | .ringIndexWrite _ _ _ value => u32 value
  | .taskDisable _ _ control => u32 control
  | .debugRegisterAccess reg _ => u16 reg
  | .burstEnd _ channel codes nco ovr => channel < 88 && codes.all (· < 16384) && nco.all (fun e => e.1.natAbs ≤ 32767 && e.2.natAbs ≤ 32767)
      && (!ovr || codes.any (fun c => c == 0 || c == 16383))
  | .telemetryOutput _ codes => codes.all (· < 4096)
  | .contactStuckTimeout _ id => u8 id
  | .targetVoltageWrite _ _ mv => u16 mv
  | .powerStateRequest _ code => u8 code
  | .terminationTimeout _ back => back.wf
  | .topoffExpiry _ back => back.wf
  | .chargerConfigurationWrite _ sub value => u8 sub && u32 value
  | .shipEntry _ back => back.wf
  | .authenticationExchange ident _ => ident.wf
  | .authenticationResponse response life _ back => response.wf && life.wf && back.wf
  | .writeBackLifeRecord _ _ back => back.wf
  | .lifeWriteBackHourly _ back => back.wf
  | .packPoll values serial => (values.all fun v => v.all u32) && serial.all u16
  | .logCursorWrite _ value => u64 value
  | .logWindowRead _ length _ => u32 length
  | .integratorRecord _ data => bytes data
  | .programDataWrite _ sub offset data _ => u8 sub && offset.all u32 && bytes data
  | .programControlStop _ sub => u8 sub
  | .programControlStart _ sub => u8 sub
  | .programControlClear _ sub => u8 sub
  | .programControlVerify _ sub => u8 sub
  | .programControlActivate _ sub _ => u8 sub
  | .updateReject _ other => other.wf
  | .jtagSamplePreload boundary => boundary < 2 ^ 146
  | .jtagDap _ reg data => reg < 128 && u32 data
  | .jtagAocb offset => u32 offset
  | .jtagBypass opcode => u8 opcode
  | .lineTestComplete codes => codes.all fun c => u8 c.1 && u8 c.2
  | .lifecycleToField _ value => u32 value
  | .unlockResponse _ data => bytes data
  | .programNodeIdBase _ value _ => u32 value
  | .programPackKey _ _ key _ => u256 key
  | .programIntegratorKeyHash _ hash _ => u256 hash
  | .programDebugKeyHash _ hash _ => u256 hash
  | .tIllegal word => (decodeTabor word.toNat).isNone
  | .vaonValid _ _ _ | .emergencyOrderEnd | .vaonLoss | .vinValidRise | .selfBuckCheck _ | .selfBuckRetry | .startupLbistSlot _ _ | .firmwareStart | .logOpen | .imageScan
  | .vinLost _ _ _ | .vinOvervoltageFall | .vsysUvlo | .resetNPulse _ _ | .hardResetOrderEnd | .watchdogService _ | .watchdogExpiry _ | .xinLoss | .pllALoss
  | .pllBLoss | .pllCLoss | .pllDLoss | .pllRelock _ | .phaseBoundary _ _ | .applyFrameConfiguration _ | .syncMissing | .storeCopyComplete _
  | .storeRepair | .configurationExport _ | .importStrict _ | .importSkipUnknown _ | .lssStoreConfiguration _ | .lssInquireIdentity _ _
  | .lssInquireNodeId _ | .lssIdentifyNonConfigured _ | .busOffRecoveryDelayExpiry _ | .busOffRecoveryComplete _ | .lineSilent _ | .heartbeatProduce
  | .heartbeatConsumerExpiry _ | .emcyInhibitExpiry | .rpdoEventTimerExpiry _ | .tpdoEventTimerExpiry _ | .tpdoInhibitExpiry _ | .tpdoLatestStart _
  | .canTransmitComplete _ _ | .syncGuardBegin _ _ | .equaliseComplete | .alignComplete | .configComplete | .trainingPhaseTimeout | .failedTimeout
  | .retrainTimeout | .retrainRequest _ | .fullTrainingRequest _ | .krefLoss | .krefReturn | .ackTimeout | .holdoffExpiry _
  | .hostWindowCloseComplete _ | .scrubWord _ | .prefetchIssue _ | .prefetchStreamDeath _ | .tlbInvalidateAll _ | .ringOpen _ _ | .ringClose _ _
  | .ringCloseComplete _ | .ringAcknowledgeLinkloss _ _ | .ringPop _ _ _ | .taskActionTpdoDue _ | .taskActionPostRecord _ | .taskActionLog _
  | .taskActionPowerRequest _ | .eventDispatch _ _ | .activationBudgetExpiry _ | .frameShareSpent _ | .userProgramLoad _ _ _ | .userProgramStart _ _
  | .userProgramStop _ _ | .userProgramUnload _ _ | .tAdd _ _ _ _ | .tAddc _ _ _ _ | .tSub _ _ _ _ | .tSubc _ _ _ _ | .tAdds _ _ _ _ | .tSubs _ _ _ _
  | .tAnd _ _ _ _ | .tOr _ _ _ _ | .tXor _ _ _ _ | .tAndn _ _ _ _ | .tShl _ _ _ _ | .tShr _ _ _ _ | .tSar _ _ _ _ | .tRor _ _ _ _ | .tMin _ _ _ _
  | .tMax _ _ _ _ | .tMinu _ _ _ _ | .tMaxu _ _ _ _ | .tClz _ _ _ | .tSextb _ _ _ | .tSexth _ _ _ | .tZextb _ _ _ | .tZexth _ _ _ | .tMul _ _
  | .tMulu _ _ | .tMac _ _ | .tMacu _ _ | .tMsu _ _ | .tMsuu _ _ | .tAddi _ _ _ | .tAndi _ _ _ | .tOri _ _ _ | .tXori _ _ _ | .tShi _ _ _ _
  | .tLui _ _ | .tCmpi _ _ | .tTsti _ _ | .tLdw _ _ _ | .tLdh _ _ _ | .tLdhu _ _ _ | .tLdb _ _ _ | .tLdbu _ _ _ | .tLdd _ _ _ | .tStw _ _ _
  | .tSth _ _ _ | .tStb _ _ _ | .tStd _ _ _ | .tB _ _ | .tCall _ | .tNop | .tMfs _ _ | .tMts _ _ | .tJr _ | .tCallr _ | .tRet | .tRete | .tTrap _
  | .tWait | .tLock _ | .tRpt _ _ | .tAccx _ _ | .tMpur _ _ | .tMpuw _ _ | .tMovs | .tFills _ | .tCmps | .tOsr _ | .tOsw _ | .tOrd _ _ | .tOwr _ _
  | .haltRequest | .forcedHalt | .resume | .step | .debugMemoryAccess _ | .debugObjectRequest | .debugSegmentData _ | .touchBankPowerUp
  | .touchCalibrationComplete _ | .telemetryBankSwitch _ _ | .touchBankSwitch _ _ | .loadLibraryRecord _ _
  | .libraryLoadComplete _ | .applyProfiles _ | .processFrame _ _ | .buttonStuckTimeout _ | .buttonDrift _ | .captureReferenceBaselines _
  | .gloveModeEnd | .prearmHoldExpiry | .prearmHoldoffExpiry | .setpointStep | .loopSample _ _ _ | .pwmPeriodStart _ _ _ _ | .delayLineUnlock _
  | .delayLineRelock _ | .syncinPulse _ | .syncinLoss | .tmonShutdown _ _ | .dieShutdown _ _ | .shutdownRelease _ _ | .applyOrders _ | .seqEnable _ _
  | .seqRetarget | .seqDisable | .seqWaitRail | .seqExenHigh | .seqExenLow | .seqWaitPg _ | .seqWaitPgLow _ | .seqDelay | .seqLinkOn | .seqLinkOff
  | .seqEnd | .stepWaitSatisfied | .stepWaitTimeout | .transitionRetry | .offEntry | .onPackDwellExpiry | .supervisorFault _ _ _ | .retryDelayExpiry _
  | .retryCountReset _ | .clearLatch _ _ _ _ | .settleTimeExpiry _ | .expgLoss _ | .chargeCycleStart | .rechargeTimeout | .chargeTimerExpiry _
  | .clearChargerFault _ | .chargeOvervoltage _ | .chargeStageFault _ _ | .dischargeCutoff _ | .packRemoval _ | .packInsertion | .shortPress
  | .serviceRequest | .longPress _ | .longPressHoldExpiry | .pressIgnored | .shipExitPress | .shipExitVin | .runExchange _ | .exchangePeriodic
  | .packAgeUpdate | .diodeBiasToggle | .tcritMeasurement _ | .tcritDisagree _ | .tachEdge _ _ | .tachTimeout _ | .fanLoopTick | .spinupEnd _
  | .stallAlarmClear _ | .speedAlarm _ _ | .applyCurve _ _ | .clearAlarms _ _ | .logRecordCommit _ | .logClear _ | .snapshotTimer
  | .clearEraseComplete _ | .verifyComplete _ | .updateConfirm _ | .healthWindowEnd | .recoveryLoaderStart | .inserviceCycleStart
  | .inserviceSegment _ | .segmentComplete _ | .jtagIdcode | .jtagExtest | .jtagClamp | .jtagHighz | .jtagExtestPulse | .jtagExtestTrain
  | .jtagLbistResult | .trstNLow | .testLogicReset | .electrodeTest _ | .pwmLineTest _ | .tachometerLineTest _ | .unlockNonce _ | .relock _
  | .unlockLockoutExpiry | .resetNRelease | .vinValidFall | .chargeCycleResume | .supervisorComparatorRelease _ _ _ => true

end Sys2Proof
end

