-- ==== Sys2Proof/Safety.lean ====
section
/-!
DEFINITION. The terms in which claims are stated: what a command leaves unchanged, that it completes with a stated effect, that nothing waits on it, the
canonical form of the device's tables, and the states that no run may reach.
-/

namespace Sys2Proof

open Machine

/-- The parts of the state that a frame names. The scheduler's entries of the TPDOs and the transmit queue (`pdo`) are named apart from the rest of the CAN port:
every command may queue an IMMEDIATE TPDO (R229). -/
inductive Part where
  | pending | od | live | draws | replies | tdo | power | clocks | aocb | beat | store | log | can | pdo | link | mem | sched
  | tabor | sense | touch | reg | seq | pack | thermal | update | test
deriving DecidableEq, Repr

/-- A part stands as it stood. -/
def Part.same (s t : State) : Part → Prop
  | .pending => t.pending = s.pending
  | .od => t.od = s.od
  | .live => t.live = s.live
  | .draws => t.draws = s.draws
  | .replies => t.replies = s.replies
  | .tdo => t.tdo = s.tdo
  | .power => t.power = s.power
  | .clocks => t.clocks = s.clocks
  | .aocb => t.aocb = s.aocb
  | .beat => t.beat = s.beat
  | .store => t.store = s.store
  | .log => t.log = s.log
  | .can => { t.can with tpdos := [], txq := [] } = { s.can with tpdos := [], txq := [] }
  | .pdo => t.can.tpdos = s.can.tpdos ∧ t.can.txq = s.can.txq
  | .link => t.link = s.link
  | .mem => t.mem = s.mem
  | .sched => t.sched = s.sched
  | .tabor => t.tabor = s.tabor
  | .sense => t.sense = s.sense
  | .touch => t.touch = s.touch
  | .reg => t.reg = s.reg
  | .seq => t.seq = s.seq
  | .pack => t.pack = s.pack
  | .thermal => t.thermal = s.thermal
  | .update => t.update = s.update
  | .test => t.test = s.test

/-- Only the listed parts of the state differ. -/
def Only (l : List Part) (s t : State) : Prop := ∀ p, p ∉ l → p.same s t

/-- Only the listed objects' values differ. -/
def OnlyValues (l : List (Nat × Nat)) (s t : State) : Prop := ∀ i n, n < 256 → (i, n) ∉ l → t.get i n = s.get i n

/-- The command completes: it answers a next state that satisfies `P` and differs only in the listed parts (and in `pdo`, which every command may move). -/
def Does (c : Instr) (s : State) (l : List Part) (P : State → Prop) : Prop := ∃ t, exec c s = .next t ∧ Only (.pdo :: l) s t ∧ P t

/-- The command answers a next state: its own effect `u`, which satisfies `P` and differs only in the listed parts, with what waited for it gone on. -/
def Brings (c : Instr) (s : State) (l : List Part) (P : State → Prop) : Prop :=
  ∃ u, exec c s = .next (immediates (settleAll u)) ∧ Only (.pdo :: l) s u ∧ P u

/-- A port may write the object now: the dictionary is restored (R193), and neither its access code nor a lock or gate denies the write (R145, R149, R719). -/
abbrev MayWrite (s : State) (p : Port) (i n : Nat) : Prop := s.up = true ∧ s.checkWrite p i n = .ok

/-- A port may read the object now. -/
abbrev MayRead (s : State) (p : Port) (i n : Nat) : Prop := s.up = true ∧ s.checkRead p i n = .ok

/-- No device waits for an SRAM bank: the ring engine, the lanes, the pops that the host makes, and no page has come that waits for its frame's bank. -/
abbrev NothingHeld (s : State) : Prop :=
  s.sched.held = [] ∧ s.mem.heldImage = [] ∧ s.link.pops = [] ∧ ∀ f ∈ s.mem.fills, f.arrived = none

/-- Of the CAN port only the receive FIFO differs, from which a service takes its frame, and what `pdo` names. -/
abbrev CanKept (s t : State) : Prop := { t.can with fifo := [], tpdos := [], txq := [] } = { s.can with fifo := [], tpdos := [], txq := [] }

/-- The core carries out the instruction named next: it can issue, nothing halts it and nothing is armed to, no budget has expired, no INIT waits, nothing is on
its way to a register or the accumulator, the fetch at the PC succeeds and changes nothing (as it does in the physical window), no exception or move is due, and
no other agent waits. -/
abbrev CoreFree (s : State) : Prop :=
  s.canIssue = true ∧ s.tabor.run ≠ .waiting ∧ s.tabor.haltDue = false ∧ s.tabor.stepOne = false ∧ s.tabor.budgetDue = false
    ∧ s.tabor.breakOn = 0 ∧ s.tabor.watchOn = 0 ∧ s.tabor.watchHit = 0 ∧ s.tabor.breakHit = 0 ∧ s.core.muls = [] ∧ s.core.loads = []
    ∧ (∀ p ∈ s.tabor.programs, ∀ g ∈ p, g.pendingCmd ≠ 3) ∧ fetchWord s = (s, true)
    ∧ s.tabor.eccDue = false ∧ s.tabor.endDue = false ∧ s.tabor.moveDue = false ∧ s.link.inq = [] ∧ NothingHeld s

/-- The core carries out the instruction named next, and no LOCK sequence is under way. -/
abbrev CoreReady (s : State) : Prop := CoreFree s ∧ s.core.lock = none

/-- The core after the instruction at its PC retires in sequence: the PC moves on, or back in a block repeat (R347). -/
def inSequence (c : Core) : Core :=
  if c.pc = c.rea ∧ c.rc ≠ 0 then (if c.rc = 1 then { c with pc := c.pc + 4, rc := 0 } else { c with pc := c.rsa, rc := c.rc - 1 })
  else { c with pc := c.pc + 4 }

/-- The instruction retires: the core is left as given, and nothing outside the core differs. -/
def Retires (i : Instr) (s : State) (c : Core) : Prop := Does i s [.tabor] fun t => t.tabor = { s.tabor with core := c, inString := false }

/-- The core after entry into an exception that spills no frame (R356, Tables 9.5 and 9.6). -/
def entered (c : Core) (code detail : Nat) (epc : Word) : Core :=
  { c with
    epc := epc
    ecause := BitVec.ofNat 32 (code + 65536 * detail + (if c.mst.um then 2 ^ 29 else 0))
    mst := { c.mst with pum := c.mst.um, pee := c.mst.ee, um := false, ee := false, exl := true }
    winb := ⟨putBit c.winb.owner ((c.winb.slot + 1) % 8) false, c.winb.resident + 1, (c.winb.slot + 1) % 8⟩
    flat := false
    pc := (if c.mst.bev then 0xFFFF0000 else 0x80000000) + BitVec.ofNat 32 (16 * code) }

/-- The core can enter an exception without a spill, a double fault or a user program's end: outside exception level, with a slot free, in system mode or with
no program in force. -/
abbrev CanEnter (s : State) : Prop := s.core.mst.exl = false ∧ s.core.winb.resident < 7 ∧ (s.core.mst.um = true → s.core.mst.prog = 0)

/-- The instruction raises an exception: the core enters it, the exception is counted, and nothing else differs. -/
def Raises (i : Instr) (s : State) (code detail : Nat) (epc : Word) : Prop :=
  Does i s [.od, .tabor] fun t => t.tabor = { s.tabor with core := entered s.core code detail epc, inString := false }
    ∧ t.get 0x2800 3 = satNat 32 (s.get 0x2800 3 + 1) ∧ OnlyValues [(0x2800, 3)] s t

/-- The up order stands at a step of a type, at rest or waiting, on its way to the destination in force, and no reset or update is under way (R537, R540). -/
abbrev UpStep (s : State) (r : Run) (type : Nat) (waiting : Option SeqWait) : Prop :=
  s.seq.run = some r ∧ r.table = .up ∧ r.undo = false ∧ r.waiting = waiting ∧ stepType (s.stepWord .up r.step) = type
    ∧ s.power.hardReset = false ∧ s.update.restarting = false ∧ r.toLevel = s.destLevel ∧ s.seq.issued ≤ s.destLevel
    ∧ stepLevel (s.stepWord .up r.step) ≤ s.destLevel

/-- The order at its next step. -/
def nextStep (s : State) (r : Run) : Run := { r with step := s.seekStep r (r.step + 1), waiting := none }

/-- Nothing waits for what a command may set going: no T PUSH for space, no host packet for a fill, no expired budget, no exception due, no INIT for the core,
nothing for a bank. -/
abbrev Calm (s : State) : Prop :=
  s.sched.pushWait = none ∧ s.link.inq = [] ∧ s.tabor.budgetDue = false ∧ s.tabor.eccDue = false ∧ s.tabor.endDue = false
    ∧ (∀ p ∈ s.tabor.programs, ∀ g ∈ p, g.pendingCmd ≠ 3) ∧ NothingHeld s

/-- The SRAM is in canonical form: addresses rise strictly, and no listed byte is 0, which is what an unlisted one reads as. -/
def Memory.wf (m : List Host.Cell) : Bool := sparseWf m (fun _ => 0)

/-- A table of objects' values is in canonical form: keys rise strictly, and no listed value is the object's default. -/
def Values.wf (m : List (Nat × Nat)) : Bool := sparseWf m keyDefault

/-- Every table of the state is in its canonical form. -/
abbrev Canonical (s : State) : Prop := Memory.wf s.mem.sram ∧ Values.wf s.od ∧ Values.wf s.live

/-- The power path is safe: the input switch and the BATFET are never both driven on (R81). -/
abbrev PathSafe (s : State) : Prop := ¬(s.power.insw = true ∧ s.power.batg = true)

end Sys2Proof
end

