-- ==== Sys2Proof/Certificates/Slice0/Obligations.lean ====
section
/-!
DEFINITION. The statements for the provers: what the commands of every family do to every kind of state the spec names, and the invariants every step keeps.
Rules are cited by their number in spec/.
-/

open Sys2Proof Machine

/-- The queue of commands: a step carries out the command at its front on the state with the queue's rest, and an empty queue idles (the latter the model's
choice, log entry 2). -/
def Obligations.StepRunsTheFront : Prop :=
  ∀ (s : State) (c : Instr),
    step { s with pending := c :: s.pending } = exec c s ∧ (s.pending = [] → step s = .next s)

/-- Every command answers a next state, whatever the state, and leaves the queue of commands alone: none faults, none is refused. -/
def Obligations.NoCommandStops : Prop := ∀ (c : Instr) (s : State), ∃ t, exec c s = .next t ∧ t.pending = s.pending

/-- The SRAM and the tables of object values are in canonical form after reset. -/
def Obligations.CanonicalAtReset : Prop := Canonical State.reset

/-- Every step keeps the canonical form of the SRAM and of the tables of object values. -/
def Obligations.EveryStepKeepsCanonical : Prop := ∀ s t : State, Canonical s → step s = .next t → Canonical t

/-- R91, R95, R103 and Table 3.7: the always-on supply. VAON valid starts AON and SUP with every comparator in its safe state and RSTCAUSE.SOURCE VAON_POR; its loss
leaves nothing but what lies in flash and OTP and the commands that wait. -/
def Obligations.AlwaysOnSupply : Prop :=
  ∀ s : State,
    (∀ t1 t0 lf, Canonical s → s.power.vaonValid = false →
      Does (.vaonValid t1 t0 lf) s [.od, .power, .clocks, .aocb, .thermal, .test] fun t =>
        t.power = { Power.reset with vaonValid := true, vaonRecord := true, resetNLow := s.power.resetNLow }
        ∧ t.power.vinValid = false ∧ t.power.vinLost = true ∧ t.power.uvlo = true ∧ t.power.insw = false ∧ t.power.batg = false
        ∧ t.aocb.cause = ⟨0, Source.vaonPor.code, 0, 0, 0⟩ ∧ t.aocb.lossDur = 0
        ∧ t.aocb.straps.tcrit = 2 * (Band.ofPin t1).reads + (Band.ofPin t0).reads
        ∧ t.aocb.straps.tcritIndeterminate = (Band.ofPin t1 == .indeterminate || Band.ofPin t0 == .indeterminate)
        ∧ t.thermal.shdnLow = true ∧ t.clocks = { s.clocks with lfInternal := !lf }
        ∧ t.get 0x4320 1 = (if s.pack.removed then 0 else 3) ∧ t.get 0x4320 2 = 0
        ∧ OnlyValues [(0x4330, 6), (0x4810, 3), (0x4320, 1), (0x4320, 2)] s t)
    ∧ (s.power.vaonValid = true →
      Does .vaonLoss s [.od, .live, .draws, .replies, .tdo, .power, .clocks, .aocb, .beat, .store, .log, .can, .link, .mem, .sched, .tabor, .sense, .touch, .reg,
        .seq, .pack, .thermal, .update, .test] fun t =>
        t.power = Power.reset ∧ t.aocb = Aocb.reset ∧ t.clocks = Clocks.reset ∧ t.mem = Mem.reset ∧ t.sched = Sched.reset ∧ t.tabor = Tabor.reset
        ∧ t.seq = Seq.reset ∧ t.reg = Reg.reset ∧ t.link = Link.reset
        ∧ t.store.slots = s.store.slots ∧ t.update.banks = s.update.banks ∧ t.test.serial = s.test.serial ∧ t.test.hashes = s.test.hashes
        ∧ (s.log.queue = [] → t.log.slots = s.log.slots)
        ∧ ∀ i n d, n < 256 → descOf i n = some d →
            t.get i n = if d.per = .F ∨ d.per = .O then s.get i n else odDefault i n)

/-- R80, R85, R107 and Table 3.3: start-up from VIN to the end of its self-test, step by step. -/
def Obligations.StartUpSteps : Prop :=
  ∀ s : State,
    (Canonical s → s.power.vaonValid = true → s.power.armedRise = true → s.power.step = .idle → s.aocb.pstate ≠ .ship →
      ∃ t, exec .vinValidRise s = .next (immediates t) ∧ t.pending = s.pending
        ∧ t.power.insw = !s.power.vinOv ∧ t.power.batg = false ∧ t.power.vinValid = true ∧ t.power.vinLost = false ∧ t.power.step = .supply
        ∧ t.power.selfBuck = (if s.power.resetNLow then .stopped else .starting) ∧ t.power.attempts = 0 ∧ t.aocb.pstate = .start
        ∧ t.aocb.boot.progress = 1 ∧ t.get 0x2010 4 = 0 ∧ t.mem = Mem.reset ∧ t.tabor = Tabor.reset ∧ t.store.slots = s.store.slots)
    ∧ (s.power.armedRise = false ∨ s.power.step ≠ .idle →
      Does .vinValidRise s [.power] fun t => t.power = { s.power with vinValid := true })
    ∧ (s.atStep .supply = true → s.power.selfBuck = .starting → s.power.resetNLow = false →
      Does (.selfBuckCheck true) s [.power, .aocb] fun t =>
        t.power = { s.power with selfBuck := .regulating, step := .clocks } ∧ t.aocb = { s.aocb with boot := { s.aocb.boot with progress := 2 } })
    ∧ (s.atStep .supply = true → s.power.selfBuck = .starting → s.power.attempts < 2 →
      Does (.selfBuckCheck false) s [.power] fun t => t.power = { s.power with selfBuck := .stopped, attempts := s.power.attempts + 1 })
    ∧ (s.atStep .supply = true → s.power.selfBuck = .starting → s.power.attempts = 2 →
      Does (.selfBuckCheck false) s [.power, .aocb] fun t =>
        t.power = { s.power with selfBuck := .stopped, attempts := 3, step := .supplyFailed }
        ∧ t.aocb.boot.selfSupplyFault = true ∧ t.aocb.cause.source = Source.selfSupply.code)
    ∧ (s.atStep .supply = true → s.power.selfBuck = .stopped → 1 ≤ s.power.attempts → s.power.resetNLow = false →
      Does .selfBuckRetry s [.power] fun t => t.power = { s.power with selfBuck := .starting })
    ∧ (s.atStep .supply = true → s.power.selfBuck = .stopped → s.power.resetNLow = true →
      Does .resetNRelease s [.power] fun t => t.power = { s.power with resetNLow := false, selfBuck := .starting })
    ∧ (s.atStep .supply = true → s.power.selfBuck = .regulating → s.power.resetNLow = true →
      Does .resetNRelease s [.power, .aocb] fun t =>
        t.power = { s.power with resetNLow := false, step := .clocks } ∧ t.aocb = { s.aocb with boot := { s.aocb.boot with progress := 2 } })
    ∧ (∀ pass again, s.atStep .lbist = true → s.clocks.pllA = true → s.power.lbistSlot < 24 → (pass || again) = true →
      Does (.startupLbistSlot pass again) s [.power] fun t => t.power = { s.power with lbistSlot := s.power.lbistSlot + 1 })
    ∧ (Canonical s → s.atStep .lbist = true → s.clocks.pllA = true → s.power.lbistSlot < 24 →
      Does (.startupLbistSlot false false) s [.od, .power, .aocb, .test] fun t =>
        t.power = { s.power with lbistSlot := s.power.lbistSlot + 1 } ∧ t.aocb = { s.aocb with boot := { s.aocb.boot with lbistFail := true } }
        ∧ t.flag 0x4A00 3 s.power.lbistSlot = true ∧ OnlyValues [(0x4A00, 3)] s t)

/-- R56 to R63, R75: the clocks step. With XIN absent the device waits with XIN_ABSENT; with XIN present the PLLs lock, the straps are read and LBIST comes. -/
def Obligations.ClocksStep : Prop :=
  ∀ (s : State) (trim : Bool) (r1 r0 : Nat) (b : Option Nat),
    (s.atStep .clocks = true → s.aocb.boot.xinAbsent = false →
      Does (.startupClocksStep false trim r1 r0 b) s [.clocks, .aocb] fun t =>
        t.clocks = { s.clocks with xin := false } ∧ t.aocb = { s.aocb with boot := { s.aocb.boot with xinAbsent := true, progress := 2 } })
    ∧ (Canonical s → s.atStep .clocks = true →
      Does (if s.aocb.boot.xinAbsent then .xinAbsentRecheck true trim r1 r0 b else .startupClocksStep true trim r1 r0 b) s [.od, .power, .clocks, .aocb] fun t =>
        t.clocks = { s.clocks with xin := true, pllsHeld := false, pllA := true, pllB := true, pllC := true, pllD := true }
        ∧ t.power = { s.power with step := .lbist, lbistSlot := 0 }
        ∧ t.aocb.boot = { s.aocb.boot with xinAbsent := false, trimFault := trim, progress := 5 }
        ∧ t.aocb.straps = { s.aocb.straps with
            addr0 := (strapLevel r0).1, addr1 := (strapLevel r1).1, addr0Marginal := (strapLevel r0).2, addr1Marginal := (strapLevel r1).2
            bootsel := Band.ofPin b == .high, bootselIndeterminate := Band.ofPin b == .indeterminate }
        ∧ t.get 0x2021 2 = 8 * (strapLevel r1).1 + (strapLevel r0).1 ∧ OnlyValues [(0x2021, 2)] s t)
    ∧ (∀ m, (m < 250 → Band.ofPin (some m) = .low) ∧ (750 < m → Band.ofPin (some m) = .high)
        ∧ (250 ≤ m → m ≤ 750 → Band.ofPin (some m) = .indeterminate)) ∧ Band.ofPin none = .low
    ∧ (∀ n, (strapLevel n).1 ≤ 7)
    ∧ ((strapLevel 0).1 = 0 ∧ (strapLevel 4080).1 = 7 ∧ ∀ k ≤ 7, 4080 * k % 7 = 0 → strapLevel (4080 * k / 7) = (k, false))
    ∧ (s.atStep .clocks = true → s.aocb.boot.xinAbsent = true →
      Does (.xinAbsentRecheck false trim r1 r0 b) s [.clocks, .aocb] fun t =>
        t.clocks = { s.clocks with xin := false } ∧ t.aocb = { s.aocb with boot := { s.aocb.boot with xinAbsent := true, progress := 2 } })

/-- R92, R377, R682, R685, R686, R138: the boot ROM, the recovery loader and firmware start. -/
def Obligations.BootAndFirmwareStart : Prop :=
  ∀ s : State,
    (∀ found : BootFindings, Canonical s → s.atStep .lbist = true → s.clocks.pllA = true → s.power.lbistSlot = 24 → s.lbistHalted = false →
      Does (.bootRomStart found) s [.od, .power, .aocb, .store, .tabor, .update] fun t =>
        t.power = { s.power with step := .bootRom, watchdog := ⟨true, false, 1000, false⟩ }
        ∧ t.tabor = { s.tabor with held := false, run := .boot, breakOn := 0 }
        ∧ t.store = { s.store with flashAbsent := !found.flash }
        ∧ (s.aocb.straps.bootsel = true → t.update.loader = true ∧ t.aocb.boot.recovery = true ∧ t.aocb.boot.progress = 6)
        ∧ (s.aocb.straps.bootsel = false → found.flash = false → t.update.loader = true ∧ t.aocb.boot.progress = 8)
        ∧ (s.aocb.straps.bootsel = false → found.flash = true → s.update.hash0 = false → s.update.record = none →
            t.update.loader = true ∧ t.aocb.boot.progress = 8 ∧ t.aocb.boot.recovery = false))
    ∧ (s.atStep .bootRom = true → s.clocks.pllA = true → s.update.loader = true →
      Does .recoveryLoaderStart s [.od, .live, .power, .can, .link, .sched] fun t =>
        t.power = { s.power with step := .loader } ∧ t.log = s.log)
    ∧ (s.atStep .bootRom = true → s.clocks.pllA = true → s.update.loader = false →
      ∃ t, exec .firmwareStart s = .next t ∧ t.pending = s.pending ∧ t.tdo = s.tdo ∧ t.clocks = s.clocks
        ∧ t.power.step = .firmware ∧ t.power.insw = s.power.insw ∧ t.power.batg = s.power.batg ∧ t.power.watchdog = s.power.watchdog
        ∧ t.aocb.boot.progress = 12 ∧ t.aocb.straps = s.aocb.straps ∧ (s.clocks.pllB = false → t.beat.stoppedB = true)
        ∧ (s.clocks.pllC = false → t.beat.stoppedC = true))
    ∧ (s.atStep .bootRom = false →
      Does .firmwareStart s [] (fun t => t.power = s.power) ∧ Does .recoveryLoaderStart s [] (fun t => t.power = s.power))

/-- R26, R80, R81, R83, R86, R96 to R101: the loss and the return of VIN. -/
def Obligations.InputLossAndReturn : Prop :=
  ∀ s : State,
    (∀ ov same, s.power.vinLost = true ∨ s.power.vaonValid = false ∨ s.power.step = .idle ∨ s.power.step = .supplyFailed ∨ s.power.batgHeld = true →
      Does (.vinLost ov none same) s [.power] fun t =>
        t.power = { s.power with vinLost := true, vinOv := s.power.vinOv || ov, insw := s.power.insw && !ov })
    ∧ (∀ ov same, Canonical s → s.up = true → s.judgesVin = true → s.trusted = true → s.aocb.pstate ≠ .emergency →
      ∃ t, exec (.vinLost ov none same) s = .next t ∧ t.pending = s.pending ∧ t.power.insw = false ∧ t.power.batg = true ∧ t.power.vinLost = true
        ∧ t.power.step = s.power.step ∧ t.aocb = s.aocb ∧ t.power.interruption = true ∧ t.power.pendingRecords = s.power.pendingRecords
        ∧ t.tabor = s.tabor ∧ t.reg = s.reg ∧ t.can.nmt = s.can.nmt ∧ t.get 0x2010 4 = 1)
    ∧ (∀ ov same, Canonical s → s.up = true → s.judgesVin = true → s.packCondition = 0 → s.aocb.pstate ≠ .emergency →
      ∃ t, exec (.vinLost ov none same) s = .next t ∧ t.pending = s.pending ∧ t.power.batg = false ∧ t.power.insw = !(s.power.vinOv || ov)
        ∧ t.power.writesStopped = true ∧ t.power.lossQual = (if s.power.vinOv || ov then 2 else 1) ∧ t.aocb.target = .emergency
        ∧ t.power.pendingRecords = s.power.pendingRecords ++ [(.emergency, none)] ∧ t.store.job = none)
    ∧ (∀ ov same, s.judgesVin = true → s.aocb.pstate = .emergency → s.power.emergWait = false →
      Does (.vinLost ov none same) s [.od, .sched, .power] fun t => t.power =
        { s.power with vinLost := true, vinOv := s.power.vinOv || ov, insw := s.power.insw && !ov
                       pendingRecords := s.power.pendingRecords ++ [(.emergency, none)] })
    ∧ (∀ ov us same, s.judgesVin = true → s.inEmergency = false → s.collapses = true →
      Does (.vinLost ov (some us) same) s [.od, .power, .aocb, .log, .link, .sched] fun t =>
        t.aocb = { s.aocb with lossDur := us.val }
        ∧ t.power = { s.power with pendingRecords := s.power.pendingRecords.map fun r => (r.1, some (r.2.getD us.val)) })
    ∧ (s.power.vinOv = true →
      Does .vinOvervoltageFall s [.power] fun t => t.power.vinOv = false
        ∧ (s.power.vaonValid = true → s.power.batg = false → s.aocb.pstate ≠ .ship → s.get 0x2010 4 = 0 ∨ s.get 0x2010 4 = 2 → t.power.insw = true)
        ∧ (s.get 0x2010 4 = 1 → t.power.insw = s.power.insw))
    ∧ (∀ us, Canonical s → s.up = true → s.power.vaonValid = true → s.power.vinLost = true → s.onPack = true → s.aocb.pstate ≠ .emergency →
      ∃ t, exec (.vinReturned us) s = .next t ∧ t.pending = s.pending ∧ t.power.insw = true ∧ t.power.batg = false ∧ t.power.vinLost = false
        ∧ t.power.interruption = false ∧ t.aocb.lossDur = satNat 32 us ∧ t.power.step = .firmware ∧ t.tabor = s.tabor ∧ t.reg = s.reg)
    ∧ (∀ us, s.power.vinLost = false → Does (.vinReturned us) s [] fun t => t.power = s.power)
    ∧ (Canonical s → s.aocb.pstate = .emergency → s.power.emergWait = false → s.seq.run = none → s.seq.parallel = true → s.railsDown = true →
        s.power.vinLost = true →
      ∃ t, exec .emergencyOrderEnd s = .next (immediates t) ∧ t.pending = s.pending ∧ t.power.emergWait = true ∧ t.aocb.pstate = .emergency
        ∧ t.power.watchdog.armed = false ∧ t.tabor = Tabor.reset ∧ t.mem = Mem.reset ∧ t.store.slots = s.store.slots)
    ∧ (s.aocb.pstate ≠ .emergency ∨ s.seq.run.isSome = true → Does .emergencyOrderEnd s [] fun t => t.power = s.power)
    ∧ (Canonical s → s.power.vaonValid = true → s.power.uvlo = false →
      ∃ t, exec .vsysUvlo s = .next (immediates t) ∧ t.pending = s.pending ∧ t.power.uvlo = true ∧ t.power.selfBuck = .stopped ∧ t.power.batg = false
        ∧ t.power.watchdog.armed = false ∧ t.tabor = Tabor.reset ∧ t.mem = Mem.reset ∧ t.get 0x2010 4 = 3)

/-- R31, R68, R91, R92, R103, R104, R368, R543: hard resets by RESET_N and the watchdog, and the end of their power-down order. Every clause says that the command
completes, for every operand: a pulse too short, one that may count and one that does; a service and an expiry that count and those that do not. -/
def Obligations.HardResets : Prop :=
  ∀ s : State,
    (∀ w same, w < 1000 → Does (.resetNPulse w same) s [] fun t => t.power = s.power)
    ∧ (∀ w same, 10000 ≤ w → Canonical s → s.up = true → s.aocb.pstate ≠ .emergency → s.aocb.pstate ≠ .ship → s.power.vaonValid = true →
      ∃ t, exec (.resetNPulse w same) s = .next t ∧ t.pending = s.pending ∧ t.power.resetNLow = true ∧ t.power.hardReset = true
        ∧ (same = false → t.aocb.cause.source = Source.resetN.code ∧ t.aocb.cause.qual = 0)
        ∧ t.power.watchdog.armed = false ∧ t.power.insw = s.power.insw ∧ t.power.batg = s.power.batg)
    ∧ (∀ w, 10000 ≤ w → s.power.vaonValid = true → s.aocb.pstate ≠ .ship → s.power.hardReset = true ∨ s.power.emergWait = true ∨ s.aocb.pstate = .emergency →
      Does (.resetNPulse w false) s [.power, .aocb] fun t => t.power = { s.power with resetNLow := true }
        ∧ t.aocb.cause.source = Source.resetN.code ∧ t.aocb.cause.soft = 0)
    ∧ (∀ w same, 1000 ≤ w → w < 10000 → ∃ t, exec (.resetNPulse w same) s = .next (immediates t) ∧ t.pending = s.pending
        ∧ (t = s.draw ∨ t = hardReset { s.draw with power := { s.power with resetNLow := true } } .resetN 0 same))
    ∧ (s.power.watchdog.armed = true → s.update.restarting = false → s.power.watchdog.byFirmware = false →
      Does (.watchdogService false) s [.power] fun t => t.power = { s.power with watchdog := { s.power.watchdog with timeoutMs := 1000 } })
    ∧ (s.power.watchdog.armed = true → s.update.restarting = false → s.up = true → s.tabor.run = .running →
      Does (.watchdogService true) s [.power, .tabor] fun t =>
        t.power = { s.power with watchdog := { s.power.watchdog with byFirmware := true, timeoutMs := s.get 0x2012 1 } }
        ∧ t.tabor = { s.tabor with tollHeld := false })
    ∧ (∀ fw, s.power.watchdog.armed = false ∨ s.update.restarting = true ∨ (fw = true ∧ s.tabor.run ≠ .running) ∨ (fw = false ∧ s.power.watchdog.byFirmware = true) →
      Does (.watchdogService fw) s [] fun t => t.power = s.power)
    ∧ (∀ same, s.power.watchdog.armed = false ∨ s.power.watchdog.expired = true ∨ s.tabor.run = .halted →
      Does (.watchdogExpiry same) s [] fun t => t.power = s.power)
    ∧ (Canonical s → s.power.watchdog.armed = true → s.power.watchdog.expired = false → s.up = true → s.tabor.run ≠ .halted →
        s.aocb.pstate ≠ .emergency → s.aocb.pstate ≠ .ship → s.power.vaonValid = true →
      ∃ t, exec (.watchdogExpiry false) s = .next t ∧ t.pending = s.pending ∧ t.power.hardReset = true ∧ t.aocb.cause.source = Source.watchdog.code
        ∧ t.aocb.cause.qual = (if s.update.restarting then 4 else if !s.clocks.xin then 1 else if !s.power.watchdog.byFirmware then 2 else 3)
        ∧ t.power.watchdog.armed = false)
    ∧ (∀ same, s.power.watchdog.armed = true → s.power.watchdog.expired = false → s.tabor.run ≠ .halted → s.power.vaonValid = true → s.aocb.pstate = .emergency →
      Does (.watchdogExpiry same) s [.power, .aocb] fun t => t.power = { s.power with watchdog := { s.power.watchdog with expired := true } })
    ∧ (Canonical s → s.power.hardReset = true → s.power.batgHeld = false → s.seq.run = none → s.railsDown = true → s.onPack = false →
        s.pack.pressHold = false → s.power.resetNLow = false → s.power.selfBuck = .regulating →
      ∃ t, exec .hardResetOrderEnd s = .next (immediates t) ∧ t.pending = s.pending ∧ t.power.step = .clocks ∧ t.power.hardReset = false
        ∧ t.aocb.pstate = .start ∧ t.aocb.boot.progress = 2 ∧ t.aocb.cause.source = s.aocb.cause.source ∧ t.tabor = Tabor.reset ∧ t.reg = Reg.reset)
    ∧ (s.power.hardReset = false ∨ s.seq.run.isSome = true ∨ s.railsDown = false → Does .hardResetOrderEnd s [] fun t => t.power = s.power)

/-- R75, R134 to R136: the loss of the crystal and of each PLL's lock, and the relock. -/
def Obligations.ClockLosses : Prop :=
  ∀ s : State,
    (s.clocks.xin = true →
      Does .xinLoss s [.od, .clocks, .reg, .thermal] fun t =>
        t.clocks = { s.clocks with xin := false, pllsHeld := true, pllA := false, pllB := false, pllC := false, pllD := false }
        ∧ t.thermal.running = false ∧ t.thermal.shdnLow = s.thermal.shdnLow)
    ∧ Does .pllALoss s [.clocks] (fun t => t.clocks = { s.clocks with pllA := false })
    ∧ (s.clocks.pllB = true → s.up = false → Does .pllBLoss s [.clocks] fun t => t.clocks = { s.clocks with pllB := false })
    ∧ (s.clocks.pllB = true → s.up = true →
      Does .pllBLoss s [.od, .clocks, .beat, .log, .can, .link, .sched, .thermal, .test] fun t =>
        t.clocks = { s.clocks with pllB := false } ∧ t.beat.stoppedB = true ∧ t.thermal.forcedB = true)
    ∧ (s.clocks.pllC = true → s.up = true →
      Does .pllCLoss s [.od, .clocks, .beat, .log, .can, .link, .sched] fun t =>
        t.clocks = { s.clocks with pllC := false } ∧ t.beat = { s.beat with stoppedC := true })
    ∧ (s.clocks.pllC = true → s.up = false → Does .pllCLoss s [.clocks] fun t => t.clocks = { s.clocks with pllC := false })
    ∧ (s.clocks.pllD = true → s.seq.run = none →
      Does .pllDLoss s [.od, .clocks, .log, .can, .link, .sched, .touch, .reg] fun t => t.clocks = { s.clocks with pllD := false })
    ∧ (s.clocks.pllsHeld = false → s.clocks.xin = true → s.clocks.pllA = true →
      Does (.pllRelock 1) s [.clocks] (fun t => t.clocks = { s.clocks with pllB := true })
      ∧ Does (.pllRelock 2) s [.clocks] (fun t => t.clocks = { s.clocks with pllC := true })
      ∧ Does (.pllRelock 3) s [.od, .draws, .clocks, .can, .link, .reg] (fun t => t.clocks = { s.clocks with pllD := true }))
    ∧ (∀ p, s.clocks.pllsHeld = true ∨ s.clocks.pllA = false → Does (.pllRelock p) s [] fun t => t.clocks = s.clocks)

/-- R81: the input switch and the BATFET are never both driven on. Every step keeps it. -/
def Obligations.PathSafeKept : Prop :=
  ∀ s t : State, PathSafe s → step s = .next t → PathSafe t

/-- R81 after reset: neither switch is driven on. -/
def Obligations.PathSafeAtReset : Prop := PathSafe State.reset ∧ State.reset.power.insw = false ∧ State.reset.power.batg = false

/-- R114, R117, R119, R121, R126, R138 and Table 4.5: what the downbeat does whatever the engines hold. The device's time advances by the frame that ended, LISTEN opens
with nothing done, every translation cache is empty, and the frame counter counts; the new frame's length stays within 0.5 % of nominal. -/
def Obligations.DownbeatOpensFrame : Prop :=
  ∀ s : State,
    (∀ bursts dumps est, s.beat.running = true → s.clocks.pllA = true →
      Brings (.downbeat bursts dumps est) s
          [.od, .live, .draws, .power, .beat, .log, .can, .link, .mem, .sched, .tabor, .sense, .touch, .reg, .pack, .thermal, .update, .test] fun t =>
        t.beat.lastHalf = s.beat.lastHalf + s.beat.lenHalf ∧ t.beat.phase = .listen ∧ t.beat.renumber = none
        ∧ t.beat.scanDone = false ∧ t.beat.processDone = false ∧ t.beat.reportDone = false ∧ t.beat.imageMissing = false ∧ t.beat.running = true
        ∧ t.touch.image = [] ∧ t.touch.report = none
        ∧ ∃ mv, t.power = { s.power with holdMv := mv })
    ∧ (∀ bursts dumps est, s.beat.running = false ∨ s.clocks.pllA = false → Calm s →
      Does (.downbeat bursts dumps est) s [] fun t => t.beat = s.beat)
    ∧ (Canonical s → s.beat.applySet = none → (countFrame s).get 0x2101 1 = incWrap 48 (s.get 0x2101 1)
        ∧ (countFrame s).get 0x2101 6 = (s.beat.renumber.getD ((s.get 0x2101 6 + 1) % s.ratio)) % s.ratio
        ∧ (countFrame s).get 0x2101 2 = (countFrame s).beat.lenHalf / 2)
    ∧ (200 * (nextLength s).beat.lenHalf ≤ 201 * s.nominal + 500 ∧ 199 * s.nominal ≤ 200 * (nextLength s).beat.lenHalf + 500
        ∧ (nextLength s).beat.lenHalf % 5 = 0)
    ∧ (s.lock = 0 ∨ s.lock = 3 → s.nominal % 5 = 0 → (nextLength s).beat.lenHalf = s.nominal)
    ∧ (∀ l, Canonical s → s.beat.applySet = some l → l.length = 7 →
        (∀ k, k < 7 → (frameInForce s).inForce 0x2100 (k + 1) = nth l k 0) ∧ (frameInForce s).beat.applySet = none
        ∧ (s.lock = 1 ∨ s.lock = 2 → (frameInForce s).lock = 1 ∧ (frameInForce s).beat.drift = 0))

/-- R113, R114, R448, R118, R228: the phases begin in their order only, and a frame configuration is checked before it may take effect. -/
def Obligations.PhasesAndConfiguration : Prop :=
  ∀ s : State, s.clocks.pllA = true →
    (∀ d, s.beat.running = true → s.beat.phase = .listen →
      Does (.phaseBoundary .scan d) s [.od, .draws, .beat, .sched, .touch] fun t => t.beat = { s.beat with phase := .scan })
    ∧ (∀ d, s.beat.running = true → s.beat.phase = .scan →
      Does (.phaseBoundary .process d) s [.od, .beat, .log, .link, .sched] fun t =>
        t.beat = { s.beat with phase := .process, scanDone := match s.profile with
            | some p => s.touchRuns && decide (s.touch.image.length = s.expected (s.scan p))
            | none => false })
    ∧ (∀ d, s.beat.running = true → s.beat.phase = .process →
      Does (.phaseBoundary .report d) s [.od, .beat, .can, .link, .mem, .sched, .touch] fun t =>
        t.beat = { s.beat with phase := .report, reportDone := s.beat.reportDone || s.touch.report.isSome } ∧ t.touch.report = none
        ∧ (s.can.nmt = .operational → s.can.guard = false → t.can.window = true))
    ∧ (∀ d, s.beat.running = true → s.beat.phase = .report →
      Does (.phaseBoundary .quiet d) s [.od, .beat, .can, .sched, .test] fun t =>
        t.beat = { s.beat with phase := .quiet } ∧ t.can.window = false
        ∧ ∃ n, t.test = { s.test with eligible := n } ∧ ∀ k, k < 7 → bit n k = s.sliceEligible k)
    ∧ (∀ p d, s.beat.running = false ∨ (s.beat.phase, p) ∉ [(Phase.listen, Phase.scan), (.scan, .process), (.process, .report), (.report, .quiet)] →
      Does (.phaseBoundary p d) s [] fun t => t.beat = s.beat)
    ∧ (∀ p, MayWrite s p 0x2100 8 →
      Does (.applyFrameConfiguration p) s [.replies, .beat] fun t =>
        let ok := s.frameOk && periodOk (s.get 0x1006 0) (s.get 0x2100 2) (s.get 0x2100 1)
        t.beat = (if ok then { s.beat with applySet := some s.stagedFrame } else s.beat)
        ∧ t.replies = s.replies.set p.code ⟨if ok then Status.ok.code else Status.incompatible.code, []⟩)
    ∧ (s.frameOk = true → s.get 0x2100 3 < s.get 0x2100 1 ∧ 500 ≤ s.get 0x2100 2 * s.get 0x2100 1 ∧ s.get 0x2100 2 * s.get 0x2100 1 ≤ 1280000
        ∧ s.get 0x2100 4 ≤ 200 ∧ 100 ≤ s.get 0x2100 5 ∧ s.get 0x2100 5 ≤ 900 ∧ 50 ≤ s.get 0x2100 6 ∧ s.get 0x2100 6 ≤ 500 ∧ 50 ≤ s.get 0x2100 7
        ∧ s.get 0x2100 7 ≤ 500 ∧ s.get 0x2100 4 + s.get 0x2100 5 + s.get 0x2100 6 + s.get 0x2100 7 + 20 ≤ 1000)

/-- R11, R141 to R146, R151, R193: what the arbiter answers to a read, a write and a descriptor query, and that a refused request changes the reply alone. -/
def Obligations.ArbiterAnswers : Prop :=
  ∀ (s : State) (p : Port) (i n : Nat), Calm s → i < 65536 → n < 256 → segment i n = false →
    (∀ peek, MayRead s p i n → (peek = true → p = .D) → ¬(0x2400 ≤ i ∧ i ≤ 0x24FF ∧ n = 9) → (rcLatch i n = false ∨ peek = true) →
      Does (.objectRead p i n peek) s [.replies] fun t => t.replies = s.replies.set p.code ⟨0, toLE (sizeOf i n) (s.valueAt p i n)⟩)
    ∧ (∀ st, s.up = true → s.checkRead p i n = st → st ≠ .ok →
      Does (.objectRead p i n false) s [.replies] fun t => t.replies = s.replies.set p.code ⟨st.code, []⟩)
    ∧ (s.up = false → s.inLoader = false →
      Does (.objectRead p i n false) s [.replies] (fun t => t.replies = s.replies.set p.code ⟨Status.notReady.code, []⟩)
      ∧ ∀ v z, Does (.objectWrite p i n v z) s [.replies] fun t => t.replies = s.replies.set p.code ⟨Status.notReady.code, []⟩)
    ∧ (s.up = true → p ≠ .D → Does (.objectRead p i n true) s [.replies] fun t => t.replies = s.replies.set p.code ⟨Status.noAccess.code, []⟩)
    ∧ (∀ v z st, s.up = true → s.checkWrite p i n = st → st ≠ .ok →
      Does (.objectWrite p i n v z) s [.replies] fun t => t.replies = s.replies.set p.code ⟨st.code, []⟩)
    ∧ (∀ v z, MayWrite s p i n → z ≠ s.sizeNow p i n →
      Does (.objectWrite p i n v z) s [.replies] fun t => t.replies = s.replies.set p.code ⟨Status.length.code, []⟩)
    ∧ (∀ v, MayWrite s p i n → isPush i n = false → rowOk i n (keptFields i n (fromLE (toLE (sizeOf i n) v))) = false →
      ¬(0x2400 ≤ i ∧ i ≤ 0x24FF) →
      Does (.objectWrite p i n v (sizeOf i n)) s [.replies] fun t => t.replies = s.replies.set p.code ⟨Status.range.code, []⟩)
    ∧ (Canonical s → ∀ k v, k ∈ [1, 2, 3] → MayWrite s p 0x2100 k → v < 2 ^ (8 * sizeOf 0x2100 k) → rowOk 0x2100 k v = true →
      Does (.objectWrite p 0x2100 k v (sizeOf 0x2100 k)) s [.replies, .od] fun t =>
        t.get 0x2100 k = v ∧ OnlyValues [(0x2100, k)] s t ∧ t.replies = s.replies.set p.code ⟨0, []⟩)
    ∧ (s.up = true → s.gateDenies p i n false = false →
      Does (.descriptorQuery p i n) s [.replies] fun t =>
        t.replies = s.replies.set p.code ⟨0, toLE 8 (s.descriptor p i n (if p = .T then s.userNow else 0))⟩)
    ∧ (Canonical s → rcLatch i n = true → MayRead s p i n →
      Does (.rcLatchRead p i n false) s [.replies, .od] (fun t => t.get i n = 0 ∧ OnlyValues [(i, n)] s t
        ∧ t.replies = s.replies.set p.code ⟨0, toLE (sizeOf i n) (s.valueAt p i n)⟩)
      ∧ (p = .D → Does (.rcLatchRead p i n true) s [.replies] fun t => t.replies = s.replies.set p.code ⟨0, toLE (sizeOf i n) (s.valueAt p i n)⟩))

/-- R169, R171, R174, R176: segments, the configuration export and its snapshot, and the staging segment. -/
def Obligations.SegmentAccess : Prop :=
  ∀ (s : State) (p : Port), Calm s →
    (∀ offset length, MayRead s p 0x2003 1 → s.store.exports.length = 4 →
      Does (.segmentRead p 0x2003 1 offset length) s [.replies, .store] fun t =>
        ∃ img, t.store = { s.store with exports := s.store.exports.set p.code (some img) }
          ∧ (offset = 0 ∨ nth s.store.exports p.code none = none → img = s.configImage)
          ∧ (0 < offset → ∀ x, nth s.store.exports p.code none = some x → img = x)
          ∧ t.replies = s.replies.set p.code ⟨0, (img.drop offset).take length⟩)
    ∧ (MayRead s p 0x2003 1 → s.store.exports.length = 4 →
      Does (.configurationExport p) s [.replies, .store] fun t =>
        t.store = { s.store with exports := s.store.exports.set p.code (some s.configImage) }
          ∧ t.replies = s.replies.set p.code ⟨0, s.configImage.take (if p = .C then 16777215 else 256)⟩)
    ∧ (∀ offset data, MayWrite s p 0x2003 2 → offset + data.length ≤ 65536 →
      Does (.segmentWrite p 0x2003 2 offset data) s [.replies, .store] fun t =>
        t.replies = s.replies.set p.code ⟨0, []⟩
          ∧ (∃ l, t.store = { s.store with staging := l } ∧ (l.drop offset).take data.length = data ∧ l.length = max s.store.staging.length (offset + data.length)
            ∧ ∀ k, k < offset ∨ offset + data.length ≤ k → k < s.store.staging.length → l[k]? = s.store.staging[k]?))
    ∧ (∀ offset data, MayWrite s p 0x2003 2 → 65536 < offset + data.length →
      Does (.segmentWrite p 0x2003 2 offset data) s [.replies] fun t => t.replies = s.replies.set p.code ⟨Status.length.code, []⟩)
    ∧ (∀ i n w, s.segmentAccess p i n w = .ok → (p = .C → s.can.sdo.mux ≠ (i, n)) →
      Brings (.segmentFillTimeout p i n w) s [.od, .replies, .sched] fun t => t.replies = s.replies.set p.code ⟨Status.hardware.code, []⟩)
    ∧ (∀ i n w, s.segmentAccess .C i n w = .ok → s.can.sdo.mux = (i, n) →
      Brings (.segmentFillTimeout .C i n w) s [.od, .replies, .sched, .can] fun t =>
        t.replies = s.replies.set Port.C.code ⟨Status.hardware.code, []⟩ ∧ t.can.sdo = .idle)
    ∧ (∀ i n w st, s.segmentAccess p i n w = st → st ≠ .ok →
      Does (.segmentFillTimeout p i n w) s [.replies] fun t => t.replies = s.replies.set p.code ⟨st.code, []⟩)

/-- R158 to R165, R177 to R180: saves, restores and imports begin a store job that is answered when it ends; each copy's end leads to the next. -/
def Obligations.StoreJobs : Prop :=
  ∀ (s : State) (p : Port), Canonical s → Calm s →
    (∀ g, g ∈ [1, 2, 3] → MayWrite s p 0x1010 g → s.flashRefused = false → s.store.busy = false →
        (s.newImage (s.savedRecords g ++ s.storedRecords (fun r => !inGroup g r.index))).length ≤ 65536 →
      Does (.saveParameters p g 0x65766173) s [.od, .store] fun t =>
        t.get 0x2002 1 = 1 ∧ OnlyValues [(0x2002, 1)] s t ∧ t.replies = s.replies
        ∧ t.store.job = some ⟨.save, s.newImage (s.savedRecords g ++ s.storedRecords (fun r => !inGroup g r.index)), s.store.firstCopy, false, false,
            .port p.code 0x1010 g 0⟩
        ∧ t.store.slots = s.store.slots.set (s.store.nextSlot s.store.firstCopy) .broken)
    ∧ (∀ g, g ∈ [1, 2, 3] → MayWrite s p 0x1011 g → s.flashRefused = false → s.store.busy = false →
        (s.newImage (s.storedRecords (fun r => !inGroup g r.index))).length ≤ 65536 →
      Does (.restoreDefaultParameters p g 0x64616F6C) s [.od, .store] fun t =>
        t.get 0x2002 1 = 1 ∧ OnlyValues [(0x2002, 1)] s t ∧ t.replies = s.replies
        ∧ t.store.job = some ⟨.restore, s.newImage (s.storedRecords (fun r => !inGroup g r.index)), s.store.firstCopy, false, false,
            .port p.code 0x1011 g 0⟩)
    ∧ (∀ g v, g ∈ [1, 2, 3] → v < 2 ^ 32 →
      (v ≠ 0x65766173 → MayWrite s p 0x1010 g →
        Does (.saveParameters p g v) s [.replies] fun t => t.replies = s.replies.set p.code ⟨Status.range.code, []⟩)
      ∧ (v ≠ 0x64616F6C → MayWrite s p 0x1011 g →
        Does (.restoreDefaultParameters p g v) s [.replies] fun t => t.replies = s.replies.set p.code ⟨Status.range.code, []⟩))
    ∧ (MayWrite s p 0x2003 3 → s.flashRefused = false → s.store.busy = false →
        (∀ im, parseImage s.store.staging = im → importHeaderOk im = false →
          Does (.importStrict p) s [.od, .store, .replies] (fun t => t.store = { s.store with staging := [] } ∧ t.get 0x2003 4 = 0 ∧ t.get 0x2003 5 = 0
            ∧ OnlyValues [(0x2003, 4), (0x2003, 5)] s t ∧ t.replies = s.replies.set p.code ⟨Status.notStored.code, []⟩)
          ∧ Does (.importSkipUnknown p) s [.od, .store, .replies] fun t => t.store = { s.store with staging := [] }
            ∧ t.replies = s.replies.set p.code ⟨Status.notStored.code, []⟩)
        ∧ (∀ im, parseImage s.store.staging = im → importHeaderOk im = true →
          let u := (s.set 0x2003 4 0).set 0x2003 5 0
          let bound := u.storedRecords (fun r => unitBound r.index r.sub)
          let start := u.startingWith (bound ++ im.records.filter (fun r => !recordIll r && !unitBound r.index r.sub))
          let kept := fun (r : StoreRecord) => decide (r.value ≠ u.defaultNow r.index r.sub)
          ((∀ r ∈ im.records, recordRefused start false r = none) → (s.newImage (im.records.filter kept ++ bound)).length ≤ 65536 →
            Does (.importStrict p) s [.od, .store] fun t => t.get 0x2002 1 = 3 ∧ t.replies = s.replies ∧ t.store.staging = s.store.staging
              ∧ t.store.job = some ⟨.importing, s.newImage (im.records.filter kept ++ bound), s.store.firstCopy, false, false, .port p.code 0x2003 3 0⟩)
          ∧ ((∀ r ∈ im.records, recordRefused start true r = none) →
            (s.newImage (((im.records.filter (fun r => (descOf r.index r.sub).isSome)).filter kept) ++ bound)).length ≤ 65536 →
            Does (.importSkipUnknown p) s [.od, .store] fun t => t.get 0x2002 1 = 3 ∧ t.replies = s.replies ∧ t.store.staging = s.store.staging
              ∧ t.get 0x2003 4 = satNat 16 (im.records.length - (im.records.filter (fun r => (descOf r.index r.sub).isSome)).length))))
    ∧ (∀ j, s.store.job = some j → j.second = false → j.kind ≠ .repair →
      Does (.storeCopyComplete true) s [.store] fun t =>
        t.store = (startCopy { s with store := { s.store with slots := s.store.slots.set (s.store.jobSlot j) (.holds j.image) } }
          { j with copy := 1 - j.copy, second := true, retried := false }).store)
    ∧ (∀ j, s.store.job = some j → j.retried = false →
      Does (.storeCopyComplete false) s [.store] fun t => t.store = (startCopy s { j with retried := true }).store)
    ∧ (∀ j, s.store.job = some j → j.second = true → j.kind = .save →
      ∃ u, exec (.storeCopyComplete true) s = settled (answerAsker u j.asker .ok)
        ∧ (let st := { s.store with slots := s.store.slots.set (s.store.jobSlot j) (.holds j.image), job := none }
           u.store = { st with repairDue := if st.current 0 && st.current 1 then none else st.repairDue })
        ∧ u.get 0x2002 1 = 0 ∧ u.get 0x2002 8 = 1 ∧ u.get 0x2002 2 = j.image.generation ∧ u.get 0x2002 5 = satNat 32 (s.get 0x2002 5 + 1))
    ∧ (s.store.job = none → ∀ ok, Does (.storeCopyComplete ok) s [] fun t => t.store = s.store)
    ∧ (∀ c im, s.store.repairDue = some c → s.store.chosen = some im → s.store.job = none → s.up = true → s.can.started = true → s.can.nmt ≠ .init →
        s.flashRefused = false → s.store.current c = false →
      Does .storeRepair s [.od, .store] fun t => t.get 0x2002 1 = 2 ∧ OnlyValues [(0x2002, 1)] s t
        ∧ t.store = (startCopy { s with store := { s.store with repairDue := none } } ⟨.repair, im, c, false, false, .none⟩).store)
    ∧ (s.store.repairDue = none → Does .storeRepair s [] fun t => t.store = s.store)

/-- R209, R210, R235, R93: the NMT commands. Whatever the NMT state, rails, the power state, touch frames, fans, the charger, the downbeat's clocking and the store keep
going: a change of state moves only the parts that the frame names. A command takes its frame from the receive FIFO, and the copy that the other line gives within the
duplicate window does no more than that. -/
def Obligations.NmtCommands : Prop :=
  ∀ (s : State) (l : Line) (node ns : Nat),
    (s.up = true → s.lineRuns l = true → s.can.nmt ≠ .init → s.nodeId ≠ 0xFF → node = 0 ∨ node = s.nodeId →
      (s.nmtCopy 1 l node ns = false →
        Does (.nmtStartRemoteNode l node ns) s [.od, .log, .can, .link, .sched, .update] (fun t => t.can.nmt = .operational
          ∧ t.can.nmtSeen = some ⟨l, 1, node, ns⟩))
      ∧ (s.nmtCopy 2 l node ns = false →
        Does (.nmtStopRemoteNode l node ns) s [.od, .log, .can, .link, .sched, .update] (fun t => t.can.nmt = .stopped ∧ t.can.usdo = []
          ∧ (s.can.nmt = .operational → t.can.window = false)))
      ∧ (s.nmtCopy 128 l node ns = false →
        Does (.nmtEnterPreOperational l node ns) s [.od, .log, .can, .link, .sched, .update] (fun t => t.can.nmt = .preOp ∧ t.can.usdo = []
          ∧ (s.can.nmt = .operational → t.can.window = false)))
      ∧ (s.nmtCopy 130 l node ns = false →
        Does (.nmtResetCommunication l node ns) s [.od, .live, .aocb, .log, .can, .link, .sched, .update] (fun t =>
          t.can.nmt = .init ∧ t.can.sdo = .idle ∧ t.can.usdo = [] ∧ t.can.window = false ∧ t.can.lss.nodeSet = false
          ∧ t.aocb = { s.aocb with cause := { s.aocb.cause with soft := 2 } }))
      ∧ (s.nmtCopy 129 l node ns = false →
        Brings (.nmtResetApplication l node ns) s [.od, .live, .draws, .aocb, .store, .log, .can, .link, .mem, .sched, .tabor, .sense, .touch, .thermal, .update] (fun u =>
          u.can.nmt = .init ∧ u.store = { s.store with staging := [], query := [0, 0, 0, 0] } ∧ u.can.lss.nodeSet = s.can.lss.nodeSet
          ∧ u.aocb = { s.aocb with cause := { s.aocb.cause with soft := 1 } })))
    ∧ (s.up = false ∨ s.lineRuns l = false ∨ s.can.nmt = .init ∨ s.nodeId = 0xFF ∨ (node ≠ 0 ∧ node ≠ s.nodeId)
        ∨ (∀ c ∈ [1, 2, 128, 129, 130], s.nmtCopy c l node ns = true) →
      Does (.nmtStartRemoteNode l node ns) s [.can] (CanKept s) ∧ Does (.nmtStopRemoteNode l node ns) s [.can] (CanKept s)
      ∧ Does (.nmtEnterPreOperational l node ns) s [.can] (CanKept s) ∧ Does (.nmtResetCommunication l node ns) s [.can] (CanKept s)
      ∧ (Calm s → Does (.nmtResetApplication l node ns) s [.can] (CanKept s)))
    ∧ (∀ c, s.lineInUse .A = true → s.lineInUse .B = true → s.can.nmtSeen = some ⟨l.other, c, node, ns⟩ → s.nmtCopy c l node ns = true)

/-- R204 to R207 and Table 6.3: the LSS services. Each answers on the line of the request and changes only what it names; the receive FIFO gives up the request. -/
def Obligations.LssServices : Prop :=
  ∀ (s : State) (l : Line), s.canRuns = true →
    (∀ m, m ≠ 0 → Does (.lssSwitchStateGlobal m) s [.can] fun t => t.can.lss = (if m = 1 then { s.can.lss with configuring := true } else s.can.lss))
    ∧ (s.nodeId ≠ 0xFF → Does (.lssSwitchStateGlobal 0) s [.can] fun t => t.can.lss = { s.can.lss with configuring := false })
    ∧ (s.can.lss.configuring = true → s.nodeId = 0xFF → s.can.lss.nodeSet = true → s.get 0x2021 5 ≠ 0xFF → s.inLoader = false →
      Does (.lssSwitchStateGlobal 0) s [.od, .live, .aocb, .log, .can, .link, .sched, .update] fun t =>
        t.can.nmt = .init ∧ t.can.lss.configuring = false ∧ t.can.lss.nodeSet = false ∧ t.aocb.cause.soft = 2)
    ∧ (s.can.nmt ≠ .operational →
      Does (.lssSwitchStateSelective l (s.identity 0) (s.identity 1) (s.identity 2) (s.identity 3)) s [.can] (fun t =>
        t.can.lss = { s.can.lss with configuring := true } ∧ t.can.txq = (lssSend s l.code [0x44]).can.txq)
      ∧ (∀ a b c d, (a, b, c, d) ≠ (s.identity 0, s.identity 1, s.identity 2, s.identity 3) →
          Does (.lssSwitchStateSelective l a b c d) s [.can] fun t => CanKept s t ∧ t.can.txq = s.can.txq)
      ∧ (∀ a b c d e f, a = s.identity 0 → b = s.identity 1 → c ≤ s.identity 2 → s.identity 2 ≤ d → e ≤ s.identity 3 → s.identity 3 ≤ f →
          Does (.lssIdentifyRemoteSlave l a b c d e f) s [.can] fun t => CanKept s t ∧ t.can.txq = (lssSend s l.code [0x4F]).can.txq)
      ∧ (∀ a b c d e f, a ≠ s.identity 0 ∨ b ≠ s.identity 1 ∨ s.identity 2 < c ∨ d < s.identity 2 ∨ s.identity 3 < e ∨ f < s.identity 3 →
          Does (.lssIdentifyRemoteSlave l a b c d e f) s [.can] fun t => CanKept s t ∧ t.can.txq = s.can.txq)
      ∧ Does (.lssIdentifyNonConfigured l) s [.can] (fun t => CanKept s t ∧
          t.can.txq = if s.nodeId = 0xFF then (lssSend s l.code [0x50]).can.txq else s.can.txq)
      ∧ (s.nodeId = 0xFF → s.can.lss.nodeSet = false → s.can.lss.configuring = false →
          Does (.lssFastscan l 0 0x80 0 0) s [.can] (fun t => t.can.lss = { s.can.lss with matched := 0 })
          ∧ (∀ b n, b ≤ 31 → n ≤ 3 → s.can.lss.matched ≤ 3 →
            Does (.lssFastscan l (s.identity s.can.lss.matched) b s.can.lss.matched n) s [.can] fun t =>
              t.can.lss = { s.can.lss with matched := n, configuring := decide (b = 0) && decide (n < s.can.lss.matched) }
                ∧ t.can.txq = (lssSend s l.code [0x4F]).can.txq))
      ∧ (s.nodeId ≠ 0xFF → ∀ i b x n, Does (.lssFastscan l i b x n) s [.can] fun t => CanKept s t ∧ t.can.txq = s.can.txq)
      ∧ (s.can.lss.configuring = true →
          (∀ n, Canonical s → (1 ≤ n ∧ n ≤ 127) ∨ n = 0xFF →
            Does (.lssConfigureNodeId l n) s [.od, .can] fun t => t.get 0x2021 5 = n ∧ OnlyValues [(0x2021, 5)] s t
              ∧ t.can.lss = { s.can.lss with nodeSet := true } ∧ t.can.txq = (lssSend s l.code [0x11, 0, 0]).can.txq)
          ∧ (∀ n, n = 0 ∨ (127 < n ∧ n ≠ 0xFF) →
            Does (.lssConfigureNodeId l n) s [.can] fun t => CanKept s t ∧ t.can.txq = (lssSend s l.code [0x11, 1, 0]).can.txq)
          ∧ (∀ k r, lssRate 0 k = some r → (s.fdOn = true → 500 ≤ r) →
            Does (.lssConfigureBitTiming l 0 k) s [.can] fun t => t.can.lss = { s.can.lss with rate := some r }
              ∧ t.can.txq = (lssSend s l.code [0x13, 0, 0]).can.txq)
          ∧ (∀ a k, a ≠ 0 ∨ k = 1 ∨ 4 < k →
            Does (.lssConfigureBitTiming l a k) s [.can] fun t => CanKept s t ∧ t.can.txq = (lssSend s l.code [0x13, 1, 0]).can.txq)
          ∧ (∀ ms r, s.can.lss.rate = some r →
            Does (.lssActivateBitTiming ms) s [.live, .can] fun t => t.can.lss = { s.can.lss with kept := some (s.get 0x2020 1) }
              ∧ t.od = s.od ∧ (Canonical s → t.inForce 0x2020 1 = r ∧ t.inForce 0x2020 2 = s.inForce 0x2020 2))
          ∧ (∀ part, Does (.lssInquireIdentity l part) s [.can] fun t => CanKept s t ∧
              t.can.txq = (lssSend s l.code ((0x5A + part.val) :: toLE 4 (s.identity part.val))).can.txq)
          ∧ Does (.lssInquireNodeId l) s [.can] (fun t => CanKept s t ∧ t.can.txq = (lssSend s l.code [0x5E, s.nodeId]).can.txq)
          ∧ (s.store.busy = true ∨ s.flashRefused = true →
            Does (.lssStoreConfiguration l) s [.can] fun t => CanKept s t ∧ t.can.txq = (lssSend s l.code [0x17, 2, 0]).can.txq)
          ∧ (s.store.busy = false → s.flashRefused = false →
            Does (.lssStoreConfiguration l) s [.od, .can, .store] fun t => CanKept s t ∧ (t.store.job.isSome = true ∨ t.can.txq = (lssSend s l.code [0x17, 2, 0]).can.txq))))

/-- R200, R201, R212, R213, R221, R223, R236: frames accepted, errors, bus-off and silence of a line, heartbeat, TIME and the EMCY inhibit time. -/
def Obligations.CanLineEvents : Prop :=
  ∀ (s : State) (l : Line), Canonical s →
    (∀ f ns, s.lineRuns l = true → (f.fd = true → s.fdOn = true) → s.fifoFull l = false → s.seenOnOther l f ns = false →
      Does (.canFrameAccepted l f ns) s [.od, .draws, .log, .can, .link, .mem, .sched, .test] fun t =>
        ⟨l, f.id, f.data, ns⟩ ∈ t.can.seen ∧ t.can.nmt = s.can.nmt ∧ t.can.sdo = s.can.sdo)
    ∧ (∀ f ns, s.lineRuns l = true → (f.fd = true → s.fdOn = true) → s.fifoFull l = false → s.duplicate l f ns = true →
      Does (.canFrameAccepted l f ns) s [.od, .draws, .log, .can, .link, .mem, .sched, .test] fun t => t.can.fifo = s.can.fifo ∧ t.sched.rings = s.sched.rings)
    ∧ (∀ f ns, s.lineRuns l = true → (f.fd = true → s.fdOn = true) → s.fifoFull l = true →
      Does (.canFrameAccepted l f ns) s [.od, .can, .link] fun t => t.can.seen = s.can.seen ∧ t.can.fifo = s.can.fifo ∧ (s.can.emcyDropped = 0 → t.get 0x1003 1 = 0x8110))
    ∧ (∀ f ns, s.lineRuns l = false ∨ (f.fd = true ∧ s.fdOn = false) →
      Does (.canFrameAccepted l f ns) s [] fun t => t.can.seen = s.can.seen)
    ∧ (∀ tx inc, s.lineRuns l = true → s.get l.index (if tx then 2 else 3) + inc ≤ 127 →
      Does (.canErrorDetected l tx inc) s [.od] fun t => t.get l.index (if tx then 2 else 3) = s.get l.index (if tx then 2 else 3) + inc
        ∧ t.get l.index 7 = satNat 32 (s.get l.index 7 + 1) ∧ OnlyValues [(l.index, 7), (l.index, if tx then 2 else 3)] s t)
    ∧ (∀ inc, s.lineRuns l = true → 255 < s.get l.index 2 + inc →
      Does (.canErrorDetected l true inc) s [.od, .log, .can, .link, .sched, .test] fun t => t.get l.index 1 = 3 ∧ t.lineFaulty l = true)
    ∧ (s.canRuns = true → s.lineState l = 3 →
      Does (.busOffRecoveryDelayExpiry l) s [.od, .log, .can, .link, .sched, .test] fun t => t.get l.index 1 = 4)
    ∧ (s.lineState l ≠ 3 → Does (.busOffRecoveryDelayExpiry l) s [] fun t => t.can.nmt = s.can.nmt)
    ∧ (s.canRuns = true → s.lineState l = 4 →
      Does (.busOffRecoveryComplete l) s [.od, .log, .can, .link, .sched, .test] fun t => t.get l.index 1 = 1 ∧ t.get l.index 2 = 0 ∧ t.get l.index 3 = 0)
    ∧ (s.canRuns = true → s.lineInUse .A = true → s.lineInUse .B = true → s.lineState l = 1 ∨ s.lineState l = 2 →
      Does (.lineSilent l) s [.od, .log, .can, .link, .sched, .test] fun t => t.get l.index 1 = 5)
    ∧ (s.lineInUse .A = false ∨ s.lineInUse .B = false → Does (.lineSilent l) s [] fun t => t.can.nmt = s.can.nmt)
    ∧ (s.canRuns = true → s.can.nmt = .preOp ∨ s.can.nmt = .stopped → s.nodeId ≠ 0xFF → s.allFaulty = false → s.inLoader = true ∨ s.get 0x1017 0 ≠ 0 →
      Does .heartbeatProduce s [] fun t => t.can.txq = s.can.txq ++
        [⟨.heartbeat, classic (0x700 + s.nodeId) [if s.can.nmt = .preOp then 0x7F else 0x04], s.txLines.1, s.txLines.2, false, s.can.guard⟩])
    ∧ (s.nodeId = 0xFF ∨ s.can.nmt = .init ∨ s.allFaulty = true → Does .heartbeatProduce s [] fun t => s.can.nmt = .operational ∨ t.can.txq = s.can.txq)
    ∧ (∀ n : Fin 8, s.canRuns = true → s.can.consumers[n.val]? = some .armed →
      Does (.heartbeatConsumerExpiry n) s [.od, .log, .can, .link, .sched] fun t => t.can.consumers = s.can.consumers.set n.val .expired
        ∧ t.get 0x2025 8 = satNat 32 (s.get 0x2025 8 + 1))
    ∧ (∀ n : Fin 8, s.can.consumers[n.val]? ≠ some .armed → Does (.heartbeatConsumerExpiry n) s [] fun t => t.can.consumers = s.can.consumers)
    ∧ (∀ d, s.canRuns = true → s.inLoader = false → d.length = 6 → s.can.nmt = .preOp ∨ s.can.nmt = .operational →
      Does (.timeReceived d) s [.od, .log, .can, .link, .sched] fun t => CanKept s t ∧
        t.get 0x4810 2 = fromLE d ∧ t.flag 0x4810 3 0 = true ∧ t.get 0x4810 4 = 0 ∧ t.log.timeSeen = true)
    ∧ (∀ d, d.length ≠ 6 ∨ s.can.nmt = .init ∨ s.can.nmt = .stopped → Does (.timeReceived d) s [.can] fun t => CanKept s t)
    ∧ Does .emcyInhibitExpiry s [.od, .can, .link] (fun t => s.can.emcyQ = [] → s.can.emcyDropped = 0 → t.can.emcyInhibit = false ∧ t.can.emcyQ = [])

/-- R224, R225, R151 and Tables 5.4, 6.6: the classic SDO server, transfer by transfer. -/
def Obligations.SdoTransfers : Prop :=
  ∀ (s : State) (d : List Nat), Calm s → s.canRuns = true → s.nodeId ≠ 0xFF → s.can.nmt = .preOp → d.length = 8 →
    ((∀ i n ok, s.can.sdo ≠ .awaiting i n ok) →
      (definedStatus (muxIndex d) (muxSub d) = .ok → bit (commandByte d) 1 = false →
        Does (.sdoInitiateDownload d) s [.can] fun t =>
          t.can.sdo = .download (muxIndex d) (muxSub d) (if bit (commandByte d) 0 then some (fromLE ((d.drop 4).take 4)) else none) [] 0 false
          ∧ t.can.txq = (sdoSend s (0x60 :: muxBytes (muxIndex d) (muxSub d))).can.txq)
      ∧ (bit (commandByte d) 1 = true → segment (muxIndex d) (muxSub d) = true →
        Does (.sdoInitiateDownload d) s [.can] fun t => t.can.sdo = .idle
          ∧ t.can.txq = (sdoAbort s (muxIndex d) (muxSub d) Status.badRequest.abort).can.txq)
      ∧ (definedStatus (muxIndex d) (muxSub d) ≠ .ok → segment (muxIndex d) (muxSub d) = false → s.inLoader = false → s.up = true →
        (bit (commandByte d) 1 = false → Does (.sdoInitiateDownload d) s [.can] fun t => t.can.sdo = .idle
          ∧ t.can.txq = (sdoAbort s (muxIndex d) (muxSub d) (definedStatus (muxIndex d) (muxSub d)).abort).can.txq)
        ∧ Does (.sdoInitiateUpload d) s [.can, .replies] (fun t => t.can.sdo = .idle
          ∧ t.can.txq = (sdoAbort s (muxIndex d) (muxSub d) (definedStatus (muxIndex d) (muxSub d)).abort).can.txq)
        ∧ Does (.sdoBlockDownloadInitiate d) s [.can] (fun t => t.can.sdo = .idle
          ∧ t.can.txq = (sdoAbort s (muxIndex d) (muxSub d) (definedStatus (muxIndex d) (muxSub d)).abort).can.txq))
      ∧ (muxIndex d = 0x1000 → muxSub d = 0 → MayRead s .C 0x1000 0 →
        Does (.sdoInitiateUpload d) s [.can, .replies] fun t => t.can.sdo = .idle
          ∧ t.can.txq = (sdoSend s (0x43 :: (muxBytes 0x1000 0 ++ toLE 4 (s.valueAt .C 0x1000 0)))).can.txq)
      ∧ (definedStatus (muxIndex d) (muxSub d) = .ok →
        Does (.sdoBlockDownloadInitiate d) s [.can, .draws] fun t => ∃ n, 1 ≤ n ∧ n ≤ 127
          ∧ t.can.sdo = .blockDownload (muxIndex d) (muxSub d) (if bit (commandByte d) 1 then some (fromLE ((d.drop 4).take 4)) else none) [] 0 0
              (bit (commandByte d) 2) n 0 false)
      ∧ (nth d 4 0 = 0 ∨ 127 < nth d 4 0 →
        Does (.sdoBlockUploadInitiate d) s [.can] fun t => t.can.sdo = .idle
          ∧ t.can.txq = (sdoAbort s (muxIndex d) (muxSub d) 0x05040002).can.txq)
      ∧ (muxIndex d = 0x1000 → muxSub d = 0 → MayRead s .C 0x1000 0 → 1 ≤ nth d 4 0 → nth d 4 0 ≤ 127 →
        Does (.sdoBlockUploadInitiate d) s [.can, .replies] fun t =>
          let v := toLE 4 (s.valueAt .C 0x1000 0)
          t.can.sdo = .blockUpload 0x1000 0 v v (bit (commandByte d) 2) (nth d 4 0) false false)
      ∧ Does (.sdoAbortReceived d) s [.can] (fun t => t.can.sdo = .idle ∧ t.can.txq = s.can.txq))
    ∧ (∀ i n size got count tog, s.can.sdo = .download i n size got count tog →
        (bit (commandByte d) 4 ≠ tog → Does (.sdoDownloadSegment d) s [.can] fun t =>
          t.can.sdo = .idle ∧ t.can.txq = (sdoAbort s i n 0x05030000).can.txq)
        ∧ (bit (commandByte d) 4 = tog → bit (commandByte d) 0 = false → segment i n = false → streams i = false →
          Does (.sdoDownloadSegment d) s [.can] fun t =>
            let new := (d.drop 1).take (7 - bits (commandByte d) 1 3)
            t.can.sdo = .download i n size (got ++ new) (count + new.length) (!tog)
              ∧ t.can.txq = (sdoSend s [0x20 + 16 * b2n tog]).can.txq))
    ∧ (∀ i n rest tog, s.can.sdo = .upload i n rest tog →
        (bit (commandByte d) 4 ≠ tog → Does (.sdoUploadSegment d) s [.can] fun t =>
          t.can.sdo = .idle ∧ t.can.txq = (sdoAbort s i n 0x05030000).can.txq)
        ∧ (bit (commandByte d) 4 = tog → Does (.sdoUploadSegment d) s [.can] fun t =>
            t.can.sdo = (if rest.length ≤ 7 then SdoState.idle else .upload i n (rest.drop 7) (!tog))
              ∧ t.can.txq = (sdoSend s ((16 * b2n tog + 2 * (7 - (rest.take 7).length) + b2n (decide (rest.length ≤ 7))) :: rest.take 7)).can.txq))
    ∧ (∀ i n size got count crc chk blk seq, s.can.sdo = .blockDownload i n size got count crc chk blk seq false →
        (bits (commandByte d) 0 7 = seq + 1 → seq + 1 < blk → bit (commandByte d) 7 = false →
          Does (.sdoBlockDownloadSegment d) s [.can] fun t =>
            t.can.sdo = .blockDownload i n size (got ++ d.drop 1) (count + 7) crc chk blk (seq + 1) false ∧ t.can.txq = s.can.txq)
        ∧ (bits (commandByte d) 0 7 = 0 ∨ blk < bits (commandByte d) 0 7 →
          Does (.sdoBlockDownloadSegment d) s [.can] fun t => t.can.sdo = .idle ∧ t.can.txq = (sdoAbort s i n 0x05040003).can.txq))
    ∧ (∀ i n size got count crc chk blk seq, s.can.sdo = .blockDownload i n size got count crc chk blk seq true →
        let data := got.take (got.length - bits (commandByte d) 2 3)
        let sum := data.foldl (fun c x => crc16Bits 8 (c ^^^ (x % 256 * 256))) crc
        (chk = true → sum ≠ fromLE ((d.drop 1).take 2) →
          Does (.sdoBlockDownloadEnd d) s [.can] fun t => t.can.sdo = .idle ∧ t.can.txq = (sdoAbort s i n 0x05040004).can.txq)
        ∧ (chk = false ∨ sum = fromLE ((d.drop 1).take 2) → streams i = false → segment i n = false →
          size = none ∨ size = some (count - bits (commandByte d) 2 3) →
          exec (.sdoBlockDownloadEnd d) s = settled (writeAnswered (writeRequest (served s .sdo) .C i n data 0) i n [0xA1])))
    ∧ (∀ i n v rest chk blk st en, s.can.sdo = .blockUpload i n v rest chk blk st en →
        (commandByte d = 0xA3 → st = false → Does (.sdoBlockUploadAck d) s [.can] fun t => t.can.sdo = .blockUpload i n v rest chk blk true false)
        ∧ (commandByte d = 0xA2 → st = true → en = false → nth d 1 0 ≤ subBlock rest.length blk → 1 ≤ nth d 2 0 → nth d 2 0 ≤ 127 →
            rest.length ≤ 7 * nth d 1 0 → 1 ≤ nth d 1 0 →
          Does (.sdoBlockUploadAck d) s [.can] fun t => t.can.sdo = .blockUpload i n v [] chk (nth d 2 0) true true)
        ∧ (commandByte d = 0xA1 → en = true → st = true → Does (.sdoBlockUploadAck d) s [.can] fun t => t.can.sdo = .idle ∧ t.can.txq = s.can.txq))
    ∧ (∀ i n ok, s.can.sdo = .awaiting i n ok →
        Does (.sdoInitiateDownload d) s [.od, .can] (fun t => CanKept s t ∧ (Canonical s → t.get 0x2025 5 = satNat 32 (s.get 0x2025 5 + 1)))
        ∧ Does (.sdoAbortReceived d) s [] (fun t => t.can.sdo = s.can.sdo) ∧ Does (.sdoTimeout none) s [] (fun t => t.can.sdo = s.can.sdo))
    ∧ (∀ i n size got count tog, s.can.sdo = .download i n size got count tog →
        Does (.sdoTimeout none) s [.can] fun t => t.can.sdo = .idle ∧ t.can.txq = (sdoAbort s i n 0x05040000).can.txq)

/-- R224, R225, R197: USDO sessions open up to four, five connections in all; they serve whole values and segments, refuse, time out and close. -/
def Obligations.UsdoSessions : Prop :=
  ∀ (s : State) (c n : Nat), Canonical s → Calm s → s.canRuns = true → s.nodeId ≠ 0xFF → s.can.nmt = .preOp →
    (s.fdOn = true → s.can.usdo.any (fun y => y.client == c && y.session == n) = false → s.can.usdo.length + b2n (s.can.sdo != .idle) < 5 → s.can.usdo.length < 4 →
      MayRead s .C 0x1000 0 → (∀ y ∈ s.can.usdo, usdoTag y.client y.session ≠ usdoTag c n) →
      Does (.usdoRequest c n (.read 0x1000 0)) s [.od, .can, .replies] fun t =>
        t.can.usdo = s.can.usdo ++ [⟨c, n, .idle⟩] ∧ t.get 0x2025 6 = s.can.usdo.length + 1
          ∧ t.can.txq = (usdoSend s c n 0 (toLE 4 (s.valueAt .C 0x1000 0))).can.txq)
    ∧ (s.fdOn = true → s.can.usdo.any (fun y => y.client == c && y.session == n) = false →
        4 ≤ s.can.usdo.length ∨ 5 ≤ s.can.usdo.length + b2n (s.can.sdo != .idle) →
      ∀ q, Does (.usdoRequest c n q) s [.can] fun t => t.can.usdo = s.can.usdo ∧ t.can.txq = (usdoSend s c n 0x060A0023 []).can.txq)
    ∧ (s.fdOn = true → s.can.usdo.any (fun y => y.client == c && y.session == n) = true →
      (∀ i sub size bulk, definedStatus i sub = .ok →
        Does (.usdoRequest c n (.begin_ i sub size bulk)) s [.can] fun t => t.transfer c n = .download i sub size bulk [] 0 0
          ∧ t.can.usdo.length = s.can.usdo.length ∧ t.can.txq = (usdoSend s c n 0 []).can.txq)
      ∧ (∀ i sub size bulk got count next k d last, s.transfer c n = .download i sub size bulk got count next → k ≠ next →
        Does (.usdoRequest c n (.segment k d last)) s [.can] fun t => t.transfer c n = .idle ∧ t.can.txq = (usdoSend s c n 0x05040003 []).can.txq)
      ∧ (∀ i sub size got count next d, s.transfer c n = .download i sub size false got count next → streams i = false → count + d.length ≤ size →
        Does (.usdoRequest c n (.segment next d false)) s [.can] fun t =>
          t.transfer c n = .download i sub size false (got ++ d) (count + d.length) ((next + 1) % 256) ∧ t.can.txq = (usdoSend s c n 0 []).can.txq)
      ∧ (∀ rest, s.transfer c n = .upload rest →
        Does (.usdoRequest c n .next) s [.can] fun t => t.transfer c n = (if rest.length ≤ 56 then .idle else .upload (rest.drop 56))
          ∧ t.can.txq = (usdoSend s c n 0 (rest.take 56)).can.txq)
      ∧ Does (.usdoRequest c n .abort) s [.od, .can] (fun t => t.can.usdo.any (fun y => y.client == c && y.session == n) = false
          ∧ t.get 0x2025 6 = t.can.usdo.length))
    ∧ (s.fdOn = false → ∀ q, Does (.usdoRequest c n q) s [] fun t => t.can.usdo = s.can.usdo)
    ∧ Does (.sdoTimeout (some (c, n))) s [.od, .can] (fun t => t.can.usdo = s.can.usdo.filter (fun y => !(y.client == c && y.session == n))
        ∧ t.get 0x2025 6 = t.can.usdo.length ∧ t.can.sdo = s.can.sdo
        ∧ t.can.txq = (if s.transferring c n then (usdoSend s c n 0x05040000 []).can.txq else s.can.txq))

/-- R122, R123, R200, R211, R214, R216, R220, R228 to R232: RPDOs, TPDO timers, transmissions and SYNC. Each command completes in every state that meets its clause's
hypotheses, whether operational or not. -/
def Obligations.PdoEvents : Prop :=
  ∀ (s : State), Canonical s →
    (∀ (n : Fin 64) d, s.pdoActive 0x1400 n.val = true → d.length < mapLength (s.mapping (0x1600 + n.val)) →
      Does (.rpdoReceived n d) s [.od, .can, .link] fun t => t.can.rpdos = s.can.rpdos ∧ (s.can.emcyDropped = 0 → t.get 0x1003 1 = 0x8210))
    ∧ (∀ (n : Fin 64) d, s.pdoActive 0x1400 n.val = false → Does (.rpdoReceived n d) s [.can] (CanKept s))
    ∧ (∀ (n : Fin 64) d, s.pdoActive 0x1400 n.val = true → d.length = mapLength (s.mapping (0x1600 + n.val)) → s.get (0x1400 + n.val) 2 ≤ 240 →
        n.val < s.can.rpdos.length →
        (splitMapped (s.mapping (0x1600 + n.val)) d).all (raise (served s (.rpdo n.val)) (320 + n.val)).rpdoValueOk = true →
      Does (.rpdoReceived n d) s [.od, .can, .sched] fun t =>
        t.can.rpdos[n.val]? = some ⟨splitMapped (s.mapping (0x1600 + n.val)) d, false, decide (s.get (0x1400 + n.val) 5 ≠ 0)⟩)
    ∧ (∀ n : Fin 64, s.pdoActive 0x1400 n.val = true → (s.rpdo n.val).timing = true →
      Does (.rpdoEventTimerExpiry n) s [.od, .log, .can, .link, .sched] fun t =>
        t.can.rpdos = s.can.rpdos.set n.val { s.rpdo n.val with timing := false })
    ∧ (∀ n : Fin 64, s.pdoActive 0x1400 n.val = false ∨ (s.rpdo n.val).timing = false →
      Does (.rpdoEventTimerExpiry n) s [] fun t => t.can.rpdos = s.can.rpdos)
    ∧ (∀ n : Fin 64, s.can.nmt ≠ .operational →
      Does (.tpdoEventTimerExpiry n) s [] fun t => t.can.tpdos = s.can.tpdos ∧ t.can.txq = s.can.txq)
    ∧ (∀ n : Fin 64, s.get (0x1800 + n.val) 5 ≠ 0 → s.pdoActive 0x1800 n.val = true → s.tpdoSync n.val = false → s.tpdoImmediate n.val = false →
      ∃ t, exec (.tpdoEventTimerExpiry n) s = .next (immediates t) ∧ t = s.setTpdo n.val { s.tpdo n.val with timed := true })
    ∧ (∀ n : Fin 64, Does (.tpdoEventTimerExpiry n) s [] fun t => t.can.rpdos = s.can.rpdos)
    ∧ (∀ n : Fin 64, s.can.nmt ≠ .operational →
      Does (.tpdoInhibitExpiry n) s [] (fun t => t.can.tpdos = s.can.tpdos.set n.val { s.tpdo n.val with inhibit := false } ∧ t.can.txq = s.can.txq))
    ∧ (∀ n : Fin 64, Does (.tpdoInhibitExpiry n) s [.od] (fun t => OnlyValues [(0x2102, 5)] s t))
    ∧ (∀ n : Fin 64, ∃ t, exec (.tpdoLatestStart n) s = .next (immediates t) ∧ Only [.od, .pdo] s t ∧ OnlyValues [(0x2102, 5)] s t
        ∧ t.can.txq = s.can.txq.filter (fun f => decide (f.kind ≠ .tpdo n.val true))
        ∧ t.get 0x2102 5 = satNat (8 * sizeOf 0x2102 5)
            (s.get 0x2102 5 + (s.can.txq.filter (fun f => decide (f.kind = .tpdo n.val true) && !f.sent)).length))
    ∧ (∀ (l : Line) k f, s.lineRuns l = true → s.can.txq[k]? = some f → s.mayNotSend f = false → (match l with | .A => f.lineA | .B => f.lineB) = true →
        (match l with | .A => f.lineB | .B => f.lineA) = false → f.kind ≠ .bootUp →
      Does (.canTransmitComplete l k) s [.od, .log, .can, .link, .sched, .test] fun t =>
        t.get l.index 6 = satNat 32 (s.get l.index 6 + 1) ∧ t.get l.index 2 = s.get l.index 2 - 1 ∧ t.can.nmt = s.can.nmt
        ∧ (s.can.nmt ≠ .operational → t.can.txq = s.can.txq.eraseIdx k))
    ∧ (∀ (l : Line) k f, s.lineRuns l = true → s.can.txq[k]? = some f → f.kind = .bootUp → (match l with | .A => f.lineA | .B => f.lineB) = true →
        f.sent = false → f.held = false → s.can.nmt = .init →
      Does (.canTransmitComplete l k) s [.od, .log, .can, .link, .sched, .update, .test] fun t => t.can.nmt = .preOp)
    ∧ (∀ (l : Line) k, s.lineRuns l = false ∨ s.can.txq.length ≤ k ∨ (∃ f, s.can.txq[k]? = some f ∧ s.mayNotSend f = true) →
      Does (.canTransmitComplete l k) s [] fun t => t.can.nmt = s.can.nmt)
    ∧ (∀ a b, s.canRuns = true → s.lock = 1 ∨ s.lock = 2 →
      Does (.syncGuardBegin a b) s [.od, .can] fun t => t.can.guard = true ∧ t.can.window = false ∧ OnlyValues [(0x2102, 5)] s t
        ∧ (s.can.nmt ≠ .operational → s.can.window = false → ∀ k f, s.can.txq[k]? = some f → a ≠ some k → b ≠ some k →
            t.can.txq[k]? = some { f with held := true }))
    ∧ (∀ a b, s.canRuns = false ∨ s.lock = 0 ∨ s.lock = 3 → Does (.syncGuardBegin a b) s [] fun t => t.can.guard = s.can.guard)
    ∧ (∀ l c at_, s.lineRuns l = true → l = s.syncSource → s.can.otherSync = none → s.can.nmt ≠ .operational → s.beat.running = false →
      Does (.syncReception l c at_) s [.od, .can, .sched] fun t =>
        t.get 0x2025 2 = l.code ∧ t.can.guard = false ∧ t.can.otherSync = none ∧ t.can.syncCount = c.getD s.can.syncCount ∧ t.can.lastSync = some at_
        ∧ ∀ f ∈ t.can.txq, f.held = false)
    ∧ (∀ l c at_, s.lineRuns l = true → l = s.syncSource → s.can.nmt ≠ .operational ∨ (∀ k, k < 64 → (s.rpdo k).held = []) →
      Does (.syncReception l c at_) s [.od, .beat, .log, .can, .link, .sched] fun t =>
        t.can.guard = false ∧ t.can.otherSync = none ∧ t.can.lastSync = some at_ ∧ t.can.nmt = s.can.nmt)
    ∧ (∀ l c at_, s.lineRuns l = true → l = s.syncSource →
      Does (.syncReception l c at_) s [.od, .live, .draws, .replies, .aocb, .beat, .store, .log, .can, .link, .mem, .sched, .tabor, .sense, .touch, .reg, .seq, .pack,
        .thermal, .update, .test] fun t => t.power = s.power ∧ t.clocks = s.clocks)
    ∧ (∀ l c at_, s.lineRuns l = true → l ≠ s.syncSource → s.syncOfPeriod at_ = false →
      Does (.syncReception l c at_) s [.can] fun t => t.can.otherSync = some (l, c, at_) ∧ t.can.guard = s.can.guard)
    ∧ (∀ l c at_, s.lineRuns l = true → l ≠ s.syncSource → s.syncOfPeriod at_ = true →
      Does (.syncReception l c at_) s [.od, .can] fun t => CanKept s t ∧ OnlyValues [(l.index, 8)] s t)
    ∧ (∀ l c at_, s.lineRuns l = false → Does (.syncReception l c at_) s [.can] (CanKept s))
    ∧ (s.can.otherSync = none → s.lock = 0 → Does .syncMissing s [.can] fun t => t.can.guard = false)
    ∧ (s.can.otherSync = none → s.lock ≠ 0 → s.beat.missRun < 2 →
      Does .syncMissing s [.od, .beat, .can] fun t => t.can.guard = false ∧ t.beat = { s.beat with missRun := s.beat.missRun + 1 }
        ∧ t.get 0x2101 7 = satNat 32 (s.get 0x2101 7 + 1) ∧ OnlyValues [(0x2101, 7)] s t)
    ∧ (s.can.otherSync = none → s.lock ≠ 0 → 2 ≤ s.beat.missRun →
      Does .syncMissing s [.od, .beat, .log, .can, .link, .sched] fun t => t.get 0x2101 3 = 0 ∧ t.beat.drift = 0 ∧ t.beat.missRun = 0)
    ∧ (∀ l c at_, s.can.otherSync = some (l, c, at_) → s.can.nmt ≠ .operational →
      Does .syncMissing s [.od, .beat, .log, .can, .link, .sched] fun t => t.can.guard = false ∧ t.can.otherSync = none ∧ t.can.lastSync = some at_)

/-- Table 7.2, R245 to R247, R253, R284: the link's training, its retrains and the reference clock. -/
def Obligations.LinkTraining : Prop :=
  ∀ s : State, Canonical s →
    (∀ g w, s.linkState = 2 → s.widthFound (g % 16) = some w →
      Brings (.detectComplete g) s [.od, .log, .link, .sched] fun u => u.get 0x2031 1 = 3 ∧ u.get 0x2031 2 = w ∧ u.get 0x2031 3 = g % 16)
    ∧ (∀ g, s.linkState = 2 → s.widthFound (g % 16) = none → s.link.failedRun < 2 →
      Brings (.detectComplete g) s [.od, .log, .link, .sched] fun u => u.get 0x2031 1 = 8 ∧ u.get 0x2031 2 = 0 ∧ u.flag 0x2031 13 3 = true)
    ∧ (∀ g w, s.widthFound g = some w → widthSignal g w = true ∧ (w = s.link.trainWidth ∨ (s.get 0x2030 2 = 1 ∧ w < s.link.trainWidth ∧ (w = 1 ∨ w = 2))))
    ∧ (s.linkState = 3 → Brings .equaliseComplete s [.od, .log, .link, .sched] fun u => u.get 0x2031 1 = 4)
    ∧ (s.linkState = 4 → Brings .alignComplete s [.od, .log, .link, .sched] fun u => u.get 0x2031 1 = 5 ∧ u.link.sent.map (·.ftype) = [.link])
    ∧ (s.linkState = 5 → Brings .configComplete s [.od, .log, .link, .mem, .sched, .update] fun u =>
        u.get 0x2031 1 = 6 ∧ u.flag 0x2031 13 3 = false ∧ u.link.nextSeq = 0 ∧ u.link.expected = 0 ∧ u.link.replay = [] ∧ u.link.credits = 512 ∧ u.link.rxPart = []
          ∧ u.link.failedRun = 0 ∧ u.link.due257 = false ∧ u.link.tags = s.link.tags)
    ∧ (s.linkState ≠ 3 → Brings .equaliseComplete s [] fun u => u.link = s.link) ∧ (s.linkState ≠ 4 → Brings .alignComplete s [] fun u => u.link = s.link)
    ∧ (s.linkState ≠ 5 → Brings .configComplete s [] fun u => u.link = s.link)
    ∧ (2 ≤ s.linkState → s.linkState ≤ 5 → s.link.failedRun < 2 →
      Brings .trainingPhaseTimeout s [.od, .log, .link, .sched] fun u => u.get 0x2031 1 = 8 ∧ u.flag 0x2031 13 3 = true
        ∧ u.link.failedRun = s.link.failedRun + 1)
    ∧ (s.linkState = 8 → s.trainCondition = true →
      Brings .failedTimeout s [.od, .log, .link, .sched] fun u => u.get 0x2031 1 = 2 ∧ u.link.trainWidth = s.get 0x2030 1)
    ∧ (∀ w, s.linkState = 7 → s.retrainWidthOk w = true → s.get 0x2032 1 = 0 →
      Brings (.retrainComplete w) s [.od, .log, .link, .mem, .sched, .update] fun u => u.get 0x2031 1 = 6 ∧ u.get 0x2031 2 = w
        ∧ u.link.nextSeq = s.link.nextSeq ∧ u.link.expected = s.link.expected ∧ u.link.replay = s.link.replay ∧ u.link.credits = s.link.credits
        ∧ u.link.tags = s.link.tags)
    ∧ (∀ w, s.linkState ≠ 7 → Brings (.retrainComplete w) s [] fun u => u.link = s.link)
    ∧ (s.linkState = 7 → s.trainCondition = true →
      Brings .retrainTimeout s [.od, .draws, .replies, .store, .log, .can, .link, .mem, .sched, .tabor, .sense, .update, .test] fun u =>
        u.get 0x2031 1 = 2 ∧ u.get 0x2031 2 = 0 ∧ u.link.trainWidth = u.get 0x2030 1)
    ∧ (∀ p, MayWrite s p 0x2030 3 → s.linkState ≠ 6 → Calm s →
      Does (.retrainRequest p) s [.replies] (fun t => t.replies = s.replies.set p.code ⟨Status.incompatible.code, []⟩)
      ∧ Does (.fullTrainingRequest p) s [.replies] (fun t => t.replies = s.replies.set p.code ⟨Status.incompatible.code, []⟩))
    ∧ (∀ p, MayWrite s p 0x2030 3 → s.linkState = 6 → (s.link.retrains.filter (fun t => decide (s.now - t < 1000000000))).length < 2 →
      Brings (.retrainRequest p) s [.od, .log, .link, .sched, .replies] fun u => u.get 0x2031 1 = 7 ∧ u.get 0x2031 6 = satNat 32 (s.get 0x2031 6 + 1)
        ∧ u.link.replay = s.link.replay ∧ u.link.tags = s.link.tags ∧ u.replies = s.replies.set p.code ⟨0, []⟩)
    ∧ (∀ p, MayWrite s p 0x2030 3 → s.linkState = 6 → s.trainCondition = true →
      Brings (.fullTrainingRequest p) s [.od, .draws, .replies, .store, .log, .can, .link, .mem, .sched, .tabor, .sense, .update, .test] fun u =>
        u.get 0x2031 2 = 0 ∧ u.get 0x2031 1 = 2 ∧ ∃ r : List Reply, u.replies = r.set p.code ⟨0, []⟩)
    ∧ (s.linkUp = false → Brings .krefLoss s [.od, .clocks, .log, .link, .sched] fun u => u.clocks = { s.clocks with kref := false }
        ∧ u.get 0x2031 1 = (if s.linkState = 0 then 0 else 1) ∧ u.get 0x2031 2 = 0 ∧ u.flag 0x2031 13 0 = true)
    ∧ (s.linkState ≤ 1 → s.get 0x2030 1 ≠ 0 → s.link.hostUp = true → bit s.test.degraded 16 = false → bit s.test.degraded 17 = false →
      Brings .krefReturn s [.od, .clocks, .log, .link, .sched] fun u => u.clocks = { s.clocks with kref := true }
        ∧ u.get 0x2031 1 = 2 ∧ u.flag 0x2031 13 0 = false ∧ u.link.trainWidth = s.get 0x2030 1)

/-- R249 to R252, R254, R258, R269 to R271: a flit's 256 bytes with its CRC-32, flits received, the replay, and the raw stream. In LINK_UP every flit received is
followed by at least one sent. -/
def Obligations.LinkFlitsAndStream : Prop :=
  (∀ f : Flit, f.good = true → f.seq < 4096 → f.ackSeq < 4096 → f.pcred < 1024 → f.first < 256 → f.payload.length = 244 → (∀ b ∈ f.payload, b < 256) →
    f.bytes.length = 256 ∧ Flit.of f.bytes = f)
  ∧ ∀ s : State, Canonical s →
    (∀ b c n, 5 ≤ s.linkState → s.linkState ≤ 7 → (Flit.of b).good = false ∨ n ≠ 0 →
      Brings (.flitReceived b c n) s [.od, .link] fun u => u.link.expected = s.link.expected ∧ u.link.nakSent = true ∧ u.link.returned = s.link.returned
        ∧ u.link.parsed = s.link.parsed
        ∧ (s.link.nakSent = false → u.link.ackSeq = (s.link.expected + 4095) % 4096
            ∧ (s.linkState ≠ 6 → u.link.ackType = .nak) ∧ (s.linkState = 6 → ∃ f, u.link.sent.head? = some f ∧ f.ack = .nak ∧ f.ackSeq = u.link.ackSeq))
        ∧ (s.link.nakSent = true → u.link.ackSeq = s.link.ackSeq)
        ∧ (s.linkState = 6 ↔ u.link.sent ≠ [])
        ∧ u.get 0x2031 8 = satNat 32 (s.get 0x2031 8 + 1) ∧ u.get 0x2031 10 = satNat 32 (s.get 0x2031 10 + n))
    ∧ (∀ b c, 5 ≤ s.linkState → s.linkState ≤ 7 → (Flit.of b).good = true → (Flit.of b).ftype = .data → (Flit.of b).ack ≠ .nak →
      (((Flit.of b).seq + 4096 - s.link.expected) % 4096 = 0 →
        Brings (.flitReceived b c 0) s [.od, .link] fun u => u.link.expected = (s.link.expected + 1) % 4096 ∧ u.link.nakSent = false
          ∧ u.link.ackType = .ack ∧ u.link.ackSeq = (Flit.of b).seq % 4096
          ∧ u.link.parsed = ((Flit.of b).parse s.link.rxPart s.link.rxLost).packets ∧ u.link.rxPart = ((Flit.of b).parse s.link.rxPart s.link.rxLost).rest
          ∧ u.link.returned = (if ((Flit.of b).parse s.link.rxPart s.link.rxLost).posted then s.link.returned + 1 else s.link.returned))
      ∧ (((Flit.of b).seq + 4096 - s.link.expected) % 4096 ≥ 3968 →
        Brings (.flitReceived b c 0) s [.od, .link] fun u => u.link.expected = s.link.expected ∧ u.link.nakSent = s.link.nakSent
          ∧ u.link.parsed = s.link.parsed ∧ u.link.ackSeq = s.link.ackSeq)
      ∧ (0 < ((Flit.of b).seq + 4096 - s.link.expected) % 4096 → ((Flit.of b).seq + 4096 - s.link.expected) % 4096 < 3968 →
        Brings (.flitReceived b c 0) s [.od, .link] fun u => u.link.expected = s.link.expected ∧ u.link.nakSent = true ∧ u.link.parsed = s.link.parsed))
    ∧ (∀ b c, s.linkState = 5 → (Flit.of b).good = true → (Flit.of b).ftype ≠ .data → (Flit.of b).ack = .none →
      Brings (.flitReceived b c 0) s [.od, .link] fun u => u.link = { s.link with credits := s.link.credits + (Flit.of b).pcred, sent := [] })
    ∧ (∀ b c n, s.linkState < 5 ∨ 7 < s.linkState → Brings (.flitReceived b c n) s [] fun u => u.link = s.link)
    ∧ (s.linkState = 6 → s.link.replay ≠ [] → s.link.replayRun < 3 →
      Brings .ackTimeout s [.od, .link] fun u => u.link.replayRun = s.link.replayRun + 1 ∧ u.link.replay = s.link.replay ∧ u.link.nextSeq = s.link.nextSeq
        ∧ u.link.sent.map (fun f => (f.ftype, f.seq, f.payload)) = s.link.replay.map (fun f => (.data, f.seq, f.payload))
        ∧ u.get 0x2031 7 = satNat 32 (s.get 0x2031 7 + 1) ∧ OnlyValues [(0x2031, 7)] s u)
    ∧ (s.linkState = 6 → s.link.replay = [] → Brings .ackTimeout s [.link] fun u => u.link = { s.link with sent := [] })
    ∧ (s.linkState ≠ 6 → Brings .ackTimeout s [] fun u => u.link = s.link)
    ∧ (∀ p v, MayWrite s p 0x2032 1 → v < 2 ^ 17 →
      ((s.linkUp = true ∨ v = 0) ∧ streamFits v (s.get 0x2031 2) = true →
        Brings (.streamSourcesWrite p v) s [.od, .replies] fun u => u.get 0x2032 1 = v ∧ u.flag 0x2031 13 2 = false
          ∧ OnlyValues [(0x2032, 1), (0x2031, 13)] s u ∧ u.replies = s.replies.set p.code ⟨0, []⟩)
      ∧ (¬((s.linkUp = true ∨ v = 0) ∧ streamFits v (s.get 0x2031 2) = true) →
        Brings (.streamSourcesWrite p v) s [.replies] fun u => u.replies = s.replies.set p.code ⟨Status.incompatible.code, []⟩))
    ∧ (∀ (k : Fin 17) tm db smp x, s.up = true → smp.length = 1024 → s.linkUp = false → s.link.streams[k.val]? = some x → x.active = true → x.buffer.length < 8 →
      Brings (.streamPacketFormed k tm db smp) s [.od, .link] fun u =>
        u.get 0x2032 2 = (s.get 0x2032 2 + 1) % 2 ^ 32 ∧ OnlyValues [(0x2032, 2)] s u
        ∧ u.link.streams[k.val]? = some ⟨bit (s.get 0x2032 1) k.val, x.buffer ++
            [.stream k.val (match db with | some j => 2 ^ 14 + j % 1024 | none => 0) (s.get 0x2032 2) tm (smp.map (Sample.container k.val))], x.discont⟩)
    ∧ (∀ (k : Fin 17) tm db smp x, s.up = true → smp.length = 1024 → s.linkUp = false → s.link.streams[k.val]? = some x → x.active = false →
      Brings (.streamPacketFormed k tm db smp) s [.link] fun u => u.link.streams[k.val]? = some { x with active := bit (s.get 0x2032 1) k.val })
    ∧ (∀ (k : Fin 17) tm db smp, s.up = false ∨ smp.length ≠ 1024 → Brings (.streamPacketFormed k tm db smp) s [] fun u => u.link = s.link)

/-- R256, R257, R260 to R265, R267, R268: the host's packets and the completions of the device's reads. -/
def Obligations.LinkPackets : Prop :=
  ∀ s : State, Canonical s →
    (s.linkUp = true →
      (∀ tag len a, s.inboundStatus a len false ≠ 0 →
        Brings (.mrd tag len a) s [.link] fun u => u.link = { s.link with out := s.link.out ++ [.cpl tag (s.inboundStatus a len false) []] })
      ∧ (∀ tag len a t l, s.link.inq = [] → s.inboundStatus a len false = 0 → inRead s a len = (t, .bytes l) →
        ∃ u, exec (.mrd tag len a) s = .next (immediates (settleAll u)) ∧ u = t.sendPacket (.cpl tag 0 l))
      ∧ (∀ a d, s.inboundStatus a d.length true ≠ 0 →
        Brings (.mwr a d) s [.od, .link] fun u => u.get 0x2031 11 = satNat 32 (s.get 0x2031 11 + 1) ∧ u.mem = s.mem)
      ∧ (∀ a d t l, s.link.inq = [] → s.inboundStatus a d.length true = 0 → inWrite s a d = (t, .bytes l) →
        ∃ u, exec (.mwr a d) s = .next (immediates (settleAll u)) ∧ u = t)
      ∧ (∀ tag st d, s.link.inq = [] → s.link.tags.find? (fun x => x.tag == tag) = none →
        Brings (.cpl tag st d) s [.od, .link] fun u => u.get 0x2031 11 = satNat 32 (s.get 0x2031 11 + 1) ∧ u.link.tags = s.link.tags)
      ∧ (∀ tag d w, s.link.inq = [] → s.link.tags.find? (fun x => x.tag == tag) = some ⟨tag, .stale, w⟩ → s.mem.fills = [] → s.link.pops = [] →
        Brings (.cpl tag 0 d) s [.link] fun u => u.link = { s.link with tags := s.link.tags.filter (fun x => x.tag != tag) })
      ∧ (∀ tag orw d, s.link.inq = [] → bit orw 63 = true → bits orw 60 3 < 5 → bits orw 0 32 = 0 →
        Brings (.orq tag orw d) s [.link, .replies] fun u => u.link = { s.link with out := s.link.out ++ [.ocpl tag Status.noAccess.code []] }
          ∧ u.replies = s.replies.set 1 ⟨Status.noAccess.code, []⟩)
      ∧ (∀ tag orw d, s.link.inq = [] → 5 ≤ bits orw 60 3 →
        Brings (.orq tag orw d) s [.link, .replies] fun u => u.link = { s.link with out := s.link.out ++ [.ocpl tag Status.badRequest.code []] })
      ∧ (∀ tag orw d t st l, s.link.inq = [] → orwRequest s .K tag orw d = (t, some (st, l)) →
        ∃ u, exec (.orq tag orw d) s = .next (immediates (settleAll u))
              ∧ u.link = { t.link with out := t.link.out ++ [.ocpl tag st.code (if st = .ok then l else [])] })
      ∧ (∀ n v, s.link.inq = [] → n < 256 → (s.sched.ring n).isOpen = false ∨ (s.sched.ring n).closing = true →
        Brings (.dbell n v) s [.od, .link] fun u => u.get 0x2031 11 = satNat 32 (s.get 0x2031 11 + 1) ∧ u.get 0x2300 6 = satNat 32 (s.get 0x2300 6 + 1))
      ∧ (∀ n v, s.link.inq = [] → 256 ≤ n → n < 320 →
        Brings (.dbell n v) s [.od, .sched] fun u => u = raiseWith s n (v % 65536))
      ∧ (∀ tag off, s.link.inq = [] → 5 ≤ s.linkState → s.linkState ≤ 7 →
        Brings (.cfgrd tag off) s [.link] fun u => u.link = { s.link with out := s.link.out ++
          [match s.configWord off with | some w => .cpl tag 0 (toLE 4 w) | none => .cpl tag 0x11 []] }))
    ∧ (∀ off, (s.configWord off).isSome = true ↔ off % 4 = 0 ∧ off < 0x140)
    ∧ (s.linkUp = false → (∀ tag len a, Brings (.mrd tag len a) s [] fun u => u.link = s.link) ∧ (∀ a d, Brings (.mwr a d) s [] fun u => u.link = s.link)
        ∧ (∀ tag st d, Brings (.cpl tag st d) s [] fun u => u.link = s.link) ∧ (∀ tag o d, Brings (.orq tag o d) s [] fun u => u.link = s.link)
        ∧ (∀ n v, Brings (.dbell n v) s [] fun u => u.link = s.link))
    ∧ (∀ tag, s.link.tags.find? (fun x => x.tag == tag) = none → Brings (.mrdCompletionTimeout tag) s [] fun u => u.link = s.link)
    ∧ (∀ tag w, s.link.tags.find? (fun x => x.tag == tag) = some ⟨tag, .stale, w⟩ → s.mem.fills = [] → s.link.pops = [] →
      Brings (.mrdCompletionTimeout tag) s [.od, .link] fun u => u.link = { s.link with tags := s.link.tags.filter (fun x => x.tag != tag) }
        ∧ u.get 0x2031 12 = satNat 32 (s.get 0x2031 12 + 1) ∧ OnlyValues [(0x2031, 12)] s u)
    ∧ (∀ w : Fin 16, s.link.tags.any (fun x => x.window == w.val) = true → Brings (.hostWindowCloseComplete w) s [] fun u => u.link = s.link)
    ∧ (∀ w : Fin 16, s.link.tags.any (fun x => x.window == w.val) = false → (∀ e ∈ s.link.closing, e.1 = w.val → e.2 = .none) →
      Brings (.hostWindowCloseComplete w) s [.link] fun u => u.link = { s.link with closing := s.link.closing.filter (fun e => e.1 != w.val) })
    ∧ (∀ w : Fin 16, ∀ p i n, s.link.tags.any (fun x => x.window == w.val) = false → s.link.closing = [(w.val, .port 3 i n p)] →
      Brings (.hostWindowCloseComplete w) s [.link, .replies, .test] fun u => u.link = { s.link with closing := [] } ∧ u.replies = s.replies.set 3 ⟨0, []⟩)

/-- R272, R274: the moderation of interrupt vectors. -/
def Obligations.VectorModeration : Prop :=
  ∀ s : State, Canonical s →
    (∀ v : Fin 320, (s.link.vec v.val).holdoff = false → Brings (.holdoffExpiry v) s [] fun u => u.link = s.link)
    ∧ (∀ v : Fin 320, (s.link.vec v.val).holdoff = true → s.masked v.val = true ∨ (s.link.vec v.val).count = 0 ∨ s.linkUp = false →
      Brings (.holdoffExpiry v) s [.link] fun u => u.link = s.link.setVec v.val { s.link.vec v.val with holdoff := false })
    ∧ (∀ v : Fin 320, (s.link.vec v.val).holdoff = true → s.masked v.val = false → (s.link.vec v.val).count ≠ 0 → s.linkUp = true → bit (s.routing v.val) 30 = true →
      Brings (.holdoffExpiry v) s [.link] fun u => u.link.out = s.link.out ++ [.intmsg (s.link.vec v.val).count v.val (s.frame % 2 ^ 32) s.now])
    ∧ (∀ v, MayWrite s .T 0x2623 1 → 288 ≤ v → v ≤ 319 →
      (bit (s.routing v) 31 = false → Brings (.raiseUserVector v) s [.replies] fun u => u.replies = s.replies.set 2 ⟨0, []⟩)
      ∧ (bit (s.routing v) 31 = true → bit (s.routing v) 29 = false → s.masked v = true →
        Brings (.raiseUserVector v) s [.replies, .link] fun u => u.replies = s.replies.set 2 ⟨0, []⟩
          ∧ u.link = s.link.setVec v { s.link.vec v with count := min ((s.link.vec v).count + 1) 255 })
      ∧ (bit (s.routing v) 31 = true → bit (s.routing v) 29 = true → s.masked v = true →
        Brings (.raiseUserVector v) s [.replies, .link, .od] fun u => u.flag 0x2621 (v / 32 + 1) (v % 32) = true))
    ∧ (∀ v, MayWrite s .T 0x2623 1 → v < 288 ∨ 319 < v → v < 65536 →
      Brings (.raiseUserVector v) s [.replies] fun u => u.replies = s.replies.set 2 ⟨Status.range.code, []⟩)

/-- R286, R287, R293: the SRAM reads back what was last written to each byte, and a word wholly written becomes good. -/
def Obligations.SramReadsWhatWasWritten : Prop :=
  ∀ (m : Mem) (a : Nat) (bs : List Nat), Memory.wf m.sram = true →
    Memory.wf (m.store a bs).sram = true
    ∧ (∀ k, (m.store a bs).readByte k = if a ≤ k ∧ k < a + bs.length then BitVec.ofNat 8 (nth bs (k - a) 0) else m.readByte k)
    ∧ (∀ e, e ∈ (m.store a bs).ecc ↔ e ∈ m.ecc ∧ ¬(a ≤ 8 * e.1 ∧ 8 * e.1 + 8 ≤ a + bs.length))

/-- R287, R288, R301, R303 to R309, R372: the scrubber, fills, write-backs and the prefetcher. A bank that a LOCK sequence holds keeps them waiting. -/
def Obligations.PagingEvents : Prop :=
  ∀ s : State, Canonical s → s.link.inq = [] →
    (s.up = true → s.bankHeld (8 * s.mem.scrub) = false → (∀ e ∈ s.mem.ecc, e.1 ≠ s.mem.scrub) →
      Brings (.scrubWord none) s [.mem] fun u => u.mem = { s.mem with scrub := (s.mem.scrub + 1) % 524288 })
    ∧ (s.up = true → s.bankHeld (8 * s.mem.scrub) = false → (s.mem.scrub, EccErr.double) ∉ s.mem.ecc →
      Brings (.scrubWord (some .single)) s [.od, .mem] fun u =>
        u.mem = { s.mem with scrub := (s.mem.scrub + 1) % 524288, ecc := s.mem.ecc.filter (fun x => x.1 != s.mem.scrub) }
        ∧ u.get 0x2200 5 = satNat 32 (s.get 0x2200 5 + 1) ∧ OnlyValues [(0x2200, 5)] s u)
    ∧ (s.up = true → s.bankHeld (8 * s.mem.scrub) = false →
      Brings (.scrubWord (some .double)) s [.od, .log, .can, .link, .mem, .sched] fun u =>
        u.get 0x2200 6 = satNat 32 (s.get 0x2200 6 + 1) ∧ u.get 0x2200 7 = 8 * s.mem.scrub ∧ u.flag 0x2200 9 0 = true)
    ∧ (s.up = false ∨ s.bankHeld (8 * s.mem.scrub) = true → ∀ f, Brings (.scrubWord f) s [] fun u => u.mem = s.mem)
    ∧ (∀ fl f data, s.mem.fills = [fl] → fl.frame = some f → fl.prefetch = false → s.fillRead fl = true → s.fillHeld fl.page f = true →
      Brings (.pageFillComplete fl.page data) s [.mem] fun u => u.mem = { s.mem with fills := [{ fl with arrived := some data }] })
    ∧ (∀ fl f data, s.mem.fills = [fl] → fl.frame = some f → fl.prefetch = false → fl.waiters = [] → s.fillRead fl = true → s.mem.inPool f = true →
        s.fillHeld fl.page f = false →
      Brings (.pageFillComplete fl.page data) s [.od, .mem] fun u => u.mem.fills = []
        ∧ u.mem.use f = some (.page fl.page (((s.pte fl.page).map pteBack).getD 0))
        ∧ u.get 0x2201 3 = satNat 32 (s.get 0x2201 3 + 1) ∧ OnlyValues [(0x2201, 3)] s u
        ∧ ∀ k < 4096, u.mem.readByte (4096 * f + k) = BitVec.ofNat 8 (nth data k 0))
    ∧ (∀ v data, s.mem.fills.find? (fun x => x.page == v) = none → Brings (.pageFillComplete v data) s [] (fun u => u.mem = s.mem)
        ∧ Brings (.pageFillFailed v) s [] (fun u => u.mem = s.mem))
    ∧ (∀ fl f, s.mem.fills = [fl] → fl.frame = some f → fl.prefetch = false → fl.waiters = [] →
      Brings (.pageFillFailed fl.page) s [.od, .draws, .log, .link, .mem, .sched] fun u => u.mem.fills = [] ∧ u.mem.use f = none
        ∧ u.get 0x2201 4 = satNat 32 (s.get 0x2201 4 + 1) ∧ u.flag 0x2200 9 1 = true)
    ∧ (∀ f v host cmd, s.mem.use f = some (.writeBack v host cmd) → s.writesIn host 4096 = false → s.mem.fills = [] →
      Brings (.writeBackComplete f) s [.od, .mem] fun u => u.mem.use f = none
        ∧ (s.mem.retiring.contains f = false → u.get 0x2210 2 = if cmd then satNat 32 (s.get 0x2210 2 + 1) else s.get 0x2210 2))
    ∧ (∀ f v host cmd, s.mem.use f = some (.writeBack v host cmd) → s.writesIn host 4096 = true → Brings (.writeBackComplete f) s [] fun u => u.mem = s.mem)
    ∧ (∀ e : Fin 12, s.get 0x2220 1 ≠ 1 ∨ s.wanting e.val = [] → Brings (.prefetchIssue e) s [] fun u => u.mem = s.mem)
    ∧ (∀ (e : Fin 12) x v rest, s.get 0x2220 1 = 1 → s.wanting e.val = (x, v) :: rest →
      (s.prefetchHeld = true → Brings (.prefetchIssue e) s [.od] fun u => u.get 0x2220 6 = satNat 32 (s.get 0x2220 6 + 1) ∧ OnlyValues [(0x2220, 6)] s u)
      ∧ (s.prefetchHeld = false → s.ofFlash v = true → s.store.flashAbsent = true → Brings (.prefetchIssue e) s [.od] fun u =>
          u.get 0x2220 3 = satNat 32 (s.get 0x2220 3 + 1) ∧ u.get 0x2220 5 = satNat 32 (s.get 0x2220 5 + 1) ∧ OnlyValues [(0x2220, 3), (0x2220, 5)] s u)
      ∧ (s.prefetchHeld = false → (s.ofFlash v && s.store.flashAbsent) = false → Brings (.prefetchIssue e) s [.od, .draws, .link, .mem] fun u =>
          u.get 0x2220 3 = satNat 32 (s.get 0x2220 3 + 1) ∧ OnlyValues [(0x2220, 3)] s u ∧ u.mem.sram = s.mem.sram
            ∧ (∃ f ∈ s.mem.freeFrames, u.mem.use f = some (.filling v)) ∧ ∃ y ∈ u.mem.streams, y = { x with pages := x.pages ++ [v] }))
    ∧ (∀ fl f data, s.mem.fills = [fl] → fl.frame = some f → fl.prefetch = true → s.fillRead fl = true → s.fillHeld fl.page f = false →
      Brings (.prefetchComplete fl.page data) s [.mem] fun u => u.mem.fills = [] ∧ u.mem.use f = some (.prefetched fl.page)
        ∧ ∀ a, a / 4096 ≠ f → u.mem.readByte a = s.mem.readByte a)
    ∧ (∀ v data, s.mem.fills.find? (fun x => x.page == v && x.prefetch) = none → Brings (.prefetchComplete v data) s [] fun u => u.mem = s.mem)
    ∧ (∀ (e : Fin 12) x, s.mem.streams.find? (fun x => x.engine == e.val) = some x →
      Brings (.prefetchStreamDeath e) s [.od, .link, .mem] fun u =>
        u.mem.streams.map (fun y => (y.engine, y.last)) = (s.mem.streams.filter (· != x)).map (fun y => (y.engine, y.last))
        ∧ (∀ y ∈ u.mem.streams, ∀ v ∈ x.pages, v ∉ y.pages) ∧ u.mem.sram = s.mem.sram)
    ∧ (∀ e : Fin 12, s.mem.streams.find? (fun x => x.engine == e.val) = none → Brings (.prefetchStreamDeath e) s [] fun u => u.mem = s.mem)

/-- R290, R296, R297: the TLB commands and the page-table base. -/
def Obligations.TlbCommands : Prop :=
  ∀ (s : State) (p : Port), Canonical s →
    (MayWrite s p 0x2210 1 →
      Brings (.tlbInvalidateAll p) s [.od, .mem, .replies] (fun u => u.mem.main = [] ∧ (∀ l ∈ u.mem.micro, l = []) ∧ (∀ x ∈ u.mem.fills, x.install = false)
        ∧ u.mem.sram = s.mem.sram ∧ u.get 0x2210 2 = satNat 32 (s.get 0x2210 2 + 1) ∧ OnlyValues [(0x2210, 2)] s u
        ∧ u.replies = s.replies.set p.code ⟨0, []⟩)
      ∧ (∀ v, v < 65536 →
        Brings (.tlbInvalidatePage p v) s [.od, .link, .mem, .replies] (fun u => (∀ e ∈ u.mem.main, e.page ≠ v)
          ∧ (∀ l ∈ u.mem.micro, ∀ e ∈ l, e.page ≠ v) ∧ (∀ e ∈ u.mem.main, e ∈ s.mem.main) ∧ u.mem.sram = s.mem.sram
          ∧ u.replies = s.replies.set p.code ⟨0, []⟩)
        ∧ Brings (.tlbEvictPage p v) s [.od, .draws, .log, .link, .mem, .sched, .replies] (fun u => (∀ e ∈ u.mem.main, e.page ≠ v)
          ∧ (∀ l ∈ u.mem.micro, ∀ e ∈ l, e.page ≠ v) ∧ u.replies = s.replies.set p.code ⟨0, []⟩)))
    ∧ (∀ v, MayWrite s p 0x2200 1 → v < 2 ^ 32 →
      (s.mem.pinned (bits (v &&& 0x803FFC00) 12 10) = true →
        Brings (.pageTableBaseWrite p v) s [.od, .mem, .replies] fun u => u.get 0x2200 1 = v &&& 0x803FFC00 ∧ u.mem.sram = s.mem.sram
          ∧ (bits (v &&& 0x803FFC00) 10 12 ≠ bits (s.get 0x2200 1) 10 12 → u.mem.main = [] ∧ ∀ l ∈ u.mem.micro, l = [])
          ∧ (bits (v &&& 0x803FFC00) 10 12 = bits (s.get 0x2200 1) 10 12 → u.mem = s.mem) ∧ u.replies = s.replies.set p.code ⟨0, []⟩)
      ∧ (s.mem.pinned (bits (v &&& 0x803FFC00) 12 10) = false →
        Brings (.pageTableBaseWrite p v) s [.replies] fun u => u.replies = s.replies.set p.code ⟨Status.range.code, []⟩))

/-- R310, R311, R313 to R319: the rings' commands. -/
def Obligations.RingCommands : Prop :=
  ∀ (s : State) (p : Port) (n : Fin 256), Canonical s →
    let d := s.ringDesc n.val
    let r := s.sched.ring n.val
    (MayWrite s p (0x2400 + n.val) 2 →
      (s.ringOpenRefused n.val = true →
        Brings (.ringOpen p n) s [.od, .replies] fun u => u.get 0x2300 5 = satNat 32 (s.get 0x2300 5 + 1) ∧ OnlyValues [(0x2300, 5)] s u
          ∧ u.replies = s.replies.set p.code ⟨Status.incompatible.code, []⟩)
      ∧ (s.ringOpenRefused n.val = false → bit d 59 = false →
        Brings (.ringOpen p n) s [.mem, .sched, .replies] fun u =>
          u.sched.ring n.val = { Ring.reset with isOpen := true, opener := p.code + 1, owner := (if p = .T then s.userNow else 0), frames := s.freeRingFrames.take (ringFrames d) }
          ∧ (∀ f ∈ s.freeRingFrames.take (ringFrames d), ∀ k < 4096, u.mem.readByte (4096 * f + k) = 0) ∧ u.replies = s.replies.set p.code ⟨0, []⟩)
      ∧ (r.isOpen = true → Brings (.ringClose p n) s [.sched, .replies] fun u =>
          u.sched = s.sched.setRing n.val { r with closing := true } ∧ u.replies = s.replies.set p.code ⟨0, []⟩)
      ∧ (r.isOpen = false → Brings (.ringClose p n) s [.replies] fun u => u.replies = s.replies.set p.code ⟨0, []⟩)
      ∧ (r.isOpen = true → r.linkLoss = true → s.ringHeld n.val = false → Brings (.ringAcknowledgeLinkloss p n) s [.link, .mem, .sched, .replies] fun u =>
          u.sched = s.sched.setRing n.val { r with linkLoss := false } ∧ u.replies = s.replies.set p.code ⟨0, []⟩)
      ∧ (r.linkLoss = false → Brings (.ringAcknowledgeLinkloss p n) s [.replies] fun u => u.replies = s.replies.set p.code ⟨0, []⟩))
    ∧ (r.closing = false → Brings (.ringCloseComplete n) s [] fun u => u.sched = s.sched)
    ∧ (r.closing = true → bit d 59 = false → s.sched.pushWait = none →
      Brings (.ringCloseComplete n) s [.od, .mem, .sched] fun u =>
        u.sched = s.sched.setRing n.val { r with isOpen := false, closing := false, opener := 0, owner := 0, frames := [], linkLoss := false })
    ∧ (MayRead s p (0x2400 + n.val) 9 →
      (r.isOpen = false ∨ r.used = 0 → Brings (.ringPop p n false) s [.replies] fun u => u.replies = s.replies.set p.code ⟨0, List.replicate (ringSize d) 0⟩)
      ∧ (r.isOpen = true → r.used ≠ 0 → s.ringHeld n.val = true → s.link.pops = [] →
        Brings (.ringPop p n false) s [.link] fun u => u.link = { s.link with pops := [(n.val, p.code, 0)] })
      ∧ (r.isOpen = true → r.used ≠ 0 → bit d 59 = false → s.ringHeld n.val = false → s.mem.ecc = [] →
        Brings (.ringPop p n false) s [.mem, .sched, .replies] (fun u =>
          u.sched = s.sched.setRing n.val { r with cons := (r.cons + 1) % 65536 } ∧ u.replies = s.replies.set p.code ⟨0, s.ringHead n.val⟩)
        ∧ (p = .D → Brings (.ringPop p n true) s [.replies] fun u => u.replies = s.replies.set p.code ⟨0, s.ringHead n.val⟩)))
    ∧ (∀ data : List Nat, MayWrite s p (0x2400 + n.val) 10 → data.length = ringSize d →
      (s.ringHeld n.val = true → bits d 60 2 ≠ 2 → Brings (.ringPush p n data) s [.sched, .replies] fun u =>
          u.sched = { s.sched with held := s.sched.held ++ [(n.val, some (toLE (ringSize d) (fromLE data)))] } ∧ u.replies = s.replies.set p.code ⟨0, []⟩)
      ∧ (s.ringHeld n.val = false → r.isOpen = false ∨ r.closing = true →
        Brings (.ringPush p n data) s [.od, .replies] fun u => u.get 0x2300 6 = satNat 32 (s.get 0x2300 6 + 1) ∧ OnlyValues [(0x2300, 6)] s u
          ∧ u.replies = s.replies.set p.code ⟨0, []⟩)
      ∧ (s.ringHeld n.val = false → r.isOpen = true → r.closing = false → bit d 62 = false → bit d 59 = false → r.used < ringSlots d →
        Brings (.ringPush p n data) s [.od, .link, .mem, .sched, .replies] fun u => (u.sched.ring n.val).prod = (r.prod + 1) % 65536
          ∧ (u.sched.ring n.val).cons = r.cons ∧ u.replies = s.replies.set p.code ⟨0, []⟩)
      ∧ (r.isOpen = true → r.closing = false → bit d 62 = false → bit d 59 = false → ringSlots d ≤ r.used → bits d 60 2 = 2 →
        (p ≠ .T → Brings (.ringPush p n data) s [.replies] fun u => u.replies = s.replies.set p.code ⟨Status.busy.code, []⟩)
        ∧ (p = .T → Brings (.ringPush p n data) s [.sched] fun u => u.replies = s.replies
            ∧ u.sched = { s.sched with pushWait := some (n.val, toLE (ringSize d) (fromLE data)) })))
    ∧ (∀ c v, MayWrite s p (0x2400 + n.val) (if c then 5 else 4) → v < 65536 →
      (ringIndexAllowed d p c = false →
        Brings (.ringIndexWrite p n c v) s [.replies] fun u => u.replies = s.replies.set p.code ⟨Status.readOnly.code, []⟩)
      ∧ (ringIndexAllowed d p c = true → bit d 63 = false → s.sched.pushWait = none →
        let r' : Ring := if c then { r with cons := v } else { r with prod := v }
        (r'.used ≤ ringSlots d → c = true →
          Brings (.ringIndexWrite p n c v) s [.sched, .replies] fun u => u.sched = s.sched.setRing n.val r' ∧ u.replies = s.replies.set p.code ⟨0, []⟩)
        ∧ (ringSlots d < r'.used →
          Brings (.ringIndexWrite p n c v) s [.od, .link, .replies] fun u => u.sched = s.sched
            ∧ u.get (0x2400 + n.val) 7 = satNat 32 (s.get (0x2400 + n.val) 7 + 1) ∧ u.replies = s.replies.set p.code ⟨0, []⟩)))

/-- R321 to R324: task control and the actions that hardware carries out. -/
def Obligations.TaskActions : Prop :=
  ∀ (s : State) (t : Fin 128), Canonical s →
    (∀ p c, MayWrite s p (0x2500 + t.val) 6 → c < 16 →
      (bit (s.get (0x2500 + t.val) 6) 0 = true →
        Brings (.taskDisable p t c) s [.od, .sched, .replies] fun u => u.get (0x2500 + t.val) 6 = clearBit c 0 ∧ OnlyValues [(0x2500 + t.val, 6)] s u
          ∧ u.sched = { s.sched.setTask t.val Task.reset with ready := s.sched.ready.filter (fun x => x != t.val) })
      ∧ (bit (s.get (0x2500 + t.val) 6) 0 = false →
        Brings (.taskDisable p t c) s [.od, .replies] fun u => u.get (0x2500 + t.val) 6 = clearBit c 0 ∧ OnlyValues [(0x2500 + t.val, 6)] s u))
    ∧ (∀ a, s.readyHead = some t.val → (s.sched.task t.val).pending = some a →
      (s.taskKind t.val = 1 → s.taskTpdo (s.taskArg t.val) = true → s.pdoActive 0x1800 (s.taskArg t.val - 1) = true →
        Brings (.taskActionTpdoDue t) s [.sched] fun u => u.sched = (freeSlot s t.val).sched)
      ∧ (s.taskKind t.val = 1 → (s.taskTpdo (s.taskArg t.val) && s.pdoActive 0x1800 (s.taskArg t.val - 1)) = false →
        Brings (.taskActionTpdoDue t) s [.od, .sched] fun u => u.sched = (freeSlot s t.val).sched
          ∧ u.get (0x2500 + t.val) 14 = satNat 32 (s.get (0x2500 + t.val) 14 + 1))
      ∧ (s.taskKind t.val = 2 → s.taskArg t.val ≤ 255 → s.ringAccepts (s.taskArg t.val) = true → s.ringHeld (s.taskArg t.val) = false →
        Brings (.taskActionPostRecord t) s [.od, .link, .mem, .sched] fun u =>
          (u.sched.ring (s.taskArg t.val)).prod = ((s.sched.ring (s.taskArg t.val)).prod + 1) % 65536 ∧ u.sched.ready = (freeSlot s t.val).sched.ready)
      ∧ (s.taskKind t.val = 2 → s.taskArg t.val ≤ 255 → s.ringHeld (s.taskArg t.val) = true →
        Brings (.taskActionPostRecord t) s [.od, .sched] fun u => u.sched.ready = (freeSlot s t.val).sched.ready
          ∧ u.sched.held = s.sched.held ++ [(s.taskArg t.val, some (a.record t.val))])
      ∧ (s.taskKind t.val = 2 → s.taskArg t.val ≤ 255 → s.ringAccepts (s.taskArg t.val) = false → s.ringHeld (s.taskArg t.val) = false →
        Brings (.taskActionPostRecord t) s [.od, .sched] fun u => u.sched = (freeSlot s t.val).sched
          ∧ u.get (0x2500 + t.val) 14 = satNat 32 (s.get (0x2500 + t.val) 14 + 1))
      ∧ (s.taskKind t.val = 2 → 255 < s.taskArg t.val →
        Brings (.taskActionPostRecord t) s [.od, .sched] fun u => u.sched = (freeSlot s t.val).sched
          ∧ u.get (0x2500 + t.val) 14 = satNat 32 (s.get (0x2500 + t.val) 14 + 1))
      ∧ (s.taskKind t.val = 3 → s.flag 0x4800 10 2 = false → s.log.queue.length < 32 → s.log.dropped.count = 0 →
        Brings (.taskActionLog t) s [.log, .sched] fun u => u.sched = (freeSlot s t.val).sched
          ∧ u.log = { s.log with queue := s.log.queue ++ [s.logRecord 0x0160 (t.val + (s.taskArg t.val <<< 32))] })
      ∧ (s.taskKind t.val = 4 → ∀ d, PState.ofCode (s.taskArg t.val) = some d → (freeSlot s t.val).requestRefusal d false = none →
        Brings (.taskActionPowerRequest t) s [.od, .draws, .replies, .aocb, .store, .log, .can, .link, .mem, .sched, .tabor, .sense, .touch, .reg, .seq, .update, .test]
          fun u => u = powerRequest (freeSlot s t.val) d false)
      ∧ (s.taskKind t.val = 4 → PState.ofCode (s.taskArg t.val) = none →
        Brings (.taskActionPowerRequest t) s [.od, .sched] fun u => u.sched = (freeSlot s t.val).sched
          ∧ u.get (0x2500 + t.val) 14 = satNat 32 (s.get (0x2500 + t.val) 14 + 1)))
    ∧ (s.readyHead ≠ some t.val →
      Brings (.taskActionTpdoDue t) s [] (fun u => u.sched = s.sched) ∧ Brings (.taskActionPostRecord t) s [] (fun u => u.sched = s.sched)
      ∧ Brings (.taskActionLog t) s [] (fun u => u.sched = s.sched) ∧ Brings (.taskActionPowerRequest t) s [] (fun u => u.sched = s.sched))

/-- R337: the globals, G0 and the banked G4 to G7; every other visible register of a frame is its own (Table 9.1). -/
def Obligations.RegisterFile : Prop :=
  ∀ c : Core, sparseWf c.regs (fun _ => (0 : Word)) = true → c.winb.slot < 8 →
    c.reg 0 = 0 ∧ (∀ v, c.setReg 0 v = c)
    ∧ (∀ (r q : Fin 32) v, r ≠ 0 → (c.setReg r.val v).reg r.val = v ∧ (q ≠ r → (c.setReg r.val v).reg q.val = c.reg q.val))
    ∧ (∀ (r : Fin 32) v (e : Bool), 4 ≤ r.val → r.val < 8 →
        ({ ({ c with mst := { c.mst with exl := e } } : Core).setReg r.val v with mst := { c.mst with exl := !e } } : Core).reg r.val
          = ({ c with mst := { c.mst with exl := !e } } : Core).reg r.val)
    ∧ (∀ (r : Fin 32) (u : Bool), ({ c with mst := { c.mst with um := u } } : Core).reg r.val = c.reg r.val)
    ∧ (∀ (r : Fin 32) (e : Bool), r.val < 4 ∨ 8 ≤ r.val → ({ c with mst := { c.mst with exl := e } } : Core).reg r.val = c.reg r.val)

/-- R380, R382, R386, R387: the instructions of major 0x00. -/
def Obligations.RegisterArithmetic : Prop :=
  ∀ (s : State) (d a b : Fin 32) (f : Bool), CoreReady s →
    let c := s.core
    let x := c.reg a.val
    let y := c.reg b.val
    let n := y.toNat % 64
    let r := y.toNat % 32
    let gives := fun (v : Word) (g : Flg) => inSequence { c.setReg d.val v with flg := g }
    let nz := fun (v : Word) => if f then ({ c.flg with n := v.msb, z := decide (v = 0) } : Flg) else c.flg
    let nzc := fun (v : Word) (k : Bool) => if f then ({ c.flg with n := v.msb, z := decide (v = 0), c := k } : Flg) else c.flg
    let nzcv := fun (v : Word) (k : Bool) (exact : Int) =>
      if f then (⟨c.flg.q, v.msb, decide (v = 0), k, decide (v.toInt ≠ exact)⟩ : Flg) else c.flg
    let sat := fun (exact : Int) => BitVec.ofInt 32 (max (-(2 ^ 31)) (min (2 ^ 31 - 1) exact))
    let nzq := fun (exact : Int) => ({ nz (sat exact) with q := c.flg.q || decide ((sat exact).toInt ≠ exact) } : Flg)
    let cin := c.flg.c.toNat
    let bor := 1 - c.flg.c.toNat
    Retires (.tAdd d a b f) s (gives (x + y) (nzcv (x + y) (decide (2 ^ 32 ≤ x.toNat + y.toNat)) (x.toInt + y.toInt)))
    ∧ Retires (.tAddc d a b f) s (gives (x + y + BitVec.ofNat 32 cin)
        (nzcv (x + y + BitVec.ofNat 32 cin) (decide (2 ^ 32 ≤ x.toNat + y.toNat + cin)) (x.toInt + y.toInt + cin)))
    ∧ Retires (.tSub d a b f) s (gives (x - y) (nzcv (x - y) (decide (y.toNat ≤ x.toNat)) (x.toInt - y.toInt)))
    ∧ Retires (.tSubc d a b f) s (gives (x - y - BitVec.ofNat 32 bor)
        (nzcv (x - y - BitVec.ofNat 32 bor) (decide (y.toNat + bor ≤ x.toNat)) (x.toInt - y.toInt - bor)))
    ∧ Retires (.tAdds d a b f) s (gives (sat (x.toInt + y.toInt)) (nzq (x.toInt + y.toInt)))
    ∧ Retires (.tSubs d a b f) s (gives (sat (x.toInt - y.toInt)) (nzq (x.toInt - y.toInt)))
    ∧ Retires (.tAnd d a b f) s (gives (x &&& y) (nz (x &&& y)))
    ∧ Retires (.tOr d a b f) s (gives (x ||| y) (nz (x ||| y)))
    ∧ Retires (.tXor d a b f) s (gives (x ^^^ y) (nz (x ^^^ y)))
    ∧ Retires (.tAndn d a b f) s (gives (x &&& ~~~y) (nz (x &&& ~~~y)))
    ∧ Retires (.tShl d a b f) s (gives (x <<< n) (nzc (x <<< n) (if n = 0 then c.flg.c else (x.zeroExtend 96 <<< n).getLsbD 32)))
    ∧ Retires (.tShr d a b f) s (gives (x >>> n) (nzc (x >>> n) (if n = 0 then c.flg.c else x.getLsbD (n - 1))))
    ∧ Retires (.tSar d a b f) s (gives (x.sshiftRight n) (nzc (x.sshiftRight n) (if n = 0 then c.flg.c else (x.signExtend 96).getLsbD (n - 1))))
    ∧ Retires (.tRor d a b f) s (gives (x >>> r ||| x <<< (32 - r))
        (nzc (x >>> r ||| x <<< (32 - r)) (if r = 0 then c.flg.c else x.getLsbD (r - 1))))
    ∧ Retires (.tMin d a b f) s (gives (BitVec.ofInt 32 (min x.toInt y.toInt)) (nz (BitVec.ofInt 32 (min x.toInt y.toInt))))
    ∧ Retires (.tMax d a b f) s (gives (BitVec.ofInt 32 (max x.toInt y.toInt)) (nz (BitVec.ofInt 32 (max x.toInt y.toInt))))
    ∧ Retires (.tMinu d a b f) s (gives (BitVec.ofNat 32 (min x.toNat y.toNat)) (nz (BitVec.ofNat 32 (min x.toNat y.toNat))))
    ∧ Retires (.tMaxu d a b f) s (gives (BitVec.ofNat 32 (max x.toNat y.toNat)) (nz (BitVec.ofNat 32 (max x.toNat y.toNat))))
    ∧ (let z := BitVec.ofNat 32 (if x = 0 then 32 else 31 - Nat.log2 x.toNat); Retires (.tClz d a f) s (gives z (nz z)))
    ∧ (let z := BitVec.ofInt 32 (toSigned 8 (x.toNat % 256)); Retires (.tSextb d a f) s (gives z (nz z)))
    ∧ (let z := BitVec.ofInt 32 (toSigned 16 (x.toNat % 65536)); Retires (.tSexth d a f) s (gives z (nz z)))
    ∧ (let z := x &&& 0xFF; Retires (.tZextb d a f) s (gives z (nz z)))
    ∧ (let z := x &&& 0xFFFF; Retires (.tZexth d a f) s (gives z (nz z)))

/-- R345, R386, R394, R400: the immediate instructions, the multiplier's instructions and the delivery of its writes, ACCX. -/
def Obligations.ImmediatesAndMultiplier : Prop :=
  (∀ (s : State) (d a : Fin 32) (imm : BitVec 16), CoreReady s →
    let c := s.core
    let x := c.reg a.val
    let i := imm.toInt
    let gives := fun (v : Word) => inSequence (c.setReg d.val v)
    Retires (.tAddi d a imm) s (gives (BitVec.ofInt 32 (x.toInt + i)))
    ∧ Retires (.tAndi d a imm) s (gives (x &&& BitVec.ofNat 32 imm.toNat))
    ∧ Retires (.tOri d a imm) s (gives (x ||| BitVec.ofNat 32 imm.toNat))
    ∧ Retires (.tXori d a imm) s (gives (x ^^^ BitVec.ofNat 32 imm.toNat))
    ∧ (∀ n : Fin 32, Retires (.tShi d a 0 n) s (gives (x <<< n.val)) ∧ Retires (.tShi d a 1 n) s (gives (x >>> n.val))
        ∧ Retires (.tShi d a 2 n) s (gives (x.sshiftRight n.val)) ∧ Retires (.tShi d a 3 n) s (gives (x >>> n.val ||| x <<< (32 - n.val))))
    ∧ Retires (.tLui d imm) s (gives (BitVec.ofNat 32 (65536 * imm.toNat)))
    ∧ (let v := BitVec.ofInt 32 (x.toInt - i);
        Retires (.tCmpi a imm) s (inSequence { c with
          flg := ⟨c.flg.q, v.msb, decide (v = 0), decide ((BitVec.ofInt 32 i).toNat ≤ x.toNat), decide (v.toInt ≠ x.toInt - i)⟩ }))
    ∧ (let v := x &&& BitVec.ofNat 32 imm.toNat;
        Retires (.tTsti a imm) s (inSequence { c with flg := ⟨c.flg.q, v.msb, decide (v = 0), false, false⟩ }))
    ∧ Retires .tNop s (inSequence c))
  ∧ (∀ (s : State) (a b : Fin 32), CoreReady s →
    let c := s.core
    let sp := (c.reg a.val).toInt * (c.reg b.val).toInt
    let up : Int := (c.reg a.val).toNat * (c.reg b.val).toNat
    let owes := fun (w : MulWrite) => inSequence { c with muls := [(2, w)] }
    Retires (.tMul a b) s (owes (.set sp)) ∧ Retires (.tMulu a b) s (owes (.set up)) ∧ Retires (.tMac a b) s (owes (.add sp))
      ∧ Retires (.tMacu a b) s (owes (.add up)) ∧ Retires (.tMsu a b) s (owes (.add (-sp))) ∧ Retires (.tMsuu a b) s (owes (.add (-up))))
  ∧ (∀ (c : Core) (k : Nat) (w : MulWrite), c.muls = [(k, w)] →
      (∀ n < k, c.pass n = { c with muls := [(k - n, w)], loads := (c.loads.filter (fun e => decide (n < e.1))).map (fun e => (e.1 - n, e.2)) })
      ∧ (∀ n, k ≤ n → (c.pass n).muls = []
          ∧ (∀ v, w = .set v → (c.pass n).acc = v ∧ (c.pass n).flg = c.flg)
          ∧ (∀ v, w = .add v → (c.pass n).acc = max (-(2 ^ 71)) (min (2 ^ 71 - 1) (c.acc + v))
              ∧ (c.pass n).flg = { c.flg with q := c.flg.q || decide (c.acc + v < -(2 ^ 71) ∨ 2 ^ 71 - 1 < c.acc + v) })))
  ∧ (∀ (c : Core) (u v : Int), c.muls = [(1, .add u), (2, .add v)] →
      (c.pass 2).acc = max (-(2 ^ 71)) (min (2 ^ 71 - 1) (max (-(2 ^ 71)) (min (2 ^ 71 - 1) (c.acc + u)) + v)))
  ∧ (∀ (s : State) (d : Fin 32) (n : BitVec 8), CoreReady s →
      (n.toNat ≤ 40 →
        let x := s.core.acc / 2 ^ n.toNat
        Retires (.tAccx d n) s (inSequence { s.core.setReg d.val (BitVec.ofInt 32 (max (-(2 ^ 31)) (min (2 ^ 31 - 1) x))) with
          flg := { s.core.flg with q := s.core.flg.q || decide (x < -(2 ^ 31) ∨ 2 ^ 31 - 1 < x) } }))
      ∧ (40 < n.toNat → Canonical s → CanEnter s → Raises (.tAccx d n) s 0x01 0 s.core.pc))

/-- R341, R344, R385, R391, R394, R395: the special registers, the MPU bank, RPT. -/
def Obligations.SpecialRegisters : Prop :=
  ∀ (s : State) (d a : Fin 32) (n : BitVec 8), CoreReady s → -(2 ^ 71) ≤ s.core.acc → s.core.acc < 2 ^ 71 →
    let c := s.core
    let v := c.reg a.val
    let reads := fun (w : Word) => Retires (.tMfs d n) s (inSequence (c.setReg d.val w))
    let takes := fun (c' : Core) => Retires (.tMts n a) s (inSequence c')
    let acc := fun (P : Int → Prop) => ∃ x, P x ∧ -(2 ^ 71) ≤ x ∧ x < 2 ^ 71 ∧ takes { c with acc := x }
    let m := c.mst
    (n = 0 → reads c.pc)
    ∧ (n = 1 → reads (BitVec.ofNat 32 (16 * c.flg.q.toNat + 8 * c.flg.n.toNat + 4 * c.flg.z.toNat + 2 * c.flg.c.toNat + c.flg.v.toNat))
        ∧ takes { c with flg := ⟨v.getLsbD 4, v.getLsbD 3, v.getLsbD 2, v.getLsbD 1, v.getLsbD 0⟩ })
    ∧ (n = 2 → reads (BitVec.ofInt 32 (c.acc / 2 ^ 32))
        ∧ acc fun x => x / 2 ^ 64 = c.acc / 2 ^ 64 ∧ x / 2 ^ 32 % 2 ^ 32 = v.toNat ∧ x % 2 ^ 32 = c.acc % 2 ^ 32)
    ∧ (n = 3 → reads (BitVec.ofInt 32 c.acc) ∧ acc fun x => x / 2 ^ 32 = c.acc / 2 ^ 32 ∧ x % 2 ^ 32 = v.toNat)
    ∧ (n = 4 → reads (BitVec.ofInt 32 (c.acc / 2 ^ 64)) ∧ acc fun x => x / 2 ^ 64 = (v.truncate 8).toInt ∧ x % 2 ^ 64 = c.acc % 2 ^ 64)
    ∧ (n = 5 → reads (BitVec.ofNat 32 (256 * (m.prog % 16) + 128 * m.bev.toNat + 64 * m.mpuen.toNat + 32 * m.pum.toNat + 16 * m.pee.toNat
            + 8 * m.exl.toNat + 4 * m.ee.toNat + m.um.toNat))
        ∧ (m.um = false → takes { c with mst := ⟨v.toNat / 256 % 16, v.getLsbD 7, v.getLsbD 6, v.getLsbD 5, v.getLsbD 4, m.exl, v.getLsbD 2, m.um⟩ }))
    ∧ (n = 6 → reads c.rc ∧ takes { c with rc := v })
    ∧ (n = 7 → reads c.rsa ∧ Retires (.tMts n a) s { inSequence c with rsa := v })
    ∧ (n = 8 → reads c.rea ∧ Retires (.tMts n a) s { inSequence c with rea := v })
    ∧ (n = 9 → reads c.sa ∧ takes { c with sa := v })
    ∧ (n = 10 → reads c.da ∧ takes { c with da := v })
    ∧ (n = 11 → reads c.cnt ∧ takes { c with cnt := v })
    ∧ (n = 12 → m.um = false → reads c.epc ∧ takes { c with epc := v })
    ∧ (n = 13 → m.um = false → reads c.ecause ∧ takes { c with ecause := v &&& 0xE0FF00FF })
    ∧ (n = 14 → reads (BitVec.ofNat 32 (65536 * (c.winb.owner % 256) + 256 * (c.winb.resident % 16) + c.winb.slot % 8))
        ∧ (m.um = false → takes { c with winb := ⟨v.toNat / 65536 % 256, v.toNat / 256 % 16, v.toNat % 8⟩ }))
    ∧ (n = 15 → reads (if m.um then c.wspUser else c.wspSys) ∧ takes (if m.um then { c with wspUser := v } else { c with wspSys := v }))
    ∧ (n = 16 → reads (BitVec.ofNat 32 (32768 * c.cst.lockBrk.toNat + 16384 * c.cst.double.toNat + 8192 * c.cst.halted.toNat
          + 2048 * c.cst.deferred.toNat + 256 * (c.cst.hcause % 8) + 64 * (c.cst.wphit % 4) + 4 * (c.cst.bphit % 16) + 2 * c.cst.user.toNat)))
    ∧ (Canonical s → CanEnter s →
        (m.um = true → n = 12 ∨ n = 13 → Raises (.tMfs d n) s 0x02 0 c.pc)
        ∧ (n = 0 ∨ n = 16 ∨ m.um = true ∧ (n = 5 ∨ n = 12 ∨ n = 13 ∨ n = 14) → Raises (.tMts n a) s 0x02 0 c.pc)
        ∧ (16 < n.toNat → Raises (.tMfs d n) s 0x01 0 c.pc ∧ Raises (.tMts n a) s 0x01 0 c.pc)
        ∧ (31 < n.toNat → Raises (.tMpur d n) s 0x01 0 c.pc ∧ Raises (.tMpuw n a) s 0x01 0 c.pc)
        ∧ (n.toNat ≤ 31 → m.um = true → Raises (.tMpur d n) s 0x02 0 c.pc ∧ Raises (.tMpuw n a) s 0x02 0 c.pc))
    ∧ (n.toNat ≤ 31 → m.um = false → Retires (.tMpur d n) s (inSequence (c.setReg d.val (c.mpuWord n.toNat)))
        ∧ ∃ w, Retires (.tMpuw n a) s (inSequence { c with mpu := c.mpu.set n.toNat w })
            ∧ w = (if n.toNat % 4 = 3 then 0 else if n.toNat % 4 = 2 then v &&& 0x80000007 else v &&& 0xFFFFFFC0))
    ∧ Retires (.tRpt a n) s { c with rc := v, rsa := c.pc + 4, rea := c.pc + BitVec.ofNat 32 (4 * (n.toNat + 1)), pc := c.pc + 4 }

/-- R338, R339, R374, R379, R381, R388, R389, R390, R395, R399, R401: branches, calls, returns, traps, WAIT. -/
def Obligations.ControlTransfers : Prop :=
  ∀ s : State, Canonical s → CoreReady s →
    let c := s.core
    let w := c.winb
    let next := (w.slot + 1) % 8
    let back := (w.slot + 7) % 8
    (∀ (k : Fin 16) (disp : BitVec 22), k.val ≠ 15 →
      let target := c.pc + 4 * disp.signExtend 32
      let g := c.flg
      let holds := [g.z, !g.z, g.c, !g.c, g.n, !g.n, g.v, !g.v, g.c && !g.z, !g.c || g.z, g.n == g.v, g.n != g.v, !g.z && g.n == g.v, g.z || g.n != g.v, true]
      (s.targetInLock target.toNat = false → holds[k.val]? = some false → Retires (.tB k disp) s (inSequence c))
      ∧ (s.targetInLock target.toNat = false → holds[k.val]? = some true → target.toNat % 4 = 0 → Retires (.tB k disp) s { c with pc := target })
      ∧ (s.targetInLock target.toNat = true → CanEnter s → Raises (.tB k disp) s 0x0A 0 c.pc))
    ∧ (CanEnter s → ∀ disp x, Raises (.tB 15 disp) s 0x01 0 c.pc ∧ (decodeTabor x.toNat = none → Raises (.tIllegal x) s 0x01 0 c.pc))
    ∧ (∀ x i, decodeTabor x.toNat = some i → exec (.tIllegal x) s = exec i s)
    ∧ (∀ a : Fin 32, s.targetInLock (c.reg a.val).toNat = false →
      ((c.reg a.val).toNat % 4 = 0 → Retires (.tJr a) s { c with pc := c.reg a.val })
      ∧ ((c.reg a.val).toNat % 4 ≠ 0 → CanEnter s → Raises (.tJr a) s 0x03 0 c.pc))
    ∧ (∀ (i : Instr) (target : Word), (∃ disp : BitVec 26, i = .tCall disp ∧ target = c.pc + 4 * disp.signExtend 32) ∨ (∃ a : Fin 32, i = .tCallr a ∧ target = c.reg a.val) →
      (target.toNat % 4 = 0 → w.resident < 7 →
        Retires i s { ({ c with winb := ⟨putBit w.owner next c.mst.um, w.resident + 1, next⟩ } : Core).setReg 23 (c.pc + 4) with pc := target })
      ∧ (target.toNat % 4 = 0 → w.resident = 7 → bit w.owner ((w.slot + 2) % 8) = false → c.wspSys.toNat % 64 = 0 →
          0x80000000 + 64 ≤ c.wspSys.toNat → c.wspSys.toNat ≤ 0x80400000 →
        Does i s [.mem, .tabor] fun t =>
          t.tabor = { s.tabor with
            core := { ({ c with winb := ⟨putBit w.owner next c.mst.um, 7, next⟩, wspSys := c.wspSys - 64 } : Core).setReg 23 (c.pc + 4) with pc := target }
            inString := false }
          ∧ ∀ k, t.mem.readByte k = (let o := k + 0x80000000 + 64 - c.wspSys.toNat;
              if c.wspSys.toNat ≤ k + 0x80000000 + 64 ∧ o < 64 then BitVec.ofNat 8 ((sparseGet c.regs (8 + 16 * ((w.slot + 2) % 8) + o / 4) 0).toNat / 2 ^ (8 * (o % 4)))
              else s.mem.readByte k))
      ∧ (target.toNat % 4 ≠ 0 → CanEnter s → Raises i s 0x03 0 c.pc))
    ∧ ((c.reg 23).toNat % 4 = 0 → 1 < w.resident →
        Retires .tRet s { c with winb := { w with resident := w.resident - 1, slot := back }, pc := c.reg 23 })
    ∧ ((c.reg 23).toNat % 4 ≠ 0 → CanEnter s → Raises .tRet s 0x03 0 c.pc)
    ∧ ((c.reg 23).toNat % 4 = 0 → w.resident = 1 → bit w.owner back = false → c.wspSys.toNat % 64 = 0 → 0x80000000 ≤ c.wspSys.toNat →
        c.wspSys.toNat + 64 ≤ 0x80400000 → s.mem.ecc = [] → sparseWf c.regs (fun _ => (0 : Word)) = true →
        ∃ rs, Retires .tRet s { c with winb := { w with slot := back }, pc := c.reg 23, regs := rs, wspSys := c.wspSys + 64 }
          ∧ ∀ k, sparseGet rs k 0 = (if 8 + 16 * back ≤ k ∧ k < 24 + 16 * back
              then BitVec.ofNat 32 (fromLE (s.mem.read (c.wspSys.toNat - 0x80000000 + 4 * (k - 8 - 16 * back)) 4)) else sparseGet c.regs k 0))
    ∧ (c.mst.um = false → c.epc.toNat % 4 = 0 →
        let m := { c.mst with um := c.mst.pum, ee := c.mst.pee, exl := false }
        (c.flat = false → 1 < w.resident →
          Retires .tRete s { c with winb := { w with resident := w.resident - 1, slot := back }, mst := m, pc := c.epc })
        ∧ (c.flat = true → Retires .tRete s { c with mst := m, flat := false, pc := c.epc }))
    ∧ (c.mst.um = false → c.epc.toNat % 4 ≠ 0 → CanEnter s → Raises .tRete s 0x03 0 c.pc)
    ∧ (c.mst.exl = false → w.resident < 7 →
        (c.mst.um = true → s.tabor.handler = none →
          Does .tRete s [.od, .tabor] fun t => t.tabor = { s.tabor with core := entered c 0x0B 255 c.pc, inString := false }
            ∧ t.get 0x2800 3 = satNat 32 (s.get 0x2800 3 + 1) ∧ OnlyValues [(0x2800, 3)] s t)
        ∧ (∀ n : BitVec 8, c.mst.um = false ∨ n ≠ 255 ∨ s.tabor.handler = none →
          Does (.tTrap n) s [.od, .tabor] fun t =>
            t.tabor = { s.tabor with core := { entered c 0x0B n.toNat (inSequence c).pc with rc := (inSequence c).rc }, inString := false }
            ∧ t.get 0x2800 3 = satNat 32 (s.get 0x2800 3 + 1) ∧ OnlyValues [(0x2800, 3)] s t))
    ∧ (c.mst.um = false → s.firmwareHead = true → Retires .tWait s (inSequence c))
    ∧ (c.mst.um = false → s.firmwareHead = false → Does .tWait s [.tabor] fun t => t.tabor = { s.tabor with run := .waiting })
    ∧ (c.mst.um = true → CanEnter s → Raises .tWait s 0x02 0 c.pc)
    ∧ (c.mst.exl = true → ∀ x, decodeTabor x.toNat = none → Does (.tIllegal x) s [.tabor] fun t => t.tabor.run = .stopped ∧ t.tabor.core = { c with cst := { c.cst with double := true } })

/-- R346, R352, R353, R354, R391, R398: LOCK sequences. An instruction that may not stand in one is refused on the LOCK before the sequence starts, or, where its word
could not be read then, when it is reached. -/
def Obligations.LockSequences : Prop :=
  ∀ s : State, Canonical s → CoreFree s →
    let c := s.core
    (c.lock = none → ∀ n : BitVec 8,
      (1 ≤ n.toNat → n.toNat ≤ 8 → (c.rc.toNat ≤ 1 ∨ ∀ k, 1 ≤ k → k ≤ n.toNat → c.rea ≠ c.pc + BitVec.ofNat 32 (4 * k)) →
          s.barredAhead n.toNat = false →
        Retires (.tLock n) s { inSequence c with lock := some ⟨c.pc, n.toNat, ⟨c.regs, c.flg, c.rc⟩, [], [], []⟩ })
      ∧ (CanEnter s → 1 ≤ n.toNat → n.toNat ≤ 8 → s.barredAhead n.toNat = true → Raises (.tLock n) s 0x0A 0 c.pc)
      ∧ (CanEnter s → n.toNat = 0 ∨ 8 < n.toNat → Raises (.tLock n) s 0x01 0 c.pc)
      ∧ (CanEnter s → 1 ≤ n.toNat → n.toNat ≤ 8 → 1 < c.rc.toNat → (∃ k, 1 ≤ k ∧ k ≤ n.toNat ∧ c.rea = c.pc + BitVec.ofNat 32 (4 * k)) →
        Raises (.tLock n) s 0x0A 0 c.pc))
    ∧ (∀ l, c.lock = some l →
      (1 < l.left → Retires .tNop s { inSequence c with lock := some { l with left := l.left - 1 } })
      ∧ (l.left = 1 → s.mem.ecc = [] →
        Does .tNop s [.mem, .tabor] fun t => t.tabor = { s.tabor with core := { inSequence c with lock := none }, inString := false }
          ∧ ∀ a, t.mem.readByte a = (match l.stores.find? (fun e => e.1 == a) with
              | some e => e.2
              | none => s.mem.readByte a))
      ∧ (∀ (d a : Fin 32) (off : BitVec 16), 1 < l.left → s.mem.ecc = [] → c.mst.um = false →
        let addr := (c.reg a.val + off.signExtend 32).toNat
        0x80000000 ≤ addr → addr + 4 ≤ 0x80400000 → addr % 4 = 0 →
        (∃ l', Retires (.tStw d a off) s { inSequence c with lock := some l' } ∧ l'.pc = l.pc ∧ l'.snap = l.snap ∧ l'.left = l.left - 1 ∧ l'.marks = l.marks
            ∧ (∀ x, l'.stores.find? (fun e => e.1 == x) = if addr ≤ x + 0x80000000 ∧ x + 0x80000000 < addr + 4
                then some (x, BitVec.ofNat 8 ((c.reg d.val).toNat / 2 ^ (8 * (x + 0x80000000 - addr)))) else l.stores.find? (fun e => e.1 == x))
            ∧ ∀ b, b ∈ l'.banks ↔ b ∈ l.banks ∨ b = (addr - 0x80000000) / 0x20000))
      ∧ (c.mst.exl = false → c.winb.resident < 7 → (c.mst.um = true → c.mst.prog = 0) →
        let before := { c with regs := l.snap.regs, flg := l.snap.flg, rc := l.snap.rc, pc := l.pc, lock := none }
        let refused := fun (i : Instr) =>
          Does i s [.od, .mem, .tabor] fun t => t.mem = (undoMarks s l.marks).mem ∧ t.tabor = { s.tabor with core := entered before 0x0A 0 l.pc, inString := false }
        (∀ a b, refused (.tMul a b) ∧ refused (.tMulu a b) ∧ refused (.tMac a b) ∧ refused (.tMacu a b) ∧ refused (.tMsu a b) ∧ refused (.tMsuu a b))
        ∧ (∀ (n : BitVec 8) a, n.toNat ≤ 16 → refused (.tMts n a) ∧ refused (.tMpuw n a))
        ∧ (∀ disp a n, refused (.tCall disp) ∧ refused (.tCallr a) ∧ refused .tRet ∧ refused .tRete ∧ refused (.tTrap n) ∧ refused .tWait ∧ refused (.tRpt a n)
            ∧ refused .tMovs ∧ refused (.tFills a) ∧ refused .tCmps)
        ∧ (∀ a d : Fin 32, a.val % 2 = 0 → d.val % 2 = 0 → refused (.tOsr a) ∧ refused (.tOsw a) ∧ refused (.tOrd d a) ∧ refused (.tOwr d a))
        ∧ (∀ n : BitVec 8, 1 ≤ n.toNat → n.toNat ≤ 8 → refused (.tLock n))
        ∧ (∀ (d a : Fin 32) (off : BitVec 16), (c.reg a.val + off.signExtend 32).toNat % 4 ≠ 0 →
            Does (.tStw d a off) s [.od, .mem, .tabor] fun t => t.mem = (undoMarks s l.marks).mem
              ∧ t.tabor.core = { entered before 0x03 0 l.pc with ecause := (entered before 0x03 0 l.pc).ecause ||| 0x40000000 }
              ∧ t.get 0x2802 1 = satNat 32 (s.get 0x2802 1 + 1))))

/-- R342, R343, R357, R379, R382, R384, R394, R401: loads and stores, and what an address may meet. -/
def Obligations.LoadsAndStores : Prop :=
  ∀ (s : State) (d a : Fin 32) (off : BitVec 16), Canonical s → CoreReady s → s.mem.ecc = [] →
    let c := s.core
    let addr := (c.reg a.val + off.signExtend 32).toNat
    let p := addr - 0x80000000
    let window := fun (n : Nat) => c.mst.um = false ∧ 0x80000000 ≤ addr ∧ addr + n ≤ 0x80400000 ∧ addr % n = 0
    let val := fun (n : Nat) => fromLE (s.mem.read p n)
    let loads := fun (i : Instr) (v : Word) =>
      Retires i s { inSequence (c.setReg d.val v) with loads := if d = 0 then [] else [(2, c.regKey d.val)] }
    let stores := fun (i : Instr) (n v : Nat) => Does i s [.mem, .tabor] fun t =>
      t.mem = s.mem.store p (toLE n v) ∧ t.tabor = { s.tabor with core := inSequence c, inString := false }
    let x := (c.reg d.val).toNat
    (window 4 → loads (.tLdw d a off) (BitVec.ofNat 32 (val 4)) ∧ stores (.tStw d a off) 4 x)
    ∧ (window 2 → loads (.tLdh d a off) ((BitVec.ofNat 16 (val 2)).signExtend 32) ∧ loads (.tLdhu d a off) (BitVec.ofNat 32 (val 2))
        ∧ stores (.tSth d a off) 2 x)
    ∧ (window 1 → loads (.tLdb d a off) ((BitVec.ofNat 8 (val 1)).signExtend 32) ∧ loads (.tLdbu d a off) (BitVec.ofNat 32 (val 1))
        ∧ stores (.tStb d a off) 1 x)
    ∧ (window 8 → d.val % 2 = 0 →
        Retires (.tLdd d a off) s { inSequence ((c.setReg d.val (BitVec.ofNat 32 (val 8))).setReg (d.val + 1) (BitVec.ofNat 32 (val 8 / 2 ^ 32))) with
          loads := (if d = 0 then [] else [(2, c.regKey d.val)]) ++ [(2, c.regKey (d.val + 1))] }
        ∧ stores (.tStd d a off) 8 (x + 2 ^ 32 * (c.reg (d.val + 1)).toNat))
    ∧ (CanEnter s →
        (d.val % 2 = 1 → Raises (.tLdd d a off) s 0x01 0 c.pc ∧ Raises (.tStd d a off) s 0x01 0 c.pc)
        ∧ (addr % 2 = 1 → Raises (.tLdh d a off) s 0x03 0 c.pc ∧ Raises (.tLdhu d a off) s 0x03 0 c.pc ∧ Raises (.tSth d a off) s 0x03 0 c.pc)
        ∧ (addr % 4 ≠ 0 → Raises (.tLdw d a off) s 0x03 0 c.pc ∧ Raises (.tStw d a off) s 0x03 0 c.pc)
        ∧ (addr % 8 ≠ 0 → d.val % 2 = 0 → Raises (.tLdd d a off) s 0x03 0 c.pc ∧ Raises (.tStd d a off) s 0x03 0 c.pc)
        ∧ (0x10000000 ≤ addr → (addr < 0x80000000 ∨ c.mst.um = true) →
            Raises (.tLdb d a off) s 0x04 0 c.pc ∧ Raises (.tLdbu d a off) s 0x04 0 c.pc ∧ Raises (.tStb d a off) s 0x04 0 c.pc)
        ∧ (0xFFFF0000 ≤ addr → Raises (.tStb d a off) s 0x04 0 c.pc)
        ∧ (addr < 0x10000000 → c.mst.um = true → c.mst.mpuen = true →
            let covers := fun (r : Nat) => (nth c.mpu (4 * r + 2) 0).msb = true
              ∧ (nth c.mpu (4 * r) 0).toNat / 64 ≤ addr / 64 ∧ addr / 64 ≤ (nth c.mpu (4 * r + 1) 0).toNat / 64
            let decides := fun (r : Nat) => r < 8 ∧ covers r ∧ ∀ q, r < q → q < 8 → ¬covers q
            ((∀ r, decides r → (nth c.mpu (4 * r + 2) 0).getLsbD 0 = false) → ∃ n ≤ 8, Raises (.tLdb d a off) s 0x07 n c.pc)
            ∧ ((∀ r, decides r → (nth c.mpu (4 * r + 2) 0).getLsbD 1 = false) → ∃ n ≤ 8, Raises (.tStb d a off) s 0x07 n c.pc)))

/-- R348, R392: the string instructions, unit by unit. -/
def Obligations.StringUnits : Prop :=
  ∀ (s : State) (a : Fin 32), CoreReady s → s.mem.ecc = [] → s.core.mst.um = false →
    let c := s.core
    let cnt := c.cnt.toNat
    let sa := c.sa.toNat
    let da := c.da.toNat
    let inWindow := fun (x : Nat) => 0x80000000 ≤ x ∧ x < 0x80400000
    let n := min (min (8 - sa % 8) (8 - da % 8)) cnt
    let m := min (8 - da % 8) cnt
    let leaves := fun (t : State) (c' : Core) (k : Nat) =>
      t.tabor = { s.tabor with core := if k = cnt then inSequence c' else c', inString := decide (k ≠ cnt) }
    let moved := fun (k : Nat) => ({ c with sa := c.sa + BitVec.ofNat 32 k, da := c.da + BitVec.ofNat 32 k, cnt := c.cnt - BitVec.ofNat 32 k } : Core)
    let x := s.mem.read (sa - 0x80000000) n
    let y := s.mem.read (da - 0x80000000) n
    (cnt = 0 → Retires .tMovs s (inSequence c) ∧ Retires (.tFills a) s (inSequence c)
        ∧ Retires .tCmps s (inSequence { c with flg := ⟨c.flg.q, false, true, false, false⟩ }))
    ∧ (0 < cnt → inWindow da →
        (inWindow sa → Does .tMovs s [.mem, .tabor] fun t => t.mem = s.mem.store (da - 0x80000000) x ∧ leaves t (moved n) n)
        ∧ Does (.tFills a) s [.mem, .tabor] (fun t => t.mem = s.mem.store (da - 0x80000000) (List.replicate m ((c.reg a.val).toNat % 256))
            ∧ leaves t { moved m with sa := c.sa } m)
        ∧ (inWindow sa → x = y → Does .tCmps s [.tabor] fun t =>
            leaves t (if n = cnt then { moved n with flg := ⟨c.flg.q, false, true, false, false⟩ } else moved n) n)
        ∧ (inWindow sa → ∀ k < n, nth x k 0 ≠ nth y k 0 → (∀ j < k, nth x j 0 = nth y j 0) →
            Retires .tCmps s (inSequence { c with flg := ⟨c.flg.q, false, false, decide (nth y k 0 < nth x k 0), false⟩ })))

/-- R349, R350, R351, R393, R402: the object instructions. -/
def Obligations.ObjectInstructions : Prop :=
  ∀ (s : State) (d a : Fin 32), Canonical s → CoreReady s →
    let c := s.core
    let orw := (c.reg a.val).toNat + 2 ^ 32 * (c.reg (a.val + 1)).toNat
    let op := orw / 2 ^ 60 % 8
    let index := orw / 2 ^ 40 % 65536
    let sub := orw / 2 ^ 32 % 256
    let stalled := fun (x : Option Nat) => ({ s with tabor := { s.tabor with blocked := some (.object x) } } : State)
    let running := ({ s with tabor := { s.tabor with inString := true } } : State)
    let ends := fun (i : Instr) (u : State) (x : Status) (v : List Nat) (c' : Core) => ∃ t, exec i s = .next t ∧ Only [.pdo, .replies, .tabor] u t
      ∧ t.replies = u.replies.set 2 ⟨x.code, v⟩ ∧ t.tabor = { s.tabor with core := c', inString := false }
    let faults := fun (i : Instr) (u : State) (x : Status) (v : List Nat) => ∃ t, exec i s = .next t ∧ Only [.pdo, .replies, .tabor, .od] u t
      ∧ t.replies = u.replies.set 2 ⟨x.code, v⟩ ∧ t.tabor = { s.tabor with core := entered c 0x08 x.code c.pc, inString := false }
    let n := min 256 c.cnt.toNat
    let unit := orw / 256 * 256 + n % 256
    (a.val % 2 = 0 → d.val % 2 = 0 →
      (c.mst.um = false → op = 0 ∨ op = 4 → ∀ u v,
        (orwRequest (stalled (some d.val)) .T 0 orw [] = (u, some (.ok, v)) → u.tabor = (stalled (some d.val)).tabor →
          ends (.tOrd d a) u .ok v (inSequence ((c.setReg d.val (BitVec.ofNat 32 (fromLE (v.take 8)))).setReg (d.val + 1) (BitVec.ofNat 32 (fromLE (v.take 8) / 2 ^ 32)))))
        ∧ (∀ st, st ≠ .ok → CanEnter s → orwRequest (stalled (some d.val)) .T 0 orw [] = (u, some (st, v)) → u.tabor = (stalled (some d.val)).tabor →
          faults (.tOrd d a) u st v)
        ∧ (orwRequest (stalled (some d.val)) .T 0 orw [] = (u, none) → u.tabor = (stalled (some d.val)).tabor →
          ∃ t, exec (.tOrd d a) s = .next t ∧ Only [.pdo] u t))
      ∧ (c.mst.um = false → op = 1 → ∀ u v,
        let data := toLE (s.sizeNow .T index sub) ((c.reg d.val).toNat + 2 ^ 32 * (c.reg (d.val + 1)).toNat)
        (orwRequest (stalled none) .T 0 orw data = (u, some (.ok, v)) → u.tabor = (stalled none).tabor → ends (.tOwr d a) u .ok v (inSequence c))
        ∧ (∀ st, st ≠ .ok → CanEnter s → orwRequest (stalled none) .T 0 orw data = (u, some (st, v)) → u.tabor = (stalled none).tabor →
          faults (.tOwr d a) u st v))
      ∧ (CanEnter s → c.mst.um = true → Raises (.tOrd d a) s 0x08 0x03 c.pc ∧ Raises (.tOwr d a) s 0x08 0x03 c.pc)
      ∧ (CanEnter s → c.mst.um = false → (op ≠ 0 ∧ op ≠ 4 → Raises (.tOrd d a) s 0x08 Status.badRequest.code c.pc)
          ∧ (op ≠ 1 → Raises (.tOwr d a) s 0x08 Status.badRequest.code c.pc)))
    ∧ (CanEnter s → a.val % 2 = 1 ∨ d.val % 2 = 1 → Raises (.tOrd d a) s 0x01 0 c.pc ∧ Raises (.tOwr d a) s 0x01 0 c.pc)
    ∧ (CanEnter s → a.val % 2 = 1 → Raises (.tOsr a) s 0x01 0 c.pc ∧ Raises (.tOsw a) s 0x01 0 c.pc)
    ∧ (a.val % 2 = 0 → c.cnt = 0 → Retires (.tOsr a) s (inSequence c) ∧ Retires (.tOsw a) s (inSequence c))
    ∧ (a.val % 2 = 0 → c.cnt ≠ 0 → c.mst.um = false →
      let left := fun (x : Core) => if n = c.cnt.toNat then inSequence x else x
      let stepped := { c.setReg a.val (c.reg a.val + BitVec.ofNat 32 (256 * n)) with cnt := c.cnt - BitVec.ofNat 32 n }
      (op = 2 → 0x80000000 ≤ c.da.toNat → c.da.toNat + n ≤ 0x80400000 → ∀ u v, orwRequest running .T 0 unit [] = (u, some (.ok, v)) →
        u.tabor = running.tabor → u.mem.ecc = [] → Memory.wf u.mem.sram = true →
        ∃ t, exec (.tOsr a) s = .next t ∧ Only [.pdo, .replies, .mem, .tabor] u t ∧ t.replies = u.replies.set 2 ⟨0, v⟩
          ∧ t.tabor = { s.tabor with core := left { stepped with da := c.da + BitVec.ofNat 32 n }, inString := decide (n ≠ c.cnt.toNat) }
          ∧ ∀ k, t.mem.readByte k = (if c.da.toNat ≤ k + 0x80000000 ∧ k + 0x80000000 < c.da.toNat + min n v.length
              then BitVec.ofNat 8 (nth v (k + 0x80000000 - c.da.toNat) 0) else u.mem.readByte k))
      ∧ (CanEnter s → op = 3 → 0x80000000 ≤ c.sa.toNat → c.sa.toNat + n ≤ 0x80400000 → s.mem.ecc = [] → ∀ u st v, st ≠ .ok →
        orwRequest running .T 0 unit (s.mem.read (c.sa.toNat - 0x80000000) n) = (u, some (st, v)) → u.tabor = running.tabor → faults (.tOsw a) u st [])
      ∧ (CanEnter s → (op ≠ 2 → Raises (.tOsr a) s 0x08 Status.badRequest.code c.pc) ∧ (op ≠ 3 → Raises (.tOsw a) s 0x08 Status.badRequest.code c.pc)))

/-- R359: a kind-5 action without its handler is an action failure. -/
def Obligations.MissingHandlerFails : Prop :=
  ∀ (s : State) (t : Fin 128) (a : Activation) (latency : Nat), Canonical s → Calm s →
    let owner := s.get (0x2500 + t.val) 5 / 256 % 16
    let handler := s.get (0x2500 + t.val) 5 % 256
    s.coreHead = some t.val → (s.sched.task t.val).pending = some a → owner ∈ [1, 2, 3, 4] →
    (s.get (0x280F + owner) 2 ≠ 2 ∨ ∀ x, s.prog owner = some x → x.nHandlers ≤ handler) →
    Does (.eventDispatch t latency) s [.od, .sched] fun u => u.sched = (freeSlot s t.val).sched
      ∧ u.get (0x2500 + t.val) 14 = satNat 32 (s.get (0x2500 + t.val) 14 + 1) ∧ OnlyValues [(0x2500 + t.val, 14)] s u

/-- R323, R358, R362, R363, R364, R370, R376: events, budgets and the programs' commands. -/
def Obligations.EventsAndPrograms : Prop :=
  (∀ (s : State) (t : Fin 128) (a : Activation) (latency : Nat), Canonical s → CoreReady s →
    let c := s.core
    let word := fun (k : Nat) => BitVec.ofNat 32 (fromLE (((a.record t.val).drop (4 * k)).take 4))
    let owner := (s.handlerOf t.val).1
    let handler := (s.handlerOf t.val).2
    s.coreHead = some t.val → (s.sched.task t.val).pending = some a → c.mst.ee = true → c.mst.exl = false → s.tabor.handler = none → c.winb.slot < 8 →
    c.winb.resident < 6 → sparseWf c.regs (fun _ => (0 : Word)) = true →
    (owner = 0 → c.mst.um = false → ∃ c', Does (.eventDispatch t latency) s [.od, .sched, .tabor] (fun u =>
        u.tabor = { s.tabor with core := c', inString := false } ∧ u.sched = (freeSlot s t.val).sched
        ∧ u.get 0x2800 3 = satNat 32 (s.get 0x2800 3 + 1) ∧ u.get 0x2800 5 = min 0xFFFFFFFF (max (s.get 0x2800 5) latency)
        ∧ OnlyValues [(0x2800, 3), (0x2800, 5)] s u)
      ∧ { c' with regs := c.regs } = entered c 0x10 handler c.pc ∧ (∀ k < 4, c'.reg (4 + k) = word k)
      ∧ ∀ q < 32, q < 4 ∨ 8 ≤ q → c'.reg q = (entered c 0x10 handler c.pc).reg q)
    ∧ (∀ x, 1 ≤ owner → owner ≤ 4 → s.prog owner = some x → x.shareSpent = false → s.get (0x280F + owner) 2 = 2 → handler < x.nHandlers → c.mst.um = false →
      Does (.eventDispatch t latency) s [.od, .sched, .tabor] fun u =>
        u.tabor.handler = some (owner, false) ∧ u.sched = (freeSlot s t.val).sched ∧ OnlyValues [(0x2800, 3), (0x2800, 5)] s u
        ∧ u.tabor.core.pc = BitVec.ofNat 32 (x.base + nth x.handlers handler 0) ∧ u.tabor.core.epc = c.pc ∧ u.tabor.core.mpu = x.mpu
        ∧ u.tabor.core.mst.um = true ∧ u.tabor.core.mst.prog = owner ∧ u.tabor.core.mst.ee = false ∧ u.tabor.core.mst.exl = false
        ∧ u.tabor.core.mst.mpuen = true ∧ u.tabor.core.winb.slot = (c.winb.slot + 2) % 8 ∧ u.tabor.core.winb.resident = c.winb.resident + 2
        ∧ ∀ k < 4, u.tabor.core.reg (24 + k) = word k))
  ∧ (∀ (s : State) (t : Fin 128) (latency : Nat), Calm s →
    (s.sched.task t.val).pending = none ∨ s.coreHead ≠ some t.val ∨ (s.handlerOf t.val).1 = 0 ∧ s.tabor.run ≠ .waiting
        ∧ (s.core.mst.ee = false ∨ s.core.mst.exl = true ∨ s.core.lock ≠ none ∨ s.tabor.stepOne = true ∨ s.tabor.handler ≠ none) →
    Does (.eventDispatch t latency) s [] fun u => u.tabor = s.tabor ∧ u.sched = s.sched)
  ∧ (∀ (s : State) (p : Fin 4) (x : Prog), Canonical s → s.prog (p.val + 1) = some x → s.tabor.programs.length = 4 →
    (∀ b, s.tabor.handler = some (p.val + 1, b) → CoreReady s → s.core.mst.um = true → s.core.mst.exl = false → s.core.winb.resident < 7 →
        x.pendingCmd = 0 → x.abandonedRun < 7 → s.get (0x2810 + p.val) 2 = 2 →
      Does (.activationBudgetExpiry p) s [.od, .tabor] fun u =>
        u.tabor = { s.tabor with
          core := entered s.core 0x0C (p.val + 1) s.core.pc, inString := false, handler := none
          programs := s.tabor.programs.set p.val (some { x with abandonedRun := x.abandonedRun + 1 }) }
        ∧ u.get (0x2810 + p.val) 7 = satNat 32 (s.get (0x2810 + p.val) 7 + 1) ∧ u.get 0x2800 3 = satNat 32 (s.get 0x2800 3 + 1)
        ∧ OnlyValues [(0x2810 + p.val, 7), (0x2800, 3)] s u)
    ∧ (∀ b l, s.tabor.handler = some (p.val + 1, b) → CoreFree s → s.core.lock = some l →
      Does (.activationBudgetExpiry p) s [.tabor] fun u => u.tabor = { s.tabor with budgetDue := true })
    ∧ (Calm s → (∀ b, s.tabor.handler ≠ some (p.val + 1, b)) → Does (.activationBudgetExpiry p) s [] fun u => u.tabor = s.tabor)
    ∧ (Calm s → s.get (0x2810 + p.val) 2 = 2 → Does (.frameShareSpent p) s [.tabor] fun u =>
        u.tabor = { s.tabor with programs := s.tabor.programs.set p.val (some { x with shareSpent := true }) })
    ∧ (Calm s → s.get (0x2810 + p.val) 2 ≠ 2 → Does (.frameShareSpent p) s [] fun u => u.tabor = s.tabor)
    ∧ (CoreReady s → s.tabor.handler = some (p.val + 1, false) → s.core.mst.um = true → s.core.mst.prog = p.val + 1 → s.core.mst.exl = false →
        s.core.winb.resident < 7 → x.pendingCmd = 0 → ∀ w, decodeTabor w.toNat = none → ∃ u, exec (.tIllegal w) s = .next u ∧ u.get (0x2810 + p.val) 2 = 4 ∧ u.tabor.handler = none
          ∧ u.get (0x2810 + p.val) 8 = satNat 32 (s.get (0x2810 + p.val) 8 + 1) ∧ u.get (0x2810 + p.val) 9 = 2 ^ 29 + 1
          ∧ u.get (0x2810 + p.val) 10 = s.core.pc.toNat ∧ u.tabor.core = entered s.core 0x01 0 s.core.pc)
    ∧ (Calm s → ∀ q : Port, MayWrite s q (0x2810 + p.val) 1 →
      (s.get (0x2810 + p.val) 2 ≠ 0 → ∀ l, Does (.userProgramLoad q p l) s [.replies] fun u => u.replies = s.replies.set q.code ⟨Status.incompatible.code, []⟩)
      ∧ (s.get (0x2810 + p.val) 2 ∈ [1, 3] → s.coreFree = false → s.handlerRuns (p.val + 1) = false →
        Does (.userProgramStart q p) s [.tabor, .replies] fun u => u.replies = s.replies.set q.code ⟨0, []⟩
          ∧ u.tabor = { s.tabor with programs := s.tabor.programs.set p.val (some { x with pendingCmd := 3, abandonedRun := 0 }) })
      ∧ (s.get (0x2810 + p.val) 2 ∈ [1, 3] → s.coreFree = true → s.core.winb.resident < 7 → s.core.winb.slot < 8 →
        Does (.userProgramStart q p) s [.tabor, .replies] fun u => u.replies = s.replies.set q.code ⟨0, []⟩
          ∧ u.tabor.handler = some (p.val + 1, true) ∧ u.tabor.run = .running ∧ u.tabor.core.pc = BitVec.ofNat 32 (x.base + x.init)
          ∧ u.tabor.core.mst.um = true ∧ u.tabor.core.mst.prog = p.val + 1 ∧ u.tabor.core.mst.ee = false ∧ u.tabor.core.epc = s.core.settle.pc
          ∧ u.tabor.programs = s.tabor.programs.set p.val (some { x with pendingCmd := 0, abandonedRun := 0 }))
      ∧ (s.get (0x2810 + p.val) 2 ∉ [1, 3] ∨ s.handlerRuns (p.val + 1) = true →
        Does (.userProgramStart q p) s [.replies] fun u => u.replies = s.replies.set q.code ⟨Status.incompatible.code, []⟩)
      ∧ (s.get (0x2810 + p.val) 2 ∈ [2, 4] → s.handlerRuns (p.val + 1) = false →
        Does (.userProgramStop q p) s [.od, .replies] fun u => u.replies = s.replies.set q.code ⟨0, []⟩ ∧ u.get (0x2810 + p.val) 2 = 3
          ∧ OnlyValues [(0x2810 + p.val, 2)] s u)
      ∧ (s.get (0x2810 + p.val) 2 ∈ [2, 4] → s.handlerRuns (p.val + 1) = true →
        Does (.userProgramStop q p) s [.tabor, .replies] fun u => u.replies = s.replies.set q.code ⟨0, []⟩
          ∧ u.tabor = { s.tabor with programs := s.tabor.programs.set p.val (some { x with pendingCmd := max 1 x.pendingCmd }) })
      ∧ (s.get (0x2810 + p.val) 2 ∉ [2, 4] →
        Does (.userProgramStop q p) s [.replies] fun u => u.replies = s.replies.set q.code ⟨Status.incompatible.code, []⟩)
      ∧ (s.handlerRuns (p.val + 1) = true →
        Does (.userProgramUnload q p) s [.tabor, .replies] fun u => u.replies = s.replies.set q.code ⟨0, []⟩
          ∧ u.tabor = { s.tabor with programs := s.tabor.programs.set p.val (some { x with pendingCmd := 2 }) })
      ∧ (s.handlerRuns (p.val + 1) = false → (∀ n ∈ s.openRings, (s.sched.ring n).owner ≠ p.val + 1) →
        Does (.userProgramUnload q p) s [.od, .mem, .tabor, .replies] fun u => u.replies = s.replies.set q.code ⟨0, []⟩
          ∧ u.tabor = { s.tabor with programs := s.tabor.programs.set p.val none } ∧ u.get (0x2810 + p.val) 2 = 0 ∧ u.get (0x2810 + p.val) 6 = 0
          ∧ OnlyValues [(0x2810 + p.val, 2), (0x2810 + p.val, 6)] s u ∧ u.mem = (unmapProgram s x).mem)))
  ∧ (∀ (s : State) (p : Fin 4) (q : Port) (l : List Nat), Canonical s → Calm s → MayWrite s q (0x2810 + p.val) 1 → s.get (0x2810 + p.val) 2 = 0 →
      s.tabor.programs.length = 4 → verifyBlocks s (p.val + 2) (s.targetBank (p.val + 2)) l = 0 →
      (∀ im, parseProgram (s.targetBank (p.val + 2)).content = some im →
        let pages := pagesOf im.code.length + pagesOf (im.data.length + im.bss) + pagesOf im.spill
        let page := Config.programPage (p.val + 1) % 0xC000
        (s.freeArena.length < pages ∨ 262144 < s.codeLoaded + im.code.length ∨ (∃ k < pages, s.pteAddr (page + k) = none) →
          Does (.userProgramLoad q p l) s [.replies] fun u => u.replies = s.replies.set q.code ⟨Status.incompatible.code, []⟩)
        ∧ (pages ≤ s.freeArena.length → s.codeLoaded + im.code.length ≤ 262144 → im.shared = [] → (∀ k < pages, s.pteAddr (page + k) ≠ none) →
          Does (.userProgramLoad q p l) s [.od, .mem, .tabor, .replies] fun u => u.replies = s.replies.set q.code ⟨0, []⟩
            ∧ u.get (0x2810 + p.val) 2 = 1 ∧ u.get (0x2810 + p.val) 6 = im.code.length ∧ OnlyValues [(0x2810 + p.val, 2), (0x2810 + p.val, 6)] s u
            ∧ ∃ x, u.prog (p.val + 1) = some x ∧ x.handlers = im.handlers ∧ x.nHandlers = im.handlers.length ∧ x.init = im.init ∧ x.bindings = im.bindings
              ∧ x.frames = s.freeArena.take pages ∧ x.shareSpent = false ∧ x.pendingCmd = 0 ∧ u.tabor.core = s.core)))

/-- R366: a forced halt. -/
def Obligations.ForcedHaltBreaksLock : Prop :=
  ∀ s : State, Canonical s → s.power.vaonValid = true → s.test.tap.drives = false → s.lbistHalted = false → s.test.access = .full →
    let c := s.core
    (∀ l, CoreFree s → c.lock = some l →
      Brings .forcedHalt s [.od, .tdo, .mem, .tabor, .test] fun u =>
        u.mem = (undoMarks s l.marks).mem ∧ u.tabor.core = { c with
          regs := l.snap.regs, flg := l.snap.flg, rc := l.snap.rc, pc := l.pc, lock := none
          cst := { c.cst with lockBrk := true, halted := true, deferred := false, hcause := 2, wphit := 0, bphit := 0, user := c.mst.um } }
        ∧ u.tabor.run = .halted ∧ u.get 0x2802 1 = satNat 32 (s.get 0x2802 1 + 1) ∧ OnlyValues [(0x2802, 1)] s u)
    ∧ (c.lock = none → ∃ u w, exec .forcedHalt s = .next (immediates (settleAll u)) ∧ exec .haltRequest s = .next (immediates (settleAll w)) ∧ Only [.tdo] u w)
    ∧ (s.tabor.run = .halted → Brings .resume s [.tdo, .tabor, .test] fun u =>
        u.tabor = { s.tabor with
          core := { c with cst := { c.cst with lockBrk := false, halted := false, deferred := false } }
          run := if s.up then .running else .boot, stepOne := false })

/-- R365, R367, R368, R369, R715, R719: halting, stepping, and what the debug port reads and writes of the halted core. -/
def Obligations.DebugAccess : Prop :=
  ∀ s : State, Canonical s → s.power.vaonValid = true → s.test.tap.drives = false → s.lbistHalted = false →
    let c := s.core
    let d := s.test.dap
    let test := fun (x : Dap) => ({ s.test with tap := .dap, dap := x } : Test)
    let out := fun (r x : Nat) => 2 ^ 32 * r + x
    (s.test.access ≠ .full → ∀ i ∈ [Instr.haltRequest, .forcedHalt, .resume, .step, .debugMemoryAccess none],
      Brings i s [.tdo, .test] fun u => u.test = test { d with denied := true } ∧ u.tdo % 2 ^ 32 = 0)
    ∧ (s.test.access = .full →
      (CoreReady s → Brings .haltRequest s [.tdo, .tabor, .test] fun u => u.test = test { d with denied := false } ∧
        u.tabor = { s.tabor with
          core := { c with cst := { c.cst with lockBrk := false, halted := true, deferred := false, hcause := 1, wphit := 0, bphit := 0, user := c.mst.um } }
          run := .halted, inString := false, tollHeld := true })
      ∧ (CoreFree s → c.lock ≠ none → Brings .haltRequest s [.tdo, .tabor, .test] fun u => u.tabor = { s.tabor with haltDue := true })
      ∧ (s.tabor.run = .halted → Brings .step s [.tdo, .tabor, .test] fun u =>
          u.tabor = { s.tabor with
            core := { c with cst := { c.cst with lockBrk := false, halted := false, deferred := false } }
            run := if s.up then .running else .boot, stepOne := true })
      ∧ (s.tabor.run ≠ .halted →
          Brings .resume s [.tdo, .test] (fun u => u.tabor = s.tabor) ∧ Brings .step s [.tdo, .test] (fun u => u.tabor = s.tabor)
          ∧ (∀ r, Brings (.debugRegisterAccess r none) s [.tdo, .test] fun u => u.test.dap.denied = true ∧ u.tdo = out 0x0B 0)
          ∧ (∀ r v, Brings (.debugRegisterAccess r (some v)) s [.tdo, .test] fun u => u.test.dap.denied = true)
          ∧ (∀ w, Brings (.debugMemoryAccess w) s [.tdo, .test] fun u => u.test.dap.denied = true ∧ u.test.dap.memAddr = d.memAddr))
      ∧ (s.tabor.run = .halted →
          (∀ r < 32, Brings (.debugRegisterAccess r none) s [.tdo, .test] (fun u => u.tdo = out 0x0B (c.reg r).toNat ∧ u.test.dap.denied = false)
            ∧ ∀ v, Brings (.debugRegisterAccess r (some v)) s [.tdo, .tabor, .test] fun u => u.tabor = { s.tabor with core := c.setReg r v })
          ∧ (∀ n ≤ 16, Brings (.debugRegisterAccess (32 + n) none) s [.tdo, .test] fun u => u.tdo = out 0x0B (c.special c.cstWord n).toNat)
          ∧ (∀ v, Brings (.debugRegisterAccess 34 (some v)) s [.tdo, .tabor, .test] (fun u => u.tabor.core.special 0 2 = v)
              ∧ Brings (.debugRegisterAccess 44 (some v)) s [.tdo, .tabor, .test] (fun u => u.tabor.core = { c with epc := v })
              ∧ Brings (.debugRegisterAccess 32 (some v)) s [.tdo, .tabor, .test] fun u => u.tabor = s.tabor)
          ∧ (0x80000000 ≤ d.memAddr → d.memAddr + 4 ≤ 0x80400000 → s.mem.ecc = [] →
              Brings (.debugMemoryAccess none) s [.tdo, .test] (fun u => u.tdo = out 0x0D (fromLE (s.mem.read (d.memAddr - 0x80000000) 4))
                ∧ u.test = test { d with memAddr := d.memAddr + 4, denied := false })
              ∧ ∀ v, Brings (.debugMemoryAccess (some v)) s [.tdo, .mem, .test] fun u => u.mem = s.mem.store (d.memAddr - 0x80000000) (toLE 4 v.toNat)
                ∧ u.test = test { d with memAddr := d.memAddr + 4, denied := false })
          ∧ (d.memAddr < 0x10000000 → s.debugFrame (d.memAddr / 4096) = none →
              Brings (.debugMemoryAccess none) s [.tdo, .test] fun u => u.test = test { d with denied := true } ∧ u.tdo = out 0x0D 0)))
    ∧ (s.test.access ≠ .locked → d.busy = false →
      let i := d.orw / 2 ^ 40 % 65536
      let n := d.orw / 2 ^ 32 % 256
      (d.orw < 2 ^ 64 → d.orw / 2 ^ 60 % 8 = 0 → d.orw % 2 ^ 32 = 0 → i < 0x4A00 → MayRead s .D i n → segment i n = false → ¬(0x2400 ≤ i ∧ i ≤ 0x24FF ∧ n = 9) →
          (rcLatch i n = false ∨ d.orw / 2 ^ 63 % 2 = 1) → sizeOf i n ≤ 8 →
        Brings .debugObjectRequest s [.tdo, .replies, .test] fun u => u.replies = s.replies.set 3 ⟨0, toLE (sizeOf i n) (s.valueAt .D i n)⟩
          ∧ u.test.dap.done = true ∧ u.test.dap.busy = false ∧ u.test.dap.status = 0
          ∧ u.test.dap.data = (if sizeOf i n = 0 then d.data else fromLE (toLE (sizeOf i n) (s.valueAt .D i n))))
      ∧ (d.orw < 2 ^ 64 → d.orw / 2 ^ 60 % 8 = 3 →
        Brings .debugObjectRequest s [.tdo, .test] fun u => u.test = test { d with done := false, seg := [], segPos := 0, denied := false })
      ∧ Brings (.debugSegmentData none) s [.tdo, .test] (fun u => u.tdo = out 6 (fromLE ((d.seg.drop d.segPos).take 4))
          ∧ u.test = test { d with segPos := d.segPos + 4, denied := false })
      ∧ (∀ v, d.orw / 2 ^ 60 % 8 = 3 → d.done = false → d.seg.length + 4 < (if d.orw % 256 = 0 then 256 else d.orw % 256) →
        Brings (.debugSegmentData (some v)) s [.tdo, .test] fun u =>
          u.test = test { d with seg := d.seg ++ toLE 4 v.toNat, segPos := d.segPos + 4, denied := false })
      ∧ (∀ v, d.collecting = false → Brings (.debugSegmentData (some v)) s [.tdo, .test] fun u => u.test = test { d with denied := false }))
    ∧ (let r := ({ s with tabor := { s.tabor with stepOne := false } } : State)
       CoreReady r → s.tabor.stepOne = true → fetchWord s = (s, true) →
        Does .tNop s [.tabor] fun t => t.tabor.run = .halted ∧ t.tabor.core = { inSequence c with
          cst := { c.cst with lockBrk := false, halted := true, deferred := false, hcause := 5, wphit := 0, bphit := 0, user := c.mst.um } })

/-- R404, R406, R415, R417 to R421, R425, R434: burst results and telemetry outputs. -/
def Obligations.BurstsAndTelemetry : Prop :=
  (∀ (s : State) (pos : Fin 16) (channel : Nat) (codes : List Nat) (nco : List (Int × Int)) (ovr : Bool), Canonical s →
    (nth s.sense.map pos.val none = none ∨ s.touchRuns = false ∨ s.electrodeTest = true ∨ channel % 16 ≠ pos.val ∨ s.burstDue channel = false →
      Does (.burstEnd pos channel codes nco ovr) s [] fun t => t.touch = s.touch)
    ∧ (∀ k sl, nth s.sense.map pos.val none = some k → s.sense.slices[k]? = some sl → s.touchRuns = true → s.electrodeTest = false →
        channel % 16 = pos.val → s.burstDue channel = true →
      let b := (s.lane pos.val).activeB
      let l := codes.map (· % 16384)
      let r := burst (s.bank pos.val b) (s.coefficients pos.val b) (s.inForce 0x3000 3) sl.o sl.g channel l
        (nco.map fun e => (max (-32767) (min 32767 e.1), max (-32767) (min 32767 e.2))) (ovr && l.any fun x => x == 0 || x == 16383)
      (s.beat.phase = .listen →
        Does (.burstEnd pos channel codes nco ovr) s [.od, .touch] fun t => t.touch = { s.touch with listen := s.touch.listen ++ [r.1] }
          ∧ t.get (0x3100 + pos.val) 8 = s.get (0x3100 + pos.val) 8 ||| r.2
          ∧ t.get (0x3100 + pos.val) 9 = (if r.2 = 0 then s.get (0x3100 + pos.val) 9 else satNat 32 (s.get (0x3100 + pos.val) 9 + 1))
          ∧ OnlyValues [(0x3100 + pos.val, 8), (0x3100 + pos.val, 9)] s t)
      ∧ (s.beat.phase = .scan →
        Does (.burstEnd pos channel codes nco ovr) s [.od, .draws, .beat, .log, .can, .link, .mem, .sched, .touch] fun t =>
          t.touch.image = s.touch.image ++ [r.1] ∧ t.get (0x3100 + pos.val) 8 = s.get (0x3100 + pos.val) 8 ||| r.2)))
  ∧ (∀ (p : BankParams) coef settle o g channel codes nco ovr,
      let r := (burst p coef settle o g channel codes nco ovr).1
      let flags := (burst p coef settle o g channel codes nco ovr).2
      r.channel = channel ∧ -(2 ^ 23) ≤ r.i ∧ r.i < 2 ^ 23 ∧ -(2 ^ 23) ≤ r.q ∧ r.q < 2 ^ 23
      ∧ (bit r.flags 6 = true ↔ flags ≠ 0) ∧ bit r.flags 5 = ovr
      ∧ (codes.length ≤ settle → r.i = 0 ∧ r.q = 0 ∧ bit r.flags 4 = true)
      ∧ (bit flags 3 = true ↔ ∃ c ∈ codes, touchCorrect o g c < -32768 ∨ 32767 < touchCorrect o g c))
  ∧ (∀ (o : Int) (g c : Nat), touchCorrect o g c = ((4 * ((c : Int) - 8192) - o) * g + 8192) / 16384)
  ∧ (∀ trim c : Nat, hkCorrect trim c = ((8 * (c : Int) - toSigned 16 (trim % 65536)) * (trim / 65536 % 65536 : Nat) + 8192) / 16384)
  ∧ (∀ (s : State) (codes : List Nat), Canonical s →
    let l := s.lane 23
    let p := s.bank 23 l.activeB
    let raw := codes.map fun c => hkCorrect (s.get 0x3010 3) (c % 4096)
    let xs := raw.map (satSigned 16)
    let corr := raw.any (limited 16)
    let old := telemetryPath s 23 l.activeB (nth l.filt 2 Filt.reset) xs corr
    let new := telemetryPath s 23 (!l.activeB) (nth l.filtNew 2 Filt.reset) xs corr
    let gives := fun (y : Int) (flags : Nat) (l' : Lane) => Does (.telemetryOutput 58 codes) s [.od, .sense] fun t =>
      t.get 0x3120 59 = 2 ^ 31 + 2 ^ 30 * b2n (s.flag 0x3000 10 2) + 2 ^ 29 * b2n (decide (flags ≠ 0)) + ofSigned 24 y
      ∧ t.get 0x3117 8 = s.get 0x3117 8 ||| flags ∧ OnlyValues [(0x3120, 59), (0x3117, 8), (0x3117, 9)] s t
      ∧ t.sense = { s.sense with lanes := s.sense.lanes.set 23 l' }
    (s.sense.hkRunning = false ∨ s.beat.stoppedB = true ∨ s.clocks.pllB = false ∨ 58 ∉ s.hkScanned ∨ codes.length ≠ p.d * p.m →
      Does (.telemetryOutput 58 codes) s [] fun t => t.sense = s.sense)
    ∧ (s.sense.hkRunning = true → s.beat.stoppedB = false → s.clocks.pllB = true → 58 ∈ s.hkScanned → codes.length = p.d * p.m →
      (l.switching = false → gives old.2.1 old.2.2 { l with filt := l.filt.set 2 old.1 })
      ∧ (l.switching = true → nth l.fades 2 .none = .none →
          gives old.2.1 old.2.2 { l with
            filt := l.filt.set 2 old.1, filtNew := l.filtNew.set 2 Filt.reset, fades := l.fades.set 2 (.warming (s.bank 23 (!l.activeB)).warmUp) })
      ∧ (∀ k, l.switching = true → nth l.fades 2 .none = .warming (k + 2) →
          gives old.2.1 (old.2.2 ||| new.2.2) { l with filt := l.filt.set 2 old.1, filtNew := l.filtNew.set 2 new.1, fades := l.fades.set 2 (.warming (k + 1)) })
      ∧ (∀ k, l.switching = true → nth l.fades 2 .none = .fading k → k < s.get 0x3117 10 →
          gives (old.2.1 + divRound ((new.2.1 - old.2.1) * k) (s.get 0x3117 10)) (old.2.2 ||| new.2.2)
            { l with filt := l.filt.set 2 old.1, filtNew := l.filtNew.set 2 new.1, fades := l.fades.set 2 (.fading (k + 1)) })))

/-- R407, R410, R422 to R426, R436, R437, R439: bank switches, library loads, and the touch bank's power-up. -/
def Obligations.BanksAndCalibration : Prop :=
  (∀ (s : State) (p : Port) (n : Fin 16), MayWrite s p (0x3100 + n.val) 5 →
    ((s.lane n.val).busy = true → Does (.touchBankSwitch p n) s [.replies] fun t => t.replies = s.replies.set p.code ⟨Status.busy.code, []⟩)
    ∧ ((s.lane n.val).busy = false → Does (.touchBankSwitch p n) s [.sense, .replies] fun t =>
        t.sense = { s.sense with lanes := s.sense.lanes.set n.val { s.lane n.val with pending := true } } ∧ t.replies = s.replies.set p.code ⟨0, []⟩))
  ∧ (∀ (s : State) (p : Port) (n : Fin 8), MayWrite s p (0x3110 + n.val) 5 →
    let l := s.lane (16 + n.val)
    let a := s.bank (16 + n.val) l.activeB
    let b := s.bank (16 + n.val) (!l.activeB)
    (l.busy = true → Does (.telemetryBankSwitch p n) s [.replies] fun t => t.replies = s.replies.set p.code ⟨Status.busy.code, []⟩)
    ∧ (l.busy = false → (a.d * a.m ≠ b.d * b.m ∨ ∃ h ∈ s.laneInputs (16 + n.val), s.hkValid h = false) →
        Does (.telemetryBankSwitch p n) s [.replies] fun t => t.replies = s.replies.set p.code ⟨Status.incompatible.code, []⟩)
    ∧ (l.busy = false → a.d * a.m = b.d * b.m → (∀ h ∈ s.laneInputs (16 + n.val), s.hkValid h = true) →
        Does (.telemetryBankSwitch p n) s [.sense, .replies] fun t =>
          t.sense = { s.sense with lanes := s.sense.lanes.set (16 + n.val) { l with switching := true, fades := List.replicate 8 .none } }
          ∧ t.replies = s.replies.set p.code ⟨0, []⟩))
  ∧ (∀ (s : State) (p : Port) (n : Fin 24), MayWrite s p (0x3100 + n.val) 5 →
    let l := s.lane n.val
    let w := s.setLane n.val { l with loading := true }
    (l.busy = true → Does (.loadLibraryRecord p n) s [.replies] fun t => t.replies = s.replies.set p.code ⟨Status.busy.code, []⟩)
    ∧ (∀ t r, l.busy = false → readRecord w n.val = (t, r) →
      ∃ u, exec (.loadLibraryRecord p n) s = .next u ∧ u.replies = t.replies.set p.code ⟨0, []⟩
        ∧ ((∀ x, r = .bytes x → Only [.pdo, .replies] t u) ∧ (r = .waits → Only [.pdo, .replies] t u) ∧ (r = .refused → Only [.pdo, .replies, .od, .sense] t u))))
  ∧ (∀ (s : State) (n : Fin 24), Canonical s → n.val < s.sense.lanes.length →
    ((s.lane n.val).loading = false → Does (.libraryLoadComplete n) s [] fun t => t.sense = s.sense)
    ∧ (∀ t l, (s.lane n.val).loading = true → readRecord s n.val = (t, .bytes l) → Canonical t → t.sense = s.sense →
      let b := !(s.lane n.val).activeB
      let ended := { s.sense with lanes := s.sense.lanes.set n.val { s.lane n.val with loading := false } }
      (crc32 (l.take 156) ≠ fromLE (l.drop 156) → ∃ u, exec (.libraryLoadComplete n) s = .next u ∧ u.sense = ended ∧ u.get (0x3100 + n.val) 12 = 3
        ∧ ∀ k, k ∈ [1, 2, 3, 4] → u.get (0x3100 + n.val) k = t.get (0x3100 + n.val) k)
      ∧ (crc32 (l.take 156) = fromLE (l.drop 156) → bankParamsOk (decide (16 ≤ n.val)) (fromLE (l.take 8)) = false →
        ∃ u, exec (.libraryLoadComplete n) s = .next u ∧ u.sense = ended ∧ u.get (0x3100 + n.val) 12 = 4
          ∧ ∀ k, k ∈ [1, 2, 3, 4] → u.get (0x3100 + n.val) k = t.get (0x3100 + n.val) k)
      ∧ (crc32 (l.take 156) = fromLE (l.drop 156) → bankParamsOk (decide (16 ≤ n.val)) (fromLE (l.take 8)) = true →
        ∃ u, exec (.libraryLoadComplete n) s = .next u ∧ Only [.pdo, .od, .sense] t u ∧ u.sense = ended ∧ u.get (0x3100 + n.val) 12 = 1
          ∧ u.get (0x3100 + n.val) (if b then 2 else 1) = fromLE (l.take 8) ∧ u.get (0x3100 + n.val) (if b then 4 else 3) = fromLE ((l.drop 8).take 144)
          ∧ OnlyValues [(0x3100 + n.val, 12), (0x3100 + n.val, if b then 2 else 1), (0x3100 + n.val, if b then 4 else 3)] t u)))
  ∧ (∀ s : State,
    (s.up = true → s.touchState = true → s.sense.power = .off → s.clocks.pllB = true → s.test.degraded % 32 = 0 →
      Does .touchBankPowerUp s [.sense] fun t => t.sense = { s.sense with power := .calibrating })
    ∧ (s.up = false ∨ s.touchState = false ∨ s.sense.power ≠ .off ∨ s.clocks.pllB = false ∨ s.test.degraded % 32 ≠ 0 →
      Does .touchBankPowerUp s [] fun t => t.sense = s.sense)
    ∧ (∀ est, s.sense.power ≠ .calibrating → Does (.touchCalibrationComplete est) s [] fun t => t.sense = s.sense)
    ∧ (∀ est, s.sense.power = .calibrating → (∀ k < 17, ∃ e, est[k]? = some e ∧ e.1.steady e.2 = true) →
      Does (.touchCalibrationComplete est) s [.sense] fun t => t.sense.power = .calibrated ∧ t.sense.map = s.sense.map ∧ t.sense.out = s.sense.out
        ∧ t.sense.next = s.sense.next ∧ t.sense.framesOut = s.sense.framesOut ∧ t.sense.lanes = s.sense.lanes
        ∧ ∀ k sl e, s.sense.slices[k]? = some sl → sl.state ≠ .failed → k < 17 → est[k]? = some e →
          t.sense.slices[k]? = some { sl with residual := e.2.residual, o := satSigned 16 e.2.o, g := e.2.g % 65536 })
    ∧ (∀ b a : SliceEst, b.steady a = true ↔ a.residual ≤ 64 ∧ (a.o - b.o).natAbs ≤ 1 ∧ ((a.g : Int) - b.g).natAbs ≤ 2)
    ∧ (∀ est k, Canonical s → s.sense.power = .calibrating → s.sense.out = some k → k < 17 → s.sense.slices.length = 17 →
        (nth s.sense.slices k ⟨.failed, 0, 0, 0, 0⟩).state ≠ .failed → some k ∉ s.sense.map → (∀ j < 17, (est[j]?).any (fun e => e.1.steady e.2) = decide (j ≠ k)) →
      Does (.touchCalibrationComplete est) s [.od, .log, .can, .link, .sched, .sense] fun t => t.sense.out = none ∧ t.sense.map = s.sense.map
        ∧ (∃ sl, t.sense.slices[k]? = some sl ∧ sl.state = .failed) ∧ t.flag 0x3000 10 1 = true))

/-- R445, R447, R454, R456, R458 to R460, R464, R465, R472, R473: the commands of the touch surface and their completion. -/
def Obligations.TouchCommands : Prop :=
  ∀ s : State, Canonical s →
    (∀ p, MayWrite s p 0x3202 1 →
      (s.profilesOk = true → Does (.applyProfiles p) s [.replies, .touch] fun t =>
        t.touch = { s.touch with applySet := some s.stagedProfiles } ∧ t.replies = s.replies.set p.code ⟨0, []⟩)
      ∧ (s.profilesOk = false → Does (.applyProfiles p) s [.replies] fun t => t.replies = s.replies.set p.code ⟨Status.incompatible.code, []⟩))
    ∧ (∀ p, MayWrite s p 0x3222 9 → Does (.captureReferenceBaselines p) s [.replies, .touch] fun t =>
        t.touch = { s.touch with capture := true } ∧ t.replies = s.replies.set p.code ⟨0, []⟩)
    ∧ (∀ l h p, s.profile = some p → s.touchRuns = true → s.electrodeTest = false → s.beat.stoppedC = false → s.beat.phase = .process →
        s.beat.processDone = false → s.beat.scanDone = true → s.touch.imageFault = false → s.flag 0x3202 6 7 = false →
      ((baselineAccess s).2 = true →
        Does (.processFrame l h) s [.od, .draws, .replies, .aocb, .beat, .store, .log, .can, .link, .mem, .sched, .tabor, .sense, .touch, .reg, .seq, .update, .test]
          fun t => t.beat = { s.beat with processDone := true } ∧ t.touch.overruns = 0 ∧ t.touch.ending = []
            ∧ ∃ head recs, t.touch.report = some (head :: recs) ∧ head.length = 16 ∧ recs.length ≤ 20
              ∧ head.take 10 = [0x10, recs.length] ++ toLE 2 s.touch.seq ++ toLE 6 (s.get 0x2101 1)
              ∧ ∀ r ∈ recs, r.length = 16 ∧ r.head? = some 0x11)
      ∧ ((baselineAccess s).2 = false →
        Does (.processFrame l h) s [.od, .draws, .log, .can, .link, .mem, .sched, .beat, .touch] fun t =>
          t.touch = { s.touch with imageFault := true } ∧ t.beat = { s.beat with imageMissing := true }))
    ∧ (∀ l h, s.profile = none ∨ s.touchRuns = false ∨ s.electrodeTest = true ∨ s.beat.stoppedC = true ∨ s.beat.phase ≠ .process
          ∨ s.beat.processDone = true ∨ s.beat.scanDone = false ∨ s.touch.imageFault = true ∨ s.flag 0x3202 6 7 = true →
      Does (.processFrame l h) s [] fun t => t.touch = s.touch)
    ∧ (s.get 0x3210 8 ≠ 0 →
      (∀ id, (∃ t ∈ s.touch.tracks, t.id = id) → Does (.contactStuckTimeout false id) s [.touch] fun t =>
        t.touch = { s.touch with stuckTracks := s.touch.stuckTracks ++ [id] })
      ∧ (∀ id q, s.touch.palms[id]? = some q → Does (.contactStuckTimeout true id) s [.touch] fun t =>
        t.touch = { s.touch with stuckPalms := s.touch.stuckPalms ++ [q] }))
    ∧ (∀ palm id, s.get 0x3210 8 = 0 → Does (.contactStuckTimeout palm id) s [] fun t => t.touch = s.touch)
    ∧ (∀ b : Fin 8,
      (s.up = true → s.pressed b.val = true → s.get 0x3221 6 ≠ 0 → Does (.buttonStuckTimeout b) s [.od, .sched, .touch] fun t =>
        t.get 0x3221 1 = clearBit (s.get 0x3221 1) b.val ∧ t.get 0x3221 2 = setBit (s.get 0x3221 2) b.val
        ∧ t.touch = { s.touch with buttons := s.touch.buttons.modify b.val fun _ => ⟨0, 0, true⟩ })
      ∧ (s.pressed b.val = false ∨ s.get 0x3221 6 = 0 → Does (.buttonStuckTimeout b) s [] fun t => t.touch = s.touch)
      ∧ (∀ p, s.profile = some p → s.up = true → s.flag 0x3221 4 b.val = false → bit (s.buttonWord b.val) 0 = true →
          s.drifted p (s.get 0x3203 12) b.val = true →
        Does (.buttonDrift b) s [.od, .log, .can, .link, .sched] fun t => t.get 0x3221 4 = setBit (s.get 0x3221 4) b.val
          ∧ t.get 0x3221 1 = s.get 0x3221 1)
      ∧ (s.get 0x3222 (b.val + 1) = 0 → Does (.buttonDrift b) s [] fun t => t.get 0x3221 4 = s.get 0x3221 4))
    ∧ ((∀ t ∈ s.touch.tracks, s.threshold 1 ≤ t.at_.peak) → Does .gloveModeEnd s [.touch] fun t => t.touch = { s.touch with gloveMode := false, gloveRun := 0 })
    ∧ ((∃ t ∈ s.touch.tracks, t.at_.peak < s.threshold 1) → Does .gloveModeEnd s [] fun t => t.touch = s.touch)
    ∧ (s.get 0x3241 1 = 1 → Does .prearmHoldExpiry s [.od, .link, .sched, .touch, .reg] fun t =>
        t.get 0x3241 1 = (if s.get 0x3240 5 = 0 then 0 else 3) ∧ t.get 0x3241 6 = 1 ∧ t.get 0x3241 4 = satNat 32 (s.get 0x3241 4 + 1)
        ∧ t.touch = { s.touch with acted := [] } ∧ (∀ n, (t.rail n).vset = (s.rail n).vset)
        ∧ ∀ e ∈ s.touch.acted, e.1 < 16 → bit (s.get 0x3241 2) e.1 = true → bit (t.get 0x3241 2) e.1 = false ∧ bit (t.get 0x3241 2) (16 + e.1) = true)
    ∧ (s.get 0x3241 1 ≠ 1 → Does .prearmHoldExpiry s [] fun t => t.get 0x3241 1 = s.get 0x3241 1)
    ∧ (s.get 0x3241 1 = 3 → Does .prearmHoldoffExpiry s [.od] fun t => t.get 0x3241 1 = 0 ∧ OnlyValues [(0x3241, 1)] s t)
    ∧ (s.get 0x3241 1 ≠ 3 → Does .prearmHoldoffExpiry s [] fun t => t.get 0x3241 1 = s.get 0x3241 1)

/-- R443 to R445, R451, R457, R458: what PROCESS computes. -/
def Obligations.ContactEngineRules : Prop :=
  (∀ S ∈ [4, 8, 16, 32, 64, 128], ∀ r q, r < S → q < S →
    ((List.range S).map fun k => hadamard k r * hadamard k q).sum = if r = q then (S : Int) else 0)
  ∧ (∀ rows, rows ≤ 128 → rows ≤ codedSteps rows ∧ codedSteps rows ∈ [4, 8, 16, 32, 64, 128] ∧ (4 < codedSteps rows → codedSteps rows < 2 * rows))
  ∧ (∀ (s : State) rises i b sig, -32768 ≤ delta s rises i b sig ∧ delta s rises i b sig ≤ 32767
    ∧ (0 < b → (delta s false i b sig < 0 ↔ 1025 * b ≤ 1024 * sig))
    ∧ (0 < b → b ≤ sig → 1024 * (sig - b) / b < 32768 → delta s true i b sig = (1024 * (sig - b) / b : Nat)))
  ∧ (∀ s : State, s.profilesOk = true →
    (∀ p, p < 2 → (s.stagedScan p).first + (s.stagedScan p).rows * (s.stagedScan p).gang ≤ 128
      ∧ (0 < s.fMin → (s.stagedScan p).timeUs s.fMin ≤ s.scanUs))
    ∧ ∀ i j, i < j → j < 8 → bits (s.get 0x3233 (i + 1)) 24 8 < bits (s.get 0x3233 (j + 1)) 24 8
      ∧ bits (s.get 0x3233 (j + 1)) 0 24 < bits (s.get 0x3233 (i + 1)) 0 24)
  ∧ (∀ (s : State) p h k neg d (m : Meas), sparseSortedFrom none s.touch.bases = true →
    let b := (s.base p h m.no).b
    let t := trackBase s p h k neg d m
    (m.inside = true → t = s)
    ∧ (m.inside = false → d.natAbs ≤ s.get 0x3210 4 → (b ≤ m.sig → b ≤ (t.base p h m.no).b ∧ (t.base p h m.no).b ≤ m.sig)
      ∧ (m.sig ≤ b → m.sig ≤ (t.base p h m.no).b ∧ (t.base p h m.no).b ≤ b))
    ∧ (m.inside = false → (s.get 0x3210 4 : Int) < d → (t.base p h m.no).b = b ∧ (t.base p h m.no).neg = 0))
  ∧ (∀ (s : State) p hvMinMv hvMaxMv, s.touch.tracks.length ≤ 20 → (s.touch.tracks.map (·.id)).Nodup →
    let t := processFrame s p hvMinMv hvMaxMv
    t.touch.tracks.length ≤ 20 ∧ (t.touch.tracks.map (·.id)).Nodup)

/-- R493, R495, R496, R498 to R504, R506, R507: commands to rails, the setpoint's steps, the loop and the PWM periods. -/
def Obligations.RailsAndPhases : Prop :=
  ∀ s : State, Canonical s → s.reg.rails.length = 16 → s.reg.phases.length = 16 → s.reg.sups.length = 16 →
    (∀ p (n : Fin 16) mv, MayWrite s p (railObj n.val) 2 →
      let r := s.rail n.val
      (mv = 0 ∨ targetInRange (s.scaling n.val) mv = false → Does (.targetVoltageWrite p n mv) s [.replies] fun t => t.replies = s.replies.set p.code ⟨Status.range.code, []⟩)
      ∧ (mv ≠ 0 → targetInRange (s.scaling n.val) mv = true →
        (r.enabled = false → Does (.targetVoltageWrite p n mv) s [.replies] fun t => t.replies = s.replies.set p.code ⟨Status.incompatible.code, []⟩)
        ∧ (r.enabled = true → r.seqOwned = true ∨ s.flag 0x3241 2 n.val = true →
          Does (.targetVoltageWrite p n mv) s [.replies] fun t => t.replies = s.replies.set p.code ⟨Status.live.code, []⟩)
        ∧ (r.enabled = true → r.seqOwned = false → s.flag 0x3241 2 n.val = false →
          Does (.targetVoltageWrite p n mv) s [.od, .reg, .replies] fun t => t.get (railObj n.val) 2 = mv ∧ (t.rail n.val).target = mv
            ∧ (t.rail n.val).vset = r.vset ∧ (r.vset ≠ 100 * mv → (t.rail n.val).slewing = true) ∧ (t.sup n.val).transition = true
            ∧ t.get (railObj n.val) 16 = (if r.slewing then satNat 32 (s.get (railObj n.val) 16 + 1) else s.get (railObj n.val) 16)
            ∧ (∀ m, m ≠ n.val → t.rail m = s.rail m) ∧ t.replies = s.replies.set p.code ⟨0, []⟩)))
    ∧ Does .setpointStep s [.od, .reg] (fun t => t.reg.sups = s.reg.sups ∧ ∀ n, n < 16 →
        let r := s.rail n
        let r' := t.rail n
        (r.slewing = false ∨ r.enabled = false →
          r' = { r with free := r'.free, adjust := r'.adjust, adjusted := r'.adjusted, carry := r'.carry } ∧ (s.refKind n ≠ 2 → r' = r))
        ∧ (r.slewing = true → r.enabled = true →
          r'.vset = (if r.vset < 100 * r.target then min (r.vset + s.slewStep n) (100 * r.target) else max (r.vset - s.slewStep n) (100 * r.target))
          ∧ r'.started = true
          ∧ (r'.vset ≠ 100 * r.target → r'.slewing = true)
          ∧ (r'.vset = 100 * r.target → r.disabling = false → r.closing = false → r'.slewing = false ∧ r'.enabled = true
              ∧ t.get (railObj n) 12 = (r'.vset + 50) / 100 ∧ t.get (railObj n) 17 = satNat 32 (s.get (railObj n) 17 + 1))
          ∧ (r'.vset = 100 * r.target → r.disabling = true → r.closing = false → (∀ q ∈ s.phaseList n, (s.phase q).driven = false) → r'.enabled = false)))
    ∧ (∀ (n : Fin 16) v l,
      ((s.rail n.val).enabled = false ∨ (s.rail n.val).started = false ∨ s.monitor n.val = true ∨ s.clocks.pllD = false →
        Does (.loopSample n v l) s [] fun t => t.reg = s.reg)
      ∧ ((s.rail n.val).enabled = true → (s.rail n.val).started = true → s.monitor n.val = false → s.clocks.pllD = true →
        Does (.loopSample n v l) s [.od, .reg] fun t => (t.rail n.val).vset = (s.rail n.val).vset
          ∧ -256 ≤ (t.rail n.val).ePrev ∧ (t.rail n.val).ePrev ≤ 256
          ∧ dutyMin (max 1 (s.railN n.val)) ≤ (t.rail n.val).d ∧ (30 ≤ s.railN n.val → (t.rail n.val).d ≤ dutyMax (s.railN n.val))
          ∧ (∀ m, m ≠ n.val → t.rail m = s.rail m)
          ∧ ∀ q, (t.phase q).driven = (s.phase q).driven ∧ ((t.phase q).onSteps = (s.phase q).onSteps ∨ (t.phase q).onSteps = 0 ∧ (t.phase q).limitedNow = true)))
    ∧ (∀ (p : Fin 16) now uv c,
      (s.owner p.val = none ∨ s.clocks.pllD = false → Does (.pwmPeriodStart p now uv c) s [] fun t => t.reg = s.reg)
      ∧ (∀ n, s.owner p.val = some n → s.clocks.pllD = true →
        Does (.pwmPeriodStart p now uv c) s [.od, .log, .can, .link, .sched, .reg] fun t =>
          (∀ q, q ≠ p.val → t.phase q = s.phase q)
          ∧ (100000 ≤ uv → uv < 1580000 → t.getS (0x4000 + p.val) 6 = satSigned 16 (s.phaseCurrent p.val uv))
          ∧ ((s.rail n).closing = true → (t.phase p.val).driven = false ∧ t.get (0x4000 + p.val) 7 = 0)
          ∧ ((s.rail n).closing = false → (s.rail n).enabled = true → (s.rail n).started = true → 30 ≤ s.railN n →
            (t.phase p.val).driven = true ∧ (t.phase p.val).limitedNow = false ∧ (∀ m, (t.rail m).vset = (s.rail m).vset)
            ∧ ((t.phase p.val).onSteps = 0 ∨ 320 ≤ (t.phase p.val).onSteps ∧ (t.phase p.val).onSteps + 640 ≤ 32 * s.railN n))))
    ∧ (∀ n, (s.vreg n ≤ (s.rail n).vset ∧ (3 / 4 : Rat) * (s.rail n).vset ≤ s.vreg n))
    ∧ (∀ f, 0 < f → 2 * f * periodOf f ≤ 1000000 + f ∧ 1000000 < 2 * f * periodOf f + f)
    ∧ (∀ nn m, 0 < m → ((List.range m).map (rankDelay nn m)).sum = 32 * nn)

/-- R505, R509, R510, R514 to R517: the delay-line banks, SYNCIN, and the shutdown comparators. -/
def Obligations.TimingAndShutdowns : Prop :=
  ∀ s : State, Canonical s → s.reg.rails.length = 16 → s.reg.phases.length = 16 → s.reg.sups.length = 16 → s.reg.tmonShut.length = 4 → s.reg.dieShut.length = 4 →
    (∀ k : Fin 4,
      Does (.delayLineUnlock k) s [.od, .log, .can, .link, .sched, .reg] (fun t => t.get 0x4020 1 = setBit (s.get 0x4020 1) k.val ∧ t.reg.rails = s.reg.rails
        ∧ ∀ p, p < 16 → t.phase p = if p / 4 = k.val then { s.phase p with coarse := true } else s.phase p)
      ∧ Does (.delayLineRelock k) s [.od, .reg] (fun t => t.get 0x4020 1 = clearBit (s.get 0x4020 1) k.val ∧ t.reg.rails = s.reg.rails ∧ OnlyValues [(0x4020, 1)] s t
        ∧ ∀ p, p < 16 → t.phase p = if p / 4 = k.val then { s.phase p with coarse := false } else s.phase p))
    ∧ (∀ now, Does (.syncinPulse now) s [.od, .log, .can, .link, .sched, .reg] fun t => t.reg.syncinAt = some now ∧ t.reg.phases = s.reg.phases
        ∧ (∀ n, (t.rail n).vset = (s.rail n).vset ∧ ((t.rail n).adjust = (s.rail n).adjust ∨ 100 * (t.rail n).adjust.natAbs ≤ 3 * max 1 (s.railN n)))
        ∧ (s.reg.syncinAt = none → s.flag 0x4020 1 4 = true → s.reg.syncinGood < 8 → t.get 0x4020 1 = s.get 0x4020 1)
        ∧ (∀ a, s.reg.syncinAt = some a →
          (s.syncinGoodInterval (now - a) = false → s.flag 0x4020 1 4 = false → s.reg.syncinBad = 3 →
            t.get 0x4020 1 = setBit (s.get 0x4020 1) 4 ∧ ∀ n ∈ s.syncinRails, (t.rail n).free = true)
          ∧ (s.syncinGoodInterval (now - a) = true → s.flag 0x4020 1 4 = true →
            t.get 0x4020 1 = if 7 ≤ s.reg.syncinGood then clearBit (s.get 0x4020 1) 4 else s.get 0x4020 1)))
    ∧ (s.syncinRails = [] → Does .syncinLoss s [] fun t => t.reg = s.reg)
    ∧ (s.syncinRails ≠ [] → s.flag 0x4020 1 4 = false → Does .syncinLoss s [.od, .log, .can, .link, .sched, .reg] fun t =>
        t.get 0x4020 1 = setBit (s.get 0x4020 1) 4 ∧ t.reg.syncinAt = none ∧ ∀ n ∈ s.syncinRails, (t.rail n).free = true)
    ∧ (s.syncinRails ≠ [] → s.flag 0x4020 1 4 = true → Does .syncinLoss s [.reg] fun t => t.reg = { s.reg with syncinAt := none, syncinGood := 0 })
    ∧ (∀ (g : Fin 4) (uv : Nat), 10 * (uv : Int) ≤ 10000 * s.get (0x4024 + g.val) 2 + s.get (0x4024 + g.val) 1 * s.getS (0x4024 + g.val) 4 → s.seq.run = none →
        Does (.tmonShutdown g uv) s [] fun t => t.reg = s.reg)
    ∧ (∀ (g : Fin 4) (uv : Nat), 10000 * s.get (0x4024 + g.val) 2 + s.get (0x4024 + g.val) 1 * s.getS (0x4024 + g.val) 4 < 10 * (uv : Int) →
        Does (.tmonShutdown g uv) s [.od, .draws, .replies, .aocb, .store, .log, .can, .link, .mem, .sched, .tabor, .sense, .touch, .reg, .seq, .update, .test]
        fun t => t.reg.tmonShut = s.reg.tmonShut.set g.val true ∧ t.flag (0x4024 + g.val) 6 1 = true
          ∧ ∀ n, n < 16 → (s.rail n).enabled = true → (∃ p ∈ s.phaseList n, s.get (0x4000 + p) 4 = g.val) →
            (t.rail n).enabled = false ∧ (t.rail n).offByFault = true ∧ (t.rail n).vset = 0 ∧ bit (railStatus t n) 7 = true
              ∧ ∀ p ∈ s.phaseList n, (t.phase p).driven = false)
    ∧ (∀ (k : Fin 4) x, x ≤ 1500 → s.seq.run = none → Does (.dieShutdown k x) s [] fun t => t.reg = s.reg)
    ∧ (∀ (k : Fin 4) x, 1500 < x → Does (.dieShutdown k x) s [.od, .draws, .replies, .aocb, .store, .log, .can, .link, .mem, .sched, .tabor, .sense, .touch, .reg, .seq, .pack, .update, .test]
        fun t => t.reg.dieShut = s.reg.dieShut.set k.val true ∧ t.flag 0x4028 4 1 = true ∧ t.pack = { s.pack with stageOff := true }
          ∧ ∀ n, n < 16 → (t.rail n).enabled = false ∧ ((s.rail n).enabled = true → (t.rail n).offByFault = true ∧ (t.rail n).vset = 0
              ∧ ∀ p ∈ s.phaseList n, (t.phase p).driven = false))
    ∧ (∀ (k : Fin 8) x, s.belowWarning k.val x = false → Does (.shutdownRelease k x) s [] fun t => t.reg = s.reg)
    ∧ (∀ (k : Fin 8) x, s.belowWarning k.val x = true → Does (.shutdownRelease k x) s [.od, .draws, .can, .link, .reg, .pack] fun t =>
        t.reg.tmonShut = (if k.val < 4 then s.reg.tmonShut.set k.val false else s.reg.tmonShut)
        ∧ t.reg.dieShut = (if k.val < 4 then s.reg.dieShut else s.reg.dieShut.set (k.val - 4) false)
        ∧ (∀ n, (s.sup n).retryPending = false → (t.rail n).enabled = (s.rail n).enabled)
        ∧ ∀ n, (s.rail n).enabled = false → t.shutConcerned n = true → (t.rail n).enabled = false)

/-- R537 to R541, R538, R547, R549, R553: the sequencer's steps, in the up order and in the emergency order. -/
def Obligations.SequencerSteps : Prop :=
  ∀ (s : State) (r : Run), Canonical s → s.reg.rails.length = 16 → s.reg.sups.length = 16 →
    let w := s.stepWord .up r.step
    let n := stepObj w
    let big : List Part := [.od, .draws, .replies, .aocb, .store, .log, .can, .link, .mem, .sched, .tabor, .sense, .seq, .update, .test]
    let on : State → Prop := fun t => t.seq.run = some (nextStep s r)
    let failed : State → Prop := fun t => t.get 0x4200 5 = 6 ∧ t.get 0x4200 11 = satNat 32 (s.get 0x4200 11 + 1)
      ∧ ∃ r', t.seq.run = some r' ∧ r'.table = .down ∧ r'.toLevel = s.seq.level ∧ r'.undo = true ∧ r'.waiting = none
    (∀ e ∈ [(Instr.seqEnd, 0), (.seqEnable 0 0, 1), (.seqEnable 0 500001, 1), (.seqRetarget, 2), (.seqDisable, 3), (.seqWaitRail, 4), (.seqExenHigh, 5), (.seqExenLow, 6),
        (.seqWaitPg false, 7), (.seqWaitPg true, 7), (.seqWaitPgLow false, 8), (.seqWaitPgLow true, 8), (.seqDelay, 9), (.seqLinkOn, 10), (.seqLinkOff, 11)],
      s.stepDue e.2 = none → Does e.1 s [] fun t => t.seq = s.seq)
    ∧ (UpStep s r 1 none → ∀ a b,
      let o := decide (b + 500000 < a ∨ a + 500000 < b)
      (s.enableFails n o = true → Does (.seqEnable a b) s (.reg :: big) fun t => failed t ∧ (o = true → (t.rail n).senseOpen = true))
      ∧ (s.enableFails n o = false → Does (.seqEnable a b) s (.reg :: big) fun t => on t ∧ (t.rail n).enabled = true ∧ (t.rail n).seqOwned = true
          ∧ ((s.rail n).enabled = false → (t.rail n).vset = 100 * s.get (railObj n) 14 ∧ (t.rail n).target = s.stateTarget n (stepTsel w)
              ∧ (t.rail n).started = false ∧ (t.rail n).slewing = true ∧ (t.rail n).offByFault = false ∧ (t.sup n).transition = true)
          ∧ ((s.rail n).enabled = true → (s.rail n).offByFault = false → (t.rail n).target = s.stateTarget n (stepTsel w) ∧ (t.rail n).vset = (s.rail n).vset)))
    ∧ (UpStep s r 2 none → Does .seqRetarget s (.reg :: big) fun t => on t ∧ (t.rail n).vset = (s.rail n).vset ∧ (t.rail n).enabled = (s.rail n).enabled
        ∧ ((s.rail n).offByFault = true → (t.sup n).faultTarget = s.stateTarget n (stepTsel w) ∧ (t.rail n).target = (s.rail n).target)
        ∧ ((s.rail n).offByFault = false → (s.rail n).enabled = true → (t.rail n).target = s.stateTarget n (stepTsel w)))
    ∧ (UpStep s r 3 none → Does .seqDisable s (.reg :: big) fun t => on t ∧ (t.sup n).retryPending = false ∧ (t.sup n).wasEnabled = false
        ∧ ((s.rail n).enabled = false → (t.rail n).enabled = false)
        ∧ ((s.rail n).enabled = true → (s.rail n).vset ≠ 0 → (t.rail n).enabled = true ∧ (t.rail n).target = 0 ∧ (t.rail n).disabling = true
            ∧ (t.rail n).slewing = true ∧ (t.rail n).emergency = false ∧ (t.rail n).vset = (s.rail n).vset))
    ∧ (UpStep s r 4 none → (s.railWaitOver r n = true → Does .seqWaitRail s big on)
        ∧ (s.railWaitOver r n = false → Does .seqWaitRail s big fun t => t.seq.run = some { r with waiting := some (.rail n) }))
    ∧ (UpStep s r 5 none → Does .seqExenHigh s big fun t => on t ∧ t.get 0x4205 1 = setBit (s.get 0x4205 1) n)
    ∧ (UpStep s r 6 none → Does .seqExenLow s big fun t => on t ∧ t.get 0x4205 1 = clearBit (s.get 0x4205 1) n)
    ∧ (UpStep s r 7 none → Does (.seqWaitPg true) s big (fun t => on t ∧ t.get 0x4205 2 = setBit (s.get 0x4205 2) n ∧ (n, stepLevel w) ∈ t.seq.passed)
        ∧ Does (.seqWaitPg false) s big (fun t => t.seq.run = some { r with waiting := some (.pgHigh n) } ∧ t.get 0x4205 2 = clearBit (s.get 0x4205 2) n))
    ∧ (UpStep s r 8 none → Does (.seqWaitPgLow false) s big (fun t => on t ∧ t.get 0x4205 2 = clearBit (s.get 0x4205 2) n)
        ∧ Does (.seqWaitPgLow true) s big (fun t => t.seq.run = some { r with waiting := some (.pgLow n) } ∧ t.get 0x4205 2 = setBit (s.get 0x4205 2) n))
    ∧ (UpStep s r 9 none → Does .seqDelay s [.seq] fun t => t.seq = { s.seq with run := some { r with waiting := some .delay }, issued := max s.seq.issued (stepLevel w) })
    ∧ (UpStep s r 10 none → Does .seqLinkOn s big fun t => on t ∧ t.link.hostUp = true)
    ∧ (UpStep s r 11 none → Does .seqLinkOff s big fun t => on t ∧ t.link.hostUp = false)
    ∧ (UpStep s r 0 none → s.aocb.pstate.levelOf < r.toLevel → r.toLevel ≤ 3 → s.seq.after = none → Does .seqEnd s (.reg :: .touch :: big) fun t =>
        t.seq.run = none ∧ t.seq.level = r.toLevel ∧ t.seq.issued = r.toLevel ∧ t.aocb.pstate = PState.ofLevel r.toLevel ∧ t.aocb.target = t.aocb.pstate
        ∧ t.get 0x4200 10 = satNat 32 (s.get 0x4200 10 + 1) ∧ ∀ k, k < 16 → (t.rail k).seqOwned = false ∧ (t.rail k).vset = (s.rail k).vset)
    ∧ (∀ x, UpStep s r (stepType w) (some x) →
      (x = .delay → Does .stepWaitSatisfied s big on ∧ Does .stepWaitTimeout s big on)
      ∧ (∀ m, x = .pgHigh m → Does .stepWaitSatisfied s big (fun t => on t ∧ t.get 0x4205 2 = setBit (s.get 0x4205 2) m) ∧ Does .stepWaitTimeout s big failed)
      ∧ (∀ m, x = .pgLow m → Does .stepWaitSatisfied s big (fun t => on t ∧ t.get 0x4205 2 = clearBit (s.get 0x4205 2) m) ∧ Does .stepWaitTimeout s big failed)
      ∧ (∀ m, x = .rail m → (s.railWaitOver r m = true → Does .stepWaitSatisfied s big on)
        ∧ (s.railWaitOver r m = false → Does .stepWaitSatisfied s [] fun t => t.seq = s.seq) ∧ Does .stepWaitTimeout s big failed))
    ∧ (s.seq.run = none → Does .stepWaitSatisfied s [] (fun t => t.seq = s.seq) ∧ Does .stepWaitTimeout s [] (fun t => t.seq = s.seq))
    ∧ (s.seq.run = some r → r.table = .emergency → r.waiting = none →
      (stepType (s.stepWord .emergency r.step) = 3 → Does .seqDisable s (.reg :: big) fun t => on t
        ∧ ((s.rail (stepObj (s.stepWord .emergency r.step))).enabled = true → (s.rail (stepObj (s.stepWord .emergency r.step))).vset ≠ 0 →
            (t.rail (stepObj (s.stepWord .emergency r.step))).emergency = true ∧ (t.rail (stepObj (s.stepWord .emergency r.step))).target = 0))
      ∧ (stepType (s.stepWord .emergency r.step) = 0 → Does .seqEnd s (.reg :: .touch :: big) fun t => t.seq.run = none ∧ t.seq.parallel = true
        ∧ ∀ k, k < 16 → (s.rail k).enabled = true → (s.rail k).vset ≠ 0 → (t.rail k).disabling = true ∧ (t.rail k).emergency = true ∧ (t.rail k).target = 0))
    ∧ (s.seq.run = some r → r.table = .emergency → ∀ x, r.waiting = some x → Does .stepWaitTimeout s big on)

/-- R493, R532 to R536, R538, R544 to R553: requests, orders applied, and supervision. -/
def Obligations.RequestsAndSupervision : Prop :=
  ∀ s : State, Canonical s → s.reg.rails.length = 16 → s.reg.sups.length = 16 → s.reg.phases.length = 16 →
    let big : List Part := [.od, .draws, .replies, .aocb, .store, .log, .can, .link, .mem, .sched, .tabor, .sense, .touch, .reg, .seq, .update, .test]
    (∀ p code, MayWrite s p 0x4200 3 →
      (PState.ofCode code = none → Does (.powerStateRequest p code) s [.replies] fun t => t.replies = s.replies.set p.code ⟨Status.range.code, []⟩)
      ∧ (∀ d k, PState.ofCode code = some d → s.requestRefusal d true = some k →
        Does (.powerStateRequest p code) s [.od, .replies] fun t => t.get 0x4200 5 = k ∧ OnlyValues [(0x4200, 5)] s t ∧ t.replies = s.replies.set p.code ⟨0, []⟩)
      ∧ (∀ d, PState.ofCode code = some d → s.requestRefusal d true = none → s.seq.run = none →
        (d = s.aocb.pstate → Does (.powerStateRequest p code) s [.od, .replies, .aocb, .seq] fun t => t.get 0x4200 5 = 1 ∧ t.seq.dest = some d ∧ t.seq.run = none
          ∧ t.aocb.pstate = s.aocb.pstate ∧ t.aocb.target = d)
        ∧ (d ≠ s.aocb.pstate → s.seq.level < d.levelOf → Does (.powerStateRequest p code) s big fun t => t.get 0x4200 5 = 1 ∧ t.seq.dest = some d ∧ t.aocb.target = d
          ∧ ∃ r, t.seq.run = some r ∧ r.table = .up ∧ r.fromLevel = s.seq.level ∧ r.toLevel = d.levelOf ∧ r.waiting = none ∧ r.undo = false)
        ∧ (d ≠ s.aocb.pstate → d.levelOf < s.seq.level → s.seq.issued ≤ s.seq.level → Does (.powerStateRequest p code) s big fun t => t.get 0x4200 5 = 1 ∧ t.seq.dest = some d
          ∧ ∃ r, t.seq.run = some r ∧ r.table = .down ∧ r.fromLevel = s.seq.level ∧ r.toLevel = d.levelOf ∧ r.waiting = none ∧ r.undo = false)))
    ∧ (∀ p, MayWrite s p 0x4200 13 →
      (s.seq.run.isSome = true ∨ s.aocb.pstate = .emergency → Does (.applyOrders p) s [.replies] fun t => t.replies = s.replies.set p.code ⟨Status.live.code, []⟩)
      ∧ (s.seq.run = none → s.aocb.pstate ≠ .emergency → s.ordersOk = false → Does (.applyOrders p) s [.replies] fun t => t.replies = s.replies.set p.code ⟨Status.incompatible.code, []⟩)
      ∧ (s.seq.run = none → s.aocb.pstate ≠ .emergency → s.ordersOk = true → Does (.applyOrders p) s [.od, .live, .replies] fun t =>
          (∀ k, k < 64 → t.stepWord .up k = s.get 0x4201 (k + 1) ∧ t.stepWord .down k = s.get 0x4202 (k + 1))
          ∧ (∀ k, k < 32 → t.stepWord .emergency k = s.get 0x4203 (k + 1)) ∧ t.get 0x2013 1 = t.emergencyDuration ∧ OnlyValues [(0x2013, 1)] s t
          ∧ t.replies = s.replies.set p.code ⟨0, []⟩))
    ∧ (s.seq.retryDue = false ∨ s.seq.run ≠ none → Does .transitionRetry s [] fun t => t.seq = s.seq)
    ∧ (∀ d, s.seq.retryDue = true → s.seq.run = none → s.seq.dest = some d → s.seq.level < d.levelOf →
      Does .transitionRetry s big fun t => t.seq.retryDue = false ∧ t.seq.dest = some d ∧ ∃ r, t.seq.run = some r ∧ r.table = .up ∧ r.toLevel = d.levelOf)
    ∧ (s.level = none ∨ s.onPack = false ∨ s.get 0x4200 7 = 0 ∨ s.seq.dwellUsed = true → Does .onPackDwellExpiry s [] fun t => t.seq = s.seq)
    ∧ (s.level ≠ none → s.onPack = true → s.get 0x4200 7 ≠ 0 → s.seq.dwellUsed = false → Does .onPackDwellExpiry s big fun t => t.seq.dwellUsed = true
        ∧ (s.aocb.pstate.code ≤ s.get 0x4200 6 → s.seq.run = none → s.up = true → s.aocb.boot.trimFault = false → t.get 0x4200 5 = 1 ∧ t.seq.dest = some s.aocb.pstate))
    ∧ (∀ k : Fin 8, Does (.expgLoss k) s [.od, .log, .can, .link, .sched] fun t => t.get 0x4205 2 = clearBit (s.get 0x4205 2) k.val
        ∧ t.get 0x4205 3 = (if s.seq.passed.any (fun e => e.1 == k.val && decide (e.2 ≤ s.seq.level)) then satNat 32 (s.get 0x4205 3 + 1) else s.get 0x4205 3))
    ∧ (∀ n : Fin 16,
      let r := s.rail n.val
      let x := s.sup n.val
      let w := s.get (supObj n.val) 7
      let off : State → Nat → Prop := fun t c => (t.rail n.val).enabled = false ∧ (t.rail n.val).offByFault = true ∧ (t.rail n.val).vset = 0
        ∧ (∀ p ∈ s.phaseList n.val, (t.phase p).driven = false) ∧ t.get (supObj n.val) 17 = c ∧ bit (t.get (supObj n.val) 12) (7 + c) = true
        ∧ t.get (supObj n.val) 16 = satNat 32 (s.get (supObj n.val) 16 + 1)
        ∧ (bits w 14 2 ≠ 1 → (t.sup n.val).latched = true)
        ∧ (bits w 14 2 = 1 → r.disabling = false → x.latched = false → (t.sup n.val).latched = decide (bits w 4 4 < x.retries + 1)
            ∧ (x.retries + 1 ≤ bits w 4 4 → (t.sup n.val).retryPending = true))
        ∧ (bits w 14 2 = 2 → ∀ m, m < 16 → (s.rail m).enabled = true → bits (s.get (supObj m) 7) 11 3 = bits w 11 3 → (t.rail m).enabled = false)
      (s.seq.run = none → ∀ (c : Fin 3) v, r.enabled = false ∨ s.beyondFault n.val c.val v = false → Does (.supervisorFault n c v) s [] fun t => t.reg = s.reg)
      ∧ (∀ v, s.beyondFault n.val 0 v = true ↔
          s.vreg n.val * (1000 + s.get (supObj n.val) 1 : Nat) / 1000 + (if x.transition then 100 * s.get (supObj n.val) 10 else 0 : Nat) < (v : Rat) / 10)
      ∧ (∀ v, s.beyondFault n.val 1 v = true ↔ (v : Rat) / 10 < s.vreg n.val * (1000 - (s.get (supObj n.val) 4 : Rat)) / 1000)
      ∧ (∀ v, s.beyondFault n.val 2 v = true ↔ s.monitor n.val = false ∧ s.get (supObj n.val) 6 ≠ 0 ∧ 100 * s.get (supObj n.val) 6 < v)
      ∧ (∀ v, s.seq.run = none → r.enabled = true → x.transition = true → s.beyondFault n.val 1 v = true → Does (.supervisorFault n 1 v) s [.reg] fun t =>
          t.reg = { s.reg with sups := s.reg.sups.set n.val { x with uv := true } })
      ∧ (∀ v, r.enabled = true → s.beyondFault n.val 0 v = true → Does (.supervisorFault n 0 v) s big fun t => off t 1 ∧ (t.sup n.val).ov = true)
      ∧ (∀ v, r.enabled = true → x.transition = false → s.beyondFault n.val 1 v = true → Does (.supervisorFault n 1 v) s big fun t =>
          off t 2 ∧ (t.sup n.val).uv = true)
      ∧ (∀ v, r.enabled = true → s.beyondFault n.val 2 v = true → Does (.supervisorFault n 2 v) s big fun t => off t 3 ∧ (t.sup n.val).oc = true)
      ∧ (∀ (c : Fin 3) v, s.pastRelease n.val c.val v = false → Does (.supervisorComparatorRelease n c v) s [] fun t => t.reg = s.reg)
      ∧ (x.retryPending = false → ∀ (c : Fin 3) v, s.pastRelease n.val c.val v = true → Does (.supervisorComparatorRelease n c v) s [.od, .can, .link, .reg] fun t =>
          let y : Sup := { x with ov := x.ov && decide (c ≠ 0), uv := x.uv && decide (c ≠ 1), oc := x.oc && decide (c ≠ 2) }
          t.reg = { s.reg with sups := s.reg.sups.set n.val y })
      ∧ (x.retryPending = false → Does (.retryDelayExpiry n) s [] fun t => t.reg = s.reg)
      ∧ (x.retryPending = true → x.ov = false → x.uv = false → x.oc = false → s.shutConcerned n.val = false → s.monitor n.val = true ∨ s.clocks.pllD = true →
        Does (.retryDelayExpiry n) s [.od, .draws, .can, .link, .reg] fun t => (t.sup n.val).retryPending = false ∧ (t.sup n.val).retries = x.retries + 1
          ∧ ((readSense s).2 = false → (t.rail n.val).enabled = true ∧ (t.rail n.val).target = x.faultTarget ∧ (t.sup n.val).transition = true)
          ∧ ((readSense s).2 = true → t.rail n.val = { r with senseOpen := true } ∧ (t.sup n.val).latched = true))
      ∧ (x.retryPending = true → x.ov = true ∨ x.uv = true ∨ x.oc = true ∨ s.shutConcerned n.val = true ∨ s.monitor n.val = false ∧ s.clocks.pllD = false →
        Does (.retryDelayExpiry n) s [.reg] fun t => t.reg = { s.reg with sups := s.reg.sups.set n.val { x with delayOver := true } })
      ∧ (r.enabled = true → Does (.retryCountReset n) s [.reg] fun t => t.reg = { s.reg with sups := s.reg.sups.set n.val { x with retries := 0 } })
      ∧ (r.enabled = false → Does (.retryCountReset n) s [] fun t => t.reg = s.reg)
      ∧ (∀ p a b, MayWrite s p (supObj n.val) 14 →
        (x.latched = false → Does (.clearLatch p n a b) s [.replies] fun t => t.replies = s.replies.set p.code ⟨0, []⟩)
        ∧ (x.latched = true → x.lbist = true ∨ x.ov = true ∨ x.uv = true ∨ x.oc = true ∨ s.shutConcerned n.val = true ∨ s.monitor n.val = false ∧ s.clocks.pllD = false →
          Does (.clearLatch p n a b) s [.replies] fun t => t.replies = s.replies.set p.code ⟨Status.incompatible.code, []⟩)
        ∧ (x.latched = true → x.lbist = false → x.ov = false → x.uv = false → x.oc = false → s.shutConcerned n.val = false → s.monitor n.val = true ∨ s.clocks.pllD = true →
          (x.wasEnabled = false → Does (.clearLatch p n a b) s [.od, .can, .link, .reg, .replies] fun t => (t.sup n.val).latched = false ∧ (t.sup n.val).retries = 0
            ∧ t.rail n.val = { r with offByFault := false } ∧ t.replies = s.replies.set p.code ⟨0, []⟩)
          ∧ (x.wasEnabled = true → a ≤ b + 500000 → b ≤ a + 500000 → Does (.clearLatch p n a b) s [.od, .can, .link, .reg, .replies] fun t => (t.sup n.val).latched = false ∧ (t.sup n.val).retries = 0
            ∧ (t.rail n.val).enabled = true ∧ (t.rail n.val).target = x.faultTarget ∧ t.replies = s.replies.set p.code ⟨0, []⟩)
          ∧ (x.wasEnabled = true → b + 500000 < a ∨ a + 500000 < b → Does (.clearLatch p n a b) s [.reg, .replies] fun t => t.rail n.val = { r with senseOpen := true } ∧ t.sup n.val = x
            ∧ t.replies = s.replies.set p.code ⟨Status.incompatible.code, []⟩)))
      ∧ (s.seq.run = none → x.transition = false ∨ r.slewing = true → Does (.settleTimeExpiry n) s [] fun t => t.reg = s.reg)
      ∧ (s.seq.run = none → x.transition = true → r.slewing = false → x.uv = false ∨ r.enabled = false → Does (.settleTimeExpiry n) s [.reg] fun t =>
          t.reg = { s.reg with sups := s.reg.sups.set n.val { x with transition := false } })
      ∧ (x.transition = true → r.slewing = false → x.uv = true → r.enabled = true → Does (.settleTimeExpiry n) s big fun t => off t 2))

/-- R568 to R576, R596, R602 to R605: the charger's phases, timers, faults and configuration. -/
def Obligations.ChargerCommands : Prop :=
  ∀ s : State, Canonical s →
    let v := s.get 0x4301 5
    let first := if v < s.trickleMv then 2 else if v < s.prechargeMv then 3 else 4
    let begun : State → Prop := fun t =>
      t.get 0x4301 1 = (if s.window = 0 ∨ s.window = 4 ∨ s.inputLow = true then 1 else first) ∧ (t.get 0x4301 1 = 1 → t.pack.heldPhase = first)
        ∧ t.get 0x4301 9 = 0 ∧ t.get 0x4301 10 = 0 ∧ t.get 0x4301 11 = satNat 32 (s.get 0x4301 11 + 1)
    let fault : State → Nat → Nat → Prop := fun t cause flag => t.get 0x4301 1 = 8 ∧ t.get 0x4301 13 = cause ∧ t.flag 0x4301 2 flag = true
      ∧ t.get 0x4301 12 = satNat 32 (s.get 0x4301 12 + 1)
    (s.chargePhase = 0 → s.chargerMay = true → s.chargerVin = true → Does .chargeCycleStart s [.od, .log, .link, .sched, .pack] begun)
    ∧ (s.chargePhase = 0 → s.chargerMay = false ∨ s.chargerVin = false → Does .chargeCycleStart s [.od] fun t => t.get 0x4301 1 = 0
        ∧ OnlyValues [(0x4301, 2), (0x4301, 7), (0x4301, 8), (0x4310, 3)] s t)
    ∧ (s.chargePhase ≠ 0 → Does .chargeCycleStart s [] fun t => t.pack = s.pack)
    ∧ (s.chargePhase = 7 → s.chargerMay = true → s.chargerVin = true → v < s.cvMv - 100 * s.cells →
      Does .rechargeTimeout s [.od, .log, .link, .sched, .pack] begun)
    ∧ (s.chargePhase ≠ 7 ∨ s.chargerVin = false ∨ s.cvMv - 100 * s.cells ≤ v → Does .rechargeTimeout s [] fun t => t.pack = s.pack)
    ∧ (s.onVin = true → s.power.vinLost = false → Does .chargeCycleResume s [.od, .log, .link, .sched, .pack] fun t => t.pack.vinSettled = true
        ∧ (s.chargePhase = 1 → s.chargerMay = true → s.window ≠ 0 → s.window ≠ 4 → s.inputLow = false → t.get 0x4301 1 = s.pack.heldPhase)
        ∧ (s.chargePhase ≠ 0 → s.chargePhase ≠ 8 → s.chargerMay = false → t.get 0x4301 1 = 0))
    ∧ (s.onVin = false ∨ s.power.vinLost = true → Does .chargeCycleResume s [] fun t => t.pack = s.pack)
    ∧ (∀ w b,
      (s.chargePhase = 5 → 20 * s.getS 0x4301 6 ≤ s.get 0x4300 5 → s.get 0x4300 7 ≠ 0 → Does (.terminationTimeout w b) s [.od, .log, .link, .sched] fun t => t.get 0x4301 1 = 6)
      ∧ (s.chargePhase = 5 → 20 * s.getS 0x4301 6 ≤ s.get 0x4300 5 → s.get 0x4300 7 = 0 → Does (.terminationTimeout w b) s [.od, .log, .can, .link, .sched, .pack] fun t => t.get 0x4301 1 = 7
          ∧ (s.trusted = true → s.onVin = false → t.pack = { s.pack with writeDue := true }))
      ∧ (s.chargePhase ≠ 5 ∨ s.get 0x4300 5 < 20 * s.getS 0x4301 6 → Does (.terminationTimeout w b) s [] fun t => t.pack = s.pack)
      ∧ (s.chargePhase = 6 → Does (.topoffExpiry w b) s [.od, .log, .can, .link, .sched, .pack] fun t => t.get 0x4301 1 = 7)
      ∧ (s.chargePhase ≠ 6 → Does (.topoffExpiry w b) s [] fun t => t.pack = s.pack))
    ∧ (2 ≤ s.chargePhase → s.chargePhase ≤ 5 → Does (.chargeTimerExpiry true) s [.od, .log, .can, .link, .sched] fun t => fault t 2 6 ∧ t.get 0x4301 10 = 36000)
    ∧ (s.chargePhase = 2 ∨ s.chargePhase = 3 → Does (.chargeTimerExpiry false) s [.od, .log, .can, .link, .sched] fun t => fault t 1 6 ∧ t.get 0x4301 9 = 3600)
    ∧ (s.chargePhase < 2 ∨ 5 < s.chargePhase → ∀ b, Does (.chargeTimerExpiry b) s [] fun t => t.pack = s.pack)
    ∧ (∀ mv, s.charging = true → s.ovStopMv < mv → Does (.chargeOvervoltage mv) s [.od, .log, .can, .link, .sched] fun t => fault t 3 5)
    ∧ (∀ mv, s.charging = false ∨ mv ≤ s.ovStopMv → Does (.chargeOvervoltage mv) s [] fun t => t.pack = s.pack)
    ∧ (∀ sw ma, s.charging = true → sw = false ∨ 3 * s.iccEff + 200 < 2 * ma → Does (.chargeStageFault sw ma) s [.od, .log, .can, .link, .sched] fun t => fault t 4 7)
    ∧ (∀ sw ma, s.charging = false ∨ (sw = true ∧ 2 * ma ≤ 3 * s.iccEff + 200) → Does (.chargeStageFault sw ma) s [] fun t => t.pack = s.pack)
    ∧ (∀ p, MayWrite s p 0x4302 1 →
      (s.chargePhase ≠ 8 ∨ s.flag 0x4301 2 5 = true ∧ s.ovStopMv < v →
        Does (.clearChargerFault p) s [.replies] fun t => t.replies = s.replies.set p.code ⟨0, []⟩)
      ∧ (s.chargePhase = 8 → s.flag 0x4301 2 5 = false ∨ v ≤ s.ovStopMv →
        Does (.clearChargerFault p) s [.od, .replies, .log, .link, .sched, .pack] fun t => t.get 0x4301 1 = (if s.chargerMay && s.chargerVin then first else 0)
          ∧ t.flag 0x4301 2 5 = false ∧ t.flag 0x4301 2 6 = false ∧ t.flag 0x4301 2 7 = false ∧ t.replies = s.replies.set p.code ⟨0, []⟩))
    ∧ (∀ p sub x, MayWrite s p 0x4300 sub →
      (rowOk 0x4300 sub x = false ∨ sub = 5 ∧ 50000 < x * s.get 0x4300 6 ∨ sub = 6 ∧ 50000 < s.get 0x4300 5 * x →
        Does (.chargerConfigurationWrite p sub x) s [.replies] fun t => t.replies = s.replies.set p.code ⟨Status.range.code, []⟩)
      ∧ (rowOk 0x4300 sub x = true → sub ∈ [1, 7, 9, 10, 11] →
        Does (.chargerConfigurationWrite p sub x) s [.od, .replies, .log, .link, .sched, .pack] fun t => t.get 0x4300 sub = x ∧ t.replies = s.replies.set p.code ⟨0, []⟩
          ∧ (sub = 1 → x = 0 → s.chargePhase ≠ 8 → t.get 0x4301 1 = 0))
      ∧ (rowOk 0x4300 sub x = true → sub ∈ [2, 3, 4] →
        Does (.chargerConfigurationWrite p sub x) s [.od, .replies, .log, .can, .link, .sched, .pack] fun t => t.get 0x4300 sub = x ∧ t.replies = s.replies.set p.code ⟨0, []⟩
          ∧ t.get 0x4301 8 = t.cvMv ∧ t.get 0x4310 3 = t.cutoffMv
          ∧ (s.chargePhase = 8 → t.get 0x4301 1 = 8) ∧ (s.chargePhase ≠ 8 → t.get 0x4301 1 ∈ [0, 2, 3, 4])))
    ∧ (∀ old t, old ≤ 4 → nextWindow old t ≤ 4 ∧ nextWindow (nextWindow old t) t = nextWindow old t ∧ (rawWindow t = old → nextWindow old t = old)
        ∧ (rawWindow t = 2 → 20 ≤ t → 120 ≤ t → t ≤ 430 → nextWindow old t = 2))

/-- R577 to R584, R588 to R595, R606: the pack, the service button and SHIP. -/
def Obligations.PackAndServiceButton : Prop :=
  ∀ s : State, Canonical s →
    (∀ mv, s.onPack = false ∨ s.cutoffMv < mv → Does (.dischargeCutoff mv) s [] fun t => t.power = s.power)
    ∧ (∀ mv, s.onPack = true → mv ≤ s.cutoffMv → s.aocb.pstate ≠ .emergency →
      Does (.dischargeCutoff mv) s [.od, .draws, .replies, .power, .aocb, .store, .log, .can, .link, .mem, .sched, .tabor, .sense, .touch, .reg, .seq, .pack, .update, .test]
        fun t => t.get 0x4310 2 = satNat 32 (s.get 0x4310 2 + 1) ∧ t.get 0x4330 10 = satNat 16 (s.get 0x4330 10 + 1) ∧ t.get 0x4320 1 = s.get 0x4320 1
          ∧ t.power.batg = false ∧ t.power.writesStopped = true ∧ t.aocb.pstate = .emergency)
    ∧ (∀ a, Does (.packRemoval a) s [.od, .draws, .replies, .power, .aocb, .store, .log, .can, .link, .mem, .sched, .tabor, .sense, .touch, .reg, .seq, .pack, .update, .test]
        fun t => t.get 0x4320 1 = (if a then 1 else 0) ∧ (s.onPack = false → t.pack.removed = true ∧ t.pack.exchange = .idle ∧ t.pack.exchangeDue = a
          ∧ t.power = s.power ∧ (s.up = true → s.chargePhase ≠ 8 → s.packCondition ≠ (if a then 1 else 0) → t.get 0x4301 1 = 0)))
    ∧ (s.pack.removed = false → Does .packInsertion s [] fun t => t.pack = s.pack)
    ∧ (s.pack.removed = true → Does .packInsertion s [.od, .log, .link, .sched, .pack] fun t =>
        t.pack = { s.pack with removed := false, untrustedSent := false, mismatchSent := false, eolSent := false, exchangeDue := true }
        ∧ t.flag 0x4320 5 2 = false ∧ t.get 0x4301 1 = if s.chargePhase = 8 then 0 else s.chargePhase)
    ∧ (s.power.vaonValid = false ∨ s.aocb.pstate = .ship → Does .shortPress s [] (fun t => t.power = s.power) ∧ Does .serviceRequest s [] (fun t => t.power = s.power)
        ∧ ∀ same, Does (.longPress same) s [] (fun t => t.power = s.power))
    ∧ (s.power.vaonValid = true →
      (s.aocb.pstate ≠ .off → s.aocb.pstate ≠ .ship → Does .shortPress s [.od, .sched] fun t => t.get 0x4340 1 = satNat 32 (s.get 0x4340 1 + 1))
      ∧ (s.aocb.pstate = .off → s.power.vinLost = true → s.trusted = false ∨ s.power.batgHeld = true → Does .shortPress s [.od] fun t =>
          t.get 0x4340 5 = satNat 32 (s.get 0x4340 5 + 1) ∧ OnlyValues [(0x4340, 5)] s t)
      ∧ (s.aocb.pstate = .off → s.power.vinLost = false → s.power.resetNLow = false → ∃ t, exec .shortPress s = .next (immediates t) ∧ t.pending = s.pending
          ∧ t.get 0x4340 1 = satNat 32 (s.get 0x4340 1 + 1) ∧ t.power.step = .supply ∧ t.power.selfBuck = .starting ∧ t.power.insw = !s.power.vinOv
          ∧ t.power.batg = false ∧ t.aocb.pstate = .start)
      ∧ (s.aocb.pstate = .off → s.power.vinLost = true → s.trusted = true → s.power.batgHeld = false → s.power.resetNLow = false →
        ∃ t, exec .shortPress s = .next (immediates t) ∧ t.pending = s.pending ∧ t.power.step = .supply ∧ t.power.selfBuck = .starting
          ∧ t.power.insw = false ∧ t.power.batg = true)
      ∧ (s.aocb.pstate ≠ .ship → s.up = false ∨ s.get 0x4200 9 = 0 → Does .serviceRequest s [.od, .sched] fun t => t.get 0x4340 2 = satNat 32 (s.get 0x4340 2 + 1))
      ∧ (s.aocb.pstate ≠ .ship → s.up = true → s.get 0x4200 9 ≠ 0 → s.requestRefusal .service false = none →
        Does .serviceRequest s [.od, .draws, .replies, .aocb, .store, .log, .can, .link, .mem, .sched, .tabor, .sense, .touch, .reg, .seq, .update, .test] fun t =>
          t.get 0x4340 2 = satNat 32 (s.get 0x4340 2 + 1) ∧ t.seq.dest = some .service)
      ∧ (∀ same, s.up = true → s.aocb.pstate ≠ .emergency → s.aocb.pstate ≠ .ship → ∃ t, exec (.longPress same) s = .next (immediates t) ∧ t.pending = s.pending
          ∧ t.power.hardReset = true ∧ t.pack.pressHold = true ∧ (same = false → t.aocb.cause.source = Source.longPress.code) ∧ t.power.insw = s.power.insw)
      ∧ Does .pressIgnored s [.od] (fun t => t.get 0x4340 5 = satNat 32 (s.get 0x4340 5 + 1) ∧ OnlyValues [(0x4340, 5)] s t))
    ∧ (s.power.vaonValid = false → Does .pressIgnored s [] fun t => t.power = s.power)
    ∧ (s.power.batgHeld = false → Does .longPressHoldExpiry s [] fun t => t.power = s.power)
    ∧ (s.power.batgHeld = true → s.power.vinLost = true → Does .longPressHoldExpiry s [.aocb, .power, .pack] fun t => t.aocb.pstate = .off ∧ t.power.step = .idle
        ∧ t.power.selfBuck = .stopped ∧ t.power.hardReset = false ∧ t.power.batgHeld = false ∧ t.pack = { s.pack with pressHold := false })
    ∧ (s.power.batgHeld = true → s.power.vinLost = false → s.power.resetNLow = false → Does .longPressHoldExpiry s [.aocb, .power, .pack, .update] fun t => t.aocb.pstate = .start
        ∧ t.power.step = (if s.power.selfBuck = .regulating then .clocks else .supply) ∧ t.power.hardReset = false ∧ t.power.batgHeld = false)
    ∧ (s.aocb.pstate = .ship → Does .shipExitPress s [.od, .aocb, .thermal] fun t => t.aocb.pstate = .off ∧ t.thermal.shdnLow = true
        ∧ t.get 0x4340 4 = satNat 32 (s.get 0x4340 4 + 1) ∧ OnlyValues [(0x4340, 4)] s t)
    ∧ (s.aocb.pstate ≠ .ship → Does .shipExitPress s [] (fun t => t.power = s.power) ∧ Does .shipExitVin s [] (fun t => t.power = s.power))
    ∧ (s.aocb.pstate = .ship → s.power.armedRise = true → s.power.resetNLow = false → ∃ t, exec .shipExitVin s = .next (immediates t) ∧ t.pending = s.pending
        ∧ t.power.step = .supply ∧ t.power.selfBuck = .starting ∧ t.power.vinValid = true ∧ t.power.insw = !s.power.vinOv ∧ t.power.batg = false ∧ t.aocb.pstate = .start
        ∧ t.thermal.shdnLow = true)
    ∧ Does .vinValidFall s [.power] (fun t => t.power.vinValid = false ∧ (s.aocb.pstate = .ship → t.power.armedRise = true))
    ∧ (s.seq.after ≠ some .off ∨ s.seq.run.isSome = true ∨ s.aocb.pstate ≠ .keepalive → Does .offEntry s [] fun t => t.power = s.power)
    ∧ (s.seq.after = some .off → s.seq.run = none → s.aocb.pstate = .keepalive → ∃ t, exec .offEntry s = .next (immediates t) ∧ t.pending = s.pending
        ∧ t.aocb.pstate = .off ∧ t.power.selfBuck = .stopped ∧ t.power.step = .idle ∧ t.power.batg = false ∧ t.power.insw = s.power.insw ∧ t.reg = Reg.reset)
    ∧ (∀ w b, s.seq.after ≠ some .ship ∨ s.seq.run.isSome = true ∨ s.aocb.pstate ≠ .keepalive → Does (.shipEntry w b) s [] fun t => t.power = s.power)
    ∧ (∀ w b, s.seq.after = some .ship → s.seq.run = none → s.aocb.pstate = .keepalive → ∃ t, exec (.shipEntry w b) s = .next (immediates t) ∧ t.pending = s.pending
        ∧ t.aocb.pstate = .ship ∧ t.power.selfBuck = .stopped ∧ t.power.batg = false ∧ t.power.insw = false ∧ t.get 0x4320 1 ≠ 2)
    ∧ (∀ i w, s.attemptNow = none → Does (.authenticationExchange i w) s [] fun t => t.pack = s.pack)
    ∧ (∀ i w k, s.attemptNow = some k →
      (identReason s i ≠ 0 → k < 3 → Does (.authenticationExchange i w) s [.od, .pack] fun t =>
        t.pack = { s.pack with exchangeDue := false, exchange := .between (k + 1) } ∧ OnlyValues [(0x4320, 2)] s t)
      ∧ (identReason s i ≠ 0 → 3 ≤ k → Does (.authenticationExchange i w) s [.od, .log, .can, .link, .sched, .pack] fun t => t.pack.exchange = .idle
          ∧ t.get 0x4320 3 = identReason s i ∧ t.get 0x4320 4 = satNat 32 (s.get 0x4320 4 + 1) ∧ t.get 0x4320 1 ≠ 2)
      ∧ (identReason s i = 0 → Does (.authenticationExchange i true) s [.od, .draws, .pack] fun t => ∃ c, c < 2 ^ 128 ∧ t.draws = s.draws + 1
          ∧ t.pack = { s.pack with exchangeDue := false, sent := toLE 16 c, exchange := .waiting k c } ∧ ∀ l, i = .bytes l → t.get 0x4320 2 = fromLE l))
    ∧ (∀ r l w b, (∀ k c, s.pack.exchange ≠ .waiting k c) ∨ s.exchangeMay = false → Does (.authenticationResponse r l w b) s [] fun t => t.pack = s.pack)
    ∧ (∀ l w b k c key, s.pack.exchange = .waiting k c → s.exchangeMay = true → s.packKey (s.ident 1 1) = some key →
      let good := (hmacSha256 key (toLE 16 c ++ toLE 8 (s.ident 16 8))).take 16
      Does (.authenticationResponse (.bytes good) l w b) s [.od, .log, .can, .link, .sched, .pack] (fun t => t.get 0x4320 1 = 2 ∧ t.get 0x4320 3 = 1
        ∧ t.pack.exchange = .idle ∧ t.pack.lastChallenge = c)
      ∧ ∀ bad, bad ≠ good → (k < 3 → Does (.authenticationResponse (.bytes bad) l w b) s [.pack] fun t => t.pack = { s.pack with exchange := .between (k + 1) })
        ∧ (3 ≤ k → Does (.authenticationResponse (.bytes bad) l w b) s [.od, .log, .can, .link, .sched, .pack] fun t => t.get 0x4320 1 = 1 ∧ t.get 0x4320 3 = 2
          ∧ t.pack.exchange = .idle))
    ∧ (∀ p, MayWrite s p 0x4320 6 →
      (s.onVin = false ∨ s.power.vinLost = true → Does (.runExchange p) s [.replies] fun t => t.replies = s.replies.set p.code ⟨Status.incompatible.code, []⟩)
      ∧ (s.onVin = true → s.power.vinLost = false → Does (.runExchange p) s [.replies, .pack] fun t => t.pack = { s.pack with exchangeDue := true }
          ∧ t.replies = s.replies.set p.code ⟨0, []⟩)
      ∧ (∀ w b, s.trusted = false → Does (.writeBackLifeRecord p w b) s [.replies] fun t => t.replies = s.replies.set p.code ⟨Status.incompatible.code, []⟩)
      ∧ (∀ w b, s.trusted = true → s.onVin = false → Does (.writeBackLifeRecord p w b) s [.replies, .pack] fun t => t.pack = { s.pack with writeDue := true }
          ∧ t.replies = s.replies.set p.code ⟨0, []⟩)
      ∧ (s.trusted = true → s.onVin = true → s.power.vinLost = false → s.pack.exchange = .idle → s.pack.exchangeDue = false →
        Does (.writeBackLifeRecord p true (.bytes (s.lifeRecord (satNat 32 (s.get 0x4330 11 + 1))))) s [.od, .replies, .pack] fun t =>
          t.get 0x4330 11 = satNat 32 (s.get 0x4330 11 + 1) ∧ OnlyValues [(0x4330, 11)] s t ∧ t.pack.writeFails = 0 ∧ t.pack.writeDue = false))
    ∧ (s.trusted = true → Does .exchangePeriodic s [.pack] fun t => t.pack = { s.pack with exchangeDue := true })
    ∧ (s.trusted = false → Does .exchangePeriodic s [] (fun t => t.pack = s.pack) ∧ Does .packAgeUpdate s [] (fun t => t.pack = s.pack)
        ∧ ∀ w b, Does (.lifeWriteBackHourly w b) s [] (fun t => t.pack = s.pack))
    ∧ (∀ b, s.trusted = true → s.onVin = true → s.power.vinLost = false → s.pack.exchange = .idle → s.pack.exchangeDue = false →
      Does (.lifeWriteBackHourly false b) s [.od, .log, .can, .link, .sched, .pack] fun t => t.get 0x4330 12 = satNat 32 (s.get 0x4330 12 + 1)
        ∧ t.get 0x4330 11 = s.get 0x4330 11 ∧ t.pack.writeFails = s.pack.writeFails + 1)
    ∧ (s.trusted = true → s.flag 0x4810 3 0 = true → Does .packAgeUpdate s [.od, .log, .can, .link, .sched, .pack] fun t => t.get 0x4330 6 = s.packAge)
    ∧ (∀ l n, s.up = false ∨ s.pack.exchange ≠ .idle → Does (.packPoll l n) s [] fun t => t.pack = s.pack)
    ∧ (s.up = true → s.pack.exchange = .idle →
      (∀ a b c d e, a < 65536 → b < 65536 → c < 65536 → d < 256 → e < 65536 →
        Does (.packPoll [some a, some b, some c, some d, some e] none) s [.od, .log, .link, .sched, .pack] fun t =>
          t.get 0x4320 9 = a ∧ t.get 0x4320 7 = b ∧ t.get 0x4320 8 = c ∧ t.get 0x4320 10 = d ∧ t.get 0x4320 11 = e ∧ t.flag 0x4320 5 3 = false ∧ t.pack.pollFails = 0)
      ∧ (s.pack.pollFails = 2 → Does (.packPoll [none, none, none, none, none] none) s [.od, .log, .link, .sched, .pack] fun t => t.flag 0x4320 5 3 = true
          ∧ t.pack.exchangeDue = true ∧ t.pack.pollFails = 3))

/-- R608 to R632, R637, R638, R640: thermal readings, the critical-temperature comparator and the air movers. -/
def Obligations.ThermalAndAirMovers : Prop :=
  ∀ s : State, Canonical s → s.thermal.fans.length = 4 →
    let report : List Part := [.od, .log, .can, .link, .sched, .thermal]
    (s.thermal.biasHigh = true → Does .diodeBiasToggle s [.thermal] fun t =>
      t.thermal = { s.thermal with biasHigh := false, diodeHigh := s.thermal.diodeNow, diodeNow := List.replicate 8 none })
    ∧ (s.thermal.biasHigh = false → Does .diodeBiasToggle s report fun t => t.thermal = { s.thermal with biasHigh := true, diodeNow := List.replicate 8 none }
        ∧ ∀ n, n < 8 → (s.get (tsObj n) 1 ≠ 2 → t.getS (tsObj n) 7 = s.getS (tsObj n) 7)
          ∧ ∀ h l, s.get (tsObj n) 1 = 2 → nth s.thermal.diodeHigh n none = some h → nth s.thermal.diodeNow n none = some l →
            t.flag (tsObj n) 8 2 = true
            ∧ (∀ x, s.diodeReading n h l = some x → t.getS (tsObj n) 7 = limitTenths (x + s.getS (tsObj n) 5))
            ∧ (s.diodeReading n h l = none → t.getS (tsObj n) 7 = 1500 ∧ t.flag (tsObj n) 8 1 = true))
    ∧ (∀ d, s.power.vaonValid = false ∨ s.aocb.pstate = .ship → Does (.tcritMeasurement d) s [] fun t => t.thermal = s.thermal)
    ∧ (s.power.vaonValid = true → s.aocb.pstate ≠ .ship → ∀ d,
      (s.thermal.shdnLow = false → s.tcritTenths ≤ d → 1 ≤ s.thermal.overRun → Does (.tcritMeasurement d) s report fun t => t.thermal.shdnLow = true
          ∧ t.thermal.overRun = s.thermal.overRun + 1 ∧ t.get 0x4410 5 = satNat 32 (s.get 0x4410 5 + 1) ∧ t.flag 0x440A 3 24 = true ∧ t.thermal.fans = s.thermal.fans)
      ∧ (s.thermal.shdnLow = false → d < s.tcritTenths ∨ s.thermal.overRun = 0 → Does (.tcritMeasurement d) s [.od, .thermal] fun t =>
          t.thermal = { s.thermal with measured := true, overRun := if s.tcritTenths ≤ d then s.thermal.overRun + 1 else 0 } ∧ OnlyValues [(0x4410, 4)] s t)
      ∧ (s.thermal.shdnLow = true → d < s.tcritTenths - 100 → Does (.tcritMeasurement d) s report fun t => t.thermal.shdnLow = false ∧ t.flag 0x440A 3 24 = false)
      ∧ (s.thermal.shdnLow = true → s.tcritTenths - 100 ≤ d → Does (.tcritMeasurement d) s report fun t => t.thermal.shdnLow = true
          ∧ t.get 0x4410 5 = if s.thermal.measured || s.thermal.counted then s.get 0x4410 5 else satNat 32 (s.get 0x4410 5 + 1)))
    ∧ (∀ d, s.flag 0x440A 3 25 = false → s.tcritDiffers = some d → 100 < d → Does (.tcritDisagree true) s [.od, .log, .can, .link, .sched] fun t => t.get 0x440A 3 = setBit (s.get 0x440A 3) 25)
    ∧ (s.flag 0x440A 3 25 = true ∨ (∀ d, s.tcritDiffers = some d → d ≤ 100) → Does (.tcritDisagree true) s [] fun t => t.thermal = s.thermal)
    ∧ (∀ d, s.tcritDiffers = some d → d ≤ 50 → Does (.tcritDisagree false) s [.od] fun t => t.get 0x440A 3 = clearBit (s.get 0x440A 3) 25 ∧ OnlyValues [(0x440A, 3)] s t)
    ∧ ((∀ d, s.tcritDiffers = some d → 50 < d) → Does (.tcritDisagree false) s [] fun t => t.thermal = s.thermal)
    ∧ (s.thermal.running = false ∨ s.thermal.lbistOff = true → Does .fanLoopTick s [] fun t => t.thermal = s.thermal)
    ∧ (s.thermal.running = true → s.thermal.lbistOff = false → Does .fanLoopTick s [.od, .live, .log, .can, .link, .sched, .thermal] fun t => ∀ c, c < 4 →
        let o := fanObj c
        t.get o 20 = max (s.get o 3) (t.get o 27) ∧ t.get o 3 = s.get o 3
        ∧ (s.flag 0x3000 10 2 = false → t.get o 27 = 0 ∨ 300 ≤ t.get o 27)
        ∧ (s.get o 5 ≤ 500 → t.get o 22 ≤ 1000)
        ∧ (s.get o 1 = 0 → t.get o 22 = 1000 ∧ (t.fan c).spinup = false)
        ∧ (s.get o 1 ≠ 0 → s.thermal.forcedB = true → t.get o 22 = 1000 ∧ t.get o 25 = s.get o 25)
        ∧ (s.get o 1 ≠ 0 → s.thermal.forcedB = false → s.test.lineTest ≠ some .tacho → t.get o 20 = 0 → t.get o 22 = 0 ∧ t.get o 25 = s.get o 25)
        ∧ (s.get o 1 ≠ 0 → s.thermal.forcedB = false → s.test.lineTest ≠ some .tacho → s.get o 3 ≠ 0 → s.get o 2 ≠ 0 → s.flag o 23 5 = false →
          ((s.fan c).lastTarget = 0 → (t.fan c).spinup = true ∧ t.get o 22 = 1000)
          ∧ ((s.fan c).lastTarget ≠ 0 → (s.fan c).restart = false → (s.fan c).spinup = false → s.fanSpeed c = 0 →
            t.get o 25 = satNat 32 (s.get o 25 + 1) ∧ t.get o 22 = 1000 ∧ t.flag o 23 5 = decide (2 ≤ (s.fan c).stallRun)
              ∧ (t.fan c).spinup = decide ((s.fan c).stallRun < 2))))
    ∧ (∀ c : Fin 4,
      let o := fanObj c.val
      let f := s.fan c.val
      (∀ now, s.get o 2 = 0 ∨ s.thermal.running = false → Does (.tachEdge c now) s [] fun t => t.thermal = s.thermal)
      ∧ (∀ now, s.get o 2 ≠ 0 → s.thermal.running = true → Does (.tachEdge c now) s [.od, .thermal] fun t =>
          t.get o 24 = satNat 32 (s.get o 24 + (f.revEdges + 1) / s.get o 2)
          ∧ (∀ e, f.edges[s.get o 2 - 1]? = some e → e < now → t.get o 21 = satNat 16 ((2 * 960000000 + (now - e)) / (2 * (now - e))))
          ∧ (f.edges.length < s.get o 2 → t.get o 21 = s.get o 21)
          ∧ t.fan c.val = { f with edges := (now :: f.edges).take (s.get o 2 + 1), revEdges := (f.revEdges + 1) % s.get o 2 })
      ∧ Does (.tachTimeout c) s [.od] (fun t => t.get o 21 = 0 ∧ OnlyValues [(o, 21), (o, 23)] s t)
      ∧ (f.spinup = false → Does (.spinupEnd c) s [] fun t => t.thermal = s.thermal)
      ∧ (f.spinup = true → Does (.spinupEnd c) s [.od, .thermal] fun t => t.fan c.val = { f with spinup := false, i := s.feedForward c.val (s.get o 20) }
          ∧ t.get o 22 = (s.feedForward c.val (s.get o 20) / 65536).toNat ∧ OnlyValues [(o, 22), (o, 23)] s t)
      ∧ (s.fanSpeed c.val < 300 → Does (.stallAlarmClear c) s [] fun t => t.thermal = s.thermal)
      ∧ (300 ≤ s.fanSpeed c.val → Does (.stallAlarmClear c) s [.od, .thermal] fun t => t.flag o 23 5 = false ∧ t.fan c.val = { f with stallRun := 0, restart := f.restart || s.flag o 23 5 }
          ∧ OnlyValues [(o, 23)] s t)
      ∧ (s.speedCondition c.val = 0 → Does (.speedAlarm c 0) s [.od] fun t => t.flag o 23 6 = false ∧ OnlyValues [(o, 23)] s t)
      ∧ (∀ k : Fin 3, s.speedCondition c.val ≠ k.val → Does (.speedAlarm c k) s [] fun t => t.thermal = s.thermal)
      ∧ (∀ k : Fin 3, k ≠ 0 → s.speedCondition c.val = k.val → s.get o 1 = 1 → s.flag o 23 6 = false → f.spinup = false → s.flag o 23 5 = false → s.get o 20 ≠ 0 →
        Does (.speedAlarm c k) s [.od, .log, .can, .link, .sched] fun t => t.flag o 23 6 = true ∧ t.get o 22 = s.get o 22)
      ∧ (∀ k, k ≠ 0 → s.get o 1 ≠ 1 ∨ s.flag o 23 6 = true → Does (.speedAlarm c k) s [] fun t => t.thermal = s.thermal)
      ∧ (∀ p, MayWrite s p o 19 →
        (s.curveOk c.val = true → Does (.applyCurve p c) s [.replies, .thermal] fun t => t.fan c.val = { f with curveSet := some (s.stagedCurve c.val) } ∧ t.replies = s.replies.set p.code ⟨0, []⟩)
        ∧ (s.curveOk c.val = false → Does (.applyCurve p c) s [.replies] fun t => t.replies = s.replies.set p.code ⟨Status.incompatible.code, []⟩)
        ∧ Does (.clearAlarms p c) s [.od, .replies, .thermal] (fun t => t.flag o 23 5 = false ∧ t.flag o 23 6 = false ∧ t.replies = s.replies.set p.code ⟨0, []⟩)))
    ∧ (∀ c target, s.get (fanObj c) 5 ≤ 1000 → 65536 * (s.get (fanObj c) 5 : Int) ≤ s.feedForward c target ∧ s.feedForward c target ≤ 65536000)

/-- R645 to R655, R660 to R669: the log opens, writes, clears and is read; the integrator's records and snapshots. -/
def Obligations.LogCommands : Prop :=
  ∀ s : State, Canonical s → s.log.cursors.length = 4 →
    let l := s.log
    let newest := newestGood l.slots (fun _ => true)
    let room : Prop := s.flag 0x4800 10 2 = false ∧ l.dropped.count = 0 ∧ l.queue.length < 32
    (s.up = false ∨ l.opened = true ∨ s.power.writesStopped = true → Does .logOpen s [] fun t => t.log = l)
    ∧ (s.up = true → l.opened = false → s.power.writesStopped = false → Does .logOpen s [.od, .power, .log] fun t => t.log.opened = true
        ∧ OnlyValues [(0x4800, 9), (0x4800, 10), (0x4800, 11)] s t ∧ t.log.slots = l.slots ∧ t.log.cursors = l.cursors ∧ t.flag 0x4800 10 1 = false
        ∧ t.get 0x4800 9 = satNat 16 (l.slots.filter fun e => e.2 == .torn).length
        ∧ (newest = none → t.get 0x4800 11 = 1 ∧ t.log.nextLsn = 0)
        ∧ (∀ n lsn k, newest = some (n, lsn, k) → t.get 0x4800 11 = satNat 32 (k + 1) ∧ t.log.nextLsn = lsn + 1)
        ∧ ∃ late, t.log.queue = s.logRecord 0x0100 s.sessionData ::
            ((if s.aocb.cause.logLost > 0 then [s.logRecord 0x0101 (recordsLostData s.aocb.cause.logLost 1 0)] else [])
            ++ (if s.power.vaonRecord then [s.logRecord 0x0102 0xFFFFFFFF] else [])
            ++ s.power.pendingRecords.map (fun r => s.logRecord 0x0110 (r.2.getD s.aocb.lossDur + (r.1.code <<< 32)))
            ++ l.queue ++ late)
          ∧ late.length = if l.notOpen.count = 0 then 0 else 1)
    ∧ (∀ good, s.up = false ∨ l.opened = false ∨ l.queue = [] → Does (.logRecordCommit good) s [] fun t => t.log = l)
    ∧ (s.up = true → l.opened = true → ∀ r rest, l.queue = r :: rest →
      (∀ good, s.store.flashAbsent = true → s.get 0x4800 13 = 255 → l.dropped.count = 0 → Does (.logRecordCommit good) s [.od, .log, .link, .sched] fun t =>
        t.log.queue = rest ∧ t.log.slots = l.slots ∧ t.log.notOpen = l.notOpen.add s.now ∧ t.get 0x4800 7 = satNat 32 (s.get 0x4800 7 + 1))
      ∧ (∀ good, s.store.flashAbsent = false → s.flag 0x4800 10 0 = true ∨ s.power.writesStopped = true → Does (.logRecordCommit good) s [] fun t => t.log = l)
      ∧ (s.store.flashAbsent = false → s.flag 0x4800 10 0 = false → s.power.writesStopped = false →
        (∀ good, s.eraseBarred = true ∨ s.flag 0x4800 10 2 = true → r.mayFill = false → Does (.logRecordCommit good) s [.od, .log, .link, .sched] fun t =>
          t.log = { l with queue := rest, whileFull := l.whileFull.add s.now } ∧ t.flag 0x4800 10 2 = true ∧ t.get 0x4800 7 = satNat 32 (s.get 0x4800 7 + 1))
        ∧ (s.flag 0x4800 10 2 = false → s.eraseDue = false →
          (s.get 0x4800 13 = 255 → l.dropped.count = 0 ∨ rest.length < 32 → Does (.logRecordCommit true) s [.log] fun t => t.log = { l with
            queue := if l.dropped.count = 0 then rest else rest ++ [s.logRecord 0x0101 (recordsLostData l.dropped.count 0 l.dropped.firstTime)]
            dropped := if l.dropped.count = 0 then l.dropped else ⟨0, 0⟩
            slots := sparseInsert l.slots l.writeSlot (.good l.nextLsn (s.get 0x4800 11) r), writeSlot := nextSlot l.writeSlot
            nextLsn := l.nextLsn + 1, failures := 0 })
          ∧ (l.failures < 7 → Does (.logRecordCommit false) s [.draws, .log] fun t => ∃ bad, (∀ a b c, bad ≠ LogSlot.good a b c) ∧ t.log = { l with
            slots := sparseInsert l.slots l.writeSlot bad, writeSlot := nextSlot l.writeSlot, failures := l.failures + 1 })
          ∧ (7 ≤ l.failures → Does (.logRecordCommit false) s [.od, .draws, .log, .can, .link, .sched] fun t => t.flag 0x4800 10 0 = true ∧ t.log.nextLsn = l.nextLsn))
        ∧ (s.flag 0x4800 10 2 = false → s.eraseDue = true → s.eraseBarred = false → s.get 0x4800 13 = 255 → l.dropped.count = 0 → Does (.logRecordCommit true) s [.od, .log] fun t =>
          t.get 0x4800 12 = satNat 32 (s.get 0x4800 12 + 1) ∧ OnlyValues [(0x4800, 12)] s t ∧ t.log.queue = rest ∧ t.log.nextLsn = l.nextLsn + 1
          ∧ t.log.slots = sparseInsert (l.slots.filter fun e => !(e.1 / 64 == sectorAhead l.writeSlot)) l.writeSlot (.good l.nextLsn (s.get 0x4800 11) r)
          ∧ ∀ c, c < 4 → nth l.cursors c 0 / 64 ≠ sectorAhead l.writeSlot → nth t.log.cursors c 0 = nth l.cursors c 0)))
    ∧ (∀ p, MayWrite s p 0x4800 6 → room → Does (.logClear p) s [.replies, .log] fun t => t.replies = s.replies.set p.code ⟨0, []⟩
        ∧ t.log = { l with queue := l.queue ++ [s.logRecord 0x0103 (l.oldest.getD l.nextLsn)], floor := l.nextLsn + l.queue.length })
    ∧ (∀ p, MayWrite s p 0x4800 6 → s.flag 0x4800 10 2 = true → l.queue = [] → l.dropped.count = 0 → 0 < l.whileFull.count →
        Does (.logClear p) s [.od, .replies, .log] fun t => t.flag 0x4800 10 2 = false ∧ t.log.whileFull.count = 0
          ∧ t.log.floor = l.nextLsn + 1 ∧ ∃ a b, t.log.queue = [a, b] ∧ a.code = 0x0101 ∧ a.data = recordsLostData l.whileFull.count 3 l.whileFull.firstTime ∧ b.code = 0x0103)
    ∧ (∀ p v, MayWrite s p 0x4801 1 →
      (v = 0xFFFFFFFF → Does (.logCursorWrite p v) s [.replies, .log] fun t => t.log = { l with cursors := l.cursors.set p.code l.oldestSlot }
          ∧ t.replies = s.replies.set p.code ⟨0, []⟩)
      ∧ (v < 524288 → Does (.logCursorWrite p v) s [.replies, .log] fun t => t.log = { l with cursors := l.cursors.set p.code v } ∧ t.replies = s.replies.set p.code ⟨0, []⟩)
      ∧ (524288 ≤ v → v ≠ 0xFFFFFFFF → Does (.logCursorWrite p v) s [.replies] fun t => t.replies = s.replies.set p.code ⟨Status.range.code, []⟩))
    ∧ (∀ p n peek, s.up = false → Does (.logWindowRead p n peek) s [.replies] fun t => t.replies = s.replies.set p.code ⟨Status.notReady.code, []⟩)
    ∧ (∀ p n peek, MayRead s p 0x4801 2 →
      let c := nth l.cursors p.code 0xFFFFFFFF
      let ahead := if c = l.writeSlot then [] else l.fromCursor c
      let es := ahead.take (if p = .C then 56 else min (n / 72) 56)
      (l.opened = false → Does (.logWindowRead p n peek) s [.replies] fun t => t.replies = s.replies.set p.code ⟨0, []⟩)
      ∧ (l.opened = true → (p = .D ∧ peek = true) ∨ (p ≠ .C ∧ n < 72) → Does (.logWindowRead p n peek) s [.replies] fun t =>
          t.replies = s.replies.set p.code ⟨0, (es.map logEntry).flatten⟩)
      ∧ (l.opened = true → ¬(p = .D ∧ peek = true) → (p = .C ∨ 72 ≤ n) → Does (.logWindowRead p n peek) s [.od, .replies, .log] fun t =>
          t.replies = s.replies.set p.code ⟨0, (es.map logEntry).flatten⟩
          ∧ t.log = { l with cursors := l.cursors.set p.code (match ahead.drop es.length with
            | [] => l.writeSlot
            | e :: _ => e.1) }
          ∧ OnlyValues [(0x4800, 8)] s t
          ∧ (let damaged := (es.filter fun e => match e.2 with
              | .damaged _ => true
              | _ => false).length
            t.get 0x4800 8 = if damaged = 0 then s.get 0x4800 8 else satNat 32 (s.get 0x4800 8 + damaged)))
      ∧ es.length ≤ 56 ∧ ∀ e ∈ es, e.2 ≠ .torn ∧ ∀ lsn k r, e.2 = .good lsn k r → l.floor ≤ lsn ∧ (logEntry e).take 8 = toLE 4 0 ++ toLE 4 e.1)
    ∧ (∀ p data, MayWrite s p 0x4802 1 →
      (data.length ≠ 20 → Does (.integratorRecord p data) s [.replies] fun t => t.replies = s.replies.set p.code ⟨Status.length.code, []⟩)
      ∧ (data.length = 20 → room → Does (.integratorRecord p data) s [.replies, .log] fun t => t.replies = s.replies.set p.code ⟨0, []⟩
          ∧ t.log = { l with queue := l.queue ++ [s.logRecord 0x0180 (fromLE data)] }))
    ∧ (s.up = false ∨ s.get 0x4800 2 < 2 → Does .snapshotTimer s [] fun t => t.log = l)
    ∧ (s.up = true → 2 ≤ s.get 0x4800 2 →
      (room → Does .snapshotTimer s [.log] fun t => t.log = { l with queue := l.queue ++ [s.logRecord 0x0170 s.snapshotData] })
      ∧ (s.flag 0x4800 10 2 = true → Does .snapshotTimer s [.od, .log, .link, .sched] fun t => t.log = { l with whileFull := l.whileFull.add s.now }
          ∧ t.get 0x4800 7 = satNat 32 (s.get 0x4800 7 + 1))
      ∧ (s.flag 0x4800 10 2 = false → 32 ≤ l.queue.length → l.opened = true → Does .snapshotTimer s [.od, .log, .link, .sched] fun t =>
          t.log = { l with dropped := l.dropped.add s.now } ∧ t.get 0x4800 7 = satNat 32 (s.get 0x4800 7 + 1)))

/-- R670 to R697: the scan, the session and its blocks, Clear, Stop, Verify, Activate, Start, confirmation and rejection, and the health window. -/
def Obligations.UpdateCommands : Prop :=
  ∀ s : State, Canonical s → s.update.targets.length = 5 → s.update.banks.length = 2 → s.update.programs.length = 4 → s.update.slots.length = 2 →
    s.update.found.length = 2 → s.update.running < 2 →
    let may := fun (p : Port) (i sub : Nat) => MayWrite s p i sub ∧ s.update.scanned = true ∧ ∀ x, s.update.session = some x → x.port = p.code
    let answers := fun (p : Port) (st : Status) (u : State) => u.replies = s.replies.set p.code ⟨st.code, []⟩
    let all : List Part := [.od, .replies, .log, .link, .sched, .update]
    let image := fun (sub : Nat) => s.targetBank sub
    (s.up = false ∨ s.update.scanned = true ∨ s.store.flashAbsent = true → Brings .imageScan s [] fun u => u.update = s.update)
    ∧ (s.up = true → s.update.scanned = false → s.store.flashAbsent = false → Brings .imageScan s [.od, .log, .link, .sched, .update] fun u =>
        u.update.scanned = true ∧ u.update.session = s.update.session ∧ u.update.banks = s.update.banks ∧ u.update.slots = s.update.slots
        ∧ (s.update.inTrial = true → u.target 1 = ⟨0, .trial, 0⟩)
        ∧ ∀ sub, 1 ≤ sub → sub ≤ 5 → (sub = 1 → s.update.inTrial = false) → u.get 0x1F57 sub = (u.target sub).word
          ∧ ((image sub).erasing = true → u.target sub = ⟨0, .partial_, 0⟩)
          ∧ ((image sub).erasing = false →
            (2 ≤ sub → (image sub).blocks = [] → u.target sub = ⟨0, .idle, 0⟩)
            ∧ (∀ h n, (image sub).block 0 = some h → (image sub).leading (maxBlocks sub) = n →
              (n = blockField h 20 4 → headerError sub h = 0 → u.target sub = ⟨n, .complete, 0⟩)
              ∧ (n ≠ blockField h 20 4 → u.target sub = ⟨n, .partial_, 0⟩))))
    ∧ (∀ p sub o d ok, MayWrite s p 0x1F50 sub → MayWrite s p 0x1F51 sub → (s.update.scanned = false ∨ ∃ x, s.update.session = some x ∧ x.port ≠ p.code) →
        Brings (.programDataWrite p sub o d ok) s [.replies] (answers p .busy) ∧ Brings (.programControlStop p sub) s [.replies] (answers p .busy)
        ∧ Brings (.programControlStart p sub) s [.replies] (answers p .busy) ∧ Brings (.programControlClear p sub) s [.replies] (answers p .busy)
        ∧ Brings (.programControlVerify p sub) s [.replies] (answers p .busy) ∧ Brings (.programControlActivate p sub ok) s [.replies] (answers p .busy))
    ∧ (∀ p sub, may p 0x1F50 sub → 1 ≤ sub → sub ≤ 5 → s.power.writesStopped = false →
      let t := s.target sub
      (∀ o d ok, s.slotLive sub = true → Brings (.programDataWrite p sub o d ok) s [.replies] (answers p .live))
      ∧ (∀ o d ok, s.slotLive sub = false → t.stage ∈ [.complete, .verifying, .verified, .activated] →
        Brings (.programDataWrite p sub o d ok) s [.replies] (answers p .length))
      ∧ (∀ blk, s.update.session = some ⟨sub, p.code, blk⟩ → s.slotLive sub = false → t.stage = .downloading →
        (∀ o d ok, o ≠ 4096 * t.offset + blk.length → Brings (.programDataWrite p sub (some o) d ok) s [.replies] (answers p .range))
        ∧ (∀ o d ok, (o = none ∨ o = some (4096 * t.offset + blk.length)) → blk.length + d.length < 4096 → t.offset < s.imageBlocks sub →
          Brings (.programDataWrite p sub o d ok) s all fun u => answers p .ok u ∧ u.target sub = t
            ∧ u.update.session = some ⟨sub, p.code, blk ++ d⟩ ∧ u.targetBank sub = image sub)
        ∧ (∀ o d, (o = none ∨ o = some (4096 * t.offset + blk.length)) → blk.length + d.length = 4096 → d ≠ [] → t.offset < s.imageBlocks sub →
          (∀ ok, blockOk t.offset (blk ++ d) = false → Brings (.programDataWrite p sub o d ok) s all fun u => answers p .notStored u
            ∧ u.target sub = { t with error := 10 } ∧ u.update.session = some ⟨sub, p.code, []⟩ ∧ u.targetBank sub = image sub)
          ∧ (blockOk t.offset (blk ++ d) = true → (t.offset = 0 → headerError sub (blk ++ d) = 0) →
            (Brings (.programDataWrite p sub o d false) s all fun u => answers p .hardware u ∧ u.target sub = { t with stage := .failed, error := 9 })
            ∧ Brings (.programDataWrite p sub o d true) s all fun u => answers p .ok u ∧ u.update.session = some ⟨sub, p.code, []⟩
              ∧ (u.targetBank sub).block t.offset = some (blk ++ d) ∧ (∀ k, k ≠ t.offset → (u.targetBank sub).block k = (image sub).block k)
              ∧ ∀ h, (u.targetBank sub).block 0 = some h → u.target sub = ⟨t.offset + 1, if t.offset + 1 = blockField h 20 4 then .complete else .downloading, 0⟩))))
    ∧ (∀ p sub, may p 0x1F51 sub → 1 ≤ sub → sub ≤ 5 →
      (s.update.session = none → Brings (.programControlStop p sub) s [.replies] (answers p .incompatible))
      ∧ (∀ x, s.update.session = some x → 1 ≤ x.sub → x.sub ≤ 5 → (s.target x.sub).stage ≠ .erasing → (s.target x.sub).stage ≠ .failed →
        Brings (.programControlStop p sub) s all fun u => answers p .ok u ∧ u.update.session = none
          ∧ u.target x.sub = ⟨(s.target x.sub).offset, .partial_, 0⟩ ∧ u.update.banks = s.update.banks ∧ u.update.programs = s.update.programs)
      ∧ ((s.target 1).stage ≠ .activated → sub = 1 → Brings (.programControlStart p sub) s [.replies] (answers p .incompatible))
      ∧ ((s.target 1).stage = .activated → sub = 1 →
        Brings (.programControlStart p sub) s [.od, .draws, .replies, .aocb, .store, .log, .can, .link, .mem, .sched, .tabor, .sense, .reg, .seq, .update, .test] fun u =>
          answers p .ok u ∧ u.update.restarting = true ∧ u.update.slots = s.update.slots)
      ∧ (2 ≤ sub → s.progState (sub - 1) ≠ 1 → s.progState (sub - 1) ≠ 3 → Brings (.programControlStart p sub) s [.replies] (answers p .incompatible))
      ∧ (2 ≤ sub → s.handlerRuns (sub - 1) = true → Brings (.programControlStart p sub) s [.replies] (answers p .incompatible))
      ∧ (2 ≤ sub → s.progState (sub - 1) ∈ [1, 3] → s.prog (sub - 1) ≠ none → s.handlerRuns (sub - 1) = false → s.coreFree = false → Brings (.programControlStart p sub) s [.replies, .tabor] fun u =>
          answers p .ok u ∧ ∃ x, u.prog (sub - 1) = some x ∧ x.pendingCmd = 3)
      ∧ (s.power.writesStopped = false →
        (s.targetIn .erasing ≠ none → Brings (.programControlClear p sub) s [.replies] (answers p .busy))
        ∧ (s.targetIn .erasing = none → sub = 1 → s.update.inTrial = true ∨ (s.target 1).stage = .activated →
          Brings (.programControlClear p sub) s [.replies] (answers p .incompatible))
        ∧ (s.targetIn .erasing = none → s.slotLive sub = true → Brings (.programControlClear p sub) s [.replies] (answers p .live))
        ∧ (s.targetIn .erasing = none → (sub = 1 → s.update.inTrial = false ∧ (s.target 1).stage ≠ .activated) → s.slotLive sub = false →
          Brings (.programControlClear p sub) s [.od, .log, .link, .sched, .update] fun u => u.target sub = ⟨0, .erasing, 0⟩ ∧ u.update.session = some ⟨sub, p.code, []⟩
            ∧ u.targetBank sub = ⟨[], true⟩ ∧ u.get 0x1F57 sub = 0x101
            ∧ ∀ x, s.update.session = some x → x.sub ≠ sub → 1 ≤ x.sub → x.sub ≤ 5 → (s.target x.sub).stage ≠ .failed →
              u.target x.sub = ⟨(s.target x.sub).offset, .partial_, 0⟩))
      ∧ ((s.target sub).stage ∉ [.complete, .verified, .failed] ∨ ((s.target sub).stage = .failed ∧ (s.target sub).error = 9) →
          Brings (.programControlVerify p sub) s [.replies] (answers p .incompatible))
      ∧ ((s.target sub).stage ∈ [.complete, .verified, .failed] → ¬((s.target sub).stage = .failed ∧ (s.target sub).error = 9) →
          Brings (.programControlVerify p sub) s all fun u => answers p .ok u ∧ u.target sub = ⟨(s.target sub).offset, .verifying, 0⟩)
      ∧ (s.power.writesStopped = false →
        (∀ ok, sub ≠ 1 ∨ (s.target 1).stage ≠ .verified → Brings (.programControlActivate p sub ok) s [.replies] (answers p .incompatible))
        ∧ (sub = 1 → (s.target 1).stage = .verified →
          (Brings (.programControlActivate p sub false) s all fun u => answers p .hardware u ∧ (u.target 1).stage = .failed ∧ (u.target 1).error = 9 ∧ u.update.slots = s.update.slots)
          ∧ Brings (.programControlActivate p sub true) s all fun u => answers p .ok u ∧ (u.target 1).stage = .activated
            ∧ u.update.record = some ⟨(s.update.record.map BootRecord.generation).getD 0 + 1, 1 - s.update.running, true, 0,
                (s.bankNow (1 - s.update.running)).imgver, (s.bankNow (1 - s.update.running)).digest, 0, false⟩
            ∧ ∀ k, s.update.inForceSlot = some k → nth u.update.slots k none = nth s.update.slots k none)))
    ∧ (s.power.step = .loader → s.power.hardReset = false →
      (∀ p sub o d ok, sub ≠ 1 ∨ p = .K ∨ p = .T → Brings (.programDataWrite p sub o d ok) s [.replies] (answers p .noObject)
        ∧ Brings (.programControlStop p sub) s [.replies] (answers p .noObject) ∧ Brings (.programControlStart p sub) s [.replies] (answers p .noObject)
        ∧ Brings (.programControlClear p sub) s [.replies] (answers p .noObject) ∧ Brings (.programControlVerify p sub) s [.replies] (answers p .noObject)
        ∧ Brings (.programControlActivate p sub ok) s [.replies] (answers p .noObject))
      ∧ (∀ p, p = .C ∨ p = .D → s.checkWrite p 0x1F50 1 = .ok → s.checkWrite p 0x1F51 1 = .ok →
        (s.store.flashAbsent = true → ∀ o d ok, Brings (.programDataWrite p 1 o d ok) s [.replies] (answers p .hardware)
          ∧ Brings (.programControlClear p 1) s [.replies] (answers p .hardware))
        ∧ (s.store.flashAbsent = false → s.update.session = none → s.power.writesStopped = false → (s.target 1).stage = .verified → ∀ r, s.update.record = some r → r.bank < 2 →
          Brings (.programControlActivate p 1 true) s all fun u => answers p .ok u ∧ (u.target 1).stage = .activated
            ∧ u.update.record = some ⟨r.generation + 1, 1 - r.bank, false, 4, (s.bankNow (1 - r.bank)).imgver, (s.bankNow (1 - r.bank)).digest, 0, false⟩)))
    ∧ (∀ ok, s.targetIn .erasing = none ∨ s.power.writesStopped = true → Brings (.clearEraseComplete ok) s [] fun u => u.update = s.update)
    ∧ (∀ sub, s.targetIn .erasing = some sub → s.power.writesStopped = false →
      (Brings (.clearEraseComplete true) s [.od, .draws, .replies, .log, .can, .link, .mem, .sched, .tabor, .update, .test] fun u => u.update.asker = .none
        ∧ u.targetBank sub = ⟨[], false⟩ ∧ u.target sub = ⟨0, if s.update.session = none then .partial_ else .downloading, 0⟩)
      ∧ Brings (.clearEraseComplete false) s [.od, .draws, .replies, .log, .can, .link, .mem, .sched, .tabor, .update, .test] fun u => u.update.asker = .none
        ∧ u.target sub = ⟨0, .failed, 9⟩)
    ∧ (∀ bad, s.targetIn .verifying = none → Brings (.verifyComplete bad) s [] fun u => u.update = s.update)
    ∧ (∀ bad sub, s.targetIn .verifying = some sub →
      let e := s.verifyTarget sub bad
      (e = 0 → Brings (.verifyComplete bad) s [.od, .log, .link, .sched, .update] fun u => u.target sub = ⟨(s.target sub).offset, .verified, 0⟩)
      ∧ (e ≠ 0 → Brings (.verifyComplete bad) s [.od, .log, .can, .link, .sched, .update] fun u => u.target sub = ⟨(s.target sub).offset, .failed, e⟩)
      ∧ ((image sub).blocks ≠ [] → e = 0 → ∃ h t, (image sub).block 0 = some h ∧ headerError sub h = 0
        ∧ (∀ k, k < blockField h 20 4 → k ∉ bad ∧ ∃ b, (image sub).block k = some b ∧ blockOk k b = true)
        ∧ (image sub).block (blockField h 20 4 - 1) = some t ∧ blockField t 0 4 = 0x54524C52 ∧ blockField t 4 4 = blockField h 20 4
        ∧ s.keyProgrammed (nth h 7 0) = true ∧ s.keyHash (nth h 7 0) = some (fromLE (sha256 ((t.drop 104).take 64)))
        ∧ ecdsaVerify ((t.drop 104).take 64) (sha256 (t.take 40)) ((t.drop 40).take 64) = true))
    ∧ (∀ p, MayWrite s p 0x4900 5 →
      ((s.target 1).stage ≠ .trial → Brings (.updateConfirm p) s [.replies] (answers p .incompatible) ∧ ∀ b, Brings (.updateReject p b) s [.replies] (answers p .incompatible))
      ∧ ((s.target 1).stage = .trial → s.power.writesStopped = false → s.store.flashAbsent = false →
        (Brings (.updateConfirm p) s all fun u => answers p .ok u ∧ (u.target 1).stage = .idle ∧ u.update.windowOpen = false ∧ u.get 0x4900 7 = 0
          ∧ u.get 0x4900 10 = satNat 32 (s.get 0x4900 10 + 1)
          ∧ u.update.record = s.update.record.map (fun r => { r with confirm := true }))
        ∧ ((nth s.update.banks (1 - s.update.running) ⟨[], false⟩) = ⟨[], false⟩ → ∀ b,
          (b.verifies = false → Brings (.updateReject p b) s [.replies, .update] (answers p .incompatible))
          ∧ (b.verifies = true →
            Brings (.updateReject p b) s [.od, .draws, .replies, .aocb, .store, .log, .can, .link, .mem, .sched, .tabor, .sense, .reg, .seq, .update, .test] fun u =>
              answers p .ok u ∧ u.update.restarting = true
              ∧ u.update.record = some ⟨(s.update.record.map BootRecord.generation).getD 0 + 1, 1 - s.update.running, false, 1, b.imgver, b.digest, 0, false⟩))))
    ∧ (s.up = false ∨ s.update.windowOpen = false → Brings .healthWindowEnd s [] fun u => u.update = s.update)
    ∧ (s.up = true → s.update.windowOpen = true →
      (s.get 0x4900 2 = 0 → Brings .healthWindowEnd s [.od, .update] fun u => u.update = { s.update with windowOpen := false } ∧ OnlyValues [(0x4900, 7)] s u)
      ∧ (s.get 0x4900 2 ≠ 0 → s.selected &&& (31 - s.criteria) = 0 → s.power.writesStopped = true → Brings .healthWindowEnd s [] fun u => u.update = s.update)
      ∧ (s.get 0x4900 2 ≠ 0 → s.selected &&& (31 - s.criteria) = 0 → s.power.writesStopped = false →
        Brings .healthWindowEnd s [.od, .log, .link, .sched, .update] fun u =>
          (u.target 1).stage = .idle ∧ u.get 0x4900 10 = satNat 32 (s.get 0x4900 10 + 1) ∧ u.update.record = s.update.record.map (fun r => { r with confirm := true }))
      ∧ (s.get 0x4900 2 ≠ 0 → s.selected &&& (31 - s.criteria) ≠ 0 → Brings .healthWindowEnd s [.od, .log, .link, .sched, .update] fun u =>
          u.update = { s.update with windowOpen := false } ∧ u.get 0x4900 10 = s.get 0x4900 10))

/-- R701 to R722: in-service LBIST, the JTAG instructions, line tests, lifecycle, unlock and the OTP slots. -/
def Obligations.SelfTestAndAccess : Prop :=
  ∀ s : State, Canonical s → s.test.hashes.length = 3 → s.pack.keys.length = 4 →
    let t0 := s.test
    let answers := fun (p : Port) (st : Status) (u : State) => u.replies = s.replies.set p.code ⟨st.code, []⟩
    (s.up = false → Does .inserviceCycleStart s [] fun u => u.test = t0)
    ∧ (s.up = true → t0.cycleRuns = true → Does .inserviceCycleStart s [.test] fun u => u.test = { t0 with cycleDue := true })
    ∧ (s.up = true → t0.cycleRuns = false → setBits 7 (s.get 0x4A00 1) ≠ [] → Does .inserviceCycleStart s [.test] fun u => u.test = { t0 with
        cycleRuns := true, cycleDue := false, todo := setBits 7 (s.get 0x4A00 1), current := none, cycleFailed := false, cycleTested := false
        cycleFrames := 0 })
    ∧ (let may := s.up = true ∧ t0.cycleRuns = true ∧ t0.segRuns = false ∧ t0.granted = false ∧ s.beat.phase = .quiet ∧ t0.tap.drives = false ∧ s.clocks.pllB = true
      (∀ us, ¬may → Does (.inserviceSegment us) s [] fun u => u.test = t0)
      ∧ (may → (∀ us x, t0.current = some x → s.slotEligible x.slice = false → Does (.inserviceSegment us) s [] fun u => u.test = t0)
        ∧ (∀ us x, t0.current = some x → s.slotEligible x.slice = true →
          (us < 160 ∨ s.quietHolds = false → Does (.inserviceSegment us) s [.od, .test] fun u => u.test = { t0 with granted := true } ∧ u.get 0x4A00 7 = satNat 32 (s.get 0x4A00 7 + 1)
            ∧ OnlyValues [(0x4A00, 7)] s u)
          ∧ (160 ≤ us → s.quietHolds = true → Does (.inserviceSegment us) s [.od, .sense, .test] fun u => u.test = { t0 with granted := true, segRuns := true }
            ∧ OnlyValues [(0x4A00, 9)] s u ∧ u.sense = { s.sense with tested := s.sense.tested || x.slice == 4 }))
        ∧ (∀ us k rest, t0.current = none → t0.todo = k :: rest → s.slotEligible k = true → 160 ≤ us → s.quietHolds = true → Does (.inserviceSegment us) s [.od, .sense, .test] fun u =>
            u.test = { t0 with todo := rest, current := some ⟨k, 0, false⟩, granted := true, segRuns := true })
        ∧ (∀ us k, t0.current = none → t0.todo = [k] → k < 7 → t0.cycleDue = false → s.slotEligible k = false → Does (.inserviceSegment us) s [.od, .test] fun u =>
            u.get 0x4A01 (k + 1) = 3 * 2 ^ 30 ∧ u.get 0x4A00 7 = satNat 32 (s.get 0x4A00 7 + 1) ∧ u.test.cycleRuns = false
            ∧ u.get 0x4A00 5 = if t0.cycleTested && !t0.cycleFailed then satNat 32 (s.get 0x4A00 5 + 1) else s.get 0x4A00 5)))
    ∧ (∀ good, t0.current = none ∨ t0.segRuns = false → Does (.segmentComplete good) s [] fun u => u.test = t0)
    ∧ (∀ x, t0.current = some x → t0.segRuns = true → x.slice < 7 →
      (∀ good, x.segment < 6 → Does (.segmentComplete good) s [.od, .test] fun u => u.test = { t0 with segRuns := false, current := some { x with segment := x.segment + 1 } }
        ∧ OnlyValues [(0x4A00, 9)] s u)
      ∧ (6 ≤ x.segment →
        (t0.todo ≠ [] → Does (.segmentComplete true) s [.od, .test] fun u => u.test = { t0 with segRuns := false, current := none, cycleTested := true }
          ∧ u.get 0x4A01 (x.slice + 1) = 2 ^ 30 ∧ OnlyValues [(0x4A00, 9), (0x4A01, x.slice + 1)] s u)
        ∧ (t0.todo = [] → t0.cycleRuns = true → t0.cycleFailed = false → Does (.segmentComplete true) s [.od, .test] fun u =>
          u.get 0x4A00 5 = satNat 32 (s.get 0x4A00 5 + 1) ∧ u.test.cycleDue = false
          ∧ (t0.cycleDue = false ∨ setBits 7 (s.get 0x4A00 1) = [] → u.test.cycleRuns = false)
          ∧ (t0.cycleDue = true → u.test.todo = setBits 7 (s.get 0x4A00 1) ∧ (setBits 7 (s.get 0x4A00 1) ≠ [] → u.test.cycleRuns = true)))
        ∧ (x.retest = false → Does (.segmentComplete false) s [.od, .test] fun u => u.test = { t0 with segRuns := false, current := some ⟨x.slice, 0, true⟩ }
          ∧ u.get 0x4A00 6 = satNat 32 (s.get 0x4A00 6 + 1) ∧ OnlyValues [(0x4A00, 6), (0x4A00, 9)] s u)
        ∧ (x.retest = true → Does (.segmentComplete false) s [.od, .log, .can, .link, .sched, .test] fun u => u.flag 0x4A00 4 x.slice = true
          ∧ u.get 0x4A00 6 = satNat 32 (s.get 0x4A00 6 + 1) ∧ u.get 0x4A01 (x.slice + 1) = 2 * 2 ^ 30 ∧ u.test.degradeNext = setBit t0.degradeNext x.slice
          ∧ u.test.current = none ∧ (t0.cycleDue = false → u.test.cycleFailed = true))))
    ∧ (∀ n w r d, s.power.vaonValid = false → ∀ i ∈ [Instr.jtagIdcode, .jtagSamplePreload n, .jtagExtest, .jtagClamp, .jtagHighz, .jtagExtestPulse, .jtagExtestTrain,
        .jtagLbistResult, .jtagAocb n, .jtagBypass n, .trstNLow, .testLogicReset], Does i s [] (fun u => u.test = t0 ∧ u.tdo = s.tdo)
        ∧ Brings (.jtagDap w r d) s [] fun u => u.test = t0 ∧ u.tdo = s.tdo)
    ∧ (s.power.vaonValid = true →
      Does .trstNLow s [.tdo, .test] (fun u => u.tdo = 0 ∧ u.test = { t0 with tap := .idcode, session := false })
      ∧ Does .testLogicReset s [.tdo, .test] (fun u => u.tdo = 0
          ∧ u.test = { t0 with tap := .idcode, session := true, dap := { t0.dap with orw := t0.dap.orw % 2 ^ 63 + 2 ^ 63 } })
      ∧ (t0.tap.drives = false →
        Does .jtagIdcode s [.tdo, .test] (fun u => u.tdo = 0x11680F1F ∧ u.test = { t0 with tap := .idcode })
        ∧ Does .jtagLbistResult s [.tdo, .test] (fun u => u.tdo = s.get 0x4A00 3 ∧ u.test = { t0 with tap := .lbistResult })
        ∧ (∀ k < 256, Does (.jtagAocb (4 * k)) s [.tdo, .test] fun u => u.tdo = 2 ^ 32 * k + s.aocbWord (4 * k) ∧ u.test = { t0 with tap := .aocb })
        ∧ (∀ op, op ∉ [1, 2, 3, 4, 5, 6, 7, 0x10, 0x11, 0x12] → Does (.jtagBypass op) s [.tdo, .test] fun u => u.tdo = 0 ∧ u.test = { t0 with tap := .bypass })
        ∧ (∀ e ∈ [(0x01, Tap.idcode), (0x11, .lbistResult), (0x12, .aocb)], Does (.jtagBypass e.1) s [.tdo, .test] fun u =>
          u.tdo = 0 ∧ u.test = { t0 with tap := e.2 })
        ∧ (∀ b, t0.access ≠ .locked → s.lbistHalted = false → Does (.jtagSamplePreload b) s [.draws, .tdo, .test] fun u => u.draws = s.draws + 1 ∧ u.tdo < 2 ^ 146
          ∧ u.test = { t0 with tap := .samplePreload, boundary := b % 2 ^ 146 })
        ∧ (∀ b, t0.access = .locked → Does (.jtagSamplePreload b) s [.tdo, .test] fun u => u.tdo = 0
          ∧ u.test = { t0 with tap := .bypass, dap := { t0.dap with denied := true } })
        ∧ (∀ w r d, s.lbistHalted = true → Brings (.jtagDap w r d) s [.tdo, .test] fun u => u.tdo = 0 ∧ u.test = { t0 with tap := .bypass })
        ∧ (s.lbistHalted = false →
          (∀ d, Brings (.jtagDap false 0 d) s [.tdo, .test] fun u => u.test = { t0 with tap := .dap }
            ∧ u.tdo = 128 * b2n t0.dap.denied + 64 * b2n t0.dap.busy + 16 * t0.access.code + (if t0.field then 7 else 3))
          ∧ (∀ w r d, 1 ≤ r → r ≤ 6 ∨ r = 9 → t0.access = .locked → Brings (.jtagDap w r d) s [.tdo, .test] fun u => u.tdo = 2 ^ 32 * r
            ∧ u.test = { t0 with tap := .dap, dap := { t0.dap with denied := true } })
          ∧ (t0.access ≠ .locked → t0.dap.busy = false → ∀ d, d < 2 ^ 32 →
            Brings (.jtagDap true 1 d) s [.tdo, .test] (fun u => u.test = { t0 with
              tap := .dap, dap := { t0.dap with denied := false, orw := t0.dap.orw / 2 ^ 32 * 2 ^ 32 + d } })
            ∧ Brings (.jtagDap true 3 d) s [.tdo, .test] (fun u => u.test = { t0 with
              tap := .dap, dap := { t0.dap with denied := false, data := t0.dap.data / 2 ^ 32 * 2 ^ 32 + d } })
            ∧ Brings (.jtagDap false 5 d) s [.tdo, .test] (fun u => u.tdo = 2 ^ 32 * 5 + (2 ^ 31 * b2n t0.dap.done + t0.dap.status % 256))
            ∧ Brings (.jtagDap false 9 d) s [.tdo, .test] (fun u => u.tdo = 2 ^ 32 * 9 + s.core.cstWord))))
      ∧ (∀ e ∈ [(Instr.jtagExtest, Tap.extest), (.jtagClamp, .clamp), (.jtagHighz, .highz), (.jtagExtestPulse, .extestPulse), (.jtagExtestTrain, .extestTrain)],
        (t0.access = .full → s.lbistHalted = false → (∀ r ∈ s.reg.rails, r.enabled = false) → s.get 0x4301 1 = 0 → t0.lineTest = none →
          Does e.1 s [.od, .tdo, .test] fun u => u.tdo = 0 ∧ u.test = { t0 with tap := e.2, segRuns := false } ∧ u.tollToggles = false
            ∧ u.get 0x2102 6 = if t0.segRuns then satNat 32 (s.get 0x2102 6 + 1) else s.get 0x2102 6)
        ∧ (t0.tap.drives = false → t0.access ≠ .full → Does e.1 s [.tdo, .test] fun u => u.tdo = 0
            ∧ u.test = { t0 with tap := .bypass, dap := { t0.dap with denied := true } })
        ∧ (t0.tap.drives = false → t0.access = .full → (∃ r ∈ s.reg.rails, r.enabled = true) ∨ s.get 0x4301 1 ≠ 0 ∨ t0.lineTest ≠ none →
          Does e.1 s [.tdo, .test] fun u => u.tdo = 0 ∧ u.test = { t0 with tap := .bypass }))
      ∧ (t0.tap.drives = true → s.aocb.pstate ≠ .ship → ∀ op, op ∉ [1, 2, 3, 4, 5, 6, 7, 0x10, 0x11, 0x12] → ∃ u, exec (.jtagBypass op) s = .next u ∧ u.test.tap = .bypass ∧ u.aocb.cause.source = 7 ∧ u.aocb.cause.qual = 0
        ∧ (s.inEmergency = false → s.power.step ≠ .idle → s.power.step ≠ .supplyFailed → u.power.hardReset = true)))
    ∧ (∀ p, MayWrite s p 0x4A10 1 →
      let start := fun (i : Instr) (x : LineTest) (c : Prop) =>
        (t0.lineTest ≠ none → Does i s [.replies] (answers p .busy))
        ∧ (t0.lineTest = none → ¬c → Does i s [.replies] (answers p .incompatible))
        ∧ (t0.lineTest = none → c → Does i s [.od, .replies, .test] fun u => answers p .ok u ∧ u.test = { t0 with lineTest := some x } ∧ u.get 0x4A10 2 = 1
          ∧ OnlyValues [(0x4A10, 2), (0x4A10, 3)] s u
          ∧ u.lineResults = s.lineResults.take x.bytes.1 ++ List.replicate x.bytes.2 0 ++ s.lineResults.drop (x.bytes.1 + x.bytes.2))
      start (.electrodeTest p) .electrode (s.aocb.pstate = .service ∧ s.aocb.target = .service ∧ s.seq.run = none ∧ s.get 0x3241 1 = 0 ∧ s.flag 0x3202 6 5 = false)
      ∧ start (.pwmLineTest p) .pwm (s.aocb.pstate = .keepalive ∧ s.onVin = true ∧ ∀ n < 16, (s.rail n).enabled = false ∧ s.get (railObj n) 14 < 50)
      ∧ start (.tachometerLineTest p) .tacho (s.level ≠ none ∧ ∃ c < 4, s.get (fanObj c) 1 ≠ 0))
    ∧ (∀ codes, t0.lineTest = none → Does (.lineTestComplete codes) s [] fun u => u.test = t0)
    ∧ (∀ codes x, t0.lineTest = some x → Does (.lineTestComplete codes) s [.od, .log, .can, .link, .sched, .touch, .test] fun u =>
        u.test = { t0 with lineTest := none } ∧ u.get 0x4A10 2 = (if s.lineTestMay x then 2 else 3) ∧ u.get 0x4A10 4 = (u.lineResults.filter faultCode).length
        ∧ (∀ k, k < 238 → (∀ e ∈ codes, e.1 ≠ k) ∨ k < x.bytes.1 ∨ x.bytes.1 + x.bytes.2 ≤ k → nth u.lineResults k 0 = nth s.lineResults k 0)
        ∧ (∀ k v, codes = [(k, v)] → x.bytes.1 ≤ k → k < x.bytes.1 + x.bytes.2 → v ≤ 8 → nth u.lineResults k 0 = v)
        ∧ ((∀ e ∈ codes, e.2 < 2) → u.can = { s.can with tpdos := u.can.tpdos, txq := u.can.txq } ∧ u.log = s.log)
        ∧ (x ≠ .electrode → u.touch = s.touch) ∧ (x = .electrode → ∀ e ∈ u.touch.ages, e.2.stale = true))
    ∧ (∀ p v, MayWrite s p 0x5F00 2 →
      let may := t0.field = false ∧ (nth t0.hashes 2 .empty).programmed = true ∧ s.onVin = true
      (v ≠ 0x4649454C → Does (.lifecycleToField p v) s [.replies] (answers p .range))
      ∧ (¬may → Does (.lifecycleToField p 0x4649454C) s [.replies] (answers p .incompatible))
      ∧ (may → Does (.lifecycleToField p 0x4649454C) s [.od, .replies, .log, .can, .link, .sched, .test] fun u => answers p .ok u
          ∧ u.test = { t0 with field := true, access := .locked, session := false }))
    ∧ (∀ p, MayWrite s p 0x5F00 5 → t0.serial < 2 ^ 64 →
      Does (.unlockNonce p) s [.od, .draws, .replies, .test] (fun u => ∃ n, n < 2 ^ 256 ∧ u.test = { t0 with nonce := some n } ∧ u.draws = s.draws + 1
        ∧ toLE 40 (u.get 0x5F00 4) = toLE 32 n ++ toLE 8 t0.serial ∧ OnlyValues [(0x5F00, 4)] s u ∧ answers p .ok u)
      ∧ Does (.relock p) s [.replies, .test] fun u => answers p .ok u ∧ u.test = { t0 with access := if t0.field then .locked else .full, session := false })
    ∧ (∀ p d, MayWrite s p 0x5F00 6 →
      (d.length ≠ 132 → Does (.unlockResponse p d) s [.replies] (answers p .length))
      ∧ (d.length = 132 → t0.lockout = true → Does (.unlockResponse p d) s [.replies] (answers p .busy))
      ∧ (d.length = 132 → t0.lockout = false → nth d 0 0 ≠ 1 → nth d 0 0 ≠ 2 → Does (.unlockResponse p d) s [.replies] (answers p .range))
      ∧ (d.length = 132 → t0.lockout = false → nth d 0 0 = 1 ∨ nth d 0 0 = 2 →
        (∀ n, t0.nonce = some n → nth t0.hashes 2 .empty = .key (fromLE (sha256 ((d.drop 4).take 64))) →
          ecdsaVerify ((d.drop 4).take 64) (sha256 (toLE 32 n ++ toLE 8 t0.serial ++ [nth d 0 0])) ((d.drop 68).take 64) = true →
          Does (.unlockResponse p d) s [.od, .replies, .log, .can, .link, .sched, .test] fun u => answers p .ok u ∧ u.test.nonce = none ∧ u.test.session = true
            ∧ u.test.failures = 0 ∧ u.test.access.code = (if t0.field then nth d 0 0 else 2) ∧ u.get 0x5F00 8 = satNat 32 (s.get 0x5F00 8 + 1))
        ∧ ((t0.nonce = none ∨ ∀ h, nth t0.hashes 2 .empty ≠ .key h) →
          Does (.unlockResponse p d) s [.od, .replies, .test] fun u => answers p .incompatible u ∧ u.get 0x5F00 7 = satNat 32 (s.get 0x5F00 7 + 1)
            ∧ u.test = { t0 with nonce := none, failures := if 2 ≤ t0.failures then 0 else t0.failures + 1, lockout := decide (2 ≤ t0.failures) })))
    ∧ Does .unlockLockoutExpiry s [.test] (fun u => u.test = { t0 with lockout := false })
    ∧ (∀ p v rb, MayWrite s p 0x5F10 1 →
      (127 < v → Does (.programNodeIdBase p v rb) s [.replies] (answers p .range))
      ∧ (v ≤ 127 → 4 ≤ t0.baseFields.length ∨ s.onPack = true → Does (.programNodeIdBase p v rb) s [.replies] (answers p .incompatible))
      ∧ (v ≤ 127 → t0.baseFields.length < 4 → s.onPack = false →
        Does (.programNodeIdBase p v true) s [.draws, .replies, .test] (fun u => answers p .ok u ∧ u.test = { t0 with baseFields := t0.baseFields ++ [v] } ∧ u.nodeBase = v)
        ∧ Does (.programNodeIdBase p v false) s [.draws, .replies, .test] fun u => answers p .hardware u ∧ u.test.baseFields.length = t0.baseFields.length + 1
          ∧ u.test.baseFields.take t0.baseFields.length = t0.baseFields))
    ∧ (∀ p v, v < 2 ^ 256 →
      let program := fun (i : Bool → Instr) (slot : KeySlot) (l : Part) (after : KeySlot → State → Prop) =>
        (∀ rb, slot.programmed = true ∨ s.onPack = true → Does (i rb) s [.replies] (answers p .incompatible))
        ∧ (slot.programmed = false → s.onPack = false → Does (i true) s [.replies, l] (fun u => answers p .ok u ∧ after (.key v) u)
          ∧ Does (i false) s [.replies, l] fun u => answers p .hardware u ∧ after .bad u)
      (MayWrite s p 0x5F10 7 → program (.programIntegratorKeyHash p v) (nth t0.hashes 1 .empty) .test fun k u => u.test = { t0 with hashes := t0.hashes.set 1 k })
      ∧ (MayWrite s p 0x5F10 8 → program (.programDebugKeyHash p v) (nth t0.hashes 2 .empty) .test fun k u => u.test = { t0 with hashes := t0.hashes.set 2 k })
      ∧ ∀ n : Fin 4, MayWrite s p 0x5F10 (3 + n.val) →
        program (.programPackKey p n v) (nth s.pack.keys n.val .empty) .pack fun k u => u.pack = { s.pack with keys := s.pack.keys.set n.val k })
end

