-- ==== Sys2Proof/Laws/Settle.lean ====
section
/-!
SUPPORT. What follows a command of itself: IMMEDIATE TPDOs touch only the scheduler's entries and the transmit queue, and where nothing waits nothing goes on.
-/

namespace Sys2Proof

open Machine

theorem Only.refl (l : List Part) (s : State) : Only l s s := fun p _ => by cases p <;> first | rfl | exact ⟨rfl, rfl⟩

/-- Frames compose. -/
theorem Only.trans {l : List Part} {s t u : State} (h : Only l s t) (g : Only l t u) : Only l s u := by
  intro p hp
  have h := h p hp
  have g := g p hp
  cases p <;> simp only [Part.same] at * <;> simp_all

/-- A record update changes the parts it names. -/
theorem Only.update {l : List Part} {s t : State} {x_pending x_od x_live x_draws x_replies x_tdo x_power x_clocks x_aocb x_beat x_store x_log x_can x_link x_mem x_sched x_tabor x_sense x_touch x_reg x_seq x_pack x_thermal x_update x_test}
    (h_pending : x_pending = t.pending) (h_od : Part.od ∈ l ∨ x_od = t.od) (h_live : Part.live ∈ l ∨ x_live = t.live)
    (h_draws : Part.draws ∈ l ∨ x_draws = t.draws) (h_replies : Part.replies ∈ l ∨ x_replies = t.replies) (h_tdo : Part.tdo ∈ l ∨ x_tdo = t.tdo)
    (h_power : Part.power ∈ l ∨ x_power = t.power) (h_clocks : Part.clocks ∈ l ∨ x_clocks = t.clocks) (h_aocb : Part.aocb ∈ l ∨ x_aocb = t.aocb)
    (h_beat : Part.beat ∈ l ∨ x_beat = t.beat) (h_store : Part.store ∈ l ∨ x_store = t.store) (h_log : Part.log ∈ l ∨ x_log = t.log)
    (h_can : (Part.can ∈ l ∧ Part.pdo ∈ l) ∨ x_can = t.can) (h_link : Part.link ∈ l ∨ x_link = t.link) (h_mem : Part.mem ∈ l ∨ x_mem = t.mem)
    (h_sched : Part.sched ∈ l ∨ x_sched = t.sched) (h_tabor : Part.tabor ∈ l ∨ x_tabor = t.tabor) (h_sense : Part.sense ∈ l ∨ x_sense = t.sense)
    (h_touch : Part.touch ∈ l ∨ x_touch = t.touch) (h_reg : Part.reg ∈ l ∨ x_reg = t.reg) (h_seq : Part.seq ∈ l ∨ x_seq = t.seq)
    (h_pack : Part.pack ∈ l ∨ x_pack = t.pack) (h_thermal : Part.thermal ∈ l ∨ x_thermal = t.thermal) (h_update : Part.update ∈ l ∨ x_update = t.update)
    (h_test : Part.test ∈ l ∨ x_test = t.test)
    (h : Only l s t) :
    Only l s ⟨x_pending, x_od, x_live, x_draws, x_replies, x_tdo, x_power, x_clocks, x_aocb, x_beat, x_store, x_log, x_can, x_link, x_mem, x_sched, x_tabor, x_sense, x_touch, x_reg, x_seq, x_pack, x_thermal, x_update, x_test⟩ := by
  intro p hp
  have hp' := h p hp
  cases p <;> simp only [Part.same] at * <;> simp_all

/-- A frame with fewer exceptions is a frame with more. -/
theorem Only.mono {l m : List Part} {s t : State} (h : Only l s t) (g : ∀ p ∈ l, p ∈ m) : Only m s t :=
  fun p hp => h p (fun hl => hp (g p hl))

/-- What a function may do to a state: only the listed parts differ, and every table keeps its canonical form. -/
structure Moves (l : List Part) (s t : State) : Prop where
  only : Only l s t
  keeps : Canonical s → Canonical t

/-- A choice between two states of one frame has that frame. -/
theorem Moves.ite {l : List Part} {s a b : State} (c : Prop) [Decidable c] (h : Moves l s a) (g : Moves l s b) :
    Moves l s (if c then a else b) := by split <;> assumption

/-- A choice between two pairs of one frame has that frame. -/
theorem Moves.ite_fst {α : Type} {l : List Part} {s : State} {a b : State × α} (c : Prop) [Decidable c] (h : Moves l s a.1) (g : Moves l s b.1) :
    Moves l s (if c then a else b).1 := by split <;> assumption

theorem Moves.refl (l : List Part) (s : State) : Moves l s s := ⟨Only.refl l s, id⟩

theorem Moves.trans {l : List Part} {s t u : State} (h : Moves l s t) (g : Moves l t u) : Moves l s u := ⟨h.only.trans g.only, fun c => g.keeps (h.keeps c)⟩

/-- A state met on the way has the frame. -/
theorem Moves.use {l : List Part} {s t : State} (x : State) (h : Moves l s x) (g : Moves l s x → Moves l s t) : Moves l s t := g h

/-- The state of a pair that an equation names. -/
theorem Moves.of_pair {α : Type} {l : List Part} {s t : State} {p : State × α} {b : α} (h : p = (t, b)) (g : Moves l s p.1) : Moves l s t := by
  rw [h] at g; exact g

/-- A fold whose step keeps a frame keeps it. -/
theorem Moves.foldl {α : Type} {l : List Part} {s t : State} {f : State → α → State} {as : List α} (h : ∀ u a, Moves l s u → Moves l s (f u a))
    (g : Moves l s t) : Moves l s (as.foldl f t) := by
  induction as generalizing t with
  | nil => exact g
  | cons a as ih => exact ih (h t a g)

/-- A fold over pairs whose step keeps a frame keeps it. -/
theorem Moves.foldl_fst {α β : Type} {l : List Part} {s : State} {t : State × β} {f : State × β → α → State × β} {as : List α}
    (h : ∀ u a, Moves l s u.1 → Moves l s (f u a).1) (g : Moves l s t.1) : Moves l s (as.foldl f t).1 := by
  induction as generalizing t with
  | nil => exact g
  | cons a as ih => exact ih (h t a g)

/-- A frame with fewer exceptions is a frame with more. -/
theorem Moves.mono {l m : List Part} {s t : State} (h : Moves l s t) (g : ∀ p ∈ l, p ∈ m) : Moves m s t := ⟨h.only.mono g, h.keeps⟩

/-- A function of a smaller frame, applied to a state of the frame. -/
theorem Moves.app {l m : List Part} {s t u : State} (g : Moves l t u) (hl : ∀ p ∈ l, p ∈ m) (h : Moves m s t) : Moves m s u :=
  h.trans (g.mono hl)

end Sys2Proof

namespace Sys2Proof.Machine

/-- Only the scheduler's entries of the TPDOs and the transmit queue differ. -/
def PdoOnly (s t : State) : Prop := ∃ tp tx, t = { s with can := { s.can with tpdos := tp, txq := tx } }

theorem PdoOnly.refl (s : State) : PdoOnly s s := ⟨s.can.tpdos, s.can.txq, rfl⟩

theorem PdoOnly.trans {s t u : State} (h : PdoOnly s t) (g : PdoOnly t u) : PdoOnly s u := by
  obtain ⟨a, b, rfl⟩ := h
  obtain ⟨c, d, rfl⟩ := g
  exact ⟨c, d, rfl⟩

theorem setTpdo_pdoOnly (s : State) (n : Nat) (t : Tpdo) : PdoOnly s (s.setTpdo n t) := ⟨_, s.can.txq, rfl⟩

theorem enqueueTx_pdoOnly (s : State) (k : TxKind) (f : CanFrame) : PdoOnly s (enqueueTx s k f) := ⟨s.can.tpdos, _, rfl⟩

theorem setTxq_pdoOnly (s : State) (q : List TxFrame) : PdoOnly s { s with can := { s.can with txq := q } } := ⟨s.can.tpdos, q, rfl⟩

theorem queueTpdo_pdoOnly (s : State) (n : Nat) (w : Bool) (d : List Nat) : PdoOnly s (queueTpdo s n w d) :=
  enqueueTx_pdoOnly s _ _

theorem sendImmediate_pdoOnly (s : State) (n : Nat) : PdoOnly s (sendImmediate s n) := by
  unfold sendImmediate
  dsimp only
  split
  · exact .refl s
  · exact (setTpdo_pdoOnly s n _).trans ((setTxq_pdoOnly _ _).trans (queueTpdo_pdoOnly _ _ _ _))

theorem seeImmediate_pdoOnly (s : State) (n : Nat) : PdoOnly s (seeImmediate s n) := by
  unfold seeImmediate
  dsimp only
  split
  · exact .refl s
  · split
    · exact sendImmediate_pdoOnly s n
    · exact (setTpdo_pdoOnly s n _).trans (sendImmediate_pdoOnly _ n)

/-- A fold of steps each of which changes nothing else changes nothing else. -/
theorem foldl_pdoOnly {α : Type} (f : State → α → State) (h : ∀ s a, PdoOnly s (f s a)) (l : List α) :
    ∀ s, PdoOnly s (l.foldl f s) := by
  induction l with
  | nil => exact PdoOnly.refl
  | cons a l ih => exact fun s => (h s a).trans (ih (f s a))

/-- IMMEDIATE TPDOs change only the scheduler's entries and the transmit queue (R229). -/
theorem immediates_pdoOnly (s : State) : PdoOnly s (immediates s) := by
  unfold immediates
  split
  · exact foldl_pdoOnly _ seeImmediate_pdoOnly _ _
  · exact .refl s

/-- Outside operational no TPDO is sent. -/
theorem immediates_of_not_operational {s : State} (h : s.can.nmt ≠ .operational) : immediates s = s := by
  simp [immediates, h]

/-- A change of the scheduler's entries and the transmit queue alone leaves every other part of the state. -/
theorem PdoOnly.only {s t : State} (h : PdoOnly s t) : Only [.pdo] s t := by
  obtain ⟨a, b, rfl⟩ := h
  intro p hp
  cases p <;> first | rfl | simp at hp

/-- IMMEDIATE TPDOs leave every part of the state but the scheduler's (R229). -/
theorem immediates_only (s : State) : Only [.pdo] s (immediates s) := (immediates_pdoOnly s).only

/-- IMMEDIATE TPDOs leave every part of the state but the scheduler's, and every table's form (R229). -/
theorem immediates_moves (s : State) : Moves [.pdo] s (immediates s) :=
  ⟨immediates_only s, fun h => by
    obtain ⟨a, b, e⟩ := immediates_pdoOnly s
    rw [e]; exact h⟩

/-- Objects' values stand through IMMEDIATE TPDOs. -/
@[simp] theorem immediates_get (s : State) (i n : Nat) : (immediates s).get i n = s.get i n := by
  obtain ⟨a, b, h⟩ := immediates_pdoOnly s
  rw [h]; rfl

/-- IMMEDIATE TPDOs change no value. -/
theorem OnlyValues.of_immediates {l : List (Nat × Nat)} {s t : State} (h : OnlyValues l s t) : OnlyValues l s (immediates t) :=
  fun i n hn hi => by rw [immediates_get]; exact h i n hn hi

/-! ### What waits -/

theorem pushOn_of_none {s : State} (h : s.sched.pushWait = none) : pushOn s = s := by simp [pushOn, h]

theorem settleInbound_of_nil {s : State} (h : s.link.inq = []) : settleInbound s = s := by simp [settleInbound, h, drainInbound]

theorem settleBudget_of_not_due {s : State} (h : s.tabor.budgetDue = false) (he : s.tabor.eccDue = false) (hd : s.tabor.endDue = false) :
    settleBudget s = s := by simp [settleBudget, h, he, hd]

/-- Without an INIT that waits, none is entered. -/
theorem beginInit_of_none_waiting {s : State} (h : ∀ p ∈ s.tabor.programs, ∀ g, p = some g → g.pendingCmd ≠ 3) (n : Nat) :
    beginInit s n = s := by
  unfold beginInit
  split
  · rfl
  · rename_i x hx
    have hm : (some x) ∈ s.tabor.programs := by
      simp only [State.prog, nth, List.getD_eq_getElem?_getD] at hx
      cases hg : s.tabor.programs[n - 1]? with
      | none => simp [hg] at hx
      | some y => simp [hg] at hx; exact hx ▸ List.mem_of_getElem? hg
    simp [h _ hm x rfl]

theorem foldl_id {α β : Type} (f : β → α → β) (s : β) (h : ∀ a, f s a = s) (l : List α) : l.foldl f s = s := by
  induction l with
  | nil => rfl
  | cons a l ih => rw [List.foldl_cons, h, ih]

theorem beginInits_of_none_waiting {s : State} (h : ∀ p ∈ s.tabor.programs, ∀ g, p = some g → g.pendingCmd ≠ 3) :
    beginInits s = s := foldl_id _ s (fun k => beginInit_of_none_waiting h (k + 1)) _

/-- Pages of which none has come leave the state. -/
theorem fillsFreed_of_none {s : State} (h : ∀ f ∈ s.mem.fills, f.arrived = none) : fillsFreed s = s := by
  unfold fillsFreed
  generalize s.mem.fills = l at h
  induction l with
  | nil => rfl
  | cons f l ih =>
    rw [List.foldl_cons, h f (by simp)]
    exact ih fun g hg => h g (by simp [hg])

/-- Where no device waits for a bank, none is served. -/
theorem bankFreed_of_none {s : State} (h : NothingHeld s) (hq : s.link.inq = []) : bankFreed s = s := by
  obtain ⟨h1, h2, h3, h4⟩ := h
  have hr : ringsFreed s = s := by unfold ringsFreed; rw [h1]; exact congrArg (fun x => { s with sched := { s.sched with held := x } }) h1.symm
  have hi : imagesFreed s = s := by unfold imagesFreed; rw [h2]; exact congrArg (fun x => { s with mem := { s.mem with heldImage := x } }) h2.symm
  have hs : (if s.link.pops.isEmpty then s else servePops s) = s := by rw [h3]; rfl
  unfold bankFreed
  rw [hr, fillsFreed_of_none h4, hi]
  dsimp only
  rw [hs, settleInbound_of_nil hq]
  simp

/-- Where nothing waits, nothing goes on of itself. -/
theorem settleAll_of_calm {s : State} (h : Calm s) : settleAll s = s := by
  obtain ⟨h1, h2, h3, h4, h5, h6, h7⟩ := h
  rw [settleAll, bankFreed_of_none h7 h2, pushOn_of_none h1, settleInbound_of_nil h2, settleBudget_of_not_due h3 h4 h5, beginInits_of_none_waiting h6]

end Sys2Proof.Machine
end

