-- ==== Sys2Proof/Laws/Sparse.lean ====
section
/-!
SUPPORT. The laws of sparse tables: reading after writing, and that writing keeps the canonical form.
-/

namespace Sys2Proof.Machine

variable {α : Type}

/-- A key that no entry of a rising table reaches reads as unlisted. -/
theorem sparseGet_of_sortedFrom (m : List (Nat × α)) (k j : Nat) (d : α) (h : sparseSortedFrom (some j) m = true) (hk : k ≤ j) :
    sparseGet m k d = d := by
  induction m generalizing j with
  | nil => rfl
  | cons e m ih =>
    obtain ⟨i, v⟩ := e
    simp only [sparseSortedFrom, Bool.and_eq_true, decide_eq_true_eq] at h
    have hne : i ≠ k := by omega
    simp [sparseGet, hne, ih i h.2 (by omega)]

/-- Rising above a bound is rising above a smaller one. -/
theorem sparseSortedFrom_mono (m : List (Nat × α)) (i j : Nat) (h : sparseSortedFrom (some j) m = true) (hij : i ≤ j) :
    sparseSortedFrom (some i) m = true := by
  cases m with
  | nil => rfl
  | cons e m =>
    simp only [sparseSortedFrom, Bool.and_eq_true, decide_eq_true_eq] at *
    exact ⟨by omega, h.2⟩

/-- A rising table rises. -/
theorem sparseSortedFrom_none (m : List (Nat × α)) (j : Nat) (h : sparseSortedFrom (some j) m = true) :
    sparseSortedFrom none m = true := by
  cases m with
  | nil => rfl
  | cons e m =>
    simp only [sparseSortedFrom, Bool.and_eq_true] at *
    exact h.2

theorem sparseGet_insert_same (m : List (Nat × α)) (k : Nat) (v d : α) : sparseGet (sparseInsert m k v) k d = v := by
  induction m with
  | nil => simp [sparseInsert, sparseGet]
  | cons e m ih =>
    obtain ⟨j, w⟩ := e
    unfold sparseInsert
    split
    · simp [sparseGet]
    · split
      · simp [sparseGet]
      · simp_all [sparseGet]

theorem sparseGet_insert_other (m : List (Nat × α)) (k l : Nat) (v d : α) (h : k ≠ l) :
    sparseGet (sparseInsert m k v) l d = sparseGet m l d := by
  induction m with
  | nil => simp [sparseInsert, sparseGet, h]
  | cons e m ih =>
    obtain ⟨j, w⟩ := e
    unfold sparseInsert
    split
    · simp [sparseGet, h]
    · split
      · rename_i hj
        subst hj
        simp [sparseGet, h]
      · simp [sparseGet, ih]

theorem sparseGet_erase_other (m : List (Nat × α)) (k l : Nat) (d : α) (h : k ≠ l) :
    sparseGet (sparseErase m k) l d = sparseGet m l d := by
  induction m with
  | nil => rfl
  | cons e m ih =>
    obtain ⟨j, w⟩ := e
    unfold sparseErase
    split
    · rename_i hj
      subst hj
      simp [sparseGet, h]
    · simp [sparseGet, ih]

theorem sparseGet_erase_same (m : List (Nat × α)) (k : Nat) (d : α) (o : Option Nat) (h : sparseSortedFrom o m = true) :
    sparseGet (sparseErase m k) k d = d := by
  induction m generalizing o with
  | nil => rfl
  | cons e m ih =>
    obtain ⟨j, w⟩ := e
    have h' : sparseSortedFrom (some j) m = true := by
      cases o <;> simp [sparseSortedFrom] at h
      · exact h
      · exact h.2
    unfold sparseErase
    split
    · rename_i hj
      subst hj
      exact sparseGet_of_sortedFrom m j j d h' (by omega)
    · rename_i hj
      simp [sparseGet, hj, ih (some j) h']

/-! ### The canonical form -/

theorem sparseSortedFrom_insert (m : List (Nat × α)) (k : Nat) (v : α) (o : Option Nat) (h : sparseSortedFrom o m = true)
    (ho : ∀ j, o = some j → j < k) : sparseSortedFrom o (sparseInsert m k v) = true := by
  induction m generalizing o with
  | nil => cases o <;> simp_all [sparseInsert, sparseSortedFrom]
  | cons e m ih =>
    obtain ⟨j, w⟩ := e
    have h' : sparseSortedFrom (some j) m = true := by
      cases o <;> simp [sparseSortedFrom] at h
      · exact h
      · exact h.2
    unfold sparseInsert
    split
    · cases o <;> simp_all [sparseSortedFrom]
    · split
      · rename_i hj
        subst hj
        cases o <;> simp_all [sparseSortedFrom]
      · have hk : j < k := by omega
        have := ih (some j) h' (by intro i hi; cases hi; exact hk)
        cases o <;> simp_all [sparseSortedFrom]

theorem sparseSortedFrom_erase (m : List (Nat × α)) (k : Nat) (o : Option Nat) (h : sparseSortedFrom o m = true) :
    sparseSortedFrom o (sparseErase m k) = true := by
  induction m generalizing o with
  | nil => exact h
  | cons e m ih =>
    obtain ⟨j, w⟩ := e
    have h' : sparseSortedFrom (some j) m = true := by
      cases o <;> simp [sparseSortedFrom] at h
      · exact h
      · exact h.2
    unfold sparseErase
    split
    · cases o with
      | none => exact sparseSortedFrom_none m j h'
      | some i =>
        simp only [sparseSortedFrom, Bool.and_eq_true, decide_eq_true_eq] at h
        exact sparseSortedFrom_mono m i j h' (by omega)
    · have := ih (some j) h'
      cases o <;> simp_all [sparseSortedFrom]

theorem sparse_all_insert (m : List (Nat × α)) (k : Nat) (v : α) (p : Nat × α → Bool) (h : m.all p = true) (hv : p (k, v) = true) :
    (sparseInsert m k v).all p = true := by
  induction m with
  | nil => simp [sparseInsert, hv]
  | cons e m ih =>
    obtain ⟨j, w⟩ := e
    simp only [List.all_cons, Bool.and_eq_true] at h
    unfold sparseInsert
    split
    · simp [hv, h.1, h.2]
    · split
      · simp [hv, h.2]
      · simp [h.1, ih h.2]

theorem sparse_all_erase (m : List (Nat × α)) (k : Nat) (p : Nat × α → Bool) (h : m.all p = true) :
    (sparseErase m k).all p = true := by
  induction m with
  | nil => exact h
  | cons e m ih =>
    obtain ⟨j, w⟩ := e
    simp only [List.all_cons, Bool.and_eq_true] at h
    unfold sparseErase
    split
    · exact h.2
    · simp [h.1, ih h.2]

theorem sparseSortedFrom_filter (m : List (Nat × α)) (p : Nat × α → Bool) (o : Option Nat) (h : sparseSortedFrom o m = true) :
    sparseSortedFrom o (m.filter p) = true := by
  induction m generalizing o with
  | nil => exact h
  | cons e m ih =>
    obtain ⟨j, w⟩ := e
    have h' : sparseSortedFrom (some j) m = true := by
      cases o <;> simp [sparseSortedFrom] at h
      · exact h
      · exact h.2
    rw [List.filter_cons]
    split
    · have := ih (some j) h'
      cases o <;> simp_all [sparseSortedFrom]
    · apply ih
      cases o with
      | none => exact sparseSortedFrom_none m j h'
      | some i =>
        simp only [sparseSortedFrom, Bool.and_eq_true, decide_eq_true_eq] at h
        exact sparseSortedFrom_mono m i j h' (by omega)

variable [DecidableEq α]

/-- A write leaves every other entry as it reads. -/
theorem sparseGet_set_other (m : List (Nat × α)) (k l : Nat) (v d e : α) (h : k ≠ l) :
    sparseGet (sparseSet m k v d) l e = sparseGet m l e := by
  unfold sparseSet
  split
  · exact sparseGet_erase_other m k l e h
  · exact sparseGet_insert_other m k l v e h

/-- A read after a write to the same place gives the value written. -/
theorem sparseGet_set_same (m : List (Nat × α)) (k : Nat) (v d : α) (h : sparseSortedFrom none m = true) :
    sparseGet (sparseSet m k v d) k d = v := by
  unfold sparseSet
  split
  · rename_i hv
    rw [hv]
    exact sparseGet_erase_same m k d none h
  · exact sparseGet_insert_same m k v d

/-- A write keeps the canonical form. -/
theorem sparseWf_set (m : List (Nat × α)) (k : Nat) (v : α) (d : Nat → α) (h : sparseWf m d = true) :
    sparseWf (sparseSet m k v (d k)) d = true := by
  simp only [sparseWf, Bool.and_eq_true] at *
  unfold sparseSet
  split
  · exact ⟨sparseSortedFrom_erase m k none h.1, sparse_all_erase m k _ h.2⟩
  · rename_i hv
    exact ⟨sparseSortedFrom_insert m k v none h.1 (by simp), sparse_all_insert m k v _ h.2 (by simp [hv])⟩

/-- Dropping entries keeps the canonical form. -/
theorem sparseWf_filter (m : List (Nat × α)) (p : Nat × α → Bool) (d : Nat → α) (h : sparseWf m d = true) :
    sparseWf (m.filter p) d = true := by
  simp only [sparseWf, Bool.and_eq_true] at *
  refine ⟨sparseSortedFrom_filter m p none h.1, ?_⟩
  rw [List.all_eq_true] at *
  exact fun e he => h.2 e ((List.mem_filter.mp he).1)

omit [DecidableEq α] in
/-- A table whose entries are kept by their key reads a kept key as before and any other as the default. -/
theorem sparseGet_filter (m : List (Nat × α)) (q : Nat → Bool) (k : Nat) (d : α) :
    sparseGet (m.filter (fun e => q e.1)) k d = if q k then sparseGet m k d else d := by
  induction m with
  | nil => simp [sparseGet]
  | cons e m ih =>
    obtain ⟨j, v⟩ := e
    by_cases hq : q j <;> by_cases hj : j = k <;> simp_all [sparseGet]

end Sys2Proof.Machine
end

