-- ==== Sys2Proof/Laws/State.lean ====
section
/-!
SUPPORT. The state's small laws: which parts each named update leaves, one lemma each, and reading an object's value after writing one.
-/

namespace Sys2Proof.Machine

/-! ### Reading after writing -/

/-- Two objects have one key only where they are one object. -/
theorem key_inj {i j m n : Nat} (hm : m < 256) (hn : n < 256) : key i m = key j n ↔ i = j ∧ m = n := by
  unfold key; omega

/-- A write leaves every other object's value. -/
theorem State.get_set_other (s : State) {i m j n v : Nat} (hm : m < 256) (hn : n < 256) (h : (i, m) ≠ (j, n)) :
    (s.set i m v).get j n = s.get j n :=
  sparseGet_set_other _ _ _ _ _ _ (by rw [Ne, key_inj hm hn]; simpa using h)

/-- A read after a write gives the value written. -/
theorem State.get_set_same (s : State) (i n v : Nat) (h : Values.wf s.od = true) : (s.set i n v).get i n = v := by
  simp only [Values.wf, sparseWf, Bool.and_eq_true] at h
  exact sparseGet_set_same _ _ _ _ h.1

/-- A write of an object keeps the table of values canonical. -/
theorem State.set_wf (s : State) (i n v : Nat) (h : Values.wf s.od = true) : Values.wf (s.set i n v).od = true :=
  sparseWf_set s.od (key i n) v keyDefault h

/-- A value taken in force keeps its table canonical. -/
theorem State.setInForce_wf (s : State) (i n v : Nat) (h : Values.wf s.live = true) : Values.wf (s.setInForce i n v).live = true :=
  sparseWf_set s.live (key i n) v keyDefault h

/-- A byte written is the byte read. -/
theorem Mem.readByte_writeByte_same (m : Mem) (a : Nat) (b : Byte) (h : Memory.wf m.sram = true) : (m.writeByte a b).readByte a = b := by
  simp only [Memory.wf, sparseWf, Bool.and_eq_true] at h
  exact sparseGet_set_same _ _ _ _ h.1

/-- A byte written leaves every other byte. -/
theorem Mem.readByte_writeByte_other (m : Mem) {a c : Nat} (b : Byte) (h : a ≠ c) : (m.writeByte a b).readByte c = m.readByte c :=
  sparseGet_set_other _ _ _ _ _ _ h

/-- A byte written keeps the SRAM canonical. -/
theorem Mem.writeByte_wf (m : Mem) (a : Nat) (b : Byte) (h : Memory.wf m.sram = true) : Memory.wf (m.writeByte a b).sram = true :=
  sparseWf_set m.sram a b (fun _ => 0) h

/-- Bytes written keep the SRAM canonical. -/
theorem Mem.writeBytes_wf (l : List Nat) (m : Mem) (a : Nat) (h : Memory.wf m.sram = true) : Memory.wf (m.writeBytes a l).sram = true := by
  induction l generalizing m a with
  | nil => exact h
  | cons b l ih => exact ih _ _ (m.writeByte_wf a _ h)

/-- A store keeps the SRAM canonical. -/
theorem Mem.store_wf (m : Mem) (a : Nat) (l : List Nat) (h : Memory.wf m.sram = true) : Memory.wf (m.store a l).sram = true :=
  m.writeBytes_wf l a h

/-- The bytes outside a block written stand. -/
theorem Mem.readByte_writeBytes_other (l : List Nat) (m : Mem) (a c : Nat) (h : c < a ∨ a + l.length ≤ c) :
    (m.writeBytes a l).readByte c = m.readByte c := by
  induction l generalizing m a with
  | nil => rfl
  | cons b l ih =>
    simp only [List.length_cons] at h
    rw [Mem.writeBytes, ih _ _ (by omega), m.readByte_writeByte_other _ (by omega)]

/-- The SRAM after reset is canonical. -/
theorem Memory.reset_wf : Memory.wf State.reset.mem.sram = true := rfl

/-! ### One lemma per part and update -/

@[simp] theorem State.set_pending (s : State) (i n v : Nat) : (s.set i n v).pending = s.pending := rfl
@[simp] theorem State.set_live (s : State) (i n v : Nat) : (s.set i n v).live = s.live := rfl
@[simp] theorem State.set_draws (s : State) (i n v : Nat) : (s.set i n v).draws = s.draws := rfl
@[simp] theorem State.set_replies (s : State) (i n v : Nat) : (s.set i n v).replies = s.replies := rfl
@[simp] theorem State.set_tdo (s : State) (i n v : Nat) : (s.set i n v).tdo = s.tdo := rfl
@[simp] theorem State.set_power (s : State) (i n v : Nat) : (s.set i n v).power = s.power := rfl
@[simp] theorem State.set_clocks (s : State) (i n v : Nat) : (s.set i n v).clocks = s.clocks := rfl
@[simp] theorem State.set_aocb (s : State) (i n v : Nat) : (s.set i n v).aocb = s.aocb := rfl
@[simp] theorem State.set_beat (s : State) (i n v : Nat) : (s.set i n v).beat = s.beat := rfl
@[simp] theorem State.set_store (s : State) (i n v : Nat) : (s.set i n v).store = s.store := rfl
@[simp] theorem State.set_log (s : State) (i n v : Nat) : (s.set i n v).log = s.log := rfl
@[simp] theorem State.set_can (s : State) (i n v : Nat) : (s.set i n v).can = s.can := rfl
@[simp] theorem State.set_link (s : State) (i n v : Nat) : (s.set i n v).link = s.link := rfl
@[simp] theorem State.set_mem (s : State) (i n v : Nat) : (s.set i n v).mem = s.mem := rfl
@[simp] theorem State.set_sched (s : State) (i n v : Nat) : (s.set i n v).sched = s.sched := rfl
@[simp] theorem State.set_tabor (s : State) (i n v : Nat) : (s.set i n v).tabor = s.tabor := rfl
@[simp] theorem State.set_sense (s : State) (i n v : Nat) : (s.set i n v).sense = s.sense := rfl
@[simp] theorem State.set_touch (s : State) (i n v : Nat) : (s.set i n v).touch = s.touch := rfl
@[simp] theorem State.set_reg (s : State) (i n v : Nat) : (s.set i n v).reg = s.reg := rfl
@[simp] theorem State.set_seq (s : State) (i n v : Nat) : (s.set i n v).seq = s.seq := rfl
@[simp] theorem State.set_pack (s : State) (i n v : Nat) : (s.set i n v).pack = s.pack := rfl
@[simp] theorem State.set_thermal (s : State) (i n v : Nat) : (s.set i n v).thermal = s.thermal := rfl
@[simp] theorem State.set_update (s : State) (i n v : Nat) : (s.set i n v).update = s.update := rfl
@[simp] theorem State.set_test (s : State) (i n v : Nat) : (s.set i n v).test = s.test := rfl

@[simp] theorem State.setInForce_pending (s : State) (i n v : Nat) : (s.setInForce i n v).pending = s.pending := rfl
@[simp] theorem State.setInForce_od (s : State) (i n v : Nat) : (s.setInForce i n v).od = s.od := rfl
@[simp] theorem State.setInForce_draws (s : State) (i n v : Nat) : (s.setInForce i n v).draws = s.draws := rfl
@[simp] theorem State.setInForce_replies (s : State) (i n v : Nat) : (s.setInForce i n v).replies = s.replies := rfl
@[simp] theorem State.setInForce_tdo (s : State) (i n v : Nat) : (s.setInForce i n v).tdo = s.tdo := rfl
@[simp] theorem State.setInForce_power (s : State) (i n v : Nat) : (s.setInForce i n v).power = s.power := rfl
@[simp] theorem State.setInForce_clocks (s : State) (i n v : Nat) : (s.setInForce i n v).clocks = s.clocks := rfl
@[simp] theorem State.setInForce_aocb (s : State) (i n v : Nat) : (s.setInForce i n v).aocb = s.aocb := rfl
@[simp] theorem State.setInForce_beat (s : State) (i n v : Nat) : (s.setInForce i n v).beat = s.beat := rfl
@[simp] theorem State.setInForce_store (s : State) (i n v : Nat) : (s.setInForce i n v).store = s.store := rfl
@[simp] theorem State.setInForce_log (s : State) (i n v : Nat) : (s.setInForce i n v).log = s.log := rfl
@[simp] theorem State.setInForce_can (s : State) (i n v : Nat) : (s.setInForce i n v).can = s.can := rfl
@[simp] theorem State.setInForce_link (s : State) (i n v : Nat) : (s.setInForce i n v).link = s.link := rfl
@[simp] theorem State.setInForce_mem (s : State) (i n v : Nat) : (s.setInForce i n v).mem = s.mem := rfl
@[simp] theorem State.setInForce_sched (s : State) (i n v : Nat) : (s.setInForce i n v).sched = s.sched := rfl
@[simp] theorem State.setInForce_tabor (s : State) (i n v : Nat) : (s.setInForce i n v).tabor = s.tabor := rfl
@[simp] theorem State.setInForce_sense (s : State) (i n v : Nat) : (s.setInForce i n v).sense = s.sense := rfl
@[simp] theorem State.setInForce_touch (s : State) (i n v : Nat) : (s.setInForce i n v).touch = s.touch := rfl
@[simp] theorem State.setInForce_reg (s : State) (i n v : Nat) : (s.setInForce i n v).reg = s.reg := rfl
@[simp] theorem State.setInForce_seq (s : State) (i n v : Nat) : (s.setInForce i n v).seq = s.seq := rfl
@[simp] theorem State.setInForce_pack (s : State) (i n v : Nat) : (s.setInForce i n v).pack = s.pack := rfl
@[simp] theorem State.setInForce_thermal (s : State) (i n v : Nat) : (s.setInForce i n v).thermal = s.thermal := rfl
@[simp] theorem State.setInForce_update (s : State) (i n v : Nat) : (s.setInForce i n v).update = s.update := rfl
@[simp] theorem State.setInForce_test (s : State) (i n v : Nat) : (s.setInForce i n v).test = s.test := rfl

@[simp] theorem State.countBy_pending (s : State) (i n k : Nat) : (s.countBy i n k).pending = s.pending := rfl
@[simp] theorem State.countBy_live (s : State) (i n k : Nat) : (s.countBy i n k).live = s.live := rfl
@[simp] theorem State.countBy_draws (s : State) (i n k : Nat) : (s.countBy i n k).draws = s.draws := rfl
@[simp] theorem State.countBy_replies (s : State) (i n k : Nat) : (s.countBy i n k).replies = s.replies := rfl
@[simp] theorem State.countBy_tdo (s : State) (i n k : Nat) : (s.countBy i n k).tdo = s.tdo := rfl
@[simp] theorem State.countBy_power (s : State) (i n k : Nat) : (s.countBy i n k).power = s.power := rfl
@[simp] theorem State.countBy_clocks (s : State) (i n k : Nat) : (s.countBy i n k).clocks = s.clocks := rfl
@[simp] theorem State.countBy_aocb (s : State) (i n k : Nat) : (s.countBy i n k).aocb = s.aocb := rfl
@[simp] theorem State.countBy_beat (s : State) (i n k : Nat) : (s.countBy i n k).beat = s.beat := rfl
@[simp] theorem State.countBy_store (s : State) (i n k : Nat) : (s.countBy i n k).store = s.store := rfl
@[simp] theorem State.countBy_log (s : State) (i n k : Nat) : (s.countBy i n k).log = s.log := rfl
@[simp] theorem State.countBy_can (s : State) (i n k : Nat) : (s.countBy i n k).can = s.can := rfl
@[simp] theorem State.countBy_link (s : State) (i n k : Nat) : (s.countBy i n k).link = s.link := rfl
@[simp] theorem State.countBy_mem (s : State) (i n k : Nat) : (s.countBy i n k).mem = s.mem := rfl
@[simp] theorem State.countBy_sched (s : State) (i n k : Nat) : (s.countBy i n k).sched = s.sched := rfl
@[simp] theorem State.countBy_tabor (s : State) (i n k : Nat) : (s.countBy i n k).tabor = s.tabor := rfl
@[simp] theorem State.countBy_sense (s : State) (i n k : Nat) : (s.countBy i n k).sense = s.sense := rfl
@[simp] theorem State.countBy_touch (s : State) (i n k : Nat) : (s.countBy i n k).touch = s.touch := rfl
@[simp] theorem State.countBy_reg (s : State) (i n k : Nat) : (s.countBy i n k).reg = s.reg := rfl
@[simp] theorem State.countBy_seq (s : State) (i n k : Nat) : (s.countBy i n k).seq = s.seq := rfl
@[simp] theorem State.countBy_pack (s : State) (i n k : Nat) : (s.countBy i n k).pack = s.pack := rfl
@[simp] theorem State.countBy_thermal (s : State) (i n k : Nat) : (s.countBy i n k).thermal = s.thermal := rfl
@[simp] theorem State.countBy_update (s : State) (i n k : Nat) : (s.countBy i n k).update = s.update := rfl
@[simp] theorem State.countBy_test (s : State) (i n k : Nat) : (s.countBy i n k).test = s.test := rfl

@[simp] theorem State.count_pending (s : State) (i n : Nat) : (s.count i n).pending = s.pending := rfl
@[simp] theorem State.count_live (s : State) (i n : Nat) : (s.count i n).live = s.live := rfl
@[simp] theorem State.count_draws (s : State) (i n : Nat) : (s.count i n).draws = s.draws := rfl
@[simp] theorem State.count_replies (s : State) (i n : Nat) : (s.count i n).replies = s.replies := rfl
@[simp] theorem State.count_tdo (s : State) (i n : Nat) : (s.count i n).tdo = s.tdo := rfl
@[simp] theorem State.count_power (s : State) (i n : Nat) : (s.count i n).power = s.power := rfl
@[simp] theorem State.count_clocks (s : State) (i n : Nat) : (s.count i n).clocks = s.clocks := rfl
@[simp] theorem State.count_aocb (s : State) (i n : Nat) : (s.count i n).aocb = s.aocb := rfl
@[simp] theorem State.count_beat (s : State) (i n : Nat) : (s.count i n).beat = s.beat := rfl
@[simp] theorem State.count_store (s : State) (i n : Nat) : (s.count i n).store = s.store := rfl
@[simp] theorem State.count_log (s : State) (i n : Nat) : (s.count i n).log = s.log := rfl
@[simp] theorem State.count_can (s : State) (i n : Nat) : (s.count i n).can = s.can := rfl
@[simp] theorem State.count_link (s : State) (i n : Nat) : (s.count i n).link = s.link := rfl
@[simp] theorem State.count_mem (s : State) (i n : Nat) : (s.count i n).mem = s.mem := rfl
@[simp] theorem State.count_sched (s : State) (i n : Nat) : (s.count i n).sched = s.sched := rfl
@[simp] theorem State.count_tabor (s : State) (i n : Nat) : (s.count i n).tabor = s.tabor := rfl
@[simp] theorem State.count_sense (s : State) (i n : Nat) : (s.count i n).sense = s.sense := rfl
@[simp] theorem State.count_touch (s : State) (i n : Nat) : (s.count i n).touch = s.touch := rfl
@[simp] theorem State.count_reg (s : State) (i n : Nat) : (s.count i n).reg = s.reg := rfl
@[simp] theorem State.count_seq (s : State) (i n : Nat) : (s.count i n).seq = s.seq := rfl
@[simp] theorem State.count_pack (s : State) (i n : Nat) : (s.count i n).pack = s.pack := rfl
@[simp] theorem State.count_thermal (s : State) (i n : Nat) : (s.count i n).thermal = s.thermal := rfl
@[simp] theorem State.count_update (s : State) (i n : Nat) : (s.count i n).update = s.update := rfl
@[simp] theorem State.count_test (s : State) (i n : Nat) : (s.count i n).test = s.test := rfl

@[simp] theorem State.setFlag_pending (s : State) (i n k : Nat) (b : Bool) : (s.setFlag i n k b).pending = s.pending := rfl
@[simp] theorem State.setFlag_live (s : State) (i n k : Nat) (b : Bool) : (s.setFlag i n k b).live = s.live := rfl
@[simp] theorem State.setFlag_draws (s : State) (i n k : Nat) (b : Bool) : (s.setFlag i n k b).draws = s.draws := rfl
@[simp] theorem State.setFlag_replies (s : State) (i n k : Nat) (b : Bool) : (s.setFlag i n k b).replies = s.replies := rfl
@[simp] theorem State.setFlag_tdo (s : State) (i n k : Nat) (b : Bool) : (s.setFlag i n k b).tdo = s.tdo := rfl
@[simp] theorem State.setFlag_power (s : State) (i n k : Nat) (b : Bool) : (s.setFlag i n k b).power = s.power := rfl
@[simp] theorem State.setFlag_clocks (s : State) (i n k : Nat) (b : Bool) : (s.setFlag i n k b).clocks = s.clocks := rfl
@[simp] theorem State.setFlag_aocb (s : State) (i n k : Nat) (b : Bool) : (s.setFlag i n k b).aocb = s.aocb := rfl
@[simp] theorem State.setFlag_beat (s : State) (i n k : Nat) (b : Bool) : (s.setFlag i n k b).beat = s.beat := rfl
@[simp] theorem State.setFlag_store (s : State) (i n k : Nat) (b : Bool) : (s.setFlag i n k b).store = s.store := rfl
@[simp] theorem State.setFlag_log (s : State) (i n k : Nat) (b : Bool) : (s.setFlag i n k b).log = s.log := rfl
@[simp] theorem State.setFlag_can (s : State) (i n k : Nat) (b : Bool) : (s.setFlag i n k b).can = s.can := rfl
@[simp] theorem State.setFlag_link (s : State) (i n k : Nat) (b : Bool) : (s.setFlag i n k b).link = s.link := rfl
@[simp] theorem State.setFlag_mem (s : State) (i n k : Nat) (b : Bool) : (s.setFlag i n k b).mem = s.mem := rfl
@[simp] theorem State.setFlag_sched (s : State) (i n k : Nat) (b : Bool) : (s.setFlag i n k b).sched = s.sched := rfl
@[simp] theorem State.setFlag_tabor (s : State) (i n k : Nat) (b : Bool) : (s.setFlag i n k b).tabor = s.tabor := rfl
@[simp] theorem State.setFlag_sense (s : State) (i n k : Nat) (b : Bool) : (s.setFlag i n k b).sense = s.sense := rfl
@[simp] theorem State.setFlag_touch (s : State) (i n k : Nat) (b : Bool) : (s.setFlag i n k b).touch = s.touch := rfl
@[simp] theorem State.setFlag_reg (s : State) (i n k : Nat) (b : Bool) : (s.setFlag i n k b).reg = s.reg := rfl
@[simp] theorem State.setFlag_seq (s : State) (i n k : Nat) (b : Bool) : (s.setFlag i n k b).seq = s.seq := rfl
@[simp] theorem State.setFlag_pack (s : State) (i n k : Nat) (b : Bool) : (s.setFlag i n k b).pack = s.pack := rfl
@[simp] theorem State.setFlag_thermal (s : State) (i n k : Nat) (b : Bool) : (s.setFlag i n k b).thermal = s.thermal := rfl
@[simp] theorem State.setFlag_update (s : State) (i n k : Nat) (b : Bool) : (s.setFlag i n k b).update = s.update := rfl
@[simp] theorem State.setFlag_test (s : State) (i n k : Nat) (b : Bool) : (s.setFlag i n k b).test = s.test := rfl

@[simp] theorem State.setS_pending (s : State) (i n : Nat) (v : Int) : (s.setS i n v).pending = s.pending := rfl
@[simp] theorem State.setS_live (s : State) (i n : Nat) (v : Int) : (s.setS i n v).live = s.live := rfl
@[simp] theorem State.setS_draws (s : State) (i n : Nat) (v : Int) : (s.setS i n v).draws = s.draws := rfl
@[simp] theorem State.setS_replies (s : State) (i n : Nat) (v : Int) : (s.setS i n v).replies = s.replies := rfl
@[simp] theorem State.setS_tdo (s : State) (i n : Nat) (v : Int) : (s.setS i n v).tdo = s.tdo := rfl
@[simp] theorem State.setS_power (s : State) (i n : Nat) (v : Int) : (s.setS i n v).power = s.power := rfl
@[simp] theorem State.setS_clocks (s : State) (i n : Nat) (v : Int) : (s.setS i n v).clocks = s.clocks := rfl
@[simp] theorem State.setS_aocb (s : State) (i n : Nat) (v : Int) : (s.setS i n v).aocb = s.aocb := rfl
@[simp] theorem State.setS_beat (s : State) (i n : Nat) (v : Int) : (s.setS i n v).beat = s.beat := rfl
@[simp] theorem State.setS_store (s : State) (i n : Nat) (v : Int) : (s.setS i n v).store = s.store := rfl
@[simp] theorem State.setS_log (s : State) (i n : Nat) (v : Int) : (s.setS i n v).log = s.log := rfl
@[simp] theorem State.setS_can (s : State) (i n : Nat) (v : Int) : (s.setS i n v).can = s.can := rfl
@[simp] theorem State.setS_link (s : State) (i n : Nat) (v : Int) : (s.setS i n v).link = s.link := rfl
@[simp] theorem State.setS_mem (s : State) (i n : Nat) (v : Int) : (s.setS i n v).mem = s.mem := rfl
@[simp] theorem State.setS_sched (s : State) (i n : Nat) (v : Int) : (s.setS i n v).sched = s.sched := rfl
@[simp] theorem State.setS_tabor (s : State) (i n : Nat) (v : Int) : (s.setS i n v).tabor = s.tabor := rfl
@[simp] theorem State.setS_sense (s : State) (i n : Nat) (v : Int) : (s.setS i n v).sense = s.sense := rfl
@[simp] theorem State.setS_touch (s : State) (i n : Nat) (v : Int) : (s.setS i n v).touch = s.touch := rfl
@[simp] theorem State.setS_reg (s : State) (i n : Nat) (v : Int) : (s.setS i n v).reg = s.reg := rfl
@[simp] theorem State.setS_seq (s : State) (i n : Nat) (v : Int) : (s.setS i n v).seq = s.seq := rfl
@[simp] theorem State.setS_pack (s : State) (i n : Nat) (v : Int) : (s.setS i n v).pack = s.pack := rfl
@[simp] theorem State.setS_thermal (s : State) (i n : Nat) (v : Int) : (s.setS i n v).thermal = s.thermal := rfl
@[simp] theorem State.setS_update (s : State) (i n : Nat) (v : Int) : (s.setS i n v).update = s.update := rfl
@[simp] theorem State.setS_test (s : State) (i n : Nat) (v : Int) : (s.setS i n v).test = s.test := rfl

@[simp] theorem State.reply_pending (s : State) (p : Port) (st : Status) (d : List Nat) : (s.reply p st d).pending = s.pending := rfl
@[simp] theorem State.reply_od (s : State) (p : Port) (st : Status) (d : List Nat) : (s.reply p st d).od = s.od := rfl
@[simp] theorem State.reply_live (s : State) (p : Port) (st : Status) (d : List Nat) : (s.reply p st d).live = s.live := rfl
@[simp] theorem State.reply_draws (s : State) (p : Port) (st : Status) (d : List Nat) : (s.reply p st d).draws = s.draws := rfl
@[simp] theorem State.reply_tdo (s : State) (p : Port) (st : Status) (d : List Nat) : (s.reply p st d).tdo = s.tdo := rfl
@[simp] theorem State.reply_power (s : State) (p : Port) (st : Status) (d : List Nat) : (s.reply p st d).power = s.power := rfl
@[simp] theorem State.reply_clocks (s : State) (p : Port) (st : Status) (d : List Nat) : (s.reply p st d).clocks = s.clocks := rfl
@[simp] theorem State.reply_aocb (s : State) (p : Port) (st : Status) (d : List Nat) : (s.reply p st d).aocb = s.aocb := rfl
@[simp] theorem State.reply_beat (s : State) (p : Port) (st : Status) (d : List Nat) : (s.reply p st d).beat = s.beat := rfl
@[simp] theorem State.reply_store (s : State) (p : Port) (st : Status) (d : List Nat) : (s.reply p st d).store = s.store := rfl
@[simp] theorem State.reply_log (s : State) (p : Port) (st : Status) (d : List Nat) : (s.reply p st d).log = s.log := rfl
@[simp] theorem State.reply_can (s : State) (p : Port) (st : Status) (d : List Nat) : (s.reply p st d).can = s.can := rfl
@[simp] theorem State.reply_link (s : State) (p : Port) (st : Status) (d : List Nat) : (s.reply p st d).link = s.link := rfl
@[simp] theorem State.reply_mem (s : State) (p : Port) (st : Status) (d : List Nat) : (s.reply p st d).mem = s.mem := rfl
@[simp] theorem State.reply_sched (s : State) (p : Port) (st : Status) (d : List Nat) : (s.reply p st d).sched = s.sched := rfl
@[simp] theorem State.reply_tabor (s : State) (p : Port) (st : Status) (d : List Nat) : (s.reply p st d).tabor = s.tabor := rfl
@[simp] theorem State.reply_sense (s : State) (p : Port) (st : Status) (d : List Nat) : (s.reply p st d).sense = s.sense := rfl
@[simp] theorem State.reply_touch (s : State) (p : Port) (st : Status) (d : List Nat) : (s.reply p st d).touch = s.touch := rfl
@[simp] theorem State.reply_reg (s : State) (p : Port) (st : Status) (d : List Nat) : (s.reply p st d).reg = s.reg := rfl
@[simp] theorem State.reply_seq (s : State) (p : Port) (st : Status) (d : List Nat) : (s.reply p st d).seq = s.seq := rfl
@[simp] theorem State.reply_pack (s : State) (p : Port) (st : Status) (d : List Nat) : (s.reply p st d).pack = s.pack := rfl
@[simp] theorem State.reply_thermal (s : State) (p : Port) (st : Status) (d : List Nat) : (s.reply p st d).thermal = s.thermal := rfl
@[simp] theorem State.reply_update (s : State) (p : Port) (st : Status) (d : List Nat) : (s.reply p st d).update = s.update := rfl
@[simp] theorem State.reply_test (s : State) (p : Port) (st : Status) (d : List Nat) : (s.reply p st d).test = s.test := rfl

@[simp] theorem State.draw_pending (s : State) : s.draw.pending = s.pending := rfl
@[simp] theorem State.draw_od (s : State) : s.draw.od = s.od := rfl
@[simp] theorem State.draw_live (s : State) : s.draw.live = s.live := rfl
@[simp] theorem State.draw_replies (s : State) : s.draw.replies = s.replies := rfl
@[simp] theorem State.draw_tdo (s : State) : s.draw.tdo = s.tdo := rfl
@[simp] theorem State.draw_power (s : State) : s.draw.power = s.power := rfl
@[simp] theorem State.draw_clocks (s : State) : s.draw.clocks = s.clocks := rfl
@[simp] theorem State.draw_aocb (s : State) : s.draw.aocb = s.aocb := rfl
@[simp] theorem State.draw_beat (s : State) : s.draw.beat = s.beat := rfl
@[simp] theorem State.draw_store (s : State) : s.draw.store = s.store := rfl
@[simp] theorem State.draw_log (s : State) : s.draw.log = s.log := rfl
@[simp] theorem State.draw_can (s : State) : s.draw.can = s.can := rfl
@[simp] theorem State.draw_link (s : State) : s.draw.link = s.link := rfl
@[simp] theorem State.draw_mem (s : State) : s.draw.mem = s.mem := rfl
@[simp] theorem State.draw_sched (s : State) : s.draw.sched = s.sched := rfl
@[simp] theorem State.draw_tabor (s : State) : s.draw.tabor = s.tabor := rfl
@[simp] theorem State.draw_sense (s : State) : s.draw.sense = s.sense := rfl
@[simp] theorem State.draw_touch (s : State) : s.draw.touch = s.touch := rfl
@[simp] theorem State.draw_reg (s : State) : s.draw.reg = s.reg := rfl
@[simp] theorem State.draw_seq (s : State) : s.draw.seq = s.seq := rfl
@[simp] theorem State.draw_pack (s : State) : s.draw.pack = s.pack := rfl
@[simp] theorem State.draw_thermal (s : State) : s.draw.thermal = s.thermal := rfl
@[simp] theorem State.draw_update (s : State) : s.draw.update = s.update := rfl
@[simp] theorem State.draw_test (s : State) : s.draw.test = s.test := rfl

@[simp] theorem State.sendPacket_pending (s : State) (p : Packet) : (s.sendPacket p).pending = s.pending := rfl
@[simp] theorem State.sendPacket_od (s : State) (p : Packet) : (s.sendPacket p).od = s.od := rfl
@[simp] theorem State.sendPacket_live (s : State) (p : Packet) : (s.sendPacket p).live = s.live := rfl
@[simp] theorem State.sendPacket_draws (s : State) (p : Packet) : (s.sendPacket p).draws = s.draws := rfl
@[simp] theorem State.sendPacket_replies (s : State) (p : Packet) : (s.sendPacket p).replies = s.replies := rfl
@[simp] theorem State.sendPacket_tdo (s : State) (p : Packet) : (s.sendPacket p).tdo = s.tdo := rfl
@[simp] theorem State.sendPacket_power (s : State) (p : Packet) : (s.sendPacket p).power = s.power := rfl
@[simp] theorem State.sendPacket_clocks (s : State) (p : Packet) : (s.sendPacket p).clocks = s.clocks := rfl
@[simp] theorem State.sendPacket_aocb (s : State) (p : Packet) : (s.sendPacket p).aocb = s.aocb := rfl
@[simp] theorem State.sendPacket_beat (s : State) (p : Packet) : (s.sendPacket p).beat = s.beat := rfl
@[simp] theorem State.sendPacket_store (s : State) (p : Packet) : (s.sendPacket p).store = s.store := rfl
@[simp] theorem State.sendPacket_log (s : State) (p : Packet) : (s.sendPacket p).log = s.log := rfl
@[simp] theorem State.sendPacket_can (s : State) (p : Packet) : (s.sendPacket p).can = s.can := rfl
@[simp] theorem State.sendPacket_mem (s : State) (p : Packet) : (s.sendPacket p).mem = s.mem := rfl
@[simp] theorem State.sendPacket_sched (s : State) (p : Packet) : (s.sendPacket p).sched = s.sched := rfl
@[simp] theorem State.sendPacket_tabor (s : State) (p : Packet) : (s.sendPacket p).tabor = s.tabor := rfl
@[simp] theorem State.sendPacket_sense (s : State) (p : Packet) : (s.sendPacket p).sense = s.sense := rfl
@[simp] theorem State.sendPacket_touch (s : State) (p : Packet) : (s.sendPacket p).touch = s.touch := rfl
@[simp] theorem State.sendPacket_reg (s : State) (p : Packet) : (s.sendPacket p).reg = s.reg := rfl
@[simp] theorem State.sendPacket_seq (s : State) (p : Packet) : (s.sendPacket p).seq = s.seq := rfl
@[simp] theorem State.sendPacket_pack (s : State) (p : Packet) : (s.sendPacket p).pack = s.pack := rfl
@[simp] theorem State.sendPacket_thermal (s : State) (p : Packet) : (s.sendPacket p).thermal = s.thermal := rfl
@[simp] theorem State.sendPacket_update (s : State) (p : Packet) : (s.sendPacket p).update = s.update := rfl
@[simp] theorem State.sendPacket_test (s : State) (p : Packet) : (s.sendPacket p).test = s.test := rfl

@[simp] theorem State.setRing_pending (s : State) (n : Nat) (r : Ring) : (s.setRing n r).pending = s.pending := rfl
@[simp] theorem State.setRing_od (s : State) (n : Nat) (r : Ring) : (s.setRing n r).od = s.od := rfl
@[simp] theorem State.setRing_live (s : State) (n : Nat) (r : Ring) : (s.setRing n r).live = s.live := rfl
@[simp] theorem State.setRing_draws (s : State) (n : Nat) (r : Ring) : (s.setRing n r).draws = s.draws := rfl
@[simp] theorem State.setRing_replies (s : State) (n : Nat) (r : Ring) : (s.setRing n r).replies = s.replies := rfl
@[simp] theorem State.setRing_tdo (s : State) (n : Nat) (r : Ring) : (s.setRing n r).tdo = s.tdo := rfl
@[simp] theorem State.setRing_power (s : State) (n : Nat) (r : Ring) : (s.setRing n r).power = s.power := rfl
@[simp] theorem State.setRing_clocks (s : State) (n : Nat) (r : Ring) : (s.setRing n r).clocks = s.clocks := rfl
@[simp] theorem State.setRing_aocb (s : State) (n : Nat) (r : Ring) : (s.setRing n r).aocb = s.aocb := rfl
@[simp] theorem State.setRing_beat (s : State) (n : Nat) (r : Ring) : (s.setRing n r).beat = s.beat := rfl
@[simp] theorem State.setRing_store (s : State) (n : Nat) (r : Ring) : (s.setRing n r).store = s.store := rfl
@[simp] theorem State.setRing_log (s : State) (n : Nat) (r : Ring) : (s.setRing n r).log = s.log := rfl
@[simp] theorem State.setRing_can (s : State) (n : Nat) (r : Ring) : (s.setRing n r).can = s.can := rfl
@[simp] theorem State.setRing_link (s : State) (n : Nat) (r : Ring) : (s.setRing n r).link = s.link := rfl
@[simp] theorem State.setRing_mem (s : State) (n : Nat) (r : Ring) : (s.setRing n r).mem = s.mem := rfl
@[simp] theorem State.setRing_tabor (s : State) (n : Nat) (r : Ring) : (s.setRing n r).tabor = s.tabor := rfl
@[simp] theorem State.setRing_sense (s : State) (n : Nat) (r : Ring) : (s.setRing n r).sense = s.sense := rfl
@[simp] theorem State.setRing_touch (s : State) (n : Nat) (r : Ring) : (s.setRing n r).touch = s.touch := rfl
@[simp] theorem State.setRing_reg (s : State) (n : Nat) (r : Ring) : (s.setRing n r).reg = s.reg := rfl
@[simp] theorem State.setRing_seq (s : State) (n : Nat) (r : Ring) : (s.setRing n r).seq = s.seq := rfl
@[simp] theorem State.setRing_pack (s : State) (n : Nat) (r : Ring) : (s.setRing n r).pack = s.pack := rfl
@[simp] theorem State.setRing_thermal (s : State) (n : Nat) (r : Ring) : (s.setRing n r).thermal = s.thermal := rfl
@[simp] theorem State.setRing_update (s : State) (n : Nat) (r : Ring) : (s.setRing n r).update = s.update := rfl
@[simp] theorem State.setRing_test (s : State) (n : Nat) (r : Ring) : (s.setRing n r).test = s.test := rfl

/-! ### IMMEDIATE TPDOs -/

@[simp] theorem immediates_pending (s : State) : (immediates s).pending = s.pending := immediates_only s .pending (by decide)
@[simp] theorem immediates_od (s : State) : (immediates s).od = s.od := immediates_only s .od (by decide)
@[simp] theorem immediates_live (s : State) : (immediates s).live = s.live := immediates_only s .live (by decide)
@[simp] theorem immediates_draws (s : State) : (immediates s).draws = s.draws := immediates_only s .draws (by decide)
@[simp] theorem immediates_replies (s : State) : (immediates s).replies = s.replies := immediates_only s .replies (by decide)
@[simp] theorem immediates_tdo (s : State) : (immediates s).tdo = s.tdo := immediates_only s .tdo (by decide)
@[simp] theorem immediates_power (s : State) : (immediates s).power = s.power := immediates_only s .power (by decide)
@[simp] theorem immediates_clocks (s : State) : (immediates s).clocks = s.clocks := immediates_only s .clocks (by decide)
@[simp] theorem immediates_aocb (s : State) : (immediates s).aocb = s.aocb := immediates_only s .aocb (by decide)
@[simp] theorem immediates_beat (s : State) : (immediates s).beat = s.beat := immediates_only s .beat (by decide)
@[simp] theorem immediates_store (s : State) : (immediates s).store = s.store := immediates_only s .store (by decide)
@[simp] theorem immediates_log (s : State) : (immediates s).log = s.log := immediates_only s .log (by decide)
@[simp] theorem immediates_link (s : State) : (immediates s).link = s.link := immediates_only s .link (by decide)
@[simp] theorem immediates_mem (s : State) : (immediates s).mem = s.mem := immediates_only s .mem (by decide)
@[simp] theorem immediates_sched (s : State) : (immediates s).sched = s.sched := immediates_only s .sched (by decide)
@[simp] theorem immediates_tabor (s : State) : (immediates s).tabor = s.tabor := immediates_only s .tabor (by decide)
@[simp] theorem immediates_sense (s : State) : (immediates s).sense = s.sense := immediates_only s .sense (by decide)
@[simp] theorem immediates_touch (s : State) : (immediates s).touch = s.touch := immediates_only s .touch (by decide)
@[simp] theorem immediates_reg (s : State) : (immediates s).reg = s.reg := immediates_only s .reg (by decide)
@[simp] theorem immediates_seq (s : State) : (immediates s).seq = s.seq := immediates_only s .seq (by decide)
@[simp] theorem immediates_pack (s : State) : (immediates s).pack = s.pack := immediates_only s .pack (by decide)
@[simp] theorem immediates_thermal (s : State) : (immediates s).thermal = s.thermal := immediates_only s .thermal (by decide)
@[simp] theorem immediates_update (s : State) : (immediates s).update = s.update := immediates_only s .update (by decide)
@[simp] theorem immediates_test (s : State) : (immediates s).test = s.test := immediates_only s .test (by decide)

end Sys2Proof.Machine
end

