-- ==== Sys2Proof/Laws/Ops.lean ====
section
/-!
SUPPORT. The leaves of every frame: the update of one part of the state, of an object's value and of the SRAM, each with the canonical form it keeps.
-/

namespace Sys2Proof.Machine

/-! ### One part replaced -/

theorem setLink_moves (s : State) (x : Link) : Moves [.link] s { s with link := x } :=
  ⟨fun p hp => by cases p <;> first | rfl | exact ⟨rfl, rfl⟩ | simp at hp, id⟩

theorem setTdo_moves (s : State) (x : Nat) : Moves [.tdo] s { s with tdo := x } :=
  ⟨fun p hp => by cases p <;> first | rfl | exact ⟨rfl, rfl⟩ | simp at hp, id⟩

theorem setBeat_moves (s : State) (x : Beat) : Moves [.beat] s { s with beat := x } :=
  ⟨fun p hp => by cases p <;> first | rfl | exact ⟨rfl, rfl⟩ | simp at hp, id⟩

/-! ### A table's form -/

/-- A fold over the memory keeps the SRAM's form. -/
theorem foldl_wf {α : Type} (f : Mem → α → Mem) (h : ∀ m a, Memory.wf m.sram = true → Memory.wf (f m a).sram = true) (as : List α) (m : Mem)
    (hm : Memory.wf m.sram = true) : Memory.wf (as.foldl f m).sram = true := by
  induction as generalizing m with
  | nil => exact hm
  | cons a as ih => exact ih _ (h m a hm)

/-- A ring's entry keeps the SRAM's form. -/
theorem ringStore_wf (l : List Nat) (m : Mem) (r : Ring) (off : Nat) (h : Memory.wf m.sram = true) : Memory.wf (ringStore m r off l).sram = true :=
  foldl_wf _ (fun _ _ => Mem.store_wf _ _ _) _ m h

/-- The stores that a LOCK or an instruction commits keep the SRAM's form. -/
theorem commitStores_wf (l : List (Nat × Byte)) (m : Mem) (h : Memory.wf m.sram = true) : Memory.wf (commitStores m l).sram = true := by
  have hf : Memory.wf (l.foldr (fun e m => m.writeByte e.1 e.2) m).sram = true := by
    induction l with
    | nil => exact h
    | cons e l ih => exact Mem.writeByte_wf _ _ _ ih
  exact hf

/-- Values taken away leave the form. -/
theorem values_filter_wf (m : List (Nat × Nat)) (p : Nat × Nat → Bool) (h : Values.wf m = true) : Values.wf (m.filter p) = true :=
  sparseWf_filter m p keyDefault h

/-- An object's value set leaves the form. -/
theorem values_set_wf (m : List (Nat × Nat)) (k v : Nat) (h : Values.wf m = true) : Values.wf (sparseSet m k v (keyDefault k)) = true :=
  sparseWf_set m k v keyDefault h

/-- No table listed is in canonical form. -/
theorem values_nil_wf : Values.wf [] = true := rfl

end Sys2Proof.Machine

namespace Sys2Proof

open Machine

/-! ### A record update -/

/-- A record update moves the parts it names; a table it replaces must keep its form. -/
theorem Moves.update {l : List Part} {s t : State}
    {x_pending x_od x_live x_draws x_replies x_tdo x_power x_clocks x_aocb x_beat x_store x_log x_can x_link x_mem x_sched x_tabor x_sense x_touch x_reg x_seq x_pack x_thermal x_update x_test}
    (h : Moves l s t)
    (h_pending : x_pending = t.pending := by with_reducible rfl)
    (h_od : Part.od ∈ l ∨ x_od = t.od := by first | (apply Or.inr; with_reducible rfl) | (apply Or.inl; decide))
    (h_live : Part.live ∈ l ∨ x_live = t.live := by first | (apply Or.inr; with_reducible rfl) | (apply Or.inl; decide))
    (h_draws : Part.draws ∈ l ∨ x_draws = t.draws := by first | (apply Or.inr; with_reducible rfl) | (apply Or.inl; decide))
    (h_replies : Part.replies ∈ l ∨ x_replies = t.replies := by first | (apply Or.inr; with_reducible rfl) | (apply Or.inl; decide))
    (h_tdo : Part.tdo ∈ l ∨ x_tdo = t.tdo := by first | (apply Or.inr; with_reducible rfl) | (apply Or.inl; decide))
    (h_power : Part.power ∈ l ∨ x_power = t.power := by first | (apply Or.inr; with_reducible rfl) | (apply Or.inl; decide))
    (h_clocks : Part.clocks ∈ l ∨ x_clocks = t.clocks := by first | (apply Or.inr; with_reducible rfl) | (apply Or.inl; decide))
    (h_aocb : Part.aocb ∈ l ∨ x_aocb = t.aocb := by first | (apply Or.inr; with_reducible rfl) | (apply Or.inl; decide))
    (h_beat : Part.beat ∈ l ∨ x_beat = t.beat := by first | (apply Or.inr; with_reducible rfl) | (apply Or.inl; decide))
    (h_store : Part.store ∈ l ∨ x_store = t.store := by first | (apply Or.inr; with_reducible rfl) | (apply Or.inl; decide))
    (h_log : Part.log ∈ l ∨ x_log = t.log := by first | (apply Or.inr; with_reducible rfl) | (apply Or.inl; decide))
    (h_can : (Part.can ∈ l ∧ Part.pdo ∈ l) ∨ x_can = t.can := by first | (apply Or.inr; with_reducible rfl) | (apply Or.inl; decide))
    (h_link : Part.link ∈ l ∨ x_link = t.link := by first | (apply Or.inr; with_reducible rfl) | (apply Or.inl; decide))
    (h_mem : Part.mem ∈ l ∨ x_mem = t.mem := by first | (apply Or.inr; with_reducible rfl) | (apply Or.inl; decide))
    (h_sched : Part.sched ∈ l ∨ x_sched = t.sched := by first | (apply Or.inr; with_reducible rfl) | (apply Or.inl; decide))
    (h_tabor : Part.tabor ∈ l ∨ x_tabor = t.tabor := by first | (apply Or.inr; with_reducible rfl) | (apply Or.inl; decide))
    (h_sense : Part.sense ∈ l ∨ x_sense = t.sense := by first | (apply Or.inr; with_reducible rfl) | (apply Or.inl; decide))
    (h_touch : Part.touch ∈ l ∨ x_touch = t.touch := by first | (apply Or.inr; with_reducible rfl) | (apply Or.inl; decide))
    (h_reg : Part.reg ∈ l ∨ x_reg = t.reg := by first | (apply Or.inr; with_reducible rfl) | (apply Or.inl; decide))
    (h_seq : Part.seq ∈ l ∨ x_seq = t.seq := by first | (apply Or.inr; with_reducible rfl) | (apply Or.inl; decide))
    (h_pack : Part.pack ∈ l ∨ x_pack = t.pack := by first | (apply Or.inr; with_reducible rfl) | (apply Or.inl; decide))
    (h_thermal : Part.thermal ∈ l ∨ x_thermal = t.thermal := by first | (apply Or.inr; with_reducible rfl) | (apply Or.inl; decide))
    (h_update : Part.update ∈ l ∨ x_update = t.update := by first | (apply Or.inr; with_reducible rfl) | (apply Or.inl; decide))
    (h_test : Part.test ∈ l ∨ x_test = t.test := by first | (apply Or.inr; with_reducible rfl) | (apply Or.inl; decide))
    (k_od : Values.wf t.od = true → Values.wf x_od = true := by
      first | (with_reducible exact fun h => h) | exact values_set_wf _ _ _ | exact values_filter_wf _ _ | (exact fun h => h))
    (k_live : Values.wf t.live = true → Values.wf x_live = true := by
      first | (with_reducible exact fun h => h) | exact values_set_wf _ _ _ | exact values_filter_wf _ _ | (exact fun h => h))
    (k_mem : Memory.wf t.mem.sram = true → Memory.wf x_mem.sram = true := by
      first
      | (with_reducible exact fun h => h)
      | exact Mem.store_wf _ _ _
      | exact Mem.writeBytes_wf _ _ _
      | exact ringStore_wf _ _ _ _
      | exact fun _ => Memory.reset_wf
      | exact commitStores_wf _ _
      | exact foldl_wf _ (fun _ _ => Mem.store_wf _ _ _) _ _
      | (refine foldl_wf _ (fun _ _ => ?_) _ _; exact fun h => h)
      | exact fun h => h) :
    Moves l s ⟨x_pending, x_od, x_live, x_draws, x_replies, x_tdo, x_power, x_clocks, x_aocb, x_beat, x_store, x_log, x_can, x_link, x_mem, x_sched, x_tabor, x_sense, x_touch, x_reg, x_seq, x_pack, x_thermal, x_update, x_test⟩ :=
  ⟨Only.update h_pending h_od h_live h_draws h_replies h_tdo h_power h_clocks h_aocb h_beat h_store h_log h_can h_link h_mem h_sched h_tabor h_sense h_touch h_reg h_seq h_pack h_thermal h_update h_test h.only,
    fun c => ⟨k_mem (h.keeps c).1, k_od (h.keeps c).2.1, k_live (h.keeps c).2.2⟩⟩

end Sys2Proof
end

