-- ==== Sys2Proof/Laws/FramesBase.lean ====
section
/-!
SUPPORT. What each function may change: the frames of the shared operations: the objects' store, the regulator, supervision, paging, rings, the core's window and the link's replies. One lemma per function: every part of the
state that is not listed stands as it stood, and every table keeps its canonical form.
-/

set_option linter.all false
set_option Elab.async false

namespace Sys2Proof.Machine

theorem State.set_frame (a0 : State) (a1 : Nat) (a2 : Nat) (a3 : Nat) : Moves [.od] a0 (State.set a0 a1 a2 a3) := by
  unfold State.set
  refine Moves.update ?_
  apply Moves.refl

theorem State.countBy_frame (a0 : State) (a1 : Nat) (a2 : Nat) (a3 : Nat) : Moves [.od] a0 (State.countBy a0 a1 a2 a3) := by
  unfold State.countBy
  with_reducible apply Moves.app (State.set_frame ..); decide
  apply Moves.refl

theorem State.count_frame (a0 : State) (a1 : Nat) (a2 : Nat) : Moves [.od] a0 (State.count a0 a1 a2) := by
  unfold State.count
  with_reducible apply Moves.app (State.countBy_frame ..); decide
  apply Moves.refl

theorem State.draw_frame (a0 : State) : Moves [.draws] a0 (State.draw a0) := by
  unfold State.draw
  refine Moves.update ?_
  apply Moves.refl

theorem State.setPhase_frame (a0 : State) (a1 : Nat) (a2 : PhaseSt) : Moves [.reg] a0 (State.setPhase a0 a1 a2) := by
  unfold State.setPhase
  refine Moves.update ?_
  apply Moves.refl

theorem State.floatPhases_frame (a0 : State) (a1 : Nat) : Moves [.reg] a0 (State.floatPhases a0 a1) := by
  unfold State.floatPhases
  with_reducible apply Moves.foldl; intro _ _ _
  with_reducible apply Moves.app (State.setPhase_frame ..); decide
  assumption
  apply Moves.refl

theorem State.pick_frame (a0 : State) (a1 : List Nat) : Moves [.draws] a0 (State.pick a0 a1).1 := by
  unfold State.pick
  split
  dsimp only
  apply Moves.refl
  dsimp only
  apply Moves.refl
  dsimp only
  with_reducible apply Moves.app (State.draw_frame ..); decide
  apply Moves.refl

theorem State.setInForce_frame (a0 : State) (a1 : Nat) (a2 : Nat) (a3 : Nat) : Moves [.live] a0 (State.setInForce a0 a1 a2 a3) := by
  unfold State.setInForce
  refine Moves.update ?_
  apply Moves.refl

theorem State.putInForce_frame (a0 : State) (a1 : Nat) (a2 : Nat) (a3 : List Nat) : Moves [.live] a0 (State.putInForce a0 a1 a2 a3) := by
  unfold State.putInForce
  with_reducible apply Moves.foldl; intro _ _ _
  with_reducible apply Moves.app (State.setInForce_frame ..); decide
  assumption
  apply Moves.refl

theorem State.reply_frame (a0 : State) (a1 : Port) (a2 : Status) (a3 : List Nat) : Moves [.replies] a0 (State.reply a0 a1 a2 a3) := by
  unfold State.reply
  refine Moves.update ?_
  apply Moves.refl

theorem State.sendPacket_frame (a0 : State) (a1 : Packet) : Moves [.link] a0 (State.sendPacket a0 a1) := by
  unfold State.sendPacket
  refine Moves.update ?_
  apply Moves.refl

theorem State.setCore_frame (a0 : State) (a1 : Core) : Moves [.tabor] a0 (State.setCore a0 a1) := by
  unfold State.setCore
  refine Moves.update ?_
  apply Moves.refl

theorem State.setFlag_frame (a0 : State) (a1 : Nat) (a2 : Nat) (a3 : Nat) (a4 : Bool) : Moves [.od] a0 (State.setFlag a0 a1 a2 a3 a4) := by
  unfold State.setFlag
  with_reducible apply Moves.app (State.set_frame ..); decide
  apply Moves.refl

theorem State.setProg_frame (a0 : State) (a1 : Nat) (a2 : Option Prog) : Moves [.tabor] a0 (State.setProg a0 a1 a2) := by
  unfold State.setProg
  refine Moves.update ?_
  apply Moves.refl

theorem State.setRail_frame (a0 : State) (a1 : Nat) (a2 : RailSt) : Moves [.reg] a0 (State.setRail a0 a1 a2) := by
  unfold State.setRail
  refine Moves.update ?_
  apply Moves.refl

theorem State.setRing_frame (a0 : State) (a1 : Nat) (a2 : Ring) : Moves [.sched] a0 (State.setRing a0 a1 a2) := by
  unfold State.setRing
  refine Moves.update ?_
  apply Moves.refl

theorem State.setS_frame (a0 : State) (a1 : Nat) (a2 : Nat) (a3 : Int) : Moves [.od] a0 (State.setS a0 a1 a2 a3) := by
  unfold State.setS
  with_reducible apply Moves.app (State.set_frame ..); decide
  apply Moves.refl

theorem State.setSup_frame (a0 : State) (a1 : Nat) (a2 : Sup) : Moves [.reg] a0 (State.setSup a0 a1 a2) := by
  unfold State.setSup
  refine Moves.update ?_
  apply Moves.refl

theorem State.showSetpoint_frame (a0 : State) (a1 : Nat) : Moves [.od] a0 (State.showSetpoint a0 a1) := by
  unfold State.showSetpoint
  with_reducible apply Moves.app (State.set_frame ..); decide
  apply Moves.refl

theorem State.storeWord_frame (a0 : State) (a1 : Nat) (a2 : Nat) : Moves [.mem] a0 (State.storeWord a0 a1 a2) := by
  unfold State.storeWord
  refine Moves.update ?_
  apply Moves.refl

theorem State.takeInForce_frame (a0 : State) (a1 : Nat) (a2 : Nat) (a3 : Nat) : Moves [.live] a0 (State.takeInForce a0 a1 a2 a3) := by
  unfold State.takeInForce
  with_reducible apply Moves.foldl; intro _ _ _
  with_reducible apply Moves.app (State.setInForce_frame ..); decide
  assumption
  apply Moves.refl

theorem State.updatePte_frame (a0 : State) (a1 : Nat) (a2 : Nat → Nat) : Moves [.mem] a0 (State.updatePte a0 a1 a2) := by
  unfold State.updatePte
  split
  apply Moves.refl
  with_reducible apply Moves.app (State.storeWord_frame ..); decide
  apply Moves.refl

theorem holdRing_frame (a0 : State) (a1 : Nat) (a2 : Option (List Nat)) : Moves [.sched] a0 (holdRing a0 a1 a2) := by
  unfold holdRing
  refine Moves.update ?_
  apply Moves.refl

theorem State.writeIndexBlock_frame (a0 : State) (a1 : Nat) : Moves [.link, .mem, .sched] a0 (State.writeIndexBlock a0 a1) := by
  unfold State.writeIndexBlock
  extract_lets +onlyGivenNames x; clear_value x
  extract_lets +onlyGivenNames x; clear_value x
  extract_lets +onlyGivenNames x; clear_value x
  extract_lets +onlyGivenNames x; clear_value x
  extract_lets +onlyGivenNames x; clear_value x
  with_reducible apply Moves.ite
  apply Moves.refl
  with_reducible apply Moves.ite
  with_reducible apply Moves.app (holdRing_frame ..); decide
  apply Moves.refl
  with_reducible apply Moves.ite
  with_reducible apply Moves.app (State.sendPacket_frame ..); decide
  apply Moves.refl
  refine Moves.update ?_
  apply Moves.refl

theorem releaseFrame_frame (a0 : State) (a1 : Nat) : Moves [.od, .mem] a0 (releaseFrame a0 a1) := by
  unfold releaseFrame
  extract_lets +onlyGivenNames x
  focus
    extract_lets +onlyGivenNames x; refine Moves.use x ?_ (fun hx => ?_); unfold x; clear x; rotate_left; clear_value x; rotate_right
  refine Moves.update ?_
  apply Moves.refl
  with_reducible apply Moves.ite
  with_reducible apply Moves.app (State.set_frame ..); decide
  refine Moves.update ?_
  assumption
  assumption

theorem ringCloseNow_frame (a0 : State) (a1 : Nat) : Moves [.od, .mem, .sched] a0 (ringCloseNow a0 a1) := by
  unfold ringCloseNow
  extract_lets +onlyGivenNames x; clear_value x
  focus
    extract_lets +onlyGivenNames x; refine Moves.use x ?_ (fun hx => ?_); unfold x; clear x; rotate_left; clear_value x; rotate_right
  with_reducible apply Moves.app (State.setRing_frame ..); decide
  apply Moves.refl
  with_reducible apply Moves.foldl; intro _ _ _
  with_reducible apply Moves.app (releaseFrame_frame ..); decide
  assumption
  assumption

theorem closeRingsOwned_frame (a0 : State) (a1 : Nat) : Moves [.od, .mem, .sched] a0 (closeRingsOwned a0 a1) := by
  unfold closeRingsOwned
  with_reducible apply Moves.foldl; intro _ _ _
  with_reducible apply Moves.app (ringCloseNow_frame ..); decide
  assumption
  apply Moves.refl

theorem unmapProgram_frame (a0 : State) (a1 : Prog) : Moves [.mem] a0 (unmapProgram a0 a1) := by
  unfold unmapProgram
  focus
    extract_lets +onlyGivenNames x; refine Moves.use x ?_ (fun hx => ?_); unfold x; clear x; rotate_left; clear_value x; rotate_right
  refine Moves.update ?_
  apply Moves.refl
  with_reducible apply Moves.foldl; intro _ _ _
  with_reducible apply Moves.app (State.updatePte_frame ..); decide
  assumption
  assumption

theorem unloadProgram_frame (a0 : State) (a1 : Nat) : Moves [.od, .mem, .sched, .tabor] a0 (unloadProgram a0 a1) := by
  unfold unloadProgram
  focus
    extract_lets +onlyGivenNames x; refine Moves.use x ?_ (fun hx => ?_); unfold x; clear x; rotate_left; clear_value x; rotate_right
  with_reducible apply Moves.app (closeRingsOwned_frame ..); decide
  apply Moves.refl
  focus
    extract_lets +onlyGivenNames x; refine Moves.use x ?_ (fun hx => ?_); unfold x; clear x; rotate_left; clear_value x; rotate_right
  split
  with_reducible apply Moves.app (unmapProgram_frame ..); decide
  assumption
  assumption
  with_reducible apply Moves.app (State.set_frame ..); decide
  with_reducible apply Moves.app (State.set_frame ..); decide
  with_reducible apply Moves.app (State.setProg_frame ..); decide
  assumption

theorem handlerEnds_frame (a0 : State) (a1 : Bool) : Moves [.od, .mem, .sched, .tabor] a0 (handlerEnds a0 a1) := by
  unfold handlerEnds
  split
  apply Moves.refl
  extract_lets +onlyGivenNames x; clear_value x
  focus
    extract_lets +onlyGivenNames x; refine Moves.use x ?_ (fun hx => ?_); unfold x; clear x; rotate_left; clear_value x; rotate_right
  refine Moves.update ?_
  apply Moves.refl
  focus
    extract_lets +onlyGivenNames x; refine Moves.use x ?_ (fun hx => ?_); unfold x; clear x; rotate_left; clear_value x; rotate_right
  with_reducible apply Moves.ite
  with_reducible apply Moves.app (State.set_frame ..); decide
  assumption
  assumption
  split
  assumption
  with_reducible apply Moves.ite
  with_reducible apply Moves.app (State.set_frame ..); decide
  with_reducible apply Moves.app (State.setProg_frame ..); decide
  assumption
  with_reducible apply Moves.ite
  with_reducible apply Moves.app (unloadProgram_frame ..); decide
  assumption
  assumption

theorem pushError_frame (a0 : State) (a1 : Nat) : Moves [.od] a0 (pushError a0 a1) := by
  unfold pushError
  extract_lets +onlyGivenNames x; clear_value x
  focus
    extract_lets +onlyGivenNames x; refine Moves.use x ?_ (fun hx => ?_); unfold x; clear x; rotate_left; clear_value x; rotate_right
  with_reducible apply Moves.foldl; intro _ _ _
  with_reducible apply Moves.app (State.set_frame ..); decide
  assumption
  apply Moves.refl
  with_reducible apply Moves.app (State.set_frame ..); decide
  with_reducible apply Moves.app (State.set_frame ..); decide
  assumption

theorem trySend_frame (a0 : State) (a1 : Nat) : Moves [.link] a0 (trySend a0 a1) := by
  unfold trySend
  extract_lets +onlyGivenNames x; clear_value x
  with_reducible apply Moves.ite
  apply Moves.refl
  focus
    extract_lets +onlyGivenNames x; refine Moves.use x ?_ (fun hx => ?_); unfold x; clear x; rotate_left; clear_value x; rotate_right
  with_reducible apply Moves.ite
  with_reducible apply Moves.app (State.sendPacket_frame ..); decide
  apply Moves.refl
  apply Moves.refl
  refine Moves.update ?_
  assumption

theorem raiseVector_frame (a0 : State) (a1 : Nat) : Moves [.od, .link] a0 (raiseVector a0 a1) := by
  unfold raiseVector
  with_reducible apply Moves.ite
  apply Moves.refl
  extract_lets +onlyGivenNames x; clear_value x
  focus
    extract_lets +onlyGivenNames x; refine Moves.use x ?_ (fun hx => ?_); unfold x; clear x; rotate_left; clear_value x; rotate_right
  refine Moves.update ?_
  apply Moves.refl
  focus
    extract_lets +onlyGivenNames x; refine Moves.use x ?_ (fun hx => ?_); unfold x; clear x; rotate_left; clear_value x; rotate_right
  with_reducible apply Moves.ite
  with_reducible apply Moves.app (State.setFlag_frame ..); decide
  assumption
  assumption
  with_reducible apply Moves.app (trySend_frame ..); decide
  assumption

theorem enqueueTx_frame (a0 : State) (a1 : TxKind) (a2 : CanFrame) : Moves [.can, .pdo] a0 (enqueueTx a0 a1 a2) := by
  unfold enqueueTx
  extract_lets +onlyGivenNames x; clear_value x
  refine Moves.update ?_
  apply Moves.refl

theorem emcySend_frame (a0 : State) (a1 : Emcy) : Moves [.can, .pdo] a0 (emcySend a0 a1) := by
  unfold emcySend
  focus
    extract_lets +onlyGivenNames x; refine Moves.use x ?_ (fun hx => ?_); unfold x; clear x; rotate_left; clear_value x; rotate_right
  with_reducible apply Moves.app (enqueueTx_frame ..); decide
  apply Moves.refl
  refine Moves.update ?_
  assumption

theorem emcyDrain_frame (a0 : State) : Moves [.od, .can, .pdo, .link] a0 (emcyDrain a0) := by
  unfold emcyDrain
  with_reducible apply Moves.ite
  apply Moves.refl
  with_reducible apply Moves.ite
  extract_lets +onlyGivenNames x; clear_value x
  extract_lets +onlyGivenNames x; clear_value x
  focus
    extract_lets +onlyGivenNames x; refine Moves.use x ?_ (fun hx => ?_); unfold x; clear x; rotate_left; clear_value x; rotate_right
  with_reducible apply Moves.app (pushError_frame ..); decide
  refine Moves.update ?_
  apply Moves.refl
  with_reducible apply Moves.app (raiseVector_frame ..); decide
  with_reducible apply Moves.app (emcySend_frame ..); decide
  assumption
  split
  apply Moves.refl
  with_reducible apply Moves.app (emcySend_frame ..); decide
  refine Moves.update ?_
  apply Moves.refl

theorem emcy_frame (a0 : State) (a1 : Nat) (a2 : Nat) : Moves [.od, .can, .pdo, .link] a0 (emcy a0 a1 a2) := by
  unfold emcy
  extract_lets +onlyGivenNames x; clear_value x
  focus
    extract_lets +onlyGivenNames x; refine Moves.use x ?_ (fun hx => ?_); unfold x; clear x; rotate_left; clear_value x; rotate_right
  with_reducible apply Moves.app (pushError_frame ..); decide
  with_reducible apply Moves.app (State.set_frame ..); decide
  apply Moves.refl
  extract_lets +onlyGivenNames x; clear_value x
  with_reducible apply Moves.ite
  with_reducible apply Moves.app (raiseVector_frame ..); decide
  with_reducible apply Moves.app (emcySend_frame ..); decide
  assumption
  with_reducible apply Moves.ite
  with_reducible apply Moves.app (raiseVector_frame ..); decide
  with_reducible apply Moves.app (emcyDrain_frame ..); decide
  refine Moves.update ?_
  assumption
  with_reducible apply Moves.app (State.count_frame ..); decide
  refine Moves.update ?_
  assumption

theorem coincide_frame (a0 : State) (a1 : Nat) (a2 : Nat) : Moves [.od] a0 (coincide a0 a1 a2) := by
  unfold coincide
  extract_lets +onlyGivenNames x; clear_value x
  focus
    extract_lets +onlyGivenNames x; refine Moves.use x ?_ (fun hx => ?_); unfold x; clear x; rotate_left; clear_value x; rotate_right
  with_reducible apply Moves.app (State.set_frame ..); decide
  apply Moves.refl
  with_reducible apply Moves.ite
  with_reducible apply Moves.app (State.setFlag_frame ..); decide
  assumption
  assumption

theorem taskEvent_frame (a0 : State) (a1 : List (Nat × Nat)) (a2 : Nat) : Moves [.od, .sched] a0 (taskEvent a0 a1 a2) := by
  unfold taskEvent
  extract_lets +onlyGivenNames x; clear_value x
  extract_lets +onlyGivenNames x; clear_value x
  with_reducible apply Moves.ite
  apply Moves.refl
  extract_lets +onlyGivenNames x; clear_value x
  split
  focus
    extract_lets +onlyGivenNames x; refine Moves.use x ?_ (fun hx => ?_); unfold x; clear x; rotate_left; clear_value x; rotate_right
  with_reducible apply Moves.foldl; intro _ _ _
  with_reducible apply Moves.app (coincide_frame ..); decide
  assumption
  apply Moves.refl
  extract_lets +onlyGivenNames x; clear_value x
  focus
    extract_lets +onlyGivenNames x; refine Moves.use x ?_ (fun hx => ?_); unfold x; clear x; rotate_left; clear_value x; rotate_right
  refine Moves.update ?_
  assumption
  with_reducible apply Moves.app (State.set_frame ..); decide
  assumption
  focus
    extract_lets +onlyGivenNames x; refine Moves.use x ?_ (fun hx => ?_); unfold x; clear x; rotate_left; clear_value x; rotate_right
  with_reducible apply Moves.foldl; intro _ _ _
  with_reducible apply Moves.app (coincide_frame ..); decide
  assumption
  apply Moves.refl
  extract_lets +onlyGivenNames x; clear_value x
  extract_lets +onlyGivenNames x; clear_value x
  extract_lets +onlyGivenNames x; clear_value x
  extract_lets +onlyGivenNames x; clear_value x
  with_reducible apply Moves.ite
  refine Moves.update ?_
  assumption
  extract_lets +onlyGivenNames x; clear_value x
  focus
    extract_lets +onlyGivenNames x; refine Moves.use x ?_ (fun hx => ?_); unfold x; clear x; rotate_left; clear_value x; rotate_right
  with_reducible apply Moves.app (State.count_frame ..); decide
  assumption
  focus
    extract_lets +onlyGivenNames x; refine Moves.use x ?_ (fun hx => ?_); unfold x; clear x; rotate_left; clear_value x; rotate_right
  with_reducible apply Moves.app (State.set_frame ..); decide
  assumption
  with_reducible apply Moves.ite
  refine Moves.update ?_
  assumption
  refine Moves.update ?_
  assumption

theorem raiseAll_frame (a0 : State) (a1 : List (Nat × Nat)) : Moves [.od, .sched] a0 (raiseAll a0 a1) := by
  unfold raiseAll
  with_reducible apply Moves.ite
  apply Moves.refl
  with_reducible apply Moves.foldl; intro _ _ _
  with_reducible apply Moves.app (taskEvent_frame ..); decide
  assumption
  apply Moves.refl

theorem raiseWith_frame (a0 : State) (a1 : Nat) (a2 : Nat) : Moves [.od, .sched] a0 (raiseWith a0 a1 a2) := by
  unfold raiseWith
  with_reducible apply Moves.app (raiseAll_frame ..); decide
  apply Moves.refl

theorem raise_frame (a0 : State) (a1 : Nat) : Moves [.od, .sched] a0 (raise a0 a1) := by
  unfold raise
  with_reducible apply Moves.app (raiseWith_frame ..); decide
  apply Moves.refl

theorem logLost_frame (a0 : State) : Moves [.od, .link, .sched] a0 (logLost a0) := by
  unfold logLost
  with_reducible apply Moves.app (raiseVector_frame ..); decide
  with_reducible apply Moves.app (raise_frame ..); decide
  with_reducible apply Moves.app (State.count_frame ..); decide
  apply Moves.refl

theorem noteDropped_frame (a0 : State) : Moves [.log] a0 (noteDropped a0) := by
  unfold noteDropped
  extract_lets +onlyGivenNames x; clear_value x
  with_reducible apply Moves.ite
  refine Moves.update ?_
  apply Moves.refl
  apply Moves.refl

theorem queueLog_frame (a0 : State) (a1 : Nat) (a2 : Nat) : Moves [.od, .log, .link, .sched] a0 (queueLog a0 a1 a2) := by
  unfold queueLog
  with_reducible apply Moves.ite
  with_reducible apply Moves.app (logLost_frame ..); decide
  refine Moves.update ?_
  apply Moves.refl
  focus
    extract_lets +onlyGivenNames x; refine Moves.use x ?_ (fun hx => ?_); unfold x; clear x; rotate_left; clear_value x; rotate_right
  with_reducible apply Moves.app (noteDropped_frame ..); decide
  apply Moves.refl
  extract_lets +onlyGivenNames x; clear_value x
  with_reducible apply Moves.ite
  refine Moves.update ?_
  assumption
  with_reducible apply Moves.ite
  with_reducible apply Moves.app (logLost_frame ..); decide
  refine Moves.update ?_
  assumption
  with_reducible apply Moves.app (logLost_frame ..); decide
  refine Moves.update ?_
  assumption

theorem emcyLogWith_frame (a0 : State) (a1 : Nat) (a2 : Nat) (a3 : Nat) : Moves [.od, .log, .can, .pdo, .link, .sched] a0 (emcyLogWith a0 a1 a2 a3) := by
  unfold emcyLogWith
  focus
    extract_lets +onlyGivenNames x; refine Moves.use x ?_ (fun hx => ?_); unfold x; clear x; rotate_left; clear_value x; rotate_right
  with_reducible apply Moves.app (emcy_frame ..); decide
  apply Moves.refl
  with_reducible apply Moves.app (queueLog_frame ..); decide
  assumption

theorem faultProgram_frame (a0 : State) (a1 : Nat) (a2 : Nat) (a3 : Nat) : Moves [.od, .log, .can, .pdo, .link, .mem, .sched, .tabor] a0 (faultProgram a0 a1 a2 a3) := by
  unfold faultProgram
  with_reducible apply Moves.ite
  apply Moves.refl
  focus
    extract_lets +onlyGivenNames x; refine Moves.use x ?_ (fun hx => ?_); unfold x; clear x; rotate_left; clear_value x; rotate_right
  with_reducible apply Moves.app (State.set_frame ..); decide
  with_reducible apply Moves.app (State.set_frame ..); decide
  with_reducible apply Moves.app (State.count_frame ..); decide
  apply Moves.refl
  focus
    extract_lets +onlyGivenNames x; refine Moves.use x ?_ (fun hx => ?_); unfold x; clear x; rotate_left; clear_value x; rotate_right
  with_reducible apply Moves.app (closeRingsOwned_frame ..); decide
  with_reducible apply Moves.app (State.set_frame ..); decide
  assumption
  with_reducible apply Moves.app (emcyLogWith_frame ..); decide
  with_reducible apply Moves.app (handlerEnds_frame ..); decide
  assumption

theorem undoMarks_frame (a0 : State) (a1 : List (Nat × Nat)) : Moves [.mem] a0 (undoMarks a0 a1) := by
  unfold undoMarks
  with_reducible apply Moves.foldl; intro _ _ _
  with_reducible apply Moves.app (State.updatePte_frame ..); decide
  assumption
  apply Moves.refl

theorem breakLock_frame (a0 : State) : Moves [.mem, .tabor] a0 (breakLock a0) := by
  unfold breakLock
  split
  apply Moves.refl
  extract_lets +onlyGivenNames x; clear_value x
  extract_lets +onlyGivenNames x; clear_value x
  with_reducible apply Moves.app (undoMarks_frame ..); decide
  refine Moves.update ?_
  apply Moves.refl

theorem markAccess_frame (a0 : State) (a1 : Nat) (a2 : Nat) (a3 : Acc3) : Moves [.mem] a0 (markAccess a0 a1 a2 a3) := by
  unfold markAccess
  split
  apply Moves.refl
  extract_lets +onlyGivenNames x; clear_value x
  with_reducible apply Moves.ite
  with_reducible apply Moves.app (State.updatePte_frame ..); decide
  apply Moves.refl
  apply Moves.refl

theorem emcyLog_frame (a0 : State) (a1 : Nat) (a2 : Nat) : Moves [.od, .log, .can, .pdo, .link, .sched] a0 (emcyLog a0 a1 a2) := by
  unfold emcyLog
  focus
    extract_lets +onlyGivenNames x; refine Moves.use x ?_ (fun hx => ?_); unfold x; clear x; rotate_left; clear_value x; rotate_right
  with_reducible apply Moves.app (emcy_frame ..); decide
  apply Moves.refl
  with_reducible apply Moves.app (queueLog_frame ..); decide
  assumption

theorem retireFrame_frame (a0 : State) (a1 : Nat) : Moves [.od, .mem] a0 (retireFrame a0 a1) := by
  unfold retireFrame
  with_reducible apply Moves.ite
  apply Moves.refl
  extract_lets +onlyGivenNames x
  focus
    extract_lets +onlyGivenNames x; refine Moves.use x ?_ (fun hx => ?_); unfold x; clear x; rotate_left; clear_value x; rotate_right
  refine Moves.update ?_
  apply Moves.refl
  with_reducible apply Moves.ite
  with_reducible apply Moves.ite
  with_reducible apply Moves.app (releaseFrame_frame ..); decide
  assumption
  assumption
  split
  with_reducible apply Moves.app (releaseFrame_frame ..); decide
  assumption
  split
  with_reducible apply Moves.ite
  with_reducible apply Moves.app (releaseFrame_frame ..); decide
  with_reducible apply Moves.app (State.count_frame ..); decide
  with_reducible apply Moves.app (State.updatePte_frame ..); decide
  assumption
  assumption
  assumption
  assumption

theorem uncorrectable_frame (a0 : State) (a1 : Nat) : Moves [.od, .log, .can, .pdo, .link, .mem, .sched] a0 (uncorrectable a0 a1) := by
  unfold uncorrectable
  focus
    extract_lets +onlyGivenNames x; refine Moves.use x ?_ (fun hx => ?_); unfold x; clear x; rotate_left; clear_value x; rotate_right
  with_reducible apply Moves.app (State.setFlag_frame ..); decide
  with_reducible apply Moves.app (State.set_frame ..); decide
  with_reducible apply Moves.app (State.count_frame ..); decide
  apply Moves.refl
  extract_lets +onlyGivenNames x
  focus
    extract_lets +onlyGivenNames x; refine Moves.use x ?_ (fun hx => ?_); unfold x; clear x; rotate_left; clear_value x; rotate_right
  with_reducible apply Moves.ite
  assumption
  with_reducible apply Moves.app (emcyLog_frame ..); decide
  refine Moves.update ?_
  assumption
  with_reducible apply Moves.app (retireFrame_frame ..); decide
  with_reducible apply Moves.app (raise_frame ..); decide
  assumption

theorem checkEcc_frame (a0 : State) (a1 : Nat) (a2 : Nat) : Moves [.od, .log, .can, .pdo, .link, .mem, .sched] a0 (checkEcc a0 a1 a2).1 := by
  unfold checkEcc
  extract_lets +onlyGivenNames x; clear_value x
  with_reducible apply Moves.ite_fst
  dsimp only
  apply Moves.refl
  extract_lets +onlyGivenNames x; clear_value x
  extract_lets +onlyGivenNames x
  focus
    extract_lets +onlyGivenNames x; refine Moves.use x ?_ (fun hx => ?_); unfold x; clear x; rotate_left; clear_value x; rotate_right
  refine Moves.update ?_
  apply Moves.refl
  focus
    extract_lets +onlyGivenNames x; refine Moves.use x ?_ (fun hx => ?_); unfold x; clear x; rotate_left; clear_value x; rotate_right
  with_reducible apply Moves.app (State.countBy_frame ..); decide
  assumption
  split
  dsimp only
  assumption
  dsimp only
  with_reducible apply Moves.app (uncorrectable_frame ..); decide
  assumption

theorem walkEcc_frame (a0 : State) (a1 : Nat) : Moves [.od, .log, .can, .pdo, .link, .mem, .sched] a0 (walkEcc a0 a1) := by
  unfold walkEcc
  with_reducible apply Moves.ite
  apply Moves.refl
  split
  split
  with_reducible apply Moves.of_pair; assumption
  with_reducible apply Moves.app (checkEcc_frame ..); decide
  apply Moves.refl
  with_reducible apply Moves.app (checkEcc_frame ..); decide
  with_reducible apply Moves.of_pair; assumption
  with_reducible apply Moves.app (checkEcc_frame ..); decide
  apply Moves.refl

theorem installMain_frame (a0 : State) (a1 : TlbEntry) : Moves [.draws, .mem] a0 (installMain a0 a1) := by
  unfold installMain
  extract_lets +onlyGivenNames x; clear_value x
  with_reducible apply Moves.ite
  refine Moves.update ?_
  apply Moves.refl
  with_reducible apply Moves.app (State.draw_frame ..); decide
  refine Moves.update ?_
  apply Moves.refl

theorem install_frame (a0 : State) (a1 : Nat) (a2 : TlbEntry) : Moves [.draws, .mem] a0 (install a0 a1 a2) := by
  unfold install
  focus
    extract_lets +onlyGivenNames x; refine Moves.use x ?_ (fun hx => ?_); unfold x; clear x; rotate_left; clear_value x; rotate_right
  with_reducible apply Moves.app (installMain_frame ..); decide
  apply Moves.refl
  refine Moves.update ?_
  assumption

theorem installWalk_frame (a0 : State) (a1 : Nat) (a2 : Nat) (a3 : Nat) : Moves [.draws, .mem] a0 (installWalk a0 a1 a2 a3) := by
  unfold installWalk
  with_reducible apply Moves.ite
  apply Moves.refl
  with_reducible apply Moves.app (install_frame ..); decide
  apply Moves.refl

theorem translate_frame (a0 : State) (a1 : Nat) (a2 : Nat) (a3 : Acc3) : Moves [.od, .draws, .log, .can, .pdo, .link, .mem, .sched] a0 (translate a0 a1 a2 a3).1 := by
  unfold translate
  split
  with_reducible apply Moves.ite_fst
  dsimp only
  with_reducible apply Moves.app (markAccess_frame ..); decide
  apply Moves.refl
  dsimp only
  apply Moves.refl
  split
  with_reducible apply Moves.ite_fst
  extract_lets +onlyGivenNames x
  focus
    extract_lets +onlyGivenNames x; refine Moves.use x ?_ (fun hx => ?_); unfold x; clear x; rotate_left; clear_value x; rotate_right
  refine Moves.update ?_
  apply Moves.refl
  dsimp only
  with_reducible apply Moves.app (markAccess_frame ..); decide
  assumption
  dsimp only
  apply Moves.refl
  focus
    extract_lets +onlyGivenNames x; refine Moves.use x ?_ (fun hx => ?_); unfold x; clear x; rotate_left; clear_value x; rotate_right
  with_reducible apply Moves.app (walkEcc_frame ..); decide
  apply Moves.refl
  split
  dsimp only
  with_reducible apply Moves.app (markAccess_frame ..); decide
  with_reducible apply Moves.app (installWalk_frame ..); decide
  assumption
  dsimp only
  assumption

theorem coreTranslate_frame (a0 : State) (a1 : Nat) (a2 : Nat) (a3 : Acc3) (a4 : Bool) : Moves [.od, .draws, .log, .can, .pdo, .link, .mem, .sched] a0 (coreTranslate a0 a1 a2 a3 a4).1 := by
  unfold coreTranslate
  with_reducible apply Moves.ite_fst
  with_reducible apply Moves.ite_fst
  dsimp only
  apply Moves.refl
  split
  dsimp only
  with_reducible apply Moves.of_pair; assumption
  with_reducible apply Moves.app (translate_frame ..); decide
  apply Moves.refl
  dsimp only
  with_reducible apply Moves.of_pair; assumption
  with_reducible apply Moves.app (translate_frame ..); decide
  apply Moves.refl
  dsimp only
  with_reducible apply Moves.of_pair; assumption
  with_reducible apply Moves.app (translate_frame ..); decide
  apply Moves.refl
  with_reducible apply Moves.ite_fst
  dsimp only
  apply Moves.refl
  with_reducible apply Moves.ite_fst
  dsimp only
  apply Moves.refl
  with_reducible apply Moves.ite_fst
  dsimp only
  apply Moves.refl
  dsimp only
  apply Moves.refl

theorem within1ms_frame (a0 : State) (a1 : Nat) : Moves [.draws] a0 (within1ms a0 a1).1 := by
  unfold within1ms
  extract_lets +onlyGivenNames x; clear_value x
  with_reducible apply Moves.ite_fst
  dsimp only
  apply Moves.refl
  with_reducible apply Moves.ite_fst
  dsimp only
  apply Moves.refl
  dsimp only
  with_reducible apply Moves.app (State.draw_frame ..); decide
  apply Moves.refl

theorem dropReads_frame (a0 : State) (a1 : Nat) : Moves [.link] a0 (dropReads a0 a1) := by
  unfold dropReads
  refine Moves.update ?_
  apply Moves.refl

theorem cancelPrefetch_frame (a0 : State) (a1 : Nat) : Moves [.od, .link, .mem] a0 (cancelPrefetch a0 a1) := by
  unfold cancelPrefetch
  extract_lets +onlyGivenNames x; clear_value x
  extract_lets +onlyGivenNames x; clear_value x
  focus
    extract_lets +onlyGivenNames x; refine Moves.use x ?_ (fun hx => ?_); unfold x; clear x; rotate_left; clear_value x; rotate_right
  refine Moves.update ?_
  apply Moves.refl
  split
  with_reducible apply Moves.app (State.count_frame ..); decide
  with_reducible apply Moves.app (releaseFrame_frame ..); decide
  assumption
  extract_lets +onlyGivenNames x
  focus
    extract_lets +onlyGivenNames x; refine Moves.use x ?_ (fun hx => ?_); unfold x; clear x; rotate_left; clear_value x; rotate_right
  with_reducible apply Moves.app (dropReads_frame ..); decide
  refine Moves.update ?_
  assumption
  focus
    extract_lets +onlyGivenNames x; refine Moves.use x ?_ (fun hx => ?_); unfold x; clear x; rotate_left; clear_value x; rotate_right
  split
  with_reducible apply Moves.app (releaseFrame_frame ..); decide
  assumption
  assumption
  with_reducible apply Moves.app (State.count_frame ..); decide
  assumption
  assumption

theorem beginStream_frame (a0 : State) (a1 : Nat) (a2 : Nat) : Moves [.od, .link, .mem] a0 (beginStream a0 a1 a2) := by
  unfold beginStream
  split
  with_reducible apply Moves.ite
  with_reducible apply Moves.foldl; intro _ _ _
  with_reducible apply Moves.app (cancelPrefetch_frame ..); decide
  assumption
  refine Moves.update ?_
  apply Moves.refl
  refine Moves.update ?_
  apply Moves.refl
  refine Moves.update ?_
  apply Moves.refl

theorem noteDemand_frame (a0 : State) (a1 : Nat) (a2 : Nat) : Moves [.od, .draws, .link, .mem] a0 (noteDemand a0 a1 a2) := by
  unfold noteDemand
  extract_lets +onlyGivenNames x; clear_value x
  extract_lets +onlyGivenNames x
  focus
    extract_lets +onlyGivenNames x; refine Moves.use x ?_ (fun hx => ?_); unfold x; clear x; rotate_left; clear_value x; rotate_right
  refine Moves.update ?_
  apply Moves.refl
  split
  refine Moves.update ?_
  assumption
  split
  with_reducible apply Moves.ite
  split
  with_reducible apply Moves.app (beginStream_frame ..); decide
  with_reducible apply Moves.of_pair; assumption
  with_reducible apply Moves.app (within1ms_frame ..); decide
  assumption
  with_reducible apply Moves.of_pair; assumption
  with_reducible apply Moves.app (within1ms_frame ..); decide
  assumption
  assumption
  assumption

theorem claim_frame (a0 : State) (a1 : Nat) (a2 : Nat) (a3 : Nat) : Moves [.od, .draws, .link, .mem] a0 (claim a0 a1 a2 a3) := by
  unfold claim
  focus
    extract_lets +onlyGivenNames x; refine Moves.use x ?_ (fun hx => ?_); unfold x; clear x; rotate_left; clear_value x; rotate_right
  refine Moves.update ?_
  apply Moves.refl
  focus
    extract_lets +onlyGivenNames x; refine Moves.use x ?_ (fun hx => ?_); unfold x; clear x; rotate_left; clear_value x; rotate_right
  with_reducible apply Moves.app (State.updatePte_frame ..); decide
  assumption
  with_reducible apply Moves.app (noteDemand_frame ..); decide
  with_reducible apply Moves.app (State.count_frame ..); decide
  assumption

theorem countFailed_frame (a0 : State) : Moves [.od, .sched] a0 (countFailed a0) := by
  unfold countFailed
  with_reducible apply Moves.app (raise_frame ..); decide
  with_reducible apply Moves.app (State.setFlag_frame ..); decide
  with_reducible apply Moves.app (State.count_frame ..); decide
  apply Moves.refl

theorem logStateChange_frame (a0 : State) (a1 : Nat) (a2 : Nat) (a3 : Nat) (a4 : Nat) : Moves [.od, .log, .link, .sched] a0 (logStateChange a0 a1 a2 a3 a4) := by
  unfold logStateChange
  with_reducible apply Moves.app (queueLog_frame ..); decide
  apply Moves.refl

theorem writeBackLost_frame (a0 : State) (a1 : Nat) (a2 : Nat) : Moves [.od, .log, .link, .mem, .sched] a0 (writeBackLost a0 a1 a2) := by
  unfold writeBackLost
  extract_lets +onlyGivenNames x; clear_value x
  focus
    extract_lets +onlyGivenNames x; refine Moves.use x ?_ (fun hx => ?_); unfold x; clear x; rotate_left; clear_value x; rotate_right
  with_reducible apply Moves.app (State.count_frame ..); decide
  with_reducible apply Moves.app (State.updatePte_frame ..); decide
  apply Moves.refl
  with_reducible apply Moves.app (releaseFrame_frame ..); decide
  with_reducible apply Moves.app (logStateChange_frame ..); decide
  assumption

theorem evict_frame (a0 : State) (a1 : Nat) (a2 : Nat) (a3 : Bool) : Moves [.od, .log, .link, .mem, .sched] a0 (evict a0 a1 a2 a3) := by
  unfold evict
  split
  with_reducible apply Moves.app (releaseFrame_frame ..); decide
  apply Moves.refl
  extract_lets +onlyGivenNames x; clear_value x
  focus
    extract_lets +onlyGivenNames x; refine Moves.use x ?_ (fun hx => ?_); unfold x; clear x; rotate_left; clear_value x; rotate_right
  with_reducible apply Moves.app (State.count_frame ..); decide
  with_reducible apply Moves.app (State.updatePte_frame ..); decide
  apply Moves.refl
  focus
    extract_lets +onlyGivenNames x; refine Moves.use x ?_ (fun hx => ?_); unfold x; clear x; rotate_left; clear_value x; rotate_right
  refine Moves.update ?_
  assumption
  with_reducible apply Moves.ite
  focus
    extract_lets +onlyGivenNames x; refine Moves.use x ?_ (fun hx => ?_); unfold x; clear x; rotate_left; clear_value x; rotate_right
  with_reducible apply Moves.app (State.count_frame ..); decide
  refine Moves.update ?_
  assumption
  with_reducible apply Moves.ite
  with_reducible apply Moves.app (writeBackLost_frame ..); decide
  assumption
  with_reducible apply Moves.foldl; intro _ _ _
  with_reducible apply Moves.app (State.sendPacket_frame ..); decide
  assumption
  assumption
  with_reducible apply Moves.app (releaseFrame_frame ..); decide
  assumption

theorem sweepAt_frame (a0 : State) (a1 : Nat) : Moves [.od, .log, .link, .mem, .sched] a0 (sweepAt a0 a1).1 := by
  unfold sweepAt
  split
  split
  with_reducible apply Moves.ite_fst
  dsimp only
  apply Moves.refl
  with_reducible apply Moves.ite_fst
  dsimp only
  with_reducible apply Moves.app (State.updatePte_frame ..); decide
  apply Moves.refl
  with_reducible apply Moves.ite_fst
  dsimp only
  apply Moves.refl
  dsimp only
  with_reducible apply Moves.app (evict_frame ..); decide
  apply Moves.refl
  dsimp only
  with_reducible apply Moves.app (releaseFrame_frame ..); decide
  with_reducible apply Moves.app (State.count_frame ..); decide
  with_reducible apply Moves.app (State.setFlag_frame ..); decide
  apply Moves.refl
  dsimp only
  apply Moves.refl

theorem sweep_frame (s : State) (d : Option Nat) (l : List Nat) : Moves [.od, .log, .link, .mem, .sched] s (sweep s d l).1 := by
  induction l generalizing s d with
  | nil => exact Moves.refl _ _
  | cons f l ih =>
    unfold sweep
    have h0 : Moves [.od, .log, .link, .mem, .sched] s { s with mem := { s.mem with hand := f + 1 } } := Moves.update (Moves.refl _ s)
    have h1 := h0.trans ((sweepAt_frame { s with mem := { s.mem with hand := f + 1 } } f).mono (by decide))
    split
    · exact Moves.of_pair ‹_› h1
    · exact (Moves.of_pair ‹_› h1).trans (ih _ _)
    · exact (Moves.of_pair ‹_› h1).trans (ih _ _)

theorem sweepPool_frame (a0 : State) : Moves [.od, .log, .link, .mem, .sched] a0 (sweepPool a0).1 := by
  unfold sweepPool
  extract_lets +onlyGivenNames g250
  extract_lets +onlyGivenNames x; clear_value x
  split
  dsimp only
  with_reducible apply Moves.of_pair; assumption
  with_reducible apply Moves.app (sweep_frame ..); decide
  apply Moves.refl
  dsimp only
  unfold g250; dsimp only
  split
  with_reducible apply Moves.app (evict_frame ..); decide
  refine Moves.update ?_
  with_reducible apply Moves.of_pair; assumption
  with_reducible apply Moves.app (sweep_frame ..); decide
  apply Moves.refl
  with_reducible apply Moves.of_pair; assumption
  with_reducible apply Moves.app (sweep_frame ..); decide
  apply Moves.refl
  split
  dsimp only
  with_reducible apply Moves.of_pair; assumption
  with_reducible apply Moves.app (sweep_frame ..); decide
  with_reducible apply Moves.of_pair; assumption
  with_reducible apply Moves.app (sweep_frame ..); decide
  apply Moves.refl
  dsimp only
  unfold g250; dsimp only
  split
  with_reducible apply Moves.app (evict_frame ..); decide
  refine Moves.update ?_
  with_reducible apply Moves.of_pair; assumption
  with_reducible apply Moves.app (sweep_frame ..); decide
  with_reducible apply Moves.of_pair; assumption
  with_reducible apply Moves.app (sweep_frame ..); decide
  apply Moves.refl
  with_reducible apply Moves.of_pair; assumption
  with_reducible apply Moves.app (sweep_frame ..); decide
  with_reducible apply Moves.of_pair; assumption
  with_reducible apply Moves.app (sweep_frame ..); decide
  apply Moves.refl
  dsimp only
  with_reducible apply Moves.of_pair; assumption
  with_reducible apply Moves.app (sweep_frame ..); decide
  with_reducible apply Moves.of_pair; assumption
  with_reducible apply Moves.app (sweep_frame ..); decide
  apply Moves.refl

theorem takeFrame_frame (a0 : State) : Moves [.od, .draws, .log, .link, .mem, .sched] a0 (takeFrame a0).1 := by
  unfold takeFrame
  extract_lets +onlyGivenNames g250
  split
  dsimp only
  with_reducible apply Moves.of_pair; assumption
  with_reducible apply Moves.app (State.pick_frame ..); decide
  apply Moves.refl
  split
  extract_lets +onlyGivenNames x; clear_value x
  focus
    extract_lets +onlyGivenNames x; refine Moves.use x ?_ (fun hx => ?_); unfold x; clear x; rotate_left; clear_value x; rotate_right
  with_reducible apply Moves.app (cancelPrefetch_frame ..); decide
  with_reducible apply Moves.of_pair; assumption
  with_reducible apply Moves.app (State.pick_frame ..); decide
  apply Moves.refl
  unfold g250
  split
  dsimp only
  with_reducible apply Moves.of_pair; assumption
  with_reducible apply Moves.app (State.pick_frame ..); decide
  assumption
  dsimp only
  with_reducible apply Moves.of_pair; assumption
  with_reducible apply Moves.app (State.pick_frame ..); decide
  assumption
  split
  unfold g250
  split
  dsimp only
  with_reducible apply Moves.of_pair; assumption
  with_reducible apply Moves.app (State.pick_frame ..); decide
  with_reducible apply Moves.of_pair; assumption
  with_reducible apply Moves.app (sweepPool_frame ..); decide
  with_reducible apply Moves.of_pair; assumption
  with_reducible apply Moves.app (State.pick_frame ..); decide
  apply Moves.refl
  dsimp only
  with_reducible apply Moves.of_pair; assumption
  with_reducible apply Moves.app (State.pick_frame ..); decide
  with_reducible apply Moves.of_pair; assumption
  with_reducible apply Moves.app (sweepPool_frame ..); decide
  with_reducible apply Moves.of_pair; assumption
  with_reducible apply Moves.app (State.pick_frame ..); decide
  apply Moves.refl
  dsimp only
  with_reducible apply Moves.app (State.setFlag_frame ..); decide
  with_reducible apply Moves.of_pair; assumption
  with_reducible apply Moves.app (sweepPool_frame ..); decide
  with_reducible apply Moves.of_pair; assumption
  with_reducible apply Moves.app (State.pick_frame ..); decide
  apply Moves.refl

theorem issueRead_frame (a0 : State) (a1 : Fill) : Moves [.draws, .link, .mem] a0 (issueRead a0 a1) := by
  unfold issueRead
  split
  apply Moves.refl
  split
  with_reducible apply Moves.of_pair; assumption
  with_reducible apply Moves.app (State.pick_frame ..); decide
  apply Moves.refl
  extract_lets +onlyGivenNames x; clear_value x
  focus
    extract_lets +onlyGivenNames x; refine Moves.use x ?_ (fun hx => ?_); unfold x; clear x; rotate_left; clear_value x; rotate_right
  refine Moves.update ?_
  with_reducible apply Moves.of_pair; assumption
  with_reducible apply Moves.app (State.pick_frame ..); decide
  apply Moves.refl
  extract_lets +onlyGivenNames x
  focus
    extract_lets +onlyGivenNames x; refine Moves.use x ?_ (fun hx => ?_); unfold x; clear x; rotate_left; clear_value x; rotate_right
  refine Moves.update ?_
  assumption
  with_reducible apply Moves.app (State.sendPacket_frame ..); decide
  assumption

theorem issueReads_frame (n : Nat) (s : State) : Moves [.draws, .link, .mem] s (issueReads n s) := by
  induction n generalizing s with
  | zero => exact Moves.refl _ _
  | succ n ih =>
    unfold issueReads
    split
    · exact Moves.refl _ _
    · exact Moves.ite _ (Moves.refl _ _) (((issueRead_frame _ _).mono (by decide)).trans (ih _))

theorem pumpReads_frame (a0 : State) : Moves [.draws, .link, .mem] a0 (pumpReads a0) := by
  unfold pumpReads
  with_reducible apply Moves.app (issueReads_frame ..); decide
  apply Moves.refl

theorem startWaiting_frame (a0 : State) (a1 : Nat) : Moves [.od, .draws, .log, .link, .mem, .sched] a0 (startWaiting a0 a1) := by
  unfold startWaiting
  extract_lets +onlyGivenNames x; clear_value x
  with_reducible apply Moves.ite
  apply Moves.refl
  extract_lets +onlyGivenNames g247
  split
  with_reducible apply Moves.of_pair; assumption
  with_reducible apply Moves.app (takeFrame_frame ..); decide
  apply Moves.refl
  refine Moves.update ?_
  with_reducible apply Moves.of_pair; assumption
  with_reducible apply Moves.app (takeFrame_frame ..); decide
  apply Moves.refl
  extract_lets +onlyGivenNames x; clear_value x
  with_reducible apply Moves.app (pumpReads_frame ..); decide
  refine Moves.update ?_
  with_reducible apply Moves.of_pair; assumption
  with_reducible apply Moves.app (takeFrame_frame ..); decide
  apply Moves.refl

theorem demand_frame (a0 : State) (a1 : Nat) (a2 : Nat) (a3 : Waiter) : Moves [.od, .draws, .log, .link, .mem, .sched] a0 (demand a0 a1 a2 a3).1 := by
  unfold demand
  split
  dsimp only
  with_reducible apply Moves.app (claim_frame ..); decide
  apply Moves.refl
  split
  extract_lets +onlyGivenNames x
  focus
    extract_lets +onlyGivenNames x; refine Moves.use x ?_ (fun hx => ?_); unfold x; clear x; rotate_left; clear_value x; rotate_right
  refine Moves.update ?_
  apply Moves.refl
  dsimp only
  with_reducible apply Moves.ite
  with_reducible apply Moves.app (noteDemand_frame ..); decide
  with_reducible apply Moves.app (State.count_frame ..); decide
  assumption
  assumption
  split
  dsimp only
  with_reducible apply Moves.app (countFailed_frame ..); decide
  apply Moves.refl
  with_reducible apply Moves.ite_fst
  dsimp only
  with_reducible apply Moves.app (countFailed_frame ..); decide
  apply Moves.refl
  extract_lets +onlyGivenNames x
  focus
    extract_lets +onlyGivenNames x; refine Moves.use x ?_ (fun hx => ?_); unfold x; clear x; rotate_left; clear_value x; rotate_right
  refine Moves.update ?_
  apply Moves.refl
  dsimp only
  with_reducible apply Moves.app (startWaiting_frame ..); decide
  with_reducible apply Moves.app (noteDemand_frame ..); decide
  assumption

theorem coreMiss_frame (a0 : State) (a1 : Bool) (a2 : Nat) (a3 : Nat) (a4 : Nat) : Moves [.od, .draws, .log, .link, .mem, .sched, .tabor] a0 (coreMiss a0 a1 a2 a3 a4).1 := by
  unfold coreMiss
  split
  dsimp only
  refine Moves.update ?_
  with_reducible apply Moves.of_pair; assumption
  with_reducible apply Moves.app (demand_frame ..); decide
  apply Moves.refl
  with_reducible apply Moves.app (demand_frame ..); decide
  apply Moves.refl

theorem windowAccess_frame (a0 : State) (a1 : Nat) (a2 : Acc3) (a3 : Bool) (a4 : Nat) : Moves [.od, .draws, .log, .can, .pdo, .link, .mem, .sched, .tabor] a0 (windowAccess a0 a1 a2 a3 a4).1 := by
  unfold windowAccess
  split
  dsimp only
  with_reducible apply Moves.of_pair; assumption
  with_reducible apply Moves.app (coreTranslate_frame ..); decide
  apply Moves.refl
  split
  dsimp only
  with_reducible apply Moves.of_pair; assumption
  with_reducible apply Moves.app (coreMiss_frame ..); decide
  with_reducible apply Moves.of_pair; assumption
  with_reducible apply Moves.app (coreTranslate_frame ..); decide
  apply Moves.refl
  dsimp only
  with_reducible apply Moves.of_pair; assumption
  with_reducible apply Moves.app (coreMiss_frame ..); decide
  with_reducible apply Moves.of_pair; assumption
  with_reducible apply Moves.app (coreTranslate_frame ..); decide
  apply Moves.refl
  split
  dsimp only
  with_reducible apply Moves.of_pair; assumption
  with_reducible apply Moves.app (coreTranslate_frame ..); decide
  with_reducible apply Moves.of_pair; assumption
  with_reducible apply Moves.app (coreMiss_frame ..); decide
  with_reducible apply Moves.of_pair; assumption
  with_reducible apply Moves.app (coreTranslate_frame ..); decide
  apply Moves.refl
  dsimp only
  with_reducible apply Moves.of_pair; assumption
  with_reducible apply Moves.app (coreTranslate_frame ..); decide
  with_reducible apply Moves.of_pair; assumption
  with_reducible apply Moves.app (coreMiss_frame ..); decide
  with_reducible apply Moves.of_pair; assumption
  with_reducible apply Moves.app (coreTranslate_frame ..); decide
  apply Moves.refl
  dsimp only
  with_reducible apply Moves.of_pair; assumption
  with_reducible apply Moves.app (coreTranslate_frame ..); decide
  apply Moves.refl

theorem spill_frame (a0 : State) : Moves [.od, .draws, .log, .can, .pdo, .link, .mem, .sched, .tabor] a0 (spill a0).1 := by
  unfold spill
  extract_lets +onlyGivenNames x; clear_value x
  extract_lets +onlyGivenNames x; clear_value x
  extract_lets +onlyGivenNames x; clear_value x
  extract_lets +onlyGivenNames x; clear_value x
  with_reducible apply Moves.ite_fst
  dsimp only
  apply Moves.refl
  split
  focus
    extract_lets +onlyGivenNames x; refine Moves.use x ?_ (fun hx => ?_); unfold x; clear x; rotate_left; clear_value x; rotate_right
  refine Moves.update ?_
  with_reducible apply Moves.of_pair; assumption
  with_reducible apply Moves.app (windowAccess_frame ..); decide
  apply Moves.refl
  dsimp only
  with_reducible apply Moves.app (State.setCore_frame ..); decide
  assumption
  dsimp only
  with_reducible apply Moves.of_pair; assumption
  with_reducible apply Moves.app (windowAccess_frame ..); decide
  apply Moves.refl
  dsimp only
  with_reducible apply Moves.of_pair; assumption
  with_reducible apply Moves.app (windowAccess_frame ..); decide
  apply Moves.refl

theorem windowForward_frame (a0 : State) (a1 : Bool) : Moves [.od, .draws, .log, .can, .pdo, .link, .mem, .sched, .tabor] a0 (windowForward a0 a1).1 := by
  unfold windowForward
  extract_lets +onlyGivenNames g250
  with_reducible apply Moves.ite_fst
  split
  dsimp only
  unfold g250; dsimp only
  with_reducible apply Moves.app (State.setCore_frame ..); decide
  with_reducible apply Moves.of_pair; assumption
  with_reducible apply Moves.app (spill_frame ..); decide
  apply Moves.refl
  with_reducible apply Moves.app (spill_frame ..); decide
  apply Moves.refl
  dsimp only
  unfold g250; dsimp only
  with_reducible apply Moves.app (State.setCore_frame ..); decide
  apply Moves.refl

theorem enterVector_frame (a0 : State) (a1 : Nat) (a2 : Nat) (a3 : Nat) (a4 : Bool) (a5 : Bool) (a6 : Bool) : Moves [.od, .tabor] a0 (enterVector a0 a1 a2 a3 a4 a5 a6) := by
  unfold enterVector
  extract_lets +onlyGivenNames x; clear_value x
  extract_lets +onlyGivenNames x; clear_value x
  extract_lets +onlyGivenNames x; clear_value x
  extract_lets +onlyGivenNames x; clear_value x
  focus
    extract_lets +onlyGivenNames x; refine Moves.use x ?_ (fun hx => ?_); unfold x; clear x; rotate_left; clear_value x; rotate_right
  with_reducible apply Moves.app (State.count_frame ..); decide
  with_reducible apply Moves.app (State.setCore_frame ..); decide
  apply Moves.refl
  refine Moves.update ?_
  assumption

theorem leaveUser_frame (a0 : State) : Moves [.od, .draws, .log, .can, .pdo, .link, .mem, .sched, .tabor] a0 (leaveUser a0) := by
  unfold leaveUser
  extract_lets +onlyGivenNames x; clear_value x
  focus
    extract_lets +onlyGivenNames x; refine Moves.use x ?_ (fun hx => ?_); unfold x; clear x; rotate_left; clear_value x; rotate_right
  with_reducible apply Moves.app (breakLock_frame ..); decide
  apply Moves.refl
  extract_lets +onlyGivenNames x; clear_value x
  extract_lets +onlyGivenNames x; clear_value x
  focus
    extract_lets +onlyGivenNames x; refine Moves.use x ?_ (fun hx => ?_); unfold x; clear x; rotate_left; clear_value x; rotate_right
  with_reducible apply Moves.app (State.setCore_frame ..); decide
  assumption
  focus
    extract_lets +onlyGivenNames x; refine Moves.use x ?_ (fun hx => ?_); unfold x; clear x; rotate_left; clear_value x; rotate_right
  split
  with_reducible apply Moves.app (enterVector_frame ..); decide
  with_reducible apply Moves.of_pair; assumption
  with_reducible apply Moves.app (windowForward_frame ..); decide
  assumption
  with_reducible apply Moves.app (enterVector_frame ..); decide
  with_reducible apply Moves.of_pair; assumption
  with_reducible apply Moves.app (windowForward_frame ..); decide
  assumption
  refine Moves.update ?_
  assumption

theorem streamLost_frame (a0 : State) (a1 : Packet) : Moves [.od, .link] a0 (streamLost a0 a1) := by
  unfold streamLost
  split
  focus
    extract_lets +onlyGivenNames x; refine Moves.use x ?_ (fun hx => ?_); unfold x; clear x; rotate_left; clear_value x; rotate_right
  with_reducible apply Moves.app (State.count_frame ..); decide
  apply Moves.refl
  extract_lets +onlyGivenNames x; clear_value x
  focus
    extract_lets +onlyGivenNames x; refine Moves.use x ?_ (fun hx => ?_); unfold x; clear x; rotate_left; clear_value x; rotate_right
  refine Moves.update ?_
  assumption
  with_reducible apply Moves.ite
  assumption
  with_reducible apply Moves.app (raiseVector_frame ..); decide
  refine Moves.update ?_
  assumption
  apply Moves.refl

theorem serveFills_frame (a0 : State) : Moves [.od, .draws, .log, .link, .mem, .sched] a0 (serveFills a0) := by
  unfold serveFills
  with_reducible apply Moves.foldl; intro _ _ _
  with_reducible apply Moves.app (startWaiting_frame ..); decide
  assumption
  apply Moves.refl

theorem fillFails_frame (a0 : State) (a1 : Fill) : Moves [.od, .draws, .log, .link, .mem, .sched] a0 (fillFails a0 a1).1 := by
  unfold fillFails
  extract_lets +onlyGivenNames x
  focus
    extract_lets +onlyGivenNames x; refine Moves.use x ?_ (fun hx => ?_); unfold x; clear x; rotate_left; clear_value x; rotate_right
  refine Moves.update ?_
  apply Moves.refl
  focus
    extract_lets +onlyGivenNames x; refine Moves.use x ?_ (fun hx => ?_); unfold x; clear x; rotate_left; clear_value x; rotate_right
  with_reducible apply Moves.app (dropReads_frame ..); decide
  assumption
  focus
    extract_lets +onlyGivenNames x; refine Moves.use x ?_ (fun hx => ?_); unfold x; clear x; rotate_left; clear_value x; rotate_right
  split
  with_reducible apply Moves.app (releaseFrame_frame ..); decide
  assumption
  assumption
  dsimp only
  with_reducible apply Moves.app (pumpReads_frame ..); decide
  with_reducible apply Moves.app (serveFills_frame ..); decide
  with_reducible apply Moves.app (countFailed_frame ..); decide
  assumption

theorem haltNow_frame (a0 : State) (a1 : Nat) (a2 : Bool) : Moves [.tabor] a0 (haltNow a0 a1 a2) := by
  unfold haltNow
  extract_lets +onlyGivenNames x; clear_value x
  extract_lets +onlyGivenNames x; clear_value x
  extract_lets +onlyGivenNames x; clear_value x
  refine Moves.update ?_
  apply Moves.refl

theorem boundaryHalt_frame (a0 : State) (a1 : Bool) : Moves [.tabor] a0 (boundaryHalt a0 a1) := by
  unfold boundaryHalt
  extract_lets +onlyGivenNames x; clear_value x
  with_reducible apply Moves.ite
  apply Moves.refl
  with_reducible apply Moves.ite
  with_reducible apply Moves.app (haltNow_frame ..); decide
  apply Moves.refl
  with_reducible apply Moves.ite
  with_reducible apply Moves.app (haltNow_frame ..); decide
  apply Moves.refl
  with_reducible apply Moves.ite
  with_reducible apply Moves.app (haltNow_frame ..); decide
  apply Moves.refl
  with_reducible apply Moves.ite
  with_reducible apply Moves.app (haltNow_frame ..); decide
  apply Moves.refl
  apply Moves.refl

theorem doubleFault_frame (a0 : State) : Moves [.mem, .tabor] a0 (doubleFault a0) := by
  unfold doubleFault
  focus
    extract_lets +onlyGivenNames x; refine Moves.use x ?_ (fun hx => ?_); unfold x; clear x; rotate_left; clear_value x; rotate_right
  with_reducible apply Moves.app (breakLock_frame ..); decide
  apply Moves.refl
  extract_lets +onlyGivenNames x; clear_value x
  extract_lets +onlyGivenNames x; clear_value x
  focus
    extract_lets +onlyGivenNames x; refine Moves.use x ?_ (fun hx => ?_); unfold x; clear x; rotate_left; clear_value x; rotate_right
  with_reducible apply Moves.app (State.setCore_frame ..); decide
  assumption
  refine Moves.update ?_
  assumption

theorem programFaults_frame (a0 : State) (a1 : Bool) (a2 : Nat) (a3 : Nat) : Moves [.od, .log, .can, .pdo, .link, .mem, .sched, .tabor] a0 (programFaults a0 a1 a2 a3) := by
  unfold programFaults
  with_reducible apply Moves.ite
  with_reducible apply Moves.app (faultProgram_frame ..); decide
  apply Moves.refl
  apply Moves.refl

theorem takeException_frame (a0 : State) (a1 : Nat) (a2 : Nat) (a3 : Nat) (a4 : Bool) (a5 : Bool) : Moves [.od, .draws, .log, .can, .pdo, .link, .mem, .sched, .tabor] a0 (takeException a0 a1 a2 a3 a4 a5) := by
  unfold takeException
  focus
    extract_lets +onlyGivenNames x; refine Moves.use x ?_ (fun hx => ?_); unfold x; clear x; rotate_left; clear_value x; rotate_right
  with_reducible apply Moves.app (State.setCore_frame ..); decide
  apply Moves.refl
  with_reducible apply Moves.ite
  with_reducible apply Moves.app (doubleFault_frame ..); decide
  assumption
  extract_lets +onlyGivenNames x; clear_value x
  extract_lets +onlyGivenNames x; clear_value x
  split
  with_reducible apply Moves.app (programFaults_frame ..); decide
  with_reducible apply Moves.app (enterVector_frame ..); decide
  with_reducible apply Moves.of_pair; assumption
  with_reducible apply Moves.app (windowForward_frame ..); decide
  assumption
  with_reducible apply Moves.of_pair; assumption
  with_reducible apply Moves.app (windowForward_frame ..); decide
  assumption
  with_reducible apply Moves.app (programFaults_frame ..); decide
  with_reducible apply Moves.app (enterVector_frame ..); decide
  with_reducible apply Moves.of_pair; assumption
  with_reducible apply Moves.app (windowForward_frame ..); decide
  assumption

theorem instrFault_frame (a0 : State) (a1 : Nat) (a2 : Nat) : Moves [.od, .draws, .log, .can, .pdo, .link, .mem, .sched, .tabor] a0 (instrFault a0 a1 a2) := by
  unfold instrFault
  split
  focus
    extract_lets +onlyGivenNames x; refine Moves.use x ?_ (fun hx => ?_); unfold x; clear x; rotate_left; clear_value x; rotate_right
  with_reducible apply Moves.app (State.count_frame ..); decide
  with_reducible apply Moves.app (breakLock_frame ..); decide
  apply Moves.refl
  with_reducible apply Moves.app (boundaryHalt_frame ..); decide
  with_reducible apply Moves.app (takeException_frame ..); decide
  assumption
  with_reducible apply Moves.app (boundaryHalt_frame ..); decide
  with_reducible apply Moves.app (takeException_frame ..); decide
  apply Moves.refl

theorem mwrRefused_frame (a0 : State) : Moves [.od, .link] a0 (mwrRefused a0) := by
  unfold mwrRefused
  focus
    extract_lets +onlyGivenNames x; refine Moves.use x ?_ (fun hx => ?_); unfold x; clear x; rotate_left; clear_value x; rotate_right
  with_reducible apply Moves.app (State.count_frame ..); decide
  apply Moves.refl
  with_reducible apply Moves.ite
  assumption
  with_reducible apply Moves.app (raiseVector_frame ..); decide
  refine Moves.update ?_
  assumption

theorem inboundFails_frame (a0 : State) (a1 : Packet) (a2 : Nat) : Moves [.od, .link] a0 (inboundFails a0 a1 a2) := by
  unfold inboundFails
  split
  with_reducible apply Moves.app (State.sendPacket_frame ..); decide
  apply Moves.refl
  with_reducible apply Moves.app (mwrRefused_frame ..); decide
  apply Moves.refl
  apply Moves.refl

theorem laneFillRefused_frame (a0 : State) (a1 : Nat) : Moves [.od, .sense] a0 (laneFillRefused a0 a1) := by
  unfold laneFillRefused
  extract_lets +onlyGivenNames x; clear_value x
  focus
    extract_lets +onlyGivenNames x; refine Moves.use x ?_ (fun hx => ?_); unfold x; clear x; rotate_left; clear_value x; rotate_right
  refine Moves.update ?_
  apply Moves.refl
  with_reducible apply Moves.app (State.set_frame ..); decide
  assumption

theorem waiterFails_frame (a0 : State) (a1 : Waiter) : Moves [.od, .draws, .log, .can, .pdo, .link, .mem, .sched, .tabor, .sense] a0 (waiterFails a0 a1) := by
  unfold waiterFails
  split
  split
  with_reducible apply Moves.app (instrFault_frame ..); decide
  refine Moves.update ?_
  apply Moves.refl
  apply Moves.refl
  split
  apply Moves.refl
  with_reducible apply Moves.app (inboundFails_frame ..); decide
  refine Moves.update ?_
  apply Moves.refl
  with_reducible apply Moves.app (laneFillRefused_frame ..); decide
  apply Moves.refl

theorem failFill_frame (a0 : State) (a1 : Fill) : Moves [.od, .draws, .log, .can, .pdo, .link, .mem, .sched, .tabor, .sense] a0 (failFill a0 a1) := by
  unfold failFill
  split
  with_reducible apply Moves.foldl; intro _ _ _
  with_reducible apply Moves.app (waiterFails_frame ..); decide
  assumption
  with_reducible apply Moves.of_pair; assumption
  with_reducible apply Moves.app (fillFails_frame ..); decide
  apply Moves.refl

theorem failPage_frame (a0 : State) (a1 : Nat) : Moves [.od, .draws, .log, .can, .pdo, .link, .mem, .sched, .tabor, .sense] a0 (failPage a0 a1) := by
  unfold failPage
  split
  with_reducible apply Moves.ite
  with_reducible apply Moves.app (cancelPrefetch_frame ..); decide
  apply Moves.refl
  with_reducible apply Moves.app (failFill_frame ..); decide
  apply Moves.refl
  apply Moves.refl

theorem usdoSend_frame (a0 : State) (a1 : Nat) (a2 : Nat) (a3 : Nat) (a4 : List Nat) : Moves [.can, .pdo] a0 (usdoSend a0 a1 a2 a3 a4) := by
  unfold usdoSend
  with_reducible apply Moves.app (enqueueTx_frame ..); decide
  apply Moves.refl

theorem setTransfer_frame (a0 : State) (a1 : Nat) (a2 : Nat) (a3 : UsdoTransfer) : Moves [.can, .pdo] a0 (setTransfer a0 a1 a2 a3) := by
  unfold setTransfer
  refine Moves.update ?_
  apply Moves.refl

theorem usdoUpload_frame (a0 : State) (a1 : Nat) (a2 : Nat) (a3 : List Nat) : Moves [.can, .pdo] a0 (usdoUpload a0 a1 a2 a3) := by
  unfold usdoUpload
  with_reducible apply Moves.app (usdoSend_frame ..); decide
  with_reducible apply Moves.app (setTransfer_frame ..); decide
  apply Moves.refl

theorem usdoAnswer_frame (a0 : State) (a1 : Nat) (a2 : Status) (a3 : List Nat) : Moves [.can, .pdo] a0 (usdoAnswer a0 a1 a2 a3) := by
  unfold usdoAnswer
  split
  with_reducible apply Moves.ite
  with_reducible apply Moves.app (usdoUpload_frame ..); decide
  apply Moves.refl
  with_reducible apply Moves.app (usdoSend_frame ..); decide
  apply Moves.refl
  apply Moves.refl

theorem sdoSend_frame (a0 : State) (a1 : List Nat) : Moves [.can, .pdo] a0 (sdoSend a0 a1) := by
  unfold sdoSend
  with_reducible apply Moves.app (enqueueTx_frame ..); decide
  apply Moves.refl

theorem sdoAbort_frame (a0 : State) (a1 : Nat) (a2 : Nat) (a3 : Nat) : Moves [.can, .pdo] a0 (sdoAbort a0 a1 a2 a3) := by
  unfold sdoAbort
  focus
    extract_lets +onlyGivenNames x; refine Moves.use x ?_ (fun hx => ?_); unfold x; clear x; rotate_left; clear_value x; rotate_right
  with_reducible apply Moves.app (sdoSend_frame ..); decide
  apply Moves.refl
  refine Moves.update ?_
  assumption

theorem uploadBegin_frame (a0 : State) (a1 : Nat) (a2 : Nat) (a3 : List Nat) : Moves [.can, .pdo] a0 (uploadBegin a0 a1 a2 a3) := by
  unfold uploadBegin
  extract_lets +onlyGivenNames x; clear_value x
  with_reducible apply Moves.ite
  with_reducible apply Moves.app (sdoSend_frame ..); decide
  refine Moves.update ?_
  apply Moves.refl
  with_reducible apply Moves.app (sdoSend_frame ..); decide
  refine Moves.update ?_
  apply Moves.refl

theorem commitEcc_frame (a0 : State) (a1 : List (Nat × Byte)) : Moves [.od, .log, .can, .pdo, .link, .mem, .sched] a0 (commitEcc a0 a1).1 := by
  unfold commitEcc
  with_reducible apply Moves.foldl_fst; intro _ _ _
  split
  dsimp only
  with_reducible apply Moves.of_pair; assumption
  with_reducible apply Moves.app (checkEcc_frame ..); decide
  assumption
  dsimp only
  apply Moves.refl

theorem advance_frame (a0 : State) (a1 : Nat) (a2 : Option Word) (a3 : Word) (a4 : Word) : Moves [.mem, .tabor] a0 (advance a0 a1 a2 a3 a4).1 := by
  unfold advance
  extract_lets +onlyGivenNames x; clear_value x
  extract_lets +onlyGivenNames x; clear_value x
  focus
    extract_lets +onlyGivenNames x; refine Moves.use x ?_ (fun hx => ?_); unfold x; clear x; rotate_left; clear_value x; rotate_right
  with_reducible apply Moves.app (State.setCore_frame ..); decide
  apply Moves.refl
  extract_lets +onlyGivenNames x; clear_value x
  focus
    extract_lets +onlyGivenNames x; refine Moves.use x ?_ (fun hx => ?_); unfold x; clear x; rotate_left; clear_value x; rotate_right
  refine Moves.update ?_
  assumption
  split
  dsimp only
  assumption
  with_reducible apply Moves.ite_fst
  focus
    extract_lets +onlyGivenNames x; refine Moves.use x ?_ (fun hx => ?_); unfold x; clear x; rotate_left; clear_value x; rotate_right
  refine Moves.update ?_
  assumption
  dsimp only
  with_reducible apply Moves.app (State.setCore_frame ..); decide
  assumption
  dsimp only
  with_reducible apply Moves.app (State.setCore_frame ..); decide
  assumption

theorem retire_frame (a0 : State) (a1 : Nat) (a2 : Option Word) : Moves [.od, .draws, .log, .can, .pdo, .link, .mem, .sched, .tabor] a0 (retire a0 a1 a2) := by
  unfold retire
  focus
    extract_lets +onlyGivenNames x; refine Moves.use x.1 ?_ (fun hx => ?_); unfold x; clear x; rotate_left; clear_value x; rotate_right
  split
  with_reducible apply Moves.ite_fst
  with_reducible apply Moves.app (commitEcc_frame ..); decide
  apply Moves.refl
  dsimp only
  apply Moves.refl
  dsimp only
  apply Moves.refl
  split
  with_reducible apply Moves.app (instrFault_frame ..); decide
  assumption
  split
  with_reducible apply Moves.app (boundaryHalt_frame ..); decide
  with_reducible apply Moves.of_pair; assumption
  with_reducible apply Moves.app (advance_frame ..); decide
  assumption

theorem finishCore_frame (a0 : State) (a1 : Status) (a2 : List Nat) : Moves [.od, .draws, .log, .can, .pdo, .link, .mem, .sched, .tabor] a0 (finishCore a0 a1 a2) := by
  unfold finishCore
  split
  extract_lets +onlyGivenNames x; clear_value x
  focus
    extract_lets +onlyGivenNames x; refine Moves.use x ?_ (fun hx => ?_); unfold x; clear x; rotate_left; clear_value x; rotate_right
  refine Moves.update ?_
  apply Moves.refl
  with_reducible apply Moves.ite
  extract_lets +onlyGivenNames x; clear_value x
  extract_lets +onlyGivenNames x; clear_value x
  extract_lets +onlyGivenNames x; clear_value x
  with_reducible apply Moves.app (retire_frame ..); decide
  with_reducible apply Moves.app (State.setCore_frame ..); decide
  assumption
  with_reducible apply Moves.app (instrFault_frame ..); decide
  assumption
  apply Moves.refl

theorem finishRequest_frame (a0 : State) (a1 : Nat) (a2 : Nat) (a3 : Nat) (a4 : Nat) (a5 : Status) (a6 : List Nat) : Moves [.od, .draws, .replies, .log, .can, .pdo, .link, .mem, .sched, .tabor, .test] a0 (finishRequest a0 a1 a2 a3 a4 a5 a6) := by
  unfold finishRequest
  split
  focus
    extract_lets +onlyGivenNames x; refine Moves.use x ?_ (fun hx => ?_); unfold x; clear x; rotate_left; clear_value x; rotate_right
  with_reducible apply Moves.app (State.reply_frame ..); decide
  apply Moves.refl
  with_reducible apply Moves.ite
  with_reducible apply Moves.app (usdoAnswer_frame ..); decide
  assumption
  split
  with_reducible apply Moves.ite
  with_reducible apply Moves.ite
  with_reducible apply Moves.app (sdoAbort_frame ..); decide
  assumption
  with_reducible apply Moves.ite
  with_reducible apply Moves.app (uploadBegin_frame ..); decide
  assumption
  with_reducible apply Moves.app (sdoSend_frame ..); decide
  refine Moves.update ?_
  assumption
  assumption
  assumption
  with_reducible apply Moves.app (State.sendPacket_frame ..); decide
  with_reducible apply Moves.app (State.reply_frame ..); decide
  apply Moves.refl
  with_reducible apply Moves.app (finishCore_frame ..); decide
  with_reducible apply Moves.app (State.reply_frame ..); decide
  apply Moves.refl
  focus
    extract_lets +onlyGivenNames x; refine Moves.use x ?_ (fun hx => ?_); unfold x; clear x; rotate_left; clear_value x; rotate_right
  with_reducible apply Moves.app (State.reply_frame ..); decide
  apply Moves.refl
  refine Moves.update ?_
  assumption

theorem failRead_frame (a0 : State) (a1 : ReadUse) : Moves [.od, .draws, .replies, .log, .can, .pdo, .link, .mem, .sched, .tabor, .sense, .test] a0 (failRead a0 a1) := by
  unfold failRead
  split
  with_reducible apply Moves.app (failPage_frame ..); decide
  apply Moves.refl
  apply Moves.refl
  with_reducible apply Moves.app (finishRequest_frame ..); decide
  apply Moves.refl

theorem ringsLinkDown_frame (a0 : State) : Moves [.sched] a0 (ringsLinkDown a0) := by
  unfold ringsLinkDown
  with_reducible apply Moves.foldl; intro _ _ _
  with_reducible apply Moves.ite
  with_reducible apply Moves.app (State.setRing_frame ..); decide
  assumption
  assumption
  apply Moves.refl

theorem writeBacksLost_frame (a0 : State) : Moves [.od, .log, .link, .mem, .sched] a0 (writeBacksLost a0) := by
  unfold writeBacksLost
  with_reducible apply Moves.foldl; intro _ _ _
  split
  with_reducible apply Moves.app (writeBackLost_frame ..); decide
  assumption
  assumption
  apply Moves.refl

theorem linkDown_frame (a0 : State) : Moves [.od, .draws, .replies, .store, .log, .can, .pdo, .link, .mem, .sched, .tabor, .sense, .update, .test] a0 (linkDown a0) := by
  unfold linkDown
  extract_lets +onlyGivenNames x; clear_value x
  extract_lets +onlyGivenNames x; clear_value x
  extract_lets +onlyGivenNames x; clear_value x
  extract_lets +onlyGivenNames x; clear_value x
  extract_lets +onlyGivenNames x; clear_value x
  extract_lets +onlyGivenNames x; clear_value x
  extract_lets +onlyGivenNames x
  extract_lets +onlyGivenNames x; clear_value x
  focus
    extract_lets +onlyGivenNames x; refine Moves.use x ?_ (fun hx => ?_); unfold x; clear x; rotate_left; clear_value x; rotate_right
  refine Moves.update ?_
  apply Moves.refl
  focus
    extract_lets +onlyGivenNames x; refine Moves.use x ?_ (fun hx => ?_); unfold x; clear x; rotate_left; clear_value x; rotate_right
  with_reducible apply Moves.app (State.count_frame ..); decide
  assumption
  focus
    extract_lets +onlyGivenNames x; refine Moves.use x ?_ (fun hx => ?_); unfold x; clear x; rotate_left; clear_value x; rotate_right
  with_reducible apply Moves.foldl; intro _ _ _
  with_reducible apply Moves.app (streamLost_frame ..); decide
  assumption
  assumption
  focus
    extract_lets +onlyGivenNames x; refine Moves.use x ?_ (fun hx => ?_); unfold x; clear x; rotate_left; clear_value x; rotate_right
  with_reducible apply Moves.foldl; intro _ _ _
  with_reducible apply Moves.app (failRead_frame ..); decide
  assumption
  assumption
  focus
    extract_lets +onlyGivenNames x; refine Moves.use x ?_ (fun hx => ?_); unfold x; clear x; rotate_left; clear_value x; rotate_right
  with_reducible apply Moves.app (ringsLinkDown_frame ..); decide
  with_reducible apply Moves.app (serveFills_frame ..); decide
  with_reducible apply Moves.app (writeBacksLost_frame ..); decide
  assumption
  with_reducible apply Moves.app (raise_frame ..); decide
  assumption

theorem logVerbose_frame (a0 : State) (a1 : Nat) (a2 : Nat) (a3 : Nat) (a4 : Nat) : Moves [.od, .log, .link, .sched] a0 (logVerbose a0 a1 a2 a3 a4) := by
  unfold logVerbose
  with_reducible apply Moves.ite
  with_reducible apply Moves.app (logStateChange_frame ..); decide
  apply Moves.refl
  apply Moves.refl

theorem setLink_frame (a0 : State) (a1 : Nat) : Moves [.od, .log, .link, .sched] a0 (setLink a0 a1) := by
  unfold setLink
  extract_lets +onlyGivenNames x; clear_value x
  with_reducible apply Moves.ite
  apply Moves.refl
  with_reducible apply Moves.app (logVerbose_frame ..); decide
  with_reducible apply Moves.app (State.set_frame ..); decide
  apply Moves.refl

theorem linkIdle_frame (a0 : State) : Moves [.od, .draws, .replies, .store, .log, .can, .pdo, .link, .mem, .sched, .tabor, .sense, .update, .test] a0 (linkIdle a0) := by
  unfold linkIdle
  focus
    extract_lets +onlyGivenNames x; refine Moves.use x ?_ (fun hx => ?_); unfold x; clear x; rotate_left; clear_value x; rotate_right
  with_reducible apply Moves.ite
  with_reducible apply Moves.app (linkDown_frame ..); decide
  apply Moves.refl
  apply Moves.refl
  with_reducible apply Moves.app (State.set_frame ..); decide
  with_reducible apply Moves.app (setLink_frame ..); decide
  assumption

theorem enterDetect_frame (a0 : State) : Moves [.od, .draws, .replies, .store, .log, .can, .pdo, .link, .mem, .sched, .tabor, .sense, .update, .test] a0 (enterDetect a0) := by
  unfold enterDetect
  with_reducible apply Moves.ite
  with_reducible apply Moves.app (linkIdle_frame ..); decide
  apply Moves.refl
  focus
    extract_lets +onlyGivenNames x; refine Moves.use x ?_ (fun hx => ?_); unfold x; clear x; rotate_left; clear_value x; rotate_right
  with_reducible apply Moves.ite
  with_reducible apply Moves.app (linkDown_frame ..); decide
  apply Moves.refl
  apply Moves.refl
  focus
    extract_lets +onlyGivenNames x; refine Moves.use x ?_ (fun hx => ?_); unfold x; clear x; rotate_left; clear_value x; rotate_right
  with_reducible apply Moves.app (State.set_frame ..); decide
  with_reducible apply Moves.app (setLink_frame ..); decide
  assumption
  refine Moves.update ?_
  assumption

theorem portCommand_frame {l : List Part} {a s : State} {p : Port} {i sub : Nat} {f : State → State × Status} (h : Moves l a s)
    (hf : ∀ t, Moves l t (f t).1) (hr : Part.replies ∈ l) : Moves l a (portCommand s p i sub f) := by
  have rep (t : State) (st : Status) : Moves l t (t.reply p st []) := (State.reply_frame _ _ _ _).mono (by simpa using hr)
  unfold portCommand
  refine h.trans (Moves.ite _ (rep _ _) ?_)
  split
  · exact (hf s).trans (rep _ _)
  · exact rep _ _

theorem raiseEv_frame (a0 : State) (a1 : Nat) (a2 : Nat) : Moves [.od, .link, .sched] a0 (raiseEv a0 a1 a2) := by
  unfold raiseEv
  with_reducible apply Moves.app (raiseVector_frame ..); decide
  with_reducible apply Moves.app (raise_frame ..); decide
  apply Moves.refl

theorem storeEcc_frame (a0 : State) (a1 : Nat) (a2 : Nat) : Moves [.od, .log, .can, .pdo, .link, .mem, .sched] a0 (storeEcc a0 a1 a2).1 := by
  unfold storeEcc
  split
  split
  dsimp only
  with_reducible apply Moves.of_pair; assumption
  with_reducible apply Moves.ite_fst
  with_reducible apply Moves.app (checkEcc_frame ..); decide
  with_reducible apply Moves.of_pair; assumption
  with_reducible apply Moves.ite_fst
  with_reducible apply Moves.app (checkEcc_frame ..); decide
  apply Moves.refl
  dsimp only
  apply Moves.refl
  dsimp only
  with_reducible apply Moves.of_pair; assumption
  with_reducible apply Moves.ite_fst
  with_reducible apply Moves.app (checkEcc_frame ..); decide
  apply Moves.refl
  dsimp only
  apply Moves.refl

theorem objWrite_frame (a0 : State) (a1 : Nat) (a2 : Nat) (a3 : List Nat) : Moves [.od, .draws, .log, .can, .pdo, .link, .mem, .sched] a0 (objWrite a0 a1 a2 a3).1 := by
  unfold objWrite
  with_reducible apply Moves.ite_fst
  dsimp only
  apply Moves.refl
  split
  dsimp only
  with_reducible apply Moves.of_pair; assumption
  with_reducible apply Moves.app (translate_frame ..); decide
  apply Moves.refl
  dsimp only
  with_reducible apply Moves.of_pair; assumption
  with_reducible apply Moves.app (translate_frame ..); decide
  apply Moves.refl
  extract_lets +onlyGivenNames x; clear_value x
  split
  with_reducible apply Moves.ite_fst
  dsimp only
  with_reducible apply Moves.of_pair; assumption
  with_reducible apply Moves.app (storeEcc_frame ..); decide
  with_reducible apply Moves.of_pair; assumption
  with_reducible apply Moves.app (translate_frame ..); decide
  apply Moves.refl
  dsimp only
  refine Moves.update ?_
  with_reducible apply Moves.of_pair; assumption
  with_reducible apply Moves.app (storeEcc_frame ..); decide
  with_reducible apply Moves.of_pair; assumption
  with_reducible apply Moves.app (translate_frame ..); decide
  apply Moves.refl

theorem emcyDrainAll_frame (n : Nat) (s : State) : Moves [.od, .can, .pdo, .link] s (emcyDrainAll n s) := by
  induction n generalizing s with
  | zero => exact Moves.refl _ _
  | succ n ih => exact ((emcyDrain_frame s).mono (by decide)).trans (ih _)

theorem refreshErrors_frame (a0 : State) : Moves [.od, .can, .pdo, .link] a0 (refreshErrors a0) := by
  unfold refreshErrors
  extract_lets +onlyGivenNames x; clear_value x
  extract_lets +onlyGivenNames x; clear_value x
  with_reducible apply Moves.ite
  apply Moves.refl
  with_reducible apply Moves.ite
  with_reducible apply Moves.app (emcy_frame ..); decide
  with_reducible apply Moves.app (State.set_frame ..); decide
  apply Moves.refl
  with_reducible apply Moves.app (State.set_frame ..); decide
  apply Moves.refl

theorem logCondition_frame (a0 : State) (a1 : Nat) (a2 : Nat) (a3 : Nat) (a4 : Bool) (a5 : Nat) : Moves [.od, .log, .link, .sched] a0 (logCondition a0 a1 a2 a3 a4 a5) := by
  unfold logCondition
  with_reducible apply Moves.app (queueLog_frame ..); decide
  apply Moves.refl

theorem ringLost_frame (a0 : State) (a1 : Nat) (a2 : Nat) : Moves [.od] a0 (ringLost a0 a1 a2) := by
  unfold ringLost
  with_reducible apply Moves.app (State.countBy_frame ..); decide
  apply Moves.refl

theorem ringWrite_frame (a0 : State) (a1 : Nat) (a2 : List Nat) : Moves [.od, .link, .mem, .sched] a0 (ringWrite a0 a1 a2) := by
  unfold ringWrite
  extract_lets +onlyGivenNames x; clear_value x
  extract_lets +onlyGivenNames x; clear_value x
  extract_lets +onlyGivenNames x; clear_value x
  extract_lets +onlyGivenNames x; clear_value x
  focus
    extract_lets +onlyGivenNames x; refine Moves.use x ?_ (fun hx => ?_); unfold x; clear x; rotate_left; clear_value x; rotate_right
  with_reducible apply Moves.ite
  with_reducible apply Moves.app (State.sendPacket_frame ..); decide
  apply Moves.refl
  refine Moves.update ?_
  apply Moves.refl
  focus
    extract_lets +onlyGivenNames x; refine Moves.use x ?_ (fun hx => ?_); unfold x; clear x; rotate_left; clear_value x; rotate_right
  with_reducible apply Moves.app (State.writeIndexBlock_frame ..); decide
  with_reducible apply Moves.app (State.setRing_frame ..); decide
  assumption
  with_reducible apply Moves.app (raiseVector_frame ..); decide
  with_reducible apply Moves.app (raise_frame ..); decide
  assumption

theorem ringProduce_frame (a0 : State) (a1 : Nat) (a2 : List Nat) : Moves [.od, .link, .mem, .sched] a0 (ringProduce a0 a1 a2) := by
  unfold ringProduce
  extract_lets +onlyGivenNames x; clear_value x
  extract_lets +onlyGivenNames x; clear_value x
  with_reducible apply Moves.ite
  with_reducible apply Moves.app (holdRing_frame ..); decide
  apply Moves.refl
  with_reducible apply Moves.ite
  with_reducible apply Moves.app (State.count_frame ..); decide
  apply Moves.refl
  with_reducible apply Moves.ite
  with_reducible apply Moves.app (ringLost_frame ..); decide
  apply Moves.refl
  with_reducible apply Moves.ite
  with_reducible apply Moves.app (ringWrite_frame ..); decide
  apply Moves.refl
  with_reducible apply Moves.ite
  with_reducible apply Moves.app (ringWrite_frame ..); decide
  with_reducible apply Moves.app (ringLost_frame ..); decide
  with_reducible apply Moves.app (State.setRing_frame ..); decide
  apply Moves.refl
  with_reducible apply Moves.app (ringLost_frame ..); decide
  apply Moves.refl

theorem ringCheck_frame (a0 : State) (a1 : Nat) : Moves [.od, .log, .can, .pdo, .link, .mem, .sched] a0 (ringCheck a0 a1).1 := by
  unfold ringCheck
  extract_lets +onlyGivenNames x; clear_value x
  extract_lets +onlyGivenNames x; clear_value x
  with_reducible apply Moves.foldl_fst; intro _ _ _
  split
  dsimp only
  with_reducible apply Moves.of_pair; assumption
  with_reducible apply Moves.app (checkEcc_frame ..); decide
  assumption
  dsimp only
  apply Moves.refl

theorem ringConsume_frame (a0 : State) (a1 : Nat) : Moves [.link, .mem, .sched] a0 (ringConsume a0 a1) := by
  unfold ringConsume
  extract_lets +onlyGivenNames x; clear_value x
  with_reducible apply Moves.app (State.writeIndexBlock_frame ..); decide
  with_reducible apply Moves.app (State.setRing_frame ..); decide
  apply Moves.refl

theorem ringPop_frame (a0 : State) (a1 : Nat) (a2 : Bool) : Moves [.od, .log, .can, .pdo, .link, .mem, .sched] a0 (ringPop a0 a1 a2).1 := by
  unfold ringPop
  extract_lets +onlyGivenNames x; clear_value x
  extract_lets +onlyGivenNames x; clear_value x
  with_reducible apply Moves.ite_fst
  dsimp only
  apply Moves.refl
  with_reducible apply Moves.ite_fst
  with_reducible apply Moves.ite_fst
  dsimp only
  apply Moves.refl
  dsimp only
  apply Moves.refl
  with_reducible apply Moves.ite_fst
  dsimp only
  apply Moves.refl
  split
  dsimp only
  with_reducible apply Moves.app (ringLost_frame ..); decide
  with_reducible apply Moves.app (ringConsume_frame ..); decide
  with_reducible apply Moves.of_pair; assumption
  with_reducible apply Moves.app (ringCheck_frame ..); decide
  apply Moves.refl
  dsimp only
  with_reducible apply Moves.ite
  with_reducible apply Moves.of_pair; assumption
  with_reducible apply Moves.app (ringCheck_frame ..); decide
  apply Moves.refl
  with_reducible apply Moves.app (ringConsume_frame ..); decide
  with_reducible apply Moves.of_pair; assumption
  with_reducible apply Moves.app (ringCheck_frame ..); decide
  apply Moves.refl

theorem linkReview_frame (a0 : State) : Moves [.od, .draws, .replies, .store, .log, .can, .pdo, .link, .mem, .sched, .tabor, .sense, .update, .test] a0 (linkReview a0) := by
  unfold linkReview
  focus
    extract_lets +onlyGivenNames x; refine Moves.use x ?_ (fun hx => ?_); unfold x; clear x; rotate_left; clear_value x; rotate_right
  with_reducible apply Moves.app (State.setFlag_frame ..); decide
  apply Moves.refl
  with_reducible apply Moves.ite
  with_reducible apply Moves.app (linkIdle_frame ..); decide
  assumption
  with_reducible apply Moves.ite
  with_reducible apply Moves.app (enterDetect_frame ..); decide
  assumption
  assumption

theorem noteOpener_frame (a0 : State) (a1 : Port) (a2 : Nat) (a3 : Nat) (a4 : Nat) (a5 : Nat) : Moves [.link] a0 (noteOpener a0 a1 a2 a3 a4 a5) := by
  unfold noteOpener
  split
  apply Moves.refl
  with_reducible apply Moves.ite
  apply Moves.refl
  extract_lets +onlyGivenNames x; clear_value x
  refine Moves.update ?_
  apply Moves.refl

theorem windowCloses_frame (a0 : State) (a1 : Nat) : Moves [.od, .draws, .log, .can, .pdo, .link, .mem, .sched, .tabor, .sense] a0 (windowCloses a0 a1) := by
  unfold windowCloses
  focus
    extract_lets +onlyGivenNames x; refine Moves.use x ?_ (fun hx => ?_); unfold x; clear x; rotate_left; clear_value x; rotate_right
  with_reducible apply Moves.foldl; intro _ _ _
  with_reducible apply Moves.app (cancelPrefetch_frame ..); decide
  assumption
  apply Moves.refl
  extract_lets +onlyGivenNames x; clear_value x
  with_reducible apply Moves.foldl; intro _ _ _
  with_reducible apply Moves.app (failPage_frame ..); decide
  assumption
  assumption

theorem tlbCommand_frame (a0 : State) (a1 : Nat) (a2 : Nat) : Moves [.od, .draws, .log, .link, .mem, .sched] a0 (tlbCommand a0 a1 a2) := by
  unfold tlbCommand
  with_reducible apply Moves.ite
  extract_lets +onlyGivenNames x
  focus
    extract_lets +onlyGivenNames x; refine Moves.use x ?_ (fun hx => ?_); unfold x; clear x; rotate_left; clear_value x; rotate_right
  refine Moves.update ?_
  apply Moves.refl
  with_reducible apply Moves.app (State.count_frame ..); decide
  assumption
  focus
    extract_lets +onlyGivenNames x; refine Moves.use x ?_ (fun hx => ?_); unfold x; clear x; rotate_left; clear_value x; rotate_right
  with_reducible apply Moves.app (cancelPrefetch_frame ..); decide
  apply Moves.refl
  extract_lets +onlyGivenNames x
  focus
    extract_lets +onlyGivenNames x; refine Moves.use x ?_ (fun hx => ?_); unfold x; clear x; rotate_left; clear_value x; rotate_right
  refine Moves.update ?_
  assumption
  extract_lets +onlyGivenNames x; clear_value x
  focus
    extract_lets +onlyGivenNames x; refine Moves.use x ?_ (fun hx => ?_); unfold x; clear x; rotate_left; clear_value x; rotate_right
  split
  with_reducible apply Moves.ite
  with_reducible apply Moves.app (serveFills_frame ..); decide
  with_reducible apply Moves.app (evict_frame ..); decide
  assumption
  assumption
  assumption
  focus
    extract_lets +onlyGivenNames x; refine Moves.use x ?_ (fun hx => ?_); unfold x; clear x; rotate_left; clear_value x; rotate_right
  refine Moves.update ?_
  assumption
  with_reducible apply Moves.ite
  assumption
  with_reducible apply Moves.app (State.count_frame ..); decide
  assumption

theorem ringOpen_frame (s : State) (n opener owner : Nat) : Moves [.od, .link, .mem, .sched] s (ringOpen s n opener owner).1 := by
  unfold ringOpen
  extract_lets d fs s1 r s2
  have h1 : Moves [.od, .link, .mem, .sched] s s1 := Moves.update (Moves.refl _ s) (k_mem := foldl_wf _ (fun _ _ => Mem.store_wf _ _ _) _ _)
  have h2 : Moves [.od, .link, .mem, .sched] s s2 := h1.trans ((State.setRing_frame _ _ _).mono (by decide))
  exact Moves.ite_fst _ ((State.count_frame _ _ _).mono (by decide)) (Moves.ite _ (h2.trans ((State.writeIndexBlock_frame _ _).mono (by decide))) h2)

theorem ringClose_frame (a0 : State) (a1 : Nat) : Moves [.sched] a0 (ringClose a0 a1) := by
  unfold ringClose
  extract_lets +onlyGivenNames x; clear_value x
  with_reducible apply Moves.ite
  with_reducible apply Moves.app (State.setRing_frame ..); decide
  apply Moves.refl
  apply Moves.refl

theorem ringAcknowledge_frame (a0 : State) (a1 : Nat) : Moves [.link, .mem, .sched] a0 (ringAcknowledge a0 a1) := by
  unfold ringAcknowledge
  extract_lets +onlyGivenNames x; clear_value x
  with_reducible apply Moves.ite
  with_reducible apply Moves.app (State.writeIndexBlock_frame ..); decide
  with_reducible apply Moves.app (State.setRing_frame ..); decide
  apply Moves.refl
  apply Moves.refl

theorem ringSpace_frame (a0 : State) (a1 : Nat) : Moves [.od, .draws, .replies, .log, .can, .pdo, .link, .mem, .sched, .tabor, .test] a0 (ringSpace a0 a1) := by
  unfold ringSpace
  split
  extract_lets +onlyGivenNames x; clear_value x
  with_reducible apply Moves.ite
  extract_lets +onlyGivenNames x; clear_value x
  focus
    extract_lets +onlyGivenNames x; refine Moves.use x ?_ (fun hx => ?_); unfold x; clear x; rotate_left; clear_value x; rotate_right
  refine Moves.update ?_
  apply Moves.refl
  with_reducible apply Moves.app (finishRequest_frame ..); decide
  with_reducible apply Moves.app (ringProduce_frame ..); decide
  assumption
  apply Moves.refl
  apply Moves.refl

theorem ringIndex_frame (a0 : State) (a1 : Nat) (a2 : Bool) (a3 : Nat) (a4 : Bool) : Moves [.od, .link, .sched] a0 (ringIndex a0 a1 a2 a3 a4) := by
  unfold ringIndex
  extract_lets +onlyGivenNames x; clear_value x
  extract_lets +onlyGivenNames x; clear_value x
  extract_lets +onlyGivenNames x; clear_value x
  extract_lets +onlyGivenNames x; clear_value x
  with_reducible apply Moves.ite
  focus
    extract_lets +onlyGivenNames x; refine Moves.use x ?_ (fun hx => ?_); unfold x; clear x; rotate_left; clear_value x; rotate_right
  with_reducible apply Moves.app (ringLost_frame ..); decide
  apply Moves.refl
  with_reducible apply Moves.ite
  with_reducible apply Moves.app (raiseVector_frame ..); decide
  assumption
  assumption
  focus
    extract_lets +onlyGivenNames x; refine Moves.use x ?_ (fun hx => ?_); unfold x; clear x; rotate_left; clear_value x; rotate_right
  with_reducible apply Moves.app (State.setRing_frame ..); decide
  apply Moves.refl
  with_reducible apply Moves.ite
  with_reducible apply Moves.app (raise_frame ..); decide
  assumption
  assumption

theorem ringPush_frame (a0 : State) (a1 : Nat) (a2 : Bool) (a3 : List Nat) : Moves [.od, .link, .mem, .sched] a0 (ringPush a0 a1 a2 a3).1 := by
  unfold ringPush
  extract_lets +onlyGivenNames x; clear_value x
  extract_lets +onlyGivenNames x; clear_value x
  with_reducible apply Moves.ite_fst
  with_reducible apply Moves.ite_fst
  dsimp only
  refine Moves.update ?_
  apply Moves.refl
  dsimp only
  apply Moves.refl
  dsimp only
  with_reducible apply Moves.app (ringProduce_frame ..); decide
  apply Moves.refl

theorem objRead_frame (a0 : State) (a1 : Nat) (a2 : Nat) (a3 : Nat) : Moves [.od, .draws, .log, .can, .pdo, .link, .mem, .sched] a0 (objRead a0 a1 a2 a3).1 := by
  unfold objRead
  with_reducible apply Moves.ite_fst
  dsimp only
  apply Moves.refl
  split
  dsimp only
  with_reducible apply Moves.of_pair; assumption
  with_reducible apply Moves.app (translate_frame ..); decide
  apply Moves.refl
  dsimp only
  with_reducible apply Moves.of_pair; assumption
  with_reducible apply Moves.app (translate_frame ..); decide
  apply Moves.refl
  extract_lets +onlyGivenNames x; clear_value x
  split
  with_reducible apply Moves.ite_fst
  dsimp only
  with_reducible apply Moves.of_pair; assumption
  with_reducible apply Moves.app (checkEcc_frame ..); decide
  with_reducible apply Moves.of_pair; assumption
  with_reducible apply Moves.app (translate_frame ..); decide
  apply Moves.refl
  dsimp only
  with_reducible apply Moves.of_pair; assumption
  with_reducible apply Moves.app (checkEcc_frame ..); decide
  with_reducible apply Moves.of_pair; assumption
  with_reducible apply Moves.app (translate_frame ..); decide
  apply Moves.refl

theorem commandComplete_frame (a0 : State) (a1 : Nat) : Moves [.od, .reg] a0 (commandComplete a0 a1) := by
  unfold commandComplete
  with_reducible apply Moves.app (State.count_frame ..); decide
  with_reducible apply Moves.app (State.showSetpoint_frame ..); decide
  with_reducible apply Moves.app (State.setRail_frame ..); decide
  apply Moves.refl

theorem railCommand_frame (a0 : State) (a1 : Nat) (a2 : Nat) (a3 : Bool) (a4 : Bool) : Moves [.od, .reg] a0 (railCommand a0 a1 a2 a3 a4) := by
  unfold railCommand
  extract_lets +onlyGivenNames x; clear_value x
  focus
    extract_lets +onlyGivenNames x; refine Moves.use x ?_ (fun hx => ?_); unfold x; clear x; rotate_left; clear_value x; rotate_right
  with_reducible apply Moves.ite
  with_reducible apply Moves.app (State.count_frame ..); decide
  apply Moves.refl
  apply Moves.refl
  focus
    extract_lets +onlyGivenNames x; refine Moves.use x ?_ (fun hx => ?_); unfold x; clear x; rotate_left; clear_value x; rotate_right
  with_reducible apply Moves.app (State.set_frame ..); decide
  assumption
  focus
    extract_lets +onlyGivenNames x; refine Moves.use x ?_ (fun hx => ?_); unfold x; clear x; rotate_left; clear_value x; rotate_right
  with_reducible apply Moves.app (State.setRail_frame ..); decide
  assumption
  extract_lets +onlyGivenNames x; clear_value x
  focus
    extract_lets +onlyGivenNames x; refine Moves.use x ?_ (fun hx => ?_); unfold x; clear x; rotate_left; clear_value x; rotate_right
  with_reducible apply Moves.app (State.setSup_frame ..); decide
  assumption
  with_reducible apply Moves.ite
  with_reducible apply Moves.app (commandComplete_frame ..); decide
  assumption
  assumption

theorem runFree_frame (a0 : State) (a1 : List Nat) : Moves [.reg] a0 (runFree a0 a1) := by
  unfold runFree
  with_reducible apply Moves.foldl; intro _ _ _
  with_reducible apply Moves.app (State.setRail_frame ..); decide
  assumption
  apply Moves.refl

theorem railDisabled_frame (a0 : State) (a1 : Nat) : Moves [.od, .reg] a0 (railDisabled a0 a1) := by
  unfold railDisabled
  extract_lets +onlyGivenNames x; clear_value x
  focus
    extract_lets +onlyGivenNames x; refine Moves.use x ?_ (fun hx => ?_); unfold x; clear x; rotate_left; clear_value x; rotate_right
  with_reducible apply Moves.app (State.setRail_frame ..); decide
  apply Moves.refl
  with_reducible apply Moves.app (commandComplete_frame ..); decide
  with_reducible apply Moves.app (runFree_frame ..); decide
  assumption

theorem reachedZero_frame (a0 : State) (a1 : Nat) : Moves [.od, .reg] a0 (reachedZero a0 a1) := by
  unfold reachedZero
  with_reducible apply Moves.ite
  with_reducible apply Moves.app (State.setRail_frame ..); decide
  apply Moves.refl
  with_reducible apply Moves.app (railDisabled_frame ..); decide
  apply Moves.refl

theorem railDisable_frame (a0 : State) (a1 : Nat) (a2 : Bool) : Moves [.od, .reg] a0 (railDisable a0 a1 a2) := by
  unfold railDisable
  extract_lets +onlyGivenNames x; clear_value x
  with_reducible apply Moves.ite
  apply Moves.refl
  focus
    extract_lets +onlyGivenNames x; refine Moves.use x ?_ (fun hx => ?_); unfold x; clear x; rotate_left; clear_value x; rotate_right
  with_reducible apply Moves.app (railCommand_frame ..); decide
  apply Moves.refl
  with_reducible apply Moves.ite
  with_reducible apply Moves.app (reachedZero_frame ..); decide
  assumption
  assumption

theorem prearmBack_frame (a0 : State) (a1 : Nat) (a2 : Bool) : Moves [.od, .reg] a0 (prearmBack a0 a1 a2) := by
  unfold prearmBack
  with_reducible apply Moves.ite
  apply Moves.refl
  extract_lets +onlyGivenNames x; clear_value x
  with_reducible apply Moves.ite
  with_reducible apply Moves.app (railDisable_frame ..); decide
  apply Moves.refl
  with_reducible apply Moves.app (railCommand_frame ..); decide
  apply Moves.refl

theorem prearmCancel_frame (a0 : State) (a1 : Nat) : Moves [.od, .log, .link, .sched, .touch, .reg] a0 (prearmCancel a0 a1) := by
  unfold prearmCancel
  with_reducible apply Moves.ite
  apply Moves.refl
  extract_lets +onlyGivenNames x; clear_value x
  extract_lets +onlyGivenNames x; clear_value x
  extract_lets +onlyGivenNames x; clear_value x
  focus
    extract_lets +onlyGivenNames x; refine Moves.use x ?_ (fun hx => ?_); unfold x; clear x; rotate_left; clear_value x; rotate_right
  with_reducible apply Moves.app (State.set_frame ..); decide
  apply Moves.refl
  extract_lets +onlyGivenNames x; clear_value x
  focus
    extract_lets +onlyGivenNames x; refine Moves.use x ?_ (fun hx => ?_); unfold x; clear x; rotate_left; clear_value x; rotate_right
  refine Moves.update ?_
  assumption
  focus
    extract_lets +onlyGivenNames x; refine Moves.use x ?_ (fun hx => ?_); unfold x; clear x; rotate_left; clear_value x; rotate_right
  with_reducible apply Moves.ite
  assumption
  with_reducible apply Moves.foldl; intro _ _ _
  with_reducible apply Moves.app (prearmBack_frame ..); decide
  assumption
  assumption
  extract_lets +onlyGivenNames x; clear_value x
  focus
    extract_lets +onlyGivenNames x; refine Moves.use x ?_ (fun hx => ?_); unfold x; clear x; rotate_left; clear_value x; rotate_right
  with_reducible apply Moves.app (State.set_frame ..); decide
  with_reducible apply Moves.app (State.count_frame ..); decide
  assumption
  focus
    extract_lets +onlyGivenNames x; refine Moves.use x ?_ (fun hx => ?_); unfold x; clear x; rotate_left; clear_value x; rotate_right
  with_reducible apply Moves.app (raiseEv_frame ..); decide
  assumption
  focus
    extract_lets +onlyGivenNames x; refine Moves.use x ?_ (fun hx => ?_); unfold x; clear x; rotate_left; clear_value x; rotate_right
  with_reducible apply Moves.ite
  assumption
  with_reducible apply Moves.app (logStateChange_frame ..); decide
  assumption
  with_reducible apply Moves.app (State.set_frame ..); decide
  assumption

theorem writeTarget_frame (a0 : State) (a1 : Nat) (a2 : Nat) : Moves [.od, .reg] a0 (writeTarget a0 a1 a2).1 := by
  unfold writeTarget
  with_reducible apply Moves.ite_fst
  dsimp only
  apply Moves.refl
  with_reducible apply Moves.ite_fst
  dsimp only
  apply Moves.refl
  with_reducible apply Moves.ite_fst
  dsimp only
  apply Moves.refl
  dsimp only
  with_reducible apply Moves.app (railCommand_frame ..); decide
  apply Moves.refl

theorem refuseSense_frame (a0 : State) (a1 : Nat) : Moves [.reg] a0 (refuseSense a0 a1) := by
  unfold refuseSense
  with_reducible apply Moves.app (State.setRail_frame ..); decide
  apply Moves.refl

theorem clearLatchOnly_frame (a0 : State) (a1 : Nat) : Moves [.reg] a0 (clearLatchOnly a0 a1) := by
  unfold clearLatchOnly
  extract_lets +onlyGivenNames x; clear_value x
  with_reducible apply Moves.ite
  with_reducible apply Moves.app (State.setRail_frame ..); decide
  with_reducible apply Moves.app (State.setSup_frame ..); decide
  apply Moves.refl
  apply Moves.refl

theorem railEnable_frame (a0 : State) (a1 : Nat) (a2 : Nat) : Moves [.od, .reg] a0 (railEnable a0 a1 a2) := by
  unfold railEnable
  extract_lets +onlyGivenNames x; clear_value x
  focus
    extract_lets +onlyGivenNames x; refine Moves.use x ?_ (fun hx => ?_); unfold x; clear x; rotate_left; clear_value x; rotate_right
  with_reducible apply Moves.app (State.setRail_frame ..); decide
  apply Moves.refl
  focus
    extract_lets +onlyGivenNames x; refine Moves.use x ?_ (fun hx => ?_); unfold x; clear x; rotate_left; clear_value x; rotate_right
  with_reducible apply Moves.app (State.setFlag_frame ..); decide
  assumption
  focus
    extract_lets +onlyGivenNames x; refine Moves.use x ?_ (fun hx => ?_); unfold x; clear x; rotate_left; clear_value x; rotate_right
  with_reducible apply Moves.app (State.set_frame ..); decide
  assumption
  with_reducible apply Moves.app (railCommand_frame ..); decide
  assumption

theorem clearLatch_frame (a0 : State) (a1 : Nat) (a2 : Bool) : Moves [.od, .can, .pdo, .link, .reg] a0 (clearLatch a0 a1 a2).1 := by
  unfold clearLatch
  extract_lets +onlyGivenNames x; clear_value x
  with_reducible apply Moves.ite_fst
  dsimp only
  apply Moves.refl
  with_reducible apply Moves.ite_fst
  dsimp only
  apply Moves.refl
  with_reducible apply Moves.ite_fst
  dsimp only
  with_reducible apply Moves.app (refuseSense_frame ..); decide
  apply Moves.refl
  focus
    extract_lets +onlyGivenNames x; refine Moves.use x ?_ (fun hx => ?_); unfold x; clear x; rotate_left; clear_value x; rotate_right
  with_reducible apply Moves.app (clearLatchOnly_frame ..); decide
  apply Moves.refl
  dsimp only
  with_reducible apply Moves.app (refreshErrors_frame ..); decide
  with_reducible apply Moves.ite
  with_reducible apply Moves.app (railEnable_frame ..); decide
  assumption
  assumption

theorem readSense_frame (a0 : State) : Moves [.draws] a0 (readSense a0).1 := by
  unfold readSense
  dsimp only
  with_reducible apply Moves.app (State.draw_frame ..); decide
  with_reducible apply Moves.app (State.draw_frame ..); decide
  apply Moves.refl

theorem lssSend_frame (a0 : State) (a1 : Nat) (a2 : List Nat) : Moves [.can, .pdo] a0 (lssSend a0 a1 a2) := by
  unfold lssSend
  extract_lets +onlyGivenNames x; clear_value x
  extract_lets +onlyGivenNames x; clear_value x
  refine Moves.update ?_
  apply Moves.refl

theorem ringsLinkUp_frame (a0 : State) : Moves [.link, .mem, .sched] a0 (ringsLinkUp a0) := by
  unfold ringsLinkUp
  with_reducible apply Moves.foldl; intro _ _ _
  with_reducible apply Moves.ite
  with_reducible apply Moves.app (State.writeIndexBlock_frame ..); decide
  assumption
  assumption
  apply Moves.refl

theorem sendVectors_frame (a0 : State) : Moves [.link] a0 (sendVectors a0) := by
  unfold sendVectors
  with_reducible apply Moves.foldl; intro _ _ _
  with_reducible apply Moves.app (trySend_frame ..); decide
  assumption
  apply Moves.refl

theorem raiseReset_frame (a0 : State) : Moves [.od, .link] a0 (raiseReset a0) := by
  unfold raiseReset
  focus
    extract_lets +onlyGivenNames x; refine Moves.use x ?_ (fun hx => ?_); unfold x; clear x; rotate_left; clear_value x; rotate_right
  with_reducible apply Moves.ite
  with_reducible apply Moves.app (State.setFlag_frame ..); decide
  apply Moves.refl
  apply Moves.refl
  with_reducible apply Moves.ite
  with_reducible apply Moves.app (State.sendPacket_frame ..); decide
  assumption
  refine Moves.update ?_
  assumption

theorem linkUpEntered_frame (a0 : State) (a1 : Bool) : Moves [.od, .log, .link, .mem, .sched, .update] a0 (linkUpEntered a0 a1) := by
  unfold linkUpEntered
  focus
    extract_lets +onlyGivenNames x; refine Moves.use x ?_ (fun hx => ?_); unfold x; clear x; rotate_left; clear_value x; rotate_right
  with_reducible apply Moves.app (State.count_frame ..); decide
  with_reducible apply Moves.app (setLink_frame ..); decide
  apply Moves.refl
  focus
    extract_lets +onlyGivenNames x; refine Moves.use x ?_ (fun hx => ?_); unfold x; clear x; rotate_left; clear_value x; rotate_right
  with_reducible apply Moves.app (State.setFlag_frame ..); decide
  assumption
  focus
    extract_lets +onlyGivenNames x; refine Moves.use x ?_ (fun hx => ?_); unfold x; clear x; rotate_left; clear_value x; rotate_right
  with_reducible apply Moves.ite
  with_reducible apply Moves.app (State.setFlag_frame ..); decide
  assumption
  assumption
  extract_lets +onlyGivenNames x; clear_value x
  extract_lets +onlyGivenNames x; clear_value x
  focus
    extract_lets +onlyGivenNames x; refine Moves.use x ?_ (fun hx => ?_); unfold x; clear x; rotate_left; clear_value x; rotate_right
  refine Moves.update ?_
  assumption
  extract_lets +onlyGivenNames x; clear_value x
  focus
    extract_lets +onlyGivenNames x; refine Moves.use x ?_ (fun hx => ?_); unfold x; clear x; rotate_left; clear_value x; rotate_right
  with_reducible apply Moves.ite
  refine Moves.update ?_
  assumption
  assumption
  focus
    extract_lets +onlyGivenNames x; refine Moves.use x ?_ (fun hx => ?_); unfold x; clear x; rotate_left; clear_value x; rotate_right
  with_reducible apply Moves.app (ringsLinkUp_frame ..); decide
  with_reducible apply Moves.app (sendVectors_frame ..); decide
  assumption
  extract_lets +onlyGivenNames x; clear_value x
  extract_lets +onlyGivenNames x; clear_value x
  extract_lets +onlyGivenNames x; clear_value x
  focus
    extract_lets +onlyGivenNames x; refine Moves.use x ?_ (fun hx => ?_); unfold x; clear x; rotate_left; clear_value x; rotate_right
  refine Moves.update ?_
  assumption
  focus
    extract_lets +onlyGivenNames x; refine Moves.use x ?_ (fun hx => ?_); unfold x; clear x; rotate_left; clear_value x; rotate_right
  with_reducible apply Moves.ite
  with_reducible apply Moves.app (raiseReset_frame ..); decide
  assumption
  with_reducible apply Moves.ite
  with_reducible apply Moves.app (raiseVector_frame ..); decide
  assumption
  assumption
  with_reducible apply Moves.app (raise_frame ..); decide
  assumption

theorem actDelayLineRelock_frame (a0 : Fin 4) (a1 : State) : Moves [.od, .reg] a1 (actDelayLineRelock a0 a1) := by
  unfold actDelayLineRelock
  extract_lets +onlyGivenNames x; clear_value x
  focus
    extract_lets +onlyGivenNames x; refine Moves.use x ?_ (fun hx => ?_); unfold x; clear x; rotate_left; clear_value x; rotate_right
  with_reducible apply Moves.foldl; intro _ _ _
  with_reducible apply Moves.app (State.setPhase_frame ..); decide
  assumption
  apply Moves.refl
  with_reducible apply Moves.app (State.setFlag_frame ..); decide
  assumption

theorem actDelayLineUnlock_frame (a0 : Fin 4) (a1 : State) : Moves [.od, .log, .can, .pdo, .link, .sched, .reg] a1 (actDelayLineUnlock a0 a1) := by
  unfold actDelayLineUnlock
  extract_lets +onlyGivenNames x; clear_value x
  focus
    extract_lets +onlyGivenNames x; refine Moves.use x ?_ (fun hx => ?_); unfold x; clear x; rotate_left; clear_value x; rotate_right
  with_reducible apply Moves.foldl; intro _ _ _
  with_reducible apply Moves.app (State.setPhase_frame ..); decide
  assumption
  apply Moves.refl
  with_reducible apply Moves.app (emcyLog_frame ..); decide
  with_reducible apply Moves.app (State.setFlag_frame ..); decide
  assumption

theorem linkFailed_frame (a0 : State) : Moves [.od, .draws, .replies, .store, .log, .can, .pdo, .link, .mem, .sched, .tabor, .sense, .update, .test] a0 (linkFailed a0) := by
  unfold linkFailed
  focus
    extract_lets +onlyGivenNames x; refine Moves.use x ?_ (fun hx => ?_); unfold x; clear x; rotate_left; clear_value x; rotate_right
  with_reducible apply Moves.app (State.set_frame ..); decide
  with_reducible apply Moves.app (setLink_frame ..); decide
  apply Moves.refl
  focus
    extract_lets +onlyGivenNames x; refine Moves.use x ?_ (fun hx => ?_); unfold x; clear x; rotate_left; clear_value x; rotate_right
  with_reducible apply Moves.app (logCondition_frame ..); decide
  with_reducible apply Moves.app (State.setFlag_frame ..); decide
  assumption
  extract_lets +onlyGivenNames x; clear_value x
  extract_lets +onlyGivenNames x; clear_value x
  focus
    extract_lets +onlyGivenNames x; refine Moves.use x ?_ (fun hx => ?_); unfold x; clear x; rotate_left; clear_value x; rotate_right
  refine Moves.update ?_
  assumption
  with_reducible apply Moves.ite
  with_reducible apply Moves.app (enterDetect_frame ..); decide
  refine Moves.update ?_
  assumption
  assumption

theorem prearmFault_frame (a0 : State) : Moves [.od, .log, .link, .sched, .touch, .reg] a0 (prearmFault a0) := by
  unfold prearmFault
  with_reducible apply Moves.ite
  with_reducible apply Moves.app (prearmCancel_frame ..); decide
  apply Moves.refl
  apply Moves.refl

theorem latchRail_frame (a0 : State) (a1 : Nat) : Moves [.reg] a0 (latchRail a0 a1) := by
  unfold latchRail
  with_reducible apply Moves.app (State.setSup_frame ..); decide
  apply Moves.refl

theorem reportFault_frame (a0 : State) (a1 : Nat) (a2 : Nat) : Moves [.od, .log, .can, .pdo, .link, .sched] a0 (reportFault a0 a1 a2) := by
  unfold reportFault
  focus
    extract_lets +onlyGivenNames x; refine Moves.use x ?_ (fun hx => ?_); unfold x; clear x; rotate_left; clear_value x; rotate_right
  with_reducible apply Moves.app (State.setFlag_frame ..); decide
  apply Moves.refl
  focus
    extract_lets +onlyGivenNames x; refine Moves.use x ?_ (fun hx => ?_); unfold x; clear x; rotate_left; clear_value x; rotate_right
  with_reducible apply Moves.app (State.set_frame ..); decide
  assumption
  focus
    extract_lets +onlyGivenNames x; refine Moves.use x ?_ (fun hx => ?_); unfold x; clear x; rotate_left; clear_value x; rotate_right
  with_reducible apply Moves.app (State.count_frame ..); decide
  assumption
  with_reducible apply Moves.app (raiseEv_frame ..); decide
  with_reducible apply Moves.app (emcyLog_frame ..); decide
  assumption

theorem dropMonExen_frame (a0 : State) (a1 : Nat) : Moves [.od] a0 (dropMonExen a0 a1) := by
  unfold dropMonExen
  extract_lets +onlyGivenNames x; clear_value x
  with_reducible apply Moves.ite
  with_reducible apply Moves.app (State.setFlag_frame ..); decide
  apply Moves.refl
  apply Moves.refl

theorem railOff_frame (a0 : State) (a1 : Nat) : Moves [.od, .reg] a0 (railOff a0 a1) := by
  unfold railOff
  extract_lets +onlyGivenNames x; clear_value x
  focus
    extract_lets +onlyGivenNames x; refine Moves.use x ?_ (fun hx => ?_); unfold x; clear x; rotate_left; clear_value x; rotate_right
  with_reducible apply Moves.app (State.floatPhases_frame ..); decide
  apply Moves.refl
  focus
    extract_lets +onlyGivenNames x; refine Moves.use x ?_ (fun hx => ?_); unfold x; clear x; rotate_left; clear_value x; rotate_right
  with_reducible apply Moves.app (State.setRail_frame ..); decide
  assumption
  with_reducible apply Moves.app (State.showSetpoint_frame ..); decide
  with_reducible apply Moves.app (runFree_frame ..); decide
  assumption

theorem offByFault_frame (a0 : State) (a1 : Nat) : Moves [.od, .reg] a0 (offByFault a0 a1) := by
  unfold offByFault
  extract_lets +onlyGivenNames x; clear_value x
  focus
    extract_lets +onlyGivenNames x; refine Moves.use x ?_ (fun hx => ?_); unfold x; clear x; rotate_left; clear_value x; rotate_right
  with_reducible apply Moves.app (dropMonExen_frame ..); decide
  with_reducible apply Moves.app (railOff_frame ..); decide
  apply Moves.refl
  with_reducible apply Moves.app (State.setSup_frame ..); decide
  assumption

theorem faultGroupMember_frame (a0 : State) (a1 : Nat) : Moves [.od, .log, .can, .pdo, .link, .sched, .reg] a0 (faultGroupMember a0 a1) := by
  unfold faultGroupMember
  with_reducible apply Moves.app (latchRail_frame ..); decide
  with_reducible apply Moves.app (reportFault_frame ..); decide
  with_reducible apply Moves.app (offByFault_frame ..); decide
  apply Moves.refl

theorem shutGroup_frame (a0 : State) (a1 : Nat) : Moves [.od, .log, .can, .pdo, .link, .sched, .reg] a0 (shutGroup a0 a1) := by
  unfold shutGroup
  with_reducible apply Moves.ite
  with_reducible apply Moves.foldl; intro _ _ _
  with_reducible apply Moves.app (faultGroupMember_frame ..); decide
  assumption
  apply Moves.refl
  apply Moves.refl

theorem faultAction_frame (a0 : State) (a1 : Nat) (a2 : Nat) (a3 : Bool) : Moves [.od, .log, .can, .pdo, .link, .sched, .reg] a0 (faultAction a0 a1 a2 a3) := by
  unfold faultAction
  extract_lets +onlyGivenNames x; clear_value x
  extract_lets +onlyGivenNames x; clear_value x
  split
  with_reducible apply Moves.ite
  apply Moves.refl
  with_reducible apply Moves.ite
  with_reducible apply Moves.app (emcyLog_frame ..); decide
  with_reducible apply Moves.app (latchRail_frame ..); decide
  apply Moves.refl
  with_reducible apply Moves.app (State.setSup_frame ..); decide
  apply Moves.refl
  with_reducible apply Moves.app (latchRail_frame ..); decide
  apply Moves.refl

theorem faultOne_frame (a0 : State) (a1 : Nat) (a2 : Nat) : Moves [.od, .log, .can, .pdo, .link, .sched, .reg] a0 (faultOne a0 a1 a2) := by
  unfold faultOne
  extract_lets +onlyGivenNames x; clear_value x
  with_reducible apply Moves.app (faultAction_frame ..); decide
  with_reducible apply Moves.app (reportFault_frame ..); decide
  with_reducible apply Moves.app (offByFault_frame ..); decide
  apply Moves.refl

theorem takeFaults_frame (a0 : State) (a1 : List Nat) (a2 : Nat) : Moves [.od, .log, .can, .pdo, .link, .sched, .touch, .reg] a0 (takeFaults a0 a1 a2) := by
  unfold takeFaults
  extract_lets +onlyGivenNames x; clear_value x
  with_reducible apply Moves.ite
  apply Moves.refl
  with_reducible apply Moves.app (refreshErrors_frame ..); decide
  with_reducible apply Moves.app (prearmFault_frame ..); decide
  with_reducible apply Moves.foldl; intro _ _ _
  with_reducible apply Moves.app (shutGroup_frame ..); decide
  assumption
  with_reducible apply Moves.foldl; intro _ _ _
  with_reducible apply Moves.app (faultOne_frame ..); decide
  assumption
  apply Moves.refl

theorem restartRetry_frame (a0 : State) (a1 : Nat) : Moves [.reg] a0 (restartRetry a0 a1) := by
  unfold restartRetry
  extract_lets +onlyGivenNames x; clear_value x
  with_reducible apply Moves.ite
  apply Moves.refl
  with_reducible apply Moves.ite
  with_reducible apply Moves.app (latchRail_frame ..); decide
  apply Moves.refl
  with_reducible apply Moves.app (State.setSup_frame ..); decide
  apply Moves.refl

theorem faultAll_frame (a0 : State) (a1 : List Nat) (a2 : Nat) : Moves [.od, .log, .can, .pdo, .link, .sched, .touch, .reg] a0 (faultAll a0 a1 a2) := by
  unfold faultAll
  with_reducible apply Moves.app (takeFaults_frame ..); decide
  with_reducible apply Moves.foldl; intro _ _ _
  with_reducible apply Moves.app (restartRetry_frame ..); decide
  assumption
  apply Moves.refl

theorem dieShutdown_frame (a0 : Nat) (a1 : Int) (a2 : State) : Moves [.od, .log, .can, .pdo, .link, .sched, .touch, .reg, .pack] a2 (dieShutdown a0 a1 a2) := by
  unfold dieShutdown
  with_reducible apply Moves.ite
  apply Moves.refl
  extract_lets +onlyGivenNames x; clear_value x
  focus
    extract_lets +onlyGivenNames x; refine Moves.use x ?_ (fun hx => ?_); unfold x; clear x; rotate_left; clear_value x; rotate_right
  refine Moves.update ?_
  apply Moves.refl
  focus
    extract_lets +onlyGivenNames x; refine Moves.use x ?_ (fun hx => ?_); unfold x; clear x; rotate_left; clear_value x; rotate_right
  with_reducible apply Moves.app (State.setFlag_frame ..); decide
  assumption
  with_reducible apply Moves.app (faultAll_frame ..); decide
  refine Moves.update ?_
  assumption

theorem ringDiscard_frame (a0 : State) (a1 : Nat) : Moves [.od, .link, .mem, .sched] a0 (ringDiscard a0 a1) := by
  unfold ringDiscard
  extract_lets +onlyGivenNames x; clear_value x
  with_reducible apply Moves.ite
  extract_lets +onlyGivenNames x; clear_value x
  focus
    extract_lets +onlyGivenNames x; refine Moves.use x ?_ (fun hx => ?_); unfold x; clear x; rotate_left; clear_value x; rotate_right
  with_reducible apply Moves.app (State.countBy_frame ..); decide
  with_reducible apply Moves.app (State.countBy_frame ..); decide
  apply Moves.refl
  with_reducible apply Moves.app (State.writeIndexBlock_frame ..); decide
  with_reducible apply Moves.app (State.setRing_frame ..); decide
  assumption
  apply Moves.refl

theorem ringsDownbeat_frame (a0 : State) : Moves [.od, .link, .mem, .sched] a0 (ringsDownbeat a0) := by
  unfold ringsDownbeat
  with_reducible apply Moves.foldl; intro _ _ _
  with_reducible apply Moves.app (ringDiscard_frame ..); decide
  assumption
  apply Moves.refl

theorem ringProduceAll_frame (a0 : State) (a1 : Nat) (a2 : List (List Nat)) : Moves [.od, .link, .mem, .sched] a0 (ringProduceAll a0 a1 a2) := by
  unfold ringProduceAll
  extract_lets +onlyGivenNames x; clear_value x
  extract_lets +onlyGivenNames x; clear_value x
  with_reducible apply Moves.ite
  with_reducible apply Moves.app (State.countBy_frame ..); decide
  apply Moves.refl
  with_reducible apply Moves.ite
  with_reducible apply Moves.foldl; intro _ _ _
  with_reducible apply Moves.app (ringProduce_frame ..); decide
  assumption
  apply Moves.refl
  with_reducible apply Moves.app (ringLost_frame ..); decide
  apply Moves.refl

theorem raiseStageWarning_frame (a0 : State) (a1 : Nat) : Moves [.od, .log, .can, .pdo, .link, .sched, .reg] a0 (raiseStageWarning a0 a1) := by
  unfold raiseStageWarning
  extract_lets +onlyGivenNames x; clear_value x
  focus
    extract_lets +onlyGivenNames x; refine Moves.use x ?_ (fun hx => ?_); unfold x; clear x; rotate_left; clear_value x; rotate_right
  with_reducible apply Moves.ite
  with_reducible apply Moves.app (State.setFlag_frame ..); decide
  refine Moves.update ?_
  apply Moves.refl
  with_reducible apply Moves.app (State.setFlag_frame ..); decide
  refine Moves.update ?_
  apply Moves.refl
  with_reducible apply Moves.app (raiseEv_frame ..); decide
  with_reducible apply Moves.app (emcyLog_frame ..); decide
  assumption

theorem judgeStage_frame (a0 : State) (a1 : Nat) : Moves [.od, .log, .can, .pdo, .link, .sched, .reg] a0 (judgeStage a0 a1) := by
  unfold judgeStage
  extract_lets +onlyGivenNames x; clear_value x
  extract_lets +onlyGivenNames x; clear_value x
  extract_lets +onlyGivenNames x; clear_value x
  extract_lets +onlyGivenNames x; clear_value x
  with_reducible apply Moves.ite
  apply Moves.refl
  with_reducible apply Moves.ite
  with_reducible apply Moves.app (raiseStageWarning_frame ..); decide
  apply Moves.refl
  with_reducible apply Moves.ite
  with_reducible apply Moves.ite
  with_reducible apply Moves.app (State.setFlag_frame ..); decide
  refine Moves.update ?_
  apply Moves.refl
  extract_lets +onlyGivenNames x; clear_value x
  focus
    extract_lets +onlyGivenNames x; refine Moves.use x ?_ (fun hx => ?_); unfold x; clear x; rotate_left; clear_value x; rotate_right
  refine Moves.update ?_
  apply Moves.refl
  with_reducible apply Moves.app (State.setFlag_frame ..); decide
  assumption
  apply Moves.refl

theorem stageDownbeat_frame (a0 : State) : Moves [.od, .log, .can, .pdo, .link, .sched, .reg] a0 (stageDownbeat a0) := by
  unfold stageDownbeat
  with_reducible apply Moves.foldl; intro _ _ _
  with_reducible apply Moves.app (judgeStage_frame ..); decide
  assumption
  apply Moves.refl

theorem raiseWarning_frame (a0 : State) (a1 : Nat) (a2 : Nat) : Moves [.od, .log, .can, .pdo, .link, .sched, .reg] a0 (raiseWarning a0 a1 a2) := by
  unfold raiseWarning
  extract_lets +onlyGivenNames x; clear_value x
  focus
    extract_lets +onlyGivenNames x; refine Moves.use x ?_ (fun hx => ?_); unfold x; clear x; rotate_left; clear_value x; rotate_right
  with_reducible apply Moves.app (State.setSup_frame ..); decide
  apply Moves.refl
  focus
    extract_lets +onlyGivenNames x; refine Moves.use x ?_ (fun hx => ?_); unfold x; clear x; rotate_left; clear_value x; rotate_right
  with_reducible apply Moves.app (State.setFlag_frame ..); decide
  assumption
  focus
    extract_lets +onlyGivenNames x; refine Moves.use x ?_ (fun hx => ?_); unfold x; clear x; rotate_left; clear_value x; rotate_right
  with_reducible apply Moves.app (State.count_frame ..); decide
  assumption
  with_reducible apply Moves.app (raiseEv_frame ..); decide
  with_reducible apply Moves.app (emcyLog_frame ..); decide
  assumption

theorem judgeWarning_frame (a0 : State) (a1 : Nat) (a2 : Nat) (a3 : WarnTrack) : Moves [.od, .log, .can, .pdo, .link, .sched, .reg] a0 (judgeWarning a0 a1 a2 a3) := by
  unfold judgeWarning
  extract_lets +onlyGivenNames x; clear_value x
  extract_lets +onlyGivenNames x; clear_value x
  with_reducible apply Moves.ite
  apply Moves.refl
  with_reducible apply Moves.ite
  with_reducible apply Moves.app (raiseWarning_frame ..); decide
  apply Moves.refl
  with_reducible apply Moves.ite
  with_reducible apply Moves.app (State.setSup_frame ..); decide
  apply Moves.refl
  apply Moves.refl

theorem supDownbeatRail_frame (a0 : State) (a1 : Nat) : Moves [.od, .log, .can, .pdo, .link, .sched, .reg] a0 (supDownbeatRail a0 a1) := by
  unfold supDownbeatRail
  extract_lets +onlyGivenNames x; clear_value x
  focus
    extract_lets +onlyGivenNames x; refine Moves.use x ?_ (fun hx => ?_); unfold x; clear x; rotate_left; clear_value x; rotate_right
  with_reducible apply Moves.ite
  with_reducible apply Moves.app (judgeWarning_frame ..); decide
  with_reducible apply Moves.app (judgeWarning_frame ..); decide
  with_reducible apply Moves.app (judgeWarning_frame ..); decide
  apply Moves.refl
  with_reducible apply Moves.app (State.setSup_frame ..); decide
  apply Moves.refl
  with_reducible apply Moves.app (State.setSup_frame ..); decide
  assumption

theorem supervisionDownbeat_frame (a0 : State) : Moves [.od, .log, .can, .pdo, .link, .sched, .reg] a0 (supervisionDownbeat a0) := by
  unfold supervisionDownbeat
  with_reducible apply Moves.foldl; intro _ _ _
  with_reducible apply Moves.app (supDownbeatRail_frame ..); decide
  assumption
  apply Moves.refl

theorem regulatorDownbeat_frame (a0 : State) : Moves [.reg] a0 (regulatorDownbeat a0) := by
  unfold regulatorDownbeat
  extract_lets +onlyGivenNames x; clear_value x
  extract_lets +onlyGivenNames x; clear_value x
  refine Moves.update ?_
  apply Moves.refl

theorem autoOpen_frame (a0 : State) : Moves [.od, .log, .link, .mem, .sched] a0 (autoOpen a0) := by
  unfold autoOpen
  with_reducible apply Moves.foldl; intro _ _ _
  with_reducible apply Moves.ite
  split
  with_reducible apply Moves.of_pair; assumption
  with_reducible apply Moves.app (ringOpen_frame ..); decide
  assumption
  with_reducible apply Moves.app (logCondition_frame ..); decide
  with_reducible apply Moves.of_pair; assumption
  with_reducible apply Moves.app (ringOpen_frame ..); decide
  assumption
  assumption
  apply Moves.refl

theorem resolvePhaseSets_frame (a0 : State) : Moves [.od, .log, .link, .sched] a0 (resolvePhaseSets a0) := by
  unfold resolvePhaseSets
  with_reducible apply Moves.foldl_fst; intro _ _ _
  focus
    extract_lets +onlyGivenNames x; refine Moves.use x ?_ (fun hx => ?_); unfold x; clear x; rotate_left; clear_value x; rotate_right
  assumption
  extract_lets +onlyGivenNames x; clear_value x
  extract_lets +onlyGivenNames x; clear_value x
  extract_lets +onlyGivenNames x; clear_value x
  with_reducible apply Moves.ite_fst
  dsimp only
  assumption
  dsimp only
  with_reducible apply Moves.app (logStateChange_frame ..); decide
  with_reducible apply Moves.app (State.set_frame ..); decide
  assumption
  dsimp only
  apply Moves.refl

theorem loopUpdate_frame (a0 : State) (a1 : Nat) (a2 : Nat) : Moves [.reg] a0 (loopUpdate a0 a1 a2) := by
  unfold loopUpdate
  extract_lets +onlyGivenNames x; clear_value x
  extract_lets +onlyGivenNames x; clear_value x
  extract_lets +onlyGivenNames x; clear_value x
  extract_lets +onlyGivenNames x; clear_value x
  extract_lets +onlyGivenNames x; clear_value x
  extract_lets +onlyGivenNames x; clear_value x
  extract_lets +onlyGivenNames x; clear_value x
  extract_lets +onlyGivenNames x; clear_value x
  extract_lets +onlyGivenNames x; clear_value x
  extract_lets +onlyGivenNames x; clear_value x
  extract_lets +onlyGivenNames x; clear_value x
  extract_lets +onlyGivenNames x; clear_value x
  extract_lets +onlyGivenNames x; clear_value x
  extract_lets +onlyGivenNames x; clear_value x
  extract_lets +onlyGivenNames x; clear_value x
  with_reducible apply Moves.app (State.setRail_frame ..); decide
  apply Moves.refl

theorem currentSample_frame (a0 : State) (a1 : Nat) (a2 : Nat) : Moves [.od, .reg] a0 (currentSample a0 a1 a2) := by
  unfold currentSample
  extract_lets +onlyGivenNames x; clear_value x
  extract_lets +onlyGivenNames x; clear_value x
  with_reducible apply Moves.ite
  with_reducible apply Moves.app (State.count_frame ..); decide
  with_reducible apply Moves.app (State.setPhase_frame ..); decide
  apply Moves.refl
  apply Moves.refl

theorem actLoopSample_frame (a0 : Fin 16) (a1 : Nat) (a2 : List Nat) (a3 : State) : Moves [.od, .reg] a3 (actLoopSample a0 a1 a2 a3) := by
  unfold actLoopSample
  extract_lets +onlyGivenNames x; clear_value x
  extract_lets +onlyGivenNames x; clear_value x
  with_reducible apply Moves.ite
  apply Moves.refl
  focus
    extract_lets +onlyGivenNames x; refine Moves.use x ?_ (fun hx => ?_); unfold x; clear x; rotate_left; clear_value x; rotate_right
  with_reducible apply Moves.app (loopUpdate_frame ..); decide
  apply Moves.refl
  with_reducible apply Moves.foldl; intro _ _ _
  with_reducible apply Moves.app (currentSample_frame ..); decide
  assumption
  assumption

theorem fifoTake_frame (a0 : State) (a1 : Line × Service → Bool) : Moves [.can, .pdo] a0 (fifoTake a0 a1) := by
  unfold fifoTake
  refine Moves.update ?_
  apply Moves.refl

theorem served_frame (a0 : State) (a1 : Service) : Moves [.can, .pdo] a0 (served a0 a1) := by
  unfold served
  with_reducible apply Moves.app (fifoTake_frame ..); decide
  apply Moves.refl

theorem closeRingsOf_frame (a0 : State) (a1 : Nat) : Moves [.od, .mem, .sched] a0 (closeRingsOf a0 a1) := by
  unfold closeRingsOf
  with_reducible apply Moves.foldl; intro _ _ _
  with_reducible apply Moves.app (ringCloseNow_frame ..); decide
  assumption
  apply Moves.refl

theorem fillDone_frame (a0 : State) (a1 : Fill) (a2 : Nat) (a3 : List Nat) : Moves [.od, .draws, .log, .link, .mem, .sched] a0 (fillDone a0 a1 a2 a3).1 := by
  unfold fillDone
  extract_lets +onlyGivenNames x
  extract_lets +onlyGivenNames x
  extract_lets +onlyGivenNames x
  focus
    extract_lets +onlyGivenNames x; refine Moves.use x ?_ (fun hx => ?_); unfold x; clear x; rotate_left; clear_value x; rotate_right
  refine Moves.update ?_
  apply Moves.refl
  focus
    extract_lets +onlyGivenNames x; refine Moves.use x ?_ (fun hx => ?_); unfold x; clear x; rotate_left; clear_value x; rotate_right
  with_reducible apply Moves.app (State.count_frame ..); decide
  with_reducible apply Moves.app (State.updatePte_frame ..); decide
  assumption
  dsimp only
  with_reducible apply Moves.app (pumpReads_frame ..); decide
  with_reducible apply Moves.app (serveFills_frame ..); decide
  assumption

theorem tryRetry_frame (a0 : State) (a1 : Nat) : Moves [.od, .draws, .can, .pdo, .link, .reg] a0 (tryRetry a0 a1) := by
  unfold tryRetry
  extract_lets +onlyGivenNames x; clear_value x
  with_reducible apply Moves.ite
  focus
    extract_lets +onlyGivenNames x; refine Moves.use x.1 ?_ (fun hx => ?_); unfold x; clear x; rotate_left; clear_value x; rotate_right
  with_reducible apply Moves.app (readSense_frame ..); decide
  apply Moves.refl
  focus
    extract_lets +onlyGivenNames x; refine Moves.use x ?_ (fun hx => ?_); unfold x; clear x; rotate_left; clear_value x; rotate_right
  with_reducible apply Moves.app (State.setSup_frame ..); decide
  assumption
  with_reducible apply Moves.app (refreshErrors_frame ..); decide
  with_reducible apply Moves.ite
  with_reducible apply Moves.app (latchRail_frame ..); decide
  with_reducible apply Moves.app (refuseSense_frame ..); decide
  assumption
  with_reducible apply Moves.app (railEnable_frame ..); decide
  assumption
  apply Moves.refl

theorem portRequest_frame {l : List Part} {a s : State} {p : Port} {i sub : Nat} {f : State → State × Option Status} (h : Moves l a s)
    (hf : ∀ t, Moves l t (f t).1) (hr : Part.replies ∈ l) : Moves l a (portRequest s p i sub f) := by
  have rep (t : State) (st : Status) : Moves l t (t.reply p st []) := (State.reply_frame _ _ _ _).mono (by simpa using hr)
  unfold portRequest
  refine h.trans (Moves.ite _ (rep _ _) ?_)
  split
  · dsimp only
    split
    · exact (hf s).trans (rep _ _)
    · exact hf s
  · exact rep _ _

theorem imonRange_frame (a0 : State) (a1 : Nat) (a2 : Nat) : Moves [.od, .log, .link, .sched, .reg] a0 (imonRange a0 a1 a2) := by
  unfold imonRange
  extract_lets +onlyGivenNames x; clear_value x
  with_reducible apply Moves.ite
  apply Moves.refl
  with_reducible apply Moves.ite
  with_reducible apply Moves.app (State.setPhase_frame ..); decide
  apply Moves.refl
  with_reducible apply Moves.ite
  focus
    extract_lets +onlyGivenNames x; refine Moves.use x ?_ (fun hx => ?_); unfold x; clear x; rotate_left; clear_value x; rotate_right
  with_reducible apply Moves.app (State.setPhase_frame ..); decide
  apply Moves.refl
  with_reducible apply Moves.ite
  assumption
  with_reducible apply Moves.app (logCondition_frame ..); decide
  assumption
  apply Moves.refl

theorem referencePulse_frame (a0 : State) (a1 : Nat) (a2 : Nat) : Moves [.reg] a0 (referencePulse a0 a1 a2) := by
  unfold referencePulse
  extract_lets +onlyGivenNames x; clear_value x
  extract_lets +onlyGivenNames x; clear_value x
  with_reducible apply Moves.ite
  apply Moves.refl
  extract_lets +onlyGivenNames x; clear_value x
  extract_lets +onlyGivenNames x; clear_value x
  with_reducible apply Moves.ite
  with_reducible apply Moves.app (State.setRail_frame ..); decide
  apply Moves.refl
  with_reducible apply Moves.app (State.setRail_frame ..); decide
  apply Moves.refl

theorem masterStart_frame (a0 : State) (a1 : Nat) (a2 : Nat) (a3 : Int) : Moves [.od, .log, .can, .pdo, .link, .sched, .reg] a0 (masterStart a0 a1 a2 a3) := by
  unfold masterStart
  extract_lets +onlyGivenNames x; clear_value x
  extract_lets +onlyGivenNames x; clear_value x
  extract_lets +onlyGivenNames x; clear_value x
  extract_lets +onlyGivenNames x; clear_value x
  extract_lets +onlyGivenNames x; clear_value x
  extract_lets +onlyGivenNames x; clear_value x
  focus
    extract_lets +onlyGivenNames x; refine Moves.use x ?_ (fun hx => ?_); unfold x; clear x; rotate_left; clear_value x; rotate_right
  with_reducible apply Moves.app (State.setRail_frame ..); decide
  apply Moves.refl
  focus
    extract_lets +onlyGivenNames x; refine Moves.use x ?_ (fun hx => ?_); unfold x; clear x; rotate_left; clear_value x; rotate_right
  with_reducible apply Moves.ite
  with_reducible apply Moves.app (emcyLog_frame ..); decide
  with_reducible apply Moves.app (State.setFlag_frame ..); decide
  with_reducible apply Moves.app (State.setRail_frame ..); decide
  assumption
  assumption
  focus
    extract_lets +onlyGivenNames x; refine Moves.use x ?_ (fun hx => ?_); unfold x; clear x; rotate_left; clear_value x; rotate_right
  with_reducible apply Moves.foldl; intro _ _ _
  with_reducible apply Moves.app (referencePulse_frame ..); decide
  assumption
  assumption
  with_reducible apply Moves.ite
  refine Moves.update ?_
  assumption
  assumption

theorem actPwmPeriodStart_frame (a0 : Fin 16) (a1 : Nat) (a2 : Nat) (a3 : Int) (a4 : State) : Moves [.od, .log, .can, .pdo, .link, .sched, .reg] a4 (actPwmPeriodStart a0 a1 a2 a3 a4) := by
  unfold actPwmPeriodStart
  extract_lets +onlyGivenNames x; clear_value x
  split
  apply Moves.refl
  with_reducible apply Moves.ite
  apply Moves.refl
  focus
    extract_lets +onlyGivenNames x; refine Moves.use x ?_ (fun hx => ?_); unfold x; clear x; rotate_left; clear_value x; rotate_right
  with_reducible apply Moves.app (imonRange_frame ..); decide
  apply Moves.refl
  extract_lets +onlyGivenNames x; clear_value x
  focus
    extract_lets +onlyGivenNames x; refine Moves.use x ?_ (fun hx => ?_); unfold x; clear x; rotate_left; clear_value x; rotate_right
  with_reducible apply Moves.app (State.setS_frame ..); decide
  assumption
  focus
    extract_lets +onlyGivenNames x; refine Moves.use x ?_ (fun hx => ?_); unfold x; clear x; rotate_left; clear_value x; rotate_right
  with_reducible apply Moves.app (State.setS_frame ..); decide
  assumption
  extract_lets +onlyGivenNames x; clear_value x
  with_reducible apply Moves.ite
  extract_lets +onlyGivenNames x; clear_value x
  focus
    extract_lets +onlyGivenNames x; refine Moves.use x ?_ (fun hx => ?_); unfold x; clear x; rotate_left; clear_value x; rotate_right
  with_reducible apply Moves.app (State.setPhase_frame ..); decide
  assumption
  focus
    extract_lets +onlyGivenNames x; refine Moves.use x ?_ (fun hx => ?_); unfold x; clear x; rotate_left; clear_value x; rotate_right
  with_reducible apply Moves.app (State.set_frame ..); decide
  assumption
  with_reducible apply Moves.ite
  assumption
  with_reducible apply Moves.app (railDisabled_frame ..); decide
  assumption
  with_reducible apply Moves.ite
  assumption
  extract_lets +onlyGivenNames x; clear_value x
  extract_lets +onlyGivenNames x; clear_value x
  extract_lets +onlyGivenNames x; clear_value x
  focus
    extract_lets +onlyGivenNames x; refine Moves.use x ?_ (fun hx => ?_); unfold x; clear x; rotate_left; clear_value x; rotate_right
  with_reducible apply Moves.ite
  with_reducible apply Moves.app (masterStart_frame ..); decide
  assumption
  assumption
  extract_lets +onlyGivenNames x; clear_value x
  extract_lets +onlyGivenNames x; clear_value x
  extract_lets +onlyGivenNames x; clear_value x
  extract_lets +onlyGivenNames x; clear_value x
  extract_lets +onlyGivenNames x; clear_value x
  extract_lets +onlyGivenNames x; clear_value x
  focus
    extract_lets +onlyGivenNames x; refine Moves.use x ?_ (fun hx => ?_); unfold x; clear x; rotate_left; clear_value x; rotate_right
  with_reducible apply Moves.app (State.setPhase_frame ..); decide
  assumption
  with_reducible apply Moves.app (State.set_frame ..); decide
  assumption

theorem streamSuspend_frame (a0 : State) : Moves [.od, .log, .link, .sched] a0 (streamSuspend a0) := by
  unfold streamSuspend
  with_reducible apply Moves.ite
  focus
    extract_lets +onlyGivenNames x; refine Moves.use x ?_ (fun hx => ?_); unfold x; clear x; rotate_left; clear_value x; rotate_right
  with_reducible apply Moves.app (State.setFlag_frame ..); decide
  with_reducible apply Moves.app (State.set_frame ..); decide
  apply Moves.refl
  with_reducible apply Moves.app (raiseVector_frame ..); decide
  with_reducible apply Moves.app (logCondition_frame ..); decide
  assumption
  apply Moves.refl

theorem clearLatches_frame (a0 : State) : Moves [.od, .can, .pdo, .link, .reg] a0 (clearLatches a0) := by
  unfold clearLatches
  with_reducible apply Moves.app (refreshErrors_frame ..); decide
  with_reducible apply Moves.foldl; intro _ _ _
  with_reducible apply Moves.app (clearLatchOnly_frame ..); decide
  assumption
  apply Moves.refl

theorem slewRail_frame (a0 : State) (a1 : Nat) : Moves [.od, .reg] a0 (slewRail a0 a1) := by
  unfold slewRail
  extract_lets +onlyGivenNames x; clear_value x
  with_reducible apply Moves.ite
  apply Moves.refl
  extract_lets +onlyGivenNames x; clear_value x
  extract_lets +onlyGivenNames x; clear_value x
  extract_lets +onlyGivenNames x; clear_value x
  focus
    extract_lets +onlyGivenNames x; refine Moves.use x ?_ (fun hx => ?_); unfold x; clear x; rotate_left; clear_value x; rotate_right
  with_reducible apply Moves.app (State.showSetpoint_frame ..); decide
  with_reducible apply Moves.app (State.setRail_frame ..); decide
  apply Moves.refl
  with_reducible apply Moves.ite
  assumption
  with_reducible apply Moves.ite
  with_reducible apply Moves.app (reachedZero_frame ..); decide
  assumption
  with_reducible apply Moves.app (commandComplete_frame ..); decide
  assumption

theorem actSetpointStep_frame (a0 : State) : Moves [.od, .reg] a0 (actSetpointStep a0) := by
  unfold actSetpointStep
  with_reducible apply Moves.foldl; intro _ _ _
  with_reducible apply Moves.app (slewRail_frame ..); decide
  assumption
  apply Moves.refl

theorem takeFault_frame (a0 : State) (a1 : Nat) (a2 : Nat) : Moves [.od, .log, .can, .pdo, .link, .sched, .touch, .reg] a0 (takeFault a0 a1 a2) := by
  unfold takeFault
  with_reducible apply Moves.app (takeFaults_frame ..); decide
  apply Moves.refl

theorem settleEnds_frame (a0 : State) (a1 : Nat) : Moves [.od, .log, .can, .pdo, .link, .sched, .touch, .reg] a0 (settleEnds a0 a1) := by
  unfold settleEnds
  extract_lets +onlyGivenNames x; clear_value x
  with_reducible apply Moves.ite
  apply Moves.refl
  focus
    extract_lets +onlyGivenNames x; refine Moves.use x ?_ (fun hx => ?_); unfold x; clear x; rotate_left; clear_value x; rotate_right
  with_reducible apply Moves.app (State.setSup_frame ..); decide
  apply Moves.refl
  with_reducible apply Moves.ite
  with_reducible apply Moves.app (takeFault_frame ..); decide
  assumption
  assumption

theorem actShutdownRelease_frame (a0 : Fin 8) (a1 : Int) (a2 : State) : Moves [.od, .draws, .can, .pdo, .link, .reg, .pack] a2 (actShutdownRelease a0 a1 a2) := by
  unfold actShutdownRelease
  extract_lets +onlyGivenNames x; clear_value x
  with_reducible apply Moves.ite
  apply Moves.refl
  extract_lets +onlyGivenNames x; clear_value x
  focus
    extract_lets +onlyGivenNames x; refine Moves.use x ?_ (fun hx => ?_); unfold x; clear x; rotate_left; clear_value x; rotate_right
  refine Moves.update ?_
  apply Moves.refl
  focus
    extract_lets +onlyGivenNames x; refine Moves.use x ?_ (fun hx => ?_); unfold x; clear x; rotate_left; clear_value x; rotate_right
  with_reducible apply Moves.ite
  with_reducible apply Moves.app (State.setFlag_frame ..); decide
  refine Moves.update ?_
  apply Moves.refl
  with_reducible apply Moves.app (State.setFlag_frame ..); decide
  assumption
  extract_lets +onlyGivenNames x; clear_value x
  focus
    extract_lets +onlyGivenNames x; refine Moves.use x ?_ (fun hx => ?_); unfold x; clear x; rotate_left; clear_value x; rotate_right
  with_reducible apply Moves.ite
  assumption
  refine Moves.update ?_
  assumption
  with_reducible apply Moves.app (refreshErrors_frame ..); decide
  with_reducible apply Moves.foldl; intro _ _ _
  with_reducible apply Moves.app (tryRetry_frame ..); decide
  assumption
  assumption

theorem comparatorReleases_frame (a0 : State) (a1 : Nat) (a2 : Nat) (a3 : Nat) : Moves [.od, .draws, .can, .pdo, .link, .reg] a0 (comparatorReleases a0 a1 a2 a3) := by
  unfold comparatorReleases
  extract_lets +onlyGivenNames x; clear_value x
  with_reducible apply Moves.ite
  apply Moves.refl
  focus
    extract_lets +onlyGivenNames x; refine Moves.use x ?_ (fun hx => ?_); unfold x; clear x; rotate_left; clear_value x; rotate_right
  with_reducible apply Moves.app (State.setSup_frame ..); decide
  apply Moves.refl
  with_reducible apply Moves.app (refreshErrors_frame ..); decide
  with_reducible apply Moves.app (tryRetry_frame ..); decide
  assumption

theorem comparatorAsserts_frame (a0 : State) (a1 : Nat) (a2 : Nat) (a3 : Nat) : Moves [.od, .log, .can, .pdo, .link, .sched, .touch, .reg] a0 (comparatorAsserts a0 a1 a2 a3) := by
  unfold comparatorAsserts
  extract_lets +onlyGivenNames x; clear_value x
  with_reducible apply Moves.ite
  apply Moves.refl
  focus
    extract_lets +onlyGivenNames x; refine Moves.use x ?_ (fun hx => ?_); unfold x; clear x; rotate_left; clear_value x; rotate_right
  with_reducible apply Moves.app (State.setSup_frame ..); decide
  apply Moves.refl
  with_reducible apply Moves.ite
  assumption
  with_reducible apply Moves.app (takeFault_frame ..); decide
  assumption

theorem syncinLost_frame (a0 : State) : Moves [.od, .log, .can, .pdo, .link, .sched, .reg] a0 (syncinLost a0) := by
  unfold syncinLost
  with_reducible apply Moves.ite
  apply Moves.refl
  focus
    extract_lets +onlyGivenNames x; refine Moves.use x ?_ (fun hx => ?_); unfold x; clear x; rotate_left; clear_value x; rotate_right
  with_reducible apply Moves.app (runFree_frame ..); decide
  apply Moves.refl
  with_reducible apply Moves.app (emcyLog_frame ..); decide
  with_reducible apply Moves.app (State.setFlag_frame ..); decide
  refine Moves.update ?_
  assumption

theorem actSyncinLoss_frame (a0 : State) : Moves [.od, .log, .can, .pdo, .link, .sched, .reg] a0 (actSyncinLoss a0) := by
  unfold actSyncinLoss
  with_reducible apply Moves.ite
  apply Moves.refl
  with_reducible apply Moves.app (syncinLost_frame ..); decide
  refine Moves.update ?_
  apply Moves.refl

theorem actSyncinPulse_frame (a0 : Nat) (a1 : State) : Moves [.od, .log, .can, .pdo, .link, .sched, .reg] a1 (actSyncinPulse a0 a1) := by
  unfold actSyncinPulse
  extract_lets +onlyGivenNames x; clear_value x
  focus
    extract_lets +onlyGivenNames x; refine Moves.use x ?_ (fun hx => ?_); unfold x; clear x; rotate_left; clear_value x; rotate_right
  split
  refine Moves.update ?_
  apply Moves.refl
  extract_lets +onlyGivenNames x; clear_value x
  refine Moves.update ?_
  apply Moves.refl
  with_reducible apply Moves.ite
  with_reducible apply Moves.ite
  with_reducible apply Moves.foldl; intro _ _ _
  with_reducible apply Moves.app (referencePulse_frame ..); decide
  assumption
  with_reducible apply Moves.app (State.setFlag_frame ..); decide
  assumption
  assumption
  with_reducible apply Moves.ite
  with_reducible apply Moves.app (syncinLost_frame ..); decide
  assumption
  with_reducible apply Moves.foldl; intro _ _ _
  with_reducible apply Moves.app (referencePulse_frame ..); decide
  assumption
  assumption

theorem windowBack_frame (a0 : State) : Moves [.od, .draws, .log, .can, .pdo, .link, .mem, .sched, .tabor] a0 (windowBack a0).1 := by
  unfold windowBack
  extract_lets +onlyGivenNames x; clear_value x
  extract_lets +onlyGivenNames x; clear_value x
  with_reducible apply Moves.ite_fst
  dsimp only
  with_reducible apply Moves.app (State.setCore_frame ..); decide
  apply Moves.refl
  extract_lets +onlyGivenNames x; clear_value x
  extract_lets +onlyGivenNames x; clear_value x
  with_reducible apply Moves.ite_fst
  dsimp only
  apply Moves.refl
  split
  split
  dsimp only
  with_reducible apply Moves.of_pair; assumption
  with_reducible apply Moves.app (checkEcc_frame ..); decide
  with_reducible apply Moves.of_pair; assumption
  with_reducible apply Moves.app (windowAccess_frame ..); decide
  apply Moves.refl
  extract_lets +onlyGivenNames x; clear_value x
  dsimp only
  with_reducible apply Moves.app (State.setCore_frame ..); decide
  with_reducible apply Moves.of_pair; assumption
  with_reducible apply Moves.app (checkEcc_frame ..); decide
  with_reducible apply Moves.of_pair; assumption
  with_reducible apply Moves.app (windowAccess_frame ..); decide
  apply Moves.refl
  dsimp only
  with_reducible apply Moves.of_pair; assumption
  with_reducible apply Moves.app (windowAccess_frame ..); decide
  apply Moves.refl
  dsimp only
  with_reducible apply Moves.of_pair; assumption
  with_reducible apply Moves.app (windowAccess_frame ..); decide
  apply Moves.refl

theorem supVoltage_frame (a0 : State) (a1 : Nat) : Moves [.od, .reg] a0 (supVoltage a0 a1) := by
  unfold supVoltage
  extract_lets +onlyGivenNames x; clear_value x
  focus
    extract_lets +onlyGivenNames x; refine Moves.use x ?_ (fun hx => ?_); unfold x; clear x; rotate_left; clear_value x; rotate_right
  with_reducible apply Moves.app (State.set_frame ..); decide
  apply Moves.refl
  extract_lets +onlyGivenNames x; clear_value x
  with_reducible apply Moves.ite
  assumption
  extract_lets +onlyGivenNames x; clear_value x
  extract_lets +onlyGivenNames x; clear_value x
  extract_lets +onlyGivenNames x; clear_value x
  extract_lets +onlyGivenNames x; clear_value x
  extract_lets +onlyGivenNames x; clear_value x
  with_reducible apply Moves.app (State.setSup_frame ..); decide
  assumption

theorem supCurrent_frame (a0 : State) (a1 : Nat) : Moves [.reg] a0 (supCurrent a0 a1) := by
  unfold supCurrent
  split
  apply Moves.refl
  extract_lets +onlyGivenNames x; clear_value x
  extract_lets +onlyGivenNames x; clear_value x
  with_reducible apply Moves.ite
  apply Moves.refl
  extract_lets +onlyGivenNames x; clear_value x
  extract_lets +onlyGivenNames x; clear_value x
  with_reducible apply Moves.app (State.setSup_frame ..); decide
  apply Moves.refl

theorem tmonShutdown_frame (a0 : Nat) (a1 : Nat) (a2 : State) : Moves [.od, .log, .can, .pdo, .link, .sched, .touch, .reg] a2 (tmonShutdown a0 a1 a2) := by
  unfold tmonShutdown
  with_reducible apply Moves.ite
  apply Moves.refl
  extract_lets +onlyGivenNames x; clear_value x
  focus
    extract_lets +onlyGivenNames x; refine Moves.use x ?_ (fun hx => ?_); unfold x; clear x; rotate_left; clear_value x; rotate_right
  refine Moves.update ?_
  apply Moves.refl
  focus
    extract_lets +onlyGivenNames x; refine Moves.use x ?_ (fun hx => ?_); unfold x; clear x; rotate_left; clear_value x; rotate_right
  with_reducible apply Moves.app (State.setFlag_frame ..); decide
  assumption
  with_reducible apply Moves.app (faultAll_frame ..); decide
  assumption

end Sys2Proof.Machine
end

