-- ==== Sys2Proof/Laws/FramesStore.lean ====
section
/-!
SUPPORT. What each function may change: the frames of the sequencer, the store, update, charger, log, reset, pack and thermal operations. One lemma per function: every part of the
state that is not listed stands as it stood, and every table keeps its canonical form.
-/

set_option linter.all false
set_option Elab.async false

namespace Sys2Proof.Machine

theorem State.setAfter_frame (a0 : State) : Moves [.seq] a0 (State.setAfter a0) := by
  unfold State.setAfter
  refine Moves.update ?_
  apply Moves.refl

theorem State.setFan_frame (a0 : State) (a1 : Nat) (a2 : Fan) : Moves [.thermal] a0 (State.setFan a0 a1 a2) := by
  unfold State.setFan
  refine Moves.update ?_
  apply Moves.refl

theorem State.setRun_frame (a0 : State) (a1 : Option Run) : Moves [.seq] a0 (State.setRun a0 a1) := by
  unfold State.setRun
  refine Moves.update ?_
  apply Moves.refl

theorem State.setTargetBank_frame (a0 : State) (a1 : Nat) (a2 : Bank) : Moves [.update] a0 (State.setTargetBank a0 a1 a2) := by
  unfold State.setTargetBank
  with_reducible apply Moves.ite
  extract_lets +onlyGivenNames x; clear_value x
  refine Moves.update ?_
  apply Moves.refl
  refine Moves.update ?_
  apply Moves.refl

theorem takeRecord_frame (a0 : State) (a1 : StoreRecord) : Moves [.od] a0 (takeRecord a0 a1) := by
  unfold takeRecord
  with_reducible apply Moves.app (State.set_frame ..); decide
  apply Moves.refl

theorem State.startingWith_frame (a0 : State) (a1 : List StoreRecord) : Moves [.od] a0 (State.startingWith a0 a1) := by
  unfold State.startingWith
  with_reducible apply Moves.foldl; intro _ _ _
  with_reducible apply Moves.app (takeRecord_frame ..); decide
  assumption
  refine Moves.update ?_
  apply Moves.refl

theorem abandonExchange_frame (a0 : State) : Moves [.pack] a0 (abandonExchange a0) := by
  unfold abandonExchange
  with_reducible apply Moves.ite
  apply Moves.refl
  refine Moves.update ?_
  apply Moves.refl

theorem abandonRecord_frame (a0 : State) : Moves [.draws, .log] a0 (abandonRecord a0) := by
  unfold abandonRecord
  with_reducible apply Moves.ite
  extract_lets +onlyGivenNames x; clear_value x
  extract_lets +onlyGivenNames x; clear_value x
  extract_lets +onlyGivenNames x; clear_value x
  extract_lets +onlyGivenNames x; clear_value x
  with_reducible apply Moves.app (State.draw_frame ..); decide
  refine Moves.update ?_
  apply Moves.refl
  apply Moves.refl

theorem abandonSegment_frame (a0 : State) : Moves [.od, .test] a0 (abandonSegment a0) := by
  unfold abandonSegment
  with_reducible apply Moves.ite
  apply Moves.refl
  with_reducible apply Moves.app (State.count_frame ..); decide
  refine Moves.update ?_
  apply Moves.refl

theorem lossEnds_frame (a0 : State) (a1 : LossOutcome) : Moves [.power] a0 (lossEnds a0 a1) := by
  unfold lossEnds
  refine Moves.update ?_
  apply Moves.refl

theorem disarm_frame (a0 : State) : Moves [.power] a0 (disarm a0) := by
  unfold disarm
  refine Moves.update ?_
  apply Moves.refl

theorem loseQueue_frame (a0 : State) : Moves [.draws, .aocb, .log] a0 (loseQueue a0) := by
  unfold loseQueue
  focus
    extract_lets +onlyGivenNames x; refine Moves.use x ?_ (fun hx => ?_); unfold x; clear x; rotate_left; clear_value x; rotate_right
  with_reducible apply Moves.app (abandonRecord_frame ..); decide
  apply Moves.refl
  extract_lets +onlyGivenNames x; clear_value x
  refine Moves.update ?_
  assumption

theorem resetDomains_frame (a0 : State) (a1 : Bool) : Moves [.od, .live, .draws, .clocks, .aocb, .beat, .store, .log, .can, .pdo, .link, .mem, .sched, .tabor, .sense, .touch, .reg, .seq, .pack, .thermal, .update, .test] a0 (resetDomains a0 a1) := by
  unfold resetDomains
  focus
    extract_lets +onlyGivenNames x; refine Moves.use x ?_ (fun hx => ?_); unfold x; clear x; rotate_left; clear_value x; rotate_right
  with_reducible apply Moves.app (loseQueue_frame ..); decide
  apply Moves.refl
  refine Moves.update ?_
  assumption

theorem clearLost_frame (a0 : State) : Moves [.aocb] a0 (clearLost a0) := by
  unfold clearLost
  refine Moves.update ?_
  apply Moves.refl

theorem abandonStartup_frame (a0 : State) : Moves [.od, .live, .draws, .power, .clocks, .aocb, .beat, .store, .log, .can, .pdo, .link, .mem, .sched, .tabor, .sense, .touch, .reg, .seq, .pack, .thermal, .update, .test] a0 (abandonStartup a0) := by
  unfold abandonStartup
  focus
    extract_lets +onlyGivenNames x; refine Moves.use x ?_ (fun hx => ?_); unfold x; clear x; rotate_left; clear_value x; rotate_right
  with_reducible apply Moves.app (lossEnds_frame ..); decide
  with_reducible apply Moves.app (disarm_frame ..); decide
  with_reducible apply Moves.app (resetDomains_frame ..); decide
  with_reducible apply Moves.app (clearLost_frame ..); decide
  apply Moves.refl
  focus
    extract_lets +onlyGivenNames x; refine Moves.use x ?_ (fun hx => ?_); unfold x; clear x; rotate_left; clear_value x; rotate_right
  with_reducible apply Moves.app (State.set_frame ..); decide
  assumption
  refine Moves.update ?_
  assumption

theorem abandonStore_frame (a0 : State) : Moves [.od, .store] a0 (abandonStore a0) := by
  unfold abandonStore
  focus
    extract_lets +onlyGivenNames x; refine Moves.use x ?_ (fun hx => ?_); unfold x; clear x; rotate_left; clear_value x; rotate_right
  with_reducible apply Moves.app (State.set_frame ..); decide
  apply Moves.refl
  refine Moves.update ?_
  assumption

theorem applyCurve_frame (a0 : State) (a1 : Nat) : Moves [.thermal] a0 (applyCurve a0 a1).1 := by
  unfold applyCurve
  with_reducible apply Moves.ite_fst
  dsimp only
  with_reducible apply Moves.app (State.setFan_frame ..); decide
  apply Moves.refl
  dsimp only
  apply Moves.refl

theorem actApplyCurve_frame (a0 : Port) (a1 : Fin 4) (a2 : State) : Moves [.replies, .thermal] a2 (actApplyCurve a0 a1 a2) := by
  unfold actApplyCurve
  (with_reducible apply portCommand_frame) <;> first | decide | skip
  apply Moves.refl
  with_reducible intro _
  with_reducible apply Moves.app (applyCurve_frame ..); decide
  apply Moves.refl

theorem refreshEmergency_frame (a0 : State) : Moves [.od] a0 (refreshEmergency a0) := by
  unfold refreshEmergency
  with_reducible apply Moves.app (State.set_frame ..); decide
  apply Moves.refl

theorem ordersInForce_frame (a0 : State) : Moves [.od, .live] a0 (ordersInForce a0) := by
  unfold ordersInForce
  with_reducible apply Moves.app (refreshEmergency_frame ..); decide
  with_reducible apply Moves.app (State.takeInForce_frame ..); decide
  with_reducible apply Moves.app (State.takeInForce_frame ..); decide
  with_reducible apply Moves.app (State.takeInForce_frame ..); decide
  with_reducible apply Moves.app (State.takeInForce_frame ..); decide
  apply Moves.refl

theorem applyOrders_frame (a0 : State) : Moves [.od, .live] a0 (applyOrders a0).1 := by
  unfold applyOrders
  with_reducible apply Moves.ite_fst
  dsimp only
  apply Moves.refl
  with_reducible apply Moves.ite_fst
  dsimp only
  apply Moves.refl
  dsimp only
  with_reducible apply Moves.app (ordersInForce_frame ..); decide
  apply Moves.refl

theorem actApplyOrders_frame (a0 : Port) (a1 : State) : Moves [.od, .live, .replies] a1 (actApplyOrders a0 a1) := by
  unfold actApplyOrders
  (with_reducible apply portCommand_frame) <;> first | decide | skip
  apply Moves.refl
  with_reducible intro _
  with_reducible apply Moves.app (applyOrders_frame ..); decide
  apply Moves.refl

theorem chargerRefresh_frame (a0 : State) : Moves [.od] a0 (chargerRefresh a0) := by
  unfold chargerRefresh
  extract_lets +onlyGivenNames x; clear_value x
  focus
    extract_lets +onlyGivenNames x; refine Moves.use x ?_ (fun hx => ?_); unfold x; clear x; rotate_left; clear_value x; rotate_right
  with_reducible apply Moves.app (State.setFlag_frame ..); decide
  with_reducible apply Moves.app (State.setFlag_frame ..); decide
  apply Moves.refl
  with_reducible apply Moves.app (State.set_frame ..); decide
  with_reducible apply Moves.app (State.set_frame ..); decide
  with_reducible apply Moves.app (State.set_frame ..); decide
  assumption

theorem setChargePhase_frame (a0 : State) (a1 : Nat) : Moves [.od, .log, .link, .sched] a0 (setChargePhase a0 a1) := by
  unfold setChargePhase
  with_reducible apply Moves.ite
  apply Moves.refl
  extract_lets +onlyGivenNames x; clear_value x
  with_reducible apply Moves.app (logVerbose_frame ..); decide
  with_reducible apply Moves.app (raise_frame ..); decide
  with_reducible apply Moves.app (State.set_frame ..); decide
  apply Moves.refl

theorem chargerReview_frame (a0 : State) : Moves [.od, .log, .link, .sched, .pack] a0 (chargerReview a0) := by
  unfold chargerReview
  focus
    extract_lets +onlyGivenNames x; refine Moves.use x ?_ (fun hx => ?_); unfold x; clear x; rotate_left; clear_value x; rotate_right
  with_reducible apply Moves.app (chargerRefresh_frame ..); decide
  apply Moves.refl
  extract_lets +onlyGivenNames x; clear_value x
  with_reducible apply Moves.ite
  assumption
  with_reducible apply Moves.ite
  with_reducible apply Moves.app (setChargePhase_frame ..); decide
  assumption
  with_reducible apply Moves.ite
  with_reducible apply Moves.ite
  assumption
  with_reducible apply Moves.app (setChargePhase_frame ..); decide
  assumption
  with_reducible apply Moves.ite
  assumption
  with_reducible apply Moves.ite
  with_reducible apply Moves.app (setChargePhase_frame ..); decide
  refine Moves.update ?_
  assumption
  assumption

theorem checkIdentity_frame (a0 : State) : Moves [.od, .log, .can, .pdo, .link, .sched, .pack] a0 (checkIdentity a0) := by
  unfold checkIdentity
  with_reducible apply Moves.ite
  with_reducible apply Moves.app (State.setFlag_frame ..); decide
  apply Moves.refl
  extract_lets +onlyGivenNames x; clear_value x
  extract_lets +onlyGivenNames x; clear_value x
  extract_lets +onlyGivenNames x; clear_value x
  focus
    extract_lets +onlyGivenNames x; refine Moves.use x ?_ (fun hx => ?_); unfold x; clear x; rotate_left; clear_value x; rotate_right
  with_reducible apply Moves.app (State.setFlag_frame ..); decide
  apply Moves.refl
  with_reducible apply Moves.ite
  assumption
  with_reducible apply Moves.app (emcyLog_frame ..); decide
  refine Moves.update ?_
  assumption

theorem setPackCondition_frame (a0 : State) (a1 : Nat) : Moves [.od, .log, .can, .pdo, .link, .sched, .pack] a0 (setPackCondition a0 a1) := by
  unfold setPackCondition
  with_reducible apply Moves.ite
  apply Moves.refl
  extract_lets +onlyGivenNames x; clear_value x
  focus
    extract_lets +onlyGivenNames x; refine Moves.use x ?_ (fun hx => ?_); unfold x; clear x; rotate_left; clear_value x; rotate_right
  with_reducible apply Moves.app (logVerbose_frame ..); decide
  with_reducible apply Moves.app (raiseEv_frame ..); decide
  with_reducible apply Moves.app (State.set_frame ..); decide
  apply Moves.refl
  with_reducible apply Moves.app (chargerReview_frame ..); decide
  with_reducible apply Moves.app (checkIdentity_frame ..); decide
  assumption

theorem packBecomes_frame (a0 : State) (a1 : Nat) : Moves [.od, .log, .can, .pdo, .link, .sched, .pack] a0 (packBecomes a0 a1) := by
  unfold packBecomes
  with_reducible apply Moves.ite
  with_reducible apply Moves.app (setPackCondition_frame ..); decide
  apply Moves.refl
  with_reducible apply Moves.app (State.set_frame ..); decide
  apply Moves.refl

theorem exchangeFails_frame (a0 : State) (a1 : Nat) : Moves [.od, .log, .can, .pdo, .link, .sched, .pack] a0 (exchangeFails a0 a1) := by
  unfold exchangeFails
  extract_lets +onlyGivenNames x; clear_value x
  focus
    extract_lets +onlyGivenNames x; refine Moves.use x ?_ (fun hx => ?_); unfold x; clear x; rotate_left; clear_value x; rotate_right
  refine Moves.update ?_
  apply Moves.refl
  focus
    extract_lets +onlyGivenNames x; refine Moves.use x ?_ (fun hx => ?_); unfold x; clear x; rotate_left; clear_value x; rotate_right
  with_reducible apply Moves.app (State.count_frame ..); decide
  with_reducible apply Moves.app (State.set_frame ..); decide
  assumption
  with_reducible apply Moves.ite
  with_reducible apply Moves.app (packBecomes_frame ..); decide
  assumption
  focus
    extract_lets +onlyGivenNames x; refine Moves.use x ?_ (fun hx => ?_); unfold x; clear x; rotate_left; clear_value x; rotate_right
  with_reducible apply Moves.app (packBecomes_frame ..); decide
  assumption
  with_reducible apply Moves.ite
  assumption
  with_reducible apply Moves.app (emcyLog_frame ..); decide
  refine Moves.update ?_
  assumption

theorem attemptFails_frame (a0 : State) (a1 : Nat) (a2 : Nat) : Moves [.od, .log, .can, .pdo, .link, .sched, .pack] a0 (attemptFails a0 a1 a2) := by
  unfold attemptFails
  with_reducible apply Moves.ite
  refine Moves.update ?_
  apply Moves.refl
  with_reducible apply Moves.app (exchangeFails_frame ..); decide
  apply Moves.refl

theorem actAuthenticationExchange_frame (a0 : PackRead) (a1 : Bool) (a2 : State) : Moves [.od, .draws, .log, .can, .pdo, .link, .sched, .pack] a2 (actAuthenticationExchange a0 a1 a2) := by
  unfold actAuthenticationExchange
  split
  apply Moves.refl
  extract_lets +onlyGivenNames x; clear_value x
  focus
    extract_lets +onlyGivenNames x; refine Moves.use x ?_ (fun hx => ?_); unfold x; clear x; rotate_left; clear_value x; rotate_right
  refine Moves.update ?_
  apply Moves.refl
  extract_lets +onlyGivenNames x; clear_value x
  focus
    extract_lets +onlyGivenNames x; refine Moves.use x ?_ (fun hx => ?_); unfold x; clear x; rotate_left; clear_value x; rotate_right
  split
  with_reducible apply Moves.ite
  with_reducible apply Moves.app (State.set_frame ..); decide
  assumption
  assumption
  assumption
  with_reducible apply Moves.ite
  with_reducible apply Moves.app (attemptFails_frame ..); decide
  assumption
  extract_lets +onlyGivenNames x; clear_value x
  focus
    extract_lets +onlyGivenNames x; refine Moves.use x ?_ (fun hx => ?_); unfold x; clear x; rotate_left; clear_value x; rotate_right
  with_reducible apply Moves.app (State.draw_frame ..); decide
  assumption
  extract_lets +onlyGivenNames x; clear_value x
  focus
    extract_lets +onlyGivenNames x; refine Moves.use x ?_ (fun hx => ?_); unfold x; clear x; rotate_left; clear_value x; rotate_right
  refine Moves.update ?_
  assumption
  with_reducible apply Moves.ite
  refine Moves.update ?_
  assumption
  with_reducible apply Moves.app (attemptFails_frame ..); decide
  assumption

theorem clearFractions_frame (a0 : State) : Moves [.pack] a0 (clearFractions a0) := by
  unfold clearFractions
  refine Moves.update ?_
  apply Moves.refl

theorem blankAccount_frame (a0 : State) (a1 : Nat) : Moves [.od] a0 (blankAccount a0 a1) := by
  unfold blankAccount
  with_reducible apply Moves.app (State.set_frame ..); decide
  with_reducible apply Moves.foldl; intro _ _ _
  with_reducible apply Moves.app (State.set_frame ..); decide
  assumption
  apply Moves.refl

theorem judgeEol_frame (a0 : State) : Moves [.od, .log, .can, .pdo, .link, .sched, .pack] a0 (judgeEol a0) := by
  unfold judgeEol
  with_reducible apply Moves.ite
  apply Moves.refl
  extract_lets +onlyGivenNames x; clear_value x
  extract_lets +onlyGivenNames x; clear_value x
  focus
    extract_lets +onlyGivenNames x; refine Moves.use x ?_ (fun hx => ?_); unfold x; clear x; rotate_left; clear_value x; rotate_right
  with_reducible apply Moves.app (State.set_frame ..); decide
  apply Moves.refl
  with_reducible apply Moves.ite
  with_reducible apply Moves.app (emcyLog_frame ..); decide
  refine Moves.update ?_
  assumption
  assumption

theorem reconcile_frame (a0 : State) (a1 : PackRead) : Moves [.od, .log, .can, .pdo, .link, .sched, .pack] a0 (reconcile a0 a1) := by
  unfold reconcile
  extract_lets +onlyGivenNames x; clear_value x
  extract_lets +onlyGivenNames x; clear_value x
  extract_lets +onlyGivenNames x; clear_value x
  focus
    extract_lets +onlyGivenNames x; refine Moves.use x ?_ (fun hx => ?_); unfold x; clear x; rotate_left; clear_value x; rotate_right
  split
  extract_lets +onlyGivenNames x; clear_value x
  with_reducible apply Moves.ite
  with_reducible apply Moves.foldl; intro _ _ _
  with_reducible apply Moves.app (State.set_frame ..); decide
  assumption
  apply Moves.refl
  with_reducible apply Moves.app (clearFractions_frame ..); decide
  with_reducible apply Moves.foldl; intro _ _ _
  with_reducible apply Moves.app (State.set_frame ..); decide
  assumption
  apply Moves.refl
  with_reducible apply Moves.ite
  apply Moves.refl
  with_reducible apply Moves.app (State.setFlag_frame ..); decide
  with_reducible apply Moves.app (clearFractions_frame ..); decide
  with_reducible apply Moves.app (blankAccount_frame ..); decide
  apply Moves.refl
  with_reducible apply Moves.app (judgeEol_frame ..); decide
  with_reducible apply Moves.app (State.set_frame ..); decide
  assumption

theorem exchangePasses_frame (a0 : State) (a1 : Nat) (a2 : PackRead) : Moves [.od, .log, .can, .pdo, .link, .sched, .pack] a0 (exchangePasses a0 a1 a2) := by
  unfold exchangePasses
  extract_lets +onlyGivenNames x; clear_value x
  focus
    extract_lets +onlyGivenNames x; refine Moves.use x ?_ (fun hx => ?_); unfold x; clear x; rotate_left; clear_value x; rotate_right
  refine Moves.update ?_
  apply Moves.refl
  focus
    extract_lets +onlyGivenNames x; refine Moves.use x ?_ (fun hx => ?_); unfold x; clear x; rotate_left; clear_value x; rotate_right
  with_reducible apply Moves.app (reconcile_frame ..); decide
  with_reducible apply Moves.app (State.set_frame ..); decide
  assumption
  with_reducible apply Moves.app (judgeEol_frame ..); decide
  with_reducible apply Moves.app (packBecomes_frame ..); decide
  assumption

theorem lifeWriteBack_frame (a0 : State) (a1 : Bool) (a2 : PackRead) : Moves [.od, .log, .can, .pdo, .link, .sched, .pack] a0 (lifeWriteBack a0 a1 a2) := by
  unfold lifeWriteBack
  extract_lets +onlyGivenNames x; clear_value x
  extract_lets +onlyGivenNames x; clear_value x
  extract_lets +onlyGivenNames x; clear_value x
  extract_lets +onlyGivenNames x; clear_value x
  focus
    extract_lets +onlyGivenNames x; refine Moves.use x ?_ (fun hx => ?_); unfold x; clear x; rotate_left; clear_value x; rotate_right
  refine Moves.update ?_
  apply Moves.refl
  with_reducible apply Moves.ite
  with_reducible apply Moves.app (State.count_frame ..); decide
  refine Moves.update ?_
  assumption
  extract_lets +onlyGivenNames x; clear_value x
  extract_lets +onlyGivenNames x; clear_value x
  focus
    extract_lets +onlyGivenNames x; refine Moves.use x ?_ (fun hx => ?_); unfold x; clear x; rotate_left; clear_value x; rotate_right
  with_reducible apply Moves.app (State.count_frame ..); decide
  refine Moves.update ?_
  assumption
  with_reducible apply Moves.ite
  with_reducible apply Moves.app (emcyLog_frame ..); decide
  assumption
  assumption

theorem writeBackDue_frame (a0 : State) (a1 : Bool) (a2 : PackRead) : Moves [.od, .log, .can, .pdo, .link, .sched, .pack] a0 (writeBackDue a0 a1 a2) := by
  unfold writeBackDue
  with_reducible apply Moves.ite
  apply Moves.refl
  with_reducible apply Moves.ite
  refine Moves.update ?_
  apply Moves.refl
  with_reducible apply Moves.app (lifeWriteBack_frame ..); decide
  apply Moves.refl

theorem actAuthenticationResponse_frame (a0 : PackRead) (a1 : PackRead) (a2 : Bool) (a3 : PackRead) (a4 : State) : Moves [.od, .log, .can, .pdo, .link, .sched, .pack] a4 (actAuthenticationResponse a0 a1 a2 a3 a4) := by
  unfold actAuthenticationResponse
  split
  with_reducible apply Moves.ite
  apply Moves.refl
  extract_lets +onlyGivenNames x; clear_value x
  with_reducible apply Moves.ite
  with_reducible apply Moves.app (attemptFails_frame ..); decide
  apply Moves.refl
  focus
    extract_lets +onlyGivenNames x; refine Moves.use x ?_ (fun hx => ?_); unfold x; clear x; rotate_left; clear_value x; rotate_right
  with_reducible apply Moves.app (exchangePasses_frame ..); decide
  apply Moves.refl
  with_reducible apply Moves.ite
  with_reducible apply Moves.app (writeBackDue_frame ..); decide
  assumption
  assumption
  apply Moves.refl

theorem refreshRecord_frame (a0 : State) : Moves [.od] a0 (refreshRecord a0) := by
  unfold refreshRecord
  split
  with_reducible apply Moves.app (State.set_frame ..); decide
  with_reducible apply Moves.app (State.set_frame ..); decide
  apply Moves.refl
  with_reducible apply Moves.app (State.set_frame ..); decide
  with_reducible apply Moves.app (State.set_frame ..); decide
  apply Moves.refl

theorem writeRecord_frame (a0 : State) (a1 : Nat) (a2 : Bool) (a3 : Nat) (a4 : Nat) (a5 : Nat) : Moves [.od, .update] a0 (writeRecord a0 a1 a2 a3 a4 a5) := by
  unfold writeRecord
  extract_lets +onlyGivenNames x; clear_value x
  extract_lets +onlyGivenNames x; clear_value x
  extract_lets +onlyGivenNames x; clear_value x
  with_reducible apply Moves.app (refreshRecord_frame ..); decide
  refine Moves.update ?_
  apply Moves.refl

theorem confirmedRecord_frame (a0 : State) (a1 : Nat) (a2 : Nat) : Moves [.od, .update] a0 (confirmedRecord a0 a1 a2) := by
  unfold confirmedRecord
  extract_lets +onlyGivenNames x; clear_value x
  with_reducible apply Moves.app (writeRecord_frame ..); decide
  apply Moves.refl

theorem modifyRecord_frame (a0 : State) (a1 : BootRecord → BootRecord) : Moves [.od, .update] a0 (modifyRecord a0 a1) := by
  unfold modifyRecord
  split
  with_reducible apply Moves.app (refreshRecord_frame ..); decide
  refine Moves.update ?_
  apply Moves.refl
  apply Moves.refl

theorem lineSwitch_frame (a0 : State) : Moves [.od, .log, .can, .pdo, .link, .sched, .test] a0 (lineSwitch a0) := by
  unfold lineSwitch
  extract_lets +onlyGivenNames x; clear_value x
  extract_lets +onlyGivenNames x; clear_value x
  with_reducible apply Moves.ite
  focus
    extract_lets +onlyGivenNames x; refine Moves.use x ?_ (fun hx => ?_); unfold x; clear x; rotate_left; clear_value x; rotate_right
  with_reducible apply Moves.ite
  with_reducible apply Moves.app (abandonSegment_frame ..); decide
  apply Moves.refl
  apply Moves.refl
  focus
    extract_lets +onlyGivenNames x; refine Moves.use x ?_ (fun hx => ?_); unfold x; clear x; rotate_left; clear_value x; rotate_right
  with_reducible apply Moves.app (State.count_frame ..); decide
  with_reducible apply Moves.app (State.set_frame ..); decide
  assumption
  with_reducible apply Moves.app (emcyLog_frame ..); decide
  refine Moves.update ?_
  assumption
  apply Moves.refl

theorem setLine_frame (a0 : State) (a1 : Line) (a2 : Nat) : Moves [.od, .log, .can, .pdo, .link, .sched, .test] a0 (setLine a0 a1 a2) := by
  unfold setLine
  with_reducible apply Moves.app (emcyDrainAll_frame ..); decide
  with_reducible apply Moves.app (refreshErrors_frame ..); decide
  with_reducible apply Moves.app (lineSwitch_frame ..); decide
  with_reducible apply Moves.app (State.set_frame ..); decide
  apply Moves.refl

theorem readWindow_frame (a0 : State) (a1 : Port) (a2 : Nat) (a3 : Bool) : Moves [.od, .log] a0 (readWindow a0 a1 a2 a3).1 := by
  unfold readWindow
  extract_lets +onlyGivenNames x; clear_value x
  extract_lets +onlyGivenNames x; clear_value x
  extract_lets +onlyGivenNames x; clear_value x
  extract_lets +onlyGivenNames x; clear_value x
  extract_lets +onlyGivenNames x; clear_value x
  with_reducible apply Moves.ite_fst
  dsimp only
  apply Moves.refl
  extract_lets +onlyGivenNames x; clear_value x
  extract_lets +onlyGivenNames x; clear_value x
  focus
    extract_lets +onlyGivenNames x; refine Moves.use x ?_ (fun hx => ?_); unfold x; clear x; rotate_left; clear_value x; rotate_right
  refine Moves.update ?_
  apply Moves.refl
  dsimp only
  with_reducible apply Moves.ite
  assumption
  with_reducible apply Moves.app (State.countBy_frame ..); decide
  assumption

theorem setTarget_frame (a0 : State) (a1 : Nat) (a2 : Target) : Moves [.od, .log, .link, .sched, .update] a0 (setTarget a0 a1 a2) := by
  unfold setTarget
  extract_lets +onlyGivenNames x; clear_value x
  focus
    extract_lets +onlyGivenNames x; refine Moves.use x ?_ (fun hx => ?_); unfold x; clear x; rotate_left; clear_value x; rotate_right
  refine Moves.update ?_
  apply Moves.refl
  focus
    extract_lets +onlyGivenNames x; refine Moves.use x ?_ (fun hx => ?_); unfold x; clear x; rotate_left; clear_value x; rotate_right
  with_reducible apply Moves.app (State.set_frame ..); decide
  assumption
  extract_lets +onlyGivenNames x; clear_value x
  with_reducible apply Moves.ite
  with_reducible apply Moves.app (logStateChange_frame ..); decide
  with_reducible apply Moves.app (raiseEv_frame ..); decide
  with_reducible apply Moves.app (State.set_frame ..); decide
  assumption
  assumption

theorem setStage_frame (a0 : State) (a1 : Nat) (a2 : Stage) (a3 : Nat) : Moves [.od, .log, .link, .sched, .update] a0 (setStage a0 a1 a2 a3) := by
  unfold setStage
  with_reducible apply Moves.app (setTarget_frame ..); decide
  apply Moves.refl

theorem refreshVersions_frame (a0 : State) : Moves [.od] a0 (refreshVersions a0) := by
  unfold refreshVersions
  focus
    extract_lets +onlyGivenNames x; refine Moves.use x ?_ (fun hx => ?_); unfold x; clear x; rotate_left; clear_value x; rotate_right
  with_reducible apply Moves.app (State.set_frame ..); decide
  apply Moves.refl
  with_reducible apply Moves.foldl; intro _ _ _
  with_reducible apply Moves.app (State.set_frame ..); decide
  assumption
  assumption

theorem commitBlock_frame (a0 : State) (a1 : Nat) (a2 : Session) (a3 : List Nat) (a4 : Bool) : Moves [.od, .log, .link, .sched, .update] a0 (commitBlock a0 a1 a2 a3 a4).1 := by
  unfold commitBlock
  extract_lets +onlyGivenNames x; clear_value x
  extract_lets +onlyGivenNames x; clear_value x
  extract_lets +onlyGivenNames x; clear_value x
  extract_lets +onlyGivenNames x; clear_value x
  extract_lets +onlyGivenNames x; clear_value x
  extract_lets +onlyGivenNames x; clear_value x
  focus
    extract_lets +onlyGivenNames x; refine Moves.use x ?_ (fun hx => ?_); unfold x; clear x; rotate_left; clear_value x; rotate_right
  refine Moves.update ?_
  apply Moves.refl
  with_reducible apply Moves.ite_fst
  dsimp only
  with_reducible apply Moves.app (setTarget_frame ..); decide
  assumption
  with_reducible apply Moves.ite_fst
  dsimp only
  with_reducible apply Moves.app (setTarget_frame ..); decide
  assumption
  extract_lets +onlyGivenNames x; clear_value x
  extract_lets +onlyGivenNames x; clear_value x
  focus
    extract_lets +onlyGivenNames x; refine Moves.use x ?_ (fun hx => ?_); unfold x; clear x; rotate_left; clear_value x; rotate_right
  with_reducible apply Moves.app (refreshVersions_frame ..); decide
  with_reducible apply Moves.app (State.setTargetBank_frame ..); decide
  assumption
  extract_lets +onlyGivenNames x; clear_value x
  dsimp only
  with_reducible apply Moves.app (setTarget_frame ..); decide
  assumption

theorem appendData_frame (fuel : Nat) (s : State) (sub : Nat) (data : List Nat) (ok : Bool) : Moves [.od, .log, .link, .sched, .update] s (appendData fuel s sub data ok).1 := by
  induction fuel generalizing s data with
  | zero => exact Moves.refl _ _
  | succ n ih =>
    unfold appendData
    split
    · exact Moves.refl _ _
    · extract_lets room blk
      refine Moves.ite_fst _ ?_ ?_
      · exact Moves.update (Moves.refl _ s)
      · have hc : Moves [.od, .log, .link, .sched, .update] s (commitBlock s sub ‹_› blk ok).1 := (commitBlock_frame _ _ _ _ _).mono (by decide)
        split
        · exact Moves.ite_fst _ (Moves.of_pair ‹_› hc) ((Moves.of_pair ‹_› hc).trans (ih _ _))
        · exact hc

theorem programData_frame (a0 : State) (a1 : Nat) (a2 : Nat) (a3 : Option Nat) (a4 : List Nat) (a5 : Bool) : Moves [.od, .log, .link, .sched, .update] a0 (programData a0 a1 a2 a3 a4 a5).1 := by
  unfold programData
  extract_lets +onlyGivenNames x; clear_value x
  extract_lets +onlyGivenNames x; clear_value x
  extract_lets +onlyGivenNames x; clear_value x
  focus
    extract_lets +onlyGivenNames x; refine Moves.use x ?_ (fun hx => ?_); unfold x; clear x; rotate_left; clear_value x; rotate_right
  with_reducible apply Moves.ite
  refine Moves.update ?_
  apply Moves.refl
  apply Moves.refl
  with_reducible apply Moves.ite_fst
  dsimp only
  apply Moves.refl
  with_reducible apply Moves.ite_fst
  dsimp only
  apply Moves.refl
  with_reducible apply Moves.ite_fst
  dsimp only
  apply Moves.refl
  with_reducible apply Moves.ite_fst
  dsimp only
  apply Moves.refl
  with_reducible apply Moves.ite_fst
  dsimp only
  apply Moves.refl
  with_reducible apply Moves.ite_fst
  dsimp only
  apply Moves.refl
  focus
    extract_lets +onlyGivenNames x; refine Moves.use x ?_ (fun hx => ?_); unfold x; clear x; rotate_left; clear_value x; rotate_right
  with_reducible apply Moves.app (setStage_frame ..); decide
  assumption
  with_reducible apply Moves.app (appendData_frame ..); decide
  assumption

theorem startCopy_frame (a0 : State) (a1 : StoreJob) : Moves [.store] a0 (startCopy a0 a1) := by
  unfold startCopy
  refine Moves.update ?_
  apply Moves.refl

theorem beginStore_frame (a0 : State) (a1 : JobKind) (a2 : List StoreRecord) (a3 : Asker) : Moves [.od, .store] a0 (beginStore a0 a1 a2 a3).1 := by
  unfold beginStore
  with_reducible apply Moves.ite_fst
  dsimp only
  apply Moves.refl
  with_reducible apply Moves.ite_fst
  dsimp only
  apply Moves.refl
  extract_lets +onlyGivenNames x; clear_value x
  with_reducible apply Moves.ite_fst
  dsimp only
  with_reducible apply Moves.app (State.set_frame ..); decide
  apply Moves.refl
  extract_lets +onlyGivenNames x; clear_value x
  focus
    extract_lets +onlyGivenNames x; refine Moves.use x ?_ (fun hx => ?_); unfold x; clear x; rotate_left; clear_value x; rotate_right
  refine Moves.update ?_
  apply Moves.refl
  dsimp only
  with_reducible apply Moves.app (startCopy_frame ..); decide
  with_reducible apply Moves.app (State.set_frame ..); decide
  assumption

theorem beginSave_frame (a0 : State) (a1 : Nat) (a2 : Asker) : Moves [.od, .store] a0 (beginSave a0 a1 a2).1 := by
  unfold beginSave
  with_reducible apply Moves.app (beginStore_frame ..); decide
  apply Moves.refl

theorem beginRestore_frame (a0 : State) (a1 : Nat) (a2 : Asker) : Moves [.od, .store] a0 (beginRestore a0 a1 a2).1 := by
  unfold beginRestore
  with_reducible apply Moves.app (beginStore_frame ..); decide
  apply Moves.refl

theorem programStop_frame (a0 : State) : Moves [.od, .log, .link, .sched, .update] a0 (programStop a0).1 := by
  unfold programStop
  split
  dsimp only
  apply Moves.refl
  extract_lets +onlyGivenNames x; clear_value x
  focus
    extract_lets +onlyGivenNames x; refine Moves.use x ?_ (fun hx => ?_); unfold x; clear x; rotate_left; clear_value x; rotate_right
  refine Moves.update ?_
  apply Moves.refl
  dsimp only
  with_reducible apply Moves.ite
  assumption
  with_reducible apply Moves.app (setStage_frame ..); decide
  assumption

theorem releaseRails_frame (a0 : State) : Moves [.reg] a0 (releaseRails a0) := by
  unfold releaseRails
  with_reducible apply Moves.foldl; intro _ _ _
  with_reducible apply Moves.ite
  with_reducible apply Moves.app (State.setRail_frame ..); decide
  assumption
  assumption
  apply Moves.refl

theorem setPState_frame (a0 : State) (a1 : PState) : Moves [.od, .aocb, .log, .link, .sched, .sense] a0 (setPState a0 a1) := by
  unfold setPState
  with_reducible apply Moves.ite
  apply Moves.refl
  extract_lets +onlyGivenNames x; clear_value x
  extract_lets +onlyGivenNames x; clear_value x
  focus
    extract_lets +onlyGivenNames x; refine Moves.use x ?_ (fun hx => ?_); unfold x; clear x; rotate_left; clear_value x; rotate_right
  refine Moves.update ?_
  apply Moves.refl
  extract_lets +onlyGivenNames x; clear_value x
  focus
    extract_lets +onlyGivenNames x; refine Moves.use x ?_ (fun hx => ?_); unfold x; clear x; rotate_left; clear_value x; rotate_right
  with_reducible apply Moves.ite
  assumption
  refine Moves.update ?_
  assumption
  with_reducible apply Moves.app (logVerbose_frame ..); decide
  with_reducible apply Moves.app (raiseEv_frame ..); decide
  assumption

theorem climb_frame (a0 : State) (a1 : Nat) (a2 : Nat) : Moves [.od, .aocb, .log, .link, .sched, .sense] a0 (climb a0 a1 a2) := by
  unfold climb
  with_reducible apply Moves.foldl; intro _ _ _
  with_reducible apply Moves.app (setPState_frame ..); decide
  assumption
  apply Moves.refl

theorem setHostUp_frame (a0 : State) (a1 : Bool) : Moves [.od, .draws, .replies, .store, .log, .can, .pdo, .link, .mem, .sched, .tabor, .sense, .update, .test] a0 (setHostUp a0 a1) := by
  unfold setHostUp
  with_reducible apply Moves.app (linkReview_frame ..); decide
  refine Moves.update ?_
  apply Moves.refl

theorem descend_frame (a0 : State) (a1 : Nat) (a2 : Nat) : Moves [.od, .aocb, .log, .link, .sched, .sense] a0 (descend a0 a1 a2) := by
  unfold descend
  with_reducible apply Moves.foldl; intro _ _ _
  with_reducible apply Moves.app (setPState_frame ..); decide
  assumption
  apply Moves.refl

theorem arrive_frame (a0 : State) (a1 : Run) : Moves [.od, .draws, .replies, .aocb, .store, .log, .can, .pdo, .link, .mem, .sched, .tabor, .sense, .seq, .update, .test] a0 (arrive a0 a1) := by
  unfold arrive
  extract_lets +onlyGivenNames x; clear_value x
  focus
    extract_lets +onlyGivenNames x; refine Moves.use x ?_ (fun hx => ?_); unfold x; clear x; rotate_left; clear_value x; rotate_right
  with_reducible apply Moves.app (State.setRun_frame ..); decide
  apply Moves.refl
  split
  with_reducible apply Moves.ite
  assumption
  extract_lets +onlyGivenNames x; clear_value x
  focus
    extract_lets +onlyGivenNames x; refine Moves.use x ?_ (fun hx => ?_); unfold x; clear x; rotate_left; clear_value x; rotate_right
  with_reducible apply Moves.app (climb_frame ..); decide
  assumption
  refine Moves.update ?_
  assumption
  extract_lets +onlyGivenNames x; clear_value x
  focus
    extract_lets +onlyGivenNames x; refine Moves.use x ?_ (fun hx => ?_); unfold x; clear x; rotate_left; clear_value x; rotate_right
  split
  with_reducible apply Moves.ite
  with_reducible apply Moves.app (setHostUp_frame ..); decide
  assumption
  assumption
  assumption
  with_reducible apply Moves.ite
  assumption
  with_reducible apply Moves.app (descend_frame ..); decide
  assumption
  assumption

theorem beginRun_frame (a0 : State) (a1 : OrderTable) (a2 : Nat) (a3 : Nat) (a4 : Bool) : Moves [.od, .draws, .replies, .aocb, .store, .log, .can, .pdo, .link, .mem, .sched, .tabor, .sense, .seq, .update, .test] a0 (beginRun a0 a1 a2 a3 a4) := by
  unfold beginRun
  extract_lets +onlyGivenNames x; clear_value x
  with_reducible apply Moves.app (arrive_frame ..); decide
  apply Moves.refl

theorem startResetOrder_frame (a0 : State) : Moves [.od, .draws, .replies, .aocb, .store, .log, .can, .pdo, .link, .mem, .sched, .tabor, .sense, .reg, .seq, .update, .test] a0 (startResetOrder a0) := by
  unfold startResetOrder
  focus
    extract_lets +onlyGivenNames x; refine Moves.use x ?_ (fun hx => ?_); unfold x; clear x; rotate_left; clear_value x; rotate_right
  with_reducible apply Moves.app (releaseRails_frame ..); decide
  apply Moves.refl
  extract_lets +onlyGivenNames x; clear_value x
  focus
    extract_lets +onlyGivenNames x; refine Moves.use x ?_ (fun hx => ?_); unfold x; clear x; rotate_left; clear_value x; rotate_right
  refine Moves.update ?_
  assumption
  with_reducible apply Moves.app (beginRun_frame ..); decide
  assumption

theorem updateRestart_frame (a0 : State) : Moves [.od, .draws, .replies, .aocb, .store, .log, .can, .pdo, .link, .mem, .sched, .tabor, .sense, .reg, .seq, .update, .test] a0 (updateRestart a0) := by
  unfold updateRestart
  extract_lets +onlyGivenNames x; clear_value x
  focus
    extract_lets +onlyGivenNames x; refine Moves.use x ?_ (fun hx => ?_); unfold x; clear x; rotate_left; clear_value x; rotate_right
  refine Moves.update ?_
  apply Moves.refl
  with_reducible apply Moves.app (startResetOrder_frame ..); decide
  assumption

theorem programClear_frame (a0 : State) (a1 : Nat) (a2 : Nat) (a3 : Asker) : Moves [.od, .log, .link, .sched, .update] a0 (programClear a0 a1 a2 a3).1 := by
  unfold programClear
  with_reducible apply Moves.ite_fst
  dsimp only
  apply Moves.refl
  with_reducible apply Moves.ite_fst
  dsimp only
  apply Moves.refl
  with_reducible apply Moves.ite_fst
  dsimp only
  apply Moves.refl
  with_reducible apply Moves.ite_fst
  dsimp only
  apply Moves.refl
  focus
    extract_lets +onlyGivenNames x; refine Moves.use x ?_ (fun hx => ?_); unfold x; clear x; rotate_left; clear_value x; rotate_right
  with_reducible apply Moves.ite
  with_reducible apply Moves.app (programStop_frame ..); decide
  apply Moves.refl
  apply Moves.refl
  focus
    extract_lets +onlyGivenNames x; refine Moves.use x ?_ (fun hx => ?_); unfold x; clear x; rotate_left; clear_value x; rotate_right
  with_reducible apply Moves.app (State.setTargetBank_frame ..); decide
  assumption
  extract_lets +onlyGivenNames x; clear_value x
  focus
    extract_lets +onlyGivenNames x; refine Moves.use x ?_ (fun hx => ?_); unfold x; clear x; rotate_left; clear_value x; rotate_right
  refine Moves.update ?_
  assumption
  dsimp only
  with_reducible apply Moves.app (refreshVersions_frame ..); decide
  with_reducible apply Moves.app (setTarget_frame ..); decide
  assumption

theorem programVerify_frame (a0 : State) (a1 : Nat) : Moves [.od, .log, .link, .sched, .update] a0 (programVerify a0 a1).1 := by
  unfold programVerify
  split
  with_reducible apply Moves.ite_fst
  dsimp only
  apply Moves.refl
  dsimp only
  with_reducible apply Moves.app (setStage_frame ..); decide
  apply Moves.refl
  with_reducible apply Moves.ite_fst
  dsimp only
  apply Moves.refl
  dsimp only
  with_reducible apply Moves.app (setStage_frame ..); decide
  apply Moves.refl
  with_reducible apply Moves.ite_fst
  dsimp only
  apply Moves.refl
  dsimp only
  with_reducible apply Moves.app (setStage_frame ..); decide
  apply Moves.refl
  dsimp only
  apply Moves.refl

theorem programActivate_frame (a0 : State) (a1 : Nat) (a2 : Bool) : Moves [.od, .log, .link, .sched, .update] a0 (programActivate a0 a1 a2).1 := by
  unfold programActivate
  with_reducible apply Moves.ite_fst
  dsimp only
  apply Moves.refl
  with_reducible apply Moves.ite_fst
  dsimp only
  apply Moves.refl
  with_reducible apply Moves.ite_fst
  dsimp only
  with_reducible apply Moves.app (setStage_frame ..); decide
  apply Moves.refl
  extract_lets +onlyGivenNames x; clear_value x
  extract_lets +onlyGivenNames x; clear_value x
  focus
    extract_lets +onlyGivenNames x; refine Moves.use x ?_ (fun hx => ?_); unfold x; clear x; rotate_left; clear_value x; rotate_right
  with_reducible apply Moves.ite
  with_reducible apply Moves.app (writeRecord_frame ..); decide
  apply Moves.refl
  with_reducible apply Moves.app (writeRecord_frame ..); decide
  apply Moves.refl
  dsimp only
  with_reducible apply Moves.app (setStage_frame ..); decide
  assumption

theorem importEnds_frame (a0 : State) : Moves [.store] a0 (importEnds a0) := by
  unfold importEnds
  refine Moves.update ?_
  apply Moves.refl

theorem beginImport_frame (a0 : State) (a1 : Bool) (a2 : Asker) : Moves [.od, .store] a0 (beginImport a0 a1 a2).1 := by
  unfold beginImport
  with_reducible apply Moves.ite_fst
  dsimp only
  apply Moves.refl
  with_reducible apply Moves.ite_fst
  dsimp only
  apply Moves.refl
  extract_lets +onlyGivenNames x; clear_value x
  focus
    extract_lets +onlyGivenNames x; refine Moves.use x ?_ (fun hx => ?_); unfold x; clear x; rotate_left; clear_value x; rotate_right
  with_reducible apply Moves.app (State.set_frame ..); decide
  with_reducible apply Moves.app (State.set_frame ..); decide
  apply Moves.refl
  with_reducible apply Moves.ite_fst
  dsimp only
  with_reducible apply Moves.app (importEnds_frame ..); decide
  assumption
  extract_lets +onlyGivenNames x; clear_value x
  focus
    extract_lets +onlyGivenNames x; refine Moves.use x ?_ (fun hx => ?_); unfold x; clear x; rotate_left; clear_value x; rotate_right
  with_reducible apply Moves.app (State.startingWith_frame ..); decide
  assumption
  split
  dsimp only
  with_reducible apply Moves.app (importEnds_frame ..); decide
  with_reducible apply Moves.app (State.set_frame ..); decide
  assumption
  extract_lets +onlyGivenNames x; clear_value x
  focus
    extract_lets +onlyGivenNames x; refine Moves.use x ?_ (fun hx => ?_); unfold x; clear x; rotate_left; clear_value x; rotate_right
  with_reducible apply Moves.app (State.set_frame ..); decide
  assumption
  extract_lets +onlyGivenNames x; clear_value x
  split
  dsimp only
  with_reducible apply Moves.app (importEnds_frame ..); decide
  with_reducible apply Moves.of_pair; assumption
  with_reducible apply Moves.app (beginStore_frame ..); decide
  assumption
  with_reducible apply Moves.app (beginStore_frame ..); decide
  assumption

theorem prearmConfirm_frame (a0 : State) : Moves [.od, .touch] a0 (prearmConfirm a0) := by
  unfold prearmConfirm
  with_reducible apply Moves.ite
  extract_lets +onlyGivenNames x; clear_value x
  with_reducible apply Moves.app (State.count_frame ..); decide
  with_reducible apply Moves.app (State.set_frame ..); decide
  with_reducible apply Moves.app (State.set_frame ..); decide
  refine Moves.update ?_
  apply Moves.refl
  apply Moves.refl

theorem leaveListen_frame (a0 : State) : Moves [.od, .log, .link, .sched, .touch, .reg] a0 (leaveListen a0) := by
  unfold leaveListen
  with_reducible apply Moves.ite
  with_reducible apply Moves.ite
  with_reducible apply Moves.app (prearmConfirm_frame ..); decide
  apply Moves.refl
  with_reducible apply Moves.app (prearmCancel_frame ..); decide
  apply Moves.refl
  apply Moves.refl

theorem startTransition_frame (a0 : State) : Moves [.od, .draws, .replies, .aocb, .store, .log, .can, .pdo, .link, .mem, .sched, .tabor, .sense, .touch, .reg, .seq, .update, .test] a0 (startTransition a0) := by
  unfold startTransition
  split
  apply Moves.refl
  focus
    extract_lets +onlyGivenNames x; refine Moves.use x ?_ (fun hx => ?_); unfold x; clear x; rotate_left; clear_value x; rotate_right
  with_reducible apply Moves.app (State.setAfter_frame ..); decide
  with_reducible apply Moves.app (leaveListen_frame ..); decide
  apply Moves.refl
  extract_lets +onlyGivenNames x; clear_value x
  focus
    extract_lets +onlyGivenNames x; refine Moves.use x ?_ (fun hx => ?_); unfold x; clear x; rotate_left; clear_value x; rotate_right
  refine Moves.update ?_
  assumption
  extract_lets +onlyGivenNames x; clear_value x
  focus
    extract_lets +onlyGivenNames x; refine Moves.use x ?_ (fun hx => ?_); unfold x; clear x; rotate_left; clear_value x; rotate_right
  refine Moves.update ?_
  assumption
  extract_lets +onlyGivenNames x; clear_value x
  with_reducible apply Moves.ite
  with_reducible apply Moves.app (beginRun_frame ..); decide
  assumption
  with_reducible apply Moves.ite
  with_reducible apply Moves.app (beginRun_frame ..); decide
  assumption
  assumption

theorem boundary_frame (a0 : State) (a1 : Run) (a2 : Nat) : Moves [.od, .draws, .replies, .aocb, .store, .log, .can, .pdo, .link, .mem, .sched, .tabor, .sense, .seq, .update, .test] a0 (boundary a0 a1 a2) := by
  unfold boundary
  with_reducible apply Moves.ite
  with_reducible apply Moves.app (arrive_frame ..); decide
  apply Moves.refl
  with_reducible apply Moves.ite
  with_reducible apply Moves.app (arrive_frame ..); decide
  apply Moves.refl
  extract_lets +onlyGivenNames x; clear_value x
  focus
    extract_lets +onlyGivenNames x; refine Moves.use x ?_ (fun hx => ?_); unfold x; clear x; rotate_left; clear_value x; rotate_right
  with_reducible apply Moves.app (State.setAfter_frame ..); decide
  apply Moves.refl
  split
  with_reducible apply Moves.ite
  with_reducible apply Moves.app (beginRun_frame ..); decide
  assumption
  extract_lets +onlyGivenNames x; clear_value x
  with_reducible apply Moves.app (arrive_frame ..); decide
  assumption
  with_reducible apply Moves.ite
  with_reducible apply Moves.app (beginRun_frame ..); decide
  assumption
  extract_lets +onlyGivenNames x; clear_value x
  with_reducible apply Moves.app (arrive_frame ..); decide
  assumption

theorem stepDone_frame (a0 : State) (a1 : Run) : Moves [.od, .draws, .replies, .aocb, .store, .log, .can, .pdo, .link, .mem, .sched, .tabor, .sense, .seq, .update, .test] a0 (stepDone a0 a1) := by
  unfold stepDone
  with_reducible apply Moves.app (boundary_frame ..); decide
  apply Moves.refl

theorem powerRequest_frame (a0 : State) (a1 : PState) (a2 : Bool) : Moves [.od, .draws, .replies, .aocb, .store, .log, .can, .pdo, .link, .mem, .sched, .tabor, .sense, .touch, .reg, .seq, .update, .test] a0 (powerRequest a0 a1 a2) := by
  unfold powerRequest
  split
  with_reducible apply Moves.app (State.set_frame ..); decide
  apply Moves.refl
  focus
    extract_lets +onlyGivenNames x; refine Moves.use x ?_ (fun hx => ?_); unfold x; clear x; rotate_left; clear_value x; rotate_right
  with_reducible apply Moves.app (State.set_frame ..); decide
  apply Moves.refl
  extract_lets +onlyGivenNames x; clear_value x
  focus
    extract_lets +onlyGivenNames x; refine Moves.use x ?_ (fun hx => ?_); unfold x; clear x; rotate_left; clear_value x; rotate_right
  with_reducible apply Moves.ite
  with_reducible apply Moves.app (State.count_frame ..); decide
  assumption
  assumption
  extract_lets +onlyGivenNames x
  extract_lets +onlyGivenNames x; clear_value x
  focus
    extract_lets +onlyGivenNames x; refine Moves.use x ?_ (fun hx => ?_); unfold x; clear x; rotate_left; clear_value x; rotate_right
  refine Moves.update ?_
  assumption
  split
  with_reducible apply Moves.ite
  refine Moves.update ?_
  assumption
  with_reducible apply Moves.app (startTransition_frame ..); decide
  assumption
  extract_lets +onlyGivenNames x; clear_value x
  focus
    extract_lets +onlyGivenNames x; refine Moves.use x ?_ (fun hx => ?_); unfold x; clear x; rotate_left; clear_value x; rotate_right
  refine Moves.update ?_
  assumption
  extract_lets +onlyGivenNames x; clear_value x
  with_reducible apply Moves.ite
  with_reducible apply Moves.app (stepDone_frame ..); decide
  assumption
  with_reducible apply Moves.ite
  with_reducible apply Moves.app (boundary_frame ..); decide
  assumption
  with_reducible apply Moves.app (State.setRun_frame ..); decide
  assumption

theorem writePowerRequest_frame (a0 : State) (a1 : Nat) : Moves [.od, .draws, .replies, .aocb, .store, .log, .can, .pdo, .link, .mem, .sched, .tabor, .sense, .touch, .reg, .seq, .update, .test] a0 (writePowerRequest a0 a1).1 := by
  unfold writePowerRequest
  split
  dsimp only
  apply Moves.refl
  dsimp only
  with_reducible apply Moves.app (powerRequest_frame ..); decide
  apply Moves.refl

theorem beginCycle_frame (a0 : State) : Moves [.od, .log, .link, .sched, .pack] a0 (beginCycle a0) := by
  unfold beginCycle
  extract_lets +onlyGivenNames x; clear_value x
  extract_lets +onlyGivenNames x; clear_value x
  focus
    extract_lets +onlyGivenNames x; refine Moves.use x ?_ (fun hx => ?_); unfold x; clear x; rotate_left; clear_value x; rotate_right
  refine Moves.update ?_
  apply Moves.refl
  focus
    extract_lets +onlyGivenNames x; refine Moves.use x ?_ (fun hx => ?_); unfold x; clear x; rotate_left; clear_value x; rotate_right
  with_reducible apply Moves.app (State.count_frame ..); decide
  with_reducible apply Moves.app (State.set_frame ..); decide
  with_reducible apply Moves.app (State.set_frame ..); decide
  assumption
  with_reducible apply Moves.app (setChargePhase_frame ..); decide
  assumption

theorem tryCycle_frame (a0 : State) : Moves [.od, .log, .link, .sched, .pack] a0 (tryCycle a0) := by
  unfold tryCycle
  with_reducible apply Moves.ite
  with_reducible apply Moves.app (beginCycle_frame ..); decide
  apply Moves.refl
  apply Moves.refl

theorem writeCharger_frame (a0 : State) (a1 : Nat) (a2 : Nat) : Moves [.od, .log, .can, .pdo, .link, .sched, .pack] a0 (writeCharger a0 a1 a2).1 := by
  unfold writeCharger
  extract_lets +onlyGivenNames x; clear_value x
  extract_lets +onlyGivenNames x; clear_value x
  with_reducible apply Moves.ite_fst
  dsimp only
  apply Moves.refl
  focus
    extract_lets +onlyGivenNames x; refine Moves.use x ?_ (fun hx => ?_); unfold x; clear x; rotate_left; clear_value x; rotate_right
  with_reducible apply Moves.app (State.set_frame ..); decide
  apply Moves.refl
  with_reducible apply Moves.ite_fst
  focus
    extract_lets +onlyGivenNames x; refine Moves.use x ?_ (fun hx => ?_); unfold x; clear x; rotate_left; clear_value x; rotate_right
  with_reducible apply Moves.ite
  assumption
  with_reducible apply Moves.app (setChargePhase_frame ..); decide
  assumption
  focus
    extract_lets +onlyGivenNames x; refine Moves.use x ?_ (fun hx => ?_); unfold x; clear x; rotate_left; clear_value x; rotate_right
  with_reducible apply Moves.app (chargerRefresh_frame ..); decide
  with_reducible apply Moves.app (checkIdentity_frame ..); decide
  assumption
  dsimp only
  with_reducible apply Moves.ite
  assumption
  with_reducible apply Moves.app (tryCycle_frame ..); decide
  assumption
  dsimp only
  with_reducible apply Moves.app (chargerReview_frame ..); decide
  assumption

theorem clearCharger_frame (a0 : State) : Moves [.od, .log, .link, .sched, .pack] a0 (clearCharger a0) := by
  unfold clearCharger
  with_reducible apply Moves.ite
  apply Moves.refl
  with_reducible apply Moves.ite
  apply Moves.refl
  focus
    extract_lets +onlyGivenNames x; refine Moves.use x ?_ (fun hx => ?_); unfold x; clear x; rotate_left; clear_value x; rotate_right
  with_reducible apply Moves.app (State.setFlag_frame ..); decide
  with_reducible apply Moves.app (State.setFlag_frame ..); decide
  with_reducible apply Moves.app (State.setFlag_frame ..); decide
  apply Moves.refl
  with_reducible apply Moves.app (tryCycle_frame ..); decide
  with_reducible apply Moves.app (setChargePhase_frame ..); decide
  assumption

theorem exchangeTrigger_frame (a0 : State) : Moves [.pack] a0 (exchangeTrigger a0) := by
  unfold exchangeTrigger
  refine Moves.update ?_
  apply Moves.refl

theorem setTsWarning_frame (a0 : State) (a1 : Nat) (a2 : Bool) : Moves [.od] a0 (setTsWarning a0 a1 a2) := by
  unfold setTsWarning
  with_reducible apply Moves.app (State.setFlag_frame ..); decide
  with_reducible apply Moves.app (State.setFlag_frame ..); decide
  apply Moves.refl

theorem setTsFault_frame (a0 : State) (a1 : Nat) (a2 : Bool) : Moves [.od] a0 (setTsFault a0 a1 a2) := by
  unfold setTsFault
  with_reducible apply Moves.app (State.setFlag_frame ..); decide
  with_reducible apply Moves.app (State.setFlag_frame ..); decide
  apply Moves.refl

theorem tsModeChanged_frame (a0 : State) (a1 : Nat) : Moves [.od, .can, .pdo, .link, .thermal] a0 (tsModeChanged a0 a1) := by
  unfold tsModeChanged
  focus
    extract_lets +onlyGivenNames x; refine Moves.use x ?_ (fun hx => ?_); unfold x; clear x; rotate_left; clear_value x; rotate_right
  with_reducible apply Moves.app (setTsWarning_frame ..); decide
  with_reducible apply Moves.app (setTsFault_frame ..); decide
  with_reducible apply Moves.app (State.setFlag_frame ..); decide
  apply Moves.refl
  with_reducible apply Moves.app (refreshErrors_frame ..); decide
  refine Moves.update ?_
  assumption

theorem refreshFan_frame (a0 : State) (a1 : Nat) : Moves [.od] a0 (refreshFan a0 a1) := by
  unfold refreshFan
  extract_lets +onlyGivenNames x; clear_value x
  extract_lets +onlyGivenNames x; clear_value x
  extract_lets +onlyGivenNames x; clear_value x
  extract_lets +onlyGivenNames x; clear_value x
  extract_lets +onlyGivenNames x; clear_value x
  extract_lets +onlyGivenNames x; clear_value x
  with_reducible apply Moves.app (State.set_frame ..); decide
  apply Moves.refl

theorem clearStall_frame (a0 : State) (a1 : Nat) : Moves [.od, .thermal] a0 (clearStall a0 a1) := by
  unfold clearStall
  with_reducible apply Moves.ite
  with_reducible apply Moves.app (State.setFlag_frame ..); decide
  with_reducible apply Moves.app (State.setFan_frame ..); decide
  apply Moves.refl
  apply Moves.refl

theorem clearFull_frame (a0 : State) : Moves [.od, .log, .link, .sched] a0 (clearFull a0) := by
  unfold clearFull
  with_reducible apply Moves.ite
  apply Moves.refl
  extract_lets +onlyGivenNames x; clear_value x
  focus
    extract_lets +onlyGivenNames x; refine Moves.use x ?_ (fun hx => ?_); unfold x; clear x; rotate_left; clear_value x; rotate_right
  with_reducible apply Moves.app (State.setFlag_frame ..); decide
  apply Moves.refl
  extract_lets +onlyGivenNames x; clear_value x
  focus
    extract_lets +onlyGivenNames x; refine Moves.use x ?_ (fun hx => ?_); unfold x; clear x; rotate_left; clear_value x; rotate_right
  with_reducible apply Moves.app (noteDropped_frame ..); decide
  refine Moves.update ?_
  assumption
  with_reducible apply Moves.ite
  assumption
  with_reducible apply Moves.app (queueLog_frame ..); decide
  assumption

theorem logPolicyChanged_frame (a0 : State) : Moves [.od, .log, .link, .sched] a0 (logPolicyChanged a0) := by
  unfold logPolicyChanged
  with_reducible apply Moves.ite
  with_reducible apply Moves.app (clearFull_frame ..); decide
  apply Moves.refl
  apply Moves.refl

theorem logClear_frame (a0 : State) : Moves [.od, .log, .link, .sched] a0 (logClear a0) := by
  unfold logClear
  extract_lets +onlyGivenNames x; clear_value x
  focus
    extract_lets +onlyGivenNames x; refine Moves.use x ?_ (fun hx => ?_); unfold x; clear x; rotate_left; clear_value x; rotate_right
  with_reducible apply Moves.app (clearFull_frame ..); decide
  apply Moves.refl
  focus
    extract_lets +onlyGivenNames x; refine Moves.use x ?_ (fun hx => ?_); unfold x; clear x; rotate_left; clear_value x; rotate_right
  with_reducible apply Moves.app (queueLog_frame ..); decide
  assumption
  extract_lets +onlyGivenNames x; clear_value x
  refine Moves.update ?_
  assumption

theorem writeCursor_frame (a0 : State) (a1 : Port) (a2 : Nat) : Moves [.log] a0 (writeCursor a0 a1 a2).1 := by
  unfold writeCursor
  with_reducible apply Moves.ite_fst
  dsimp only
  refine Moves.update ?_
  apply Moves.refl
  with_reducible apply Moves.ite_fst
  dsimp only
  refine Moves.update ?_
  apply Moves.refl
  dsimp only
  apply Moves.refl

theorem confirmImage_frame (a0 : State) : Moves [.od, .log, .link, .sched, .update] a0 (confirmImage a0) := by
  unfold confirmImage
  focus
    extract_lets +onlyGivenNames x; refine Moves.use x ?_ (fun hx => ?_); unfold x; clear x; rotate_left; clear_value x; rotate_right
  with_reducible apply Moves.app (modifyRecord_frame ..); decide
  apply Moves.refl
  extract_lets +onlyGivenNames x; clear_value x
  focus
    extract_lets +onlyGivenNames x; refine Moves.use x ?_ (fun hx => ?_); unfold x; clear x; rotate_left; clear_value x; rotate_right
  refine Moves.update ?_
  assumption
  focus
    extract_lets +onlyGivenNames x; refine Moves.use x ?_ (fun hx => ?_); unfold x; clear x; rotate_left; clear_value x; rotate_right
  with_reducible apply Moves.app (State.count_frame ..); decide
  with_reducible apply Moves.app (State.set_frame ..); decide
  assumption
  with_reducible apply Moves.app (logStateChange_frame ..); decide
  with_reducible apply Moves.app (setStage_frame ..); decide
  assumption

theorem actChargeCycleResume_frame (a0 : State) : Moves [.od, .log, .link, .sched, .pack] a0 (actChargeCycleResume a0) := by
  unfold actChargeCycleResume
  with_reducible apply Moves.ite
  with_reducible apply Moves.app (chargerReview_frame ..); decide
  refine Moves.update ?_
  apply Moves.refl
  apply Moves.refl

theorem actChargeCycleStart_frame (a0 : State) : Moves [.od, .log, .link, .sched, .pack] a0 (actChargeCycleStart a0) := by
  unfold actChargeCycleStart
  with_reducible apply Moves.ite
  with_reducible apply Moves.app (chargerReview_frame ..); decide
  with_reducible apply Moves.app (tryCycle_frame ..); decide
  apply Moves.refl
  apply Moves.refl

theorem chargerFault_frame (a0 : State) (a1 : Nat) : Moves [.od, .log, .can, .pdo, .link, .sched] a0 (chargerFault a0 a1) := by
  unfold chargerFault
  focus
    extract_lets +onlyGivenNames x; refine Moves.use x ?_ (fun hx => ?_); unfold x; clear x; rotate_left; clear_value x; rotate_right
  with_reducible apply Moves.app (State.setFlag_frame ..); decide
  apply Moves.refl
  focus
    extract_lets +onlyGivenNames x; refine Moves.use x ?_ (fun hx => ?_); unfold x; clear x; rotate_left; clear_value x; rotate_right
  with_reducible apply Moves.app (State.set_frame ..); decide
  with_reducible apply Moves.app (State.count_frame ..); decide
  with_reducible apply Moves.app (setChargePhase_frame ..); decide
  assumption
  with_reducible apply Moves.app (emcyLog_frame ..); decide
  assumption

theorem actChargeOvervoltage_frame (a0 : Nat) (a1 : State) : Moves [.od, .log, .can, .pdo, .link, .sched] a1 (actChargeOvervoltage a0 a1) := by
  unfold actChargeOvervoltage
  with_reducible apply Moves.ite
  with_reducible apply Moves.app (chargerFault_frame ..); decide
  apply Moves.refl
  apply Moves.refl

theorem actChargeStageFault_frame (a0 : Bool) (a1 : Nat) (a2 : State) : Moves [.od, .log, .can, .pdo, .link, .sched] a2 (actChargeStageFault a0 a1 a2) := by
  unfold actChargeStageFault
  with_reducible apply Moves.ite
  with_reducible apply Moves.app (chargerFault_frame ..); decide
  apply Moves.refl
  apply Moves.refl

theorem actChargeTimerExpiry_frame (a0 : Bool) (a1 : State) : Moves [.od, .log, .can, .pdo, .link, .sched] a1 (actChargeTimerExpiry a0 a1) := by
  unfold actChargeTimerExpiry
  extract_lets +onlyGivenNames x; clear_value x
  with_reducible apply Moves.ite
  with_reducible apply Moves.ite
  with_reducible apply Moves.app (chargerFault_frame ..); decide
  with_reducible apply Moves.app (State.set_frame ..); decide
  apply Moves.refl
  apply Moves.refl
  with_reducible apply Moves.ite
  with_reducible apply Moves.app (chargerFault_frame ..); decide
  with_reducible apply Moves.app (State.set_frame ..); decide
  apply Moves.refl
  apply Moves.refl

theorem actChargerConfigurationWrite_frame (a0 : Port) (a1 : Nat) (a2 : Nat) (a3 : State) : Moves [.od, .replies, .log, .can, .pdo, .link, .sched, .pack] a3 (actChargerConfigurationWrite a0 a1 a2 a3) := by
  unfold actChargerConfigurationWrite
  (with_reducible apply portCommand_frame) <;> first | decide | skip
  apply Moves.refl
  with_reducible intro _
  with_reducible apply Moves.ite_fst
  dsimp only
  apply Moves.refl
  with_reducible apply Moves.app (writeCharger_frame ..); decide
  apply Moves.refl

theorem actClearAlarms_frame (a0 : Port) (a1 : Fin 4) (a2 : State) : Moves [.od, .replies, .thermal] a2 (actClearAlarms a0 a1 a2) := by
  unfold actClearAlarms
  (with_reducible apply portCommand_frame) <;> first | decide | skip
  apply Moves.refl
  with_reducible intro _
  dsimp only
  with_reducible apply Moves.app (refreshFan_frame ..); decide
  with_reducible apply Moves.app (clearStall_frame ..); decide
  with_reducible apply Moves.app (State.setFlag_frame ..); decide
  apply Moves.refl

theorem actClearChargerFault_frame (a0 : Port) (a1 : State) : Moves [.od, .replies, .log, .link, .sched, .pack] a1 (actClearChargerFault a0 a1) := by
  unfold actClearChargerFault
  (with_reducible apply portCommand_frame) <;> first | decide | skip
  apply Moves.refl
  with_reducible intro _
  dsimp only
  with_reducible apply Moves.app (clearCharger_frame ..); decide
  apply Moves.refl

theorem answerAsker_frame (a0 : State) (a1 : Asker) (a2 : Status) : Moves [.od, .draws, .replies, .log, .can, .pdo, .link, .mem, .sched, .tabor, .test] a0 (answerAsker a0 a1 a2) := by
  unfold answerAsker
  split
  apply Moves.refl
  with_reducible apply Moves.app (finishRequest_frame ..); decide
  apply Moves.refl
  with_reducible apply Moves.app (lssSend_frame ..); decide
  apply Moves.refl

theorem actClearLatch_frame (a0 : Port) (a1 : Fin 16) (a2 : Nat) (a3 : Nat) (a4 : State) : Moves [.od, .replies, .can, .pdo, .link, .reg] a4 (actClearLatch a0 a1 a2 a3 a4) := by
  unfold actClearLatch
  (with_reducible apply portCommand_frame) <;> first | decide | skip
  apply Moves.refl
  with_reducible intro _
  with_reducible apply Moves.app (clearLatch_frame ..); decide
  apply Moves.refl

theorem recordCause_frame (a0 : State) (a1 : Source) (a2 : Nat) (a3 : Bool) : Moves [.aocb] a0 (recordCause a0 a1 a2 a3) := by
  unfold recordCause
  extract_lets +onlyGivenNames x; clear_value x
  extract_lets +onlyGivenNames x; clear_value x
  extract_lets +onlyGivenNames x; clear_value x
  extract_lets +onlyGivenNames x; clear_value x
  refine Moves.update ?_
  apply Moves.refl

theorem packPending_frame (a0 : State) : Moves [.od] a0 (packPending a0) := by
  unfold packPending
  with_reducible apply Moves.app (State.set_frame ..); decide
  with_reducible apply Moves.app (State.set_frame ..); decide
  apply Moves.refl

theorem hardReset_frame (a0 : State) (a1 : Source) (a2 : Nat) (a3 : Bool) : Moves [.od, .live, .draws, .replies, .power, .clocks, .aocb, .beat, .store, .log, .can, .pdo, .link, .mem, .sched, .tabor, .sense, .touch, .reg, .seq, .pack, .thermal, .update, .test] a0 (hardReset a0 a1 a2 a3) := by
  unfold hardReset
  with_reducible apply Moves.ite
  apply Moves.refl
  with_reducible apply Moves.ite
  with_reducible apply Moves.app (recordCause_frame ..); decide
  apply Moves.refl
  focus
    extract_lets +onlyGivenNames x; refine Moves.use x ?_ (fun hx => ?_); unfold x; clear x; rotate_left; clear_value x; rotate_right
  with_reducible apply Moves.app (clearLost_frame ..); decide
  with_reducible apply Moves.app (recordCause_frame ..); decide
  with_reducible apply Moves.app (linkIdle_frame ..); decide
  apply Moves.refl
  focus
    extract_lets +onlyGivenNames x; refine Moves.use x ?_ (fun hx => ?_); unfold x; clear x; rotate_left; clear_value x; rotate_right
  with_reducible apply Moves.app (packPending_frame ..); decide
  with_reducible apply Moves.app (resetDomains_frame ..); decide
  with_reducible apply Moves.app (abandonStore_frame ..); decide
  assumption
  extract_lets +onlyGivenNames x; clear_value x
  focus
    extract_lets +onlyGivenNames x; refine Moves.use x ?_ (fun hx => ?_); unfold x; clear x; rotate_left; clear_value x; rotate_right
  with_reducible apply Moves.app (disarm_frame ..); decide
  refine Moves.update ?_
  assumption
  with_reducible apply Moves.app (startResetOrder_frame ..); decide
  assumption

theorem failStep_frame (a0 : State) (a1 : Run) : Moves [.od, .draws, .replies, .aocb, .store, .log, .can, .pdo, .link, .mem, .sched, .tabor, .sense, .seq, .update, .test] a0 (failStep a0 a1) := by
  unfold failStep
  focus
    extract_lets +onlyGivenNames x; refine Moves.use x ?_ (fun hx => ?_); unfold x; clear x; rotate_left; clear_value x; rotate_right
  with_reducible apply Moves.app (emcyLog_frame ..); decide
  apply Moves.refl
  focus
    extract_lets +onlyGivenNames x; refine Moves.use x ?_ (fun hx => ?_); unfold x; clear x; rotate_left; clear_value x; rotate_right
  with_reducible apply Moves.app (State.set_frame ..); decide
  with_reducible apply Moves.app (State.count_frame ..); decide
  assumption
  extract_lets +onlyGivenNames x; clear_value x
  focus
    extract_lets +onlyGivenNames x; refine Moves.use x ?_ (fun hx => ?_); unfold x; clear x; rotate_left; clear_value x; rotate_right
  refine Moves.update ?_
  assumption
  with_reducible apply Moves.app (beginRun_frame ..); decide
  assumption

theorem afterFault_frame (a0 : State) : Moves [.od, .draws, .replies, .aocb, .store, .log, .can, .pdo, .link, .mem, .sched, .tabor, .sense, .seq, .update, .test] a0 (afterFault a0) := by
  unfold afterFault
  split
  apply Moves.refl
  split
  with_reducible apply Moves.ite
  with_reducible apply Moves.ite
  with_reducible apply Moves.app (failStep_frame ..); decide
  apply Moves.refl
  with_reducible apply Moves.app (stepDone_frame ..); decide
  apply Moves.refl
  apply Moves.refl
  apply Moves.refl

theorem actDieShutdown_frame (a0 : Fin 4) (a1 : Int) (a2 : State) : Moves [.od, .draws, .replies, .aocb, .store, .log, .can, .pdo, .link, .mem, .sched, .tabor, .sense, .touch, .reg, .seq, .pack, .update, .test] a2 (actDieShutdown a0 a1 a2) := by
  unfold actDieShutdown
  with_reducible apply Moves.app (afterFault_frame ..); decide
  with_reducible apply Moves.app (dieShutdown_frame ..); decide
  apply Moves.refl

theorem tsReading_frame (a0 : State) (a1 : Nat) (a2 : Option Int) : Moves [.od, .log, .can, .pdo, .link, .sched] a0 (tsReading a0 a1 a2) := by
  unfold tsReading
  extract_lets +onlyGivenNames x; clear_value x
  focus
    extract_lets +onlyGivenNames x; refine Moves.use x ?_ (fun hx => ?_); unfold x; clear x; rotate_left; clear_value x; rotate_right
  with_reducible apply Moves.app (State.setFlag_frame ..); decide
  with_reducible apply Moves.app (State.setS_frame ..); decide
  apply Moves.refl
  split
  with_reducible apply Moves.ite
  assumption
  with_reducible apply Moves.app (refreshErrors_frame ..); decide
  with_reducible apply Moves.app (emcyLog_frame ..); decide
  with_reducible apply Moves.app (setTsFault_frame ..); decide
  assumption
  with_reducible apply Moves.ite
  with_reducible apply Moves.app (refreshErrors_frame ..); decide
  with_reducible apply Moves.app (setTsFault_frame ..); decide
  assumption
  assumption

theorem actDiodeBiasToggle_frame (a0 : State) : Moves [.od, .log, .can, .pdo, .link, .sched, .thermal] a0 (actDiodeBiasToggle a0) := by
  unfold actDiodeBiasToggle
  extract_lets +onlyGivenNames x; clear_value x
  with_reducible apply Moves.ite
  refine Moves.update ?_
  apply Moves.refl
  focus
    extract_lets +onlyGivenNames x; refine Moves.use x ?_ (fun hx => ?_); unfold x; clear x; rotate_left; clear_value x; rotate_right
  with_reducible apply Moves.foldl; intro _ _ _
  split
  with_reducible apply Moves.app (tsReading_frame ..); decide
  assumption
  assumption
  apply Moves.refl
  refine Moves.update ?_
  assumption

theorem startEmergency_frame (a0 : State) : Moves [.od, .draws, .replies, .aocb, .store, .log, .can, .pdo, .link, .mem, .sched, .tabor, .sense, .touch, .reg, .seq, .update, .test] a0 (startEmergency a0) := by
  unfold startEmergency
  focus
    extract_lets +onlyGivenNames x; refine Moves.use x ?_ (fun hx => ?_); unfold x; clear x; rotate_left; clear_value x; rotate_right
  with_reducible apply Moves.app (prearmCancel_frame ..); decide
  apply Moves.refl
  focus
    extract_lets +onlyGivenNames x; refine Moves.use x ?_ (fun hx => ?_); unfold x; clear x; rotate_left; clear_value x; rotate_right
  with_reducible apply Moves.app (releaseRails_frame ..); decide
  with_reducible apply Moves.app (setHostUp_frame ..); decide
  assumption
  extract_lets +onlyGivenNames x; clear_value x
  focus
    extract_lets +onlyGivenNames x; refine Moves.use x ?_ (fun hx => ?_); unfold x; clear x; rotate_left; clear_value x; rotate_right
  refine Moves.update ?_
  assumption
  focus
    extract_lets +onlyGivenNames x; refine Moves.use x ?_ (fun hx => ?_); unfold x; clear x; rotate_left; clear_value x; rotate_right
  with_reducible apply Moves.app (setPState_frame ..); decide
  assumption
  extract_lets +onlyGivenNames x; clear_value x
  focus
    extract_lets +onlyGivenNames x; refine Moves.use x ?_ (fun hx => ?_); unfold x; clear x; rotate_left; clear_value x; rotate_right
  refine Moves.update ?_
  assumption
  with_reducible apply Moves.app (beginRun_frame ..); decide
  assumption

theorem collapse_frame (a0 : State) : Moves [.od, .draws, .replies, .power, .aocb, .store, .log, .can, .pdo, .link, .mem, .sched, .tabor, .sense, .touch, .reg, .seq, .pack, .update, .test] a0 (collapse a0) := by
  unfold collapse
  with_reducible apply Moves.ite
  apply Moves.refl
  extract_lets +onlyGivenNames x; clear_value x
  focus
    extract_lets +onlyGivenNames x; refine Moves.use x ?_ (fun hx => ?_); unfold x; clear x; rotate_left; clear_value x; rotate_right
  with_reducible apply Moves.app (lossEnds_frame ..); decide
  with_reducible apply Moves.app (clearLost_frame ..); decide
  with_reducible apply Moves.app (abandonStore_frame ..); decide
  apply Moves.refl
  extract_lets +onlyGivenNames x; clear_value x
  extract_lets +onlyGivenNames x; clear_value x
  focus
    extract_lets +onlyGivenNames x; refine Moves.use x ?_ (fun hx => ?_); unfold x; clear x; rotate_left; clear_value x; rotate_right
  refine Moves.update ?_
  assumption
  focus
    extract_lets +onlyGivenNames x; refine Moves.use x ?_ (fun hx => ?_); unfold x; clear x; rotate_left; clear_value x; rotate_right
  with_reducible apply Moves.app (State.set_frame ..); decide
  assumption
  with_reducible apply Moves.app (startEmergency_frame ..); decide
  with_reducible apply Moves.app (chargerReview_frame ..); decide
  assumption

theorem dropResetOrder_frame (a0 : State) : Moves [.power, .pack, .update] a0 (dropResetOrder a0) := by
  unfold dropResetOrder
  refine Moves.update ?_
  apply Moves.refl

theorem packExhausted_frame (a0 : State) : Moves [.od, .draws, .replies, .power, .aocb, .store, .log, .can, .pdo, .link, .mem, .sched, .tabor, .sense, .touch, .reg, .seq, .pack, .update, .test] a0 (packExhausted a0) := by
  unfold packExhausted
  with_reducible apply Moves.ite
  with_reducible apply Moves.app (collapse_frame ..); decide
  with_reducible apply Moves.app (dropResetOrder_frame ..); decide
  apply Moves.refl
  apply Moves.refl

theorem actDischargeCutoff_frame (a0 : Nat) (a1 : State) : Moves [.od, .draws, .replies, .power, .aocb, .store, .log, .can, .pdo, .link, .mem, .sched, .tabor, .sense, .touch, .reg, .seq, .pack, .update, .test] a1 (actDischargeCutoff a0 a1) := by
  unfold actDischargeCutoff
  with_reducible apply Moves.ite
  focus
    extract_lets +onlyGivenNames x; refine Moves.use x ?_ (fun hx => ?_); unfold x; clear x; rotate_left; clear_value x; rotate_right
  with_reducible apply Moves.app (State.set_frame ..); decide
  with_reducible apply Moves.app (State.count_frame ..); decide
  apply Moves.refl
  with_reducible apply Moves.app (packExhausted_frame ..); decide
  assumption
  apply Moves.refl

theorem judgeTs_frame (a0 : State) (a1 : Nat) : Moves [.od, .log, .can, .pdo, .link, .sched] a0 (judgeTs a0 a1) := by
  unfold judgeTs
  extract_lets +onlyGivenNames x; clear_value x
  extract_lets +onlyGivenNames x; clear_value x
  extract_lets +onlyGivenNames x; clear_value x
  with_reducible apply Moves.ite
  apply Moves.refl
  with_reducible apply Moves.ite
  with_reducible apply Moves.app (raiseEv_frame ..); decide
  with_reducible apply Moves.app (emcyLog_frame ..); decide
  with_reducible apply Moves.app (setTsWarning_frame ..); decide
  apply Moves.refl
  with_reducible apply Moves.ite
  with_reducible apply Moves.app (setTsWarning_frame ..); decide
  apply Moves.refl
  apply Moves.refl

theorem tsDownbeat_frame (a0 : State) : Moves [.od, .log, .can, .pdo, .link, .sched] a0 (tsDownbeat a0) := by
  unfold tsDownbeat
  with_reducible apply Moves.foldl; intro _ _ _
  with_reducible apply Moves.app (judgeTs_frame ..); decide
  assumption
  apply Moves.refl

theorem windowFails_frame (a0 : State) : Moves [.od, .log, .link, .sched, .update] a0 (windowFails a0) := by
  unfold windowFails
  extract_lets +onlyGivenNames x; clear_value x
  with_reducible apply Moves.app (logCondition_frame ..); decide
  with_reducible apply Moves.app (State.set_frame ..); decide
  refine Moves.update ?_
  apply Moves.refl

theorem updateTime_frame (a0 : State) (a1 : Nat) : Moves [.od, .log, .link, .sched, .update] a0 (updateTime a0 a1) := by
  unfold updateTime
  with_reducible apply Moves.ite
  apply Moves.refl
  extract_lets +onlyGivenNames x; clear_value x
  focus
    extract_lets +onlyGivenNames x; refine Moves.use x ?_ (fun hx => ?_); unfold x; clear x; rotate_left; clear_value x; rotate_right
  refine Moves.update ?_
  apply Moves.refl
  focus
    extract_lets +onlyGivenNames x; refine Moves.use x ?_ (fun hx => ?_); unfold x; clear x; rotate_left; clear_value x; rotate_right
  with_reducible apply Moves.app (State.set_frame ..); decide
  assumption
  with_reducible apply Moves.ite
  with_reducible apply Moves.app (windowFails_frame ..); decide
  assumption
  assumption

theorem lifeTime_frame (a0 : State) (a1 : Nat) : Moves [.od, .pack] a0 (lifeTime a0 a1) := by
  unfold lifeTime
  with_reducible apply Moves.ite
  apply Moves.refl
  extract_lets +onlyGivenNames x; clear_value x
  extract_lets +onlyGivenNames x; clear_value x
  extract_lets +onlyGivenNames x; clear_value x
  focus
    extract_lets +onlyGivenNames x; refine Moves.use x ?_ (fun hx => ?_); unfold x; clear x; rotate_left; clear_value x; rotate_right
  refine Moves.update ?_
  apply Moves.refl
  with_reducible apply Moves.app (State.countBy_frame ..); decide
  with_reducible apply Moves.app (State.countBy_frame ..); decide
  assumption

theorem chargerTime_frame (a0 : State) (a1 : Nat) : Moves [.od, .pack] a0 (chargerTime a0 a1) := by
  unfold chargerTime
  extract_lets +onlyGivenNames x; clear_value x
  extract_lets +onlyGivenNames x; clear_value x
  extract_lets +onlyGivenNames x; clear_value x
  extract_lets +onlyGivenNames x; clear_value x
  focus
    extract_lets +onlyGivenNames x; refine Moves.use x ?_ (fun hx => ?_); unfold x; clear x; rotate_left; clear_value x; rotate_right
  refine Moves.update ?_
  apply Moves.refl
  with_reducible apply Moves.app (State.set_frame ..); decide
  with_reducible apply Moves.app (State.set_frame ..); decide
  assumption

theorem calendarAdvance_frame (a0 : State) (a1 : Nat) : Moves [.od, .log] a0 (calendarAdvance a0 a1) := by
  unfold calendarAdvance
  with_reducible apply Moves.ite
  apply Moves.refl
  extract_lets +onlyGivenNames x; clear_value x
  extract_lets +onlyGivenNames x; clear_value x
  focus
    extract_lets +onlyGivenNames x; refine Moves.use x ?_ (fun hx => ?_); unfold x; clear x; rotate_left; clear_value x; rotate_right
  refine Moves.update ?_
  apply Moves.refl
  with_reducible apply Moves.app (State.set_frame ..); decide
  assumption

theorem timeAdvance_frame (a0 : State) (a1 : Nat) : Moves [.od, .log] a0 (timeAdvance a0 a1) := by
  unfold timeAdvance
  focus
    extract_lets +onlyGivenNames x; refine Moves.use x ?_ (fun hx => ?_); unfold x; clear x; rotate_left; clear_value x; rotate_right
  with_reducible apply Moves.app (calendarAdvance_frame ..); decide
  apply Moves.refl
  with_reducible apply Moves.ite
  assumption
  extract_lets +onlyGivenNames x; clear_value x
  extract_lets +onlyGivenNames x; clear_value x
  focus
    extract_lets +onlyGivenNames x; refine Moves.use x ?_ (fun hx => ?_); unfold x; clear x; rotate_left; clear_value x; rotate_right
  refine Moves.update ?_
  assumption
  with_reducible apply Moves.app (State.set_frame ..); decide
  assumption

theorem resumeAt_frame (a0 : State) (a1 : StartStep) (a2 : Nat) : Moves [.power, .aocb, .update] a0 (resumeAt a0 a1 a2) := by
  unfold resumeAt
  refine Moves.update ?_
  apply Moves.refl

theorem resumeClocks_frame (a0 : State) : Moves [.power, .aocb, .update] a0 (resumeClocks a0) := by
  unfold resumeClocks
  with_reducible apply Moves.ite
  with_reducible apply Moves.app (resumeAt_frame ..); decide
  apply Moves.refl
  with_reducible apply Moves.app (resumeAt_frame ..); decide
  apply Moves.refl

theorem resumeSupply_frame (a0 : State) : Moves [.power, .aocb, .update] a0 (resumeSupply a0) := by
  unfold resumeSupply
  focus
    extract_lets +onlyGivenNames x; refine Moves.use x ?_ (fun hx => ?_); unfold x; clear x; rotate_left; clear_value x; rotate_right
  with_reducible apply Moves.app (resumeAt_frame ..); decide
  apply Moves.refl
  refine Moves.update ?_
  assumption

theorem resumeStartup_frame (a0 : State) : Moves [.power, .aocb, .update] a0 (resumeStartup a0) := by
  unfold resumeStartup
  with_reducible apply Moves.ite
  with_reducible apply Moves.app (resumeClocks_frame ..); decide
  apply Moves.refl
  with_reducible apply Moves.app (resumeSupply_frame ..); decide
  apply Moves.refl

theorem inputLossRestart_frame (a0 : State) : Moves [.od, .power, .aocb, .update] a0 (inputLossRestart a0) := by
  unfold inputLossRestart
  extract_lets +onlyGivenNames x; clear_value x
  extract_lets +onlyGivenNames x; clear_value x
  extract_lets +onlyGivenNames x; clear_value x
  focus
    extract_lets +onlyGivenNames x; refine Moves.use x ?_ (fun hx => ?_); unfold x; clear x; rotate_left; clear_value x; rotate_right
  with_reducible apply Moves.app (recordCause_frame ..); decide
  refine Moves.update ?_
  apply Moves.refl
  focus
    extract_lets +onlyGivenNames x; refine Moves.use x ?_ (fun hx => ?_); unfold x; clear x; rotate_left; clear_value x; rotate_right
  with_reducible apply Moves.app (State.set_frame ..); decide
  assumption
  extract_lets +onlyGivenNames x; clear_value x
  focus
    extract_lets +onlyGivenNames x; refine Moves.use x ?_ (fun hx => ?_); unfold x; clear x; rotate_left; clear_value x; rotate_right
  refine Moves.update ?_
  assumption
  with_reducible apply Moves.app (resumeStartup_frame ..); decide
  assumption

theorem actExchangePeriodic_frame (a0 : State) : Moves [.pack] a0 (actExchangePeriodic a0) := by
  unfold actExchangePeriodic
  with_reducible apply Moves.ite
  with_reducible apply Moves.app (exchangeTrigger_frame ..); decide
  apply Moves.refl
  apply Moves.refl

theorem actExpgLoss_frame (a0 : Fin 8) (a1 : State) : Moves [.od, .log, .can, .pdo, .link, .sched] a1 (actExpgLoss a0 a1) := by
  unfold actExpgLoss
  extract_lets +onlyGivenNames x; clear_value x
  focus
    extract_lets +onlyGivenNames x; refine Moves.use x ?_ (fun hx => ?_); unfold x; clear x; rotate_left; clear_value x; rotate_right
  with_reducible apply Moves.app (State.setFlag_frame ..); decide
  apply Moves.refl
  with_reducible apply Moves.ite
  with_reducible apply Moves.app (emcyLog_frame ..); decide
  with_reducible apply Moves.app (State.count_frame ..); decide
  assumption
  assumption

theorem fanCurve_frame (a0 : State) (a1 : Nat) : Moves [.od, .thermal] a0 (fanCurve a0 a1) := by
  unfold fanCurve
  extract_lets +onlyGivenNames x; clear_value x
  extract_lets +onlyGivenNames x; clear_value x
  extract_lets +onlyGivenNames x; clear_value x
  split
  with_reducible apply Moves.app (State.set_frame ..); decide
  apply Moves.refl
  extract_lets +onlyGivenNames x; clear_value x
  extract_lets +onlyGivenNames x; clear_value x
  focus
    extract_lets +onlyGivenNames x; refine Moves.use x ?_ (fun hx => ?_); unfold x; clear x; rotate_left; clear_value x; rotate_right
  with_reducible apply Moves.app (State.setS_frame ..); decide
  with_reducible apply Moves.app (State.setFan_frame ..); decide
  apply Moves.refl
  with_reducible apply Moves.app (State.set_frame ..); decide
  assumption

theorem fanDuty_frame (a0 : State) (a1 : Nat) (a2 : Nat) : Moves [.od] a0 (fanDuty a0 a1 a2) := by
  unfold fanDuty
  with_reducible apply Moves.app (State.set_frame ..); decide
  apply Moves.refl

theorem fanSpin_frame (a0 : State) (a1 : Nat) : Moves [.od, .thermal] a0 (fanSpin a0 a1) := by
  unfold fanSpin
  with_reducible apply Moves.app (fanDuty_frame ..); decide
  with_reducible apply Moves.app (State.setFan_frame ..); decide
  apply Moves.refl

theorem fanStall_frame (a0 : State) (a1 : Nat) : Moves [.od, .log, .can, .pdo, .link, .sched, .thermal] a0 (fanStall a0 a1) := by
  unfold fanStall
  extract_lets +onlyGivenNames x; clear_value x
  focus
    extract_lets +onlyGivenNames x; refine Moves.use x ?_ (fun hx => ?_); unfold x; clear x; rotate_left; clear_value x; rotate_right
  with_reducible apply Moves.app (State.count_frame ..); decide
  apply Moves.refl
  with_reducible apply Moves.ite
  focus
    extract_lets +onlyGivenNames x; refine Moves.use x ?_ (fun hx => ?_); unfold x; clear x; rotate_left; clear_value x; rotate_right
  with_reducible apply Moves.app (fanDuty_frame ..); decide
  with_reducible apply Moves.app (State.setFlag_frame ..); decide
  with_reducible apply Moves.app (State.setFan_frame ..); decide
  assumption
  with_reducible apply Moves.app (raise_frame ..); decide
  with_reducible apply Moves.app (emcyLog_frame ..); decide
  assumption
  with_reducible apply Moves.app (fanSpin_frame ..); decide
  with_reducible apply Moves.app (State.setFan_frame ..); decide
  assumption

theorem fanLoop_frame (a0 : State) (a1 : Nat) (a2 : Nat) : Moves [.od, .thermal] a0 (fanLoop a0 a1 a2) := by
  unfold fanLoop
  extract_lets +onlyGivenNames x; clear_value x
  extract_lets +onlyGivenNames x; clear_value x
  extract_lets +onlyGivenNames x; clear_value x
  extract_lets +onlyGivenNames x; clear_value x
  extract_lets +onlyGivenNames x; clear_value x
  extract_lets +onlyGivenNames x; clear_value x
  extract_lets +onlyGivenNames x; clear_value x
  with_reducible apply Moves.app (fanDuty_frame ..); decide
  with_reducible apply Moves.app (State.setFan_frame ..); decide
  apply Moves.refl

theorem fanTick_frame (a0 : State) (a1 : Nat) : Moves [.od, .live, .log, .can, .pdo, .link, .sched, .thermal] a0 (fanTick a0 a1) := by
  unfold fanTick
  extract_lets +onlyGivenNames x; clear_value x
  extract_lets +onlyGivenNames x; clear_value x
  focus
    extract_lets +onlyGivenNames x; refine Moves.use x ?_ (fun hx => ?_); unfold x; clear x; rotate_left; clear_value x; rotate_right
  split
  with_reducible apply Moves.app (State.setFan_frame ..); decide
  with_reducible apply Moves.app (State.putInForce_frame ..); decide
  with_reducible apply Moves.app (State.putInForce_frame ..); decide
  apply Moves.refl
  apply Moves.refl
  focus
    extract_lets +onlyGivenNames x; refine Moves.use x ?_ (fun hx => ?_); unfold x; clear x; rotate_left; clear_value x; rotate_right
  with_reducible apply Moves.app (fanCurve_frame ..); decide
  assumption
  extract_lets +onlyGivenNames x; clear_value x
  focus
    extract_lets +onlyGivenNames x; refine Moves.use x ?_ (fun hx => ?_); unfold x; clear x; rotate_left; clear_value x; rotate_right
  with_reducible apply Moves.app (State.set_frame ..); decide
  assumption
  extract_lets +onlyGivenNames x; clear_value x
  extract_lets +onlyGivenNames x; clear_value x
  extract_lets +onlyGivenNames x; clear_value x
  with_reducible apply Moves.ite
  with_reducible apply Moves.app (refreshFan_frame ..); decide
  with_reducible apply Moves.app (fanDuty_frame ..); decide
  with_reducible apply Moves.app (State.setFan_frame ..); decide
  assumption
  focus
    extract_lets +onlyGivenNames x; refine Moves.use x ?_ (fun hx => ?_); unfold x; clear x; rotate_left; clear_value x; rotate_right
  with_reducible apply Moves.app (State.setFan_frame ..); decide
  assumption
  extract_lets +onlyGivenNames x; clear_value x
  extract_lets +onlyGivenNames x; clear_value x
  focus
    extract_lets +onlyGivenNames x; refine Moves.use x ?_ (fun hx => ?_); unfold x; clear x; rotate_left; clear_value x; rotate_right
  with_reducible apply Moves.ite
  with_reducible apply Moves.app (fanDuty_frame ..); decide
  with_reducible apply Moves.app (State.setFan_frame ..); decide
  assumption
  with_reducible apply Moves.ite
  with_reducible apply Moves.app (fanDuty_frame ..); decide
  with_reducible apply Moves.app (State.setFan_frame ..); decide
  assumption
  with_reducible apply Moves.ite
  with_reducible apply Moves.app (fanDuty_frame ..); decide
  assumption
  with_reducible apply Moves.ite
  with_reducible apply Moves.app (fanSpin_frame ..); decide
  assumption
  with_reducible apply Moves.ite
  with_reducible apply Moves.app (fanDuty_frame ..); decide
  assumption
  with_reducible apply Moves.ite
  with_reducible apply Moves.app (fanStall_frame ..); decide
  assumption
  with_reducible apply Moves.ite
  with_reducible apply Moves.app (fanDuty_frame ..); decide
  assumption
  with_reducible apply Moves.app (fanLoop_frame ..); decide
  assumption
  with_reducible apply Moves.app (refreshFan_frame ..); decide
  assumption

theorem actFanLoopTick_frame (a0 : State) : Moves [.od, .live, .log, .can, .pdo, .link, .sched, .thermal] a0 (actFanLoopTick a0) := by
  unfold actFanLoopTick
  with_reducible apply Moves.ite
  with_reducible apply Moves.foldl; intro _ _ _
  with_reducible apply Moves.app (fanTick_frame ..); decide
  assumption
  apply Moves.refl
  apply Moves.refl

theorem thermalStart_frame (a0 : State) : Moves [.od, .live, .log, .link, .sched, .thermal] a0 (thermalStart a0) := by
  unfold thermalStart
  focus
    extract_lets +onlyGivenNames x; refine Moves.use x ?_ (fun hx => ?_); unfold x; clear x; rotate_left; clear_value x; rotate_right
  with_reducible apply Moves.foldl; intro _ _ _
  with_reducible apply Moves.app (State.takeInForce_frame ..); decide
  with_reducible apply Moves.app (State.takeInForce_frame ..); decide
  assumption
  apply Moves.refl
  extract_lets +onlyGivenNames x; clear_value x
  focus
    extract_lets +onlyGivenNames x; refine Moves.use x ?_ (fun hx => ?_); unfold x; clear x; rotate_left; clear_value x; rotate_right
  refine Moves.update ?_
  assumption
  with_reducible apply Moves.ite
  with_reducible apply Moves.app (raiseEv_frame ..); decide
  with_reducible apply Moves.app (logCondition_frame ..); decide
  with_reducible apply Moves.app (State.setFlag_frame ..); decide
  assumption
  assumption

theorem calendarResume_frame (a0 : State) : Moves [.od, .draws, .log] a0 (calendarResume a0) := by
  unfold calendarResume
  with_reducible apply Moves.ite
  apply Moves.refl
  with_reducible apply Moves.app (State.draw_frame ..); decide
  with_reducible apply Moves.app (calendarAdvance_frame ..); decide
  apply Moves.refl

theorem refreshCopies_frame (a0 : State) : Moves [.od] a0 (refreshCopies a0) := by
  unfold refreshCopies
  with_reducible apply Moves.app (State.set_frame ..); decide
  apply Moves.refl

theorem restoreStore_frame (a0 : State) : Moves [.od, .aocb, .store, .log, .link, .sched] a0 (restoreStore a0) := by
  unfold restoreStore
  extract_lets +onlyGivenNames x; clear_value x
  extract_lets +onlyGivenNames x; clear_value x
  extract_lets +onlyGivenNames x; clear_value x
  extract_lets +onlyGivenNames x; clear_value x
  focus
    extract_lets +onlyGivenNames x; refine Moves.use x ?_ (fun hx => ?_); unfold x; clear x; rotate_left; clear_value x; rotate_right
  with_reducible apply Moves.foldl; intro _ _ _
  with_reducible apply Moves.app (takeRecord_frame ..); decide
  assumption
  apply Moves.refl
  focus
    extract_lets +onlyGivenNames x; refine Moves.use x ?_ (fun hx => ?_); unfold x; clear x; rotate_left; clear_value x; rotate_right
  with_reducible apply Moves.app (State.set_frame ..); decide
  with_reducible apply Moves.app (State.set_frame ..); decide
  assumption
  focus
    extract_lets +onlyGivenNames x; refine Moves.use x ?_ (fun hx => ?_); unfold x; clear x; rotate_left; clear_value x; rotate_right
  with_reducible apply Moves.app (State.set_frame ..); decide
  assumption
  focus
    extract_lets +onlyGivenNames x; refine Moves.use x ?_ (fun hx => ?_); unfold x; clear x; rotate_left; clear_value x; rotate_right
  with_reducible apply Moves.app (refreshCopies_frame ..); decide
  assumption
  focus
    extract_lets +onlyGivenNames x; refine Moves.use x ?_ (fun hx => ?_); unfold x; clear x; rotate_left; clear_value x; rotate_right
  with_reducible apply Moves.app (State.set_frame ..); decide
  assumption
  focus
    extract_lets +onlyGivenNames x; refine Moves.use x ?_ (fun hx => ?_); unfold x; clear x; rotate_left; clear_value x; rotate_right
  refine Moves.update ?_
  assumption
  extract_lets +onlyGivenNames x; clear_value x
  extract_lets +onlyGivenNames x; clear_value x
  focus
    extract_lets +onlyGivenNames x; refine Moves.use x ?_ (fun hx => ?_); unfold x; clear x; rotate_left; clear_value x; rotate_right
  refine Moves.update ?_
  assumption
  focus
    extract_lets +onlyGivenNames x; refine Moves.use x ?_ (fun hx => ?_); unfold x; clear x; rotate_left; clear_value x; rotate_right
  split
  with_reducible apply Moves.app (logCondition_frame ..); decide
  assumption
  assumption
  focus
    extract_lets +onlyGivenNames x; refine Moves.use x ?_ (fun hx => ?_); unfold x; clear x; rotate_left; clear_value x; rotate_right
  with_reducible apply Moves.ite
  with_reducible apply Moves.app (logCondition_frame ..); decide
  assumption
  assumption
  split
  with_reducible apply Moves.app (logCondition_frame ..); decide
  assumption
  assumption

theorem actIntegratorRecord_frame (a0 : Port) (a1 : List Nat) (a2 : State) : Moves [.od, .replies, .log, .link, .sched] a2 (actIntegratorRecord a0 a1 a2) := by
  unfold actIntegratorRecord
  (with_reducible apply portCommand_frame) <;> first | decide | skip
  apply Moves.refl
  with_reducible intro _
  with_reducible apply Moves.ite_fst
  dsimp only
  apply Moves.refl
  dsimp only
  with_reducible apply Moves.app (queueLog_frame ..); decide
  apply Moves.refl

theorem actLifeWriteBackHourly_frame (a0 : Bool) (a1 : PackRead) (a2 : State) : Moves [.od, .log, .can, .pdo, .link, .sched, .pack] a2 (actLifeWriteBackHourly a0 a1 a2) := by
  unfold actLifeWriteBackHourly
  with_reducible apply Moves.app (writeBackDue_frame ..); decide
  apply Moves.refl

theorem actLogClear_frame (a0 : Port) (a1 : State) : Moves [.od, .replies, .log, .link, .sched] a1 (actLogClear a0 a1) := by
  unfold actLogClear
  (with_reducible apply portCommand_frame) <;> first | decide | skip
  apply Moves.refl
  with_reducible intro _
  dsimp only
  with_reducible apply Moves.app (logClear_frame ..); decide
  apply Moves.refl

theorem actLogCursorWrite_frame (a0 : Port) (a1 : Nat) (a2 : State) : Moves [.replies, .log] a2 (actLogCursorWrite a0 a1 a2) := by
  unfold actLogCursorWrite
  (with_reducible apply portCommand_frame) <;> first | decide | skip
  apply Moves.refl
  with_reducible intro _
  with_reducible apply Moves.app (writeCursor_frame ..); decide
  apply Moves.refl

theorem logOpen_frame (a0 : State) : Moves [.od, .power, .log] a0 (logOpen a0) := by
  unfold logOpen
  extract_lets +onlyGivenNames x; clear_value x
  extract_lets +onlyGivenNames x; clear_value x
  extract_lets +onlyGivenNames x; clear_value x
  extract_lets +onlyGivenNames x; clear_value x
  extract_lets +onlyGivenNames x; clear_value x
  focus
    extract_lets +onlyGivenNames x; refine Moves.use x ?_ (fun hx => ?_); unfold x; clear x; rotate_left; clear_value x; rotate_right
  with_reducible apply Moves.app (State.set_frame ..); decide
  with_reducible apply Moves.app (State.set_frame ..); decide
  apply Moves.refl
  extract_lets +onlyGivenNames x; clear_value x
  focus
    extract_lets +onlyGivenNames x; refine Moves.use x ?_ (fun hx => ?_); unfold x; clear x; rotate_left; clear_value x; rotate_right
  with_reducible apply Moves.ite
  with_reducible apply Moves.app (State.setFlag_frame ..); decide
  assumption
  assumption
  focus
    extract_lets +onlyGivenNames x; refine Moves.use x ?_ (fun hx => ?_); unfold x; clear x; rotate_left; clear_value x; rotate_right
  with_reducible apply Moves.ite
  assumption
  with_reducible apply Moves.app (State.setFlag_frame ..); decide
  assumption
  focus
    extract_lets +onlyGivenNames x; refine Moves.use x ?_ (fun hx => ?_); unfold x; clear x; rotate_left; clear_value x; rotate_right
  with_reducible apply Moves.app (State.setFlag_frame ..); decide
  assumption
  extract_lets +onlyGivenNames x; clear_value x
  extract_lets +onlyGivenNames x; clear_value x
  extract_lets +onlyGivenNames x; clear_value x
  extract_lets +onlyGivenNames x; clear_value x
  extract_lets +onlyGivenNames x; clear_value x
  focus
    extract_lets +onlyGivenNames x; refine Moves.use x ?_ (fun hx => ?_); unfold x; clear x; rotate_left; clear_value x; rotate_right
  refine Moves.update ?_
  assumption
  with_reducible apply Moves.ite
  assumption
  refine Moves.update ?_
  assumption

theorem actLogOpen_frame (a0 : State) : Moves [.od, .power, .log] a0 (actLogOpen a0) := by
  unfold actLogOpen
  with_reducible apply Moves.ite
  with_reducible apply Moves.app (logOpen_frame ..); decide
  apply Moves.refl
  apply Moves.refl

theorem popQueue_frame (a0 : State) : Moves [.log] a0 (popQueue a0) := by
  unfold popQueue
  with_reducible apply Moves.app (noteDropped_frame ..); decide
  refine Moves.update ?_
  apply Moves.refl

theorem mirrorRecord_frame (a0 : State) (a1 : LogRecord) (a2 : Nat) : Moves [.od, .link, .mem, .sched] a0 (mirrorRecord a0 a1 a2) := by
  unfold mirrorRecord
  extract_lets +onlyGivenNames x; clear_value x
  with_reducible apply Moves.ite
  with_reducible apply Moves.app (ringProduce_frame ..); decide
  apply Moves.refl
  apply Moves.refl

theorem programRecord_frame (a0 : State) (a1 : LogRecord) (a2 : Bool) : Moves [.od, .draws, .log, .can, .pdo, .link, .mem, .sched] a0 (programRecord a0 a1 a2) := by
  unfold programRecord
  extract_lets +onlyGivenNames x; clear_value x
  with_reducible apply Moves.ite
  extract_lets +onlyGivenNames x; clear_value x
  extract_lets +onlyGivenNames x; clear_value x
  extract_lets +onlyGivenNames x; clear_value x
  with_reducible apply Moves.app (mirrorRecord_frame ..); decide
  with_reducible apply Moves.app (popQueue_frame ..); decide
  refine Moves.update ?_
  apply Moves.refl
  extract_lets +onlyGivenNames x; clear_value x
  extract_lets +onlyGivenNames x; clear_value x
  focus
    extract_lets +onlyGivenNames x; refine Moves.use x ?_ (fun hx => ?_); unfold x; clear x; rotate_left; clear_value x; rotate_right
  with_reducible apply Moves.app (State.draw_frame ..); decide
  with_reducible apply Moves.app (State.draw_frame ..); decide
  refine Moves.update ?_
  apply Moves.refl
  with_reducible apply Moves.ite
  with_reducible apply Moves.app (emcy_frame ..); decide
  with_reducible apply Moves.app (State.setFlag_frame ..); decide
  assumption
  assumption

theorem dropFull_frame (a0 : State) : Moves [.od, .log, .link, .sched] a0 (dropFull a0) := by
  unfold dropFull
  focus
    extract_lets +onlyGivenNames x; refine Moves.use x ?_ (fun hx => ?_); unfold x; clear x; rotate_left; clear_value x; rotate_right
  with_reducible apply Moves.app (popQueue_frame ..); decide
  apply Moves.refl
  with_reducible apply Moves.app (logLost_frame ..); decide
  refine Moves.update ?_
  assumption

theorem eraseAhead_frame (a0 : State) : Moves [.od, .log] a0 (eraseAhead a0) := by
  unfold eraseAhead
  extract_lets +onlyGivenNames x; clear_value x
  extract_lets +onlyGivenNames x; clear_value x
  extract_lets +onlyGivenNames x; clear_value x
  extract_lets +onlyGivenNames x; clear_value x
  with_reducible apply Moves.app (State.count_frame ..); decide
  refine Moves.update ?_
  apply Moves.refl

theorem writeRecord64_frame (a0 : State) (a1 : Bool) : Moves [.od, .draws, .log, .can, .pdo, .link, .mem, .sched] a0 (writeRecord64 a0 a1) := by
  unfold writeRecord64
  split
  apply Moves.refl
  with_reducible apply Moves.ite
  focus
    extract_lets +onlyGivenNames x; refine Moves.use x ?_ (fun hx => ?_); unfold x; clear x; rotate_left; clear_value x; rotate_right
  with_reducible apply Moves.app (popQueue_frame ..); decide
  with_reducible apply Moves.app (mirrorRecord_frame ..); decide
  apply Moves.refl
  with_reducible apply Moves.app (logLost_frame ..); decide
  refine Moves.update ?_
  assumption
  with_reducible apply Moves.ite
  apply Moves.refl
  with_reducible apply Moves.ite
  focus
    extract_lets +onlyGivenNames x; refine Moves.use x ?_ (fun hx => ?_); unfold x; clear x; rotate_left; clear_value x; rotate_right
  with_reducible apply Moves.app (State.setFlag_frame ..); decide
  apply Moves.refl
  with_reducible apply Moves.ite
  with_reducible apply Moves.app (programRecord_frame ..); decide
  assumption
  with_reducible apply Moves.app (dropFull_frame ..); decide
  assumption
  with_reducible apply Moves.app (programRecord_frame ..); decide
  with_reducible apply Moves.ite
  with_reducible apply Moves.app (eraseAhead_frame ..); decide
  apply Moves.refl
  apply Moves.refl

theorem actLogRecordCommit_frame (a0 : Bool) (a1 : State) : Moves [.od, .draws, .log, .can, .pdo, .link, .mem, .sched] a1 (actLogRecordCommit a0 a1) := by
  unfold actLogRecordCommit
  with_reducible apply Moves.ite
  with_reducible apply Moves.app (writeRecord64_frame ..); decide
  apply Moves.refl
  apply Moves.refl

theorem actLogWindowRead_frame (a0 : Port) (a1 : Nat) (a2 : Bool) (a3 : State) : Moves [.od, .replies, .log] a3 (actLogWindowRead a0 a1 a2 a3) := by
  unfold actLogWindowRead
  with_reducible apply Moves.ite
  with_reducible apply Moves.app (State.reply_frame ..); decide
  apply Moves.refl
  split
  with_reducible apply Moves.ite
  with_reducible apply Moves.app (State.reply_frame ..); decide
  apply Moves.refl
  focus
    extract_lets +onlyGivenNames x; refine Moves.use x.1 ?_ (fun hx => ?_); unfold x; clear x; rotate_left; clear_value x; rotate_right
  with_reducible apply Moves.app (readWindow_frame ..); decide
  apply Moves.refl
  with_reducible apply Moves.app (State.reply_frame ..); decide
  assumption
  with_reducible apply Moves.app (State.reply_frame ..); decide
  apply Moves.refl

theorem actLongPress_frame (a0 : Bool) (a1 : State) : Moves [.od, .live, .draws, .replies, .power, .clocks, .aocb, .beat, .store, .log, .can, .pdo, .link, .mem, .sched, .tabor, .sense, .touch, .reg, .seq, .pack, .thermal, .update, .test] a1 (actLongPress a0 a1) := by
  unfold actLongPress
  with_reducible apply Moves.ite
  apply Moves.refl
  extract_lets +onlyGivenNames x; clear_value x
  focus
    extract_lets +onlyGivenNames x; refine Moves.use x ?_ (fun hx => ?_); unfold x; clear x; rotate_left; clear_value x; rotate_right
  with_reducible apply Moves.app (hardReset_frame ..); decide
  with_reducible apply Moves.app (State.count_frame ..); decide
  apply Moves.refl
  with_reducible apply Moves.ite
  refine Moves.update ?_
  assumption
  assumption

theorem actLongPressHoldExpiry_frame (a0 : State) : Moves [.power, .aocb, .pack, .update] a0 (actLongPressHoldExpiry a0) := by
  unfold actLongPressHoldExpiry
  with_reducible apply Moves.ite
  apply Moves.refl
  extract_lets +onlyGivenNames x; clear_value x
  extract_lets +onlyGivenNames x; clear_value x
  focus
    extract_lets +onlyGivenNames x; refine Moves.use x ?_ (fun hx => ?_); unfold x; clear x; rotate_left; clear_value x; rotate_right
  refine Moves.update ?_
  apply Moves.refl
  with_reducible apply Moves.ite
  with_reducible apply Moves.app (resumeStartup_frame ..); decide
  assumption
  refine Moves.update ?_
  assumption

theorem beginLssStore_frame (a0 : State) (a1 : Nat) (a2 : Nat) (a3 : Nat) : Moves [.od, .store] a0 (beginLssStore a0 a1 a2 a3).1 := by
  unfold beginLssStore
  extract_lets +onlyGivenNames x; clear_value x
  extract_lets +onlyGivenNames x; clear_value x
  with_reducible apply Moves.app (beginStore_frame ..); decide
  apply Moves.refl

theorem restIn_frame (a0 : State) (a1 : PState) : Moves [.od, .live, .draws, .power, .clocks, .aocb, .beat, .store, .log, .can, .pdo, .link, .mem, .sched, .tabor, .sense, .touch, .reg, .seq, .pack, .thermal, .update, .test] a0 (restIn a0 a1) := by
  unfold restIn
  focus
    extract_lets +onlyGivenNames x; refine Moves.use x ?_ (fun hx => ?_); unfold x; clear x; rotate_left; clear_value x; rotate_right
  with_reducible apply Moves.app (disarm_frame ..); decide
  with_reducible apply Moves.app (resetDomains_frame ..); decide
  with_reducible apply Moves.app (clearLost_frame ..); decide
  with_reducible apply Moves.app (setPState_frame ..); decide
  apply Moves.refl
  refine Moves.update ?_
  assumption

theorem actOffEntry_frame (a0 : State) : Moves [.od, .live, .draws, .power, .clocks, .aocb, .beat, .store, .log, .can, .pdo, .link, .mem, .sched, .tabor, .sense, .touch, .reg, .seq, .pack, .thermal, .update, .test] a0 (actOffEntry a0) := by
  unfold actOffEntry
  with_reducible apply Moves.ite
  with_reducible apply Moves.app (restIn_frame ..); decide
  apply Moves.refl
  apply Moves.refl

theorem actOnPackDwellExpiry_frame (a0 : State) : Moves [.od, .draws, .replies, .aocb, .store, .log, .can, .pdo, .link, .mem, .sched, .tabor, .sense, .touch, .reg, .seq, .update, .test] a0 (actOnPackDwellExpiry a0) := by
  unfold actOnPackDwellExpiry
  split
  apply Moves.refl
  with_reducible apply Moves.ite
  extract_lets +onlyGivenNames x; clear_value x
  focus
    extract_lets +onlyGivenNames x; refine Moves.use x ?_ (fun hx => ?_); unfold x; clear x; rotate_left; clear_value x; rotate_right
  refine Moves.update ?_
  apply Moves.refl
  extract_lets +onlyGivenNames x; clear_value x
  split
  with_reducible apply Moves.app (powerRequest_frame ..); decide
  assumption
  assumption
  apply Moves.refl

theorem actPackAgeUpdate_frame (a0 : State) : Moves [.od, .log, .can, .pdo, .link, .sched, .pack] a0 (actPackAgeUpdate a0) := by
  unfold actPackAgeUpdate
  with_reducible apply Moves.ite
  with_reducible apply Moves.app (judgeEol_frame ..); decide
  with_reducible apply Moves.app (State.set_frame ..); decide
  apply Moves.refl
  apply Moves.refl

theorem actPackInsertion_frame (a0 : State) : Moves [.od, .log, .link, .sched, .pack] a0 (actPackInsertion a0) := by
  unfold actPackInsertion
  with_reducible apply Moves.ite
  apply Moves.refl
  extract_lets +onlyGivenNames x; clear_value x
  focus
    extract_lets +onlyGivenNames x; refine Moves.use x ?_ (fun hx => ?_); unfold x; clear x; rotate_left; clear_value x; rotate_right
  refine Moves.update ?_
  apply Moves.refl
  focus
    extract_lets +onlyGivenNames x; refine Moves.use x ?_ (fun hx => ?_); unfold x; clear x; rotate_left; clear_value x; rotate_right
  with_reducible apply Moves.app (State.setFlag_frame ..); decide
  with_reducible apply Moves.app (exchangeTrigger_frame ..); decide
  assumption
  with_reducible apply Moves.ite
  with_reducible apply Moves.app (setChargePhase_frame ..); decide
  with_reducible apply Moves.app (State.setFlag_frame ..); decide
  with_reducible apply Moves.app (State.setFlag_frame ..); decide
  with_reducible apply Moves.app (State.setFlag_frame ..); decide
  assumption
  assumption

theorem pollCompletes_frame (a0 : State) (a1 : List Nat) : Moves [.od, .log, .link, .sched, .pack] a0 (pollCompletes a0 a1) := by
  unfold pollCompletes
  focus
    extract_lets +onlyGivenNames x; refine Moves.use x ?_ (fun hx => ?_); unfold x; clear x; rotate_left; clear_value x; rotate_right
  with_reducible apply Moves.foldl; intro _ _ _
  with_reducible apply Moves.app (State.set_frame ..); decide
  assumption
  apply Moves.refl
  extract_lets +onlyGivenNames x; clear_value x
  focus
    extract_lets +onlyGivenNames x; refine Moves.use x ?_ (fun hx => ?_); unfold x; clear x; rotate_left; clear_value x; rotate_right
  with_reducible apply Moves.app (State.setFlag_frame ..); decide
  refine Moves.update ?_
  assumption
  with_reducible apply Moves.ite
  refine Moves.update ?_
  assumption
  extract_lets +onlyGivenNames x; clear_value x
  extract_lets +onlyGivenNames x; clear_value x
  focus
    extract_lets +onlyGivenNames x; refine Moves.use x ?_ (fun hx => ?_); unfold x; clear x; rotate_left; clear_value x; rotate_right
  refine Moves.update ?_
  assumption
  with_reducible apply Moves.ite
  with_reducible apply Moves.app (logStateChange_frame ..); decide
  refine Moves.update ?_
  assumption
  assumption

theorem pollFails_frame (a0 : State) : Moves [.od, .log, .link, .sched, .pack] a0 (pollFails a0) := by
  unfold pollFails
  extract_lets +onlyGivenNames x; clear_value x
  extract_lets +onlyGivenNames x; clear_value x
  focus
    extract_lets +onlyGivenNames x; refine Moves.use x ?_ (fun hx => ?_); unfold x; clear x; rotate_left; clear_value x; rotate_right
  refine Moves.update ?_
  apply Moves.refl
  with_reducible apply Moves.ite
  with_reducible apply Moves.app (exchangeTrigger_frame ..); decide
  with_reducible apply Moves.app (logCondition_frame ..); decide
  with_reducible apply Moves.app (State.setFlag_frame ..); decide
  assumption
  assumption

theorem actPackPoll_frame (a0 : List (Option Nat)) (a1 : Option Nat) (a2 : State) : Moves [.od, .log, .link, .sched, .pack] a2 (actPackPoll a0 a1 a2) := by
  unfold actPackPoll
  with_reducible apply Moves.ite
  apply Moves.refl
  focus
    extract_lets +onlyGivenNames x; refine Moves.use x ?_ (fun hx => ?_); unfold x; clear x; rotate_left; clear_value x; rotate_right
  with_reducible apply Moves.foldl; intro _ _ _
  split
  with_reducible apply Moves.app (State.set_frame ..); decide
  assumption
  assumption
  apply Moves.refl
  focus
    extract_lets +onlyGivenNames x; refine Moves.use x ?_ (fun hx => ?_); unfold x; clear x; rotate_left; clear_value x; rotate_right
  with_reducible apply Moves.ite
  with_reducible apply Moves.app (pollCompletes_frame ..); decide
  assumption
  with_reducible apply Moves.app (pollFails_frame ..); decide
  assumption
  split
  with_reducible apply Moves.ite
  with_reducible apply Moves.app (exchangeTrigger_frame ..); decide
  assumption
  assumption
  assumption

theorem actPackRemoval_frame (a0 : Bool) (a1 : State) : Moves [.od, .draws, .replies, .power, .aocb, .store, .log, .can, .pdo, .link, .mem, .sched, .tabor, .sense, .touch, .reg, .seq, .pack, .update, .test] a1 (actPackRemoval a0 a1) := by
  unfold actPackRemoval
  extract_lets +onlyGivenNames x; clear_value x
  extract_lets +onlyGivenNames x; clear_value x
  focus
    extract_lets +onlyGivenNames x; refine Moves.use x ?_ (fun hx => ?_); unfold x; clear x; rotate_left; clear_value x; rotate_right
  refine Moves.update ?_
  apply Moves.refl
  focus
    extract_lets +onlyGivenNames x; refine Moves.use x ?_ (fun hx => ?_); unfold x; clear x; rotate_left; clear_value x; rotate_right
  with_reducible apply Moves.ite
  with_reducible apply Moves.app (packExhausted_frame ..); decide
  assumption
  assumption
  focus
    extract_lets +onlyGivenNames x; refine Moves.use x ?_ (fun hx => ?_); unfold x; clear x; rotate_left; clear_value x; rotate_right
  with_reducible apply Moves.app (packBecomes_frame ..); decide
  assumption
  with_reducible apply Moves.ite
  with_reducible apply Moves.app (emcyLog_frame ..); decide
  assumption
  assumption

theorem actPowerStateRequest_frame (a0 : Port) (a1 : Nat) (a2 : State) : Moves [.od, .draws, .replies, .aocb, .store, .log, .can, .pdo, .link, .mem, .sched, .tabor, .sense, .touch, .reg, .seq, .update, .test] a2 (actPowerStateRequest a0 a1 a2) := by
  unfold actPowerStateRequest
  (with_reducible apply portCommand_frame) <;> first | decide | skip
  apply Moves.refl
  with_reducible intro _
  with_reducible apply Moves.app (writePowerRequest_frame ..); decide
  apply Moves.refl

theorem actPressIgnored_frame (a0 : State) : Moves [.od] a0 (actPressIgnored a0) := by
  unfold actPressIgnored
  with_reducible apply Moves.ite
  with_reducible apply Moves.app (State.count_frame ..); decide
  apply Moves.refl
  apply Moves.refl

theorem updateRequest_frame {l : List Part} {a s : State} {p : Port} {i sub : Nat} {f : State → State × Option Status} (h : Moves l a s)
    (hf : ∀ t, Moves l t (f t).1) (hr : Part.replies ∈ l) : Moves l a (updateRequest s p i sub f) := by
  have rep (t : State) (st : Status) : Moves l t (t.reply p st []) := (State.reply_frame _ _ _ _).mono (by simpa using hr)
  unfold updateRequest
  extract_lets g
  have hg (t : State) : Moves l t (g t).1 := by
    unfold g
    refine Moves.ite_fst _ (Moves.refl _ _) ?_
    split
    · exact Moves.ite_fst _ (Moves.refl _ _) (hf t)
    · exact hf t
  refine h.trans (Moves.ite _ (Moves.ite _ (rep _ _) ?_) (portRequest_frame (Moves.refl _ _) hg hr))
  split
  · have hk : Moves l s (if s.store.flashAbsent = true then (s, some Status.hardware) else g s).1 := Moves.ite_fst _ (Moves.refl _ _) (hg s)
    split
    · exact hk.trans (rep _ _)
    · exact hk
  · exact rep _ _

theorem actRechargeTimeout_frame (a0 : State) : Moves [.od, .log, .link, .sched, .pack] a0 (actRechargeTimeout a0) := by
  unfold actRechargeTimeout
  with_reducible apply Moves.ite
  with_reducible apply Moves.app (chargerReview_frame ..); decide
  with_reducible apply Moves.app (tryCycle_frame ..); decide
  apply Moves.refl
  apply Moves.refl

theorem actRetryCountReset_frame (a0 : Fin 16) (a1 : State) : Moves [.reg] a1 (actRetryCountReset a0 a1) := by
  unfold actRetryCountReset
  extract_lets +onlyGivenNames x; clear_value x
  with_reducible apply Moves.ite
  with_reducible apply Moves.app (State.setSup_frame ..); decide
  apply Moves.refl
  apply Moves.refl

theorem actRetryDelayExpiry_frame (a0 : Fin 16) (a1 : State) : Moves [.od, .draws, .can, .pdo, .link, .reg] a1 (actRetryDelayExpiry a0 a1) := by
  unfold actRetryDelayExpiry
  extract_lets +onlyGivenNames x; clear_value x
  with_reducible apply Moves.ite
  with_reducible apply Moves.app (tryRetry_frame ..); decide
  with_reducible apply Moves.app (State.setSup_frame ..); decide
  apply Moves.refl
  apply Moves.refl

theorem actRunExchange_frame (a0 : Port) (a1 : State) : Moves [.replies, .pack] a1 (actRunExchange a0 a1) := by
  unfold actRunExchange
  (with_reducible apply portCommand_frame) <;> first | decide | skip
  apply Moves.refl
  with_reducible intro _
  with_reducible apply Moves.ite_fst
  dsimp only
  apply Moves.refl
  dsimp only
  with_reducible apply Moves.app (exchangeTrigger_frame ..); decide
  apply Moves.refl

theorem waitFor_frame (a0 : State) (a1 : Run) (a2 : SeqWait) : Moves [.seq] a0 (waitFor a0 a1 a2) := by
  unfold waitFor
  with_reducible apply Moves.app (State.setRun_frame ..); decide
  apply Moves.refl

theorem issueStep_frame (a0 : State) (a1 : Run) : Moves [.seq] a0 (issueStep a0 a1) := by
  unfold issueStep
  extract_lets +onlyGivenNames x; clear_value x
  split
  refine Moves.update ?_
  apply Moves.refl
  refine Moves.update ?_
  apply Moves.refl
  apply Moves.refl

theorem actSeqDelay_frame (a0 : State) : Moves [.seq] a0 (actSeqDelay a0) := by
  unfold actSeqDelay
  split
  apply Moves.refl
  with_reducible apply Moves.app (waitFor_frame ..); decide
  with_reducible apply Moves.app (issueStep_frame ..); decide
  apply Moves.refl

theorem own_frame (a0 : State) (a1 : Nat) : Moves [.reg] a0 (own a0 a1) := by
  unfold own
  with_reducible apply Moves.app (State.setRail_frame ..); decide
  apply Moves.refl

theorem actSeqDisable_frame (a0 : State) : Moves [.od, .draws, .replies, .aocb, .store, .log, .can, .pdo, .link, .mem, .sched, .tabor, .sense, .reg, .seq, .update, .test] a0 (actSeqDisable a0) := by
  unfold actSeqDisable
  split
  apply Moves.refl
  extract_lets +onlyGivenNames x; clear_value x
  focus
    extract_lets +onlyGivenNames x; refine Moves.use x ?_ (fun hx => ?_); unfold x; clear x; rotate_left; clear_value x; rotate_right
  with_reducible apply Moves.app (own_frame ..); decide
  with_reducible apply Moves.app (issueStep_frame ..); decide
  apply Moves.refl
  extract_lets +onlyGivenNames x; clear_value x
  focus
    extract_lets +onlyGivenNames x; refine Moves.use x ?_ (fun hx => ?_); unfold x; clear x; rotate_left; clear_value x; rotate_right
  with_reducible apply Moves.app (State.setSup_frame ..); decide
  assumption
  with_reducible apply Moves.app (stepDone_frame ..); decide
  with_reducible apply Moves.app (refreshErrors_frame ..); decide
  with_reducible apply Moves.app (railDisable_frame ..); decide
  assumption

theorem retarget_frame (a0 : State) (a1 : Nat) (a2 : Nat) : Moves [.od, .reg] a0 (retarget a0 a1 a2) := by
  unfold retarget
  focus
    extract_lets +onlyGivenNames x; refine Moves.use x ?_ (fun hx => ?_); unfold x; clear x; rotate_left; clear_value x; rotate_right
  with_reducible apply Moves.app (own_frame ..); decide
  apply Moves.refl
  with_reducible apply Moves.ite
  with_reducible apply Moves.app (State.setSup_frame ..); decide
  assumption
  with_reducible apply Moves.ite
  with_reducible apply Moves.app (railCommand_frame ..); decide
  assumption
  assumption

theorem actSeqEnable_frame (a0 : Nat) (a1 : Nat) (a2 : State) : Moves [.od, .draws, .replies, .aocb, .store, .log, .can, .pdo, .link, .mem, .sched, .tabor, .sense, .reg, .seq, .update, .test] a2 (actSeqEnable a0 a1 a2) := by
  unfold actSeqEnable
  split
  apply Moves.refl
  extract_lets +onlyGivenNames x; clear_value x
  extract_lets +onlyGivenNames x; clear_value x
  focus
    extract_lets +onlyGivenNames x; refine Moves.use x ?_ (fun hx => ?_); unfold x; clear x; rotate_left; clear_value x; rotate_right
  with_reducible apply Moves.app (issueStep_frame ..); decide
  apply Moves.refl
  with_reducible apply Moves.ite
  focus
    extract_lets +onlyGivenNames x; refine Moves.use x ?_ (fun hx => ?_); unfold x; clear x; rotate_left; clear_value x; rotate_right
  with_reducible apply Moves.ite
  with_reducible apply Moves.app (refuseSense_frame ..); decide
  assumption
  assumption
  with_reducible apply Moves.ite
  with_reducible apply Moves.app (failStep_frame ..); decide
  assumption
  with_reducible apply Moves.app (stepDone_frame ..); decide
  assumption
  with_reducible apply Moves.ite
  with_reducible apply Moves.app (stepDone_frame ..); decide
  with_reducible apply Moves.app (retarget_frame ..); decide
  assumption
  extract_lets +onlyGivenNames x; clear_value x
  focus
    extract_lets +onlyGivenNames x; refine Moves.use x ?_ (fun hx => ?_); unfold x; clear x; rotate_left; clear_value x; rotate_right
  with_reducible apply Moves.app (own_frame ..); decide
  with_reducible apply Moves.app (State.setSup_frame ..); decide
  assumption
  with_reducible apply Moves.app (stepDone_frame ..); decide
  with_reducible apply Moves.app (refreshErrors_frame ..); decide
  with_reducible apply Moves.app (railEnable_frame ..); decide
  assumption

theorem disableRest_frame (a0 : State) (a1 : Bool) : Moves [.od, .reg] a0 (disableRest a0 a1) := by
  unfold disableRest
  with_reducible apply Moves.foldl; intro _ _ _
  with_reducible apply Moves.app (railDisable_frame ..); decide
  assumption
  apply Moves.refl

theorem completed_frame (a0 : State) : Moves [.od] a0 (completed a0) := by
  unfold completed
  with_reducible apply Moves.app (State.count_frame ..); decide
  apply Moves.refl

theorem finishRun_frame (a0 : State) (a1 : Run) : Moves [.od, .draws, .replies, .aocb, .store, .log, .can, .pdo, .link, .mem, .sched, .tabor, .sense, .touch, .reg, .seq, .update, .test] a0 (finishRun a0 a1) := by
  unfold finishRun
  focus
    extract_lets +onlyGivenNames x; refine Moves.use x ?_ (fun hx => ?_); unfold x; clear x; rotate_left; clear_value x; rotate_right
  with_reducible apply Moves.app (State.setRun_frame ..); decide
  with_reducible apply Moves.app (releaseRails_frame ..); decide
  apply Moves.refl
  with_reducible apply Moves.ite
  extract_lets +onlyGivenNames x; clear_value x
  extract_lets +onlyGivenNames x; clear_value x
  focus
    extract_lets +onlyGivenNames x; refine Moves.use x ?_ (fun hx => ?_); unfold x; clear x; rotate_left; clear_value x; rotate_right
  refine Moves.update ?_
  assumption
  assumption
  focus
    extract_lets +onlyGivenNames x; refine Moves.use x ?_ (fun hx => ?_); unfold x; clear x; rotate_left; clear_value x; rotate_right
  split
  with_reducible apply Moves.app (climb_frame ..); decide
  assumption
  with_reducible apply Moves.app (descend_frame ..); decide
  assumption
  extract_lets +onlyGivenNames x; clear_value x
  focus
    extract_lets +onlyGivenNames x; refine Moves.use x ?_ (fun hx => ?_); unfold x; clear x; rotate_left; clear_value x; rotate_right
  refine Moves.update ?_
  assumption
  focus
    extract_lets +onlyGivenNames x; refine Moves.use x ?_ (fun hx => ?_); unfold x; clear x; rotate_left; clear_value x; rotate_right
  with_reducible apply Moves.ite
  with_reducible apply Moves.app (clearLatches_frame ..); decide
  assumption
  assumption
  with_reducible apply Moves.ite
  focus
    extract_lets +onlyGivenNames x; refine Moves.use x ?_ (fun hx => ?_); unfold x; clear x; rotate_left; clear_value x; rotate_right
  with_reducible apply Moves.app (completed_frame ..); decide
  assumption
  with_reducible apply Moves.ite
  assumption
  refine Moves.update ?_
  assumption
  with_reducible apply Moves.app (startTransition_frame ..); decide
  assumption

theorem actSeqEnd_frame (a0 : State) : Moves [.od, .draws, .replies, .aocb, .store, .log, .can, .pdo, .link, .mem, .sched, .tabor, .sense, .touch, .reg, .seq, .update, .test] a0 (actSeqEnd a0) := by
  unfold actSeqEnd
  split
  apply Moves.refl
  with_reducible apply Moves.ite
  focus
    extract_lets +onlyGivenNames x; refine Moves.use x ?_ (fun hx => ?_); unfold x; clear x; rotate_left; clear_value x; rotate_right
  with_reducible apply Moves.app (disableRest_frame ..); decide
  apply Moves.refl
  refine Moves.update ?_
  assumption
  with_reducible apply Moves.ite
  focus
    extract_lets +onlyGivenNames x; refine Moves.use x ?_ (fun hx => ?_); unfold x; clear x; rotate_left; clear_value x; rotate_right
  with_reducible apply Moves.app (State.set_frame ..); decide
  with_reducible apply Moves.app (disableRest_frame ..); decide
  apply Moves.refl
  refine Moves.update ?_
  assumption
  with_reducible apply Moves.app (finishRun_frame ..); decide
  apply Moves.refl

theorem actSeqExenHigh_frame (a0 : State) : Moves [.od, .draws, .replies, .aocb, .store, .log, .can, .pdo, .link, .mem, .sched, .tabor, .sense, .seq, .update, .test] a0 (actSeqExenHigh a0) := by
  unfold actSeqExenHigh
  split
  apply Moves.refl
  with_reducible apply Moves.app (stepDone_frame ..); decide
  with_reducible apply Moves.app (State.setFlag_frame ..); decide
  with_reducible apply Moves.app (issueStep_frame ..); decide
  apply Moves.refl

theorem actSeqExenLow_frame (a0 : State) : Moves [.od, .draws, .replies, .aocb, .store, .log, .can, .pdo, .link, .mem, .sched, .tabor, .sense, .seq, .update, .test] a0 (actSeqExenLow a0) := by
  unfold actSeqExenLow
  split
  apply Moves.refl
  with_reducible apply Moves.app (stepDone_frame ..); decide
  with_reducible apply Moves.app (State.setFlag_frame ..); decide
  with_reducible apply Moves.app (issueStep_frame ..); decide
  apply Moves.refl

theorem actSeqLinkOff_frame (a0 : State) : Moves [.od, .draws, .replies, .aocb, .store, .log, .can, .pdo, .link, .mem, .sched, .tabor, .sense, .seq, .update, .test] a0 (actSeqLinkOff a0) := by
  unfold actSeqLinkOff
  split
  apply Moves.refl
  with_reducible apply Moves.app (stepDone_frame ..); decide
  with_reducible apply Moves.app (setHostUp_frame ..); decide
  with_reducible apply Moves.app (issueStep_frame ..); decide
  apply Moves.refl

theorem actSeqLinkOn_frame (a0 : State) : Moves [.od, .draws, .replies, .aocb, .store, .log, .can, .pdo, .link, .mem, .sched, .tabor, .sense, .seq, .update, .test] a0 (actSeqLinkOn a0) := by
  unfold actSeqLinkOn
  split
  apply Moves.refl
  with_reducible apply Moves.app (stepDone_frame ..); decide
  with_reducible apply Moves.app (setHostUp_frame ..); decide
  with_reducible apply Moves.app (issueStep_frame ..); decide
  apply Moves.refl

theorem actSeqRetarget_frame (a0 : State) : Moves [.od, .draws, .replies, .aocb, .store, .log, .can, .pdo, .link, .mem, .sched, .tabor, .sense, .reg, .seq, .update, .test] a0 (actSeqRetarget a0) := by
  unfold actSeqRetarget
  split
  apply Moves.refl
  focus
    extract_lets +onlyGivenNames x; refine Moves.use x ?_ (fun hx => ?_); unfold x; clear x; rotate_left; clear_value x; rotate_right
  with_reducible apply Moves.app (issueStep_frame ..); decide
  apply Moves.refl
  with_reducible apply Moves.app (stepDone_frame ..); decide
  with_reducible apply Moves.app (retarget_frame ..); decide
  assumption

theorem pgPassed_frame (a0 : State) (a1 : Run) (a2 : Nat) : Moves [.seq] a0 (pgPassed a0 a1 a2) := by
  unfold pgPassed
  with_reducible apply Moves.ite
  extract_lets +onlyGivenNames x; clear_value x
  refine Moves.update ?_
  apply Moves.refl
  apply Moves.refl

theorem actSeqWaitPg_frame (a0 : Bool) (a1 : State) : Moves [.od, .draws, .replies, .aocb, .store, .log, .can, .pdo, .link, .mem, .sched, .tabor, .sense, .seq, .update, .test] a1 (actSeqWaitPg a0 a1) := by
  unfold actSeqWaitPg
  split
  apply Moves.refl
  focus
    extract_lets +onlyGivenNames x; refine Moves.use x ?_ (fun hx => ?_); unfold x; clear x; rotate_left; clear_value x; rotate_right
  with_reducible apply Moves.app (State.setFlag_frame ..); decide
  with_reducible apply Moves.app (issueStep_frame ..); decide
  apply Moves.refl
  with_reducible apply Moves.ite
  with_reducible apply Moves.app (stepDone_frame ..); decide
  with_reducible apply Moves.app (pgPassed_frame ..); decide
  assumption
  with_reducible apply Moves.app (waitFor_frame ..); decide
  assumption

theorem actSeqWaitPgLow_frame (a0 : Bool) (a1 : State) : Moves [.od, .draws, .replies, .aocb, .store, .log, .can, .pdo, .link, .mem, .sched, .tabor, .sense, .seq, .update, .test] a1 (actSeqWaitPgLow a0 a1) := by
  unfold actSeqWaitPgLow
  split
  apply Moves.refl
  focus
    extract_lets +onlyGivenNames x; refine Moves.use x ?_ (fun hx => ?_); unfold x; clear x; rotate_left; clear_value x; rotate_right
  with_reducible apply Moves.app (State.setFlag_frame ..); decide
  with_reducible apply Moves.app (issueStep_frame ..); decide
  apply Moves.refl
  with_reducible apply Moves.ite
  with_reducible apply Moves.app (waitFor_frame ..); decide
  assumption
  with_reducible apply Moves.app (stepDone_frame ..); decide
  assumption

theorem actSeqWaitRail_frame (a0 : State) : Moves [.od, .draws, .replies, .aocb, .store, .log, .can, .pdo, .link, .mem, .sched, .tabor, .sense, .seq, .update, .test] a0 (actSeqWaitRail a0) := by
  unfold actSeqWaitRail
  split
  apply Moves.refl
  focus
    extract_lets +onlyGivenNames x; refine Moves.use x ?_ (fun hx => ?_); unfold x; clear x; rotate_left; clear_value x; rotate_right
  with_reducible apply Moves.app (issueStep_frame ..); decide
  apply Moves.refl
  with_reducible apply Moves.ite
  with_reducible apply Moves.app (stepDone_frame ..); decide
  assumption
  with_reducible apply Moves.app (waitFor_frame ..); decide
  assumption

theorem actServiceRequest_frame (a0 : State) : Moves [.od, .draws, .replies, .aocb, .store, .log, .can, .pdo, .link, .mem, .sched, .tabor, .sense, .touch, .reg, .seq, .update, .test] a0 (actServiceRequest a0) := by
  unfold actServiceRequest
  with_reducible apply Moves.ite
  apply Moves.refl
  focus
    extract_lets +onlyGivenNames x; refine Moves.use x ?_ (fun hx => ?_); unfold x; clear x; rotate_left; clear_value x; rotate_right
  with_reducible apply Moves.app (raise_frame ..); decide
  with_reducible apply Moves.app (State.count_frame ..); decide
  apply Moves.refl
  with_reducible apply Moves.ite
  with_reducible apply Moves.app (powerRequest_frame ..); decide
  assumption
  assumption

theorem actSettleTimeExpiry_frame (a0 : Fin 16) (a1 : State) : Moves [.od, .draws, .replies, .aocb, .store, .log, .can, .pdo, .link, .mem, .sched, .tabor, .sense, .touch, .reg, .seq, .update, .test] a1 (actSettleTimeExpiry a0 a1) := by
  unfold actSettleTimeExpiry
  with_reducible apply Moves.app (afterFault_frame ..); decide
  with_reducible apply Moves.app (settleEnds_frame ..); decide
  apply Moves.refl

theorem actShipEntry_frame (a0 : Bool) (a1 : PackRead) (a2 : State) : Moves [.od, .live, .draws, .power, .clocks, .aocb, .beat, .store, .log, .can, .pdo, .link, .mem, .sched, .tabor, .sense, .touch, .reg, .seq, .pack, .thermal, .update, .test] a2 (actShipEntry a0 a1 a2) := by
  unfold actShipEntry
  with_reducible apply Moves.ite
  focus
    extract_lets +onlyGivenNames x; refine Moves.use x ?_ (fun hx => ?_); unfold x; clear x; rotate_left; clear_value x; rotate_right
  with_reducible apply Moves.ite
  with_reducible apply Moves.app (lifeWriteBack_frame ..); decide
  apply Moves.refl
  apply Moves.refl
  with_reducible apply Moves.app (packPending_frame ..); decide
  with_reducible apply Moves.app (restIn_frame ..); decide
  assumption
  apply Moves.refl

theorem restartTcrit_frame (a0 : State) : Moves [.thermal] a0 (restartTcrit a0) := by
  unfold restartTcrit
  refine Moves.update ?_
  apply Moves.refl

theorem actShipExitPress_frame (a0 : State) : Moves [.od, .aocb, .thermal] a0 (actShipExitPress a0) := by
  unfold actShipExitPress
  with_reducible apply Moves.ite
  focus
    extract_lets +onlyGivenNames x; refine Moves.use x ?_ (fun hx => ?_); unfold x; clear x; rotate_left; clear_value x; rotate_right
  with_reducible apply Moves.app (restartTcrit_frame ..); decide
  with_reducible apply Moves.app (State.count_frame ..); decide
  apply Moves.refl
  refine Moves.update ?_
  assumption
  apply Moves.refl

theorem startFromVin_frame (a0 : State) : Moves [.od, .live, .draws, .power, .clocks, .aocb, .beat, .store, .log, .can, .pdo, .link, .mem, .sched, .tabor, .sense, .touch, .reg, .seq, .pack, .thermal, .update, .test] a0 (startFromVin a0) := by
  unfold startFromVin
  focus
    extract_lets +onlyGivenNames x; refine Moves.use x ?_ (fun hx => ?_); unfold x; clear x; rotate_left; clear_value x; rotate_right
  with_reducible apply Moves.app (State.set_frame ..); decide
  with_reducible apply Moves.app (resetDomains_frame ..); decide
  apply Moves.refl
  with_reducible apply Moves.app (resumeSupply_frame ..); decide
  refine Moves.update ?_
  assumption

theorem actShipExitVin_frame (a0 : State) : Moves [.od, .live, .draws, .power, .clocks, .aocb, .beat, .store, .log, .can, .pdo, .link, .mem, .sched, .tabor, .sense, .touch, .reg, .seq, .pack, .thermal, .update, .test] a0 (actShipExitVin a0) := by
  unfold actShipExitVin
  with_reducible apply Moves.ite
  with_reducible apply Moves.app (startFromVin_frame ..); decide
  with_reducible apply Moves.app (restartTcrit_frame ..); decide
  refine Moves.update ?_
  apply Moves.refl
  apply Moves.refl

theorem actShortPress_frame (a0 : State) : Moves [.od, .live, .draws, .power, .clocks, .aocb, .beat, .store, .log, .can, .pdo, .link, .mem, .sched, .tabor, .sense, .touch, .reg, .seq, .pack, .thermal, .update, .test] a0 (actShortPress a0) := by
  unfold actShortPress
  with_reducible apply Moves.ite
  apply Moves.refl
  with_reducible apply Moves.ite
  with_reducible apply Moves.ite
  with_reducible apply Moves.app (startFromVin_frame ..); decide
  with_reducible apply Moves.app (State.count_frame ..); decide
  apply Moves.refl
  with_reducible apply Moves.ite
  focus
    extract_lets +onlyGivenNames x; refine Moves.use x ?_ (fun hx => ?_); unfold x; clear x; rotate_left; clear_value x; rotate_right
  with_reducible apply Moves.app (State.set_frame ..); decide
  with_reducible apply Moves.app (resetDomains_frame ..); decide
  with_reducible apply Moves.app (State.count_frame ..); decide
  apply Moves.refl
  with_reducible apply Moves.app (resumeSupply_frame ..); decide
  refine Moves.update ?_
  assumption
  with_reducible apply Moves.app (State.count_frame ..); decide
  apply Moves.refl
  with_reducible apply Moves.app (raise_frame ..); decide
  with_reducible apply Moves.app (State.count_frame ..); decide
  apply Moves.refl

theorem actSnapshotTimer_frame (a0 : State) : Moves [.od, .log, .link, .sched] a0 (actSnapshotTimer a0) := by
  unfold actSnapshotTimer
  with_reducible apply Moves.ite
  with_reducible apply Moves.app (queueLog_frame ..); decide
  apply Moves.refl
  apply Moves.refl

theorem actSpeedAlarm_frame (a0 : Fin 4) (a1 : Fin 3) (a2 : State) : Moves [.od, .log, .can, .pdo, .link, .sched] a2 (actSpeedAlarm a0 a1 a2) := by
  unfold actSpeedAlarm
  extract_lets +onlyGivenNames x; clear_value x
  extract_lets +onlyGivenNames x; clear_value x
  extract_lets +onlyGivenNames x; clear_value x
  with_reducible apply Moves.ite
  apply Moves.refl
  with_reducible apply Moves.ite
  with_reducible apply Moves.app (refreshFan_frame ..); decide
  with_reducible apply Moves.app (State.setFlag_frame ..); decide
  apply Moves.refl
  with_reducible apply Moves.ite
  apply Moves.refl
  with_reducible apply Moves.app (refreshFan_frame ..); decide
  with_reducible apply Moves.app (raise_frame ..); decide
  with_reducible apply Moves.app (emcyLog_frame ..); decide
  with_reducible apply Moves.app (State.setFlag_frame ..); decide
  apply Moves.refl

theorem actSpinupEnd_frame (a0 : Fin 4) (a1 : State) : Moves [.od, .thermal] a1 (actSpinupEnd a0 a1) := by
  unfold actSpinupEnd
  extract_lets +onlyGivenNames x; clear_value x
  extract_lets +onlyGivenNames x; clear_value x
  with_reducible apply Moves.ite
  apply Moves.refl
  extract_lets +onlyGivenNames x; clear_value x
  with_reducible apply Moves.app (refreshFan_frame ..); decide
  with_reducible apply Moves.app (fanDuty_frame ..); decide
  with_reducible apply Moves.app (State.setFan_frame ..); decide
  apply Moves.refl

theorem actStallAlarmClear_frame (a0 : Fin 4) (a1 : State) : Moves [.od, .thermal] a1 (actStallAlarmClear a0 a1) := by
  unfold actStallAlarmClear
  extract_lets +onlyGivenNames x; clear_value x
  with_reducible apply Moves.ite
  apply Moves.refl
  with_reducible apply Moves.app (refreshFan_frame ..); decide
  with_reducible apply Moves.app (clearStall_frame ..); decide
  with_reducible apply Moves.app (State.setFan_frame ..); decide
  apply Moves.refl

theorem actStepWaitSatisfied_frame (a0 : State) : Moves [.od, .draws, .replies, .aocb, .store, .log, .can, .pdo, .link, .mem, .sched, .tabor, .sense, .seq, .update, .test] a0 (actStepWaitSatisfied a0) := by
  unfold actStepWaitSatisfied
  split
  apply Moves.refl
  split
  apply Moves.refl
  with_reducible apply Moves.ite
  with_reducible apply Moves.app (stepDone_frame ..); decide
  apply Moves.refl
  apply Moves.refl
  with_reducible apply Moves.app (stepDone_frame ..); decide
  with_reducible apply Moves.app (pgPassed_frame ..); decide
  with_reducible apply Moves.app (State.setFlag_frame ..); decide
  apply Moves.refl
  with_reducible apply Moves.app (stepDone_frame ..); decide
  with_reducible apply Moves.app (State.setFlag_frame ..); decide
  apply Moves.refl
  with_reducible apply Moves.app (stepDone_frame ..); decide
  apply Moves.refl

theorem waitTimesOut_frame (a0 : State) (a1 : Run) : Moves [.od, .draws, .replies, .aocb, .store, .log, .can, .pdo, .link, .mem, .sched, .tabor, .sense, .seq, .update, .test] a0 (waitTimesOut a0 a1) := by
  unfold waitTimesOut
  with_reducible apply Moves.ite
  with_reducible apply Moves.app (failStep_frame ..); decide
  apply Moves.refl
  extract_lets +onlyGivenNames x; clear_value x
  with_reducible apply Moves.app (stepDone_frame ..); decide
  with_reducible apply Moves.app (logStateChange_frame ..); decide
  apply Moves.refl

theorem actStepWaitTimeout_frame (a0 : State) : Moves [.od, .draws, .replies, .aocb, .store, .log, .can, .pdo, .link, .mem, .sched, .tabor, .sense, .seq, .update, .test] a0 (actStepWaitTimeout a0) := by
  unfold actStepWaitTimeout
  split
  apply Moves.refl
  split
  apply Moves.refl
  with_reducible apply Moves.app (stepDone_frame ..); decide
  apply Moves.refl
  with_reducible apply Moves.app (waitTimesOut_frame ..); decide
  apply Moves.refl

theorem lssStored_frame (a0 : State) (a1 : Image) : Moves [.od] a0 (lssStored a0 a1) := by
  unfold lssStored
  with_reducible apply Moves.app (State.set_frame ..); decide
  with_reducible apply Moves.app (State.set_frame ..); decide
  apply Moves.refl

theorem endJob_frame (a0 : State) (a1 : StoreJob) (a2 : Status) : Moves [.od, .draws, .replies, .store, .log, .can, .pdo, .link, .mem, .sched, .tabor, .test] a0 (endJob a0 a1 a2) := by
  unfold endJob
  extract_lets +onlyGivenNames x; clear_value x
  extract_lets +onlyGivenNames x; clear_value x
  focus
    extract_lets +onlyGivenNames x; refine Moves.use x ?_ (fun hx => ?_); unfold x; clear x; rotate_left; clear_value x; rotate_right
  refine Moves.update ?_
  apply Moves.refl
  focus
    extract_lets +onlyGivenNames x; refine Moves.use x ?_ (fun hx => ?_); unfold x; clear x; rotate_left; clear_value x; rotate_right
  with_reducible apply Moves.ite
  with_reducible apply Moves.app (importEnds_frame ..); decide
  assumption
  assumption
  focus
    extract_lets +onlyGivenNames x; refine Moves.use x ?_ (fun hx => ?_); unfold x; clear x; rotate_left; clear_value x; rotate_right
  with_reducible apply Moves.ite
  with_reducible apply Moves.app (lssStored_frame ..); decide
  assumption
  assumption
  with_reducible apply Moves.app (answerAsker_frame ..); decide
  with_reducible apply Moves.app (refreshCopies_frame ..); decide
  with_reducible apply Moves.app (State.set_frame ..); decide
  assumption

theorem passCopy_frame (a0 : State) (a1 : StoreJob) : Moves [.od, .draws, .replies, .store, .log, .can, .pdo, .link, .mem, .sched, .tabor, .test] a0 (passCopy a0 a1) := by
  unfold passCopy
  extract_lets +onlyGivenNames x; clear_value x
  extract_lets +onlyGivenNames x; clear_value x
  focus
    extract_lets +onlyGivenNames x; refine Moves.use x ?_ (fun hx => ?_); unfold x; clear x; rotate_left; clear_value x; rotate_right
  refine Moves.update ?_
  apply Moves.refl
  with_reducible apply Moves.ite
  with_reducible apply Moves.app (endJob_frame ..); decide
  with_reducible apply Moves.app (State.count_frame ..); decide
  assumption
  with_reducible apply Moves.ite
  with_reducible apply Moves.app (startCopy_frame ..); decide
  assumption
  with_reducible apply Moves.app (endJob_frame ..); decide
  with_reducible apply Moves.app (State.set_frame ..); decide
  with_reducible apply Moves.app (State.set_frame ..); decide
  with_reducible apply Moves.app (State.count_frame ..); decide
  assumption

theorem failJob_frame (a0 : State) (a1 : StoreJob) : Moves [.od, .draws, .replies, .store, .log, .can, .pdo, .link, .mem, .sched, .tabor, .test] a0 (failJob a0 a1) := by
  unfold failJob
  focus
    extract_lets +onlyGivenNames x; refine Moves.use x ?_ (fun hx => ?_); unfold x; clear x; rotate_left; clear_value x; rotate_right
  with_reducible apply Moves.ite
  apply Moves.refl
  with_reducible apply Moves.app (State.set_frame ..); decide
  apply Moves.refl
  focus
    extract_lets +onlyGivenNames x; refine Moves.use x ?_ (fun hx => ?_); unfold x; clear x; rotate_left; clear_value x; rotate_right
  with_reducible apply Moves.ite
  with_reducible apply Moves.app (State.set_frame ..); decide
  assumption
  assumption
  focus
    extract_lets +onlyGivenNames x; refine Moves.use x ?_ (fun hx => ?_); unfold x; clear x; rotate_left; clear_value x; rotate_right
  with_reducible apply Moves.app (emcyLog_frame ..); decide
  assumption
  with_reducible apply Moves.app (endJob_frame ..); decide
  assumption

theorem actStoreCopyComplete_frame (a0 : Bool) (a1 : State) : Moves [.od, .draws, .replies, .store, .log, .can, .pdo, .link, .mem, .sched, .tabor, .test] a1 (actStoreCopyComplete a0 a1) := by
  unfold actStoreCopyComplete
  split
  apply Moves.refl
  with_reducible apply Moves.ite
  with_reducible apply Moves.app (passCopy_frame ..); decide
  apply Moves.refl
  with_reducible apply Moves.ite
  with_reducible apply Moves.app (startCopy_frame ..); decide
  apply Moves.refl
  with_reducible apply Moves.app (failJob_frame ..); decide
  apply Moves.refl

theorem actStoreRepair_frame (a0 : State) : Moves [.od, .store] a0 (actStoreRepair a0) := by
  unfold actStoreRepair
  split
  with_reducible apply Moves.ite
  extract_lets +onlyGivenNames x; clear_value x
  focus
    extract_lets +onlyGivenNames x; refine Moves.use x ?_ (fun hx => ?_); unfold x; clear x; rotate_left; clear_value x; rotate_right
  refine Moves.update ?_
  apply Moves.refl
  with_reducible apply Moves.app (startCopy_frame ..); decide
  with_reducible apply Moves.app (State.set_frame ..); decide
  assumption
  apply Moves.refl
  apply Moves.refl

theorem actSupervisorComparatorRelease_frame (a0 : Fin 16) (a1 : Fin 3) (a2 : Nat) (a3 : State) : Moves [.od, .draws, .can, .pdo, .link, .reg] a3 (actSupervisorComparatorRelease a0 a1 a2 a3) := by
  unfold actSupervisorComparatorRelease
  with_reducible apply Moves.app (comparatorReleases_frame ..); decide
  apply Moves.refl

theorem actSupervisorFault_frame (a0 : Fin 16) (a1 : Fin 3) (a2 : Nat) (a3 : State) : Moves [.od, .draws, .replies, .aocb, .store, .log, .can, .pdo, .link, .mem, .sched, .tabor, .sense, .touch, .reg, .seq, .update, .test] a3 (actSupervisorFault a0 a1 a2 a3) := by
  unfold actSupervisorFault
  with_reducible apply Moves.app (afterFault_frame ..); decide
  with_reducible apply Moves.app (comparatorAsserts_frame ..); decide
  apply Moves.refl

theorem actTachEdge_frame (a0 : Fin 4) (a1 : Nat) (a2 : State) : Moves [.od, .thermal] a2 (actTachEdge a0 a1 a2) := by
  unfold actTachEdge
  extract_lets +onlyGivenNames x; clear_value x
  extract_lets +onlyGivenNames x; clear_value x
  with_reducible apply Moves.ite
  apply Moves.refl
  extract_lets +onlyGivenNames x; clear_value x
  extract_lets +onlyGivenNames x; clear_value x
  extract_lets +onlyGivenNames x; clear_value x
  focus
    extract_lets +onlyGivenNames x; refine Moves.use x ?_ (fun hx => ?_); unfold x; clear x; rotate_left; clear_value x; rotate_right
  with_reducible apply Moves.app (State.setFan_frame ..); decide
  apply Moves.refl
  focus
    extract_lets +onlyGivenNames x; refine Moves.use x ?_ (fun hx => ?_); unfold x; clear x; rotate_left; clear_value x; rotate_right
  with_reducible apply Moves.app (State.countBy_frame ..); decide
  assumption
  extract_lets +onlyGivenNames x; clear_value x
  focus
    extract_lets +onlyGivenNames x; refine Moves.use x ?_ (fun hx => ?_); unfold x; clear x; rotate_left; clear_value x; rotate_right
  with_reducible apply Moves.ite
  with_reducible apply Moves.app (State.set_frame ..); decide
  assumption
  assumption
  with_reducible apply Moves.app (refreshFan_frame ..); decide
  assumption

theorem actTachTimeout_frame (a0 : Fin 4) (a1 : State) : Moves [.od] a1 (actTachTimeout a0 a1) := by
  unfold actTachTimeout
  with_reducible apply Moves.app (refreshFan_frame ..); decide
  with_reducible apply Moves.app (State.set_frame ..); decide
  apply Moves.refl

theorem actTargetVoltageWrite_frame (a0 : Port) (a1 : Fin 16) (a2 : Nat) (a3 : State) : Moves [.od, .replies, .reg] a3 (actTargetVoltageWrite a0 a1 a2 a3) := by
  unfold actTargetVoltageWrite
  (with_reducible apply portCommand_frame) <;> first | decide | skip
  apply Moves.refl
  with_reducible intro _
  with_reducible apply Moves.app (writeTarget_frame ..); decide
  apply Moves.refl

theorem actTcritDisagree_frame (a0 : Bool) (a1 : State) : Moves [.od, .log, .can, .pdo, .link, .sched] a1 (actTcritDisagree a0 a1) := by
  unfold actTcritDisagree
  with_reducible apply Moves.ite
  with_reducible apply Moves.ite
  apply Moves.refl
  with_reducible apply Moves.app (emcyLog_frame ..); decide
  with_reducible apply Moves.app (State.setFlag_frame ..); decide
  apply Moves.refl
  with_reducible apply Moves.ite
  with_reducible apply Moves.app (State.setFlag_frame ..); decide
  apply Moves.refl
  apply Moves.refl

theorem releaseShdn_frame (a0 : State) : Moves [.od, .log, .can, .pdo, .link, .sched, .thermal] a0 (releaseShdn a0) := by
  unfold releaseShdn
  extract_lets +onlyGivenNames x; clear_value x
  focus
    extract_lets +onlyGivenNames x; refine Moves.use x ?_ (fun hx => ?_); unfold x; clear x; rotate_left; clear_value x; rotate_right
  refine Moves.update ?_
  apply Moves.refl
  with_reducible apply Moves.ite
  with_reducible apply Moves.app (refreshErrors_frame ..); decide
  with_reducible apply Moves.app (logCondition_frame ..); decide
  with_reducible apply Moves.app (State.setFlag_frame ..); decide
  assumption
  assumption

theorem reportShdn_frame (a0 : State) : Moves [.od, .log, .can, .pdo, .link, .sched, .thermal] a0 (reportShdn a0) := by
  unfold reportShdn
  extract_lets +onlyGivenNames x; clear_value x
  focus
    extract_lets +onlyGivenNames x; refine Moves.use x ?_ (fun hx => ?_); unfold x; clear x; rotate_left; clear_value x; rotate_right
  with_reducible apply Moves.app (State.setFlag_frame ..); decide
  with_reducible apply Moves.app (State.count_frame ..); decide
  refine Moves.update ?_
  apply Moves.refl
  with_reducible apply Moves.ite
  assumption
  focus
    extract_lets +onlyGivenNames x; refine Moves.use x ?_ (fun hx => ?_); unfold x; clear x; rotate_left; clear_value x; rotate_right
  with_reducible apply Moves.ite
  with_reducible apply Moves.app (emcyLog_frame ..); decide
  assumption
  with_reducible apply Moves.app (logCondition_frame ..); decide
  assumption
  with_reducible apply Moves.app (refreshErrors_frame ..); decide
  with_reducible apply Moves.app (raiseEv_frame ..); decide
  assumption

theorem actTcritMeasurement_frame (a0 : Int) (a1 : State) : Moves [.od, .log, .can, .pdo, .link, .sched, .thermal] a1 (actTcritMeasurement a0 a1) := by
  unfold actTcritMeasurement
  with_reducible apply Moves.ite
  apply Moves.refl
  extract_lets +onlyGivenNames x; clear_value x
  extract_lets +onlyGivenNames x; clear_value x
  focus
    extract_lets +onlyGivenNames x; refine Moves.use x ?_ (fun hx => ?_); unfold x; clear x; rotate_left; clear_value x; rotate_right
  with_reducible apply Moves.app (State.setS_frame ..); decide
  apply Moves.refl
  extract_lets +onlyGivenNames x; clear_value x
  focus
    extract_lets +onlyGivenNames x; refine Moves.use x ?_ (fun hx => ?_); unfold x; clear x; rotate_left; clear_value x; rotate_right
  refine Moves.update ?_
  assumption
  with_reducible apply Moves.ite
  with_reducible apply Moves.ite
  with_reducible apply Moves.app (releaseShdn_frame ..); decide
  assumption
  with_reducible apply Moves.ite
  with_reducible apply Moves.app (reportShdn_frame ..); decide
  assumption
  assumption
  with_reducible apply Moves.ite
  with_reducible apply Moves.app (reportShdn_frame ..); decide
  refine Moves.update ?_
  assumption
  assumption

theorem thermalOutput_frame (a0 : State) (a1 : Nat) : Moves [.od, .log, .can, .pdo, .link, .sched, .thermal] a0 (thermalOutput a0 a1) := by
  unfold thermalOutput
  with_reducible apply Moves.ite
  extract_lets +onlyGivenNames x; clear_value x
  with_reducible apply Moves.app (State.setS_frame ..); decide
  apply Moves.refl
  with_reducible apply Moves.ite
  focus
    extract_lets +onlyGivenNames x; refine Moves.use x ?_ (fun hx => ?_); unfold x; clear x; rotate_left; clear_value x; rotate_right
  with_reducible apply Moves.app (State.setS_frame ..); decide
  apply Moves.refl
  with_reducible apply Moves.app (State.setS_frame ..); decide
  assumption
  with_reducible apply Moves.ite
  extract_lets +onlyGivenNames x; clear_value x
  split
  with_reducible apply Moves.app (tsReading_frame ..); decide
  apply Moves.refl
  refine Moves.update ?_
  apply Moves.refl
  apply Moves.refl
  apply Moves.refl

theorem chargeThresholds_frame (a0 : State) : Moves [.od, .log, .link, .sched] a0 (chargeThresholds a0) := by
  unfold chargeThresholds
  extract_lets +onlyGivenNames x; clear_value x
  split
  with_reducible apply Moves.ite
  with_reducible apply Moves.app (setChargePhase_frame ..); decide
  apply Moves.refl
  apply Moves.refl
  with_reducible apply Moves.ite
  with_reducible apply Moves.app (setChargePhase_frame ..); decide
  apply Moves.refl
  with_reducible apply Moves.ite
  with_reducible apply Moves.app (setChargePhase_frame ..); decide
  apply Moves.refl
  apply Moves.refl
  with_reducible apply Moves.ite
  with_reducible apply Moves.app (setChargePhase_frame ..); decide
  apply Moves.refl
  with_reducible apply Moves.ite
  with_reducible apply Moves.app (setChargePhase_frame ..); decide
  apply Moves.refl
  apply Moves.refl
  apply Moves.refl

theorem packReadings_frame (a0 : State) : Moves [.od] a0 (packReadings a0) := by
  unfold packReadings
  extract_lets +onlyGivenNames x; clear_value x
  focus
    extract_lets +onlyGivenNames x; refine Moves.use x ?_ (fun hx => ?_); unfold x; clear x; rotate_left; clear_value x; rotate_right
  with_reducible apply Moves.app (State.setFlag_frame ..); decide
  with_reducible apply Moves.app (State.setS_frame ..); decide
  apply Moves.refl
  with_reducible apply Moves.app (State.set_frame ..); decide
  assumption

theorem chargerVoltage_frame (a0 : State) : Moves [.od, .log, .link, .sched, .pack] a0 (chargerVoltage a0) := by
  unfold chargerVoltage
  with_reducible apply Moves.app (chargeThresholds_frame ..); decide
  with_reducible apply Moves.app (chargerReview_frame ..); decide
  with_reducible apply Moves.app (packReadings_frame ..); decide
  apply Moves.refl

theorem refreshCycles_frame (a0 : State) : Moves [.od] a0 (refreshCycles a0) := by
  unfold refreshCycles
  extract_lets +onlyGivenNames x; clear_value x
  with_reducible apply Moves.ite
  apply Moves.refl
  with_reducible apply Moves.app (State.set_frame ..); decide
  apply Moves.refl

theorem lifeIntegrate_frame (a0 : State) (a1 : Nat) : Moves [.od, .log, .can, .pdo, .link, .sched, .pack] a0 (lifeIntegrate a0 a1) := by
  unfold lifeIntegrate
  with_reducible apply Moves.ite
  apply Moves.refl
  extract_lets +onlyGivenNames x; clear_value x
  extract_lets +onlyGivenNames x; clear_value x
  with_reducible apply Moves.ite
  extract_lets +onlyGivenNames x; clear_value x
  with_reducible apply Moves.app (State.set_frame ..); decide
  refine Moves.update ?_
  apply Moves.refl
  extract_lets +onlyGivenNames x; clear_value x
  extract_lets +onlyGivenNames x; clear_value x
  extract_lets +onlyGivenNames x; clear_value x
  focus
    extract_lets +onlyGivenNames x; refine Moves.use x ?_ (fun hx => ?_); unfold x; clear x; rotate_left; clear_value x; rotate_right
  refine Moves.update ?_
  apply Moves.refl
  focus
    extract_lets +onlyGivenNames x; refine Moves.use x ?_ (fun hx => ?_); unfold x; clear x; rotate_left; clear_value x; rotate_right
  with_reducible apply Moves.app (State.set_frame ..); decide
  with_reducible apply Moves.app (State.set_frame ..); decide
  assumption
  with_reducible apply Moves.app (judgeEol_frame ..); decide
  with_reducible apply Moves.app (refreshCycles_frame ..); decide
  assumption

theorem packTemperature_frame (a0 : State) : Moves [.od, .log, .can, .pdo, .link, .sched, .pack] a0 (packTemperature a0) := by
  unfold packTemperature
  with_reducible apply Moves.ite
  apply Moves.refl
  extract_lets +onlyGivenNames x; clear_value x
  extract_lets +onlyGivenNames x; clear_value x
  focus
    extract_lets +onlyGivenNames x; refine Moves.use x ?_ (fun hx => ?_); unfold x; clear x; rotate_left; clear_value x; rotate_right
  with_reducible apply Moves.app (State.setS_frame ..); decide
  apply Moves.refl
  focus
    extract_lets +onlyGivenNames x; refine Moves.use x ?_ (fun hx => ?_); unfold x; clear x; rotate_left; clear_value x; rotate_right
  split
  with_reducible apply Moves.ite
  assumption
  with_reducible apply Moves.app (emcyLog_frame ..); decide
  with_reducible apply Moves.app (State.setFlag_frame ..); decide
  assumption
  with_reducible apply Moves.ite
  with_reducible apply Moves.app (State.setFlag_frame ..); decide
  assumption
  assumption
  with_reducible apply Moves.app (chargerReview_frame ..); decide
  with_reducible apply Moves.app (State.set_frame ..); decide
  assumption

theorem chargeDone_frame (a0 : State) (a1 : Bool) (a2 : PackRead) : Moves [.od, .log, .can, .pdo, .link, .sched, .pack] a0 (chargeDone a0 a1 a2) := by
  unfold chargeDone
  with_reducible apply Moves.app (writeBackDue_frame ..); decide
  with_reducible apply Moves.app (setChargePhase_frame ..); decide
  apply Moves.refl

theorem actTerminationTimeout_frame (a0 : Bool) (a1 : PackRead) (a2 : State) : Moves [.od, .log, .can, .pdo, .link, .sched, .pack] a2 (actTerminationTimeout a0 a1 a2) := by
  unfold actTerminationTimeout
  with_reducible apply Moves.ite
  apply Moves.refl
  with_reducible apply Moves.ite
  with_reducible apply Moves.app (chargeDone_frame ..); decide
  apply Moves.refl
  with_reducible apply Moves.app (setChargePhase_frame ..); decide
  apply Moves.refl

theorem setCalendar_frame (a0 : State) (a1 : Nat) : Moves [.od, .log, .link, .sched] a0 (setCalendar a0 a1) := by
  unfold setCalendar
  extract_lets +onlyGivenNames x; clear_value x
  extract_lets +onlyGivenNames x; clear_value x
  extract_lets +onlyGivenNames x; clear_value x
  extract_lets +onlyGivenNames x; clear_value x
  extract_lets +onlyGivenNames x; clear_value x
  focus
    extract_lets +onlyGivenNames x; refine Moves.use x ?_ (fun hx => ?_); unfold x; clear x; rotate_left; clear_value x; rotate_right
  with_reducible apply Moves.app (State.set_frame ..); decide
  with_reducible apply Moves.app (State.setFlag_frame ..); decide
  with_reducible apply Moves.app (State.set_frame ..); decide
  apply Moves.refl
  extract_lets +onlyGivenNames x; clear_value x
  focus
    extract_lets +onlyGivenNames x; refine Moves.use x ?_ (fun hx => ?_); unfold x; clear x; rotate_left; clear_value x; rotate_right
  refine Moves.update ?_
  assumption
  with_reducible apply Moves.ite
  with_reducible apply Moves.app (queueLog_frame ..); decide
  with_reducible apply Moves.app (State.count_frame ..); decide
  assumption
  assumption

theorem actTmonShutdown_frame (a0 : Fin 4) (a1 : Nat) (a2 : State) : Moves [.od, .draws, .replies, .aocb, .store, .log, .can, .pdo, .link, .mem, .sched, .tabor, .sense, .touch, .reg, .seq, .update, .test] a2 (actTmonShutdown a0 a1 a2) := by
  unfold actTmonShutdown
  with_reducible apply Moves.app (afterFault_frame ..); decide
  with_reducible apply Moves.app (tmonShutdown_frame ..); decide
  apply Moves.refl

theorem actTopoffExpiry_frame (a0 : Bool) (a1 : PackRead) (a2 : State) : Moves [.od, .log, .can, .pdo, .link, .sched, .pack] a2 (actTopoffExpiry a0 a1 a2) := by
  unfold actTopoffExpiry
  with_reducible apply Moves.ite
  with_reducible apply Moves.app (chargeDone_frame ..); decide
  apply Moves.refl
  apply Moves.refl

theorem actTransitionRetry_frame (a0 : State) : Moves [.od, .draws, .replies, .aocb, .store, .log, .can, .pdo, .link, .mem, .sched, .tabor, .sense, .touch, .reg, .seq, .update, .test] a0 (actTransitionRetry a0) := by
  unfold actTransitionRetry
  with_reducible apply Moves.ite
  with_reducible apply Moves.app (startTransition_frame ..); decide
  apply Moves.refl
  apply Moves.refl

theorem ontoPack_frame (a0 : State) : Moves [.od, .power, .log, .link, .sched, .pack] a0 (ontoPack a0) := by
  unfold ontoPack
  extract_lets +onlyGivenNames x; clear_value x
  focus
    extract_lets +onlyGivenNames x; refine Moves.use x ?_ (fun hx => ?_); unfold x; clear x; rotate_left; clear_value x; rotate_right
  refine Moves.update ?_
  apply Moves.refl
  with_reducible apply Moves.app (chargerReview_frame ..); decide
  focus
    extract_lets +onlyGivenNames x; refine Moves.use x ?_ (fun hx => ?_); unfold x; clear x; rotate_left; clear_value x; rotate_right
  with_reducible apply Moves.app (State.set_frame ..); decide
  assumption
  refine Moves.update ?_
  assumption

theorem vinLostActs_frame (a0 : State) (a1 : Bool) : Moves [.od, .live, .draws, .replies, .power, .clocks, .aocb, .beat, .store, .log, .can, .pdo, .link, .mem, .sched, .tabor, .sense, .touch, .reg, .seq, .pack, .thermal, .update, .test] a0 (vinLostActs a0 a1) := by
  unfold vinLostActs
  focus
    extract_lets +onlyGivenNames x; refine Moves.use x ?_ (fun hx => ?_); unfold x; clear x; rotate_left; clear_value x; rotate_right
  with_reducible apply Moves.app (abandonExchange_frame ..); decide
  apply Moves.refl
  with_reducible apply Moves.ite
  with_reducible apply Moves.app (ontoPack_frame ..); decide
  assumption
  with_reducible apply Moves.ite
  with_reducible apply Moves.app (abandonStartup_frame ..); decide
  assumption
  with_reducible apply Moves.ite
  with_reducible apply Moves.app (abandonStartup_frame ..); decide
  assumption
  with_reducible apply Moves.app (collapse_frame ..); decide
  with_reducible apply Moves.app (dropResetOrder_frame ..); decide
  with_reducible apply Moves.ite
  with_reducible apply Moves.app (recordCause_frame ..); decide
  assumption
  assumption

theorem logInterruption_frame (a0 : State) (a1 : LossOutcome) : Moves [.od, .log, .link, .sched] a0 (logInterruption a0 a1) := by
  unfold logInterruption
  with_reducible apply Moves.app (queueLog_frame ..); decide
  apply Moves.refl

theorem setLossDur_frame (a0 : State) (a1 : Nat) : Moves [.power, .aocb] a0 (setLossDur a0 a1) := by
  unfold setLossDur
  extract_lets +onlyGivenNames x; clear_value x
  refine Moves.update ?_
  apply Moves.refl

theorem offPack_frame (a0 : State) : Moves [.od, .power, .log, .link, .sched, .seq, .pack] a0 (offPack a0) := by
  unfold offPack
  extract_lets +onlyGivenNames x; clear_value x
  extract_lets +onlyGivenNames x; clear_value x
  extract_lets +onlyGivenNames x; clear_value x
  extract_lets +onlyGivenNames x; clear_value x
  focus
    extract_lets +onlyGivenNames x; refine Moves.use x ?_ (fun hx => ?_); unfold x; clear x; rotate_left; clear_value x; rotate_right
  refine Moves.update ?_
  apply Moves.refl
  focus
    extract_lets +onlyGivenNames x; refine Moves.use x ?_ (fun hx => ?_); unfold x; clear x; rotate_left; clear_value x; rotate_right
  with_reducible apply Moves.app (State.set_frame ..); decide
  assumption
  with_reducible apply Moves.app (chargerReview_frame ..); decide
  with_reducible apply Moves.ite
  with_reducible apply Moves.app (logInterruption_frame ..); decide
  with_reducible apply Moves.app (State.count_frame ..); decide
  assumption
  assumption

theorem actVinValidFall_frame (a0 : State) : Moves [.power] a0 (actVinValidFall a0) := by
  unfold actVinValidFall
  refine Moves.update ?_
  apply Moves.refl

theorem actWriteBackLifeRecord_frame (a0 : Port) (a1 : Bool) (a2 : PackRead) (a3 : State) : Moves [.od, .replies, .log, .can, .pdo, .link, .sched, .pack] a3 (actWriteBackLifeRecord a0 a1 a2 a3) := by
  unfold actWriteBackLifeRecord
  (with_reducible apply portCommand_frame) <;> first | decide | skip
  apply Moves.refl
  with_reducible intro _
  with_reducible apply Moves.ite_fst
  dsimp only
  apply Moves.refl
  dsimp only
  with_reducible apply Moves.app (writeBackDue_frame ..); decide
  apply Moves.refl

end Sys2Proof.Machine
end

