-- ==== Sys2Proof/Laws/FramesSense.lean ====
section
/-!
SUPPORT. What each function may change: the frames of the self-test, sense, touch, program, PDO, update and beat operations. One lemma per function: every part of the
state that is not listed stands as it stood, and every table keeps its canonical form.
-/

set_option linter.all false
set_option Elab.async false

namespace Sys2Proof.Machine

theorem State.setBase_frame (a0 : State) (a1 : Nat) (a2 : Nat) (a3 : Nat) (a4 : Base) : Moves [.touch] a0 (State.setBase a0 a1 a2 a3 a4) := by
  unfold State.setBase
  refine Moves.update ?_
  apply Moves.refl

theorem State.setLane_frame (a0 : State) (a1 : Nat) (a2 : Lane) : Moves [.sense] a0 (State.setLane a0 a1 a2) := by
  unfold State.setLane
  refine Moves.update ?_
  apply Moves.refl

theorem State.setRuns_frame (a0 : State) (a1 : Nat) (a2 : Nat) (a3 : Nat) : Moves [.touch] a0 (State.setRuns a0 a1 a2 a3) := by
  unfold State.setRuns
  refine Moves.update ?_
  apply Moves.refl

theorem State.setTpdo_frame (a0 : State) (a1 : Nat) (a2 : Tpdo) : Moves [.can, .pdo] a0 (State.setTpdo a0 a1 a2) := by
  unfold State.setTpdo
  refine Moves.update ?_
  apply Moves.refl

theorem abandonActivation_frame (a0 : State) (a1 : Nat) : Moves [.od, .log, .can, .pdo, .link, .mem, .sched, .tabor] a0 (abandonActivation a0 a1) := by
  unfold abandonActivation
  focus
    extract_lets +onlyGivenNames x; refine Moves.use x ?_ (fun hx => ?_); unfold x; clear x; rotate_left; clear_value x; rotate_right
  with_reducible apply Moves.app (State.count_frame ..); decide
  with_reducible apply Moves.app (handlerEnds_frame ..); decide
  apply Moves.refl
  split
  assumption
  focus
    extract_lets +onlyGivenNames x; refine Moves.use x ?_ (fun hx => ?_); unfold x; clear x; rotate_left; clear_value x; rotate_right
  with_reducible apply Moves.app (State.setProg_frame ..); decide
  assumption
  with_reducible apply Moves.ite
  with_reducible apply Moves.app (faultProgram_frame ..); decide
  assumption
  assumption

theorem abandonHandler_frame (a0 : State) : Moves [.od, .draws, .log, .can, .pdo, .link, .mem, .sched, .tabor] a0 (abandonHandler a0) := by
  unfold abandonHandler
  extract_lets +onlyGivenNames x; clear_value x
  extract_lets +onlyGivenNames x; clear_value x
  focus
    extract_lets +onlyGivenNames x; refine Moves.use x ?_ (fun hx => ?_); unfold x; clear x; rotate_left; clear_value x; rotate_right
  refine Moves.update ?_
  apply Moves.refl
  with_reducible apply Moves.ite
  assumption
  with_reducible apply Moves.ite
  with_reducible apply Moves.app (leaveUser_frame ..); decide
  assumption
  with_reducible apply Moves.ite
  refine Moves.update ?_
  assumption
  assumption

theorem applyFrame_frame (a0 : State) : Moves [.beat] a0 (applyFrame a0).1 := by
  unfold applyFrame
  with_reducible apply Moves.ite_fst
  dsimp only
  refine Moves.update ?_
  apply Moves.refl
  dsimp only
  apply Moves.refl

theorem actApplyFrameConfiguration_frame (a0 : Port) (a1 : State) : Moves [.replies, .beat] a1 (actApplyFrameConfiguration a0 a1) := by
  unfold actApplyFrameConfiguration
  (with_reducible apply portCommand_frame) <;> first | decide | skip
  apply Moves.refl
  with_reducible intro _
  with_reducible apply Moves.app (applyFrame_frame ..); decide
  apply Moves.refl

theorem applyProfiles_frame (a0 : State) : Moves [.touch] a0 (applyProfiles a0).1 := by
  unfold applyProfiles
  with_reducible apply Moves.ite_fst
  dsimp only
  apply Moves.refl
  dsimp only
  refine Moves.update ?_
  apply Moves.refl

theorem actApplyProfiles_frame (a0 : Port) (a1 : State) : Moves [.replies, .touch] a1 (actApplyProfiles a0 a1) := by
  unfold actApplyProfiles
  (with_reducible apply portCommand_frame) <;> first | decide | skip
  apply Moves.refl
  with_reducible intro _
  with_reducible apply Moves.app (applyProfiles_frame ..); decide
  apply Moves.refl

theorem laneFlags_frame (a0 : State) (a1 : Nat) (a2 : Nat) : Moves [.od] a0 (laneFlags a0 a1 a2) := by
  unfold laneFlags
  with_reducible apply Moves.ite
  apply Moves.refl
  with_reducible apply Moves.app (State.count_frame ..); decide
  with_reducible apply Moves.app (State.set_frame ..); decide
  apply Moves.refl

theorem imageWrite_frame (a0 : State) (a1 : Nat) (a2 : List Nat) : Moves [.od, .draws, .beat, .log, .can, .pdo, .link, .mem, .sched, .touch] a0 (imageWrite a0 a1 a2) := by
  unfold imageWrite
  split
  with_reducible apply Moves.of_pair; assumption
  with_reducible apply Moves.app (objWrite_frame ..); decide
  apply Moves.refl
  refine Moves.update ?_
  with_reducible apply Moves.of_pair; assumption
  with_reducible apply Moves.app (objWrite_frame ..); decide
  apply Moves.refl
  refine Moves.update ?_
  with_reducible apply Moves.of_pair; assumption
  with_reducible apply Moves.app (objWrite_frame ..); decide
  apply Moves.refl

theorem storeBurst_frame (a0 : State) (a1 : BurstRes) : Moves [.od, .draws, .beat, .log, .can, .pdo, .link, .mem, .sched, .touch] a0 (storeBurst a0 a1) := by
  unfold storeBurst
  with_reducible apply Moves.app (imageWrite_frame ..); decide
  refine Moves.update ?_
  apply Moves.refl

theorem actBurstEnd_frame (a0 : Fin 16) (a1 : Nat) (a2 : List Nat) (a3 : List (Int × Int)) (a4 : Bool) (a5 : State) : Moves [.od, .draws, .beat, .log, .can, .pdo, .link, .mem, .sched, .touch] a5 (actBurstEnd a0 a1 a2 a3 a4 a5) := by
  unfold actBurstEnd
  split
  apply Moves.refl
  with_reducible apply Moves.ite
  apply Moves.refl
  extract_lets +onlyGivenNames x; clear_value x
  extract_lets +onlyGivenNames x; clear_value x
  extract_lets +onlyGivenNames x; clear_value x
  extract_lets +onlyGivenNames x; clear_value x
  extract_lets +onlyGivenNames x; clear_value x
  extract_lets +onlyGivenNames x; clear_value x
  focus
    extract_lets +onlyGivenNames x; refine Moves.use x ?_ (fun hx => ?_); unfold x; clear x; rotate_left; clear_value x; rotate_right
  with_reducible apply Moves.app (laneFlags_frame ..); decide
  apply Moves.refl
  with_reducible apply Moves.ite
  with_reducible apply Moves.app (storeBurst_frame ..); decide
  assumption
  refine Moves.update ?_
  assumption

theorem actButtonDrift_frame (a0 : Fin 8) (a1 : State) : Moves [.od, .log, .can, .pdo, .link, .sched] a1 (actButtonDrift a0 a1) := by
  unfold actButtonDrift
  split
  with_reducible apply Moves.ite
  with_reducible apply Moves.app (emcyLog_frame ..); decide
  with_reducible apply Moves.app (State.setFlag_frame ..); decide
  apply Moves.refl
  apply Moves.refl
  apply Moves.refl

theorem setButton_frame (a0 : State) (a1 : Nat) (a2 : Bool) : Moves [.od, .sched] a0 (setButton a0 a1 a2) := by
  unfold setButton
  with_reducible apply Moves.ite
  apply Moves.refl
  with_reducible apply Moves.app (raise_frame ..); decide
  with_reducible apply Moves.app (State.setFlag_frame ..); decide
  apply Moves.refl

theorem actButtonStuckTimeout_frame (a0 : Fin 8) (a1 : State) : Moves [.od, .sched, .touch] a1 (actButtonStuckTimeout a0 a1) := by
  unfold actButtonStuckTimeout
  with_reducible apply Moves.ite
  apply Moves.refl
  focus
    extract_lets +onlyGivenNames x; refine Moves.use x ?_ (fun hx => ?_); unfold x; clear x; rotate_left; clear_value x; rotate_right
  with_reducible apply Moves.app (setButton_frame ..); decide
  with_reducible apply Moves.app (State.setRuns_frame ..); decide
  with_reducible apply Moves.app (State.setFlag_frame ..); decide
  apply Moves.refl
  refine Moves.update ?_
  assumption

theorem withdraw_frame (a0 : State) (a1 : Nat → Bool) : Moves [.od, .can, .pdo] a0 (withdraw a0 a1) := by
  unfold withdraw
  extract_lets +onlyGivenNames x; clear_value x
  extract_lets +onlyGivenNames x; clear_value x
  extract_lets +onlyGivenNames x; clear_value x
  focus
    extract_lets +onlyGivenNames x; refine Moves.use x ?_ (fun hx => ?_); unfold x; clear x; rotate_left; clear_value x; rotate_right
  refine Moves.update ?_
  apply Moves.refl
  with_reducible apply Moves.app (State.countBy_frame ..); decide
  assumption

theorem stopPdos_frame (a0 : State) (a1 : Bool) : Moves [.od, .can, .pdo] a0 (stopPdos a0 a1) := by
  unfold stopPdos
  focus
    extract_lets +onlyGivenNames x; refine Moves.use x ?_ (fun hx => ?_); unfold x; clear x; rotate_left; clear_value x; rotate_right
  with_reducible apply Moves.ite
  with_reducible apply Moves.app (withdraw_frame ..); decide
  apply Moves.refl
  apply Moves.refl
  extract_lets +onlyGivenNames x; clear_value x
  focus
    extract_lets +onlyGivenNames x; refine Moves.use x ?_ (fun hx => ?_); unfold x; clear x; rotate_left; clear_value x; rotate_right
  refine Moves.update ?_
  assumption
  assumption

theorem freshPdos_frame (a0 : State) : Moves [.can, .pdo] a0 (freshPdos a0) := by
  unfold freshPdos
  refine Moves.update ?_
  apply Moves.refl

theorem actCaptureReferenceBaselines_frame (a0 : Port) (a1 : State) : Moves [.replies, .touch] a1 (actCaptureReferenceBaselines a0 a1) := by
  unfold actCaptureReferenceBaselines
  (with_reducible apply portCommand_frame) <;> first | decide | skip
  apply Moves.refl
  with_reducible intro _
  dsimp only
  refine Moves.update ?_
  apply Moves.refl

theorem userEntry_frame (a0 : State) (a1 : Nat) (a2 : Nat) (a3 : Bool) (a4 : List Nat) : Moves [.tabor] a0 (userEntry a0 a1 a2 a3 a4) := by
  unfold userEntry
  split
  apply Moves.refl
  extract_lets +onlyGivenNames x; clear_value x
  extract_lets +onlyGivenNames x; clear_value x
  extract_lets +onlyGivenNames x; clear_value x
  extract_lets +onlyGivenNames x; clear_value x
  extract_lets +onlyGivenNames x; clear_value x
  focus
    extract_lets +onlyGivenNames x; refine Moves.use x ?_ (fun hx => ?_); unfold x; clear x; rotate_left; clear_value x; rotate_right
  with_reducible apply Moves.app (State.setCore_frame ..); decide
  apply Moves.refl
  refine Moves.update ?_
  assumption

theorem beginInit_frame (a0 : State) (a1 : Nat) : Moves [.od, .draws, .log, .can, .pdo, .link, .mem, .sched, .tabor] a0 (beginInit a0 a1) := by
  unfold beginInit
  split
  apply Moves.refl
  with_reducible apply Moves.ite
  apply Moves.refl
  split
  extract_lets +onlyGivenNames x; clear_value x
  extract_lets +onlyGivenNames x; clear_value x
  focus
    extract_lets +onlyGivenNames x; refine Moves.use x ?_ (fun hx => ?_); unfold x; clear x; rotate_left; clear_value x; rotate_right
  with_reducible apply Moves.app (State.setCore_frame ..); decide
  with_reducible apply Moves.of_pair; assumption
  with_reducible apply Moves.app (windowForward_frame ..); decide
  with_reducible apply Moves.app (State.setCore_frame ..); decide
  apply Moves.refl
  with_reducible apply Moves.app (userEntry_frame ..); decide
  with_reducible apply Moves.app (State.setProg_frame ..); decide
  assumption
  with_reducible apply Moves.of_pair; assumption
  with_reducible apply Moves.app (windowForward_frame ..); decide
  with_reducible apply Moves.app (State.setCore_frame ..); decide
  apply Moves.refl
  with_reducible apply Moves.app (faultProgram_frame ..); decide
  with_reducible apply Moves.app (State.setProg_frame ..); decide
  with_reducible apply Moves.of_pair; assumption
  with_reducible apply Moves.app (windowForward_frame ..); decide
  with_reducible apply Moves.app (State.setCore_frame ..); decide
  apply Moves.refl

theorem programStart_frame (a0 : State) (a1 : Nat) : Moves [.od, .draws, .log, .can, .pdo, .link, .mem, .sched, .tabor] a0 (programStart a0 a1).1 := by
  unfold programStart
  split
  dsimp only
  apply Moves.refl
  with_reducible apply Moves.ite_fst
  dsimp only
  with_reducible apply Moves.app (beginInit_frame ..); decide
  with_reducible apply Moves.app (State.setProg_frame ..); decide
  apply Moves.refl
  dsimp only
  apply Moves.refl

theorem programControlStart_frame (a0 : State) (a1 : Nat) : Moves [.od, .draws, .replies, .aocb, .store, .log, .can, .pdo, .link, .mem, .sched, .tabor, .sense, .reg, .seq, .update, .test] a0 (programControlStart a0 a1).1 := by
  unfold programControlStart
  with_reducible apply Moves.ite_fst
  with_reducible apply Moves.ite_fst
  dsimp only
  with_reducible apply Moves.app (updateRestart_frame ..); decide
  apply Moves.refl
  dsimp only
  apply Moves.refl
  with_reducible apply Moves.app (programStart_frame ..); decide
  apply Moves.refl

theorem mapPages_frame (s : State) (page flags : Nat) (bytes l : List Nat) : Moves [.mem] s (mapPages s page flags bytes l) := by
  induction l generalizing s page bytes with
  | nil => exact Moves.refl _ _
  | cons f l ih =>
    unfold mapPages
    extract_lets here t
    have ht : Moves [.mem] s t := Moves.update (Moves.refl _ s) (k_mem := Mem.store_wf _ _ _)
    exact (ht.trans ((State.updatePte_frame _ _ _).mono (by decide))).trans (ih _ _ _)

theorem loadImage_frame (a0 : State) (a1 : Nat) (a2 : ProgImage) : Moves [.od, .mem, .tabor] a0 (loadImage a0 a1 a2).1 := by
  unfold loadImage
  extract_lets +onlyGivenNames x; clear_value x
  extract_lets +onlyGivenNames x; clear_value x
  extract_lets +onlyGivenNames x; clear_value x
  extract_lets +onlyGivenNames x; clear_value x
  with_reducible apply Moves.ite_fst
  dsimp only
  apply Moves.refl
  extract_lets +onlyGivenNames x; clear_value x
  focus
    extract_lets +onlyGivenNames x; refine Moves.use x ?_ (fun hx => ?_); unfold x; clear x; rotate_left; clear_value x; rotate_right
  with_reducible apply Moves.app (mapPages_frame ..); decide
  apply Moves.refl
  focus
    extract_lets +onlyGivenNames x; refine Moves.use x ?_ (fun hx => ?_); unfold x; clear x; rotate_left; clear_value x; rotate_right
  with_reducible apply Moves.app (mapPages_frame ..); decide
  assumption
  focus
    extract_lets +onlyGivenNames x; refine Moves.use x ?_ (fun hx => ?_); unfold x; clear x; rotate_left; clear_value x; rotate_right
  with_reducible apply Moves.app (mapPages_frame ..); decide
  assumption
  extract_lets +onlyGivenNames x; clear_value x
  extract_lets +onlyGivenNames x; clear_value x
  extract_lets +onlyGivenNames x; clear_value x
  extract_lets +onlyGivenNames x; clear_value x
  dsimp only
  with_reducible apply Moves.app (State.set_frame ..); decide
  with_reducible apply Moves.app (State.set_frame ..); decide
  with_reducible apply Moves.app (State.setProg_frame ..); decide
  assumption

theorem programLoad_frame (a0 : State) (a1 : Nat) (a2 : List Nat) : Moves [.od, .log, .link, .mem, .sched, .tabor, .update] a0 (programLoad a0 a1 a2).1 := by
  unfold programLoad
  with_reducible apply Moves.ite_fst
  dsimp only
  apply Moves.refl
  extract_lets +onlyGivenNames x; clear_value x
  extract_lets +onlyGivenNames x; clear_value x
  with_reducible apply Moves.ite_fst
  dsimp only
  with_reducible apply Moves.app (setTarget_frame ..); decide
  apply Moves.refl
  split
  dsimp only
  apply Moves.refl
  with_reducible apply Moves.app (loadImage_frame ..); decide
  apply Moves.refl

theorem programHalt_frame (a0 : State) (a1 : Nat) : Moves [.od, .tabor] a0 (programHalt a0 a1).1 := by
  unfold programHalt
  split
  dsimp only
  apply Moves.refl
  with_reducible apply Moves.ite_fst
  with_reducible apply Moves.ite_fst
  dsimp only
  with_reducible apply Moves.app (State.setProg_frame ..); decide
  apply Moves.refl
  dsimp only
  with_reducible apply Moves.app (State.set_frame ..); decide
  apply Moves.refl
  dsimp only
  apply Moves.refl

theorem programUnload_frame (a0 : State) (a1 : Nat) : Moves [.od, .mem, .sched, .tabor] a0 (programUnload a0 a1).1 := by
  unfold programUnload
  split
  dsimp only
  apply Moves.refl
  with_reducible apply Moves.ite_fst
  dsimp only
  with_reducible apply Moves.app (State.setProg_frame ..); decide
  apply Moves.refl
  dsimp only
  with_reducible apply Moves.app (unloadProgram_frame ..); decide
  apply Moves.refl

theorem programCommand_frame (a0 : State) (a1 : Nat) (a2 : Nat) : Moves [.od, .draws, .log, .can, .pdo, .link, .mem, .sched, .tabor, .update] a0 (programCommand a0 a1 a2).1 := by
  unfold programCommand
  with_reducible apply Moves.ite_fst
  with_reducible apply Moves.app (programLoad_frame ..); decide
  apply Moves.refl
  with_reducible apply Moves.ite_fst
  with_reducible apply Moves.app (programStart_frame ..); decide
  apply Moves.refl
  with_reducible apply Moves.ite_fst
  with_reducible apply Moves.app (programHalt_frame ..); decide
  apply Moves.refl
  with_reducible apply Moves.ite_fst
  with_reducible apply Moves.app (programUnload_frame ..); decide
  apply Moves.refl
  dsimp only
  apply Moves.refl

theorem laneSwitch_frame (a0 : State) (a1 : Nat) : Moves [.sense] a0 (laneSwitch a0 a1).1 := by
  unfold laneSwitch
  extract_lets +onlyGivenNames x; clear_value x
  with_reducible apply Moves.ite_fst
  dsimp only
  apply Moves.refl
  with_reducible apply Moves.ite_fst
  dsimp only
  with_reducible apply Moves.app (State.setLane_frame ..); decide
  apply Moves.refl
  extract_lets +onlyGivenNames x; clear_value x
  extract_lets +onlyGivenNames x; clear_value x
  with_reducible apply Moves.ite_fst
  dsimp only
  apply Moves.refl
  dsimp only
  with_reducible apply Moves.app (State.setLane_frame ..); decide
  apply Moves.refl

theorem recordPart_frame (a0 : State) (a1 : Nat) (a2 : Nat) (a3 : Nat) : Moves [.od, .draws, .log, .can, .pdo, .link, .mem, .sched] a0 (recordPart a0 a1 a2 a3).1 := by
  unfold recordPart
  split
  dsimp only
  with_reducible apply Moves.of_pair; assumption
  with_reducible apply Moves.app (objRead_frame ..); decide
  apply Moves.refl
  split
  dsimp only
  with_reducible apply Moves.of_pair; assumption
  with_reducible apply Moves.app (demand_frame ..); decide
  with_reducible apply Moves.of_pair; assumption
  with_reducible apply Moves.app (objRead_frame ..); decide
  apply Moves.refl
  split
  dsimp only
  with_reducible apply Moves.of_pair; assumption
  with_reducible apply Moves.app (objRead_frame ..); decide
  with_reducible apply Moves.of_pair; assumption
  with_reducible apply Moves.app (demand_frame ..); decide
  with_reducible apply Moves.of_pair; assumption
  with_reducible apply Moves.app (objRead_frame ..); decide
  apply Moves.refl
  dsimp only
  with_reducible apply Moves.of_pair; assumption
  with_reducible apply Moves.app (objRead_frame ..); decide
  with_reducible apply Moves.of_pair; assumption
  with_reducible apply Moves.app (demand_frame ..); decide
  with_reducible apply Moves.of_pair; assumption
  with_reducible apply Moves.app (objRead_frame ..); decide
  apply Moves.refl
  dsimp only
  with_reducible apply Moves.of_pair; assumption
  with_reducible apply Moves.app (objRead_frame ..); decide
  with_reducible apply Moves.of_pair; assumption
  with_reducible apply Moves.app (demand_frame ..); decide
  with_reducible apply Moves.of_pair; assumption
  with_reducible apply Moves.app (objRead_frame ..); decide
  apply Moves.refl
  dsimp only
  with_reducible apply Moves.of_pair; assumption
  with_reducible apply Moves.app (demand_frame ..); decide
  with_reducible apply Moves.of_pair; assumption
  with_reducible apply Moves.app (objRead_frame ..); decide
  apply Moves.refl
  dsimp only
  with_reducible apply Moves.of_pair; assumption
  with_reducible apply Moves.app (objRead_frame ..); decide
  apply Moves.refl
  dsimp only
  with_reducible apply Moves.of_pair; assumption
  with_reducible apply Moves.app (objRead_frame ..); decide
  apply Moves.refl

theorem readRecord_frame (a0 : State) (a1 : Nat) : Moves [.od, .draws, .log, .can, .pdo, .link, .mem, .sched] a0 (readRecord a0 a1).1 := by
  unfold readRecord
  extract_lets +onlyGivenNames x; clear_value x
  extract_lets +onlyGivenNames x; clear_value x
  split
  with_reducible apply Moves.ite_fst
  dsimp only
  with_reducible apply Moves.of_pair; assumption
  with_reducible apply Moves.app (recordPart_frame ..); decide
  apply Moves.refl
  split
  dsimp only
  with_reducible apply Moves.of_pair; assumption
  with_reducible apply Moves.app (recordPart_frame ..); decide
  with_reducible apply Moves.of_pair; assumption
  with_reducible apply Moves.app (recordPart_frame ..); decide
  apply Moves.refl
  with_reducible apply Moves.app (recordPart_frame ..); decide
  with_reducible apply Moves.of_pair; assumption
  with_reducible apply Moves.app (recordPart_frame ..); decide
  apply Moves.refl
  with_reducible apply Moves.app (recordPart_frame ..); decide
  apply Moves.refl

theorem loadFails_frame (a0 : State) (a1 : Nat) (a2 : Nat) : Moves [.od, .sense] a0 (loadFails a0 a1 a2) := by
  unfold loadFails
  with_reducible apply Moves.app (State.set_frame ..); decide
  with_reducible apply Moves.app (State.setLane_frame ..); decide
  apply Moves.refl

theorem laneLoad_frame (a0 : State) (a1 : Nat) : Moves [.od, .draws, .log, .can, .pdo, .link, .mem, .sched, .sense] a0 (laneLoad a0 a1).1 := by
  unfold laneLoad
  extract_lets +onlyGivenNames x; clear_value x
  with_reducible apply Moves.ite_fst
  dsimp only
  apply Moves.refl
  split
  dsimp only
  with_reducible apply Moves.app (loadFails_frame ..); decide
  with_reducible apply Moves.of_pair; assumption
  with_reducible apply Moves.app (readRecord_frame ..); decide
  with_reducible apply Moves.app (State.setLane_frame ..); decide
  apply Moves.refl
  dsimp only
  with_reducible apply Moves.of_pair; assumption
  with_reducible apply Moves.app (readRecord_frame ..); decide
  with_reducible apply Moves.app (State.setLane_frame ..); decide
  apply Moves.refl

theorem staleAll_frame (a0 : State) : Moves [.touch] a0 (staleAll a0) := by
  unfold staleAll
  refine Moves.update ?_
  apply Moves.refl

theorem updateConfirm_frame (a0 : State) : Moves [.od, .log, .link, .sched, .update] a0 (updateConfirm a0).1 := by
  unfold updateConfirm
  with_reducible apply Moves.ite_fst
  dsimp only
  apply Moves.refl
  with_reducible apply Moves.ite_fst
  dsimp only
  apply Moves.refl
  dsimp only
  with_reducible apply Moves.app (confirmImage_frame ..); decide
  apply Moves.refl

theorem updateReject_frame (a0 : State) (a1 : BankFound) : Moves [.od, .draws, .replies, .aocb, .store, .log, .can, .pdo, .link, .mem, .sched, .tabor, .sense, .reg, .seq, .update, .test] a0 (updateReject a0 a1).1 := by
  unfold updateReject
  with_reducible apply Moves.ite_fst
  dsimp only
  apply Moves.refl
  with_reducible apply Moves.ite_fst
  dsimp only
  apply Moves.refl
  extract_lets +onlyGivenNames x; clear_value x
  extract_lets +onlyGivenNames x; clear_value x
  focus
    extract_lets +onlyGivenNames x; refine Moves.use x ?_ (fun hx => ?_); unfold x; clear x; rotate_left; clear_value x; rotate_right
  refine Moves.update ?_
  apply Moves.refl
  with_reducible apply Moves.ite_fst
  dsimp only
  with_reducible apply Moves.app (updateRestart_frame ..); decide
  with_reducible apply Moves.app (State.count_frame ..); decide
  with_reducible apply Moves.app (confirmedRecord_frame ..); decide
  assumption
  dsimp only
  assumption

theorem startLineTest_frame (a0 : State) (a1 : LineTest) : Moves [.od, .test] a0 (startLineTest a0 a1).1 := by
  unfold startLineTest
  with_reducible apply Moves.ite_fst
  dsimp only
  apply Moves.refl
  with_reducible apply Moves.ite_fst
  dsimp only
  apply Moves.refl
  extract_lets +onlyGivenNames x; clear_value x
  split
  extract_lets +onlyGivenNames x; clear_value x
  focus
    extract_lets +onlyGivenNames x; refine Moves.use x ?_ (fun hx => ?_); unfold x; clear x; rotate_left; clear_value x; rotate_right
  with_reducible apply Moves.app (State.set_frame ..); decide
  with_reducible apply Moves.app (State.set_frame ..); decide
  apply Moves.refl
  dsimp only
  refine Moves.update ?_
  assumption

theorem toField_frame (a0 : State) (a1 : Nat) : Moves [.od, .log, .can, .pdo, .link, .sched, .test] a0 (toField a0 a1).1 := by
  unfold toField
  with_reducible apply Moves.ite_fst
  dsimp only
  apply Moves.refl
  with_reducible apply Moves.ite_fst
  dsimp only
  apply Moves.refl
  extract_lets +onlyGivenNames x; clear_value x
  focus
    extract_lets +onlyGivenNames x; refine Moves.use x ?_ (fun hx => ?_); unfold x; clear x; rotate_left; clear_value x; rotate_right
  refine Moves.update ?_
  apply Moves.refl
  dsimp only
  with_reducible apply Moves.app (emcyLog_frame ..); decide
  assumption

theorem startSession_frame (a0 : State) : Moves [.test] a0 (startSession a0) := by
  unfold startSession
  refine Moves.update ?_
  apply Moves.refl

theorem unlockResponse_frame (a0 : State) (a1 : List Nat) : Moves [.od, .log, .can, .pdo, .link, .sched, .test] a0 (unlockResponse a0 a1).1 := by
  unfold unlockResponse
  with_reducible apply Moves.ite_fst
  dsimp only
  apply Moves.refl
  with_reducible apply Moves.ite_fst
  dsimp only
  apply Moves.refl
  with_reducible apply Moves.ite_fst
  dsimp only
  apply Moves.refl
  extract_lets +onlyGivenNames x; clear_value x
  focus
    extract_lets +onlyGivenNames x; refine Moves.use x ?_ (fun hx => ?_); unfold x; clear x; rotate_left; clear_value x; rotate_right
  with_reducible apply Moves.app (State.set_frame ..); decide
  apply Moves.refl
  extract_lets +onlyGivenNames x; clear_value x
  focus
    extract_lets +onlyGivenNames x; refine Moves.use x ?_ (fun hx => ?_); unfold x; clear x; rotate_left; clear_value x; rotate_right
  refine Moves.update ?_
  assumption
  with_reducible apply Moves.ite_fst
  extract_lets +onlyGivenNames x; clear_value x
  extract_lets +onlyGivenNames x; clear_value x
  focus
    extract_lets +onlyGivenNames x; refine Moves.use x ?_ (fun hx => ?_); unfold x; clear x; rotate_left; clear_value x; rotate_right
  refine Moves.update ?_
  assumption
  dsimp only
  with_reducible apply Moves.app (emcyLog_frame ..); decide
  with_reducible apply Moves.app (State.count_frame ..); decide
  with_reducible apply Moves.app (startSession_frame ..); decide
  assumption
  extract_lets +onlyGivenNames x; clear_value x
  extract_lets +onlyGivenNames x; clear_value x
  focus
    extract_lets +onlyGivenNames x; refine Moves.use x ?_ (fun hx => ?_); unfold x; clear x; rotate_left; clear_value x; rotate_right
  refine Moves.update ?_
  assumption
  dsimp only
  with_reducible apply Moves.app (State.count_frame ..); decide
  assumption

theorem drawNonce_frame (a0 : State) : Moves [.od, .draws, .test] a0 (drawNonce a0).1 := by
  unfold drawNonce
  extract_lets +onlyGivenNames x; clear_value x
  focus
    extract_lets +onlyGivenNames x; refine Moves.use x ?_ (fun hx => ?_); unfold x; clear x; rotate_left; clear_value x; rotate_right
  with_reducible apply Moves.app (State.set_frame ..); decide
  with_reducible apply Moves.app (State.draw_frame ..); decide
  apply Moves.refl
  dsimp only
  refine Moves.update ?_
  assumption

theorem relock_frame (a0 : State) : Moves [.test] a0 (relock a0).1 := by
  unfold relock
  dsimp only
  refine Moves.update ?_
  apply Moves.refl

theorem programBase_frame (a0 : State) (a1 : Nat) (a2 : Bool) : Moves [.draws, .test] a0 (programBase a0 a1 a2).1 := by
  unfold programBase
  with_reducible apply Moves.ite_fst
  dsimp only
  apply Moves.refl
  with_reducible apply Moves.ite_fst
  dsimp only
  apply Moves.refl
  extract_lets +onlyGivenNames x; clear_value x
  dsimp only
  refine Moves.update ?_
  with_reducible apply Moves.app (State.draw_frame ..); decide
  apply Moves.refl

theorem programKey_frame (a0 : State) (a1 : Nat) (a2 : Nat) (a3 : Bool) : Moves [.pack] a0 (programKey a0 a1 a2 a3).1 := by
  unfold programKey
  with_reducible apply Moves.ite_fst
  dsimp only
  apply Moves.refl
  dsimp only
  refine Moves.update ?_
  apply Moves.refl

theorem programHash_frame (a0 : State) (a1 : Nat) (a2 : Nat) (a3 : Bool) : Moves [.test] a0 (programHash a0 a1 a2 a3).1 := by
  unfold programHash
  with_reducible apply Moves.ite_fst
  dsimp only
  apply Moves.refl
  dsimp only
  refine Moves.update ?_
  apply Moves.refl

theorem clearEnds_frame (a0 : State) (a1 : Bool) : Moves [.od, .draws, .replies, .log, .can, .pdo, .link, .mem, .sched, .tabor, .update, .test] a0 (clearEnds a0 a1) := by
  unfold clearEnds
  split
  apply Moves.refl
  extract_lets +onlyGivenNames x; clear_value x
  extract_lets +onlyGivenNames x; clear_value x
  focus
    extract_lets +onlyGivenNames x; refine Moves.use x ?_ (fun hx => ?_); unfold x; clear x; rotate_left; clear_value x; rotate_right
  refine Moves.update ?_
  apply Moves.refl
  with_reducible apply Moves.ite
  extract_lets +onlyGivenNames x; clear_value x
  with_reducible apply Moves.app (answerAsker_frame ..); decide
  with_reducible apply Moves.app (refreshVersions_frame ..); decide
  with_reducible apply Moves.app (setTarget_frame ..); decide
  with_reducible apply Moves.app (State.setTargetBank_frame ..); decide
  assumption
  with_reducible apply Moves.app (answerAsker_frame ..); decide
  with_reducible apply Moves.app (setTarget_frame ..); decide
  assumption

theorem actClearEraseComplete_frame (a0 : Bool) (a1 : State) : Moves [.od, .draws, .replies, .log, .can, .pdo, .link, .mem, .sched, .tabor, .update, .test] a1 (actClearEraseComplete a0 a1) := by
  unfold actClearEraseComplete
  with_reducible apply Moves.ite
  apply Moves.refl
  with_reducible apply Moves.app (clearEnds_frame ..); decide
  apply Moves.refl

theorem actContactStuckTimeout_frame (a0 : Bool) (a1 : Nat) (a2 : State) : Moves [.touch] a2 (actContactStuckTimeout a0 a1 a2) := by
  unfold actContactStuckTimeout
  with_reducible apply Moves.ite
  apply Moves.refl
  with_reducible apply Moves.ite
  split
  refine Moves.update ?_
  apply Moves.refl
  apply Moves.refl
  with_reducible apply Moves.ite
  refine Moves.update ?_
  apply Moves.refl
  apply Moves.refl

theorem loadTap_frame (a0 : State) (a1 : Tap) : Moves [.od, .live, .draws, .replies, .tdo, .power, .clocks, .aocb, .beat, .store, .log, .can, .pdo, .link, .mem, .sched, .tabor, .sense, .touch, .reg, .seq, .pack, .thermal, .update, .test] a0 (loadTap a0 a1) := by
  unfold loadTap
  extract_lets +onlyGivenNames x; clear_value x
  extract_lets +onlyGivenNames x; clear_value x
  extract_lets +onlyGivenNames x; clear_value x
  extract_lets +onlyGivenNames x; clear_value x
  focus
    extract_lets +onlyGivenNames x; refine Moves.use x ?_ (fun hx => ?_); unfold x; clear x; rotate_left; clear_value x; rotate_right
  with_reducible apply Moves.ite
  with_reducible apply Moves.app (hardReset_frame ..); decide
  apply Moves.refl
  apply Moves.refl
  focus
    extract_lets +onlyGivenNames x; refine Moves.use x ?_ (fun hx => ?_); unfold x; clear x; rotate_left; clear_value x; rotate_right
  with_reducible apply Moves.ite
  with_reducible apply Moves.app (abandonSegment_frame ..); decide
  assumption
  assumption
  refine Moves.update ?_
  assumption

theorem tapCommand_frame {l : List Part} {a s : State} {t : Tap} {out : State → State} (h : Moves l a s)
    (hf : ∀ u, Moves l u (out u)) (hr : ∀ p ∈ [Part.od, Part.live, Part.draws, Part.replies, Part.tdo, Part.power, Part.clocks, Part.aocb, Part.beat, Part.store, Part.log, Part.can, Part.pdo, Part.link, Part.mem, Part.sched, Part.tabor, Part.sense, Part.touch, Part.reg, Part.seq, Part.pack, Part.thermal, Part.update, Part.test], p ∈ l) : Moves l a (tapCommand s t out) := by
  unfold tapCommand
  exact h.trans (Moves.ite _ (Moves.refl _ _) (((loadTap_frame _ _).mono hr).trans (Moves.ite _ (hf _) (Moves.refl _ _))))

theorem lanesRestart_frame (a0 : State) : Moves [.sense] a0 (lanesRestart a0) := by
  unfold lanesRestart
  refine Moves.update ?_
  apply Moves.refl

theorem lanesDownbeat_frame (a0 : State) : Moves [.od, .sense] a0 (lanesDownbeat a0) := by
  unfold lanesDownbeat
  with_reducible apply Moves.foldl; intro _ _ _
  extract_lets +onlyGivenNames x; clear_value x
  with_reducible apply Moves.ite
  with_reducible apply Moves.app (State.count_frame ..); decide
  with_reducible apply Moves.app (State.setLane_frame ..); decide
  assumption
  assumption
  apply Moves.refl

theorem calibrateOut_frame (a0 : State) (a1 : SliceEst) : Moves [.sense] a0 (calibrateOut a0 a1) := by
  unfold calibrateOut
  split
  apply Moves.refl
  with_reducible apply Moves.ite
  apply Moves.refl
  extract_lets +onlyGivenNames x; clear_value x
  extract_lets +onlyGivenNames x; clear_value x
  extract_lets +onlyGivenNames x; clear_value x
  refine Moves.update ?_
  apply Moves.refl

theorem swap_frame (a0 : State) (a1 : Nat) : Moves [.od, .sense] a0 (swap a0 a1) := by
  unfold swap
  extract_lets +onlyGivenNames x; clear_value x
  extract_lets +onlyGivenNames x; clear_value x
  extract_lets +onlyGivenNames x; clear_value x
  extract_lets +onlyGivenNames x; clear_value x
  extract_lets +onlyGivenNames x; clear_value x
  focus
    extract_lets +onlyGivenNames x; refine Moves.use x ?_ (fun hx => ?_); unfold x; clear x; rotate_left; clear_value x; rotate_right
  refine Moves.update ?_
  apply Moves.refl
  with_reducible apply Moves.app (State.count_frame ..); decide
  with_reducible apply Moves.app (State.set_frame ..); decide
  assumption

theorem failSlice_frame (a0 : State) (a1 : Nat) : Moves [.od, .log, .can, .pdo, .link, .sched, .sense] a0 (failSlice a0 a1) := by
  unfold failSlice
  extract_lets +onlyGivenNames x; clear_value x
  focus
    extract_lets +onlyGivenNames x; refine Moves.use x ?_ (fun hx => ?_); unfold x; clear x; rotate_left; clear_value x; rotate_right
  refine Moves.update ?_
  apply Moves.refl
  with_reducible apply Moves.app (emcyLog_frame ..); decide
  with_reducible apply Moves.app (State.setFlag_frame ..); decide
  assumption

theorem deferSwap_frame (a0 : State) (a1 : Nat) (a2 : Nat) : Moves [.od, .log, .can, .pdo, .link, .sched, .sense] a0 (deferSwap a0 a1 a2) := by
  unfold deferSwap
  with_reducible apply Moves.ite
  focus
    extract_lets +onlyGivenNames x; refine Moves.use x ?_ (fun hx => ?_); unfold x; clear x; rotate_left; clear_value x; rotate_right
  with_reducible apply Moves.app (State.count_frame ..); decide
  apply Moves.refl
  extract_lets +onlyGivenNames x; clear_value x
  extract_lets +onlyGivenNames x; clear_value x
  focus
    extract_lets +onlyGivenNames x; refine Moves.use x ?_ (fun hx => ?_); unfold x; clear x; rotate_left; clear_value x; rotate_right
  refine Moves.update ?_
  assumption
  with_reducible apply Moves.ite
  with_reducible apply Moves.app (failSlice_frame ..); decide
  assumption
  assumption
  apply Moves.refl

theorem rotationDownbeat_frame (a0 : State) (a1 : SliceEst) : Moves [.od, .live, .log, .can, .pdo, .link, .sched, .sense] a0 (rotationDownbeat a0 a1) := by
  unfold rotationDownbeat
  focus
    extract_lets +onlyGivenNames x; refine Moves.use x ?_ (fun hx => ?_); unfold x; clear x; rotate_left; clear_value x; rotate_right
  with_reducible apply Moves.app (calibrateOut_frame ..); decide
  with_reducible apply Moves.app (State.setInForce_frame ..); decide
  apply Moves.refl
  extract_lets +onlyGivenNames x; clear_value x
  focus
    extract_lets +onlyGivenNames x; refine Moves.use x ?_ (fun hx => ?_); unfold x; clear x; rotate_left; clear_value x; rotate_right
  with_reducible apply Moves.app (State.setFlag_frame ..); decide
  assumption
  extract_lets +onlyGivenNames x; clear_value x
  extract_lets +onlyGivenNames x; clear_value x
  focus
    extract_lets +onlyGivenNames x; refine Moves.use x ?_ (fun hx => ?_); unfold x; clear x; rotate_left; clear_value x; rotate_right
  refine Moves.update ?_
  assumption
  split
  assumption
  with_reducible apply Moves.ite
  assumption
  with_reducible apply Moves.ite
  with_reducible apply Moves.app (swap_frame ..); decide
  assumption
  focus
    extract_lets +onlyGivenNames x; refine Moves.use x ?_ (fun hx => ?_); unfold x; clear x; rotate_left; clear_value x; rotate_right
  with_reducible apply Moves.ite
  with_reducible apply Moves.app (deferSwap_frame ..); decide
  assumption
  assumption
  refine Moves.update ?_
  assumption

theorem setLock_frame (a0 : State) (a1 : Nat) : Moves [.od, .beat, .log, .link, .sched] a0 (setLock a0 a1) := by
  unfold setLock
  extract_lets +onlyGivenNames x; clear_value x
  with_reducible apply Moves.ite
  apply Moves.refl
  focus
    extract_lets +onlyGivenNames x; refine Moves.use x ?_ (fun hx => ?_); unfold x; clear x; rotate_left; clear_value x; rotate_right
  with_reducible apply Moves.app (State.set_frame ..); decide
  apply Moves.refl
  focus
    extract_lets +onlyGivenNames x; refine Moves.use x ?_ (fun hx => ?_); unfold x; clear x; rotate_left; clear_value x; rotate_right
  with_reducible apply Moves.ite
  with_reducible apply Moves.app (State.setFlag_frame ..); decide
  assumption
  assumption
  focus
    extract_lets +onlyGivenNames x; refine Moves.use x ?_ (fun hx => ?_); unfold x; clear x; rotate_left; clear_value x; rotate_right
  with_reducible apply Moves.ite
  with_reducible apply Moves.app (State.setFlag_frame ..); decide
  assumption
  assumption
  extract_lets +onlyGivenNames x; clear_value x
  focus
    extract_lets +onlyGivenNames x; refine Moves.use x ?_ (fun hx => ?_); unfold x; clear x; rotate_left; clear_value x; rotate_right
  with_reducible apply Moves.ite
  refine Moves.update ?_
  assumption
  assumption
  with_reducible apply Moves.app (logVerbose_frame ..); decide
  with_reducible apply Moves.app (raiseVector_frame ..); decide
  with_reducible apply Moves.app (raise_frame ..); decide
  assumption

theorem frameInForce_frame (a0 : State) : Moves [.od, .live, .beat, .log, .link, .sched] a0 (frameInForce a0) := by
  unfold frameInForce
  split
  apply Moves.refl
  focus
    extract_lets +onlyGivenNames x; refine Moves.use x ?_ (fun hx => ?_); unfold x; clear x; rotate_left; clear_value x; rotate_right
  with_reducible apply Moves.app (State.set_frame ..); decide
  with_reducible apply Moves.app (State.putInForce_frame ..); decide
  apply Moves.refl
  extract_lets +onlyGivenNames x; clear_value x
  focus
    extract_lets +onlyGivenNames x; refine Moves.use x ?_ (fun hx => ?_); unfold x; clear x; rotate_left; clear_value x; rotate_right
  refine Moves.update ?_
  assumption
  with_reducible apply Moves.ite
  with_reducible apply Moves.app (setLock_frame ..); decide
  refine Moves.update ?_
  assumption
  assumption

theorem nextLength_frame (a0 : State) : Moves [.od, .beat] a0 (nextLength a0) := by
  unfold nextLength
  extract_lets +onlyGivenNames x; clear_value x
  extract_lets +onlyGivenNames x; clear_value x
  extract_lets +onlyGivenNames x; clear_value x
  extract_lets +onlyGivenNames x; clear_value x
  focus
    extract_lets +onlyGivenNames x; refine Moves.use x ?_ (fun hx => ?_); unfold x; clear x; rotate_left; clear_value x; rotate_right
  with_reducible apply Moves.ite
  refine Moves.update ?_
  apply Moves.refl
  refine Moves.update ?_
  apply Moves.refl
  with_reducible apply Moves.app (State.set_frame ..); decide
  assumption

theorem closeWindow_frame (a0 : State) : Moves [.od, .can, .pdo] a0 (closeWindow a0) := by
  unfold closeWindow
  with_reducible apply Moves.ite
  apply Moves.refl
  with_reducible apply Moves.app (withdraw_frame ..); decide
  refine Moves.update ?_
  apply Moves.refl

theorem deliver_frame (a0 : State) (a1 : List (List Nat)) : Moves [.od, .link, .mem, .sched, .touch] a0 (deliver a0 a1) := by
  unfold deliver
  extract_lets +onlyGivenNames x; clear_value x
  focus
    extract_lets +onlyGivenNames x; refine Moves.use x ?_ (fun hx => ?_); unfold x; clear x; rotate_left; clear_value x; rotate_right
  with_reducible apply Moves.ite
  apply Moves.refl
  with_reducible apply Moves.app (ringProduceAll_frame ..); decide
  apply Moves.refl
  focus
    extract_lets +onlyGivenNames x; refine Moves.use x ?_ (fun hx => ?_); unfold x; clear x; rotate_left; clear_value x; rotate_right
  with_reducible apply Moves.app (State.set_frame ..); decide
  assumption
  focus
    extract_lets +onlyGivenNames x; refine Moves.use x ?_ (fun hx => ?_); unfold x; clear x; rotate_left; clear_value x; rotate_right
  with_reducible apply Moves.foldl; intro _ _ _
  with_reducible apply Moves.app (State.set_frame ..); decide
  assumption
  assumption
  refine Moves.update ?_
  assumption

theorem overrun_frame (a0 : State) (a1 : Nat) (a2 : Nat) (a3 : Nat) : Moves [.od, .link, .mem, .sched, .touch] a0 (overrun a0 a1 a2 a3) := by
  unfold overrun
  extract_lets +onlyGivenNames x; clear_value x
  focus
    extract_lets +onlyGivenNames x; refine Moves.use x ?_ (fun hx => ?_); unfold x; clear x; rotate_left; clear_value x; rotate_right
  with_reducible apply Moves.app (State.count_frame ..); decide
  with_reducible apply Moves.app (deliver_frame ..); decide
  apply Moves.refl
  refine Moves.update ?_
  assumption

theorem profilesInForce_frame (a0 : State) (a1 : List Nat × List Nat × List Nat) : Moves [.live] a0 (profilesInForce a0 a1) := by
  unfold profilesInForce
  with_reducible apply Moves.app (State.putInForce_frame ..); decide
  with_reducible apply Moves.app (State.putInForce_frame ..); decide
  with_reducible apply Moves.app (State.putInForce_frame ..); decide
  apply Moves.refl

theorem releaseButtons_frame (a0 : State) (a1 : Bool) : Moves [.od, .sched, .touch] a0 (releaseButtons a0 a1) := by
  unfold releaseButtons
  with_reducible apply Moves.foldl; intro _ _ _
  focus
    extract_lets +onlyGivenNames x; refine Moves.use x ?_ (fun hx => ?_); unfold x; clear x; rotate_left; clear_value x; rotate_right
  with_reducible apply Moves.app (setButton_frame ..); decide
  with_reducible apply Moves.app (State.setRuns_frame ..); decide
  assumption
  with_reducible apply Moves.ite
  with_reducible apply Moves.app (State.setFlag_frame ..); decide
  assumption
  assumption
  apply Moves.refl

theorem latchFailedRails_frame (a0 : State) : Moves [.od, .reg] a0 (latchFailedRails a0) := by
  unfold latchFailedRails
  with_reducible apply Moves.foldl; intro _ _ _
  with_reducible apply Moves.ite
  with_reducible apply Moves.app (State.set_frame ..); decide
  with_reducible apply Moves.app (State.setSup_frame ..); decide
  assumption
  with_reducible apply Moves.ite
  with_reducible apply Moves.app (State.setSup_frame ..); decide
  assumption
  assumption
  apply Moves.refl

theorem takeDegraded_frame (a0 : State) : Moves [.od, .log, .can, .pdo, .link, .sched, .reg, .test] a0 (takeDegraded a0) := by
  unfold takeDegraded
  extract_lets +onlyGivenNames x; clear_value x
  with_reducible apply Moves.ite
  apply Moves.refl
  extract_lets +onlyGivenNames x; clear_value x
  focus
    extract_lets +onlyGivenNames x; refine Moves.use x ?_ (fun hx => ?_); unfold x; clear x; rotate_left; clear_value x; rotate_right
  refine Moves.update ?_
  apply Moves.refl
  focus
    extract_lets +onlyGivenNames x; refine Moves.use x ?_ (fun hx => ?_); unfold x; clear x; rotate_left; clear_value x; rotate_right
  with_reducible apply Moves.ite
  with_reducible apply Moves.app (setLine_frame ..); decide
  assumption
  assumption
  focus
    extract_lets +onlyGivenNames x; refine Moves.use x ?_ (fun hx => ?_); unfold x; clear x; rotate_left; clear_value x; rotate_right
  with_reducible apply Moves.ite
  with_reducible apply Moves.app (setLine_frame ..); decide
  assumption
  assumption
  with_reducible apply Moves.app (latchFailedRails_frame ..); decide
  assumption

theorem testDownbeat_frame (a0 : State) : Moves [.od, .log, .can, .pdo, .link, .sched, .reg, .test] a0 (testDownbeat a0) := by
  unfold testDownbeat
  with_reducible apply Moves.app (takeDegraded_frame ..); decide
  refine Moves.update ?_
  apply Moves.refl

theorem actElectrodeTest_frame (a0 : Port) (a1 : State) : Moves [.od, .replies, .test] a1 (actElectrodeTest a0 a1) := by
  unfold actElectrodeTest
  (with_reducible apply portCommand_frame) <;> first | decide | skip
  apply Moves.refl
  with_reducible intro _
  with_reducible apply Moves.app (startLineTest_frame ..); decide
  apply Moves.refl

theorem takeArena_frame (a0 : State) : Moves [.od, .log, .link, .sched, .tabor] a0 (takeArena a0) := by
  unfold takeArena
  extract_lets +onlyGivenNames x; clear_value x
  extract_lets +onlyGivenNames x; clear_value x
  extract_lets +onlyGivenNames x; clear_value x
  extract_lets +onlyGivenNames x; clear_value x
  focus
    extract_lets +onlyGivenNames x; refine Moves.use x ?_ (fun hx => ?_); unfold x; clear x; rotate_left; clear_value x; rotate_right
  refine Moves.update ?_
  apply Moves.refl
  with_reducible apply Moves.ite
  assumption
  with_reducible apply Moves.app (logCondition_frame ..); decide
  assumption

theorem startPrograms_frame (a0 : State) (a1 : State → Nat → Bool) : Moves [.od, .draws, .log, .can, .pdo, .link, .mem, .sched, .tabor, .update] a0 (startPrograms a0 a1) := by
  unfold startPrograms
  with_reducible apply Moves.foldl; intro _ _ _
  with_reducible apply Moves.ite
  split
  with_reducible apply Moves.app (programStart_frame ..); decide
  with_reducible apply Moves.of_pair; assumption
  with_reducible apply Moves.app (programLoad_frame ..); decide
  assumption
  with_reducible apply Moves.app (logCondition_frame ..); decide
  with_reducible apply Moves.of_pair; assumption
  with_reducible apply Moves.app (programLoad_frame ..); decide
  assumption
  assumption
  apply Moves.refl

theorem autoStart_frame (a0 : State) : Moves [.od, .draws, .log, .can, .pdo, .link, .mem, .sched, .tabor, .update] a0 (autoStart a0) := by
  unfold autoStart
  with_reducible apply Moves.app (startPrograms_frame ..); decide
  apply Moves.refl

theorem reportSlice_frame (a0 : State) (a1 : Nat) (a2 : Bool) : Moves [.od, .log, .can, .pdo, .link, .sched] a0 (reportSlice a0 a1 a2) := by
  unfold reportSlice
  with_reducible apply Moves.app (raiseEv_frame ..); decide
  with_reducible apply Moves.app (emcyLog_frame ..); decide
  with_reducible apply Moves.app (refreshErrors_frame ..); decide
  apply Moves.refl

theorem actGloveModeEnd_frame (a0 : State) : Moves [.touch] a0 (actGloveModeEnd a0) := by
  unfold actGloveModeEnd
  with_reducible apply Moves.ite
  apply Moves.refl
  refine Moves.update ?_
  apply Moves.refl

theorem windowEnds_frame (a0 : State) : Moves [.od, .log, .link, .sched, .update] a0 (windowEnds a0) := by
  unfold windowEnds
  with_reducible apply Moves.ite
  apply Moves.refl
  with_reducible apply Moves.ite
  with_reducible apply Moves.app (State.set_frame ..); decide
  refine Moves.update ?_
  apply Moves.refl
  with_reducible apply Moves.ite
  with_reducible apply Moves.ite
  apply Moves.refl
  with_reducible apply Moves.app (confirmImage_frame ..); decide
  apply Moves.refl
  with_reducible apply Moves.app (windowFails_frame ..); decide
  apply Moves.refl

theorem actHealthWindowEnd_frame (a0 : State) : Moves [.od, .log, .link, .sched, .update] a0 (actHealthWindowEnd a0) := by
  unfold actHealthWindowEnd
  with_reducible apply Moves.ite
  with_reducible apply Moves.app (windowEnds_frame ..); decide
  apply Moves.refl
  apply Moves.refl

theorem imageScan_frame (a0 : State) : Moves [.od, .log, .link, .sched, .update] a0 (imageScan a0) := by
  unfold imageScan
  extract_lets +onlyGivenNames x; clear_value x
  focus
    extract_lets +onlyGivenNames x; refine Moves.use x ?_ (fun hx => ?_); unfold x; clear x; rotate_left; clear_value x; rotate_right
  with_reducible apply Moves.app (refreshVersions_frame ..); decide
  refine Moves.update ?_
  apply Moves.refl
  focus
    extract_lets +onlyGivenNames x; refine Moves.use x ?_ (fun hx => ?_); unfold x; clear x; rotate_left; clear_value x; rotate_right
  with_reducible apply Moves.app (State.set_frame ..); decide
  assumption
  with_reducible apply Moves.foldl; intro _ _ _
  with_reducible apply Moves.app (setTarget_frame ..); decide
  assumption
  assumption

theorem actImageScan_frame (a0 : State) : Moves [.od, .log, .link, .sched, .update] a0 (actImageScan a0) := by
  unfold actImageScan
  with_reducible apply Moves.ite
  with_reducible apply Moves.app (imageScan_frame ..); decide
  apply Moves.refl
  apply Moves.refl

theorem cycleFinished_frame (a0 : State) : Moves [.od, .test] a0 (cycleFinished a0) := by
  unfold cycleFinished
  with_reducible apply Moves.ite
  focus
    extract_lets +onlyGivenNames x; refine Moves.use x ?_ (fun hx => ?_); unfold x; clear x; rotate_left; clear_value x; rotate_right
  with_reducible apply Moves.ite
  with_reducible apply Moves.app (State.count_frame ..); decide
  apply Moves.refl
  apply Moves.refl
  focus
    extract_lets +onlyGivenNames x; refine Moves.use x ?_ (fun hx => ?_); unfold x; clear x; rotate_left; clear_value x; rotate_right
  with_reducible apply Moves.app (State.set_frame ..); decide
  assumption
  refine Moves.update ?_
  assumption
  apply Moves.refl

theorem beginTestCycle_frame (a0 : State) : Moves [.od, .test] a0 (beginTestCycle a0) := by
  unfold beginTestCycle
  with_reducible apply Moves.app (cycleFinished_frame ..); decide
  refine Moves.update ?_
  apply Moves.refl

theorem actInserviceCycleStart_frame (a0 : State) : Moves [.od, .test] a0 (actInserviceCycleStart a0) := by
  unfold actInserviceCycleStart
  with_reducible apply Moves.ite
  apply Moves.refl
  with_reducible apply Moves.ite
  refine Moves.update ?_
  apply Moves.refl
  with_reducible apply Moves.app (beginTestCycle_frame ..); decide
  apply Moves.refl

theorem setSliceResult_frame (a0 : State) (a1 : Nat) (a2 : Nat) : Moves [.od] a0 (setSliceResult a0 a1 a2) := by
  unfold setSliceResult
  with_reducible apply Moves.app (State.set_frame ..); decide
  apply Moves.refl

theorem passOver_frame (s : State) (l : List Nat) : Moves [.od, .test] s (passOver s l) := by
  have tst (a : State) (x : Test) : Moves [.od, .test] a { a with test := x } := Moves.update (Moves.refl _ a)
  induction l generalizing s with
  | nil => exact tst s _
  | cons k l ih =>
    unfold passOver
    exact Moves.ite _ (tst s _) ((((setSliceResult_frame _ _ _).mono (by decide)).trans ((State.count_frame _ _ _).mono (by decide))).trans (ih _))

theorem cycleEnds_frame (a0 : State) : Moves [.od, .test] a0 (cycleEnds a0) := by
  unfold cycleEnds
  focus
    extract_lets +onlyGivenNames x; refine Moves.use x ?_ (fun hx => ?_); unfold x; clear x; rotate_left; clear_value x; rotate_right
  with_reducible apply Moves.app (cycleFinished_frame ..); decide
  apply Moves.refl
  with_reducible apply Moves.ite
  with_reducible apply Moves.app (beginTestCycle_frame ..); decide
  assumption
  assumption

theorem showProgress_frame (a0 : State) : Moves [.od] a0 (showProgress a0) := by
  unfold showProgress
  extract_lets +onlyGivenNames x; clear_value x
  with_reducible apply Moves.app (State.set_frame ..); decide
  apply Moves.refl

theorem segmentSlot_frame (a0 : State) (a1 : Nat) : Moves [.od, .sense, .test] a0 (segmentSlot a0 a1) := by
  unfold segmentSlot
  focus
    extract_lets +onlyGivenNames x; refine Moves.use x ?_ (fun hx => ?_); unfold x; clear x; rotate_left; clear_value x; rotate_right
  with_reducible apply Moves.ite
  with_reducible apply Moves.app (passOver_frame ..); decide
  apply Moves.refl
  apply Moves.refl
  split
  with_reducible apply Moves.app (cycleEnds_frame ..); decide
  assumption
  with_reducible apply Moves.ite
  assumption
  with_reducible apply Moves.ite
  focus
    extract_lets +onlyGivenNames x; refine Moves.use x ?_ (fun hx => ?_); unfold x; clear x; rotate_left; clear_value x; rotate_right
  with_reducible apply Moves.app (State.count_frame ..); decide
  assumption
  refine Moves.update ?_
  assumption
  extract_lets +onlyGivenNames x; clear_value x
  extract_lets +onlyGivenNames x; clear_value x
  focus
    extract_lets +onlyGivenNames x; refine Moves.use x ?_ (fun hx => ?_); unfold x; clear x; rotate_left; clear_value x; rotate_right
  refine Moves.update ?_
  assumption
  with_reducible apply Moves.app (showProgress_frame ..); decide
  assumption

theorem actInserviceSegment_frame (a0 : Nat) (a1 : State) : Moves [.od, .sense, .test] a1 (actInserviceSegment a0 a1) := by
  unfold actInserviceSegment
  with_reducible apply Moves.ite
  with_reducible apply Moves.app (segmentSlot_frame ..); decide
  apply Moves.refl
  apply Moves.refl

theorem actJtagAocb_frame (a0 : Nat) (a1 : State) : Moves [.od, .live, .draws, .replies, .tdo, .power, .clocks, .aocb, .beat, .store, .log, .can, .pdo, .link, .mem, .sched, .tabor, .sense, .touch, .reg, .seq, .pack, .thermal, .update, .test] a1 (actJtagAocb a0 a1) := by
  unfold actJtagAocb
  (with_reducible apply tapCommand_frame) <;> first | decide | skip
  apply Moves.refl
  with_reducible intro _
  refine Moves.update ?_
  apply Moves.refl

theorem actJtagBypass_frame (a0 : Nat) (a1 : State) : Moves [.od, .live, .draws, .replies, .tdo, .power, .clocks, .aocb, .beat, .store, .log, .can, .pdo, .link, .mem, .sched, .tabor, .sense, .touch, .reg, .seq, .pack, .thermal, .update, .test] a1 (actJtagBypass a0 a1) := by
  unfold actJtagBypass
  (with_reducible apply tapCommand_frame) <;> first | decide | skip
  apply Moves.refl
  with_reducible intro _
  apply Moves.refl

theorem actJtagClamp_frame (a0 : State) : Moves [.od, .live, .draws, .replies, .tdo, .power, .clocks, .aocb, .beat, .store, .log, .can, .pdo, .link, .mem, .sched, .tabor, .sense, .touch, .reg, .seq, .pack, .thermal, .update, .test] a0 (actJtagClamp a0) := by
  unfold actJtagClamp
  (with_reducible apply tapCommand_frame) <;> first | decide | skip
  apply Moves.refl
  with_reducible intro _
  apply Moves.refl

theorem actJtagExtest_frame (a0 : State) : Moves [.od, .live, .draws, .replies, .tdo, .power, .clocks, .aocb, .beat, .store, .log, .can, .pdo, .link, .mem, .sched, .tabor, .sense, .touch, .reg, .seq, .pack, .thermal, .update, .test] a0 (actJtagExtest a0) := by
  unfold actJtagExtest
  (with_reducible apply tapCommand_frame) <;> first | decide | skip
  apply Moves.refl
  with_reducible intro _
  apply Moves.refl

theorem actJtagExtestPulse_frame (a0 : State) : Moves [.od, .live, .draws, .replies, .tdo, .power, .clocks, .aocb, .beat, .store, .log, .can, .pdo, .link, .mem, .sched, .tabor, .sense, .touch, .reg, .seq, .pack, .thermal, .update, .test] a0 (actJtagExtestPulse a0) := by
  unfold actJtagExtestPulse
  (with_reducible apply tapCommand_frame) <;> first | decide | skip
  apply Moves.refl
  with_reducible intro _
  apply Moves.refl

theorem actJtagExtestTrain_frame (a0 : State) : Moves [.od, .live, .draws, .replies, .tdo, .power, .clocks, .aocb, .beat, .store, .log, .can, .pdo, .link, .mem, .sched, .tabor, .sense, .touch, .reg, .seq, .pack, .thermal, .update, .test] a0 (actJtagExtestTrain a0) := by
  unfold actJtagExtestTrain
  (with_reducible apply tapCommand_frame) <;> first | decide | skip
  apply Moves.refl
  with_reducible intro _
  apply Moves.refl

theorem actJtagHighz_frame (a0 : State) : Moves [.od, .live, .draws, .replies, .tdo, .power, .clocks, .aocb, .beat, .store, .log, .can, .pdo, .link, .mem, .sched, .tabor, .sense, .touch, .reg, .seq, .pack, .thermal, .update, .test] a0 (actJtagHighz a0) := by
  unfold actJtagHighz
  (with_reducible apply tapCommand_frame) <;> first | decide | skip
  apply Moves.refl
  with_reducible intro _
  apply Moves.refl

theorem actJtagIdcode_frame (a0 : State) : Moves [.od, .live, .draws, .replies, .tdo, .power, .clocks, .aocb, .beat, .store, .log, .can, .pdo, .link, .mem, .sched, .tabor, .sense, .touch, .reg, .seq, .pack, .thermal, .update, .test] a0 (actJtagIdcode a0) := by
  unfold actJtagIdcode
  (with_reducible apply tapCommand_frame) <;> first | decide | skip
  apply Moves.refl
  with_reducible intro _
  refine Moves.update ?_
  apply Moves.refl

theorem actJtagLbistResult_frame (a0 : State) : Moves [.od, .live, .draws, .replies, .tdo, .power, .clocks, .aocb, .beat, .store, .log, .can, .pdo, .link, .mem, .sched, .tabor, .sense, .touch, .reg, .seq, .pack, .thermal, .update, .test] a0 (actJtagLbistResult a0) := by
  unfold actJtagLbistResult
  (with_reducible apply tapCommand_frame) <;> first | decide | skip
  apply Moves.refl
  with_reducible intro _
  refine Moves.update ?_
  apply Moves.refl

theorem actJtagSamplePreload_frame (a0 : Nat) (a1 : State) : Moves [.od, .live, .draws, .replies, .tdo, .power, .clocks, .aocb, .beat, .store, .log, .can, .pdo, .link, .mem, .sched, .tabor, .sense, .touch, .reg, .seq, .pack, .thermal, .update, .test] a1 (actJtagSamplePreload a0 a1) := by
  unfold actJtagSamplePreload
  (with_reducible apply tapCommand_frame) <;> first | decide | skip
  apply Moves.refl
  with_reducible intro _
  focus
    extract_lets +onlyGivenNames x; refine Moves.use x ?_ (fun hx => ?_); unfold x; clear x; rotate_left; clear_value x; rotate_right
  with_reducible apply Moves.app (State.draw_frame ..); decide
  apply Moves.refl
  refine Moves.update ?_
  assumption

theorem recordBad_frame (a0 : State) (a1 : Nat) (a2 : Nat) : Moves [.od, .log, .can, .pdo, .link, .sched, .sense] a0 (recordBad a0 a1 a2) := by
  unfold recordBad
  with_reducible apply Moves.app (emcyLog_frame ..); decide
  with_reducible apply Moves.app (loadFails_frame ..); decide
  apply Moves.refl

theorem actLibraryLoadComplete_frame (a0 : Fin 24) (a1 : State) : Moves [.od, .draws, .log, .can, .pdo, .link, .mem, .sched, .sense] a1 (actLibraryLoadComplete a0 a1) := by
  unfold actLibraryLoadComplete
  extract_lets +onlyGivenNames x; clear_value x
  with_reducible apply Moves.ite
  apply Moves.refl
  split
  with_reducible apply Moves.ite
  apply Moves.refl
  with_reducible apply Moves.of_pair; assumption
  with_reducible apply Moves.app (readRecord_frame ..); decide
  apply Moves.refl
  with_reducible apply Moves.app (loadFails_frame ..); decide
  with_reducible apply Moves.of_pair; assumption
  with_reducible apply Moves.app (readRecord_frame ..); decide
  apply Moves.refl
  with_reducible apply Moves.ite
  with_reducible apply Moves.app (recordBad_frame ..); decide
  with_reducible apply Moves.of_pair; assumption
  with_reducible apply Moves.app (readRecord_frame ..); decide
  apply Moves.refl
  with_reducible apply Moves.ite
  with_reducible apply Moves.app (recordBad_frame ..); decide
  with_reducible apply Moves.of_pair; assumption
  with_reducible apply Moves.app (readRecord_frame ..); decide
  apply Moves.refl
  extract_lets +onlyGivenNames x; clear_value x
  focus
    extract_lets +onlyGivenNames x; refine Moves.use x ?_ (fun hx => ?_); unfold x; clear x; rotate_left; clear_value x; rotate_right
  with_reducible apply Moves.app (State.set_frame ..); decide
  with_reducible apply Moves.of_pair; assumption
  with_reducible apply Moves.app (readRecord_frame ..); decide
  apply Moves.refl
  focus
    extract_lets +onlyGivenNames x; refine Moves.use x ?_ (fun hx => ?_); unfold x; clear x; rotate_left; clear_value x; rotate_right
  with_reducible apply Moves.app (State.set_frame ..); decide
  assumption
  with_reducible apply Moves.app (loadFails_frame ..); decide
  assumption

theorem actLifecycleToField_frame (a0 : Port) (a1 : Nat) (a2 : State) : Moves [.od, .replies, .log, .can, .pdo, .link, .sched, .test] a2 (actLifecycleToField a0 a1 a2) := by
  unfold actLifecycleToField
  (with_reducible apply portCommand_frame) <;> first | decide | skip
  apply Moves.refl
  with_reducible intro _
  with_reducible apply Moves.app (toField_frame ..); decide
  apply Moves.refl

theorem endLineTest_frame (a0 : State) (a1 : LineTest) (a2 : Bool) (a3 : List (Nat × Nat)) : Moves [.od, .log, .can, .pdo, .link, .sched, .touch, .test] a0 (endLineTest a0 a1 a2 a3) := by
  unfold endLineTest
  split
  extract_lets +onlyGivenNames x; clear_value x
  extract_lets +onlyGivenNames x; clear_value x
  focus
    extract_lets +onlyGivenNames x; refine Moves.use x ?_ (fun hx => ?_); unfold x; clear x; rotate_left; clear_value x; rotate_right
  with_reducible apply Moves.app (State.set_frame ..); decide
  with_reducible apply Moves.app (State.set_frame ..); decide
  with_reducible apply Moves.app (State.set_frame ..); decide
  apply Moves.refl
  extract_lets +onlyGivenNames x; clear_value x
  extract_lets +onlyGivenNames x; clear_value x
  focus
    extract_lets +onlyGivenNames x; refine Moves.use x ?_ (fun hx => ?_); unfold x; clear x; rotate_left; clear_value x; rotate_right
  refine Moves.update ?_
  assumption
  with_reducible apply Moves.ite
  with_reducible apply Moves.app (emcyLog_frame ..); decide
  assumption
  assumption

theorem actLineTestComplete_frame (a0 : List (Nat × Nat)) (a1 : State) : Moves [.od, .log, .can, .pdo, .link, .sched, .touch, .test] a1 (actLineTestComplete a0 a1) := by
  unfold actLineTestComplete
  split
  with_reducible apply Moves.app (endLineTest_frame ..); decide
  apply Moves.refl
  apply Moves.refl

theorem actLoadLibraryRecord_frame (a0 : Port) (a1 : Fin 24) (a2 : State) : Moves [.od, .draws, .replies, .log, .can, .pdo, .link, .mem, .sched, .sense] a2 (actLoadLibraryRecord a0 a1 a2) := by
  unfold actLoadLibraryRecord
  (with_reducible apply portCommand_frame) <;> first | decide | skip
  apply Moves.refl
  with_reducible intro _
  with_reducible apply Moves.app (laneLoad_frame ..); decide
  apply Moves.refl

theorem restartPrograms_frame (a0 : State) : Moves [.od, .draws, .log, .can, .pdo, .link, .mem, .sched, .tabor, .update] a0 (restartPrograms a0) := by
  unfold restartPrograms
  extract_lets +onlyGivenNames x; clear_value x
  focus
    extract_lets +onlyGivenNames x; refine Moves.use x ?_ (fun hx => ?_); unfold x; clear x; rotate_left; clear_value x; rotate_right
  with_reducible apply Moves.app (abandonHandler_frame ..); decide
  apply Moves.refl
  focus
    extract_lets +onlyGivenNames x; refine Moves.use x ?_ (fun hx => ?_); unfold x; clear x; rotate_left; clear_value x; rotate_right
  with_reducible apply Moves.foldl; intro _ _ _
  with_reducible apply Moves.ite
  with_reducible apply Moves.app (unloadProgram_frame ..); decide
  assumption
  assumption
  assumption
  with_reducible apply Moves.app (startPrograms_frame ..); decide
  assumption

theorem measureNoise_frame (a0 : State) (a1 : Nat) : Moves [.draws, .touch] a0 (measureNoise a0 a1) := by
  unfold measureNoise
  extract_lets +onlyGivenNames x; clear_value x
  split
  apply Moves.refl
  focus
    extract_lets +onlyGivenNames x; refine Moves.use x ?_ (fun hx => ?_); unfold x; clear x; rotate_left; clear_value x; rotate_right
  with_reducible apply Moves.app (State.draw_frame ..); decide
  apply Moves.refl
  extract_lets +onlyGivenNames x; clear_value x
  extract_lets +onlyGivenNames x; clear_value x
  refine Moves.update ?_
  assumption

theorem handover_frame (a0 : State) (a1 : Int) : Moves [.od, .log, .link, .sched] a0 (handover a0 a1) := by
  unfold handover
  split
  extract_lets +onlyGivenNames x; clear_value x
  extract_lets +onlyGivenNames x; clear_value x
  focus
    extract_lets +onlyGivenNames x; refine Moves.use x ?_ (fun hx => ?_); unfold x; clear x; rotate_left; clear_value x; rotate_right
  with_reducible apply Moves.app (State.setS_frame ..); decide
  apply Moves.refl
  with_reducible apply Moves.ite
  with_reducible apply Moves.app (logStateChange_frame ..); decide
  with_reducible apply Moves.app (State.count_frame ..); decide
  assumption
  assumption
  apply Moves.refl

theorem queueTpdo_frame (a0 : State) (a1 : Nat) (a2 : Bool) (a3 : List Nat) : Moves [.can, .pdo] a0 (queueTpdo a0 a1 a2 a3) := by
  unfold queueTpdo
  extract_lets +onlyGivenNames x; clear_value x
  with_reducible apply Moves.app (enqueueTx_frame ..); decide
  apply Moves.refl

theorem sendInWindow_frame (a0 : State) (a1 : Nat) (a2 : List Nat) : Moves [.od, .can, .pdo] a0 (sendInWindow a0 a1 a2) := by
  unfold sendInWindow
  extract_lets +onlyGivenNames x; clear_value x
  focus
    extract_lets +onlyGivenNames x; refine Moves.use x ?_ (fun hx => ?_); unfold x; clear x; rotate_left; clear_value x; rotate_right
  with_reducible apply Moves.app (State.setTpdo_frame ..); decide
  apply Moves.refl
  with_reducible apply Moves.ite
  with_reducible apply Moves.app (State.count_frame ..); decide
  assumption
  with_reducible apply Moves.app (queueTpdo_frame ..); decide
  assumption

theorem openFor_frame (a0 : State) (a1 : Nat) : Moves [.od, .can, .pdo] a0 (openFor a0 a1) := by
  unfold openFor
  extract_lets +onlyGivenNames x; clear_value x
  with_reducible apply Moves.ite
  apply Moves.refl
  with_reducible apply Moves.ite
  with_reducible apply Moves.ite
  apply Moves.refl
  with_reducible apply Moves.app (sendInWindow_frame ..); decide
  apply Moves.refl
  extract_lets +onlyGivenNames x; clear_value x
  with_reducible apply Moves.ite
  with_reducible apply Moves.app (State.setTpdo_frame ..); decide
  apply Moves.refl
  with_reducible apply Moves.ite
  with_reducible apply Moves.app (State.setTpdo_frame ..); decide
  apply Moves.refl
  with_reducible apply Moves.app (sendInWindow_frame ..); decide
  apply Moves.refl

theorem openWindow_frame (a0 : State) : Moves [.od, .can, .pdo] a0 (openWindow a0) := by
  unfold openWindow
  with_reducible apply Moves.ite
  apply Moves.refl
  with_reducible apply Moves.foldl; intro _ _ _
  with_reducible apply Moves.app (openFor_frame ..); decide
  assumption
  refine Moves.update ?_
  apply Moves.refl

theorem deliverReport_frame (a0 : State) : Moves [.od, .beat, .link, .mem, .sched, .touch] a0 (deliverReport a0) := by
  unfold deliverReport
  split
  apply Moves.refl
  focus
    extract_lets +onlyGivenNames x; refine Moves.use x ?_ (fun hx => ?_); unfold x; clear x; rotate_left; clear_value x; rotate_right
  with_reducible apply Moves.app (raise_frame ..); decide
  with_reducible apply Moves.app (State.count_frame ..); decide
  with_reducible apply Moves.app (deliver_frame ..); decide
  apply Moves.refl
  refine Moves.update ?_
  assumption

theorem markEligible_frame (a0 : State) : Moves [.test] a0 (markEligible a0) := by
  unfold markEligible
  refine Moves.update ?_
  apply Moves.refl

theorem actPrearmHoldExpiry_frame (a0 : State) : Moves [.od, .log, .link, .sched, .touch, .reg] a0 (actPrearmHoldExpiry a0) := by
  unfold actPrearmHoldExpiry
  with_reducible apply Moves.ite
  with_reducible apply Moves.app (prearmCancel_frame ..); decide
  apply Moves.refl
  apply Moves.refl

theorem actPrearmHoldoffExpiry_frame (a0 : State) : Moves [.od] a0 (actPrearmHoldoffExpiry a0) := by
  unfold actPrearmHoldoffExpiry
  with_reducible apply Moves.ite
  with_reducible apply Moves.app (State.set_frame ..); decide
  apply Moves.refl
  apply Moves.refl

theorem baselineAccess_frame (a0 : State) : Moves [.od, .draws, .log, .can, .pdo, .link, .mem, .sched] a0 (baselineAccess a0).1 := by
  unfold baselineAccess
  with_reducible apply Moves.foldl_fst; intro _ _ _
  split
  dsimp only
  with_reducible apply Moves.of_pair; assumption
  with_reducible apply Moves.app (translate_frame ..); decide
  assumption
  dsimp only
  with_reducible apply Moves.of_pair; assumption
  with_reducible apply Moves.app (translate_frame ..); decide
  assumption
  dsimp only
  apply Moves.refl

theorem hvStep_frame (a0 : State) (a1 : Nat) (a2 : Nat) (a3 : Nat) : Moves [.od, .log, .can, .pdo, .link, .sched, .touch] a0 (hvStep a0 a1 a2 a3).1 := by
  unfold hvStep
  extract_lets +onlyGivenNames x; clear_value x
  extract_lets +onlyGivenNames x; clear_value x
  extract_lets +onlyGivenNames x; clear_value x
  extract_lets +onlyGivenNames x; clear_value x
  focus
    extract_lets +onlyGivenNames x; refine Moves.use x ?_ (fun hx => ?_); unfold x; clear x; rotate_left; clear_value x; rotate_right
  refine Moves.update ?_
  apply Moves.refl
  with_reducible apply Moves.ite_fst
  extract_lets +onlyGivenNames x; clear_value x
  focus
    extract_lets +onlyGivenNames x; refine Moves.use x ?_ (fun hx => ?_); unfold x; clear x; rotate_left; clear_value x; rotate_right
  refine Moves.update ?_
  assumption
  dsimp only
  with_reducible apply Moves.app (emcyLog_frame ..); decide
  with_reducible apply Moves.app (State.setFlag_frame ..); decide
  assumption
  with_reducible apply Moves.ite_fst
  dsimp only
  with_reducible apply Moves.app (State.setFlag_frame ..); decide
  assumption
  dsimp only
  assumption

theorem seed_frame (a0 : State) (a1 : Nat) (a2 : Nat) (a3 : List Meas) : Moves [.touch] a0 (seed a0 a1 a2 a3) := by
  unfold seed
  with_reducible apply Moves.foldl; intro _ _ _
  with_reducible apply Moves.app (State.setBase_frame ..); decide
  assumption
  apply Moves.refl

theorem rebaseButtons_frame (a0 : State) (a1 : Nat) (a2 : Nat) (a3 : List Meas) : Moves [.touch] a0 (rebaseButtons a0 a1 a2 a3) := by
  unfold rebaseButtons
  extract_lets +onlyGivenNames x; clear_value x
  focus
    extract_lets +onlyGivenNames x; refine Moves.use x ?_ (fun hx => ?_); unfold x; clear x; rotate_left; clear_value x; rotate_right
  with_reducible apply Moves.app (seed_frame ..); decide
  apply Moves.refl
  refine Moves.update ?_
  assumption

theorem rebase_frame (a0 : State) (a1 : Nat) (a2 : Nat) (a3 : List Meas) : Moves [.touch] a0 (rebase a0 a1 a2 a3) := by
  unfold rebase
  extract_lets +onlyGivenNames x; clear_value x
  extract_lets +onlyGivenNames x; clear_value x
  with_reducible apply Moves.foldl; intro _ _ _
  with_reducible apply Moves.ite
  with_reducible apply Moves.app (State.setBase_frame ..); decide
  assumption
  split
  with_reducible apply Moves.app (State.setBase_frame ..); decide
  assumption
  assumption
  apply Moves.refl

theorem hopUpdated_frame (a0 : State) (a1 : Nat) (a2 : Nat) : Moves [.touch] a0 (hopUpdated a0 a1 a2) := by
  unfold hopUpdated
  refine Moves.update ?_
  apply Moves.refl

theorem takePicture_frame (a0 : State) (a1 : Nat) (a2 : Bool) : Moves [.draws, .touch] a0 (takePicture a0 a1 a2).1 := by
  unfold takePicture
  focus
    extract_lets +onlyGivenNames x; refine Moves.use x ?_ (fun hx => ?_); unfold x; clear x; rotate_left; clear_value x; rotate_right
  with_reducible apply Moves.app (State.draw_frame ..); decide
  apply Moves.refl
  extract_lets +onlyGivenNames x; clear_value x
  extract_lets +onlyGivenNames x; clear_value x
  extract_lets +onlyGivenNames x; clear_value x
  extract_lets +onlyGivenNames x; clear_value x
  extract_lets +onlyGivenNames x; clear_value x
  extract_lets +onlyGivenNames x; clear_value x
  extract_lets +onlyGivenNames x; clear_value x
  focus
    extract_lets +onlyGivenNames x; refine Moves.use x ?_ (fun hx => ?_); unfold x; clear x; rotate_left; clear_value x; rotate_right
  with_reducible apply Moves.app (rebaseButtons_frame ..); decide
  assumption
  focus
    extract_lets +onlyGivenNames x; refine Moves.use x ?_ (fun hx => ?_); unfold x; clear x; rotate_left; clear_value x; rotate_right
  with_reducible apply Moves.ite
  with_reducible apply Moves.app (seed_frame ..); decide
  assumption
  with_reducible apply Moves.ite
  with_reducible apply Moves.app (rebase_frame ..); decide
  assumption
  assumption
  extract_lets +onlyGivenNames x; clear_value x
  focus
    extract_lets +onlyGivenNames x; refine Moves.use x ?_ (fun hx => ?_); unfold x; clear x; rotate_left; clear_value x; rotate_right
  with_reducible apply Moves.ite
  refine Moves.update ?_
  assumption
  with_reducible apply Moves.ite
  assumption
  refine Moves.update ?_
  assumption
  focus
    extract_lets +onlyGivenNames x; refine Moves.use x ?_ (fun hx => ?_); unfold x; clear x; rotate_left; clear_value x; rotate_right
  with_reducible apply Moves.ite
  assumption
  with_reducible apply Moves.app (hopUpdated_frame ..); decide
  assumption
  extract_lets +onlyGivenNames x; clear_value x
  dsimp only
  assumption

theorem gloveStep_frame (a0 : State) (a1 : Look) : Moves [.touch] a0 (gloveStep a0 a1) := by
  unfold gloveStep
  extract_lets +onlyGivenNames x; clear_value x
  extract_lets +onlyGivenNames x; clear_value x
  refine Moves.update ?_
  apply Moves.refl

theorem stepButton_frame (a0 : State) (a1 : Look) (a2 : Nat) : Moves [.od, .sched, .touch] a0 (stepButton a0 a1 a2) := by
  unfold stepButton
  extract_lets +onlyGivenNames x; clear_value x
  extract_lets +onlyGivenNames x; clear_value x
  split
  with_reducible apply Moves.app (setButton_frame ..); decide
  with_reducible apply Moves.app (State.setRuns_frame ..); decide
  with_reducible apply Moves.app (State.setFlag_frame ..); decide
  apply Moves.refl
  focus
    extract_lets +onlyGivenNames x; refine Moves.use x ?_ (fun hx => ?_); unfold x; clear x; rotate_left; clear_value x; rotate_right
  with_reducible apply Moves.app (State.setFlag_frame ..); decide
  apply Moves.refl
  with_reducible apply Moves.ite
  extract_lets +onlyGivenNames x; clear_value x
  with_reducible apply Moves.ite
  with_reducible apply Moves.app (setButton_frame ..); decide
  with_reducible apply Moves.app (State.setRuns_frame ..); decide
  assumption
  with_reducible apply Moves.app (State.setRuns_frame ..); decide
  assumption
  with_reducible apply Moves.app (State.setRuns_frame ..); decide
  assumption

theorem pressButton_frame (a0 : State) (a1 : Nat) : Moves [.od, .sched, .touch] a0 (pressButton a0 a1) := by
  unfold pressButton
  with_reducible apply Moves.app (setButton_frame ..); decide
  with_reducible apply Moves.app (State.count_frame ..); decide
  with_reducible apply Moves.app (State.setFlag_frame ..); decide
  with_reducible apply Moves.app (State.setRuns_frame ..); decide
  apply Moves.refl

theorem buttonStep_frame (a0 : State) (a1 : Look) : Moves [.od, .sched, .touch] a0 (buttonStep a0 a1).1 := by
  unfold buttonStep
  focus
    extract_lets +onlyGivenNames x; refine Moves.use x ?_ (fun hx => ?_); unfold x; clear x; rotate_left; clear_value x; rotate_right
  with_reducible apply Moves.foldl; intro _ _ _
  with_reducible apply Moves.app (stepButton_frame ..); decide
  assumption
  apply Moves.refl
  extract_lets +onlyGivenNames x; clear_value x
  extract_lets +onlyGivenNames x; clear_value x
  with_reducible apply Moves.ite_fst
  dsimp only
  assumption
  with_reducible apply Moves.ite_fst
  dsimp only
  with_reducible apply Moves.app (State.count_frame ..); decide
  assumption
  dsimp only
  with_reducible apply Moves.foldl; intro _ _ _
  with_reducible apply Moves.app (pressButton_frame ..); decide
  assumption
  assumption

theorem impulseStep_frame (a0 : State) (a1 : Look) : Moves [.touch] a0 (impulseStep a0 a1).1 := by
  unfold impulseStep
  with_reducible apply Moves.ite_fst
  dsimp only
  apply Moves.refl
  extract_lets +onlyGivenNames x; clear_value x
  extract_lets +onlyGivenNames x; clear_value x
  extract_lets +onlyGivenNames x; clear_value x
  extract_lets +onlyGivenNames x; clear_value x
  dsimp only
  refine Moves.update ?_
  apply Moves.refl

theorem recognise_frame (a0 : State) (a1 : Nat) : Moves [.od, .draws, .replies, .aocb, .store, .log, .can, .pdo, .link, .mem, .sched, .tabor, .sense, .touch, .reg, .seq, .update, .test] a0 (recognise a0 a1) := by
  unfold recognise
  focus
    extract_lets +onlyGivenNames x; refine Moves.use x ?_ (fun hx => ?_); unfold x; clear x; rotate_left; clear_value x; rotate_right
  with_reducible apply Moves.ite
  apply Moves.refl
  with_reducible apply Moves.app (State.set_frame ..); decide
  apply Moves.refl
  with_reducible apply Moves.ite
  assumption
  focus
    extract_lets +onlyGivenNames x; refine Moves.use x ?_ (fun hx => ?_); unfold x; clear x; rotate_left; clear_value x; rotate_right
  with_reducible apply Moves.app (raiseEv_frame ..); decide
  assumption
  with_reducible apply Moves.ite
  with_reducible apply Moves.app (powerRequest_frame ..); decide
  with_reducible apply Moves.app (State.count_frame ..); decide
  assumption
  assumption

theorem gestureStep_frame (a0 : State) (a1 : Look) (a2 : Tracking) (a3 : List Nat) : Moves [.od, .draws, .replies, .aocb, .store, .log, .can, .pdo, .link, .mem, .sched, .tabor, .sense, .touch, .reg, .seq, .update, .test] a0 (gestureStep a0 a1 a2 a3).1 := by
  unfold gestureStep
  focus
    extract_lets +onlyGivenNames x; refine Moves.use x.1 ?_ (fun hx => ?_); unfold x; clear x; rotate_left; clear_value x; rotate_right
  with_reducible apply Moves.app (impulseStep_frame ..); decide
  apply Moves.refl
  focus
    extract_lets +onlyGivenNames x; refine Moves.use x ?_ (fun hx => ?_); unfold x; clear x; rotate_left; clear_value x; rotate_right
  assumption
  extract_lets +onlyGivenNames x; clear_value x
  extract_lets +onlyGivenNames x; clear_value x
  extract_lets +onlyGivenNames x; clear_value x
  extract_lets +onlyGivenNames x; clear_value x
  extract_lets +onlyGivenNames x; clear_value x
  focus
    extract_lets +onlyGivenNames x; refine Moves.use x ?_ (fun hx => ?_); unfold x; clear x; rotate_left; clear_value x; rotate_right
  refine Moves.update ?_
  assumption
  extract_lets +onlyGivenNames x; clear_value x
  extract_lets +onlyGivenNames x; clear_value x
  extract_lets +onlyGivenNames x; clear_value x
  focus
    extract_lets +onlyGivenNames x; refine Moves.use x ?_ (fun hx => ?_); unfold x; clear x; rotate_left; clear_value x; rotate_right
  with_reducible apply Moves.foldl; intro _ _ _
  with_reducible apply Moves.app (recognise_frame ..); decide
  assumption
  assumption
  dsimp only
  assumption

theorem prearmEntry_frame (a0 : State) (a1 : Nat) : Moves [.od, .draws, .reg] a0 (prearmEntry a0 a1).1 := by
  unfold prearmEntry
  extract_lets +onlyGivenNames x; clear_value x
  extract_lets +onlyGivenNames x; clear_value x
  extract_lets +onlyGivenNames x; clear_value x
  extract_lets +onlyGivenNames x; clear_value x
  with_reducible apply Moves.ite_fst
  dsimp only
  apply Moves.refl
  with_reducible apply Moves.ite_fst
  dsimp only
  with_reducible apply Moves.app (railCommand_frame ..); decide
  apply Moves.refl
  with_reducible apply Moves.ite_fst
  split
  dsimp only
  with_reducible apply Moves.app (refuseSense_frame ..); decide
  with_reducible apply Moves.of_pair; assumption
  with_reducible apply Moves.app (readSense_frame ..); decide
  apply Moves.refl
  dsimp only
  with_reducible apply Moves.app (railEnable_frame ..); decide
  with_reducible apply Moves.of_pair; assumption
  with_reducible apply Moves.app (readSense_frame ..); decide
  apply Moves.refl
  dsimp only
  apply Moves.refl

theorem prearmStart_frame (a0 : State) : Moves [.od, .draws, .link, .sched, .touch, .reg] a0 (prearmStart a0) := by
  unfold prearmStart
  focus
    extract_lets +onlyGivenNames x; refine Moves.use x.1 ?_ (fun hx => ?_); unfold x; clear x; rotate_left; clear_value x; rotate_right
  with_reducible apply Moves.foldl_fst; intro _ _ _
  split
  dsimp only
  with_reducible apply Moves.of_pair; assumption
  with_reducible apply Moves.app (prearmEntry_frame ..); decide
  assumption
  dsimp only
  with_reducible apply Moves.of_pair; assumption
  with_reducible apply Moves.app (prearmEntry_frame ..); decide
  assumption
  dsimp only
  apply Moves.refl
  extract_lets +onlyGivenNames x; clear_value x
  focus
    extract_lets +onlyGivenNames x; refine Moves.use x ?_ (fun hx => ?_); unfold x; clear x; rotate_left; clear_value x; rotate_right
  with_reducible apply Moves.app (State.set_frame ..); decide
  with_reducible apply Moves.app (State.set_frame ..); decide
  assumption
  with_reducible apply Moves.app (raiseEv_frame ..); decide
  with_reducible apply Moves.app (State.count_frame ..); decide
  refine Moves.update ?_
  assumption

theorem prearmStep_frame (a0 : State) (a1 : Look) (a2 : Bool) (a3 : Bool) : Moves [.od, .draws, .link, .sched, .touch, .reg] a0 (prearmStep a0 a1 a2 a3) := by
  unfold prearmStep
  extract_lets +onlyGivenNames x; clear_value x
  focus
    extract_lets +onlyGivenNames x; refine Moves.use x ?_ (fun hx => ?_); unfold x; clear x; rotate_left; clear_value x; rotate_right
  with_reducible apply Moves.app (State.set_frame ..); decide
  with_reducible apply Moves.app (State.set_frame ..); decide
  apply Moves.refl
  with_reducible apply Moves.ite
  refine Moves.update ?_
  assumption
  extract_lets +onlyGivenNames x; clear_value x
  extract_lets +onlyGivenNames x; clear_value x
  extract_lets +onlyGivenNames x; clear_value x
  focus
    extract_lets +onlyGivenNames x; refine Moves.use x ?_ (fun hx => ?_); unfold x; clear x; rotate_left; clear_value x; rotate_right
  refine Moves.update ?_
  assumption
  with_reducible apply Moves.ite
  with_reducible apply Moves.app (State.set_frame ..); decide
  assumption
  with_reducible apply Moves.ite
  with_reducible apply Moves.app (State.set_frame ..); decide
  assumption
  with_reducible apply Moves.ite
  with_reducible apply Moves.app (prearmStart_frame ..); decide
  assumption
  assumption

theorem trackBase_frame (a0 : State) (a1 : Nat) (a2 : Nat) (a3 : Nat) (a4 : Nat) (a5 : Int) (a6 : Meas) : Moves [.touch] a0 (trackBase a0 a1 a2 a3 a4 a5 a6) := by
  unfold trackBase
  extract_lets +onlyGivenNames x; clear_value x
  with_reducible apply Moves.ite
  apply Moves.refl
  with_reducible apply Moves.ite
  with_reducible apply Moves.app (State.setBase_frame ..); decide
  apply Moves.refl
  with_reducible apply Moves.ite
  with_reducible apply Moves.ite
  with_reducible apply Moves.app (State.setBase_frame ..); decide
  apply Moves.refl
  with_reducible apply Moves.app (State.setBase_frame ..); decide
  apply Moves.refl
  with_reducible apply Moves.app (State.setBase_frame ..); decide
  apply Moves.refl

theorem baselineStep_frame (a0 : State) (a1 : Look) (a2 : Kinds) (a3 : Tracking) : Moves [.touch] a0 (baselineStep a0 a1 a2 a3) := by
  unfold baselineStep
  extract_lets +onlyGivenNames x; clear_value x
  extract_lets +onlyGivenNames x; clear_value x
  extract_lets +onlyGivenNames x; clear_value x
  extract_lets +onlyGivenNames x; clear_value x
  extract_lets +onlyGivenNames x; clear_value x
  extract_lets +onlyGivenNames x; clear_value x
  extract_lets +onlyGivenNames x; clear_value x
  focus
    extract_lets +onlyGivenNames x; refine Moves.use x ?_ (fun hx => ?_); unfold x; clear x; rotate_left; clear_value x; rotate_right
  with_reducible apply Moves.foldl; intro _ _ _
  with_reducible apply Moves.ite
  with_reducible apply Moves.app (State.setBase_frame ..); decide
  assumption
  with_reducible apply Moves.app (trackBase_frame ..); decide
  assumption
  apply Moves.refl
  refine Moves.update ?_
  assumption

theorem noiseFlag_frame (a0 : State) (a1 : Rat) : Moves [.od, .touch] a0 (noiseFlag a0 a1) := by
  unfold noiseFlag
  with_reducible apply Moves.ite
  focus
    extract_lets +onlyGivenNames x; refine Moves.use x ?_ (fun hx => ?_); unfold x; clear x; rotate_left; clear_value x; rotate_right
  with_reducible apply Moves.app (State.setFlag_frame ..); decide
  apply Moves.refl
  refine Moves.update ?_
  assumption
  with_reducible apply Moves.ite
  with_reducible apply Moves.ite
  focus
    extract_lets +onlyGivenNames x; refine Moves.use x ?_ (fun hx => ?_); unfold x; clear x; rotate_left; clear_value x; rotate_right
  with_reducible apply Moves.app (State.setFlag_frame ..); decide
  apply Moves.refl
  refine Moves.update ?_
  assumption
  refine Moves.update ?_
  apply Moves.refl
  apply Moves.refl

theorem hopDecision_frame (a0 : State) (a1 : Look) : Moves [.od, .touch] a0 (hopDecision a0 a1) := by
  unfold hopDecision
  extract_lets +onlyGivenNames x; clear_value x
  split
  focus
    extract_lets +onlyGivenNames x; refine Moves.use x ?_ (fun hx => ?_); unfold x; clear x; rotate_left; clear_value x; rotate_right
  with_reducible apply Moves.app (State.setFlag_frame ..); decide
  apply Moves.refl
  refine Moves.update ?_
  assumption
  extract_lets +onlyGivenNames x; clear_value x
  extract_lets +onlyGivenNames x; clear_value x
  extract_lets +onlyGivenNames x; clear_value x
  extract_lets +onlyGivenNames x; clear_value x
  extract_lets +onlyGivenNames x; clear_value x
  focus
    extract_lets +onlyGivenNames x; refine Moves.use x ?_ (fun hx => ?_); unfold x; clear x; rotate_left; clear_value x; rotate_right
  with_reducible apply Moves.foldl; intro _ _ _
  with_reducible apply Moves.app (State.set_frame ..); decide
  assumption
  apply Moves.refl
  extract_lets +onlyGivenNames x; clear_value x
  focus
    extract_lets +onlyGivenNames x; refine Moves.use x ?_ (fun hx => ?_); unfold x; clear x; rotate_left; clear_value x; rotate_right
  refine Moves.update ?_
  assumption
  with_reducible apply Moves.app (noiseFlag_frame ..); decide
  assumption

theorem driftStep_frame (a0 : State) (a1 : Look) : Moves [.od] a0 (driftStep a0 a1) := by
  unfold driftStep
  with_reducible apply Moves.foldl; intro _ _ _
  with_reducible apply Moves.ite
  with_reducible apply Moves.app (State.setFlag_frame ..); decide
  assumption
  assumption
  apply Moves.refl

theorem captureStep_frame (a0 : State) (a1 : Look) : Moves [.od, .touch] a0 (captureStep a0 a1) := by
  unfold captureStep
  with_reducible apply Moves.ite
  apply Moves.refl
  focus
    extract_lets +onlyGivenNames x; refine Moves.use x ?_ (fun hx => ?_); unfold x; clear x; rotate_left; clear_value x; rotate_right
  with_reducible apply Moves.foldl; intro _ _ _
  with_reducible apply Moves.ite
  with_reducible apply Moves.app (State.setFlag_frame ..); decide
  with_reducible apply Moves.app (State.set_frame ..); decide
  assumption
  assumption
  apply Moves.refl
  refine Moves.update ?_
  assumption

theorem frameFlags_frame (a0 : State) (a1 : Look) (a2 : Kinds) : Moves [.od] a0 (frameFlags a0 a1 a2) := by
  unfold frameFlags
  extract_lets +onlyGivenNames x; clear_value x
  extract_lets +onlyGivenNames x; clear_value x
  with_reducible apply Moves.app (State.set_frame ..); decide
  apply Moves.refl

theorem processFrame_frame (a0 : State) (a1 : Nat) (a2 : Nat) (a3 : Nat) : Moves [.od, .draws, .replies, .aocb, .beat, .store, .log, .can, .pdo, .link, .mem, .sched, .tabor, .sense, .touch, .reg, .seq, .update, .test] a0 (processFrame a0 a1 a2 a3) := by
  unfold processFrame
  focus
    extract_lets +onlyGivenNames x; refine Moves.use x.1 ?_ (fun hx => ?_); unfold x; clear x; rotate_left; clear_value x; rotate_right
  with_reducible apply Moves.app (hvStep_frame ..); decide
  apply Moves.refl
  focus
    extract_lets +onlyGivenNames x; refine Moves.use x.1 ?_ (fun hx => ?_); unfold x; clear x; rotate_left; clear_value x; rotate_right
  with_reducible apply Moves.app (takePicture_frame ..); decide
  assumption
  extract_lets +onlyGivenNames x; clear_value x
  focus
    extract_lets +onlyGivenNames x; refine Moves.use x ?_ (fun hx => ?_); unfold x; clear x; rotate_left; clear_value x; rotate_right
  with_reducible apply Moves.app (gloveStep_frame ..); decide
  assumption
  extract_lets +onlyGivenNames x; clear_value x
  extract_lets +onlyGivenNames x; clear_value x
  focus
    extract_lets +onlyGivenNames x; refine Moves.use x ?_ (fun hx => ?_); unfold x; clear x; rotate_left; clear_value x; rotate_right
  with_reducible apply Moves.app (State.countBy_frame ..); decide
  assumption
  focus
    extract_lets +onlyGivenNames x; refine Moves.use x.1 ?_ (fun hx => ?_); unfold x; clear x; rotate_left; clear_value x; rotate_right
  with_reducible apply Moves.app (buttonStep_frame ..); decide
  assumption
  focus
    extract_lets +onlyGivenNames x; refine Moves.use x.1 ?_ (fun hx => ?_); unfold x; clear x; rotate_left; clear_value x; rotate_right
  with_reducible apply Moves.app (gestureStep_frame ..); decide
  assumption
  extract_lets +onlyGivenNames x; clear_value x
  extract_lets +onlyGivenNames x; clear_value x
  focus
    extract_lets +onlyGivenNames x; refine Moves.use x ?_ (fun hx => ?_); unfold x; clear x; rotate_left; clear_value x; rotate_right
  with_reducible apply Moves.app (prearmStep_frame ..); decide
  assumption
  focus
    extract_lets +onlyGivenNames x; refine Moves.use x ?_ (fun hx => ?_); unfold x; clear x; rotate_left; clear_value x; rotate_right
  with_reducible apply Moves.app (baselineStep_frame ..); decide
  with_reducible apply Moves.app (hopDecision_frame ..); decide
  assumption
  focus
    extract_lets +onlyGivenNames x; refine Moves.use x ?_ (fun hx => ?_); unfold x; clear x; rotate_left; clear_value x; rotate_right
  with_reducible apply Moves.app (driftStep_frame ..); decide
  with_reducible apply Moves.app (captureStep_frame ..); decide
  with_reducible apply Moves.app (frameFlags_frame ..); decide
  assumption
  extract_lets +onlyGivenNames x; clear_value x
  refine Moves.update ?_
  assumption

theorem actProcessFrame_frame (a0 : Nat) (a1 : Nat) (a2 : State) : Moves [.od, .draws, .replies, .aocb, .beat, .store, .log, .can, .pdo, .link, .mem, .sched, .tabor, .sense, .touch, .reg, .seq, .update, .test] a2 (actProcessFrame a0 a1 a2) := by
  unfold actProcessFrame
  split
  apply Moves.refl
  with_reducible apply Moves.ite
  apply Moves.refl
  split
  refine Moves.update ?_
  with_reducible apply Moves.of_pair; assumption
  with_reducible apply Moves.app (baselineAccess_frame ..); decide
  apply Moves.refl
  with_reducible apply Moves.app (processFrame_frame ..); decide
  with_reducible apply Moves.of_pair; assumption
  with_reducible apply Moves.app (baselineAccess_frame ..); decide
  apply Moves.refl

theorem actProgramControlActivate_frame (a0 : Port) (a1 : Nat) (a2 : Bool) (a3 : State) : Moves [.od, .replies, .log, .link, .sched, .update] a3 (actProgramControlActivate a0 a1 a2 a3) := by
  unfold actProgramControlActivate
  (with_reducible apply updateRequest_frame) <;> first | decide | skip
  apply Moves.refl
  with_reducible intro _
  focus
    extract_lets +onlyGivenNames x; refine Moves.use x.1 ?_ (fun hx => ?_); unfold x; clear x; rotate_left; clear_value x; rotate_right
  with_reducible apply Moves.app (programActivate_frame ..); decide
  apply Moves.refl
  dsimp only
  assumption

theorem actProgramControlClear_frame (a0 : Port) (a1 : Nat) (a2 : State) : Moves [.od, .replies, .log, .link, .sched, .update] a2 (actProgramControlClear a0 a1 a2) := by
  unfold actProgramControlClear
  (with_reducible apply updateRequest_frame) <;> first | decide | skip
  apply Moves.refl
  with_reducible intro _
  with_reducible apply Moves.app (programClear_frame ..); decide
  apply Moves.refl

theorem actProgramControlStart_frame (a0 : Port) (a1 : Nat) (a2 : State) : Moves [.od, .draws, .replies, .aocb, .store, .log, .can, .pdo, .link, .mem, .sched, .tabor, .sense, .reg, .seq, .update, .test] a2 (actProgramControlStart a0 a1 a2) := by
  unfold actProgramControlStart
  (with_reducible apply updateRequest_frame) <;> first | decide | skip
  apply Moves.refl
  with_reducible intro _
  focus
    extract_lets +onlyGivenNames x; refine Moves.use x.1 ?_ (fun hx => ?_); unfold x; clear x; rotate_left; clear_value x; rotate_right
  with_reducible apply Moves.app (programControlStart_frame ..); decide
  apply Moves.refl
  dsimp only
  assumption

theorem actProgramControlStop_frame (a0 : Port) (a1 : Nat) (a2 : State) : Moves [.od, .replies, .log, .link, .sched, .update] a2 (actProgramControlStop a0 a1 a2) := by
  unfold actProgramControlStop
  (with_reducible apply updateRequest_frame) <;> first | decide | skip
  apply Moves.refl
  with_reducible intro _
  focus
    extract_lets +onlyGivenNames x; refine Moves.use x.1 ?_ (fun hx => ?_); unfold x; clear x; rotate_left; clear_value x; rotate_right
  with_reducible apply Moves.app (programStop_frame ..); decide
  apply Moves.refl
  dsimp only
  assumption

theorem actProgramControlVerify_frame (a0 : Port) (a1 : Nat) (a2 : State) : Moves [.od, .replies, .log, .link, .sched, .update] a2 (actProgramControlVerify a0 a1 a2) := by
  unfold actProgramControlVerify
  (with_reducible apply updateRequest_frame) <;> first | decide | skip
  apply Moves.refl
  with_reducible intro _
  focus
    extract_lets +onlyGivenNames x; refine Moves.use x.1 ?_ (fun hx => ?_); unfold x; clear x; rotate_left; clear_value x; rotate_right
  with_reducible apply Moves.app (programVerify_frame ..); decide
  apply Moves.refl
  dsimp only
  assumption

theorem actProgramDataWrite_frame (a0 : Port) (a1 : Nat) (a2 : Option Nat) (a3 : List Nat) (a4 : Bool) (a5 : State) : Moves [.od, .replies, .log, .link, .sched, .update] a5 (actProgramDataWrite a0 a1 a2 a3 a4 a5) := by
  unfold actProgramDataWrite
  (with_reducible apply updateRequest_frame) <;> first | decide | skip
  apply Moves.refl
  with_reducible intro _
  focus
    extract_lets +onlyGivenNames x; refine Moves.use x.1 ?_ (fun hx => ?_); unfold x; clear x; rotate_left; clear_value x; rotate_right
  with_reducible apply Moves.app (programData_frame ..); decide
  apply Moves.refl
  dsimp only
  assumption

theorem actProgramDebugKeyHash_frame (a0 : Port) (a1 : Nat) (a2 : Bool) (a3 : State) : Moves [.replies, .test] a3 (actProgramDebugKeyHash a0 a1 a2 a3) := by
  unfold actProgramDebugKeyHash
  (with_reducible apply portCommand_frame) <;> first | decide | skip
  apply Moves.refl
  with_reducible intro _
  with_reducible apply Moves.app (programHash_frame ..); decide
  apply Moves.refl

theorem actProgramIntegratorKeyHash_frame (a0 : Port) (a1 : Nat) (a2 : Bool) (a3 : State) : Moves [.replies, .test] a3 (actProgramIntegratorKeyHash a0 a1 a2 a3) := by
  unfold actProgramIntegratorKeyHash
  (with_reducible apply portCommand_frame) <;> first | decide | skip
  apply Moves.refl
  with_reducible intro _
  with_reducible apply Moves.app (programHash_frame ..); decide
  apply Moves.refl

theorem actProgramNodeIdBase_frame (a0 : Port) (a1 : Nat) (a2 : Bool) (a3 : State) : Moves [.draws, .replies, .test] a3 (actProgramNodeIdBase a0 a1 a2 a3) := by
  unfold actProgramNodeIdBase
  (with_reducible apply portCommand_frame) <;> first | decide | skip
  apply Moves.refl
  with_reducible intro _
  with_reducible apply Moves.app (programBase_frame ..); decide
  apply Moves.refl

theorem actProgramPackKey_frame (a0 : Port) (a1 : Fin 4) (a2 : Nat) (a3 : Bool) (a4 : State) : Moves [.replies, .pack] a4 (actProgramPackKey a0 a1 a2 a3 a4) := by
  unfold actProgramPackKey
  (with_reducible apply portCommand_frame) <;> first | decide | skip
  apply Moves.refl
  with_reducible intro _
  with_reducible apply Moves.app (programKey_frame ..); decide
  apply Moves.refl

theorem actPwmLineTest_frame (a0 : Port) (a1 : State) : Moves [.od, .replies, .test] a1 (actPwmLineTest a0 a1) := by
  unfold actPwmLineTest
  (with_reducible apply portCommand_frame) <;> first | decide | skip
  apply Moves.refl
  with_reducible intro _
  with_reducible apply Moves.app (startLineTest_frame ..); decide
  apply Moves.refl

theorem actRelock_frame (a0 : Port) (a1 : State) : Moves [.replies, .test] a1 (actRelock a0 a1) := by
  unfold actRelock
  (with_reducible apply portCommand_frame) <;> first | decide | skip
  apply Moves.refl
  with_reducible intro _
  with_reducible apply Moves.app (relock_frame ..); decide
  apply Moves.refl

theorem judgeSlice_frame (a0 : State) (a1 : SliceTest) (a2 : Bool) : Moves [.od, .log, .can, .pdo, .link, .sched, .test] a0 (judgeSlice a0 a1 a2) := by
  unfold judgeSlice
  extract_lets +onlyGivenNames g250
  with_reducible apply Moves.ite
  with_reducible apply Moves.app (cycleEnds_frame ..); decide
  unfold g250; dsimp only
  with_reducible apply Moves.app (showProgress_frame ..); decide
  refine Moves.update ?_
  with_reducible apply Moves.app (setSliceResult_frame ..); decide
  apply Moves.refl
  focus
    extract_lets +onlyGivenNames x; refine Moves.use x ?_ (fun hx => ?_); unfold x; clear x; rotate_left; clear_value x; rotate_right
  with_reducible apply Moves.app (State.count_frame ..); decide
  apply Moves.refl
  with_reducible apply Moves.ite
  with_reducible apply Moves.app (showProgress_frame ..); decide
  refine Moves.update ?_
  assumption
  focus
    extract_lets +onlyGivenNames x; refine Moves.use x ?_ (fun hx => ?_); unfold x; clear x; rotate_left; clear_value x; rotate_right
  with_reducible apply Moves.app (setSliceResult_frame ..); decide
  with_reducible apply Moves.app (State.setFlag_frame ..); decide
  assumption
  extract_lets +onlyGivenNames x; clear_value x
  focus
    extract_lets +onlyGivenNames x; refine Moves.use x ?_ (fun hx => ?_); unfold x; clear x; rotate_left; clear_value x; rotate_right
  refine Moves.update ?_
  assumption
  with_reducible apply Moves.app (cycleEnds_frame ..); decide
  unfold g250; dsimp only
  with_reducible apply Moves.app (showProgress_frame ..); decide
  refine Moves.update ?_
  with_reducible apply Moves.app (reportSlice_frame ..); decide
  assumption

theorem actSegmentComplete_frame (a0 : Bool) (a1 : State) : Moves [.od, .log, .can, .pdo, .link, .sched, .test] a1 (actSegmentComplete a0 a1) := by
  unfold actSegmentComplete
  split
  with_reducible apply Moves.ite
  apply Moves.refl
  extract_lets +onlyGivenNames x; clear_value x
  focus
    extract_lets +onlyGivenNames x; refine Moves.use x ?_ (fun hx => ?_); unfold x; clear x; rotate_left; clear_value x; rotate_right
  refine Moves.update ?_
  apply Moves.refl
  with_reducible apply Moves.ite
  with_reducible apply Moves.app (showProgress_frame ..); decide
  refine Moves.update ?_
  assumption
  with_reducible apply Moves.app (judgeSlice_frame ..); decide
  assumption
  apply Moves.refl

theorem enterFree_frame (a0 : State) : Moves [.od, .beat, .log, .link, .sched] a0 (enterFree a0) := by
  unfold enterFree
  extract_lets +onlyGivenNames x; clear_value x
  focus
    extract_lets +onlyGivenNames x; refine Moves.use x ?_ (fun hx => ?_); unfold x; clear x; rotate_left; clear_value x; rotate_right
  refine Moves.update ?_
  apply Moves.refl
  extract_lets +onlyGivenNames x; clear_value x
  focus
    extract_lets +onlyGivenNames x; refine Moves.use x ?_ (fun hx => ?_); unfold x; clear x; rotate_left; clear_value x; rotate_right
  with_reducible apply Moves.app (setLock_frame ..); decide
  assumption
  with_reducible apply Moves.ite
  with_reducible apply Moves.app (logCondition_frame ..); decide
  with_reducible apply Moves.app (State.setFlag_frame ..); decide
  assumption
  assumption

theorem periodMissing_frame (a0 : State) : Moves [.od, .beat, .log, .link, .sched] a0 (periodMissing a0) := by
  unfold periodMissing
  extract_lets +onlyGivenNames x; clear_value x
  with_reducible apply Moves.ite
  with_reducible apply Moves.app (enterFree_frame ..); decide
  apply Moves.refl
  refine Moves.update ?_
  apply Moves.refl

theorem enterAcquire_frame (a0 : State) : Moves [.od, .beat, .log, .link, .sched] a0 (enterAcquire a0) := by
  unfold enterAcquire
  focus
    extract_lets +onlyGivenNames x; refine Moves.use x ?_ (fun hx => ?_); unfold x; clear x; rotate_left; clear_value x; rotate_right
  with_reducible apply Moves.app (setLock_frame ..); decide
  apply Moves.refl
  refine Moves.update ?_
  assumption

theorem judgePeriod_frame (a0 : State) (a1 : Bool) : Moves [.od, .beat, .log, .can, .pdo, .link, .sched] a0 (judgePeriod a0 a1) := by
  unfold judgePeriod
  with_reducible apply Moves.ite
  extract_lets +onlyGivenNames x; clear_value x
  extract_lets +onlyGivenNames x; clear_value x
  focus
    extract_lets +onlyGivenNames x; refine Moves.use x ?_ (fun hx => ?_); unfold x; clear x; rotate_left; clear_value x; rotate_right
  refine Moves.update ?_
  apply Moves.refl
  with_reducible apply Moves.ite
  with_reducible apply Moves.app (enterAcquire_frame ..); decide
  assumption
  assumption
  extract_lets +onlyGivenNames x; clear_value x
  extract_lets +onlyGivenNames x; clear_value x
  focus
    extract_lets +onlyGivenNames x; refine Moves.use x ?_ (fun hx => ?_); unfold x; clear x; rotate_left; clear_value x; rotate_right
  refine Moves.update ?_
  apply Moves.refl
  with_reducible apply Moves.ite
  extract_lets +onlyGivenNames x; clear_value x
  focus
    extract_lets +onlyGivenNames x; refine Moves.use x ?_ (fun hx => ?_); unfold x; clear x; rotate_left; clear_value x; rotate_right
  refine Moves.update ?_
  assumption
  with_reducible apply Moves.app (emcyLog_frame ..); decide
  with_reducible apply Moves.app (State.setFlag_frame ..); decide
  with_reducible apply Moves.app (setLock_frame ..); decide
  assumption
  assumption

theorem chooseAligned_frame (a0 : State) (a1 : Nat) : Moves [.beat] a0 (chooseAligned a0 a1) := by
  unfold chooseAligned
  extract_lets +onlyGivenNames x; clear_value x
  with_reducible apply Moves.ite
  apply Moves.refl
  refine Moves.update ?_
  apply Moves.refl

theorem correct_frame (a0 : State) (a1 : Int) (a2 : Bool) : Moves [.od, .beat] a0 (correct a0 a1 a2) := by
  unfold correct
  extract_lets +onlyGivenNames x; clear_value x
  extract_lets +onlyGivenNames x; clear_value x
  extract_lets +onlyGivenNames x; clear_value x
  extract_lets +onlyGivenNames x; clear_value x
  extract_lets +onlyGivenNames x; clear_value x
  focus
    extract_lets +onlyGivenNames x; refine Moves.use x ?_ (fun hx => ?_); unfold x; clear x; rotate_left; clear_value x; rotate_right
  refine Moves.update ?_
  apply Moves.refl
  with_reducible apply Moves.app (State.setS_frame ..); decide
  assumption

theorem judgePhase_frame (a0 : State) (a1 : Int) : Moves [.od, .beat, .log, .link, .sched] a0 (judgePhase a0 a1) := by
  unfold judgePhase
  with_reducible apply Moves.ite
  with_reducible apply Moves.ite
  with_reducible apply Moves.app (setLock_frame ..); decide
  refine Moves.update ?_
  apply Moves.refl
  apply Moves.refl
  with_reducible apply Moves.ite
  extract_lets +onlyGivenNames x; clear_value x
  extract_lets +onlyGivenNames x; clear_value x
  focus
    extract_lets +onlyGivenNames x; refine Moves.use x ?_ (fun hx => ?_); unfold x; clear x; rotate_left; clear_value x; rotate_right
  refine Moves.update ?_
  apply Moves.refl
  with_reducible apply Moves.ite
  with_reducible apply Moves.app (setLock_frame ..); decide
  refine Moves.update ?_
  assumption
  assumption
  apply Moves.refl

theorem lockReception_frame (s : State) (n : Nat) : Moves [.od, .beat, .log, .can, .pdo, .link, .sched] s (lockReception s n) := by
  unfold lockReception
  extract_lets +onlyGivenNames choice
  refine Moves.ite _ (((State.count_frame _ _ _).mono (by decide)).trans ((periodMissing_frame _).mono (by decide))) ?_
  extract_lets +onlyGivenNames prev period b s1
  have h1 : Moves [.od, .beat, .log, .can, .pdo, .link, .sched] s s1 := (setBeat_moves s _).mono (by decide)
  extract_lets +onlyGivenNames s2
  have aux (q : Option Nat) : Moves [.od, .beat, .log, .can, .pdo, .link, .sched] s (match q with
      | some d => if s1.lock = 0 then s1 else judgePeriod s1 (s1.periodOff d)
      | none => s1) := by
    cases q with
    | none => exact h1
    | some d => exact Moves.ite _ h1 (h1.trans ((judgePeriod_frame _ _).mono (by decide)))
  have h2 : Moves [.od, .beat, .log, .can, .pdo, .link, .sched] s s2 := aux period
  extract_lets +onlyGivenNames s3
  have h3 : Moves [.od, .beat, .log, .can, .pdo, .link, .sched] s s3 := Moves.ite _ (h2.trans ((enterAcquire_frame _).mono (by decide))) h2
  extract_lets +onlyGivenNames s4
  have h4 : Moves [.od, .beat, .log, .can, .pdo, .link, .sched] s s4 := h3.trans ((chooseAligned_frame _ _).mono (by decide))
  extract_lets +onlyGivenNames recent s5
  have h5 : Moves [.od, .beat, .log, .can, .pdo, .link, .sched] s s5 := h4.trans ((correct_frame _ _ _).mono (by decide))
  exact Moves.ite _ (h5.trans ((setBeat_moves _ _).mono (by decide))) (h5.trans ((judgePhase_frame _ _).mono (by decide)))

theorem syncTpdo_frame (a0 : Option Nat) (a1 : State) (a2 : Nat) : Moves [.can, .pdo] a1 (syncTpdo a0 a1 a2) := by
  unfold syncTpdo
  extract_lets +onlyGivenNames x; clear_value x
  with_reducible apply Moves.ite
  apply Moves.refl
  with_reducible apply Moves.ite
  extract_lets +onlyGivenNames x; clear_value x
  with_reducible apply Moves.ite
  apply Moves.refl
  with_reducible apply Moves.app (State.setTpdo_frame ..); decide
  apply Moves.refl
  with_reducible apply Moves.ite
  split
  with_reducible apply Moves.ite
  with_reducible apply Moves.app (State.setTpdo_frame ..); decide
  apply Moves.refl
  apply Moves.refl
  with_reducible apply Moves.app (State.setTpdo_frame ..); decide
  apply Moves.refl
  with_reducible apply Moves.ite
  with_reducible apply Moves.app (State.setTpdo_frame ..); decide
  apply Moves.refl
  with_reducible apply Moves.app (State.setTpdo_frame ..); decide
  apply Moves.refl

theorem syncTpdos_frame (a0 : State) (a1 : Option Nat) : Moves [.can, .pdo] a0 (syncTpdos a0 a1) := by
  unfold syncTpdos
  with_reducible apply Moves.foldl; intro _ _ _
  with_reducible apply Moves.app (syncTpdo_frame ..); decide
  assumption
  apply Moves.refl

theorem actTachometerLineTest_frame (a0 : Port) (a1 : State) : Moves [.od, .replies, .test] a1 (actTachometerLineTest a0 a1) := by
  unfold actTachometerLineTest
  (with_reducible apply portCommand_frame) <;> first | decide | skip
  apply Moves.refl
  with_reducible intro _
  with_reducible apply Moves.app (startLineTest_frame ..); decide
  apply Moves.refl

theorem sendImmediate_frame (a0 : State) (a1 : Nat) : Moves [.can, .pdo] a0 (sendImmediate a0 a1) := by
  unfold sendImmediate
  extract_lets +onlyGivenNames x; clear_value x
  with_reducible apply Moves.ite
  apply Moves.refl
  focus
    extract_lets +onlyGivenNames x; refine Moves.use x ?_ (fun hx => ?_); unfold x; clear x; rotate_left; clear_value x; rotate_right
  with_reducible apply Moves.app (State.setTpdo_frame ..); decide
  apply Moves.refl
  extract_lets +onlyGivenNames x; clear_value x
  extract_lets +onlyGivenNames x; clear_value x
  focus
    extract_lets +onlyGivenNames x; refine Moves.use x ?_ (fun hx => ?_); unfold x; clear x; rotate_left; clear_value x; rotate_right
  refine Moves.update ?_
  assumption
  with_reducible apply Moves.app (queueTpdo_frame ..); decide
  assumption

theorem actTelemetryBankSwitch_frame (a0 : Port) (a1 : Fin 8) (a2 : State) : Moves [.replies, .sense] a2 (actTelemetryBankSwitch a0 a1 a2) := by
  unfold actTelemetryBankSwitch
  (with_reducible apply portCommand_frame) <;> first | decide | skip
  apply Moves.refl
  with_reducible intro _
  with_reducible apply Moves.app (laneSwitch_frame ..); decide
  apply Moves.refl

theorem fadeEnds_frame (a0 : State) (a1 : Nat) : Moves [.od, .sense] a0 (fadeEnds a0 a1) := by
  unfold fadeEnds
  extract_lets +onlyGivenNames x; clear_value x
  with_reducible apply Moves.ite
  with_reducible apply Moves.app (State.count_frame ..); decide
  with_reducible apply Moves.app (State.setLane_frame ..); decide
  apply Moves.refl
  apply Moves.refl

theorem laneOutput_frame (a0 : State) (a1 : Nat) (a2 : Nat) (a3 : List Int) (a4 : Bool) : Moves [.od, .sense] a0 (laneOutput a0 a1 a2 a3 a4).1 := by
  unfold laneOutput
  extract_lets +onlyGivenNames x; clear_value x
  extract_lets +onlyGivenNames x; clear_value x
  extract_lets +onlyGivenNames x; clear_value x
  extract_lets +onlyGivenNames x; clear_value x
  extract_lets +onlyGivenNames x; clear_value x
  with_reducible apply Moves.ite_fst
  dsimp only
  with_reducible apply Moves.app (State.setLane_frame ..); decide
  apply Moves.refl
  split
  dsimp only
  with_reducible apply Moves.app (State.setLane_frame ..); decide
  apply Moves.refl
  dsimp only
  with_reducible apply Moves.app (State.setLane_frame ..); decide
  apply Moves.refl
  extract_lets +onlyGivenNames x; clear_value x
  extract_lets +onlyGivenNames x; clear_value x
  dsimp only
  with_reducible apply Moves.app (fadeEnds_frame ..); decide
  with_reducible apply Moves.app (State.setLane_frame ..); decide
  apply Moves.refl
  dsimp only
  with_reducible apply Moves.app (State.setLane_frame ..); decide
  apply Moves.refl

theorem refCheck_frame (a0 : State) (a1 : Nat) (a2 : Nat) : Moves [.od, .log, .can, .pdo, .link, .sched, .sense] a0 (refCheck a0 a1 a2) := by
  unfold refCheck
  extract_lets +onlyGivenNames x; clear_value x
  extract_lets +onlyGivenNames x; clear_value x
  extract_lets +onlyGivenNames x; clear_value x
  extract_lets +onlyGivenNames x; clear_value x
  extract_lets +onlyGivenNames x; clear_value x
  extract_lets +onlyGivenNames x; clear_value x
  focus
    extract_lets +onlyGivenNames x; refine Moves.use x ?_ (fun hx => ?_); unfold x; clear x; rotate_left; clear_value x; rotate_right
  refine Moves.update ?_
  apply Moves.refl
  focus
    extract_lets +onlyGivenNames x; refine Moves.use x ?_ (fun hx => ?_); unfold x; clear x; rotate_left; clear_value x; rotate_right
  with_reducible apply Moves.ite
  with_reducible apply Moves.app (emcyLog_frame ..); decide
  with_reducible apply Moves.app (State.setFlag_frame ..); decide
  assumption
  assumption
  with_reducible apply Moves.ite
  with_reducible apply Moves.app (State.setFlag_frame ..); decide
  assumption
  assumption

theorem telemetryConsumers_frame (a0 : State) (a1 : Nat) : Moves [.od, .log, .can, .pdo, .link, .sched, .sense, .reg, .pack, .thermal] a0 (telemetryConsumers a0 a1) := by
  unfold telemetryConsumers
  with_reducible apply Moves.ite
  with_reducible apply Moves.app (supVoltage_frame ..); decide
  apply Moves.refl
  with_reducible apply Moves.ite
  with_reducible apply Moves.app (supCurrent_frame ..); decide
  apply Moves.refl
  with_reducible apply Moves.ite
  with_reducible apply Moves.app (thermalOutput_frame ..); decide
  apply Moves.refl
  with_reducible apply Moves.ite
  with_reducible apply Moves.app (chargerReview_frame ..); decide
  apply Moves.refl
  with_reducible apply Moves.ite
  with_reducible apply Moves.ite
  with_reducible apply Moves.app (chargerVoltage_frame ..); decide
  apply Moves.refl
  apply Moves.refl
  with_reducible apply Moves.ite
  extract_lets +onlyGivenNames x; clear_value x
  with_reducible apply Moves.app (lifeIntegrate_frame ..); decide
  with_reducible apply Moves.ite
  with_reducible apply Moves.app (chargerVoltage_frame ..); decide
  apply Moves.refl
  apply Moves.refl
  with_reducible apply Moves.ite
  with_reducible apply Moves.app (packTemperature_frame ..); decide
  apply Moves.refl
  with_reducible apply Moves.ite
  with_reducible apply Moves.app (refCheck_frame ..); decide
  apply Moves.refl
  with_reducible apply Moves.ite
  with_reducible apply Moves.app (refCheck_frame ..); decide
  apply Moves.refl
  with_reducible apply Moves.ite
  with_reducible apply Moves.app (refCheck_frame ..); decide
  apply Moves.refl
  apply Moves.refl

theorem actTelemetryOutput_frame (a0 : Fin 64) (a1 : List Nat) (a2 : State) : Moves [.od, .log, .can, .pdo, .link, .sched, .sense, .reg, .pack, .thermal] a2 (actTelemetryOutput a0 a1 a2) := by
  unfold actTelemetryOutput
  extract_lets +onlyGivenNames x; clear_value x
  extract_lets +onlyGivenNames x; clear_value x
  extract_lets +onlyGivenNames x; clear_value x
  with_reducible apply Moves.ite
  apply Moves.refl
  extract_lets +onlyGivenNames x; clear_value x
  focus
    extract_lets +onlyGivenNames x; refine Moves.use x.1 ?_ (fun hx => ?_); unfold x; clear x; rotate_left; clear_value x; rotate_right
  with_reducible apply Moves.app (laneOutput_frame ..); decide
  apply Moves.refl
  focus
    extract_lets +onlyGivenNames x; refine Moves.use x ?_ (fun hx => ?_); unfold x; clear x; rotate_left; clear_value x; rotate_right
  with_reducible apply Moves.app (laneFlags_frame ..); decide
  assumption
  extract_lets +onlyGivenNames x; clear_value x
  with_reducible apply Moves.app (telemetryConsumers_frame ..); decide
  with_reducible apply Moves.app (State.set_frame ..); decide
  assumption

theorem actTestLogicReset_frame (a0 : State) : Moves [.tdo, .test] a0 (actTestLogicReset a0) := by
  unfold actTestLogicReset
  with_reducible apply Moves.ite
  with_reducible apply Moves.app (startSession_frame ..); decide
  refine Moves.update ?_
  apply Moves.refl
  apply Moves.refl

theorem actTouchBankPowerUp_frame (a0 : State) : Moves [.sense] a0 (actTouchBankPowerUp a0) := by
  unfold actTouchBankPowerUp
  with_reducible apply Moves.ite
  refine Moves.update ?_
  apply Moves.refl
  apply Moves.refl

theorem actTouchBankSwitch_frame (a0 : Port) (a1 : Fin 16) (a2 : State) : Moves [.replies, .sense] a2 (actTouchBankSwitch a0 a1 a2) := by
  unfold actTouchBankSwitch
  (with_reducible apply portCommand_frame) <;> first | decide | skip
  apply Moves.refl
  with_reducible intro _
  with_reducible apply Moves.app (laneSwitch_frame ..); decide
  apply Moves.refl

theorem serveAgain_frame (a0 : State) (a1 : Nat) : Moves [.od, .log, .can, .pdo, .link, .sched, .sense] a0 (serveAgain a0 a1) := by
  unfold serveAgain
  extract_lets +onlyGivenNames x; clear_value x
  extract_lets +onlyGivenNames x; clear_value x
  focus
    extract_lets +onlyGivenNames x; refine Moves.use x ?_ (fun hx => ?_); unfold x; clear x; rotate_left; clear_value x; rotate_right
  refine Moves.update ?_
  apply Moves.refl
  with_reducible apply Moves.ite
  with_reducible apply Moves.app (emcyLog_frame ..); decide
  with_reducible apply Moves.app (State.setFlag_frame ..); decide
  assumption
  assumption

theorem powerUpFails_frame (a0 : State) (a1 : Nat) : Moves [.od, .log, .can, .pdo, .link, .sched, .sense] a0 (powerUpFails a0 a1) := by
  unfold powerUpFails
  extract_lets +onlyGivenNames x; clear_value x
  focus
    extract_lets +onlyGivenNames x; refine Moves.use x ?_ (fun hx => ?_); unfold x; clear x; rotate_left; clear_value x; rotate_right
  with_reducible apply Moves.app (failSlice_frame ..); decide
  apply Moves.refl
  with_reducible apply Moves.ite
  with_reducible apply Moves.app (serveAgain_frame ..); decide
  assumption
  assumption

theorem actTouchCalibrationComplete_frame (a0 : List (SliceEst × SliceEst)) (a1 : State) : Moves [.od, .log, .can, .pdo, .link, .sched, .sense] a1 (actTouchCalibrationComplete a0 a1) := by
  unfold actTouchCalibrationComplete
  with_reducible apply Moves.ite
  apply Moves.refl
  extract_lets +onlyGivenNames x; clear_value x
  extract_lets +onlyGivenNames x; clear_value x
  focus
    extract_lets +onlyGivenNames x; refine Moves.use x ?_ (fun hx => ?_); unfold x; clear x; rotate_left; clear_value x; rotate_right
  refine Moves.update ?_
  apply Moves.refl
  with_reducible apply Moves.foldl; intro _ _ _
  with_reducible apply Moves.app (powerUpFails_frame ..); decide
  assumption
  assumption

theorem actTrstNLow_frame (a0 : State) : Moves [.tdo, .test] a0 (actTrstNLow a0) := by
  unfold actTrstNLow
  with_reducible apply Moves.ite
  refine Moves.update ?_
  apply Moves.refl
  apply Moves.refl

theorem actUnlockLockoutExpiry_frame (a0 : State) : Moves [.test] a0 (actUnlockLockoutExpiry a0) := by
  unfold actUnlockLockoutExpiry
  refine Moves.update ?_
  apply Moves.refl

theorem actUnlockNonce_frame (a0 : Port) (a1 : State) : Moves [.od, .draws, .replies, .test] a1 (actUnlockNonce a0 a1) := by
  unfold actUnlockNonce
  (with_reducible apply portCommand_frame) <;> first | decide | skip
  apply Moves.refl
  with_reducible intro _
  with_reducible apply Moves.app (drawNonce_frame ..); decide
  apply Moves.refl

theorem actUnlockResponse_frame (a0 : Port) (a1 : List Nat) (a2 : State) : Moves [.od, .replies, .log, .can, .pdo, .link, .sched, .test] a2 (actUnlockResponse a0 a1 a2) := by
  unfold actUnlockResponse
  (with_reducible apply portCommand_frame) <;> first | decide | skip
  apply Moves.refl
  with_reducible intro _
  with_reducible apply Moves.app (unlockResponse_frame ..); decide
  apply Moves.refl

theorem actUpdateConfirm_frame (a0 : Port) (a1 : State) : Moves [.od, .replies, .log, .link, .sched, .update] a1 (actUpdateConfirm a0 a1) := by
  unfold actUpdateConfirm
  (with_reducible apply portCommand_frame) <;> first | decide | skip
  apply Moves.refl
  with_reducible intro _
  with_reducible apply Moves.app (updateConfirm_frame ..); decide
  apply Moves.refl

theorem actUpdateReject_frame (a0 : Port) (a1 : BankFound) (a2 : State) : Moves [.od, .draws, .replies, .aocb, .store, .log, .can, .pdo, .link, .mem, .sched, .tabor, .sense, .reg, .seq, .update, .test] a2 (actUpdateReject a0 a1 a2) := by
  unfold actUpdateReject
  (with_reducible apply portCommand_frame) <;> first | decide | skip
  apply Moves.refl
  with_reducible intro _
  with_reducible apply Moves.app (updateReject_frame ..); decide
  apply Moves.refl

theorem verifyEnds_frame (a0 : State) (a1 : List Nat) : Moves [.od, .log, .can, .pdo, .link, .sched, .update] a0 (verifyEnds a0 a1) := by
  unfold verifyEnds
  split
  apply Moves.refl
  extract_lets +onlyGivenNames x; clear_value x
  with_reducible apply Moves.ite
  with_reducible apply Moves.app (setStage_frame ..); decide
  apply Moves.refl
  with_reducible apply Moves.app (emcyLog_frame ..); decide
  with_reducible apply Moves.app (setStage_frame ..); decide
  apply Moves.refl

theorem actVerifyComplete_frame (a0 : List Nat) (a1 : State) : Moves [.od, .log, .can, .pdo, .link, .sched, .update] a1 (actVerifyComplete a0 a1) := by
  unfold actVerifyComplete
  with_reducible apply Moves.app (verifyEnds_frame ..); decide
  apply Moves.refl

theorem beginInits_frame (a0 : State) : Moves [.od, .draws, .log, .can, .pdo, .link, .mem, .sched, .tabor] a0 (beginInits a0) := by
  unfold beginInits
  with_reducible apply Moves.foldl; intro _ _ _
  with_reducible apply Moves.app (beginInit_frame ..); decide
  assumption
  apply Moves.refl

theorem seeImmediate_frame (a0 : State) (a1 : Nat) : Moves [.can, .pdo] a0 (seeImmediate a0 a1) := by
  unfold seeImmediate
  with_reducible apply Moves.ite
  apply Moves.refl
  extract_lets +onlyGivenNames x; clear_value x
  extract_lets +onlyGivenNames x; clear_value x
  with_reducible apply Moves.app (sendImmediate_frame ..); decide
  with_reducible apply Moves.ite
  apply Moves.refl
  with_reducible apply Moves.app (State.setTpdo_frame ..); decide
  apply Moves.refl

theorem immediates_frame (a0 : State) : Moves [.can, .pdo] a0 (immediates a0) := by
  unfold immediates
  with_reducible apply Moves.ite
  with_reducible apply Moves.foldl; intro _ _ _
  with_reducible apply Moves.app (seeImmediate_frame ..); decide
  assumption
  apply Moves.refl
  apply Moves.refl

end Sys2Proof.Machine
end

