-- ==== Sys2Proof/Laws/FramesPort.lean ====
section
/-!
SUPPORT. What each function may change: the frames of object writes and requests, the link, inbound packets, memory, PDO reception, tasks, the Tabor core's running and what every command ends with. One lemma per function: every part of the
state that is not listed stands as it stood, and every table keeps its canonical form.
-/

set_option linter.all false
set_option Elab.async false

namespace Sys2Proof.Machine

theorem State.setRpdo_frame (a0 : State) (a1 : Nat) (a2 : Rpdo) : Moves [.can, .pdo] a0 (State.setRpdo a0 a1 a2) := by
  unfold State.setRpdo
  refine Moves.update ?_
  apply Moves.refl

theorem parsePayload_frame (a0 : State) (a1 : Flit) : Moves [.od, .link] a0 (parsePayload a0 a1) := by
  unfold parsePayload
  extract_lets +onlyGivenNames x; clear_value x
  extract_lets +onlyGivenNames x; clear_value x
  extract_lets +onlyGivenNames x; clear_value x
  focus
    extract_lets +onlyGivenNames x; refine Moves.use x ?_ (fun hx => ?_); unfold x; clear x; rotate_left; clear_value x; rotate_right
  refine Moves.update ?_
  apply Moves.refl
  with_reducible apply Moves.ite
  with_reducible apply Moves.app (raiseVector_frame ..); decide
  with_reducible apply Moves.app (State.count_frame ..); decide
  assumption
  assumption

theorem sendNak_frame (a0 : State) : Moves [.link] a0 (sendNak a0) := by
  unfold sendNak
  with_reducible apply Moves.ite
  apply Moves.refl
  refine Moves.update ?_
  apply Moves.refl

theorem acceptData_frame (a0 : State) (a1 : Flit) : Moves [.od, .link] a0 (acceptData a0 a1) := by
  unfold acceptData
  extract_lets +onlyGivenNames x; clear_value x
  with_reducible apply Moves.ite
  extract_lets +onlyGivenNames x; clear_value x
  with_reducible apply Moves.app (parsePayload_frame ..); decide
  refine Moves.update ?_
  apply Moves.refl
  with_reducible apply Moves.ite
  apply Moves.refl
  with_reducible apply Moves.app (sendNak_frame ..); decide
  apply Moves.refl

theorem acknowledge_frame (a0 : State) (a1 : Nat) : Moves [.link] a0 (acknowledge a0 a1) := by
  unfold acknowledge
  extract_lets +onlyGivenNames x; clear_value x
  with_reducible apply Moves.ite
  extract_lets +onlyGivenNames x; clear_value x
  refine Moves.update ?_
  apply Moves.refl
  apply Moves.refl

theorem putFlit_frame (a0 : State) (a1 : FType) (a2 : Nat) (a3 : Nat) (a4 : List Nat) : Moves [.link] a0 (putFlit a0 a1 a2 a3 a4) := by
  unfold putFlit
  extract_lets +onlyGivenNames x; clear_value x
  extract_lets +onlyGivenNames x; clear_value x
  refine Moves.update ?_
  apply Moves.refl

theorem putLink_frame (a0 : State) : Moves [.link] a0 (putLink a0) := by
  unfold putLink
  extract_lets +onlyGivenNames x; clear_value x
  with_reducible apply Moves.app (putFlit_frame ..); decide
  apply Moves.refl

theorem enterRetrain_frame (a0 : State) : Moves [.od, .draws, .replies, .store, .log, .can, .pdo, .link, .mem, .sched, .tabor, .sense, .update, .test] a0 (enterRetrain a0) := by
  unfold enterRetrain
  extract_lets +onlyGivenNames x; clear_value x
  focus
    extract_lets +onlyGivenNames x; refine Moves.use x ?_ (fun hx => ?_); unfold x; clear x; rotate_left; clear_value x; rotate_right
  with_reducible apply Moves.app (State.count_frame ..); decide
  apply Moves.refl
  extract_lets +onlyGivenNames x; clear_value x
  focus
    extract_lets +onlyGivenNames x; refine Moves.use x ?_ (fun hx => ?_); unfold x; clear x; rotate_left; clear_value x; rotate_right
  refine Moves.update ?_
  assumption
  with_reducible apply Moves.ite
  with_reducible apply Moves.app (enterDetect_frame ..); decide
  refine Moves.update ?_
  assumption
  with_reducible apply Moves.app (putLink_frame ..); decide
  with_reducible apply Moves.app (setLink_frame ..); decide
  assumption

theorem putData_frame (a0 : State) (a1 : TxFlit) : Moves [.link] a0 (putData a0 a1) := by
  unfold putData
  with_reducible apply Moves.app (putFlit_frame ..); decide
  apply Moves.refl

theorem resend_frame (a0 : State) : Moves [.link] a0 (resend a0) := by
  unfold resend
  with_reducible apply Moves.ite
  with_reducible apply Moves.foldl; intro _ _ _
  with_reducible apply Moves.app (putData_frame ..); decide
  assumption
  apply Moves.refl
  apply Moves.refl

theorem replay_frame (a0 : State) : Moves [.od, .draws, .replies, .store, .log, .can, .pdo, .link, .mem, .sched, .tabor, .sense, .update, .test] a0 (replay a0) := by
  unfold replay
  with_reducible apply Moves.ite
  apply Moves.refl
  extract_lets +onlyGivenNames x; clear_value x
  focus
    extract_lets +onlyGivenNames x; refine Moves.use x ?_ (fun hx => ?_); unfold x; clear x; rotate_left; clear_value x; rotate_right
  with_reducible apply Moves.app (State.count_frame ..); decide
  apply Moves.refl
  with_reducible apply Moves.ite
  with_reducible apply Moves.app (enterRetrain_frame ..); decide
  refine Moves.update ?_
  assumption
  with_reducible apply Moves.app (resend_frame ..); decide
  refine Moves.update ?_
  assumption

theorem freshLanes_frame (a0 : State) : Moves [.link] a0 (freshLanes a0) := by
  unfold freshLanes
  refine Moves.update ?_
  apply Moves.refl

theorem actAckTimeout_frame (a0 : State) : Moves [.od, .draws, .replies, .store, .log, .can, .pdo, .link, .mem, .sched, .tabor, .sense, .update, .test] a0 (actAckTimeout a0) := by
  unfold actAckTimeout
  with_reducible apply Moves.ite
  with_reducible apply Moves.app (replay_frame ..); decide
  with_reducible apply Moves.app (freshLanes_frame ..); decide
  apply Moves.refl
  apply Moves.refl

theorem raiseEcc_frame (a0 : State) : Moves [.od, .draws, .log, .can, .pdo, .link, .mem, .sched, .tabor] a0 (raiseEcc a0) := by
  unfold raiseEcc
  focus
    extract_lets +onlyGivenNames x; refine Moves.use x ?_ (fun hx => ?_); unfold x; clear x; rotate_left; clear_value x; rotate_right
  with_reducible apply Moves.app (takeException_frame ..); decide
  apply Moves.refl
  extract_lets +onlyGivenNames x; clear_value x
  with_reducible apply Moves.app (boundaryHalt_frame ..); decide
  refine Moves.update ?_
  assumption

theorem raiseBudget_frame (a0 : State) (a1 : Nat) : Moves [.od, .draws, .log, .can, .pdo, .link, .mem, .sched, .tabor] a0 (raiseBudget a0 a1) := by
  unfold raiseBudget
  focus
    extract_lets +onlyGivenNames x; refine Moves.use x ?_ (fun hx => ?_); unfold x; clear x; rotate_left; clear_value x; rotate_right
  with_reducible apply Moves.app (takeException_frame ..); decide
  apply Moves.refl
  with_reducible apply Moves.ite
  refine Moves.update ?_
  assumption
  with_reducible apply Moves.app (boundaryHalt_frame ..); decide
  with_reducible apply Moves.app (abandonActivation_frame ..); decide
  assumption

theorem settleBudget_frame (a0 : State) : Moves [.od, .draws, .log, .can, .pdo, .link, .mem, .sched, .tabor] a0 (settleBudget a0) := by
  unfold settleBudget
  with_reducible apply Moves.ite
  apply Moves.refl
  with_reducible apply Moves.ite
  with_reducible apply Moves.app (raiseEcc_frame ..); decide
  apply Moves.refl
  with_reducible apply Moves.ite
  apply Moves.refl
  with_reducible apply Moves.ite
  with_reducible apply Moves.app (leaveUser_frame ..); decide
  apply Moves.refl
  with_reducible apply Moves.ite
  apply Moves.refl
  extract_lets +onlyGivenNames x; clear_value x
  focus
    extract_lets +onlyGivenNames x; refine Moves.use x ?_ (fun hx => ?_); unfold x; clear x; rotate_left; clear_value x; rotate_right
  refine Moves.update ?_
  apply Moves.refl
  split
  with_reducible apply Moves.app (raiseBudget_frame ..); decide
  assumption
  assumption

theorem actAlignComplete_frame (a0 : State) : Moves [.od, .log, .link, .sched] a0 (actAlignComplete a0) := by
  unfold actAlignComplete
  with_reducible apply Moves.ite
  with_reducible apply Moves.app (putLink_frame ..); decide
  with_reducible apply Moves.app (setLink_frame ..); decide
  with_reducible apply Moves.app (freshLanes_frame ..); decide
  apply Moves.refl
  apply Moves.refl

theorem linkError_frame (a0 : State) : Moves [.od, .link] a0 (linkError a0) := by
  unfold linkError
  with_reducible apply Moves.app (raiseVector_frame ..); decide
  with_reducible apply Moves.app (State.count_frame ..); decide
  apply Moves.refl

theorem popIssue_frame (a0 : State) (a1 : Nat) (a2 : Nat) (a3 : Nat) (a4 : Nat) : Moves [.draws, .link] a0 (popIssue a0 a1 a2 a3 a4) := by
  unfold popIssue
  split
  with_reducible apply Moves.of_pair; assumption
  with_reducible apply Moves.app (State.pick_frame ..); decide
  apply Moves.refl
  extract_lets +onlyGivenNames x; clear_value x
  focus
    extract_lets +onlyGivenNames x; refine Moves.use x ?_ (fun hx => ?_); unfold x; clear x; rotate_left; clear_value x; rotate_right
  refine Moves.update ?_
  with_reducible apply Moves.of_pair; assumption
  with_reducible apply Moves.app (State.pick_frame ..); decide
  apply Moves.refl
  with_reducible apply Moves.app (State.sendPacket_frame ..); decide
  assumption

theorem servePop_frame (a0 : State) (a1 : Nat × Nat × Nat) : Moves [.od, .draws, .replies, .log, .can, .pdo, .link, .mem, .sched, .tabor, .test] a0 (servePop a0 a1) := by
  unfold servePop
  split
  extract_lets +onlyGivenNames x; clear_value x
  with_reducible apply Moves.ite
  refine Moves.update ?_
  apply Moves.refl
  extract_lets +onlyGivenNames g245
  split
  refine Moves.update ?_
  with_reducible apply Moves.of_pair; assumption
  with_reducible apply Moves.app (ringPop_frame ..); decide
  apply Moves.refl
  with_reducible apply Moves.app (popIssue_frame ..); decide
  with_reducible apply Moves.of_pair; assumption
  with_reducible apply Moves.app (ringPop_frame ..); decide
  apply Moves.refl
  unfold g245
  with_reducible apply Moves.app (finishRequest_frame ..); decide
  with_reducible apply Moves.of_pair; assumption
  with_reducible apply Moves.app (ringPop_frame ..); decide
  apply Moves.refl
  unfold g245
  with_reducible apply Moves.app (finishRequest_frame ..); decide
  with_reducible apply Moves.of_pair; assumption
  with_reducible apply Moves.app (ringPop_frame ..); decide
  apply Moves.refl
  unfold g245
  with_reducible apply Moves.app (finishRequest_frame ..); decide
  with_reducible apply Moves.of_pair; assumption
  with_reducible apply Moves.app (ringPop_frame ..); decide
  apply Moves.refl

theorem servePops_frame (a0 : State) : Moves [.od, .draws, .replies, .log, .can, .pdo, .link, .mem, .sched, .tabor, .test] a0 (servePops a0) := by
  unfold servePops
  with_reducible apply Moves.foldl; intro _ _ _
  with_reducible apply Moves.app (servePop_frame ..); decide
  assumption
  refine Moves.update ?_
  apply Moves.refl

theorem freeTag_frame {l : List Part} {a s : State} {n : Nat} {f : State → State} (h : Moves l a s)
    (hf : ∀ t, Moves l t (f t)) (hr : ∀ p ∈ [Part.od, Part.draws, Part.replies, Part.log, Part.can, Part.pdo, Part.link, Part.mem, Part.sched, Part.tabor, Part.test], p ∈ l) : Moves l a (freeTag s n f) := by
  unfold freeTag
  exact (((h.trans ((setLink_moves s _).mono (fun p hp => hr p (by revert p; decide)))).trans (hf _)).trans
    ((pumpReads_frame _).mono (fun p hp => hr p (by revert p; decide)))).trans ((servePops_frame _).mono (fun p hp => hr p (by revert p; decide)))

theorem popEnds_frame (a0 : State) (a1 : Nat) (a2 : Nat) (a3 : Nat) (a4 : Option Nat) (a5 : List Nat) : Moves [.od, .draws, .replies, .log, .can, .pdo, .link, .mem, .sched, .tabor, .test] a0 (popEnds a0 a1 a2 a3 a4 a5) := by
  unfold popEnds
  focus
    extract_lets +onlyGivenNames x; refine Moves.use x ?_ (fun hx => ?_); unfold x; clear x; rotate_left; clear_value x; rotate_right
  with_reducible apply Moves.ite
  apply Moves.refl
  with_reducible apply Moves.app (ringConsume_frame ..); decide
  apply Moves.refl
  with_reducible apply Moves.app (finishRequest_frame ..); decide
  assumption

theorem completion_frame (a0 : State) (a1 : Nat) (a2 : Nat) (a3 : List Nat) : Moves [.od, .draws, .replies, .log, .can, .pdo, .link, .mem, .sched, .tabor, .sense, .test] a0 (completion a0 a1 a2 a3) := by
  unfold completion
  split
  with_reducible apply Moves.app (linkError_frame ..); decide
  apply Moves.refl
  (with_reducible apply freeTag_frame) <;> first | decide | skip
  apply Moves.refl
  with_reducible intro _
  with_reducible apply Moves.ite
  with_reducible apply Moves.app (failRead_frame ..); decide
  apply Moves.refl
  split
  with_reducible apply Moves.app (popEnds_frame ..); decide
  apply Moves.refl
  apply Moves.refl

theorem refusedRead_frame (a0 : State) (a1 : Status) : Moves [] a0 (refusedRead a0 a1).1 := by
  unfold refusedRead
  dsimp only
  apply Moves.refl

theorem captureExport_frame (a0 : State) (a1 : Port) : Moves [.store] a0 (captureExport a0 a1) := by
  unfold captureExport
  refine Moves.update ?_
  apply Moves.refl

theorem segmentData_frame (a0 : State) (a1 : Port) (a2 : Nat) (a3 : Nat) (a4 : Nat) (a5 : Bool) : Moves [.od, .store, .log] a0 (segmentData a0 a1 a2 a3 a4 a5).1 := by
  unfold segmentData
  with_reducible apply Moves.ite_fst
  focus
    extract_lets +onlyGivenNames x; refine Moves.use x ?_ (fun hx => ?_); unfold x; clear x; rotate_left; clear_value x; rotate_right
  with_reducible apply Moves.ite
  with_reducible apply Moves.app (captureExport_frame ..); decide
  apply Moves.refl
  apply Moves.refl
  dsimp only
  assumption
  with_reducible apply Moves.ite_fst
  dsimp only
  apply Moves.refl
  with_reducible apply Moves.app (readWindow_frame ..); decide
  apply Moves.refl

theorem gave_frame (a0 : State) (a1 : List Nat) : Moves [] a0 (gave a0 a1).1 := by
  unfold gave
  dsimp only
  apply Moves.refl

theorem segRead_frame (a0 : State) (a1 : Port) (a2 : Nat) (a3 : Nat) (a4 : Nat) (a5 : Nat) (a6 : Bool) : Moves [.od, .store, .log] a0 (segRead a0 a1 a2 a3 a4 a5 a6).1 := by
  unfold segRead
  split
  with_reducible apply Moves.app (refusedRead_frame ..); decide
  apply Moves.refl
  with_reducible apply Moves.ite_fst
  with_reducible apply Moves.app (refusedRead_frame ..); decide
  apply Moves.refl
  with_reducible apply Moves.ite_fst
  with_reducible apply Moves.app (refusedRead_frame ..); decide
  apply Moves.refl
  with_reducible apply Moves.ite_fst
  with_reducible apply Moves.app (refusedRead_frame ..); decide
  apply Moves.refl
  split
  focus
    extract_lets +onlyGivenNames x; refine Moves.use x.1 ?_ (fun hx => ?_); unfold x; clear x; rotate_left; clear_value x; rotate_right
  with_reducible apply Moves.app (segmentData_frame ..); decide
  apply Moves.refl
  with_reducible apply Moves.app (gave_frame ..); decide
  assumption
  with_reducible apply Moves.app (refusedRead_frame ..); decide
  apply Moves.refl

theorem popWindow_frame (a0 : State) (a1 : Port) (a2 : Nat) (a3 : Nat) (a4 : Bool) : Moves [.od, .draws, .replies, .log, .can, .pdo, .link, .mem, .sched, .tabor, .test] a0 (popWindow a0 a1 a2 a3 a4).1 := by
  unfold popWindow
  split
  with_reducible apply Moves.app (gave_frame ..); decide
  with_reducible apply Moves.of_pair; assumption
  with_reducible apply Moves.app (ringPop_frame ..); decide
  apply Moves.refl
  with_reducible apply Moves.app (gave_frame ..); decide
  with_reducible apply Moves.of_pair; assumption
  with_reducible apply Moves.app (ringPop_frame ..); decide
  apply Moves.refl
  with_reducible apply Moves.app (refusedRead_frame ..); decide
  with_reducible apply Moves.of_pair; assumption
  with_reducible apply Moves.app (ringPop_frame ..); decide
  apply Moves.refl
  extract_lets +onlyGivenNames x; clear_value x
  dsimp only
  with_reducible apply Moves.app (servePops_frame ..); decide
  refine Moves.update ?_
  with_reducible apply Moves.of_pair; assumption
  with_reducible apply Moves.app (ringPop_frame ..); decide
  apply Moves.refl
  extract_lets +onlyGivenNames x; clear_value x
  dsimp only
  with_reducible apply Moves.app (servePops_frame ..); decide
  refine Moves.update ?_
  with_reducible apply Moves.of_pair; assumption
  with_reducible apply Moves.app (ringPop_frame ..); decide
  apply Moves.refl

theorem readRequest_frame (a0 : State) (a1 : Port) (a2 : Nat) (a3 : Nat) (a4 : Bool) (a5 : Nat) : Moves [.od, .draws, .replies, .store, .log, .can, .pdo, .link, .mem, .sched, .tabor, .test] a0 (readRequest a0 a1 a2 a3 a4 a5).1 := by
  unfold readRequest
  with_reducible apply Moves.ite_fst
  with_reducible apply Moves.app (segRead_frame ..); decide
  apply Moves.refl
  split
  with_reducible apply Moves.app (refusedRead_frame ..); decide
  apply Moves.refl
  with_reducible apply Moves.ite_fst
  with_reducible apply Moves.app (refusedRead_frame ..); decide
  apply Moves.refl
  with_reducible apply Moves.ite_fst
  with_reducible apply Moves.app (refusedRead_frame ..); decide
  apply Moves.refl
  split
  with_reducible apply Moves.ite_fst
  with_reducible apply Moves.app (popWindow_frame ..); decide
  apply Moves.refl
  with_reducible apply Moves.app (gave_frame ..); decide
  with_reducible apply Moves.ite
  with_reducible apply Moves.app (State.set_frame ..); decide
  apply Moves.refl
  apply Moves.refl
  with_reducible apply Moves.app (refusedRead_frame ..); decide
  apply Moves.refl

theorem ended_frame (a0 : State × Status) : Moves [] a0.1 (ended a0).1 := by
  unfold ended
  dsimp only
  apply Moves.refl

theorem stageBytes_frame (a0 : State) (a1 : Nat) (a2 : List Nat) : Moves [.store] a0 (stageBytes a0 a1 a2).1 := by
  unfold stageBytes
  extract_lets +onlyGivenNames x; clear_value x
  with_reducible apply Moves.ite_fst
  dsimp only
  apply Moves.refl
  extract_lets +onlyGivenNames x; clear_value x
  dsimp only
  refine Moves.update ?_
  apply Moves.refl

theorem segmentStore_frame (a0 : State) (a1 : Port) (a2 : Nat) (a3 : Nat) (a4 : Nat) (a5 : List Nat) : Moves [.od, .draws, .store, .log, .link, .sched, .update] a0 (segmentStore a0 a1 a2 a3 a4 a5).1 := by
  unfold segmentStore
  with_reducible apply Moves.ite_fst
  with_reducible apply Moves.app (stageBytes_frame ..); decide
  apply Moves.refl
  with_reducible apply Moves.ite_fst
  dsimp only
  apply Moves.refl
  with_reducible apply Moves.ite_fst
  dsimp only
  apply Moves.refl
  with_reducible apply Moves.app (programData_frame ..); decide
  with_reducible apply Moves.app (State.draw_frame ..); decide
  apply Moves.refl

theorem segWrite_frame (a0 : State) (a1 : Port) (a2 : Nat) (a3 : Nat) (a4 : Nat) (a5 : List Nat) : Moves [.od, .draws, .store, .log, .link, .sched, .update] a0 (segWrite a0 a1 a2 a3 a4 a5).1 := by
  unfold segWrite
  split
  dsimp only
  apply Moves.refl
  with_reducible apply Moves.ite_fst
  dsimp only
  apply Moves.refl
  with_reducible apply Moves.ite_fst
  dsimp only
  apply Moves.refl
  split
  with_reducible apply Moves.app (ended_frame ..); decide
  with_reducible apply Moves.app (segmentStore_frame ..); decide
  apply Moves.refl
  dsimp only
  apply Moves.refl

theorem done_frame (a0 : State) : Moves [] a0 (done a0).1 := by
  unfold Machine.done
  dsimp only
  apply Moves.refl

theorem pdoChanged_frame (a0 : State) (a1 : Nat) (a2 : Nat) : Moves [.can, .pdo] a0 (pdoChanged a0 a1 a2) := by
  unfold pdoChanged
  with_reducible apply Moves.ite
  apply Moves.refl
  with_reducible apply Moves.ite
  with_reducible apply Moves.app (State.setTpdo_frame ..); decide
  apply Moves.refl
  refine Moves.update ?_
  apply Moves.refl

theorem programControl_frame (a0 : State) (a1 : Nat) (a2 : Nat) (a3 : Nat) (a4 : Asker) : Moves [.od, .draws, .replies, .aocb, .store, .log, .can, .pdo, .link, .mem, .sched, .tabor, .sense, .reg, .seq, .update, .test] a0 (programControl a0 a1 a2 a3 a4).1 := by
  unfold programControl
  with_reducible apply Moves.ite_fst
  dsimp only
  apply Moves.refl
  with_reducible apply Moves.ite_fst
  dsimp only
  apply Moves.refl
  split
  with_reducible apply Moves.app (ended_frame ..); decide
  with_reducible apply Moves.app (programStop_frame ..); decide
  apply Moves.refl
  with_reducible apply Moves.app (ended_frame ..); decide
  with_reducible apply Moves.app (programControlStart_frame ..); decide
  apply Moves.refl
  with_reducible apply Moves.app (programClear_frame ..); decide
  apply Moves.refl
  with_reducible apply Moves.app (ended_frame ..); decide
  with_reducible apply Moves.app (programVerify_frame ..); decide
  apply Moves.refl
  with_reducible apply Moves.app (ended_frame ..); decide
  with_reducible apply Moves.app (programActivate_frame ..); decide
  with_reducible apply Moves.app (State.draw_frame ..); decide
  apply Moves.refl
  dsimp only
  apply Moves.refl

theorem writeComm_frame (a0 : State) (a1 : Port) (a2 : Nat) (a3 : Nat) (a4 : Nat) (a5 : Nat) : Moves [.od, .draws, .replies, .aocb, .store, .log, .can, .pdo, .link, .mem, .sched, .tabor, .sense, .reg, .seq, .update, .test] a0 (writeComm a0 a1 a2 a3 a4 a5).1 := by
  unfold writeComm
  focus
    extract_lets +onlyGivenNames x; refine Moves.use x ?_ (fun hx => ?_); unfold x; clear x; rotate_left; clear_value x; rotate_right
  with_reducible apply Moves.app (State.set_frame ..); decide
  apply Moves.refl
  extract_lets +onlyGivenNames x; clear_value x
  with_reducible apply Moves.ite_fst
  with_reducible apply Moves.app (done_frame ..); decide
  with_reducible apply Moves.foldl; intro _ _ _
  with_reducible apply Moves.app (State.set_frame ..); decide
  assumption
  apply Moves.refl
  with_reducible apply Moves.ite_fst
  with_reducible apply Moves.app (beginSave_frame ..); decide
  apply Moves.refl
  with_reducible apply Moves.ite_fst
  with_reducible apply Moves.app (beginRestore_frame ..); decide
  apply Moves.refl
  with_reducible apply Moves.ite_fst
  with_reducible apply Moves.app (done_frame ..); decide
  refine Moves.update ?_
  assumption
  with_reducible apply Moves.ite_fst
  with_reducible apply Moves.app (done_frame ..); decide
  with_reducible apply Moves.ite
  with_reducible apply Moves.app (pdoChanged_frame ..); decide
  assumption
  assumption
  with_reducible apply Moves.ite_fst
  with_reducible apply Moves.app (done_frame ..); decide
  with_reducible apply Moves.ite
  with_reducible apply Moves.app (pdoChanged_frame ..); decide
  assumption
  assumption
  with_reducible apply Moves.ite_fst
  with_reducible apply Moves.app (done_frame ..); decide
  with_reducible apply Moves.ite
  with_reducible apply Moves.app (pdoChanged_frame ..); decide
  assumption
  assumption
  with_reducible apply Moves.ite_fst
  with_reducible apply Moves.app (done_frame ..); decide
  with_reducible apply Moves.ite
  with_reducible apply Moves.app (pdoChanged_frame ..); decide
  assumption
  assumption
  with_reducible apply Moves.ite_fst
  with_reducible apply Moves.app (programControl_frame ..); decide
  apply Moves.refl
  with_reducible apply Moves.app (done_frame ..); decide
  assumption

theorem writeWindowAttr_frame (a0 : State) (a1 : Port) (a2 : Nat) (a3 : Nat) (a4 : Nat) : Moves [.od, .draws, .log, .can, .pdo, .link, .mem, .sched, .tabor, .sense] a0 (writeWindowAttr a0 a1 a2 a3 a4).1 := by
  unfold writeWindowAttr
  extract_lets +onlyGivenNames x; clear_value x
  extract_lets +onlyGivenNames x; clear_value x
  focus
    extract_lets +onlyGivenNames x; refine Moves.use x ?_ (fun hx => ?_); unfold x; clear x; rotate_left; clear_value x; rotate_right
  with_reducible apply Moves.app (noteOpener_frame ..); decide
  with_reducible apply Moves.app (State.set_frame ..); decide
  apply Moves.refl
  focus
    extract_lets +onlyGivenNames x; refine Moves.use x ?_ (fun hx => ?_); unfold x; clear x; rotate_left; clear_value x; rotate_right
  with_reducible apply Moves.ite
  with_reducible apply Moves.app (windowCloses_frame ..); decide
  assumption
  assumption
  with_reducible apply Moves.ite_fst
  dsimp only
  refine Moves.update ?_
  assumption
  with_reducible apply Moves.app (done_frame ..); decide
  assumption

theorem writeGlobal_frame (a0 : State) (a1 : Port) (a2 : Nat) (a3 : Nat) (a4 : Nat) (a5 : Nat) : Moves [.od, .draws, .replies, .beat, .store, .log, .can, .pdo, .link, .mem, .sched, .tabor, .sense, .update, .test] a0 (writeGlobal a0 a1 a2 a3 a4 a5).1 := by
  unfold writeGlobal
  focus
    extract_lets +onlyGivenNames x; refine Moves.use x ?_ (fun hx => ?_); unfold x; clear x; rotate_left; clear_value x; rotate_right
  with_reducible apply Moves.app (State.set_frame ..); decide
  apply Moves.refl
  with_reducible apply Moves.ite_fst
  with_reducible apply Moves.app (done_frame ..); decide
  refine Moves.update ?_
  apply Moves.refl
  with_reducible apply Moves.ite_fst
  with_reducible apply Moves.app (beginImport_frame ..); decide
  apply Moves.refl
  with_reducible apply Moves.ite_fst
  with_reducible apply Moves.app (done_frame ..); decide
  with_reducible apply Moves.ite
  with_reducible apply Moves.app (enterRetrain_frame ..); decide
  apply Moves.refl
  with_reducible apply Moves.app (enterDetect_frame ..); decide
  apply Moves.refl
  with_reducible apply Moves.ite_fst
  with_reducible apply Moves.app (done_frame ..); decide
  with_reducible apply Moves.app (linkReview_frame ..); decide
  assumption
  with_reducible apply Moves.ite_fst
  with_reducible apply Moves.app (done_frame ..); decide
  with_reducible apply Moves.app (State.setFlag_frame ..); decide
  assumption
  with_reducible apply Moves.ite_fst
  with_reducible apply Moves.app (writeWindowAttr_frame ..); decide
  apply Moves.refl
  with_reducible apply Moves.ite_fst
  with_reducible apply Moves.app (done_frame ..); decide
  with_reducible apply Moves.app (noteOpener_frame ..); decide
  assumption
  with_reducible apply Moves.ite_fst
  with_reducible apply Moves.app (ended_frame ..); decide
  with_reducible apply Moves.app (applyFrame_frame ..); decide
  apply Moves.refl
  with_reducible apply Moves.app (done_frame ..); decide
  assumption

theorem writePageBase_frame (a0 : State) (a1 : Nat) : Moves [.od, .draws, .log, .link, .mem, .sched] a0 (writePageBase a0 a1) := by
  unfold writePageBase
  focus
    extract_lets +onlyGivenNames x; refine Moves.use x ?_ (fun hx => ?_); unfold x; clear x; rotate_left; clear_value x; rotate_right
  with_reducible apply Moves.app (State.set_frame ..); decide
  apply Moves.refl
  with_reducible apply Moves.ite
  with_reducible apply Moves.app (tlbCommand_frame ..); decide
  assumption
  assumption

theorem ringCommand_frame (a0 : State) (a1 : Port) (a2 : Nat) (a3 : Nat) : Moves [.od, .link, .mem, .sched] a0 (ringCommand a0 a1 a2 a3).1 := by
  unfold ringCommand
  split
  with_reducible apply Moves.app (ringOpen_frame ..); decide
  apply Moves.refl
  dsimp only
  with_reducible apply Moves.app (ringClose_frame ..); decide
  apply Moves.refl
  dsimp only
  with_reducible apply Moves.app (ringAcknowledge_frame ..); decide
  apply Moves.refl

theorem pushWindow_frame (a0 : State) (a1 : Port) (a2 : Nat) (a3 : List Nat) : Moves [.od, .link, .mem, .sched] a0 (pushWindow a0 a1 a2 a3).1 := by
  unfold pushWindow
  split
  with_reducible apply Moves.app (done_frame ..); decide
  with_reducible apply Moves.of_pair; assumption
  with_reducible apply Moves.app (ringPush_frame ..); decide
  apply Moves.refl
  dsimp only
  with_reducible apply Moves.of_pair; assumption
  with_reducible apply Moves.app (ringPush_frame ..); decide
  apply Moves.refl
  dsimp only
  with_reducible apply Moves.of_pair; assumption
  with_reducible apply Moves.app (ringPush_frame ..); decide
  apply Moves.refl

theorem writeTaskControl_frame (a0 : State) (a1 : Nat) (a2 : Nat) : Moves [.od, .sched] a0 (writeTaskControl a0 a1 a2) := by
  unfold writeTaskControl
  extract_lets +onlyGivenNames x; clear_value x
  focus
    extract_lets +onlyGivenNames x; refine Moves.use x ?_ (fun hx => ?_); unfold x; clear x; rotate_left; clear_value x; rotate_right
  with_reducible apply Moves.app (State.set_frame ..); decide
  apply Moves.refl
  with_reducible apply Moves.ite
  assumption
  refine Moves.update ?_
  assumption

theorem writeMask_frame (a0 : State) (a1 : Nat) (a2 : Nat) : Moves [.od, .link] a0 (writeMask a0 a1 a2) := by
  unfold writeMask
  extract_lets +onlyGivenNames x; clear_value x
  with_reducible apply Moves.foldl; intro _ _ _
  with_reducible apply Moves.ite
  assumption
  with_reducible apply Moves.app (trySend_frame ..); decide
  assumption
  with_reducible apply Moves.app (State.set_frame ..); decide
  apply Moves.refl

theorem writeMemory_frame (a0 : State) (a1 : Port) (a2 : Nat) (a3 : Nat) (a4 : Nat) : Moves [.od, .draws, .replies, .log, .can, .pdo, .link, .mem, .sched, .tabor, .update, .test] a0 (writeMemory a0 a1 a2 a3 a4).1 := by
  unfold writeMemory
  focus
    extract_lets +onlyGivenNames x; refine Moves.use x ?_ (fun hx => ?_); unfold x; clear x; rotate_left; clear_value x; rotate_right
  with_reducible apply Moves.app (State.set_frame ..); decide
  apply Moves.refl
  with_reducible apply Moves.ite_fst
  with_reducible apply Moves.app (done_frame ..); decide
  with_reducible apply Moves.app (writePageBase_frame ..); decide
  apply Moves.refl
  with_reducible apply Moves.ite_fst
  with_reducible apply Moves.app (done_frame ..); decide
  with_reducible apply Moves.app (tlbCommand_frame ..); decide
  apply Moves.refl
  with_reducible apply Moves.ite_fst
  extract_lets +onlyGivenNames x; clear_value x
  with_reducible apply Moves.ite_fst
  with_reducible apply Moves.app (ended_frame ..); decide
  with_reducible apply Moves.app (ringCommand_frame ..); decide
  apply Moves.refl
  with_reducible apply Moves.ite_fst
  with_reducible apply Moves.app (done_frame ..); decide
  with_reducible apply Moves.app (ringSpace_frame ..); decide
  with_reducible apply Moves.app (ringIndex_frame ..); decide
  apply Moves.refl
  with_reducible apply Moves.ite_fst
  with_reducible apply Moves.app (pushWindow_frame ..); decide
  apply Moves.refl
  with_reducible apply Moves.app (done_frame ..); decide
  assumption
  with_reducible apply Moves.ite_fst
  with_reducible apply Moves.app (done_frame ..); decide
  with_reducible apply Moves.app (writeTaskControl_frame ..); decide
  apply Moves.refl
  with_reducible apply Moves.ite_fst
  with_reducible apply Moves.app (done_frame ..); decide
  with_reducible apply Moves.app (noteOpener_frame ..); decide
  assumption
  with_reducible apply Moves.ite_fst
  with_reducible apply Moves.app (done_frame ..); decide
  with_reducible apply Moves.app (writeMask_frame ..); decide
  apply Moves.refl
  with_reducible apply Moves.ite_fst
  with_reducible apply Moves.app (done_frame ..); decide
  with_reducible apply Moves.app (raiseVector_frame ..); decide
  apply Moves.refl
  with_reducible apply Moves.ite_fst
  with_reducible apply Moves.app (ended_frame ..); decide
  with_reducible apply Moves.app (programCommand_frame ..); decide
  apply Moves.refl
  with_reducible apply Moves.app (done_frame ..); decide
  assumption

theorem writeDrive_frame (a0 : State) (a1 : Nat) : Moves [.od, .touch] a0 (writeDrive a0 a1) := by
  unfold writeDrive
  with_reducible apply Moves.ite
  apply Moves.refl
  focus
    extract_lets +onlyGivenNames x; refine Moves.use x ?_ (fun hx => ?_); unfold x; clear x; rotate_left; clear_value x; rotate_right
  with_reducible apply Moves.app (staleAll_frame ..); decide
  with_reducible apply Moves.app (State.set_frame ..); decide
  apply Moves.refl
  refine Moves.update ?_
  assumption

theorem writePrearm_frame (a0 : State) (a1 : Nat) : Moves [.od, .log, .link, .sched, .touch, .reg] a0 (writePrearm a0 a1) := by
  unfold writePrearm
  focus
    extract_lets +onlyGivenNames x; refine Moves.use x ?_ (fun hx => ?_); unfold x; clear x; rotate_left; clear_value x; rotate_right
  with_reducible apply Moves.app (State.set_frame ..); decide
  apply Moves.refl
  with_reducible apply Moves.ite
  with_reducible apply Moves.app (prearmCancel_frame ..); decide
  assumption
  assumption

theorem writeSense_frame (a0 : State) (a1 : Nat) (a2 : Nat) (a3 : Nat) : Moves [.od, .draws, .log, .can, .pdo, .link, .mem, .sched, .sense, .touch, .reg] a0 (writeSense a0 a1 a2 a3).1 := by
  unfold writeSense
  with_reducible apply Moves.ite_fst
  with_reducible apply Moves.app (ended_frame ..); decide
  with_reducible apply Moves.ite_fst
  with_reducible apply Moves.app (laneSwitch_frame ..); decide
  apply Moves.refl
  with_reducible apply Moves.app (laneLoad_frame ..); decide
  apply Moves.refl
  with_reducible apply Moves.ite_fst
  with_reducible apply Moves.app (ended_frame ..); decide
  with_reducible apply Moves.app (applyProfiles_frame ..); decide
  apply Moves.refl
  with_reducible apply Moves.ite_fst
  with_reducible apply Moves.app (done_frame ..); decide
  with_reducible apply Moves.app (writeDrive_frame ..); decide
  apply Moves.refl
  with_reducible apply Moves.ite_fst
  with_reducible apply Moves.app (done_frame ..); decide
  refine Moves.update ?_
  apply Moves.refl
  with_reducible apply Moves.ite_fst
  with_reducible apply Moves.app (done_frame ..); decide
  with_reducible apply Moves.app (writePrearm_frame ..); decide
  apply Moves.refl
  with_reducible apply Moves.app (done_frame ..); decide
  with_reducible apply Moves.app (State.set_frame ..); decide
  apply Moves.refl

theorem writePower_frame (a0 : State) (a1 : Nat) (a2 : Nat) (a3 : Nat) : Moves [.od, .live, .draws, .replies, .aocb, .store, .log, .can, .pdo, .link, .mem, .sched, .tabor, .sense, .touch, .reg, .seq, .update, .test] a0 (writePower a0 a1 a2 a3).1 := by
  unfold writePower
  with_reducible apply Moves.ite_fst
  with_reducible apply Moves.ite_fst
  with_reducible apply Moves.app (ended_frame ..); decide
  with_reducible apply Moves.app (writeTarget_frame ..); decide
  apply Moves.refl
  with_reducible apply Moves.ite_fst
  with_reducible apply Moves.app (done_frame ..); decide
  with_reducible apply Moves.app (refreshEmergency_frame ..); decide
  with_reducible apply Moves.app (State.set_frame ..); decide
  apply Moves.refl
  with_reducible apply Moves.app (done_frame ..); decide
  with_reducible apply Moves.app (State.set_frame ..); decide
  apply Moves.refl
  with_reducible apply Moves.ite_fst
  with_reducible apply Moves.app (ended_frame ..); decide
  with_reducible apply Moves.app (clearLatch_frame ..); decide
  with_reducible apply Moves.app (readSense_frame ..); decide
  apply Moves.refl
  with_reducible apply Moves.ite_fst
  with_reducible apply Moves.app (ended_frame ..); decide
  with_reducible apply Moves.app (writePowerRequest_frame ..); decide
  apply Moves.refl
  with_reducible apply Moves.ite_fst
  with_reducible apply Moves.app (ended_frame ..); decide
  with_reducible apply Moves.app (applyOrders_frame ..); decide
  apply Moves.refl
  with_reducible apply Moves.app (done_frame ..); decide
  with_reducible apply Moves.app (State.set_frame ..); decide
  apply Moves.refl

theorem packCommand_frame (a0 : State) (a1 : Nat) : Moves [.od, .draws, .log, .can, .pdo, .link, .sched, .pack] a0 (packCommand a0 a1).1 := by
  unfold packCommand
  with_reducible apply Moves.ite_fst
  with_reducible apply Moves.ite_fst
  dsimp only
  apply Moves.refl
  dsimp only
  with_reducible apply Moves.app (exchangeTrigger_frame ..); decide
  apply Moves.refl
  with_reducible apply Moves.ite_fst
  dsimp only
  apply Moves.refl
  extract_lets +onlyGivenNames x; clear_value x
  dsimp only
  with_reducible apply Moves.app (writeBackDue_frame ..); decide
  with_reducible apply Moves.app (State.draw_frame ..); decide
  apply Moves.refl

theorem fanCommand_frame (a0 : State) (a1 : Nat) (a2 : Nat) : Moves [.od, .thermal] a0 (fanCommand a0 a1 a2).1 := by
  unfold fanCommand
  with_reducible apply Moves.ite_fst
  with_reducible apply Moves.app (applyCurve_frame ..); decide
  apply Moves.refl
  dsimp only
  with_reducible apply Moves.app (refreshFan_frame ..); decide
  with_reducible apply Moves.app (clearStall_frame ..); decide
  with_reducible apply Moves.app (State.setFlag_frame ..); decide
  apply Moves.refl

theorem writePackThermal_frame (a0 : State) (a1 : Nat) (a2 : Nat) (a3 : Nat) : Moves [.od, .draws, .log, .can, .pdo, .link, .sched, .pack, .thermal] a0 (writePackThermal a0 a1 a2 a3).1 := by
  unfold writePackThermal
  with_reducible apply Moves.ite_fst
  with_reducible apply Moves.app (ended_frame ..); decide
  with_reducible apply Moves.app (writeCharger_frame ..); decide
  apply Moves.refl
  with_reducible apply Moves.ite_fst
  with_reducible apply Moves.app (done_frame ..); decide
  with_reducible apply Moves.app (clearCharger_frame ..); decide
  apply Moves.refl
  with_reducible apply Moves.ite_fst
  with_reducible apply Moves.app (ended_frame ..); decide
  with_reducible apply Moves.app (packCommand_frame ..); decide
  apply Moves.refl
  with_reducible apply Moves.ite_fst
  with_reducible apply Moves.app (done_frame ..); decide
  with_reducible apply Moves.ite
  apply Moves.refl
  with_reducible apply Moves.app (tsModeChanged_frame ..); decide
  with_reducible apply Moves.app (State.set_frame ..); decide
  apply Moves.refl
  with_reducible apply Moves.ite_fst
  with_reducible apply Moves.ite_fst
  with_reducible apply Moves.app (ended_frame ..); decide
  with_reducible apply Moves.app (fanCommand_frame ..); decide
  apply Moves.refl
  with_reducible apply Moves.app (done_frame ..); decide
  with_reducible apply Moves.app (refreshFan_frame ..); decide
  with_reducible apply Moves.app (State.set_frame ..); decide
  apply Moves.refl
  with_reducible apply Moves.app (done_frame ..); decide
  with_reducible apply Moves.app (State.set_frame ..); decide
  apply Moves.refl

theorem updateCommand_frame (a0 : State) (a1 : Nat) : Moves [.od, .draws, .replies, .aocb, .store, .log, .can, .pdo, .link, .mem, .sched, .tabor, .sense, .reg, .seq, .update, .test] a0 (updateCommand a0 a1).1 := by
  unfold updateCommand
  with_reducible apply Moves.ite_fst
  with_reducible apply Moves.app (updateConfirm_frame ..); decide
  apply Moves.refl
  with_reducible apply Moves.app (updateReject_frame ..); decide
  apply Moves.refl

theorem lineTestCommand_frame (a0 : State) (a1 : Nat) : Moves [.od, .test] a0 (lineTestCommand a0 a1).1 := by
  unfold lineTestCommand
  with_reducible apply Moves.app (startLineTest_frame ..); decide
  apply Moves.refl

theorem writeDebug_frame (a0 : State) (a1 : Nat) (a2 : Nat) : Moves [.od, .draws, .log, .can, .pdo, .link, .sched, .test] a0 (writeDebug a0 a1 a2).1 := by
  unfold writeDebug
  with_reducible apply Moves.ite_fst
  with_reducible apply Moves.app (toField_frame ..); decide
  apply Moves.refl
  with_reducible apply Moves.ite_fst
  with_reducible apply Moves.app (unlockResponse_frame ..); decide
  apply Moves.refl
  with_reducible apply Moves.ite_fst
  with_reducible apply Moves.app (drawNonce_frame ..); decide
  apply Moves.refl
  with_reducible apply Moves.ite_fst
  with_reducible apply Moves.app (relock_frame ..); decide
  apply Moves.refl
  dsimp only
  apply Moves.refl

theorem writeOtp_frame (a0 : State) (a1 : Nat) (a2 : Nat) : Moves [.draws, .pack, .test] a0 (writeOtp a0 a1 a2).1 := by
  unfold writeOtp
  extract_lets +onlyGivenNames x; clear_value x
  focus
    extract_lets +onlyGivenNames x; refine Moves.use x ?_ (fun hx => ?_); unfold x; clear x; rotate_left; clear_value x; rotate_right
  with_reducible apply Moves.app (State.draw_frame ..); decide
  apply Moves.refl
  with_reducible apply Moves.ite_fst
  with_reducible apply Moves.app (programBase_frame ..); decide
  assumption
  with_reducible apply Moves.ite_fst
  with_reducible apply Moves.app (programKey_frame ..); decide
  assumption
  with_reducible apply Moves.app (programHash_frame ..); decide
  assumption

theorem writeService_frame (a0 : State) (a1 : Port) (a2 : Nat) (a3 : Nat) (a4 : Nat) : Moves [.od, .draws, .replies, .aocb, .store, .log, .can, .pdo, .link, .mem, .sched, .tabor, .sense, .reg, .seq, .pack, .update, .test] a0 (writeService a0 a1 a2 a3 a4).1 := by
  unfold writeService
  with_reducible apply Moves.ite_fst
  with_reducible apply Moves.app (done_frame ..); decide
  with_reducible apply Moves.app (logPolicyChanged_frame ..); decide
  with_reducible apply Moves.app (State.set_frame ..); decide
  apply Moves.refl
  with_reducible apply Moves.ite_fst
  with_reducible apply Moves.app (done_frame ..); decide
  with_reducible apply Moves.app (logClear_frame ..); decide
  apply Moves.refl
  with_reducible apply Moves.ite_fst
  with_reducible apply Moves.app (ended_frame ..); decide
  with_reducible apply Moves.app (writeCursor_frame ..); decide
  apply Moves.refl
  with_reducible apply Moves.ite_fst
  with_reducible apply Moves.app (done_frame ..); decide
  with_reducible apply Moves.app (queueLog_frame ..); decide
  apply Moves.refl
  with_reducible apply Moves.ite_fst
  with_reducible apply Moves.app (ended_frame ..); decide
  with_reducible apply Moves.app (updateCommand_frame ..); decide
  apply Moves.refl
  with_reducible apply Moves.ite_fst
  with_reducible apply Moves.app (ended_frame ..); decide
  with_reducible apply Moves.app (lineTestCommand_frame ..); decide
  apply Moves.refl
  with_reducible apply Moves.ite_fst
  with_reducible apply Moves.app (ended_frame ..); decide
  with_reducible apply Moves.app (writeDebug_frame ..); decide
  apply Moves.refl
  with_reducible apply Moves.ite_fst
  with_reducible apply Moves.app (ended_frame ..); decide
  with_reducible apply Moves.app (writeOtp_frame ..); decide
  apply Moves.refl
  with_reducible apply Moves.app (done_frame ..); decide
  with_reducible apply Moves.app (State.set_frame ..); decide
  apply Moves.refl

theorem writeEffect_frame (a0 : State) (a1 : Port) (a2 : Nat) (a3 : Nat) (a4 : Nat) (a5 : Nat) : Moves [.od, .live, .draws, .replies, .aocb, .beat, .store, .log, .can, .pdo, .link, .mem, .sched, .tabor, .sense, .touch, .reg, .seq, .pack, .thermal, .update, .test] a0 (writeEffect a0 a1 a2 a3 a4 a5).1 := by
  unfold writeEffect
  with_reducible apply Moves.ite_fst
  with_reducible apply Moves.app (writeComm_frame ..); decide
  apply Moves.refl
  with_reducible apply Moves.ite_fst
  with_reducible apply Moves.app (writeGlobal_frame ..); decide
  apply Moves.refl
  with_reducible apply Moves.ite_fst
  with_reducible apply Moves.app (writeMemory_frame ..); decide
  apply Moves.refl
  with_reducible apply Moves.ite_fst
  with_reducible apply Moves.app (writeSense_frame ..); decide
  apply Moves.refl
  with_reducible apply Moves.ite_fst
  with_reducible apply Moves.app (writePower_frame ..); decide
  apply Moves.refl
  with_reducible apply Moves.ite_fst
  with_reducible apply Moves.app (writePackThermal_frame ..); decide
  apply Moves.refl
  with_reducible apply Moves.app (writeService_frame ..); decide
  apply Moves.refl

theorem writeRequest_frame (a0 : State) (a1 : Port) (a2 : Nat) (a3 : Nat) (a4 : List Nat) (a5 : Nat) : Moves [.od, .live, .draws, .replies, .aocb, .beat, .store, .log, .can, .pdo, .link, .mem, .sched, .tabor, .sense, .touch, .reg, .seq, .pack, .thermal, .update, .test] a0 (writeRequest a0 a1 a2 a3 a4 a5).1 := by
  unfold writeRequest
  with_reducible apply Moves.ite_fst
  with_reducible apply Moves.app (segWrite_frame ..); decide
  apply Moves.refl
  split
  dsimp only
  apply Moves.refl
  with_reducible apply Moves.ite_fst
  dsimp only
  apply Moves.refl
  split
  split
  with_reducible apply Moves.app (writeEffect_frame ..); decide
  apply Moves.refl
  dsimp only
  apply Moves.refl
  dsimp only
  apply Moves.refl

theorem queryDescriptor_frame (a0 : State) (a1 : Port) (a2 : Nat) (a3 : Nat) : Moves [] a0 (queryDescriptor a0 a1 a2 a3).1 := by
  unfold queryDescriptor
  split
  with_reducible apply Moves.app (refusedRead_frame ..); decide
  apply Moves.refl
  with_reducible apply Moves.ite_fst
  with_reducible apply Moves.app (refusedRead_frame ..); decide
  apply Moves.refl
  with_reducible apply Moves.app (gave_frame ..); decide
  apply Moves.refl

theorem orwRequest_frame (a0 : State) (a1 : Port) (a2 : Nat) (a3 : Nat) (a4 : List Nat) : Moves [.od, .live, .draws, .replies, .aocb, .beat, .store, .log, .can, .pdo, .link, .mem, .sched, .tabor, .sense, .touch, .reg, .seq, .pack, .thermal, .update, .test] a0 (orwRequest a0 a1 a2 a3 a4).1 := by
  unfold orwRequest
  extract_lets +onlyGivenNames x; clear_value x
  extract_lets +onlyGivenNames x; clear_value x
  extract_lets +onlyGivenNames x; clear_value x
  extract_lets +onlyGivenNames x; clear_value x
  extract_lets +onlyGivenNames x; clear_value x
  extract_lets +onlyGivenNames g245
  with_reducible apply Moves.ite_fst
  with_reducible apply Moves.app (refusedRead_frame ..); decide
  apply Moves.refl
  with_reducible apply Moves.ite_fst
  with_reducible apply Moves.app (refusedRead_frame ..); decide
  apply Moves.refl
  split
  with_reducible apply Moves.app (readRequest_frame ..); decide
  apply Moves.refl
  unfold g245; dsimp only
  with_reducible apply Moves.app (writeRequest_frame ..); decide
  apply Moves.refl
  with_reducible apply Moves.app (segRead_frame ..); decide
  apply Moves.refl
  with_reducible apply Moves.ite_fst
  with_reducible apply Moves.app (refusedRead_frame ..); decide
  apply Moves.refl
  unfold g245; dsimp only
  with_reducible apply Moves.app (segWrite_frame ..); decide
  apply Moves.refl
  with_reducible apply Moves.app (queryDescriptor_frame ..); decide
  apply Moves.refl

theorem serveOrq_frame (a0 : State) (a1 : Nat) (a2 : Nat) (a3 : List Nat) : Moves [.od, .live, .draws, .replies, .aocb, .beat, .store, .log, .can, .pdo, .link, .mem, .sched, .tabor, .sense, .touch, .reg, .seq, .pack, .thermal, .update, .test] a0 (serveOrq a0 a1 a2 a3) := by
  unfold serveOrq
  split
  with_reducible apply Moves.app (finishRequest_frame ..); decide
  with_reducible apply Moves.of_pair; assumption
  with_reducible apply Moves.app (orwRequest_frame ..); decide
  apply Moves.refl
  with_reducible apply Moves.of_pair; assumption
  with_reducible apply Moves.app (orwRequest_frame ..); decide
  apply Moves.refl

theorem serveDbell_frame (a0 : State) (a1 : Nat) (a2 : Nat) : Moves [.od, .draws, .replies, .log, .can, .pdo, .link, .mem, .sched, .tabor, .test] a0 (serveDbell a0 a1 a2) := by
  unfold serveDbell
  with_reducible apply Moves.ite
  extract_lets +onlyGivenNames x; clear_value x
  with_reducible apply Moves.ite
  with_reducible apply Moves.app (linkError_frame ..); decide
  with_reducible apply Moves.app (State.count_frame ..); decide
  apply Moves.refl
  with_reducible apply Moves.app (ringSpace_frame ..); decide
  with_reducible apply Moves.app (ringIndex_frame ..); decide
  apply Moves.refl
  with_reducible apply Moves.ite
  with_reducible apply Moves.app (raiseWith_frame ..); decide
  apply Moves.refl
  with_reducible apply Moves.app (linkError_frame ..); decide
  apply Moves.refl

theorem serveCfgrd_frame (a0 : State) (a1 : Nat) (a2 : Nat) : Moves [.link] a0 (serveCfgrd a0 a1 a2) := by
  unfold serveCfgrd
  split
  with_reducible apply Moves.app (State.sendPacket_frame ..); decide
  apply Moves.refl
  with_reducible apply Moves.app (State.sendPacket_frame ..); decide
  apply Moves.refl

theorem inMiss_frame {l : List Part} {a s : State} {v : Nat} {again : State → State × MemOut} (h : Moves l a s)
    (hf : ∀ t, Moves l t (again t).1) (hr : ∀ p ∈ [Part.od, Part.draws, Part.log, Part.link, Part.mem, Part.sched], p ∈ l) : Moves l a (inMiss s v again).1 := by
  unfold inMiss
  have hd : Moves l s (demand s 3 v .inbound).1 := (demand_frame _ _ _ _).mono hr
  refine h.trans ?_
  split
  · exact Moves.of_pair ‹_› hd
  · exact Moves.of_pair ‹_› hd
  · rename_i t ht
    refine (Moves.of_pair ‹_› hd).trans ?_
    have hq := hf t
    split <;> exact Moves.of_pair ‹_› hq

theorem inPart_frame {l : List Part} {a s : State} {again : State → State × MemOut} (h : Moves l a s)
    (hf : ∀ t, Moves l t (again t).1) (hr : ∀ p ∈ [Part.od, Part.draws, Part.log, Part.link, Part.mem, Part.sched], p ∈ l) : Moves l a (inPart s again).1 := by
  unfold inPart
  have hq := hf s
  refine h.trans ?_
  split
  · exact Moves.of_pair ‹_› hq
  · exact Moves.of_pair ‹_› hq
  · exact Moves.of_pair ‹_› hq
  · exact inMiss_frame (Moves.of_pair ‹_› hq) hf hr
  · exact Moves.of_pair ‹_› hq
  · exact Moves.of_pair ‹_› hq

theorem inParts_frame {l : List Part} {a s : State} {acc : List Nat} {go : State → Nat × Nat × Nat → State × MemOut} {ps : List (Nat × Nat × Nat)}
    (h : Moves l a s) (hf : ∀ t p, Moves l t (go t p).1) (hr : ∀ p ∈ [Part.od, Part.draws, Part.log, Part.link, Part.mem, Part.sched], p ∈ l) : Moves l a (inParts s acc go ps).1 := by
  induction ps generalizing s acc with
  | nil => exact h
  | cons p ps ih =>
    unfold inParts
    have hq : Moves l s (inPart s (fun t => go t p)).1 := inPart_frame (Moves.refl _ _) (fun t => hf t p) hr
    split
    · exact ih (h.trans (Moves.of_pair ‹_› hq))
    · exact h.trans hq

theorem inRead_frame (a0 : State) (a1 : Nat) (a2 : Nat) : Moves [.od, .draws, .log, .can, .pdo, .link, .mem, .sched] a0 (inRead a0 a1 a2).1 := by
  unfold inRead
  (with_reducible apply inParts_frame) <;> first | decide | skip
  apply Moves.refl
  with_reducible intro _
  with_reducible intro _
  with_reducible apply Moves.app (objRead_frame ..); decide
  apply Moves.refl

theorem inWrite_frame (a0 : State) (a1 : Nat) (a2 : List Nat) : Moves [.od, .draws, .log, .can, .pdo, .link, .mem, .sched] a0 (inWrite a0 a1 a2).1 := by
  unfold inWrite
  extract_lets +onlyGivenNames x; clear_value x
  split
  (with_reducible apply inParts_frame) <;> first | decide | skip
  with_reducible apply Moves.of_pair; assumption
  (with_reducible apply inParts_frame) <;> first | decide | skip
  apply Moves.refl
  with_reducible intro _
  with_reducible intro _
  with_reducible apply Moves.ite_fst
  dsimp only
  apply Moves.refl
  split
  dsimp only
  with_reducible apply Moves.of_pair; assumption
  with_reducible apply Moves.app (translate_frame ..); decide
  apply Moves.refl
  dsimp only
  with_reducible apply Moves.of_pair; assumption
  with_reducible apply Moves.app (translate_frame ..); decide
  apply Moves.refl
  split
  dsimp only
  with_reducible apply Moves.of_pair; assumption
  with_reducible apply Moves.app (storeEcc_frame ..); decide
  with_reducible apply Moves.of_pair; assumption
  with_reducible apply Moves.app (translate_frame ..); decide
  apply Moves.refl
  dsimp only
  with_reducible apply Moves.of_pair; assumption
  with_reducible apply Moves.app (storeEcc_frame ..); decide
  with_reducible apply Moves.of_pair; assumption
  with_reducible apply Moves.app (translate_frame ..); decide
  apply Moves.refl
  with_reducible intro _
  with_reducible intro _
  with_reducible apply Moves.app (objWrite_frame ..); decide
  apply Moves.refl
  (with_reducible apply inParts_frame) <;> first | decide | skip
  apply Moves.refl
  with_reducible intro _
  with_reducible intro _
  with_reducible apply Moves.ite_fst
  dsimp only
  apply Moves.refl
  split
  dsimp only
  with_reducible apply Moves.of_pair; assumption
  with_reducible apply Moves.app (translate_frame ..); decide
  apply Moves.refl
  dsimp only
  with_reducible apply Moves.of_pair; assumption
  with_reducible apply Moves.app (translate_frame ..); decide
  apply Moves.refl
  split
  dsimp only
  with_reducible apply Moves.of_pair; assumption
  with_reducible apply Moves.app (storeEcc_frame ..); decide
  with_reducible apply Moves.of_pair; assumption
  with_reducible apply Moves.app (translate_frame ..); decide
  apply Moves.refl
  dsimp only
  with_reducible apply Moves.of_pair; assumption
  with_reducible apply Moves.app (storeEcc_frame ..); decide
  with_reducible apply Moves.of_pair; assumption
  with_reducible apply Moves.app (translate_frame ..); decide
  apply Moves.refl

theorem serveAccess_frame (a0 : State) (a1 : Packet) : Moves [.od, .draws, .log, .can, .pdo, .link, .mem, .sched] a0 (serveAccess a0 a1).1 := by
  unfold serveAccess
  split
  split
  dsimp only
  with_reducible apply Moves.app (State.sendPacket_frame ..); decide
  with_reducible apply Moves.of_pair; assumption
  with_reducible apply Moves.app (inRead_frame ..); decide
  apply Moves.refl
  dsimp only
  with_reducible apply Moves.app (inboundFails_frame ..); decide
  with_reducible apply Moves.of_pair; assumption
  with_reducible apply Moves.app (inRead_frame ..); decide
  apply Moves.refl
  dsimp only
  with_reducible apply Moves.of_pair; assumption
  with_reducible apply Moves.app (inRead_frame ..); decide
  apply Moves.refl
  split
  dsimp only
  with_reducible apply Moves.of_pair; assumption
  with_reducible apply Moves.app (inWrite_frame ..); decide
  apply Moves.refl
  dsimp only
  with_reducible apply Moves.app (inboundFails_frame ..); decide
  with_reducible apply Moves.of_pair; assumption
  with_reducible apply Moves.app (inWrite_frame ..); decide
  apply Moves.refl
  dsimp only
  with_reducible apply Moves.of_pair; assumption
  with_reducible apply Moves.app (inWrite_frame ..); decide
  apply Moves.refl
  dsimp only
  apply Moves.refl

theorem servePacket_frame (a0 : State) (a1 : Packet) : Moves [.od, .live, .draws, .replies, .aocb, .beat, .store, .log, .can, .pdo, .link, .mem, .sched, .tabor, .sense, .touch, .reg, .seq, .pack, .thermal, .update, .test] a0 (servePacket a0 a1).1 := by
  unfold servePacket
  split
  dsimp only
  with_reducible apply Moves.app (completion_frame ..); decide
  apply Moves.refl
  dsimp only
  with_reducible apply Moves.app (serveOrq_frame ..); decide
  apply Moves.refl
  dsimp only
  with_reducible apply Moves.app (serveDbell_frame ..); decide
  apply Moves.refl
  dsimp only
  with_reducible apply Moves.app (serveCfgrd_frame ..); decide
  apply Moves.refl
  with_reducible apply Moves.app (serveAccess_frame ..); decide
  apply Moves.refl

theorem drainInbound_frame (n : Nat) (s : State) : Moves [.od, .live, .draws, .replies, .aocb, .beat, .store, .log, .can, .pdo, .link, .mem, .sched, .tabor, .sense, .touch, .reg, .seq, .pack, .thermal, .update, .test] s (drainInbound n s) := by
  induction n generalizing s with
  | zero => exact Moves.refl _ _
  | succ n ih =>
    unfold drainInbound
    split
    · exact Moves.refl _ _
    · rename_i p rest hq
      refine Moves.ite _ (Moves.refl _ _) ?_
      have h1 : Moves [.od, .live, .draws, .replies, .aocb, .beat, .store, .log, .can, .pdo, .link, .mem, .sched, .tabor, .sense, .touch, .reg, .seq, .pack, .thermal, .update, .test] s (servePacket { s with link := { s.link with inq := rest } } p).1 :=
        ((setLink_moves s _).mono (by decide)).trans ((servePacket_frame _ _).mono (by decide))
      split
      · exact (Moves.of_pair ‹_› h1).trans (ih _)
      · exact (Moves.of_pair ‹_› h1).trans ((setLink_moves _ _).mono (by decide))

theorem settleInbound_frame (a0 : State) : Moves [.od, .live, .draws, .replies, .aocb, .beat, .store, .log, .can, .pdo, .link, .mem, .sched, .tabor, .sense, .touch, .reg, .seq, .pack, .thermal, .update, .test] a0 (settleInbound a0) := by
  unfold settleInbound
  with_reducible apply Moves.app (drainInbound_frame ..); decide
  apply Moves.refl

theorem packetIn_frame (a0 : State) (a1 : Packet) : Moves [.od, .live, .draws, .replies, .aocb, .beat, .store, .log, .can, .pdo, .link, .mem, .sched, .tabor, .sense, .touch, .reg, .seq, .pack, .thermal, .update, .test] a0 (packetIn a0 a1) := by
  unfold packetIn
  focus
    extract_lets +onlyGivenNames x; refine Moves.use x ?_ (fun hx => ?_); unfold x; clear x; rotate_left; clear_value x; rotate_right
  with_reducible apply Moves.app (settleInbound_frame ..); decide
  apply Moves.refl
  with_reducible apply Moves.ite
  refine Moves.update ?_
  assumption
  split
  with_reducible apply Moves.of_pair; assumption
  with_reducible apply Moves.app (servePacket_frame ..); decide
  assumption
  refine Moves.update ?_
  with_reducible apply Moves.of_pair; assumption
  with_reducible apply Moves.app (servePacket_frame ..); decide
  assumption

theorem actCfgrd_frame (a0 : Nat) (a1 : Nat) (a2 : State) : Moves [.od, .live, .draws, .replies, .aocb, .beat, .store, .log, .can, .pdo, .link, .mem, .sched, .tabor, .sense, .touch, .reg, .seq, .pack, .thermal, .update, .test] a2 (actCfgrd a0 a1 a2) := by
  unfold actCfgrd
  with_reducible apply Moves.ite
  with_reducible apply Moves.app (packetIn_frame ..); decide
  apply Moves.refl
  apply Moves.refl

theorem actConfigComplete_frame (a0 : State) : Moves [.od, .log, .link, .mem, .sched, .update] a0 (actConfigComplete a0) := by
  unfold actConfigComplete
  with_reducible apply Moves.ite
  with_reducible apply Moves.app (linkUpEntered_frame ..); decide
  apply Moves.refl
  apply Moves.refl

theorem answerRead_frame (a0 : Port) (a1 : ReadEnded) : Moves [.replies] a1.1 (answerRead a0 a1) := by
  unfold answerRead
  split
  with_reducible apply Moves.app (State.reply_frame ..); decide
  apply Moves.refl
  apply Moves.refl

theorem actConfigurationExport_frame (a0 : Port) (a1 : State) : Moves [.od, .replies, .store, .log] a1 (actConfigurationExport a0 a1) := by
  unfold actConfigurationExport
  with_reducible apply Moves.app (answerRead_frame ..); decide
  with_reducible apply Moves.app (segRead_frame ..); decide
  apply Moves.refl

theorem actCpl_frame (a0 : Nat) (a1 : Nat) (a2 : List Nat) (a3 : State) : Moves [.od, .live, .draws, .replies, .aocb, .beat, .store, .log, .can, .pdo, .link, .mem, .sched, .tabor, .sense, .touch, .reg, .seq, .pack, .thermal, .update, .test] a3 (actCpl a0 a1 a2 a3) := by
  unfold actCpl
  with_reducible apply Moves.ite
  apply Moves.refl
  with_reducible apply Moves.ite
  with_reducible apply Moves.app (completion_frame ..); decide
  apply Moves.refl
  with_reducible apply Moves.app (packetIn_frame ..); decide
  apply Moves.refl

theorem actDbell_frame (a0 : Nat) (a1 : Nat) (a2 : State) : Moves [.od, .live, .draws, .replies, .aocb, .beat, .store, .log, .can, .pdo, .link, .mem, .sched, .tabor, .sense, .touch, .reg, .seq, .pack, .thermal, .update, .test] a2 (actDbell a0 a1 a2) := by
  unfold actDbell
  with_reducible apply Moves.ite
  with_reducible apply Moves.app (packetIn_frame ..); decide
  apply Moves.refl
  apply Moves.refl

theorem endWait_frame (a0 : State) : Moves [.od, .draws, .log, .can, .pdo, .link, .mem, .sched, .tabor] a0 (endWait a0) := by
  unfold endWait
  with_reducible apply Moves.app (retire_frame ..); decide
  refine Moves.update ?_
  apply Moves.refl

theorem actDescriptorQuery_frame (a0 : Port) (a1 : Nat) (a2 : Nat) (a3 : State) : Moves [.replies] a3 (actDescriptorQuery a0 a1 a2 a3) := by
  unfold actDescriptorQuery
  with_reducible apply Moves.app (answerRead_frame ..); decide
  with_reducible apply Moves.app (queryDescriptor_frame ..); decide
  apply Moves.refl

theorem actDetectComplete_frame (a0 : Nat) (a1 : State) : Moves [.od, .draws, .replies, .store, .log, .can, .pdo, .link, .mem, .sched, .tabor, .sense, .update, .test] a1 (actDetectComplete a0 a1) := by
  unfold actDetectComplete
  with_reducible apply Moves.ite
  apply Moves.refl
  focus
    extract_lets +onlyGivenNames x; refine Moves.use x ?_ (fun hx => ?_); unfold x; clear x; rotate_left; clear_value x; rotate_right
  with_reducible apply Moves.app (State.set_frame ..); decide
  apply Moves.refl
  split
  with_reducible apply Moves.app (linkFailed_frame ..); decide
  assumption
  with_reducible apply Moves.app (setLink_frame ..); decide
  with_reducible apply Moves.app (State.set_frame ..); decide
  with_reducible apply Moves.ite
  assumption
  with_reducible apply Moves.app (State.setFlag_frame ..); decide
  assumption

theorem actEqualiseComplete_frame (a0 : State) : Moves [.od, .log, .link, .sched] a0 (actEqualiseComplete a0) := by
  unfold actEqualiseComplete
  with_reducible apply Moves.ite
  with_reducible apply Moves.app (setLink_frame ..); decide
  apply Moves.refl
  apply Moves.refl

theorem actionFails_frame (a0 : State) (a1 : Nat) : Moves [.od] a0 (actionFails a0 a1) := by
  unfold actionFails
  with_reducible apply Moves.app (State.count_frame ..); decide
  apply Moves.refl

theorem freeSlot_frame (a0 : State) (a1 : Nat) : Moves [.sched] a0 (freeSlot a0 a1) := by
  unfold freeSlot
  refine Moves.update ?_
  apply Moves.refl

theorem actFailedTimeout_frame (a0 : State) : Moves [.od, .draws, .replies, .store, .log, .can, .pdo, .link, .mem, .sched, .tabor, .sense, .update, .test] a0 (actFailedTimeout a0) := by
  unfold actFailedTimeout
  with_reducible apply Moves.ite
  with_reducible apply Moves.app (enterDetect_frame ..); decide
  apply Moves.refl
  apply Moves.refl

theorem goodFlit_frame (a0 : State) (a1 : Flit) : Moves [.od, .draws, .replies, .store, .log, .can, .pdo, .link, .mem, .sched, .tabor, .sense, .update, .test] a0 (goodFlit a0 a1) := by
  unfold goodFlit
  extract_lets +onlyGivenNames x; clear_value x
  focus
    extract_lets +onlyGivenNames x; refine Moves.use x ?_ (fun hx => ?_); unfold x; clear x; rotate_left; clear_value x; rotate_right
  refine Moves.update ?_
  apply Moves.refl
  focus
    extract_lets +onlyGivenNames x; refine Moves.use x ?_ (fun hx => ?_); unfold x; clear x; rotate_left; clear_value x; rotate_right
  split
  assumption
  with_reducible apply Moves.app (acknowledge_frame ..); decide
  assumption
  with_reducible apply Moves.app (replay_frame ..); decide
  with_reducible apply Moves.app (acknowledge_frame ..); decide
  assumption
  split
  with_reducible apply Moves.app (acceptData_frame ..); decide
  assumption
  assumption

theorem sendFlits_frame (a0 : State) (a1 : Packet) : Moves [.link] a0 (sendFlits a0 a1) := by
  unfold sendFlits
  extract_lets +onlyGivenNames x; clear_value x
  extract_lets +onlyGivenNames x; clear_value x
  extract_lets +onlyGivenNames x; clear_value x
  with_reducible apply Moves.foldl; intro _ _ _
  with_reducible apply Moves.app (putData_frame ..); decide
  assumption
  refine Moves.update ?_
  apply Moves.refl

theorem sendStream_frame (a0 : State) (a1 : Packet) : Moves [.link] a0 (sendStream a0 a1) := by
  unfold sendStream
  split
  extract_lets +onlyGivenNames x; clear_value x
  extract_lets +onlyGivenNames x; clear_value x
  focus
    extract_lets +onlyGivenNames x; refine Moves.use x ?_ (fun hx => ?_); unfold x; clear x; rotate_left; clear_value x; rotate_right
  refine Moves.update ?_
  apply Moves.refl
  with_reducible apply Moves.app (sendFlits_frame ..); decide
  assumption
  apply Moves.refl

theorem transmit_frame (n : Nat) (s : State) : Moves [.link] s (transmit n s) := by
  induction n generalizing s with
  | zero => exact Moves.refl _ _
  | succ n ih =>
    unfold transmit
    split
    · exact Moves.ite _ ((((setLink_moves s _).mono (by decide)).trans ((sendFlits_frame _ _).mono (by decide))).trans (ih _)) (Moves.refl _ _)
    · refine Moves.ite _ (Moves.refl _ _) ?_
      split
      · exact Moves.ite _ (((sendStream_frame _ _).mono (by decide)).trans (ih _)) (Moves.refl _ _)
      · exact Moves.refl _ _

theorem sendData_frame (a0 : State) : Moves [.link] a0 (sendData a0) := by
  unfold sendData
  with_reducible apply Moves.ite
  with_reducible apply Moves.app (transmit_frame ..); decide
  apply Moves.refl
  apply Moves.refl

theorem putIdle_frame (a0 : State) : Moves [.link] a0 (putIdle a0) := by
  unfold putIdle
  with_reducible apply Moves.ite
  with_reducible apply Moves.app (putFlit_frame ..); decide
  apply Moves.refl
  apply Moves.refl

theorem actFlitReceived_frame (a0 : List Nat) (a1 : Nat) (a2 : Nat) (a3 : State) : Moves [.od, .draws, .replies, .store, .log, .can, .pdo, .link, .mem, .sched, .tabor, .sense, .update, .test] a3 (actFlitReceived a0 a1 a2 a3) := by
  unfold actFlitReceived
  with_reducible apply Moves.ite
  apply Moves.refl
  extract_lets +onlyGivenNames x; clear_value x
  focus
    extract_lets +onlyGivenNames x; refine Moves.use x ?_ (fun hx => ?_); unfold x; clear x; rotate_left; clear_value x; rotate_right
  with_reducible apply Moves.app (State.countBy_frame ..); decide
  with_reducible apply Moves.app (State.set_frame ..); decide
  apply Moves.refl
  focus
    extract_lets +onlyGivenNames x; refine Moves.use x ?_ (fun hx => ?_); unfold x; clear x; rotate_left; clear_value x; rotate_right
  with_reducible apply Moves.app (freshLanes_frame ..); decide
  assumption
  focus
    extract_lets +onlyGivenNames x; refine Moves.use x ?_ (fun hx => ?_); unfold x; clear x; rotate_left; clear_value x; rotate_right
  with_reducible apply Moves.ite
  with_reducible apply Moves.app (goodFlit_frame ..); decide
  assumption
  with_reducible apply Moves.app (sendNak_frame ..); decide
  with_reducible apply Moves.app (State.count_frame ..); decide
  assumption
  focus
    extract_lets +onlyGivenNames x; refine Moves.use x ?_ (fun hx => ?_); unfold x; clear x; rotate_left; clear_value x; rotate_right
  with_reducible apply Moves.app (sendData_frame ..); decide
  assumption
  with_reducible apply Moves.ite
  with_reducible apply Moves.app (putIdle_frame ..); decide
  assumption
  assumption

theorem answer_frame (a0 : Port) (a1 : Ended) : Moves [.replies] a1.1 (answer a0 a1) := by
  unfold answer
  split
  with_reducible apply Moves.app (State.reply_frame ..); decide
  apply Moves.refl
  apply Moves.refl

theorem writeCommand_frame (a0 : State) (a1 : Port) (a2 : Nat) (a3 : Nat) (a4 : Nat) : Moves [.od, .live, .draws, .replies, .aocb, .beat, .store, .log, .can, .pdo, .link, .mem, .sched, .tabor, .sense, .touch, .reg, .seq, .pack, .thermal, .update, .test] a0 (writeCommand a0 a1 a2 a3 a4) := by
  unfold writeCommand
  with_reducible apply Moves.app (answer_frame ..); decide
  with_reducible apply Moves.app (writeRequest_frame ..); decide
  apply Moves.refl

theorem actFullTrainingRequest_frame (a0 : Port) (a1 : State) : Moves [.od, .live, .draws, .replies, .aocb, .beat, .store, .log, .can, .pdo, .link, .mem, .sched, .tabor, .sense, .touch, .reg, .seq, .pack, .thermal, .update, .test] a1 (actFullTrainingRequest a0 a1) := by
  unfold actFullTrainingRequest
  with_reducible apply Moves.app (writeCommand_frame ..); decide
  apply Moves.refl

theorem actHoldoffExpiry_frame (a0 : Fin 320) (a1 : State) : Moves [.link] a1 (actHoldoffExpiry a0 a1) := by
  unfold actHoldoffExpiry
  with_reducible apply Moves.ite
  with_reducible apply Moves.app (trySend_frame ..); decide
  refine Moves.update ?_
  apply Moves.refl
  apply Moves.refl

theorem actHostWindowCloseComplete_frame (a0 : Fin 16) (a1 : State) : Moves [.od, .draws, .replies, .log, .can, .pdo, .link, .mem, .sched, .tabor, .test] a1 (actHostWindowCloseComplete a0 a1) := by
  unfold actHostWindowCloseComplete
  with_reducible apply Moves.ite
  apply Moves.refl
  extract_lets +onlyGivenNames x; clear_value x
  extract_lets +onlyGivenNames x; clear_value x
  focus
    extract_lets +onlyGivenNames x; refine Moves.use x ?_ (fun hx => ?_); unfold x; clear x; rotate_left; clear_value x; rotate_right
  refine Moves.update ?_
  apply Moves.refl
  with_reducible apply Moves.foldl; intro _ _ _
  with_reducible apply Moves.app (answerAsker_frame ..); decide
  assumption
  assumption

theorem actImportSkipUnknown_frame (a0 : Port) (a1 : State) : Moves [.od, .live, .draws, .replies, .aocb, .beat, .store, .log, .can, .pdo, .link, .mem, .sched, .tabor, .sense, .touch, .reg, .seq, .pack, .thermal, .update, .test] a1 (actImportSkipUnknown a0 a1) := by
  unfold actImportSkipUnknown
  with_reducible apply Moves.app (writeCommand_frame ..); decide
  apply Moves.refl

theorem actImportStrict_frame (a0 : Port) (a1 : State) : Moves [.od, .live, .draws, .replies, .aocb, .beat, .store, .log, .can, .pdo, .link, .mem, .sched, .tabor, .sense, .touch, .reg, .seq, .pack, .thermal, .update, .test] a1 (actImportStrict a0 a1) := by
  unfold actImportStrict
  with_reducible apply Moves.app (writeCommand_frame ..); decide
  apply Moves.refl

theorem actKrefLoss_frame (a0 : State) : Moves [.od, .draws, .replies, .clocks, .store, .log, .can, .pdo, .link, .mem, .sched, .tabor, .sense, .update, .test] a0 (actKrefLoss a0) := by
  unfold actKrefLoss
  with_reducible apply Moves.app (linkReview_frame ..); decide
  refine Moves.update ?_
  apply Moves.refl

theorem actKrefReturn_frame (a0 : State) : Moves [.od, .draws, .replies, .clocks, .store, .log, .can, .pdo, .link, .mem, .sched, .tabor, .sense, .update, .test] a0 (actKrefReturn a0) := by
  unfold actKrefReturn
  with_reducible apply Moves.app (linkReview_frame ..); decide
  refine Moves.update ?_
  apply Moves.refl

theorem actMrd_frame (a0 : Nat) (a1 : Nat) (a2 : Nat) (a3 : State) : Moves [.od, .live, .draws, .replies, .aocb, .beat, .store, .log, .can, .pdo, .link, .mem, .sched, .tabor, .sense, .touch, .reg, .seq, .pack, .thermal, .update, .test] a3 (actMrd a0 a1 a2 a3) := by
  unfold actMrd
  with_reducible apply Moves.ite
  apply Moves.refl
  extract_lets +onlyGivenNames x; clear_value x
  with_reducible apply Moves.ite
  with_reducible apply Moves.app (inboundFails_frame ..); decide
  apply Moves.refl
  with_reducible apply Moves.app (packetIn_frame ..); decide
  apply Moves.refl

theorem actMrdCompletionTimeout_frame (a0 : Nat) (a1 : State) : Moves [.od, .draws, .replies, .log, .can, .pdo, .link, .mem, .sched, .tabor, .sense, .test] a1 (actMrdCompletionTimeout a0 a1) := by
  unfold actMrdCompletionTimeout
  split
  apply Moves.refl
  (with_reducible apply freeTag_frame) <;> first | decide | skip
  with_reducible apply Moves.app (State.count_frame ..); decide
  apply Moves.refl
  with_reducible intro _
  with_reducible apply Moves.app (failRead_frame ..); decide
  apply Moves.refl

theorem actMwr_frame (a0 : Nat) (a1 : List Nat) (a2 : State) : Moves [.od, .live, .draws, .replies, .aocb, .beat, .store, .log, .can, .pdo, .link, .mem, .sched, .tabor, .sense, .touch, .reg, .seq, .pack, .thermal, .update, .test] a2 (actMwr a0 a1 a2) := by
  unfold actMwr
  with_reducible apply Moves.ite
  apply Moves.refl
  with_reducible apply Moves.ite
  with_reducible apply Moves.app (mwrRefused_frame ..); decide
  apply Moves.refl
  with_reducible apply Moves.app (packetIn_frame ..); decide
  apply Moves.refl

theorem actObjectRead_frame (a0 : Port) (a1 : Nat) (a2 : Nat) (a3 : Bool) (a4 : State) : Moves [.od, .draws, .replies, .store, .log, .can, .pdo, .link, .mem, .sched, .tabor, .test] a4 (actObjectRead a0 a1 a2 a3 a4) := by
  unfold actObjectRead
  with_reducible apply Moves.app (answerRead_frame ..); decide
  with_reducible apply Moves.app (readRequest_frame ..); decide
  apply Moves.refl

theorem actObjectWrite_frame (a0 : Port) (a1 : Nat) (a2 : Nat) (a3 : Nat) (a4 : Nat) (a5 : State) : Moves [.od, .live, .draws, .replies, .aocb, .beat, .store, .log, .can, .pdo, .link, .mem, .sched, .tabor, .sense, .touch, .reg, .seq, .pack, .thermal, .update, .test] a5 (actObjectWrite a0 a1 a2 a3 a4 a5) := by
  unfold actObjectWrite
  with_reducible apply Moves.app (answer_frame ..); decide
  with_reducible apply Moves.app (writeRequest_frame ..); decide
  apply Moves.refl

theorem actOrq_frame (a0 : Nat) (a1 : Nat) (a2 : List Nat) (a3 : State) : Moves [.od, .live, .draws, .replies, .aocb, .beat, .store, .log, .can, .pdo, .link, .mem, .sched, .tabor, .sense, .touch, .reg, .seq, .pack, .thermal, .update, .test] a3 (actOrq a0 a1 a2 a3) := by
  unfold actOrq
  with_reducible apply Moves.ite
  with_reducible apply Moves.app (packetIn_frame ..); decide
  apply Moves.refl
  apply Moves.refl

theorem settleWalk_frame (a0 : State) (a1 : Nat) (a2 : Bool) : Moves [.od, .live, .draws, .replies, .aocb, .beat, .store, .log, .can, .pdo, .link, .mem, .sched, .tabor, .sense, .touch, .reg, .seq, .pack, .thermal, .update, .test] a0 (settleWalk a0 a1 a2) := by
  unfold settleWalk
  with_reducible apply Moves.ite
  with_reducible apply Moves.app (settleInbound_frame ..); decide
  apply Moves.refl
  extract_lets +onlyGivenNames x
  focus
    extract_lets +onlyGivenNames x; refine Moves.use x ?_ (fun hx => ?_); unfold x; clear x; rotate_left; clear_value x; rotate_right
  with_reducible apply Moves.app (drainInbound_frame ..); decide
  refine Moves.update ?_
  apply Moves.refl
  with_reducible apply Moves.app (settleInbound_frame ..); decide
  refine Moves.update ?_
  assumption

theorem fillInstalls_frame (a0 : State) (a1 : Nat) (a2 : Bool) (a3 : Bool) : Moves [.draws, .mem] a0 (fillInstalls a0 a1 a2 a3) := by
  unfold fillInstalls
  split
  with_reducible apply Moves.ite
  with_reducible apply Moves.app (install_frame ..); decide
  apply Moves.refl
  apply Moves.refl
  apply Moves.refl

theorem waiterServed_frame (a0 : Nat) (a1 : Bool) (a2 : State) (a3 : Waiter) : Moves [.draws, .mem, .tabor] a2 (waiterServed a0 a1 a2 a3) := by
  unfold waiterServed
  split
  with_reducible apply Moves.app (fillInstalls_frame ..); decide
  refine Moves.update ?_
  apply Moves.refl
  apply Moves.refl

theorem pageArrives_frame (a0 : State) (a1 : Fill) (a2 : List Nat) : Moves [.od, .live, .draws, .replies, .aocb, .beat, .store, .log, .can, .pdo, .link, .mem, .sched, .tabor, .sense, .touch, .reg, .seq, .pack, .thermal, .update, .test] a0 (pageArrives a0 a1 a2) := by
  unfold pageArrives
  split
  apply Moves.refl
  with_reducible apply Moves.ite
  refine Moves.update ?_
  apply Moves.refl
  with_reducible apply Moves.ite
  extract_lets +onlyGivenNames x
  with_reducible apply Moves.app (pumpReads_frame ..); decide
  refine Moves.update ?_
  apply Moves.refl
  split
  with_reducible apply Moves.app (settleWalk_frame ..); decide
  with_reducible apply Moves.foldl; intro _ _ _
  with_reducible apply Moves.app (waiterServed_frame ..); decide
  assumption
  with_reducible apply Moves.of_pair; assumption
  with_reducible apply Moves.app (fillDone_frame ..); decide
  apply Moves.refl

theorem actPageFillComplete_frame (a0 : Nat) (a1 : List Nat) (a2 : State) : Moves [.od, .live, .draws, .replies, .aocb, .beat, .store, .log, .can, .pdo, .link, .mem, .sched, .tabor, .sense, .touch, .reg, .seq, .pack, .thermal, .update, .test] a2 (actPageFillComplete a0 a1 a2) := by
  unfold actPageFillComplete
  split
  apply Moves.refl
  with_reducible apply Moves.ite
  apply Moves.refl
  with_reducible apply Moves.app (pageArrives_frame ..); decide
  apply Moves.refl

theorem actPageFillFailed_frame (a0 : Nat) (a1 : State) : Moves [.od, .live, .draws, .replies, .aocb, .beat, .store, .log, .can, .pdo, .link, .mem, .sched, .tabor, .sense, .touch, .reg, .seq, .pack, .thermal, .update, .test] a1 (actPageFillFailed a0 a1) := by
  unfold actPageFillFailed
  with_reducible apply Moves.app (settleInbound_frame ..); decide
  with_reducible apply Moves.app (failPage_frame ..); decide
  apply Moves.refl

theorem actPageTableBaseWrite_frame (a0 : Port) (a1 : Nat) (a2 : State) : Moves [.od, .live, .draws, .replies, .aocb, .beat, .store, .log, .can, .pdo, .link, .mem, .sched, .tabor, .sense, .touch, .reg, .seq, .pack, .thermal, .update, .test] a2 (actPageTableBaseWrite a0 a1 a2) := by
  unfold actPageTableBaseWrite
  with_reducible apply Moves.app (writeCommand_frame ..); decide
  apply Moves.refl

theorem actPrefetchComplete_frame (a0 : Nat) (a1 : List Nat) (a2 : State) : Moves [.od, .live, .draws, .replies, .aocb, .beat, .store, .log, .can, .pdo, .link, .mem, .sched, .tabor, .sense, .touch, .reg, .seq, .pack, .thermal, .update, .test] a2 (actPrefetchComplete a0 a1 a2) := by
  unfold actPrefetchComplete
  split
  apply Moves.refl
  with_reducible apply Moves.ite
  apply Moves.refl
  with_reducible apply Moves.app (pageArrives_frame ..); decide
  apply Moves.refl

theorem prefetchStart_frame (a0 : State) (a1 : PfStream) (a2 : Nat) : Moves [.od, .draws, .link, .mem] a0 (prefetchStart a0 a1 a2) := by
  unfold prefetchStart
  with_reducible apply Moves.ite
  with_reducible apply Moves.app (State.count_frame ..); decide
  with_reducible apply Moves.app (State.count_frame ..); decide
  apply Moves.refl
  split
  with_reducible apply Moves.app (State.count_frame ..); decide
  with_reducible apply Moves.of_pair; assumption
  with_reducible apply Moves.app (State.pick_frame ..); decide
  apply Moves.refl
  extract_lets +onlyGivenNames x
  focus
    extract_lets +onlyGivenNames x; refine Moves.use x ?_ (fun hx => ?_); unfold x; clear x; rotate_left; clear_value x; rotate_right
  refine Moves.update ?_
  with_reducible apply Moves.of_pair; assumption
  with_reducible apply Moves.app (State.pick_frame ..); decide
  apply Moves.refl
  with_reducible apply Moves.app (pumpReads_frame ..); decide
  with_reducible apply Moves.app (State.count_frame ..); decide
  assumption

theorem actPrefetchIssue_frame (a0 : Fin 12) (a1 : State) : Moves [.od, .draws, .link, .mem] a1 (actPrefetchIssue a0 a1) := by
  unfold actPrefetchIssue
  with_reducible apply Moves.ite
  apply Moves.refl
  split
  apply Moves.refl
  with_reducible apply Moves.ite
  with_reducible apply Moves.app (State.count_frame ..); decide
  apply Moves.refl
  with_reducible apply Moves.app (prefetchStart_frame ..); decide
  apply Moves.refl

theorem actPrefetchStreamDeath_frame (a0 : Fin 12) (a1 : State) : Moves [.od, .link, .mem] a1 (actPrefetchStreamDeath a0 a1) := by
  unfold actPrefetchStreamDeath
  split
  apply Moves.refl
  with_reducible apply Moves.foldl; intro _ _ _
  with_reducible apply Moves.app (cancelPrefetch_frame ..); decide
  assumption
  refine Moves.update ?_
  apply Moves.refl

theorem actRaiseUserVector_frame (a0 : Nat) (a1 : State) : Moves [.od, .live, .draws, .replies, .aocb, .beat, .store, .log, .can, .pdo, .link, .mem, .sched, .tabor, .sense, .touch, .reg, .seq, .pack, .thermal, .update, .test] a1 (actRaiseUserVector a0 a1) := by
  unfold actRaiseUserVector
  with_reducible apply Moves.app (writeCommand_frame ..); decide
  apply Moves.refl

theorem actRcLatchRead_frame (a0 : Port) (a1 : Nat) (a2 : Nat) (a3 : Bool) (a4 : State) : Moves [.od, .draws, .replies, .store, .log, .can, .pdo, .link, .mem, .sched, .tabor, .test] a4 (actRcLatchRead a0 a1 a2 a3 a4) := by
  unfold actRcLatchRead
  with_reducible apply Moves.app (answerRead_frame ..); decide
  with_reducible apply Moves.app (readRequest_frame ..); decide
  apply Moves.refl

theorem actRestoreDefaultParameters_frame (a0 : Port) (a1 : Nat) (a2 : Nat) (a3 : State) : Moves [.od, .live, .draws, .replies, .aocb, .beat, .store, .log, .can, .pdo, .link, .mem, .sched, .tabor, .sense, .touch, .reg, .seq, .pack, .thermal, .update, .test] a3 (actRestoreDefaultParameters a0 a1 a2 a3) := by
  unfold actRestoreDefaultParameters
  with_reducible apply Moves.app (writeCommand_frame ..); decide
  apply Moves.refl

theorem actRetrainComplete_frame (a0 : Nat) (a1 : State) : Moves [.od, .log, .link, .mem, .sched, .update] a1 (actRetrainComplete a0 a1) := by
  unfold actRetrainComplete
  with_reducible apply Moves.ite
  apply Moves.refl
  focus
    extract_lets +onlyGivenNames x; refine Moves.use x ?_ (fun hx => ?_); unfold x; clear x; rotate_left; clear_value x; rotate_right
  with_reducible apply Moves.app (State.set_frame ..); decide
  with_reducible apply Moves.ite
  apply Moves.refl
  with_reducible apply Moves.app (State.setFlag_frame ..); decide
  apply Moves.refl
  with_reducible apply Moves.app (streamSuspend_frame ..); decide
  with_reducible apply Moves.app (linkUpEntered_frame ..); decide
  assumption

theorem actRetrainRequest_frame (a0 : Port) (a1 : State) : Moves [.od, .live, .draws, .replies, .aocb, .beat, .store, .log, .can, .pdo, .link, .mem, .sched, .tabor, .sense, .touch, .reg, .seq, .pack, .thermal, .update, .test] a1 (actRetrainRequest a0 a1) := by
  unfold actRetrainRequest
  with_reducible apply Moves.app (writeCommand_frame ..); decide
  apply Moves.refl

theorem actRetrainTimeout_frame (a0 : State) : Moves [.od, .draws, .replies, .store, .log, .can, .pdo, .link, .mem, .sched, .tabor, .sense, .update, .test] a0 (actRetrainTimeout a0) := by
  unfold actRetrainTimeout
  with_reducible apply Moves.ite
  with_reducible apply Moves.app (enterDetect_frame ..); decide
  apply Moves.refl
  apply Moves.refl

theorem actRingAcknowledgeLinkloss_frame (a0 : Port) (a1 : Fin 256) (a2 : State) : Moves [.od, .live, .draws, .replies, .aocb, .beat, .store, .log, .can, .pdo, .link, .mem, .sched, .tabor, .sense, .touch, .reg, .seq, .pack, .thermal, .update, .test] a2 (actRingAcknowledgeLinkloss a0 a1 a2) := by
  unfold actRingAcknowledgeLinkloss
  with_reducible apply Moves.app (writeCommand_frame ..); decide
  apply Moves.refl

theorem actRingClose_frame (a0 : Port) (a1 : Fin 256) (a2 : State) : Moves [.od, .live, .draws, .replies, .aocb, .beat, .store, .log, .can, .pdo, .link, .mem, .sched, .tabor, .sense, .touch, .reg, .seq, .pack, .thermal, .update, .test] a2 (actRingClose a0 a1 a2) := by
  unfold actRingClose
  with_reducible apply Moves.app (writeCommand_frame ..); decide
  apply Moves.refl

theorem actRingCloseComplete_frame (a0 : Fin 256) (a1 : State) : Moves [.od, .draws, .replies, .log, .can, .pdo, .link, .mem, .sched, .tabor, .test] a1 (actRingCloseComplete a0 a1) := by
  unfold actRingCloseComplete
  extract_lets +onlyGivenNames x; clear_value x
  extract_lets +onlyGivenNames x; clear_value x
  with_reducible apply Moves.ite
  apply Moves.refl
  with_reducible apply Moves.app (ringSpace_frame ..); decide
  with_reducible apply Moves.app (ringCloseNow_frame ..); decide
  apply Moves.refl

theorem actRingIndexWrite_frame (a0 : Port) (a1 : Fin 256) (a2 : Bool) (a3 : Nat) (a4 : State) : Moves [.od, .live, .draws, .replies, .aocb, .beat, .store, .log, .can, .pdo, .link, .mem, .sched, .tabor, .sense, .touch, .reg, .seq, .pack, .thermal, .update, .test] a4 (actRingIndexWrite a0 a1 a2 a3 a4) := by
  unfold actRingIndexWrite
  with_reducible apply Moves.app (writeCommand_frame ..); decide
  apply Moves.refl

theorem actRingOpen_frame (a0 : Port) (a1 : Fin 256) (a2 : State) : Moves [.od, .live, .draws, .replies, .aocb, .beat, .store, .log, .can, .pdo, .link, .mem, .sched, .tabor, .sense, .touch, .reg, .seq, .pack, .thermal, .update, .test] a2 (actRingOpen a0 a1 a2) := by
  unfold actRingOpen
  with_reducible apply Moves.app (writeCommand_frame ..); decide
  apply Moves.refl

theorem actRingPop_frame (a0 : Port) (a1 : Fin 256) (a2 : Bool) (a3 : State) : Moves [.od, .draws, .replies, .store, .log, .can, .pdo, .link, .mem, .sched, .tabor, .test] a3 (actRingPop a0 a1 a2 a3) := by
  unfold actRingPop
  with_reducible apply Moves.app (answerRead_frame ..); decide
  with_reducible apply Moves.app (readRequest_frame ..); decide
  apply Moves.refl

theorem actRingPush_frame (a0 : Port) (a1 : Fin 256) (a2 : List Nat) (a3 : State) : Moves [.od, .live, .draws, .replies, .aocb, .beat, .store, .log, .can, .pdo, .link, .mem, .sched, .tabor, .sense, .touch, .reg, .seq, .pack, .thermal, .update, .test] a3 (actRingPush a0 a1 a2 a3) := by
  unfold actRingPush
  with_reducible apply Moves.app (answer_frame ..); decide
  with_reducible apply Moves.app (writeRequest_frame ..); decide
  apply Moves.refl

theorem actRpdoEventTimerExpiry_frame (a0 : Fin 64) (a1 : State) : Moves [.od, .log, .can, .pdo, .link, .sched] a1 (actRpdoEventTimerExpiry a0 a1) := by
  unfold actRpdoEventTimerExpiry
  with_reducible apply Moves.ite
  with_reducible apply Moves.app (emcyLog_frame ..); decide
  with_reducible apply Moves.app (raise_frame ..); decide
  with_reducible apply Moves.app (State.setRpdo_frame ..); decide
  apply Moves.refl
  apply Moves.refl

theorem writeMapped_frame (a0 : State) (a1 : List (Nat × Nat × Nat)) : Moves [.od, .live, .draws, .replies, .aocb, .beat, .store, .log, .can, .pdo, .link, .mem, .sched, .tabor, .sense, .touch, .reg, .seq, .pack, .thermal, .update, .test] a0 (writeMapped a0 a1) := by
  unfold writeMapped
  with_reducible apply Moves.foldl; intro _ _ _
  with_reducible apply Moves.app (writeRequest_frame ..); decide
  assumption
  apply Moves.refl

theorem refuseRpdo_frame (a0 : State) (a1 : Nat) : Moves [.od, .can, .pdo, .link] a0 (refuseRpdo a0 a1) := by
  unfold refuseRpdo
  extract_lets +onlyGivenNames x; clear_value x
  focus
    extract_lets +onlyGivenNames x; refine Moves.use x ?_ (fun hx => ?_); unfold x; clear x; rotate_left; clear_value x; rotate_right
  with_reducible apply Moves.app (State.count_frame ..); decide
  with_reducible apply Moves.app (State.setRpdo_frame ..); decide
  apply Moves.refl
  with_reducible apply Moves.ite
  assumption
  with_reducible apply Moves.app (emcy_frame ..); decide
  assumption

theorem applyRpdo_frame (a0 : State) (a1 : Nat) (a2 : List (Nat × Nat × Nat)) : Moves [.od, .live, .draws, .replies, .aocb, .beat, .store, .log, .can, .pdo, .link, .mem, .sched, .tabor, .sense, .touch, .reg, .seq, .pack, .thermal, .update, .test] a0 (applyRpdo a0 a1 a2) := by
  unfold applyRpdo
  with_reducible apply Moves.ite
  with_reducible apply Moves.app (writeMapped_frame ..); decide
  with_reducible apply Moves.app (State.setRpdo_frame ..); decide
  apply Moves.refl
  with_reducible apply Moves.app (refuseRpdo_frame ..); decide
  apply Moves.refl

theorem takeRpdo_frame (a0 : State) (a1 : Nat) (a2 : List (Nat × Nat × Nat)) : Moves [.od, .live, .draws, .replies, .aocb, .beat, .store, .log, .can, .pdo, .link, .mem, .sched, .tabor, .sense, .touch, .reg, .seq, .pack, .thermal, .update, .test] a0 (takeRpdo a0 a1 a2) := by
  unfold takeRpdo
  with_reducible apply Moves.ite
  with_reducible apply Moves.app (applyRpdo_frame ..); decide
  apply Moves.refl
  with_reducible apply Moves.ite
  with_reducible apply Moves.app (State.setRpdo_frame ..); decide
  apply Moves.refl
  with_reducible apply Moves.app (refuseRpdo_frame ..); decide
  apply Moves.refl

theorem rpdoReceived_frame (a0 : State) (a1 : Nat) (a2 : List Nat) : Moves [.od, .live, .draws, .replies, .aocb, .beat, .store, .log, .can, .pdo, .link, .mem, .sched, .tabor, .sense, .touch, .reg, .seq, .pack, .thermal, .update, .test] a0 (rpdoReceived a0 a1 a2) := by
  unfold rpdoReceived
  with_reducible apply Moves.ite
  apply Moves.refl
  extract_lets +onlyGivenNames x; clear_value x
  extract_lets +onlyGivenNames x; clear_value x
  extract_lets +onlyGivenNames x; clear_value x
  with_reducible apply Moves.ite
  with_reducible apply Moves.app (emcy_frame ..); decide
  apply Moves.refl
  with_reducible apply Moves.ite
  with_reducible apply Moves.app (emcy_frame ..); decide
  apply Moves.refl
  focus
    extract_lets +onlyGivenNames x; refine Moves.use x ?_ (fun hx => ?_); unfold x; clear x; rotate_left; clear_value x; rotate_right
  with_reducible apply Moves.app (raise_frame ..); decide
  apply Moves.refl
  with_reducible apply Moves.app (takeRpdo_frame ..); decide
  with_reducible apply Moves.app (State.setRpdo_frame ..); decide
  assumption

theorem actRpdoReceived_frame (a0 : Fin 64) (a1 : List Nat) (a2 : State) : Moves [.od, .live, .draws, .replies, .aocb, .beat, .store, .log, .can, .pdo, .link, .mem, .sched, .tabor, .sense, .touch, .reg, .seq, .pack, .thermal, .update, .test] a2 (actRpdoReceived a0 a1 a2) := by
  unfold actRpdoReceived
  with_reducible apply Moves.app (rpdoReceived_frame ..); decide
  with_reducible apply Moves.app (served_frame ..); decide
  apply Moves.refl

theorem actSaveParameters_frame (a0 : Port) (a1 : Nat) (a2 : Nat) (a3 : State) : Moves [.od, .live, .draws, .replies, .aocb, .beat, .store, .log, .can, .pdo, .link, .mem, .sched, .tabor, .sense, .touch, .reg, .seq, .pack, .thermal, .update, .test] a3 (actSaveParameters a0 a1 a2 a3) := by
  unfold actSaveParameters
  with_reducible apply Moves.app (writeCommand_frame ..); decide
  apply Moves.refl

theorem actScrubWord_frame (found : Option EccErr) (s : State) : Moves [.od, .log, .can, .pdo, .link, .mem, .sched] s (actScrubWord found s) := by
  unfold actScrubWord
  refine Moves.ite _ (Moves.refl _ _) ?_
  cases found with
  | none => exact Moves.trans (Moves.update (Moves.refl _ s)) ((checkEcc_frame _ _ _).mono (by decide))
  | some e => exact Moves.trans (Moves.update (Moves.refl _ s)) ((checkEcc_frame _ _ _).mono (by decide))

theorem segmentUnfilled_frame (a0 : State) (a1 : Port) (a2 : Nat) (a3 : Nat) : Moves [.od, .replies, .can, .pdo, .sched] a0 (segmentUnfilled a0 a1 a2 a3) := by
  unfold segmentUnfilled
  focus
    extract_lets +onlyGivenNames x; refine Moves.use x ?_ (fun hx => ?_); unfold x; clear x; rotate_left; clear_value x; rotate_right
  with_reducible apply Moves.app (State.reply_frame ..); decide
  with_reducible apply Moves.app (countFailed_frame ..); decide
  apply Moves.refl
  with_reducible apply Moves.ite
  with_reducible apply Moves.app (sdoAbort_frame ..); decide
  assumption
  assumption

theorem actSegmentFillTimeout_frame (a0 : Port) (a1 : Nat) (a2 : Nat) (a3 : Bool) (a4 : State) : Moves [.od, .replies, .can, .pdo, .sched] a4 (actSegmentFillTimeout a0 a1 a2 a3 a4) := by
  unfold actSegmentFillTimeout
  split
  with_reducible apply Moves.app (segmentUnfilled_frame ..); decide
  apply Moves.refl
  with_reducible apply Moves.app (State.reply_frame ..); decide
  apply Moves.refl

theorem actSegmentRead_frame (a0 : Port) (a1 : Nat) (a2 : Nat) (a3 : Nat) (a4 : Nat) (a5 : State) : Moves [.od, .replies, .store, .log] a5 (actSegmentRead a0 a1 a2 a3 a4 a5) := by
  unfold actSegmentRead
  with_reducible apply Moves.app (answerRead_frame ..); decide
  with_reducible apply Moves.app (segRead_frame ..); decide
  apply Moves.refl

theorem actSegmentWrite_frame (a0 : Port) (a1 : Nat) (a2 : Nat) (a3 : Nat) (a4 : List Nat) (a5 : State) : Moves [.od, .draws, .replies, .store, .log, .link, .sched, .update] a5 (actSegmentWrite a0 a1 a2 a3 a4 a5) := by
  unfold actSegmentWrite
  with_reducible apply Moves.app (answer_frame ..); decide
  with_reducible apply Moves.app (segWrite_frame ..); decide
  apply Moves.refl

theorem streamDrop_frame (a0 : State) (a1 : Nat) : Moves [.od, .link] a0 (streamDrop a0 a1) := by
  unfold streamDrop
  focus
    extract_lets +onlyGivenNames x; refine Moves.use x ?_ (fun hx => ?_); unfold x; clear x; rotate_left; clear_value x; rotate_right
  with_reducible apply Moves.app (State.count_frame ..); decide
  apply Moves.refl
  extract_lets +onlyGivenNames x; clear_value x
  focus
    extract_lets +onlyGivenNames x; refine Moves.use x ?_ (fun hx => ?_); unfold x; clear x; rotate_left; clear_value x; rotate_right
  refine Moves.update ?_
  assumption
  with_reducible apply Moves.ite
  assumption
  with_reducible apply Moves.app (raiseVector_frame ..); decide
  refine Moves.update ?_
  assumption

theorem formPacket_frame (a0 : State) (a1 : Nat) (a2 : Nat) (a3 : Option Nat) (a4 : List Nat) : Moves [.od, .link] a0 (formPacket a0 a1 a2 a3 a4) := by
  unfold formPacket
  extract_lets +onlyGivenNames x; clear_value x
  extract_lets +onlyGivenNames x; clear_value x
  extract_lets +onlyGivenNames g248
  focus
    extract_lets +onlyGivenNames x; refine Moves.use x ?_ (fun hx => ?_); unfold x; clear x; rotate_left; clear_value x; rotate_right
  unfold g248; dsimp only
  refine Moves.update ?_
  apply Moves.refl
  with_reducible apply Moves.ite
  assumption
  extract_lets +onlyGivenNames x; clear_value x
  extract_lets +onlyGivenNames x; clear_value x
  focus
    extract_lets +onlyGivenNames x; refine Moves.use x ?_ (fun hx => ?_); unfold x; clear x; rotate_left; clear_value x; rotate_right
  with_reducible apply Moves.ite
  with_reducible apply Moves.app (streamDrop_frame ..); decide
  assumption
  assumption
  focus
    extract_lets +onlyGivenNames x; refine Moves.use x ?_ (fun hx => ?_); unfold x; clear x; rotate_left; clear_value x; rotate_right
  unfold g248; dsimp only
  refine Moves.update ?_
  assumption
  with_reducible apply Moves.app (State.set_frame ..); decide
  assumption

theorem actStreamPacketFormed_frame (a0 : Fin 17) (a1 : Nat) (a2 : Option Nat) (a3 : List Sample) (a4 : State) : Moves [.od, .log, .link, .sched] a4 (actStreamPacketFormed a0 a1 a2 a3 a4) := by
  unfold actStreamPacketFormed
  with_reducible apply Moves.ite
  apply Moves.refl
  focus
    extract_lets +onlyGivenNames x; refine Moves.use x ?_ (fun hx => ?_); unfold x; clear x; rotate_left; clear_value x; rotate_right
  with_reducible apply Moves.app (formPacket_frame ..); decide
  with_reducible apply Moves.app (freshLanes_frame ..); decide
  apply Moves.refl
  with_reducible apply Moves.app (sendData_frame ..); decide
  with_reducible apply Moves.ite
  with_reducible apply Moves.app (streamSuspend_frame ..); decide
  assumption
  assumption

theorem actStreamSourcesWrite_frame (a0 : Port) (a1 : Nat) (a2 : State) : Moves [.od, .live, .draws, .replies, .aocb, .beat, .store, .log, .can, .pdo, .link, .mem, .sched, .tabor, .sense, .touch, .reg, .seq, .pack, .thermal, .update, .test] a2 (actStreamSourcesWrite a0 a1 a2) := by
  unfold actStreamSourcesWrite
  with_reducible apply Moves.app (writeCommand_frame ..); decide
  apply Moves.refl

theorem actSyncGuardBegin_frame (a0 : Option Nat) (a1 : Option Nat) (a2 : State) : Moves [.od, .can, .pdo] a2 (actSyncGuardBegin a0 a1 a2) := by
  unfold actSyncGuardBegin
  with_reducible apply Moves.ite
  with_reducible apply Moves.app (closeWindow_frame ..); decide
  refine Moves.update ?_
  apply Moves.refl
  apply Moves.refl

theorem endGuard_frame (a0 : State) : Moves [.can, .pdo] a0 (endGuard a0) := by
  unfold endGuard
  refine Moves.update ?_
  apply Moves.refl

theorem applyHeld_frame (a0 : State) : Moves [.od, .live, .draws, .replies, .aocb, .beat, .store, .log, .can, .pdo, .link, .mem, .sched, .tabor, .sense, .touch, .reg, .seq, .pack, .thermal, .update, .test] a0 (applyHeld a0) := by
  unfold applyHeld
  with_reducible apply Moves.foldl; intro _ _ _
  with_reducible apply Moves.ite
  assumption
  with_reducible apply Moves.app (applyRpdo_frame ..); decide
  assumption
  apply Moves.refl

theorem useSync_frame (a0 : State) (a1 : Line) (a2 : Option Nat) (a3 : Nat) : Moves [.od, .live, .draws, .replies, .aocb, .beat, .store, .log, .can, .pdo, .link, .mem, .sched, .tabor, .sense, .touch, .reg, .seq, .pack, .thermal, .update, .test] a0 (useSync a0 a1 a2 a3) := by
  unfold useSync
  focus
    extract_lets +onlyGivenNames x; refine Moves.use x ?_ (fun hx => ?_); unfold x; clear x; rotate_left; clear_value x; rotate_right
  with_reducible apply Moves.app (State.set_frame ..); decide
  apply Moves.refl
  focus
    extract_lets +onlyGivenNames x; refine Moves.use x ?_ (fun hx => ?_); unfold x; clear x; rotate_left; clear_value x; rotate_right
  with_reducible apply Moves.app (endGuard_frame ..); decide
  assumption
  extract_lets +onlyGivenNames x; clear_value x
  focus
    extract_lets +onlyGivenNames x; refine Moves.use x ?_ (fun hx => ?_); unfold x; clear x; rotate_left; clear_value x; rotate_right
  refine Moves.update ?_
  assumption
  focus
    extract_lets +onlyGivenNames x; refine Moves.use x ?_ (fun hx => ?_); unfold x; clear x; rotate_left; clear_value x; rotate_right
  with_reducible apply Moves.app (raise_frame ..); decide
  assumption
  focus
    extract_lets +onlyGivenNames x; refine Moves.use x ?_ (fun hx => ?_); unfold x; clear x; rotate_left; clear_value x; rotate_right
  with_reducible apply Moves.ite
  with_reducible apply Moves.app (lockReception_frame ..); decide
  assumption
  assumption
  with_reducible apply Moves.ite
  assumption
  with_reducible apply Moves.app (syncTpdos_frame ..); decide
  with_reducible apply Moves.app (applyHeld_frame ..); decide
  assumption

theorem actSyncMissing_frame (a0 : State) : Moves [.od, .live, .draws, .replies, .aocb, .beat, .store, .log, .can, .pdo, .link, .mem, .sched, .tabor, .sense, .touch, .reg, .seq, .pack, .thermal, .update, .test] a0 (actSyncMissing a0) := by
  unfold actSyncMissing
  split
  with_reducible apply Moves.app (useSync_frame ..); decide
  apply Moves.refl
  focus
    extract_lets +onlyGivenNames x; refine Moves.use x ?_ (fun hx => ?_); unfold x; clear x; rotate_left; clear_value x; rotate_right
  with_reducible apply Moves.app (endGuard_frame ..); decide
  apply Moves.refl
  with_reducible apply Moves.ite
  assumption
  with_reducible apply Moves.app (periodMissing_frame ..); decide
  with_reducible apply Moves.app (State.count_frame ..); decide
  assumption

theorem duplicateSync_frame (a0 : State) (a1 : Line) (a2 : Nat) : Moves [.od] a0 (duplicateSync a0 a1 a2) := by
  unfold duplicateSync
  split
  with_reducible apply Moves.ite
  apply Moves.refl
  with_reducible apply Moves.app (State.count_frame ..); decide
  apply Moves.refl
  apply Moves.refl

theorem actSyncReception_frame (a0 : Line) (a1 : Option Nat) (a2 : Nat) (a3 : State) : Moves [.od, .live, .draws, .replies, .aocb, .beat, .store, .log, .can, .pdo, .link, .mem, .sched, .tabor, .sense, .touch, .reg, .seq, .pack, .thermal, .update, .test] a3 (actSyncReception a0 a1 a2 a3) := by
  unfold actSyncReception
  focus
    extract_lets +onlyGivenNames x; refine Moves.use x ?_ (fun hx => ?_); unfold x; clear x; rotate_left; clear_value x; rotate_right
  with_reducible apply Moves.app (fifoTake_frame ..); decide
  apply Moves.refl
  with_reducible apply Moves.ite
  assumption
  with_reducible apply Moves.ite
  focus
    extract_lets +onlyGivenNames x; refine Moves.use x ?_ (fun hx => ?_); unfold x; clear x; rotate_left; clear_value x; rotate_right
  split
  with_reducible apply Moves.app (State.count_frame ..); decide
  assumption
  assumption
  with_reducible apply Moves.app (useSync_frame ..); decide
  assumption
  with_reducible apply Moves.ite
  with_reducible apply Moves.app (duplicateSync_frame ..); decide
  assumption
  refine Moves.update ?_
  assumption

theorem wake_frame (a0 : State) : Moves [.od, .draws, .log, .can, .pdo, .link, .mem, .sched, .tabor] a0 (wake a0) := by
  unfold wake
  with_reducible apply Moves.ite
  with_reducible apply Moves.app (endWait_frame ..); decide
  apply Moves.refl
  apply Moves.refl

theorem noteMarks_frame (a0 : Option Nat) (a1 : State) (a2 : Nat) : Moves [.tabor] a1 (noteMarks a0 a1 a2) := by
  unfold noteMarks
  split
  with_reducible apply Moves.ite
  apply Moves.refl
  with_reducible apply Moves.app (State.setCore_frame ..); decide
  apply Moves.refl
  apply Moves.refl

theorem lockRestart_frame (a0 : State) : Moves [.od, .mem, .tabor] a0 (lockRestart a0) := by
  unfold lockRestart
  split
  apply Moves.refl
  with_reducible apply Moves.app (State.count_frame ..); decide
  with_reducible apply Moves.app (breakLock_frame ..); decide
  apply Moves.refl

theorem coreAccess_frame (a0 : State) (a1 : Nat) (a2 : Nat) (a3 : Acc3) : Moves [.od, .draws, .log, .can, .pdo, .link, .mem, .sched, .tabor] a0 (coreAccess a0 a1 a2 a3).1 := by
  unfold coreAccess
  extract_lets +onlyGivenNames x; clear_value x
  split
  dsimp only
  with_reducible apply Moves.app (noteMarks_frame ..); decide
  with_reducible apply Moves.of_pair; assumption
  with_reducible apply Moves.app (coreTranslate_frame ..); decide
  apply Moves.refl
  dsimp only
  with_reducible apply Moves.of_pair; assumption
  with_reducible apply Moves.app (coreTranslate_frame ..); decide
  apply Moves.refl
  dsimp only
  with_reducible apply Moves.app (instrFault_frame ..); decide
  with_reducible apply Moves.of_pair; assumption
  with_reducible apply Moves.app (coreTranslate_frame ..); decide
  apply Moves.refl
  split
  dsimp only
  with_reducible apply Moves.app (lockRestart_frame ..); decide
  with_reducible apply Moves.of_pair; assumption
  with_reducible apply Moves.app (coreMiss_frame ..); decide
  with_reducible apply Moves.of_pair; assumption
  with_reducible apply Moves.app (coreTranslate_frame ..); decide
  apply Moves.refl
  dsimp only
  with_reducible apply Moves.app (instrFault_frame ..); decide
  with_reducible apply Moves.of_pair; assumption
  with_reducible apply Moves.app (coreMiss_frame ..); decide
  with_reducible apply Moves.of_pair; assumption
  with_reducible apply Moves.app (coreTranslate_frame ..); decide
  apply Moves.refl
  extract_lets +onlyGivenNames x; clear_value x
  split
  dsimp only
  with_reducible apply Moves.app (noteMarks_frame ..); decide
  with_reducible apply Moves.of_pair; assumption
  with_reducible apply Moves.app (coreTranslate_frame ..); decide
  with_reducible apply Moves.of_pair; assumption
  with_reducible apply Moves.app (coreMiss_frame ..); decide
  with_reducible apply Moves.of_pair; assumption
  with_reducible apply Moves.app (coreTranslate_frame ..); decide
  apply Moves.refl
  dsimp only
  with_reducible apply Moves.app (instrFault_frame ..); decide
  with_reducible apply Moves.of_pair; assumption
  with_reducible apply Moves.app (coreTranslate_frame ..); decide
  with_reducible apply Moves.of_pair; assumption
  with_reducible apply Moves.app (coreMiss_frame ..); decide
  with_reducible apply Moves.of_pair; assumption
  with_reducible apply Moves.app (coreTranslate_frame ..); decide
  apply Moves.refl

theorem fetchWord_frame (a0 : State) : Moves [.od, .draws, .log, .can, .pdo, .link, .mem, .sched, .tabor] a0 (fetchWord a0).1 := by
  unfold fetchWord
  split
  dsimp only
  with_reducible apply Moves.of_pair; assumption
  with_reducible apply Moves.app (coreAccess_frame ..); decide
  apply Moves.refl
  dsimp only
  with_reducible apply Moves.of_pair; assumption
  with_reducible apply Moves.app (coreAccess_frame ..); decide
  apply Moves.refl
  split
  dsimp only
  with_reducible apply Moves.app (instrFault_frame ..); decide
  with_reducible apply Moves.of_pair; assumption
  with_reducible apply Moves.app (checkEcc_frame ..); decide
  with_reducible apply Moves.of_pair; assumption
  with_reducible apply Moves.app (coreAccess_frame ..); decide
  apply Moves.refl
  dsimp only
  with_reducible apply Moves.app (State.setCore_frame ..); decide
  with_reducible apply Moves.of_pair; assumption
  with_reducible apply Moves.app (checkEcc_frame ..); decide
  with_reducible apply Moves.of_pair; assumption
  with_reducible apply Moves.app (coreAccess_frame ..); decide
  apply Moves.refl

theorem beforeIssue_frame (a0 : State) : Moves [.od, .draws, .log, .can, .pdo, .link, .mem, .sched, .tabor] a0 (beforeIssue a0).1 := by
  unfold beforeIssue
  extract_lets +onlyGivenNames x; clear_value x
  extract_lets +onlyGivenNames x; clear_value x
  extract_lets +onlyGivenNames x; clear_value x
  focus
    extract_lets +onlyGivenNames x; refine Moves.use x ?_ (fun hx => ?_); unfold x; clear x; rotate_left; clear_value x; rotate_right
  refine Moves.update ?_
  apply Moves.refl
  with_reducible apply Moves.ite_fst
  dsimp only
  with_reducible apply Moves.app (haltNow_frame ..); decide
  assumption
  with_reducible apply Moves.ite_fst
  dsimp only
  with_reducible apply Moves.app (haltNow_frame ..); decide
  refine Moves.update ?_
  assumption
  extract_lets +onlyGivenNames x; clear_value x
  focus
    extract_lets +onlyGivenNames x; refine Moves.use x ?_ (fun hx => ?_); unfold x; clear x; rotate_left; clear_value x; rotate_right
  with_reducible apply Moves.ite
  refine Moves.update ?_
  assumption
  assumption
  with_reducible apply Moves.app (fetchWord_frame ..); decide
  assumption

theorem issue_frame {l : List Part} {a s : State} {srcs : List Nat} {f : State → State} (h : Moves l a s)
    (hf : ∀ t, Moves l t (f t)) (hr : ∀ p ∈ [Part.od, Part.draws, Part.log, Part.can, Part.pdo, Part.link, Part.mem, Part.sched, Part.tabor], p ∈ l) : Moves l a (issue s srcs f) := by
  unfold issue
  refine h.trans (Moves.ite _ (Moves.refl _ _) ?_)
  have hw : Moves l s (wake s) := (wake_frame s).mono (fun p hp => hr p (by revert p; decide))
  refine hw.trans (Moves.ite _ (Moves.refl _ _) ?_)
  have hb : Moves l (wake s) (beforeIssue (wake s)).1 := (beforeIssue_frame _).mono (fun p hp => hr p (by revert p; decide))
  split
  · exact Moves.of_pair ‹_› hb
  · exact (Moves.of_pair ‹_› hb).trans (((State.setCore_frame _ _).mono (fun p hp => hr p (by revert p; decide))).trans (hf _))

theorem illegal_frame (a0 : State) : Moves [.od, .draws, .log, .can, .pdo, .link, .mem, .sched, .tabor] a0 (illegal a0) := by
  unfold illegal
  with_reducible apply Moves.app (instrFault_frame ..); decide
  apply Moves.refl

theorem retireAt_frame (a0 : State) (a1 : Nat) (a2 : Option Word) : Moves [.od, .draws, .log, .can, .pdo, .link, .mem, .sched, .tabor] a0 (retireAt a0 a1 a2) := by
  unfold retireAt
  with_reducible apply Moves.app (settleBudget_frame ..); decide
  with_reducible apply Moves.app (retire_frame ..); decide
  apply Moves.refl

theorem retired_frame (a0 : State) (a1 : Nat) : Moves [.od, .draws, .log, .can, .pdo, .link, .mem, .sched, .tabor] a0 (retired a0 a1) := by
  unfold retired
  with_reducible apply Moves.app (retireAt_frame ..); decide
  apply Moves.refl

theorem lockIllegal_frame (a0 : State) : Moves [.od, .draws, .log, .can, .pdo, .link, .mem, .sched, .tabor] a0 (lockIllegal a0) := by
  unfold lockIllegal
  focus
    extract_lets +onlyGivenNames x; refine Moves.use x ?_ (fun hx => ?_); unfold x; clear x; rotate_left; clear_value x; rotate_right
  with_reducible apply Moves.app (breakLock_frame ..); decide
  apply Moves.refl
  with_reducible apply Moves.app (boundaryHalt_frame ..); decide
  with_reducible apply Moves.app (takeException_frame ..); decide
  assumption

theorem issueUnlocked_frame {l : List Part} {a s : State} {srcs : List Nat} {f : State → State} (h : Moves l a s)
    (hf : ∀ t, Moves l t (f t)) (hr : ∀ p ∈ [Part.od, Part.draws, Part.log, Part.can, Part.pdo, Part.link, Part.mem, Part.sched, Part.tabor], p ∈ l) : Moves l a (issueUnlocked s srcs f) := by
  unfold issueUnlocked
  exact issue_frame h (fun t => Moves.ite _ ((lockIllegal_frame t).mono (fun p hp => hr p (by revert p; decide))) (hf t))
    (fun p hp => hr p (by revert p; decide))

theorem watchAccess_frame (a0 : State) (a1 : Nat) (a2 : Nat) (a3 : Bool) : Moves [.tabor] a0 (watchAccess a0 a1 a2 a3) := by
  unfold watchAccess
  extract_lets +onlyGivenNames x; clear_value x
  with_reducible apply Moves.ite
  apply Moves.refl
  refine Moves.update ?_
  apply Moves.refl

theorem loadBytes_frame (a0 : State) (a1 : Nat) (a2 : Nat) : Moves [.od, .draws, .log, .can, .pdo, .link, .mem, .sched, .tabor] a0 (loadBytes a0 a1 a2).1 := by
  unfold loadBytes
  split
  dsimp only
  with_reducible apply Moves.of_pair; assumption
  with_reducible apply Moves.app (coreAccess_frame ..); decide
  apply Moves.refl
  dsimp only
  with_reducible apply Moves.app (watchAccess_frame ..); decide
  with_reducible apply Moves.of_pair; assumption
  with_reducible apply Moves.app (coreAccess_frame ..); decide
  apply Moves.refl
  focus
    extract_lets +onlyGivenNames x; refine Moves.use x ?_ (fun hx => ?_); unfold x; clear x; rotate_left; clear_value x; rotate_right
  with_reducible apply Moves.app (watchAccess_frame ..); decide
  with_reducible apply Moves.app (State.setCore_frame ..); decide
  with_reducible apply Moves.of_pair; assumption
  with_reducible apply Moves.app (coreAccess_frame ..); decide
  apply Moves.refl
  split
  dsimp only
  with_reducible apply Moves.of_pair; assumption
  with_reducible apply Moves.app (checkEcc_frame ..); decide
  assumption

theorem coreStore_frame (a0 : State) (a1 : Nat) (a2 : List Nat) : Moves [.mem, .tabor] a0 (coreStore a0 a1 a2) := by
  unfold coreStore
  split
  extract_lets +onlyGivenNames x; clear_value x
  with_reducible apply Moves.app (State.setCore_frame ..); decide
  apply Moves.refl
  refine Moves.update ?_
  apply Moves.refl

theorem storeBytes_frame (a0 : State) (a1 : Nat) (a2 : List Nat) : Moves [.od, .draws, .log, .can, .pdo, .link, .mem, .sched, .tabor] a0 (storeBytes a0 a1 a2).1 := by
  unfold storeBytes
  split
  split
  dsimp only
  with_reducible apply Moves.app (instrFault_frame ..); decide
  with_reducible apply Moves.of_pair; assumption
  with_reducible apply Moves.ite_fst
  dsimp only
  with_reducible apply Moves.of_pair; assumption
  with_reducible apply Moves.app (coreAccess_frame ..); decide
  apply Moves.refl
  with_reducible apply Moves.app (storeEcc_frame ..); decide
  with_reducible apply Moves.of_pair; assumption
  with_reducible apply Moves.app (coreAccess_frame ..); decide
  apply Moves.refl
  dsimp only
  with_reducible apply Moves.app (coreStore_frame ..); decide
  with_reducible apply Moves.app (watchAccess_frame ..); decide
  with_reducible apply Moves.app (State.setCore_frame ..); decide
  with_reducible apply Moves.of_pair; assumption
  with_reducible apply Moves.ite_fst
  dsimp only
  with_reducible apply Moves.of_pair; assumption
  with_reducible apply Moves.app (coreAccess_frame ..); decide
  apply Moves.refl
  with_reducible apply Moves.app (storeEcc_frame ..); decide
  with_reducible apply Moves.of_pair; assumption
  with_reducible apply Moves.app (coreAccess_frame ..); decide
  apply Moves.refl
  dsimp only
  with_reducible apply Moves.of_pair; assumption
  with_reducible apply Moves.app (coreAccess_frame ..); decide
  apply Moves.refl

theorem poisonedLoad_frame (a0 : State) (a1 : List Nat) (a2 : Nat) : Moves [.od, .draws, .log, .can, .pdo, .link, .mem, .sched, .tabor] a0 (poisonedLoad a0 a1 a2) := by
  unfold poisonedLoad
  split
  focus
    extract_lets +onlyGivenNames x; refine Moves.use x ?_ (fun hx => ?_); unfold x; clear x; rotate_left; clear_value x; rotate_right
  with_reducible apply Moves.app (State.count_frame ..); decide
  with_reducible apply Moves.app (breakLock_frame ..); decide
  apply Moves.refl
  with_reducible apply Moves.app (boundaryHalt_frame ..); decide
  with_reducible apply Moves.app (takeException_frame ..); decide
  assumption
  focus
    extract_lets +onlyGivenNames x; refine Moves.use x ?_ (fun hx => ?_); unfold x; clear x; rotate_left; clear_value x; rotate_right
  with_reducible apply Moves.foldl; intro _ _ _
  with_reducible apply Moves.app (State.setCore_frame ..); decide
  with_reducible apply Moves.app (State.draw_frame ..); decide
  assumption
  apply Moves.refl
  split
  with_reducible apply Moves.app (raiseEcc_frame ..); decide
  with_reducible apply Moves.of_pair; assumption
  with_reducible apply Moves.app (advance_frame ..); decide
  assumption

theorem activationEnds_frame (a0 : State) : Moves [.od, .mem, .sched, .tabor] a0 (activationEnds a0) := by
  unfold activationEnds
  split
  focus
    extract_lets +onlyGivenNames x; refine Moves.use x ?_ (fun hx => ?_); unfold x; clear x; rotate_left; clear_value x; rotate_right
  split
  with_reducible apply Moves.app (State.setProg_frame ..); decide
  apply Moves.refl
  apply Moves.refl
  with_reducible apply Moves.app (handlerEnds_frame ..); decide
  assumption
  apply Moves.refl

theorem taskAction_frame {l : List Part} {a s : State} {t kind : Nat} {f : State → Activation → State × Bool} (h : Moves l a s)
    (hf : ∀ u x, Moves l u (f u x).1) (hr : ∀ p ∈ [Part.od, Part.sched], p ∈ l) : Moves l a (taskAction s t kind f) := by
  unfold taskAction
  refine h.trans ?_
  split
  · refine Moves.ite _ (Moves.refl _ _) ?_
    have hs : Moves l s (freeSlot s t) := (freeSlot_frame _ _).mono (fun p hp => hr p (by revert p; decide))
    have hq := hs.trans (hf (freeSlot s t) ‹_›)
    split
    · exact Moves.of_pair ‹_› hq
    · exact (Moves.of_pair ‹_› hq).trans ((actionFails_frame _ _).mono (fun p hp => hr p (by revert p; decide)))
  · exact Moves.refl _ _

theorem logTask_frame (a0 : State) (a1 : Nat) : Moves [.od, .log, .link, .sched] a0 (logTask a0 a1).1 := by
  unfold logTask
  focus
    extract_lets +onlyGivenNames x; refine Moves.use x ?_ (fun hx => ?_); unfold x; clear x; rotate_left; clear_value x; rotate_right
  with_reducible apply Moves.app (queueLog_frame ..); decide
  apply Moves.refl
  dsimp only
  assumption

theorem actTaskActionLog_frame (a0 : Fin 128) (a1 : State) : Moves [.od, .log, .link, .sched] a1 (actTaskActionLog a0 a1) := by
  unfold actTaskActionLog
  (with_reducible apply taskAction_frame) <;> first | decide | skip
  apply Moves.refl
  with_reducible intro _
  with_reducible intro _
  with_reducible apply Moves.app (logTask_frame ..); decide
  apply Moves.refl

theorem postRecord_frame (a0 : State) (a1 : Nat) (a2 : Activation) : Moves [.od, .link, .mem, .sched] a0 (postRecord a0 a1 a2).1 := by
  unfold postRecord
  extract_lets +onlyGivenNames x; clear_value x
  with_reducible apply Moves.ite_fst
  dsimp only
  apply Moves.refl
  dsimp only
  with_reducible apply Moves.app (ringProduce_frame ..); decide
  apply Moves.refl

theorem actTaskActionPostRecord_frame (a0 : Fin 128) (a1 : State) : Moves [.od, .link, .mem, .sched] a1 (actTaskActionPostRecord a0 a1) := by
  unfold actTaskActionPostRecord
  (with_reducible apply taskAction_frame) <;> first | decide | skip
  apply Moves.refl
  with_reducible intro _
  with_reducible intro _
  with_reducible apply Moves.app (postRecord_frame ..); decide
  apply Moves.refl

theorem requestPower_frame (a0 : State) (a1 : Nat) : Moves [.od, .draws, .replies, .aocb, .store, .log, .can, .pdo, .link, .mem, .sched, .tabor, .sense, .touch, .reg, .seq, .update, .test] a0 (requestPower a0 a1).1 := by
  unfold requestPower
  split
  dsimp only
  apply Moves.refl
  dsimp only
  with_reducible apply Moves.app (powerRequest_frame ..); decide
  apply Moves.refl

theorem actTaskActionPowerRequest_frame (a0 : Fin 128) (a1 : State) : Moves [.od, .draws, .replies, .aocb, .store, .log, .can, .pdo, .link, .mem, .sched, .tabor, .sense, .touch, .reg, .seq, .update, .test] a1 (actTaskActionPowerRequest a0 a1) := by
  unfold actTaskActionPowerRequest
  (with_reducible apply taskAction_frame) <;> first | decide | skip
  apply Moves.refl
  with_reducible intro _
  with_reducible intro _
  with_reducible apply Moves.app (requestPower_frame ..); decide
  apply Moves.refl

theorem tpdoTimed_frame (a0 : State) (a1 : Nat) : Moves [.can, .pdo] a0 (tpdoTimed a0 a1) := by
  unfold tpdoTimed
  with_reducible apply Moves.ite
  apply Moves.refl
  with_reducible apply Moves.ite
  with_reducible apply Moves.app (sendImmediate_frame ..); decide
  with_reducible apply Moves.app (State.setTpdo_frame ..); decide
  apply Moves.refl
  with_reducible apply Moves.app (State.setTpdo_frame ..); decide
  apply Moves.refl

theorem makeDue_frame (a0 : State) (a1 : Nat) : Moves [.can, .pdo] a0 (makeDue a0 a1).1 := by
  unfold makeDue
  with_reducible apply Moves.ite_fst
  dsimp only
  with_reducible apply Moves.app (tpdoTimed_frame ..); decide
  apply Moves.refl
  dsimp only
  apply Moves.refl

theorem actTaskActionTpdoDue_frame (a0 : Fin 128) (a1 : State) : Moves [.od, .can, .pdo, .sched] a1 (actTaskActionTpdoDue a0 a1) := by
  unfold actTaskActionTpdoDue
  (with_reducible apply taskAction_frame) <;> first | decide | skip
  apply Moves.refl
  with_reducible intro _
  with_reducible intro _
  with_reducible apply Moves.app (makeDue_frame ..); decide
  apply Moves.refl

theorem actTaskDisable_frame (a0 : Port) (a1 : Fin 128) (a2 : Nat) (a3 : State) : Moves [.od, .live, .draws, .replies, .aocb, .beat, .store, .log, .can, .pdo, .link, .mem, .sched, .tabor, .sense, .touch, .reg, .seq, .pack, .thermal, .update, .test] a3 (actTaskDisable a0 a1 a2 a3) := by
  unfold actTaskDisable
  with_reducible apply Moves.app (writeCommand_frame ..); decide
  apply Moves.refl

theorem tlbWrite_frame (a0 : State) (a1 : Port) (a2 : Nat) (a3 : Nat) : Moves [.od, .live, .draws, .replies, .aocb, .beat, .store, .log, .can, .pdo, .link, .mem, .sched, .tabor, .sense, .touch, .reg, .seq, .pack, .thermal, .update, .test] a0 (tlbWrite a0 a1 a2 a3) := by
  unfold tlbWrite
  with_reducible apply Moves.app (writeCommand_frame ..); decide
  apply Moves.refl

theorem actTlbEvictPage_frame (a0 : Port) (a1 : Nat) (a2 : State) : Moves [.od, .live, .draws, .replies, .aocb, .beat, .store, .log, .can, .pdo, .link, .mem, .sched, .tabor, .sense, .touch, .reg, .seq, .pack, .thermal, .update, .test] a2 (actTlbEvictPage a0 a1 a2) := by
  unfold actTlbEvictPage
  with_reducible apply Moves.app (tlbWrite_frame ..); decide
  apply Moves.refl

theorem actTlbInvalidateAll_frame (a0 : Port) (a1 : State) : Moves [.od, .live, .draws, .replies, .aocb, .beat, .store, .log, .can, .pdo, .link, .mem, .sched, .tabor, .sense, .touch, .reg, .seq, .pack, .thermal, .update, .test] a1 (actTlbInvalidateAll a0 a1) := by
  unfold actTlbInvalidateAll
  with_reducible apply Moves.app (tlbWrite_frame ..); decide
  apply Moves.refl

theorem actTlbInvalidatePage_frame (a0 : Port) (a1 : Nat) (a2 : State) : Moves [.od, .live, .draws, .replies, .aocb, .beat, .store, .log, .can, .pdo, .link, .mem, .sched, .tabor, .sense, .touch, .reg, .seq, .pack, .thermal, .update, .test] a2 (actTlbInvalidatePage a0 a1 a2) := by
  unfold actTlbInvalidatePage
  with_reducible apply Moves.app (tlbWrite_frame ..); decide
  apply Moves.refl

theorem actTpdoEventTimerExpiry_frame (a0 : Fin 64) (a1 : State) : Moves [.can, .pdo] a1 (actTpdoEventTimerExpiry a0 a1) := by
  unfold actTpdoEventTimerExpiry
  with_reducible apply Moves.ite
  apply Moves.refl
  with_reducible apply Moves.app (tpdoTimed_frame ..); decide
  apply Moves.refl

theorem inhibitEnds_frame (a0 : State) (a1 : Nat) : Moves [.od, .can, .pdo] a0 (inhibitEnds a0 a1) := by
  unfold inhibitEnds
  extract_lets +onlyGivenNames x; clear_value x
  extract_lets +onlyGivenNames x; clear_value x
  focus
    extract_lets +onlyGivenNames x; refine Moves.use x ?_ (fun hx => ?_); unfold x; clear x; rotate_left; clear_value x; rotate_right
  with_reducible apply Moves.app (State.setTpdo_frame ..); decide
  apply Moves.refl
  with_reducible apply Moves.ite
  assumption
  with_reducible apply Moves.ite
  with_reducible apply Moves.app (sendImmediate_frame ..); decide
  assumption
  with_reducible apply Moves.ite
  with_reducible apply Moves.app (sendInWindow_frame ..); decide
  assumption
  assumption

theorem actTpdoInhibitExpiry_frame (a0 : Fin 64) (a1 : State) : Moves [.od, .can, .pdo] a1 (actTpdoInhibitExpiry a0 a1) := by
  unfold actTpdoInhibitExpiry
  with_reducible apply Moves.app (inhibitEnds_frame ..); decide
  apply Moves.refl

theorem actTpdoLatestStart_frame (a0 : Fin 64) (a1 : State) : Moves [.od, .can, .pdo] a1 (actTpdoLatestStart a0 a1) := by
  unfold actTpdoLatestStart
  with_reducible apply Moves.app (withdraw_frame ..); decide
  apply Moves.refl

theorem actTrainingPhaseTimeout_frame (a0 : State) : Moves [.od, .draws, .replies, .store, .log, .can, .pdo, .link, .mem, .sched, .tabor, .sense, .update, .test] a0 (actTrainingPhaseTimeout a0) := by
  unfold actTrainingPhaseTimeout
  with_reducible apply Moves.ite
  with_reducible apply Moves.app (linkFailed_frame ..); decide
  apply Moves.refl
  apply Moves.refl

theorem actWriteBackComplete_frame (a0 : Nat) (a1 : State) : Moves [.od, .draws, .log, .link, .mem, .sched] a1 (actWriteBackComplete a0 a1) := by
  unfold actWriteBackComplete
  split
  with_reducible apply Moves.ite
  apply Moves.refl
  focus
    extract_lets +onlyGivenNames x; refine Moves.use x ?_ (fun hx => ?_); unfold x; clear x; rotate_left; clear_value x; rotate_right
  with_reducible apply Moves.app (releaseFrame_frame ..); decide
  apply Moves.refl
  with_reducible apply Moves.app (serveFills_frame ..); decide
  with_reducible apply Moves.ite
  with_reducible apply Moves.app (State.count_frame ..); decide
  assumption
  assumption
  apply Moves.refl

theorem imagesFreed_frame (a0 : State) : Moves [.od, .draws, .beat, .log, .can, .pdo, .link, .mem, .sched, .touch] a0 (imagesFreed a0) := by
  unfold imagesFreed
  with_reducible apply Moves.foldl; intro _ _ _
  with_reducible apply Moves.app (imageWrite_frame ..); decide
  assumption
  refine Moves.update ?_
  apply Moves.refl

theorem fillsFreed_frame (a0 : State) : Moves [.od, .live, .draws, .replies, .aocb, .beat, .store, .log, .can, .pdo, .link, .mem, .sched, .tabor, .sense, .touch, .reg, .seq, .pack, .thermal, .update, .test] a0 (fillsFreed a0) := by
  unfold fillsFreed
  with_reducible apply Moves.foldl; intro _ _ _
  split
  with_reducible apply Moves.app (pageArrives_frame ..); decide
  assumption
  assumption
  apply Moves.refl

theorem ringsFreed_frame (a0 : State) : Moves [.od, .link, .mem, .sched] a0 (ringsFreed a0) := by
  unfold ringsFreed
  with_reducible apply Moves.foldl; intro _ _ _
  split
  with_reducible apply Moves.app (ringProduce_frame ..); decide
  assumption
  with_reducible apply Moves.app (State.writeIndexBlock_frame ..); decide
  assumption
  refine Moves.update ?_
  apply Moves.refl

theorem bankFreed_frame (a0 : State) : Moves [.od, .live, .draws, .replies, .aocb, .beat, .store, .log, .can, .pdo, .link, .mem, .sched, .tabor, .sense, .touch, .reg, .seq, .pack, .thermal, .update, .test] a0 (bankFreed a0) := by
  unfold bankFreed
  with_reducible apply Moves.ite
  apply Moves.refl
  focus
    extract_lets +onlyGivenNames x; refine Moves.use x ?_ (fun hx => ?_); unfold x; clear x; rotate_left; clear_value x; rotate_right
  with_reducible apply Moves.app (imagesFreed_frame ..); decide
  with_reducible apply Moves.app (fillsFreed_frame ..); decide
  with_reducible apply Moves.app (ringsFreed_frame ..); decide
  apply Moves.refl
  with_reducible apply Moves.app (settleInbound_frame ..); decide
  with_reducible apply Moves.ite
  assumption
  with_reducible apply Moves.app (servePops_frame ..); decide
  assumption

theorem pushOn_frame (a0 : State) : Moves [.od, .draws, .replies, .log, .can, .pdo, .link, .mem, .sched, .tabor, .test] a0 (pushOn a0) := by
  unfold pushOn
  split
  with_reducible apply Moves.app (ringSpace_frame ..); decide
  apply Moves.refl
  apply Moves.refl

theorem settleAll_frame (a0 : State) : Moves [.od, .live, .draws, .replies, .aocb, .beat, .store, .log, .can, .pdo, .link, .mem, .sched, .tabor, .sense, .touch, .reg, .seq, .pack, .thermal, .update, .test] a0 (settleAll a0) := by
  unfold settleAll
  with_reducible apply Moves.app (beginInits_frame ..); decide
  with_reducible apply Moves.app (settleBudget_frame ..); decide
  with_reducible apply Moves.app (settleInbound_frame ..); decide
  with_reducible apply Moves.app (pushOn_frame ..); decide
  with_reducible apply Moves.app (bankFreed_frame ..); decide
  apply Moves.refl

end Sys2Proof.Machine
end

