-- ==== Sys2Proof/Laws/FramesCore.lean ====
section
/-!
SUPPORT. What each function may change: the frames of the Tabor instructions. One lemma per function: every part of the
state that is not listed stands as it stood, and every table keeps its canonical form.
-/

set_option linter.all false
set_option Elab.async false

namespace Sys2Proof.Machine

theorem actActivationBudgetExpiry_frame (a0 : Fin 4) (a1 : State) : Moves [.od, .draws, .log, .can, .pdo, .link, .mem, .sched, .tabor] a1 (actActivationBudgetExpiry a0 a1) := by
  unfold actActivationBudgetExpiry
  with_reducible apply Moves.ite
  apply Moves.refl
  with_reducible apply Moves.app (settleBudget_frame ..); decide
  refine Moves.update ?_
  apply Moves.refl

theorem enterHandler_frame (a0 : State) (a1 : State) (a2 : Nat) (a3 : Nat) (a4 : List Nat) : Moves [.od, .draws, .log, .can, .pdo, .link, .mem, .sched, .tabor] a1 (enterHandler a0 a1 a2 a3 a4) := by
  unfold enterHandler
  split
  with_reducible apply Moves.app (userEntry_frame ..); decide
  with_reducible apply Moves.of_pair; assumption
  with_reducible apply Moves.app (windowForward_frame ..); decide
  apply Moves.refl
  focus
    extract_lets +onlyGivenNames x; refine Moves.use x ?_ (fun hx => ?_); unfold x; clear x; rotate_left; clear_value x; rotate_right
  with_reducible apply Moves.app (State.set_frame ..); decide
  with_reducible apply Moves.of_pair; assumption
  with_reducible apply Moves.app (windowForward_frame ..); decide
  apply Moves.refl
  refine Moves.update ?_
  assumption
  with_reducible apply Moves.app (doubleFault_frame ..); decide
  with_reducible apply Moves.of_pair; assumption
  with_reducible apply Moves.app (windowForward_frame ..); decide
  apply Moves.refl

theorem eventEnters_frame (a0 : State) (a1 : Nat) (a2 : Activation) (a3 : Nat) : Moves [.od, .draws, .log, .can, .pdo, .link, .mem, .sched, .tabor] a0 (eventEnters a0 a1 a2 a3) := by
  unfold eventEnters
  extract_lets +onlyGivenNames x; clear_value x
  focus
    extract_lets +onlyGivenNames x; refine Moves.use x ?_ (fun hx => ?_); unfold x; clear x; rotate_left; clear_value x; rotate_right
  with_reducible apply Moves.app (takeException_frame ..); decide
  apply Moves.refl
  with_reducible apply Moves.ite
  assumption
  focus
    extract_lets +onlyGivenNames x; refine Moves.use x ?_ (fun hx => ?_); unfold x; clear x; rotate_left; clear_value x; rotate_right
  with_reducible apply Moves.app (freeSlot_frame ..); decide
  with_reducible apply Moves.app (State.setCore_frame ..); decide
  assumption
  focus
    extract_lets +onlyGivenNames x; refine Moves.use x ?_ (fun hx => ?_); unfold x; clear x; rotate_left; clear_value x; rotate_right
  with_reducible apply Moves.app (State.set_frame ..); decide
  assumption
  with_reducible apply Moves.ite
  assumption
  with_reducible apply Moves.app (enterHandler_frame ..); decide
  assumption

theorem actEventDispatch_frame (a0 : Fin 128) (a1 : Nat) (a2 : State) : Moves [.od, .draws, .log, .can, .pdo, .link, .mem, .sched, .tabor] a2 (actEventDispatch a0 a1 a2) := by
  unfold actEventDispatch
  extract_lets +onlyGivenNames x; clear_value x
  split
  apply Moves.refl
  with_reducible apply Moves.ite
  apply Moves.refl
  with_reducible apply Moves.ite
  with_reducible apply Moves.app (actionFails_frame ..); decide
  with_reducible apply Moves.app (freeSlot_frame ..); decide
  apply Moves.refl
  with_reducible apply Moves.ite
  apply Moves.refl
  focus
    extract_lets +onlyGivenNames x; refine Moves.use x ?_ (fun hx => ?_); unfold x; clear x; rotate_left; clear_value x; rotate_right
  with_reducible apply Moves.ite
  with_reducible apply Moves.app (endWait_frame ..); decide
  apply Moves.refl
  apply Moves.refl
  with_reducible apply Moves.ite
  assumption
  with_reducible apply Moves.app (eventEnters_frame ..); decide
  assumption

theorem actFrameShareSpent_frame (a0 : Fin 4) (a1 : State) : Moves [.tabor] a1 (actFrameShareSpent a0 a1) := by
  unfold actFrameShareSpent
  split
  with_reducible apply Moves.ite
  with_reducible apply Moves.app (State.setProg_frame ..); decide
  apply Moves.refl
  apply Moves.refl
  apply Moves.refl

theorem actTAccx_frame (a0 : Fin 32) (a1 : BitVec 8) (a2 : State) : Moves [.od, .draws, .log, .can, .pdo, .link, .mem, .sched, .tabor] a2 (actTAccx a0 a1 a2) := by
  unfold actTAccx
  with_reducible apply Moves.ite
  (with_reducible apply issue_frame) <;> first | decide | skip
  apply Moves.refl
  with_reducible intro _
  with_reducible apply Moves.app (illegal_frame ..); decide
  apply Moves.refl
  (with_reducible apply issue_frame) <;> first | decide | skip
  apply Moves.refl
  with_reducible intro _
  extract_lets +onlyGivenNames x; clear_value x
  extract_lets +onlyGivenNames x; clear_value x
  with_reducible apply Moves.app (retired_frame ..); decide
  with_reducible apply Moves.app (State.setCore_frame ..); decide
  apply Moves.refl

theorem alu_frame (a0 : State) (a1 : Nat) (a2 : List Nat) (a3 : Bool) (a4 : Core → AluOut) : Moves [.od, .draws, .log, .can, .pdo, .link, .mem, .sched, .tabor] a0 (alu a0 a1 a2 a3 a4) := by
  unfold alu
  (with_reducible apply issue_frame) <;> first | decide | skip
  apply Moves.refl
  with_reducible intro _
  extract_lets +onlyGivenNames x; clear_value x
  extract_lets +onlyGivenNames x; clear_value x
  with_reducible apply Moves.app (retired_frame ..); decide
  with_reducible apply Moves.app (State.setCore_frame ..); decide
  apply Moves.refl

theorem alu2_frame (a0 : State) (a1 : Fin 32) (a2 : Fin 32) (a3 : Fin 32) (a4 : Bool) (a5 : Word → Word → Flg → AluOut) : Moves [.od, .draws, .log, .can, .pdo, .link, .mem, .sched, .tabor] a0 (alu2 a0 a1 a2 a3 a4 a5) := by
  unfold alu2
  with_reducible apply Moves.app (alu_frame ..); decide
  apply Moves.refl

theorem actTAdd_frame (a0 : Fin 32) (a1 : Fin 32) (a2 : Fin 32) (a3 : Bool) (a4 : State) : Moves [.od, .draws, .log, .can, .pdo, .link, .mem, .sched, .tabor] a4 (actTAdd a0 a1 a2 a3 a4) := by
  unfold actTAdd
  with_reducible apply Moves.app (alu2_frame ..); decide
  apply Moves.refl

theorem actTAddc_frame (a0 : Fin 32) (a1 : Fin 32) (a2 : Fin 32) (a3 : Bool) (a4 : State) : Moves [.od, .draws, .log, .can, .pdo, .link, .mem, .sched, .tabor] a4 (actTAddc a0 a1 a2 a3 a4) := by
  unfold actTAddc
  with_reducible apply Moves.app (alu2_frame ..); decide
  apply Moves.refl

theorem aluImm_frame (a0 : State) (a1 : Fin 32) (a2 : Fin 32) (a3 : Word → Word) : Moves [.od, .draws, .log, .can, .pdo, .link, .mem, .sched, .tabor] a0 (aluImm a0 a1 a2 a3) := by
  unfold aluImm
  with_reducible apply Moves.app (alu_frame ..); decide
  apply Moves.refl

theorem actTAddi_frame (a0 : Fin 32) (a1 : Fin 32) (a2 : BitVec 16) (a3 : State) : Moves [.od, .draws, .log, .can, .pdo, .link, .mem, .sched, .tabor] a3 (actTAddi a0 a1 a2 a3) := by
  unfold actTAddi
  with_reducible apply Moves.app (aluImm_frame ..); decide
  apply Moves.refl

theorem actTAdds_frame (a0 : Fin 32) (a1 : Fin 32) (a2 : Fin 32) (a3 : Bool) (a4 : State) : Moves [.od, .draws, .log, .can, .pdo, .link, .mem, .sched, .tabor] a4 (actTAdds a0 a1 a2 a3 a4) := by
  unfold actTAdds
  with_reducible apply Moves.app (alu2_frame ..); decide
  apply Moves.refl

theorem actTAnd_frame (a0 : Fin 32) (a1 : Fin 32) (a2 : Fin 32) (a3 : Bool) (a4 : State) : Moves [.od, .draws, .log, .can, .pdo, .link, .mem, .sched, .tabor] a4 (actTAnd a0 a1 a2 a3 a4) := by
  unfold actTAnd
  with_reducible apply Moves.app (alu2_frame ..); decide
  apply Moves.refl

theorem actTAndi_frame (a0 : Fin 32) (a1 : Fin 32) (a2 : BitVec 16) (a3 : State) : Moves [.od, .draws, .log, .can, .pdo, .link, .mem, .sched, .tabor] a3 (actTAndi a0 a1 a2 a3) := by
  unfold actTAndi
  with_reducible apply Moves.app (aluImm_frame ..); decide
  apply Moves.refl

theorem actTAndn_frame (a0 : Fin 32) (a1 : Fin 32) (a2 : Fin 32) (a3 : Bool) (a4 : State) : Moves [.od, .draws, .log, .can, .pdo, .link, .mem, .sched, .tabor] a4 (actTAndn a0 a1 a2 a3 a4) := by
  unfold actTAndn
  with_reducible apply Moves.app (alu2_frame ..); decide
  apply Moves.refl

theorem branchTo_frame (a0 : State) (a1 : Word) (a2 : Bool) : Moves [.od, .draws, .log, .can, .pdo, .link, .mem, .sched, .tabor] a0 (branchTo a0 a1 a2) := by
  unfold branchTo
  with_reducible apply Moves.ite
  with_reducible apply Moves.app (instrFault_frame ..); decide
  apply Moves.refl
  with_reducible apply Moves.ite
  with_reducible apply Moves.app (retired_frame ..); decide
  apply Moves.refl
  with_reducible apply Moves.ite
  with_reducible apply Moves.app (instrFault_frame ..); decide
  apply Moves.refl
  with_reducible apply Moves.app (retireAt_frame ..); decide
  apply Moves.refl

theorem actTB_frame (a0 : Fin 16) (a1 : BitVec 22) (a2 : State) : Moves [.od, .draws, .log, .can, .pdo, .link, .mem, .sched, .tabor] a2 (actTB a0 a1 a2) := by
  unfold actTB
  with_reducible apply Moves.ite
  (with_reducible apply issue_frame) <;> first | decide | skip
  apply Moves.refl
  with_reducible intro _
  with_reducible apply Moves.app (illegal_frame ..); decide
  apply Moves.refl
  (with_reducible apply issue_frame) <;> first | decide | skip
  apply Moves.refl
  with_reducible intro _
  with_reducible apply Moves.app (branchTo_frame ..); decide
  apply Moves.refl

theorem callTo_frame (a0 : State) (a1 : Word) : Moves [.od, .draws, .log, .can, .pdo, .link, .mem, .sched, .tabor] a0 (callTo a0 a1) := by
  unfold callTo
  with_reducible apply Moves.ite
  with_reducible apply Moves.app (instrFault_frame ..); decide
  apply Moves.refl
  extract_lets +onlyGivenNames x; clear_value x
  extract_lets +onlyGivenNames x; clear_value x
  split
  with_reducible apply Moves.app (retireAt_frame ..); decide
  with_reducible apply Moves.app (State.setCore_frame ..); decide
  with_reducible apply Moves.of_pair; assumption
  with_reducible apply Moves.app (windowForward_frame ..); decide
  apply Moves.refl
  with_reducible apply Moves.of_pair; assumption
  with_reducible apply Moves.app (windowForward_frame ..); decide
  apply Moves.refl
  with_reducible apply Moves.app (instrFault_frame ..); decide
  with_reducible apply Moves.of_pair; assumption
  with_reducible apply Moves.app (windowForward_frame ..); decide
  apply Moves.refl

theorem actTCall_frame (a0 : BitVec 26) (a1 : State) : Moves [.od, .draws, .log, .can, .pdo, .link, .mem, .sched, .tabor] a1 (actTCall a0 a1) := by
  unfold actTCall
  (with_reducible apply issueUnlocked_frame) <;> first | decide | skip
  apply Moves.refl
  with_reducible intro _
  with_reducible apply Moves.app (callTo_frame ..); decide
  apply Moves.refl

theorem actTCallr_frame (a0 : Fin 32) (a1 : State) : Moves [.od, .draws, .log, .can, .pdo, .link, .mem, .sched, .tabor] a1 (actTCallr a0 a1) := by
  unfold actTCallr
  (with_reducible apply issueUnlocked_frame) <;> first | decide | skip
  apply Moves.refl
  with_reducible intro _
  with_reducible apply Moves.app (callTo_frame ..); decide
  apply Moves.refl

theorem alu1_frame (a0 : State) (a1 : Fin 32) (a2 : Fin 32) (a3 : Bool) (a4 : Word → Word) : Moves [.od, .draws, .log, .can, .pdo, .link, .mem, .sched, .tabor] a0 (alu1 a0 a1 a2 a3 a4) := by
  unfold alu1
  with_reducible apply Moves.app (alu_frame ..); decide
  apply Moves.refl

theorem actTClz_frame (a0 : Fin 32) (a1 : Fin 32) (a2 : Bool) (a3 : State) : Moves [.od, .draws, .log, .can, .pdo, .link, .mem, .sched, .tabor] a3 (actTClz a0 a1 a2 a3) := by
  unfold actTClz
  with_reducible apply Moves.app (alu1_frame ..); decide
  apply Moves.refl

theorem actTCmpi_frame (a0 : Fin 32) (a1 : BitVec 16) (a2 : State) : Moves [.od, .draws, .log, .can, .pdo, .link, .mem, .sched, .tabor] a2 (actTCmpi a0 a1 a2) := by
  unfold actTCmpi
  with_reducible apply Moves.app (alu_frame ..); decide
  apply Moves.refl

theorem issueUnit_frame {l : List Part} {a s : State} {srcs : List Nat} {f : State → Nat → State} (h : Moves l a s)
    (hf : ∀ t n, Moves l t (f t n)) (hr : ∀ p ∈ [Part.od, Part.draws, Part.log, Part.can, Part.pdo, Part.link, Part.mem, Part.sched, Part.tabor], p ∈ l) : Moves l a (issueUnit s srcs f) := by
  unfold issueUnit
  refine issueUnlocked_frame h (fun t => Moves.ite _ (hf t 0) ?_) (fun p hp => hr p (by revert p; decide))
  exact Moves.trans (Moves.update (Moves.refl _ t) (h_tabor := Or.inl (hr _ (by decide)))) (hf _ _)

theorem unitPoison_frame (a0 : State) : Moves [.od, .draws, .log, .can, .pdo, .link, .mem, .sched, .tabor] a0 (unitPoison a0) := by
  unfold unitPoison
  with_reducible apply Moves.app (boundaryHalt_frame ..); decide
  with_reducible apply Moves.app (takeException_frame ..); decide
  apply Moves.refl

theorem unitEnds_frame (a0 : State) (a1 : Nat) (a2 : Bool) : Moves [.od, .draws, .log, .can, .pdo, .link, .mem, .sched, .tabor] a0 (unitEnds a0 a1 a2) := by
  unfold unitEnds
  with_reducible apply Moves.ite
  with_reducible apply Moves.app (retired_frame ..); decide
  apply Moves.refl
  with_reducible apply Moves.app (settleBudget_frame ..); decide
  with_reducible apply Moves.app (boundaryHalt_frame ..); decide
  with_reducible apply Moves.app (State.setCore_frame ..); decide
  apply Moves.refl

theorem cmpsUnit_frame (a0 : State) (a1 : Nat) : Moves [.od, .draws, .log, .can, .pdo, .link, .mem, .sched, .tabor] a0 (cmpsUnit a0 a1) := by
  unfold cmpsUnit
  with_reducible apply Moves.ite
  with_reducible apply Moves.app (retired_frame ..); decide
  with_reducible apply Moves.app (State.setCore_frame ..); decide
  apply Moves.refl
  extract_lets +onlyGivenNames x; clear_value x
  split
  with_reducible apply Moves.of_pair; assumption
  with_reducible apply Moves.app (loadBytes_frame ..); decide
  apply Moves.refl
  with_reducible apply Moves.app (unitPoison_frame ..); decide
  with_reducible apply Moves.of_pair; assumption
  with_reducible apply Moves.app (loadBytes_frame ..); decide
  apply Moves.refl
  split
  with_reducible apply Moves.of_pair; assumption
  with_reducible apply Moves.app (loadBytes_frame ..); decide
  with_reducible apply Moves.of_pair; assumption
  with_reducible apply Moves.app (loadBytes_frame ..); decide
  apply Moves.refl
  with_reducible apply Moves.app (unitPoison_frame ..); decide
  with_reducible apply Moves.of_pair; assumption
  with_reducible apply Moves.app (loadBytes_frame ..); decide
  with_reducible apply Moves.of_pair; assumption
  with_reducible apply Moves.app (loadBytes_frame ..); decide
  apply Moves.refl
  split
  with_reducible apply Moves.app (unitEnds_frame ..); decide
  with_reducible apply Moves.app (State.setCore_frame ..); decide
  with_reducible apply Moves.of_pair; assumption
  with_reducible apply Moves.app (loadBytes_frame ..); decide
  with_reducible apply Moves.of_pair; assumption
  with_reducible apply Moves.app (loadBytes_frame ..); decide
  apply Moves.refl
  extract_lets +onlyGivenNames x; clear_value x
  extract_lets +onlyGivenNames x; clear_value x
  with_reducible apply Moves.app (unitEnds_frame ..); decide
  with_reducible apply Moves.app (State.setCore_frame ..); decide
  with_reducible apply Moves.of_pair; assumption
  with_reducible apply Moves.app (loadBytes_frame ..); decide
  with_reducible apply Moves.of_pair; assumption
  with_reducible apply Moves.app (loadBytes_frame ..); decide
  apply Moves.refl

theorem actTCmps_frame (a0 : State) : Moves [.od, .draws, .log, .can, .pdo, .link, .mem, .sched, .tabor] a0 (actTCmps a0) := by
  unfold actTCmps
  (with_reducible apply issueUnit_frame) <;> first | decide | skip
  apply Moves.refl
  with_reducible intro _
  with_reducible intro _
  with_reducible apply Moves.app (cmpsUnit_frame ..); decide
  apply Moves.refl

theorem fillsUnit_frame (a0 : Nat) (a1 : State) (a2 : Nat) : Moves [.od, .draws, .log, .can, .pdo, .link, .mem, .sched, .tabor] a1 (fillsUnit a0 a1 a2) := by
  unfold fillsUnit
  with_reducible apply Moves.ite
  with_reducible apply Moves.app (retired_frame ..); decide
  apply Moves.refl
  extract_lets +onlyGivenNames x; clear_value x
  split
  with_reducible apply Moves.of_pair; assumption
  with_reducible apply Moves.app (storeBytes_frame ..); decide
  apply Moves.refl
  focus
    extract_lets +onlyGivenNames x; refine Moves.use x ?_ (fun hx => ?_); unfold x; clear x; rotate_left; clear_value x; rotate_right
  with_reducible apply Moves.app (State.setCore_frame ..); decide
  with_reducible apply Moves.of_pair; assumption
  with_reducible apply Moves.app (storeBytes_frame ..); decide
  apply Moves.refl
  with_reducible apply Moves.app (unitEnds_frame ..); decide
  assumption

theorem actTFills_frame (a0 : Fin 32) (a1 : State) : Moves [.od, .draws, .log, .can, .pdo, .link, .mem, .sched, .tabor] a1 (actTFills a0 a1) := by
  unfold actTFills
  (with_reducible apply issueUnit_frame) <;> first | decide | skip
  apply Moves.refl
  with_reducible intro _
  with_reducible intro _
  with_reducible apply Moves.app (fillsUnit_frame ..); decide
  apply Moves.refl

theorem actTSub_frame (a0 : Fin 32) (a1 : Fin 32) (a2 : Fin 32) (a3 : Bool) (a4 : State) : Moves [.od, .draws, .log, .can, .pdo, .link, .mem, .sched, .tabor] a4 (actTSub a0 a1 a2 a3 a4) := by
  unfold actTSub
  with_reducible apply Moves.app (alu2_frame ..); decide
  apply Moves.refl

theorem actTSubc_frame (a0 : Fin 32) (a1 : Fin 32) (a2 : Fin 32) (a3 : Bool) (a4 : State) : Moves [.od, .draws, .log, .can, .pdo, .link, .mem, .sched, .tabor] a4 (actTSubc a0 a1 a2 a3 a4) := by
  unfold actTSubc
  with_reducible apply Moves.app (alu2_frame ..); decide
  apply Moves.refl

theorem actTSubs_frame (a0 : Fin 32) (a1 : Fin 32) (a2 : Fin 32) (a3 : Bool) (a4 : State) : Moves [.od, .draws, .log, .can, .pdo, .link, .mem, .sched, .tabor] a4 (actTSubs a0 a1 a2 a3 a4) := by
  unfold actTSubs
  with_reducible apply Moves.app (alu2_frame ..); decide
  apply Moves.refl

theorem actTOr_frame (a0 : Fin 32) (a1 : Fin 32) (a2 : Fin 32) (a3 : Bool) (a4 : State) : Moves [.od, .draws, .log, .can, .pdo, .link, .mem, .sched, .tabor] a4 (actTOr a0 a1 a2 a3 a4) := by
  unfold actTOr
  with_reducible apply Moves.app (alu2_frame ..); decide
  apply Moves.refl

theorem actTXor_frame (a0 : Fin 32) (a1 : Fin 32) (a2 : Fin 32) (a3 : Bool) (a4 : State) : Moves [.od, .draws, .log, .can, .pdo, .link, .mem, .sched, .tabor] a4 (actTXor a0 a1 a2 a3 a4) := by
  unfold actTXor
  with_reducible apply Moves.app (alu2_frame ..); decide
  apply Moves.refl

theorem actTShl_frame (a0 : Fin 32) (a1 : Fin 32) (a2 : Fin 32) (a3 : Bool) (a4 : State) : Moves [.od, .draws, .log, .can, .pdo, .link, .mem, .sched, .tabor] a4 (actTShl a0 a1 a2 a3 a4) := by
  unfold actTShl
  with_reducible apply Moves.app (alu2_frame ..); decide
  apply Moves.refl

theorem actTShr_frame (a0 : Fin 32) (a1 : Fin 32) (a2 : Fin 32) (a3 : Bool) (a4 : State) : Moves [.od, .draws, .log, .can, .pdo, .link, .mem, .sched, .tabor] a4 (actTShr a0 a1 a2 a3 a4) := by
  unfold actTShr
  with_reducible apply Moves.app (alu2_frame ..); decide
  apply Moves.refl

theorem actTSar_frame (a0 : Fin 32) (a1 : Fin 32) (a2 : Fin 32) (a3 : Bool) (a4 : State) : Moves [.od, .draws, .log, .can, .pdo, .link, .mem, .sched, .tabor] a4 (actTSar a0 a1 a2 a3 a4) := by
  unfold actTSar
  with_reducible apply Moves.app (alu2_frame ..); decide
  apply Moves.refl

theorem actTRor_frame (a0 : Fin 32) (a1 : Fin 32) (a2 : Fin 32) (a3 : Bool) (a4 : State) : Moves [.od, .draws, .log, .can, .pdo, .link, .mem, .sched, .tabor] a4 (actTRor a0 a1 a2 a3 a4) := by
  unfold actTRor
  with_reducible apply Moves.app (alu2_frame ..); decide
  apply Moves.refl

theorem actTMin_frame (a0 : Fin 32) (a1 : Fin 32) (a2 : Fin 32) (a3 : Bool) (a4 : State) : Moves [.od, .draws, .log, .can, .pdo, .link, .mem, .sched, .tabor] a4 (actTMin a0 a1 a2 a3 a4) := by
  unfold actTMin
  with_reducible apply Moves.app (alu2_frame ..); decide
  apply Moves.refl

theorem actTMax_frame (a0 : Fin 32) (a1 : Fin 32) (a2 : Fin 32) (a3 : Bool) (a4 : State) : Moves [.od, .draws, .log, .can, .pdo, .link, .mem, .sched, .tabor] a4 (actTMax a0 a1 a2 a3 a4) := by
  unfold actTMax
  with_reducible apply Moves.app (alu2_frame ..); decide
  apply Moves.refl

theorem actTMinu_frame (a0 : Fin 32) (a1 : Fin 32) (a2 : Fin 32) (a3 : Bool) (a4 : State) : Moves [.od, .draws, .log, .can, .pdo, .link, .mem, .sched, .tabor] a4 (actTMinu a0 a1 a2 a3 a4) := by
  unfold actTMinu
  with_reducible apply Moves.app (alu2_frame ..); decide
  apply Moves.refl

theorem actTMaxu_frame (a0 : Fin 32) (a1 : Fin 32) (a2 : Fin 32) (a3 : Bool) (a4 : State) : Moves [.od, .draws, .log, .can, .pdo, .link, .mem, .sched, .tabor] a4 (actTMaxu a0 a1 a2 a3 a4) := by
  unfold actTMaxu
  with_reducible apply Moves.app (alu2_frame ..); decide
  apply Moves.refl

theorem actTSextb_frame (a0 : Fin 32) (a1 : Fin 32) (a2 : Bool) (a3 : State) : Moves [.od, .draws, .log, .can, .pdo, .link, .mem, .sched, .tabor] a3 (actTSextb a0 a1 a2 a3) := by
  unfold actTSextb
  with_reducible apply Moves.app (alu1_frame ..); decide
  apply Moves.refl

theorem actTSexth_frame (a0 : Fin 32) (a1 : Fin 32) (a2 : Bool) (a3 : State) : Moves [.od, .draws, .log, .can, .pdo, .link, .mem, .sched, .tabor] a3 (actTSexth a0 a1 a2 a3) := by
  unfold actTSexth
  with_reducible apply Moves.app (alu1_frame ..); decide
  apply Moves.refl

theorem actTZextb_frame (a0 : Fin 32) (a1 : Fin 32) (a2 : Bool) (a3 : State) : Moves [.od, .draws, .log, .can, .pdo, .link, .mem, .sched, .tabor] a3 (actTZextb a0 a1 a2 a3) := by
  unfold actTZextb
  with_reducible apply Moves.app (alu1_frame ..); decide
  apply Moves.refl

theorem actTZexth_frame (a0 : Fin 32) (a1 : Fin 32) (a2 : Bool) (a3 : State) : Moves [.od, .draws, .log, .can, .pdo, .link, .mem, .sched, .tabor] a3 (actTZexth a0 a1 a2 a3) := by
  unfold actTZexth
  with_reducible apply Moves.app (alu1_frame ..); decide
  apply Moves.refl

theorem multiply_frame (a0 : State) (a1 : Fin 32) (a2 : Fin 32) (a3 : Word → Word → MulWrite) : Moves [.od, .draws, .log, .can, .pdo, .link, .mem, .sched, .tabor] a0 (multiply a0 a1 a2 a3) := by
  unfold multiply
  (with_reducible apply issueUnlocked_frame) <;> first | decide | skip
  apply Moves.refl
  with_reducible intro _
  extract_lets +onlyGivenNames x; clear_value x
  with_reducible apply Moves.app (retired_frame ..); decide
  with_reducible apply Moves.app (State.setCore_frame ..); decide
  apply Moves.refl

theorem actTMul_frame (a0 : Fin 32) (a1 : Fin 32) (a2 : State) : Moves [.od, .draws, .log, .can, .pdo, .link, .mem, .sched, .tabor] a2 (actTMul a0 a1 a2) := by
  unfold actTMul
  with_reducible apply Moves.app (multiply_frame ..); decide
  apply Moves.refl

theorem actTMulu_frame (a0 : Fin 32) (a1 : Fin 32) (a2 : State) : Moves [.od, .draws, .log, .can, .pdo, .link, .mem, .sched, .tabor] a2 (actTMulu a0 a1 a2) := by
  unfold actTMulu
  with_reducible apply Moves.app (multiply_frame ..); decide
  apply Moves.refl

theorem actTMac_frame (a0 : Fin 32) (a1 : Fin 32) (a2 : State) : Moves [.od, .draws, .log, .can, .pdo, .link, .mem, .sched, .tabor] a2 (actTMac a0 a1 a2) := by
  unfold actTMac
  with_reducible apply Moves.app (multiply_frame ..); decide
  apply Moves.refl

theorem actTMacu_frame (a0 : Fin 32) (a1 : Fin 32) (a2 : State) : Moves [.od, .draws, .log, .can, .pdo, .link, .mem, .sched, .tabor] a2 (actTMacu a0 a1 a2) := by
  unfold actTMacu
  with_reducible apply Moves.app (multiply_frame ..); decide
  apply Moves.refl

theorem actTMsu_frame (a0 : Fin 32) (a1 : Fin 32) (a2 : State) : Moves [.od, .draws, .log, .can, .pdo, .link, .mem, .sched, .tabor] a2 (actTMsu a0 a1 a2) := by
  unfold actTMsu
  with_reducible apply Moves.app (multiply_frame ..); decide
  apply Moves.refl

theorem actTMsuu_frame (a0 : Fin 32) (a1 : Fin 32) (a2 : State) : Moves [.od, .draws, .log, .can, .pdo, .link, .mem, .sched, .tabor] a2 (actTMsuu a0 a1 a2) := by
  unfold actTMsuu
  with_reducible apply Moves.app (multiply_frame ..); decide
  apply Moves.refl

theorem actTOri_frame (a0 : Fin 32) (a1 : Fin 32) (a2 : BitVec 16) (a3 : State) : Moves [.od, .draws, .log, .can, .pdo, .link, .mem, .sched, .tabor] a3 (actTOri a0 a1 a2 a3) := by
  unfold actTOri
  with_reducible apply Moves.app (aluImm_frame ..); decide
  apply Moves.refl

theorem actTXori_frame (a0 : Fin 32) (a1 : Fin 32) (a2 : BitVec 16) (a3 : State) : Moves [.od, .draws, .log, .can, .pdo, .link, .mem, .sched, .tabor] a3 (actTXori a0 a1 a2 a3) := by
  unfold actTXori
  with_reducible apply Moves.app (aluImm_frame ..); decide
  apply Moves.refl

theorem actTShi_frame (a0 : Fin 32) (a1 : Fin 32) (a2 : Fin 4) (a3 : Fin 32) (a4 : State) : Moves [.od, .draws, .log, .can, .pdo, .link, .mem, .sched, .tabor] a4 (actTShi a0 a1 a2 a3 a4) := by
  unfold actTShi
  with_reducible apply Moves.app (aluImm_frame ..); decide
  apply Moves.refl

theorem actTLui_frame (a0 : Fin 32) (a1 : BitVec 16) (a2 : State) : Moves [.od, .draws, .log, .can, .pdo, .link, .mem, .sched, .tabor] a2 (actTLui a0 a1 a2) := by
  unfold actTLui
  with_reducible apply Moves.app (aluImm_frame ..); decide
  apply Moves.refl

theorem actTTsti_frame (a0 : Fin 32) (a1 : BitVec 16) (a2 : State) : Moves [.od, .draws, .log, .can, .pdo, .link, .mem, .sched, .tabor] a2 (actTTsti a0 a1 a2) := by
  unfold actTTsti
  with_reducible apply Moves.app (alu_frame ..); decide
  apply Moves.refl

theorem loadInto_frame (a0 : State) (a1 : Fin 32) (a2 : BitVec 16) (a3 : Nat) (a4 : List Nat) (a5 : List Nat → Core → Core) : Moves [.od, .draws, .log, .can, .pdo, .link, .mem, .sched, .tabor] a0 (loadInto a0 a1 a2 a3 a4 a5) := by
  unfold loadInto
  (with_reducible apply issue_frame) <;> first | decide | skip
  apply Moves.refl
  with_reducible intro _
  extract_lets +onlyGivenNames x; clear_value x
  with_reducible apply Moves.ite
  with_reducible apply Moves.app (instrFault_frame ..); decide
  apply Moves.refl
  split
  with_reducible apply Moves.of_pair; assumption
  with_reducible apply Moves.app (loadBytes_frame ..); decide
  apply Moves.refl
  with_reducible apply Moves.app (poisonedLoad_frame ..); decide
  with_reducible apply Moves.of_pair; assumption
  with_reducible apply Moves.app (loadBytes_frame ..); decide
  apply Moves.refl
  extract_lets +onlyGivenNames x; clear_value x
  extract_lets +onlyGivenNames x; clear_value x
  with_reducible apply Moves.app (retired_frame ..); decide
  with_reducible apply Moves.app (State.setCore_frame ..); decide
  with_reducible apply Moves.of_pair; assumption
  with_reducible apply Moves.app (loadBytes_frame ..); decide
  apply Moves.refl

theorem load_frame (a0 : State) (a1 : Fin 32) (a2 : Fin 32) (a3 : BitVec 16) (a4 : Nat) (a5 : Bool) : Moves [.od, .draws, .log, .can, .pdo, .link, .mem, .sched, .tabor] a0 (load a0 a1 a2 a3 a4 a5) := by
  unfold load
  with_reducible apply Moves.app (loadInto_frame ..); decide
  apply Moves.refl

theorem actTLdw_frame (a0 : Fin 32) (a1 : Fin 32) (a2 : BitVec 16) (a3 : State) : Moves [.od, .draws, .log, .can, .pdo, .link, .mem, .sched, .tabor] a3 (actTLdw a0 a1 a2 a3) := by
  unfold actTLdw
  with_reducible apply Moves.app (load_frame ..); decide
  apply Moves.refl

theorem actTLdh_frame (a0 : Fin 32) (a1 : Fin 32) (a2 : BitVec 16) (a3 : State) : Moves [.od, .draws, .log, .can, .pdo, .link, .mem, .sched, .tabor] a3 (actTLdh a0 a1 a2 a3) := by
  unfold actTLdh
  with_reducible apply Moves.app (load_frame ..); decide
  apply Moves.refl

theorem actTLdhu_frame (a0 : Fin 32) (a1 : Fin 32) (a2 : BitVec 16) (a3 : State) : Moves [.od, .draws, .log, .can, .pdo, .link, .mem, .sched, .tabor] a3 (actTLdhu a0 a1 a2 a3) := by
  unfold actTLdhu
  with_reducible apply Moves.app (load_frame ..); decide
  apply Moves.refl

theorem actTLdb_frame (a0 : Fin 32) (a1 : Fin 32) (a2 : BitVec 16) (a3 : State) : Moves [.od, .draws, .log, .can, .pdo, .link, .mem, .sched, .tabor] a3 (actTLdb a0 a1 a2 a3) := by
  unfold actTLdb
  with_reducible apply Moves.app (load_frame ..); decide
  apply Moves.refl

theorem actTLdbu_frame (a0 : Fin 32) (a1 : Fin 32) (a2 : BitVec 16) (a3 : State) : Moves [.od, .draws, .log, .can, .pdo, .link, .mem, .sched, .tabor] a3 (actTLdbu a0 a1 a2 a3) := by
  unfold actTLdbu
  with_reducible apply Moves.app (load_frame ..); decide
  apply Moves.refl

theorem actTLdd_frame (a0 : Fin 32) (a1 : Fin 32) (a2 : BitVec 16) (a3 : State) : Moves [.od, .draws, .log, .can, .pdo, .link, .mem, .sched, .tabor] a3 (actTLdd a0 a1 a2 a3) := by
  unfold actTLdd
  with_reducible apply Moves.ite
  (with_reducible apply issue_frame) <;> first | decide | skip
  apply Moves.refl
  with_reducible intro _
  with_reducible apply Moves.app (illegal_frame ..); decide
  apply Moves.refl
  with_reducible apply Moves.app (loadInto_frame ..); decide
  apply Moves.refl

theorem storeFrom_frame (a0 : State) (a1 : Fin 32) (a2 : BitVec 16) (a3 : Nat) (a4 : List Nat) (a5 : Core → Nat) : Moves [.od, .draws, .log, .can, .pdo, .link, .mem, .sched, .tabor] a0 (storeFrom a0 a1 a2 a3 a4 a5) := by
  unfold storeFrom
  (with_reducible apply issue_frame) <;> first | decide | skip
  apply Moves.refl
  with_reducible intro _
  extract_lets +onlyGivenNames x; clear_value x
  with_reducible apply Moves.ite
  with_reducible apply Moves.app (instrFault_frame ..); decide
  apply Moves.refl
  split
  with_reducible apply Moves.of_pair; assumption
  with_reducible apply Moves.app (storeBytes_frame ..); decide
  apply Moves.refl
  with_reducible apply Moves.app (retired_frame ..); decide
  with_reducible apply Moves.of_pair; assumption
  with_reducible apply Moves.app (storeBytes_frame ..); decide
  apply Moves.refl

theorem actTStw_frame (a0 : Fin 32) (a1 : Fin 32) (a2 : BitVec 16) (a3 : State) : Moves [.od, .draws, .log, .can, .pdo, .link, .mem, .sched, .tabor] a3 (actTStw a0 a1 a2 a3) := by
  unfold actTStw
  with_reducible apply Moves.app (storeFrom_frame ..); decide
  apply Moves.refl

theorem actTSth_frame (a0 : Fin 32) (a1 : Fin 32) (a2 : BitVec 16) (a3 : State) : Moves [.od, .draws, .log, .can, .pdo, .link, .mem, .sched, .tabor] a3 (actTSth a0 a1 a2 a3) := by
  unfold actTSth
  with_reducible apply Moves.app (storeFrom_frame ..); decide
  apply Moves.refl

theorem actTStb_frame (a0 : Fin 32) (a1 : Fin 32) (a2 : BitVec 16) (a3 : State) : Moves [.od, .draws, .log, .can, .pdo, .link, .mem, .sched, .tabor] a3 (actTStb a0 a1 a2 a3) := by
  unfold actTStb
  with_reducible apply Moves.app (storeFrom_frame ..); decide
  apply Moves.refl

theorem actTStd_frame (a0 : Fin 32) (a1 : Fin 32) (a2 : BitVec 16) (a3 : State) : Moves [.od, .draws, .log, .can, .pdo, .link, .mem, .sched, .tabor] a3 (actTStd a0 a1 a2 a3) := by
  unfold actTStd
  with_reducible apply Moves.ite
  (with_reducible apply issue_frame) <;> first | decide | skip
  apply Moves.refl
  with_reducible intro _
  with_reducible apply Moves.app (illegal_frame ..); decide
  apply Moves.refl
  with_reducible apply Moves.app (storeFrom_frame ..); decide
  apply Moves.refl

theorem actTNop_frame (a0 : State) : Moves [.od, .draws, .log, .can, .pdo, .link, .mem, .sched, .tabor] a0 (actTNop a0) := by
  unfold actTNop
  (with_reducible apply issue_frame) <;> first | decide | skip
  apply Moves.refl
  with_reducible intro _
  with_reducible apply Moves.app (retired_frame ..); decide
  apply Moves.refl

theorem actTMfs_frame (a0 : Fin 32) (a1 : BitVec 8) (a2 : State) : Moves [.od, .draws, .log, .can, .pdo, .link, .mem, .sched, .tabor] a2 (actTMfs a0 a1 a2) := by
  unfold actTMfs
  with_reducible apply Moves.ite
  (with_reducible apply issue_frame) <;> first | decide | skip
  apply Moves.refl
  with_reducible intro _
  with_reducible apply Moves.app (illegal_frame ..); decide
  apply Moves.refl
  (with_reducible apply issue_frame) <;> first | decide | skip
  apply Moves.refl
  with_reducible intro _
  extract_lets +onlyGivenNames x; clear_value x
  with_reducible apply Moves.ite
  with_reducible apply Moves.app (instrFault_frame ..); decide
  apply Moves.refl
  with_reducible apply Moves.app (retired_frame ..); decide
  with_reducible apply Moves.app (State.setCore_frame ..); decide
  apply Moves.refl

theorem actTMts_frame (a0 : BitVec 8) (a1 : Fin 32) (a2 : State) : Moves [.od, .draws, .log, .can, .pdo, .link, .mem, .sched, .tabor] a2 (actTMts a0 a1 a2) := by
  unfold actTMts
  with_reducible apply Moves.ite
  (with_reducible apply issue_frame) <;> first | decide | skip
  apply Moves.refl
  with_reducible intro _
  with_reducible apply Moves.app (illegal_frame ..); decide
  apply Moves.refl
  (with_reducible apply issueUnlocked_frame) <;> first | decide | skip
  apply Moves.refl
  with_reducible intro _
  extract_lets +onlyGivenNames x; clear_value x
  with_reducible apply Moves.ite
  with_reducible apply Moves.app (instrFault_frame ..); decide
  apply Moves.refl
  split
  with_reducible apply Moves.app (settleBudget_frame ..); decide
  with_reducible apply Moves.app (boundaryHalt_frame ..); decide
  with_reducible apply Moves.of_pair; assumption
  with_reducible apply Moves.app (advance_frame ..); decide
  with_reducible apply Moves.app (State.setCore_frame ..); decide
  apply Moves.refl

theorem actTJr_frame (a0 : Fin 32) (a1 : State) : Moves [.od, .draws, .log, .can, .pdo, .link, .mem, .sched, .tabor] a1 (actTJr a0 a1) := by
  unfold actTJr
  (with_reducible apply issue_frame) <;> first | decide | skip
  apply Moves.refl
  with_reducible intro _
  with_reducible apply Moves.app (branchTo_frame ..); decide
  apply Moves.refl

theorem returnTo_frame (a0 : State) (a1 : Word) (a2 : Nat) (a3 : Core → Core) : Moves [.od, .draws, .log, .can, .pdo, .link, .mem, .sched, .tabor] a0 (returnTo a0 a1 a2 a3) := by
  unfold returnTo
  extract_lets +onlyGivenNames x; clear_value x
  split
  with_reducible apply Moves.app (retireAt_frame ..); decide
  with_reducible apply Moves.app (State.setCore_frame ..); decide
  with_reducible apply Moves.of_pair; assumption
  with_reducible apply Moves.app (windowBack_frame ..); decide
  apply Moves.refl
  with_reducible apply Moves.of_pair; assumption
  with_reducible apply Moves.app (windowBack_frame ..); decide
  apply Moves.refl
  with_reducible apply Moves.app (instrFault_frame ..); decide
  with_reducible apply Moves.of_pair; assumption
  with_reducible apply Moves.app (windowBack_frame ..); decide
  apply Moves.refl

theorem actTRet_frame (a0 : State) : Moves [.od, .draws, .log, .can, .pdo, .link, .mem, .sched, .tabor] a0 (actTRet a0) := by
  unfold actTRet
  (with_reducible apply issueUnlocked_frame) <;> first | decide | skip
  apply Moves.refl
  with_reducible intro _
  extract_lets +onlyGivenNames x; clear_value x
  with_reducible apply Moves.ite
  with_reducible apply Moves.app (instrFault_frame ..); decide
  apply Moves.refl
  with_reducible apply Moves.app (returnTo_frame ..); decide
  apply Moves.refl

theorem trapEntry_frame (a0 : State) (a1 : Nat) (a2 : Nat) (a3 : Nat) (a4 : Word) : Moves [.od, .draws, .log, .can, .pdo, .link, .mem, .sched, .tabor] a0 (trapEntry a0 a1 a2 a3 a4) := by
  unfold trapEntry
  extract_lets +onlyGivenNames x; clear_value x
  focus
    extract_lets +onlyGivenNames x; refine Moves.use x ?_ (fun hx => ?_); unfold x; clear x; rotate_left; clear_value x; rotate_right
  with_reducible apply Moves.app (takeException_frame ..); decide
  with_reducible apply Moves.app (State.setCore_frame ..); decide
  apply Moves.refl
  with_reducible apply Moves.ite
  extract_lets +onlyGivenNames x; clear_value x
  focus
    extract_lets +onlyGivenNames x; refine Moves.use x ?_ (fun hx => ?_); unfold x; clear x; rotate_left; clear_value x; rotate_right
  with_reducible apply Moves.app (State.setCore_frame ..); decide
  assumption
  with_reducible apply Moves.app (settleBudget_frame ..); decide
  with_reducible apply Moves.app (boundaryHalt_frame ..); decide
  with_reducible apply Moves.ite
  with_reducible apply Moves.app (activationEnds_frame ..); decide
  assumption
  assumption
  with_reducible apply Moves.app (boundaryHalt_frame ..); decide
  assumption

theorem systemRete_frame (a0 : State) : Moves [.od, .draws, .log, .can, .pdo, .link, .mem, .sched, .tabor] a0 (systemRete a0) := by
  unfold systemRete
  extract_lets +onlyGivenNames x; clear_value x
  with_reducible apply Moves.ite
  with_reducible apply Moves.app (instrFault_frame ..); decide
  apply Moves.refl
  with_reducible apply Moves.ite
  with_reducible apply Moves.app (retireAt_frame ..); decide
  with_reducible apply Moves.app (State.setCore_frame ..); decide
  apply Moves.refl
  with_reducible apply Moves.app (returnTo_frame ..); decide
  apply Moves.refl

theorem actTRete_frame (a0 : State) : Moves [.od, .draws, .log, .can, .pdo, .link, .mem, .sched, .tabor] a0 (actTRete a0) := by
  unfold actTRete
  (with_reducible apply issueUnlocked_frame) <;> first | decide | skip
  apply Moves.refl
  with_reducible intro _
  with_reducible apply Moves.ite
  with_reducible apply Moves.app (trapEntry_frame ..); decide
  apply Moves.refl
  with_reducible apply Moves.app (systemRete_frame ..); decide
  apply Moves.refl

theorem actTTrap_frame (a0 : BitVec 8) (a1 : State) : Moves [.od, .draws, .log, .can, .pdo, .link, .mem, .sched, .tabor] a1 (actTTrap a0 a1) := by
  unfold actTTrap
  (with_reducible apply issueUnlocked_frame) <;> first | decide | skip
  apply Moves.refl
  with_reducible intro _
  extract_lets +onlyGivenNames x; clear_value x
  with_reducible apply Moves.app (trapEntry_frame ..); decide
  apply Moves.refl

theorem actTWait_frame (a0 : State) : Moves [.od, .draws, .log, .can, .pdo, .link, .mem, .sched, .tabor] a0 (actTWait a0) := by
  unfold actTWait
  (with_reducible apply issueUnlocked_frame) <;> first | decide | skip
  apply Moves.refl
  with_reducible intro _
  with_reducible apply Moves.ite
  with_reducible apply Moves.app (instrFault_frame ..); decide
  apply Moves.refl
  with_reducible apply Moves.ite
  with_reducible apply Moves.app (retired_frame ..); decide
  apply Moves.refl
  focus
    extract_lets +onlyGivenNames x; refine Moves.use x ?_ (fun hx => ?_); unfold x; clear x; rotate_left; clear_value x; rotate_right
  with_reducible apply Moves.app (State.setCore_frame ..); decide
  apply Moves.refl
  refine Moves.update ?_
  assumption

theorem lockBegins_frame (a0 : State) (a1 : Nat) : Moves [.mem, .tabor] a0 (lockBegins a0 a1) := by
  unfold lockBegins
  extract_lets +onlyGivenNames x; clear_value x
  extract_lets +onlyGivenNames x; clear_value x
  split
  with_reducible apply Moves.app (State.setCore_frame ..); decide
  with_reducible apply Moves.of_pair; assumption
  with_reducible apply Moves.app (advance_frame ..); decide
  apply Moves.refl

theorem actTLock_frame (a0 : BitVec 8) (a1 : State) : Moves [.od, .draws, .log, .can, .pdo, .link, .mem, .sched, .tabor] a1 (actTLock a0 a1) := by
  unfold actTLock
  with_reducible apply Moves.ite
  (with_reducible apply issue_frame) <;> first | decide | skip
  apply Moves.refl
  with_reducible intro _
  with_reducible apply Moves.app (illegal_frame ..); decide
  apply Moves.refl
  (with_reducible apply issueUnlocked_frame) <;> first | decide | skip
  apply Moves.refl
  with_reducible intro _
  with_reducible apply Moves.ite
  with_reducible apply Moves.app (instrFault_frame ..); decide
  apply Moves.refl
  with_reducible apply Moves.app (lockBegins_frame ..); decide
  apply Moves.refl

theorem actTRpt_frame (a0 : Fin 32) (a1 : BitVec 8) (a2 : State) : Moves [.od, .draws, .log, .can, .pdo, .link, .mem, .sched, .tabor] a2 (actTRpt a0 a1 a2) := by
  unfold actTRpt
  (with_reducible apply issueUnlocked_frame) <;> first | decide | skip
  apply Moves.refl
  with_reducible intro _
  extract_lets +onlyGivenNames x; clear_value x
  with_reducible apply Moves.app (retired_frame ..); decide
  with_reducible apply Moves.app (State.setCore_frame ..); decide
  apply Moves.refl

theorem actTMpur_frame (a0 : Fin 32) (a1 : BitVec 8) (a2 : State) : Moves [.od, .draws, .log, .can, .pdo, .link, .mem, .sched, .tabor] a2 (actTMpur a0 a1 a2) := by
  unfold actTMpur
  with_reducible apply Moves.ite
  (with_reducible apply issue_frame) <;> first | decide | skip
  apply Moves.refl
  with_reducible intro _
  with_reducible apply Moves.app (illegal_frame ..); decide
  apply Moves.refl
  (with_reducible apply issue_frame) <;> first | decide | skip
  apply Moves.refl
  with_reducible intro _
  with_reducible apply Moves.ite
  with_reducible apply Moves.app (instrFault_frame ..); decide
  apply Moves.refl
  with_reducible apply Moves.app (retired_frame ..); decide
  with_reducible apply Moves.app (State.setCore_frame ..); decide
  apply Moves.refl

theorem actTMpuw_frame (a0 : BitVec 8) (a1 : Fin 32) (a2 : State) : Moves [.od, .draws, .log, .can, .pdo, .link, .mem, .sched, .tabor] a2 (actTMpuw a0 a1 a2) := by
  unfold actTMpuw
  with_reducible apply Moves.ite
  (with_reducible apply issue_frame) <;> first | decide | skip
  apply Moves.refl
  with_reducible intro _
  with_reducible apply Moves.app (illegal_frame ..); decide
  apply Moves.refl
  (with_reducible apply issueUnlocked_frame) <;> first | decide | skip
  apply Moves.refl
  with_reducible intro _
  with_reducible apply Moves.ite
  with_reducible apply Moves.app (instrFault_frame ..); decide
  apply Moves.refl
  with_reducible apply Moves.app (retired_frame ..); decide
  with_reducible apply Moves.app (State.setCore_frame ..); decide
  apply Moves.refl

theorem movsUnit_frame (a0 : State) (a1 : Nat) : Moves [.od, .draws, .log, .can, .pdo, .link, .mem, .sched, .tabor] a0 (movsUnit a0 a1) := by
  unfold movsUnit
  with_reducible apply Moves.ite
  with_reducible apply Moves.app (retired_frame ..); decide
  apply Moves.refl
  extract_lets +onlyGivenNames x; clear_value x
  split
  with_reducible apply Moves.of_pair; assumption
  with_reducible apply Moves.app (loadBytes_frame ..); decide
  apply Moves.refl
  with_reducible apply Moves.app (unitPoison_frame ..); decide
  with_reducible apply Moves.of_pair; assumption
  with_reducible apply Moves.app (loadBytes_frame ..); decide
  apply Moves.refl
  split
  with_reducible apply Moves.of_pair; assumption
  with_reducible apply Moves.app (storeBytes_frame ..); decide
  with_reducible apply Moves.of_pair; assumption
  with_reducible apply Moves.app (loadBytes_frame ..); decide
  apply Moves.refl
  focus
    extract_lets +onlyGivenNames x; refine Moves.use x ?_ (fun hx => ?_); unfold x; clear x; rotate_left; clear_value x; rotate_right
  with_reducible apply Moves.app (State.setCore_frame ..); decide
  with_reducible apply Moves.of_pair; assumption
  with_reducible apply Moves.app (storeBytes_frame ..); decide
  with_reducible apply Moves.of_pair; assumption
  with_reducible apply Moves.app (loadBytes_frame ..); decide
  apply Moves.refl
  with_reducible apply Moves.app (unitEnds_frame ..); decide
  assumption

theorem actTMovs_frame (a0 : State) : Moves [.od, .draws, .log, .can, .pdo, .link, .mem, .sched, .tabor] a0 (actTMovs a0) := by
  unfold actTMovs
  (with_reducible apply issueUnit_frame) <;> first | decide | skip
  apply Moves.refl
  with_reducible intro _
  with_reducible intro _
  with_reducible apply Moves.app (movsUnit_frame ..); decide
  apply Moves.refl

theorem objectFault_frame (a0 : State) (a1 : Status) : Moves [.od, .draws, .log, .can, .pdo, .link, .mem, .sched, .tabor] a0 (objectFault a0 a1) := by
  unfold objectFault
  with_reducible apply Moves.app (instrFault_frame ..); decide
  apply Moves.refl

theorem reachParts_frame (s : State) (l : List (Nat × Nat × Nat)) : Moves [.od, .draws, .log, .can, .pdo, .link, .mem, .sched, .tabor] s (reachParts s l).1 := by
  induction l generalizing s with
  | nil => exact Moves.refl _ _
  | cons p l ih =>
    unfold reachParts
    have h1 : Moves [.od, .draws, .log, .can, .pdo, .link, .mem, .sched, .tabor] s (coreAccess s p.1 p.2.2 .write).1 := (coreAccess_frame _ _ _ _).mono (by decide)
    split
    · exact (Moves.of_pair ‹_› h1).trans (ih _)
    · exact Moves.of_pair ‹_› h1

theorem storeParts_frame (s : State) (data : List Nat) (l : List (Nat × Nat × Nat)) : Moves [.od, .draws, .log, .can, .pdo, .link, .mem, .sched, .tabor] s (storeParts s data l).1 := by
  induction l generalizing s with
  | nil => exact Moves.refl _ _
  | cons p l ih =>
    unfold storeParts
    extract_lets b
    refine Moves.ite_fst _ (Moves.refl _ _) ?_
    have h1 : Moves [.od, .draws, .log, .can, .pdo, .link, .mem, .sched, .tabor] s (storeBytes s p.1 b).1 := (storeBytes_frame _ _ _).mono (by decide)
    split
    · exact (Moves.of_pair ‹_› h1).trans (ih _)
    · exact Moves.of_pair ‹_› h1

theorem osrUnit_frame (a0 : Nat) (a1 : State) (a2 : Nat) : Moves [.od, .live, .draws, .replies, .aocb, .beat, .store, .log, .can, .pdo, .link, .mem, .sched, .tabor, .sense, .touch, .reg, .seq, .pack, .thermal, .update, .test] a1 (osrUnit a0 a1 a2) := by
  unfold osrUnit
  extract_lets +onlyGivenNames x; clear_value x
  extract_lets +onlyGivenNames x; clear_value x
  extract_lets +onlyGivenNames x; clear_value x
  with_reducible apply Moves.ite
  with_reducible apply Moves.app (retired_frame ..); decide
  apply Moves.refl
  split
  with_reducible apply Moves.app (objectFault_frame ..); decide
  apply Moves.refl
  split
  with_reducible apply Moves.of_pair; assumption
  with_reducible apply Moves.app (reachParts_frame ..); decide
  apply Moves.refl
  split
  split
  with_reducible apply Moves.of_pair; assumption
  with_reducible apply Moves.app (storeParts_frame ..); decide
  with_reducible apply Moves.app (State.reply_frame ..); decide
  with_reducible apply Moves.of_pair; assumption
  with_reducible apply Moves.app (orwRequest_frame ..); decide
  with_reducible apply Moves.of_pair; assumption
  with_reducible apply Moves.app (reachParts_frame ..); decide
  apply Moves.refl
  focus
    extract_lets +onlyGivenNames x; refine Moves.use x ?_ (fun hx => ?_); unfold x; clear x; rotate_left; clear_value x; rotate_right
  with_reducible apply Moves.app (State.setCore_frame ..); decide
  with_reducible apply Moves.of_pair; assumption
  with_reducible apply Moves.app (storeParts_frame ..); decide
  with_reducible apply Moves.app (State.reply_frame ..); decide
  with_reducible apply Moves.of_pair; assumption
  with_reducible apply Moves.app (orwRequest_frame ..); decide
  with_reducible apply Moves.of_pair; assumption
  with_reducible apply Moves.app (reachParts_frame ..); decide
  apply Moves.refl
  with_reducible apply Moves.app (unitEnds_frame ..); decide
  assumption
  with_reducible apply Moves.app (objectFault_frame ..); decide
  with_reducible apply Moves.app (State.reply_frame ..); decide
  with_reducible apply Moves.of_pair; assumption
  with_reducible apply Moves.app (orwRequest_frame ..); decide
  with_reducible apply Moves.of_pair; assumption
  with_reducible apply Moves.app (reachParts_frame ..); decide
  apply Moves.refl
  with_reducible apply Moves.of_pair; assumption
  with_reducible apply Moves.app (orwRequest_frame ..); decide
  with_reducible apply Moves.of_pair; assumption
  with_reducible apply Moves.app (reachParts_frame ..); decide
  apply Moves.refl

theorem actTOsr_frame (a0 : Fin 32) (a1 : State) : Moves [.od, .live, .draws, .replies, .aocb, .beat, .store, .log, .can, .pdo, .link, .mem, .sched, .tabor, .sense, .touch, .reg, .seq, .pack, .thermal, .update, .test] a1 (actTOsr a0 a1) := by
  unfold actTOsr
  with_reducible apply Moves.ite
  (with_reducible apply issue_frame) <;> first | decide | skip
  apply Moves.refl
  with_reducible intro _
  with_reducible apply Moves.app (illegal_frame ..); decide
  apply Moves.refl
  (with_reducible apply issueUnit_frame) <;> first | decide | skip
  apply Moves.refl
  with_reducible intro _
  with_reducible intro _
  with_reducible apply Moves.app (osrUnit_frame ..); decide
  apply Moves.refl

theorem loadParts_frame (s : State) (acc : List Nat) (l : List (Nat × Nat × Nat)) : Moves [.od, .draws, .log, .can, .pdo, .link, .mem, .sched, .tabor] s (loadParts s acc l).1 := by
  induction l generalizing s acc with
  | nil => exact Moves.refl _ _
  | cons p l ih =>
    unfold loadParts
    have h1 : Moves [.od, .draws, .log, .can, .pdo, .link, .mem, .sched, .tabor] s (loadBytes s p.1 p.2.2).1 := (loadBytes_frame _ _ _).mono (by decide)
    split
    · exact Moves.of_pair ‹_› h1
    · exact (Moves.of_pair ‹_› h1).trans ((unitPoison_frame _).mono (by decide))
    · exact (Moves.of_pair ‹_› h1).trans (ih _ _)

theorem oswUnit_frame (a0 : Nat) (a1 : State) (a2 : Nat) : Moves [.od, .live, .draws, .replies, .aocb, .beat, .store, .log, .can, .pdo, .link, .mem, .sched, .tabor, .sense, .touch, .reg, .seq, .pack, .thermal, .update, .test] a1 (oswUnit a0 a1 a2) := by
  unfold oswUnit
  extract_lets +onlyGivenNames x; clear_value x
  extract_lets +onlyGivenNames x; clear_value x
  with_reducible apply Moves.ite
  with_reducible apply Moves.app (retired_frame ..); decide
  apply Moves.refl
  split
  with_reducible apply Moves.app (objectFault_frame ..); decide
  apply Moves.refl
  split
  with_reducible apply Moves.of_pair; assumption
  with_reducible apply Moves.app (loadParts_frame ..); decide
  apply Moves.refl
  split
  focus
    extract_lets +onlyGivenNames x; refine Moves.use x ?_ (fun hx => ?_); unfold x; clear x; rotate_left; clear_value x; rotate_right
  with_reducible apply Moves.app (State.setCore_frame ..); decide
  with_reducible apply Moves.app (State.reply_frame ..); decide
  with_reducible apply Moves.of_pair; assumption
  with_reducible apply Moves.app (orwRequest_frame ..); decide
  with_reducible apply Moves.of_pair; assumption
  with_reducible apply Moves.app (loadParts_frame ..); decide
  apply Moves.refl
  with_reducible apply Moves.app (unitEnds_frame ..); decide
  assumption
  with_reducible apply Moves.app (objectFault_frame ..); decide
  with_reducible apply Moves.app (State.reply_frame ..); decide
  with_reducible apply Moves.of_pair; assumption
  with_reducible apply Moves.app (orwRequest_frame ..); decide
  with_reducible apply Moves.of_pair; assumption
  with_reducible apply Moves.app (loadParts_frame ..); decide
  apply Moves.refl
  with_reducible apply Moves.of_pair; assumption
  with_reducible apply Moves.app (orwRequest_frame ..); decide
  with_reducible apply Moves.of_pair; assumption
  with_reducible apply Moves.app (loadParts_frame ..); decide
  apply Moves.refl

theorem actTOsw_frame (a0 : Fin 32) (a1 : State) : Moves [.od, .live, .draws, .replies, .aocb, .beat, .store, .log, .can, .pdo, .link, .mem, .sched, .tabor, .sense, .touch, .reg, .seq, .pack, .thermal, .update, .test] a1 (actTOsw a0 a1) := by
  unfold actTOsw
  with_reducible apply Moves.ite
  (with_reducible apply issue_frame) <;> first | decide | skip
  apply Moves.refl
  with_reducible intro _
  with_reducible apply Moves.app (illegal_frame ..); decide
  apply Moves.refl
  (with_reducible apply issueUnit_frame) <;> first | decide | skip
  apply Moves.refl
  with_reducible intro _
  with_reducible intro _
  with_reducible apply Moves.app (oswUnit_frame ..); decide
  apply Moves.refl

theorem objectRequest_frame (a0 : State) (a1 : Nat) (a2 : Nat) (a3 : Bool) : Moves [.od, .live, .draws, .replies, .aocb, .beat, .store, .log, .can, .pdo, .link, .mem, .sched, .tabor, .sense, .touch, .reg, .seq, .pack, .thermal, .update, .test] a0 (objectRequest a0 a1 a2 a3) := by
  unfold objectRequest
  extract_lets +onlyGivenNames x; clear_value x
  extract_lets +onlyGivenNames x; clear_value x
  extract_lets +onlyGivenNames x; clear_value x
  with_reducible apply Moves.ite
  with_reducible apply Moves.app (objectFault_frame ..); decide
  apply Moves.refl
  with_reducible apply Moves.ite
  with_reducible apply Moves.app (objectFault_frame ..); decide
  apply Moves.refl
  extract_lets +onlyGivenNames x; clear_value x
  extract_lets +onlyGivenNames x; clear_value x
  focus
    extract_lets +onlyGivenNames x; refine Moves.use x ?_ (fun hx => ?_); unfold x; clear x; rotate_left; clear_value x; rotate_right
  refine Moves.update ?_
  apply Moves.refl
  split
  with_reducible apply Moves.app (settleBudget_frame ..); decide
  with_reducible apply Moves.app (finishCore_frame ..); decide
  with_reducible apply Moves.app (State.reply_frame ..); decide
  with_reducible apply Moves.of_pair; assumption
  with_reducible apply Moves.app (orwRequest_frame ..); decide
  assumption
  with_reducible apply Moves.of_pair; assumption
  with_reducible apply Moves.app (orwRequest_frame ..); decide
  assumption

theorem actTOrd_frame (a0 : Fin 32) (a1 : Fin 32) (a2 : State) : Moves [.od, .live, .draws, .replies, .aocb, .beat, .store, .log, .can, .pdo, .link, .mem, .sched, .tabor, .sense, .touch, .reg, .seq, .pack, .thermal, .update, .test] a2 (actTOrd a0 a1 a2) := by
  unfold actTOrd
  with_reducible apply Moves.ite
  (with_reducible apply issue_frame) <;> first | decide | skip
  apply Moves.refl
  with_reducible intro _
  with_reducible apply Moves.app (illegal_frame ..); decide
  apply Moves.refl
  (with_reducible apply issueUnlocked_frame) <;> first | decide | skip
  apply Moves.refl
  with_reducible intro _
  with_reducible apply Moves.app (objectRequest_frame ..); decide
  apply Moves.refl

theorem actTOwr_frame (a0 : Fin 32) (a1 : Fin 32) (a2 : State) : Moves [.od, .live, .draws, .replies, .aocb, .beat, .store, .log, .can, .pdo, .link, .mem, .sched, .tabor, .sense, .touch, .reg, .seq, .pack, .thermal, .update, .test] a2 (actTOwr a0 a1 a2) := by
  unfold actTOwr
  with_reducible apply Moves.ite
  (with_reducible apply issue_frame) <;> first | decide | skip
  apply Moves.refl
  with_reducible intro _
  with_reducible apply Moves.app (illegal_frame ..); decide
  apply Moves.refl
  (with_reducible apply issueUnlocked_frame) <;> first | decide | skip
  apply Moves.refl
  with_reducible intro _
  with_reducible apply Moves.app (objectRequest_frame ..); decide
  apply Moves.refl

/-- What a word decoded runs moves no more than the core's instructions move. -/
theorem runTabor_frame (i : Instr) (f : State → State) (h : runTabor i = some f) (s : State) : Moves [.od, .live, .draws, .replies, .aocb, .beat, .store, .log, .can, .pdo, .link, .mem, .sched, .tabor, .sense, .touch, .reg, .seq, .pack, .thermal, .update, .test] s (f s) := by
  have core (t u : State) (h : Moves [.od, .draws, .log, .can, .pdo, .link, .mem, .sched, .tabor] t u) : Moves [.od, .live, .draws, .replies, .aocb, .beat, .store, .log, .can, .pdo, .link, .mem, .sched, .tabor, .sense, .touch, .reg, .seq, .pack, .thermal, .update, .test] t u := h.mono (by decide)
  cases i
  case tAdd => cases h; exact core _ _ (actTAdd_frame ..)
  case tAddc => cases h; exact core _ _ (actTAddc_frame ..)
  case tSub => cases h; exact core _ _ (actTSub_frame ..)
  case tSubc => cases h; exact core _ _ (actTSubc_frame ..)
  case tAdds => cases h; exact core _ _ (actTAdds_frame ..)
  case tSubs => cases h; exact core _ _ (actTSubs_frame ..)
  case tAnd => cases h; exact core _ _ (actTAnd_frame ..)
  case tOr => cases h; exact core _ _ (actTOr_frame ..)
  case tXor => cases h; exact core _ _ (actTXor_frame ..)
  case tAndn => cases h; exact core _ _ (actTAndn_frame ..)
  case tShl => cases h; exact core _ _ (actTShl_frame ..)
  case tShr => cases h; exact core _ _ (actTShr_frame ..)
  case tSar => cases h; exact core _ _ (actTSar_frame ..)
  case tRor => cases h; exact core _ _ (actTRor_frame ..)
  case tMin => cases h; exact core _ _ (actTMin_frame ..)
  case tMax => cases h; exact core _ _ (actTMax_frame ..)
  case tMinu => cases h; exact core _ _ (actTMinu_frame ..)
  case tMaxu => cases h; exact core _ _ (actTMaxu_frame ..)
  case tClz => cases h; exact core _ _ (actTClz_frame ..)
  case tSextb => cases h; exact core _ _ (actTSextb_frame ..)
  case tSexth => cases h; exact core _ _ (actTSexth_frame ..)
  case tZextb => cases h; exact core _ _ (actTZextb_frame ..)
  case tZexth => cases h; exact core _ _ (actTZexth_frame ..)
  case tMul => cases h; exact core _ _ (actTMul_frame ..)
  case tMulu => cases h; exact core _ _ (actTMulu_frame ..)
  case tMac => cases h; exact core _ _ (actTMac_frame ..)
  case tMacu => cases h; exact core _ _ (actTMacu_frame ..)
  case tMsu => cases h; exact core _ _ (actTMsu_frame ..)
  case tMsuu => cases h; exact core _ _ (actTMsuu_frame ..)
  case tAddi => cases h; exact core _ _ (actTAddi_frame ..)
  case tAndi => cases h; exact core _ _ (actTAndi_frame ..)
  case tOri => cases h; exact core _ _ (actTOri_frame ..)
  case tXori => cases h; exact core _ _ (actTXori_frame ..)
  case tShi => cases h; exact core _ _ (actTShi_frame ..)
  case tLui => cases h; exact core _ _ (actTLui_frame ..)
  case tCmpi => cases h; exact core _ _ (actTCmpi_frame ..)
  case tTsti => cases h; exact core _ _ (actTTsti_frame ..)
  case tLdw => cases h; exact core _ _ (actTLdw_frame ..)
  case tLdh => cases h; exact core _ _ (actTLdh_frame ..)
  case tLdhu => cases h; exact core _ _ (actTLdhu_frame ..)
  case tLdb => cases h; exact core _ _ (actTLdb_frame ..)
  case tLdbu => cases h; exact core _ _ (actTLdbu_frame ..)
  case tLdd => cases h; exact core _ _ (actTLdd_frame ..)
  case tStw => cases h; exact core _ _ (actTStw_frame ..)
  case tSth => cases h; exact core _ _ (actTSth_frame ..)
  case tStb => cases h; exact core _ _ (actTStb_frame ..)
  case tStd => cases h; exact core _ _ (actTStd_frame ..)
  case tB => cases h; exact core _ _ (actTB_frame ..)
  case tCall => cases h; exact core _ _ (actTCall_frame ..)
  case tNop => cases h; exact core _ _ (actTNop_frame ..)
  case tMfs => cases h; exact core _ _ (actTMfs_frame ..)
  case tMts => cases h; exact core _ _ (actTMts_frame ..)
  case tJr => cases h; exact core _ _ (actTJr_frame ..)
  case tCallr => cases h; exact core _ _ (actTCallr_frame ..)
  case tRet => cases h; exact core _ _ (actTRet_frame ..)
  case tRete => cases h; exact core _ _ (actTRete_frame ..)
  case tTrap => cases h; exact core _ _ (actTTrap_frame ..)
  case tWait => cases h; exact core _ _ (actTWait_frame ..)
  case tLock => cases h; exact core _ _ (actTLock_frame ..)
  case tRpt => cases h; exact core _ _ (actTRpt_frame ..)
  case tAccx => cases h; exact core _ _ (actTAccx_frame ..)
  case tMpur => cases h; exact core _ _ (actTMpur_frame ..)
  case tMpuw => cases h; exact core _ _ (actTMpuw_frame ..)
  case tMovs => cases h; exact core _ _ (actTMovs_frame ..)
  case tFills => cases h; exact core _ _ (actTFills_frame ..)
  case tCmps => cases h; exact core _ _ (actTCmps_frame ..)
  case tOsr => cases h; exact actTOsr_frame ..
  case tOsw => cases h; exact actTOsw_frame ..
  case tOrd => cases h; exact actTOrd_frame ..
  case tOwr => cases h; exact actTOwr_frame ..
  all_goals cases h

theorem actTIllegal_frame (word : BitVec 32) (s : State) : Moves [.od, .live, .draws, .replies, .aocb, .beat, .store, .log, .can, .pdo, .link, .mem, .sched, .tabor, .sense, .touch, .reg, .seq, .pack, .thermal, .update, .test] s (actTIllegal word s) := by
  unfold actTIllegal
  split
  · rename_i f hf
    cases hd : decodeTabor word.toNat with
    | none => rw [hd] at hf; cases hf
    | some i => rw [hd] at hf; exact runTabor_frame i f hf s
  · exact issue_frame (Moves.refl _ _) (fun t => (illegal_frame t).mono (by decide)) (by decide)

theorem actUserProgramLoad_frame (a0 : Port) (a1 : Fin 4) (a2 : List Nat) (a3 : State) : Moves [.od, .replies, .log, .link, .mem, .sched, .tabor, .update] a3 (actUserProgramLoad a0 a1 a2 a3) := by
  unfold actUserProgramLoad
  (with_reducible apply portCommand_frame) <;> first | decide | skip
  apply Moves.refl
  with_reducible intro _
  with_reducible apply Moves.app (programLoad_frame ..); decide
  apply Moves.refl

theorem actUserProgramStart_frame (a0 : Port) (a1 : Fin 4) (a2 : State) : Moves [.od, .live, .draws, .replies, .aocb, .beat, .store, .log, .can, .pdo, .link, .mem, .sched, .tabor, .sense, .touch, .reg, .seq, .pack, .thermal, .update, .test] a2 (actUserProgramStart a0 a1 a2) := by
  unfold actUserProgramStart
  with_reducible apply Moves.app (writeCommand_frame ..); decide
  apply Moves.refl

theorem actUserProgramStop_frame (a0 : Port) (a1 : Fin 4) (a2 : State) : Moves [.od, .live, .draws, .replies, .aocb, .beat, .store, .log, .can, .pdo, .link, .mem, .sched, .tabor, .sense, .touch, .reg, .seq, .pack, .thermal, .update, .test] a2 (actUserProgramStop a0 a1 a2) := by
  unfold actUserProgramStop
  with_reducible apply Moves.app (writeCommand_frame ..); decide
  apply Moves.refl

theorem actUserProgramUnload_frame (a0 : Port) (a1 : Fin 4) (a2 : State) : Moves [.od, .live, .draws, .replies, .aocb, .beat, .store, .log, .can, .pdo, .link, .mem, .sched, .tabor, .sense, .touch, .reg, .seq, .pack, .thermal, .update, .test] a2 (actUserProgramUnload a0 a1 a2) := by
  unfold actUserProgramUnload
  with_reducible apply Moves.app (writeCommand_frame ..); decide
  apply Moves.refl

end Sys2Proof.Machine
end

