-- ==== Sys2Proof/Laws/FramesCan.lean ====
section
/-!
SUPPORT. What each function may change: the frames of the CAN port's commands. One lemma per function: every part of the
state that is not listed stands as it stood, and every table keeps its canonical form.
-/

set_option linter.all false
set_option Elab.async false

namespace Sys2Proof.Machine

theorem State.setLss_frame (a0 : State) (a1 : Lss) : Moves [.can, .pdo] a0 (State.setLss a0 a1) := by
  unfold State.setLss
  refine Moves.update ?_
  apply Moves.refl

theorem State.setSdo_frame (a0 : State) (a1 : SdoState) : Moves [.can, .pdo] a0 (State.setSdo a0 a1) := by
  unfold State.setSdo
  refine Moves.update ?_
  apply Moves.refl

theorem State.setUsdo_frame (a0 : State) (a1 : List UsdoSession) : Moves [.od, .can, .pdo] a0 (State.setUsdo a0 a1) := by
  unfold State.setUsdo
  with_reducible apply Moves.app (State.set_frame ..); decide
  refine Moves.update ?_
  apply Moves.refl

theorem actBusOffRecoveryComplete_frame (a0 : Line) (a1 : State) : Moves [.od, .log, .can, .pdo, .link, .sched, .test] a1 (actBusOffRecoveryComplete a0 a1) := by
  unfold actBusOffRecoveryComplete
  with_reducible apply Moves.ite
  with_reducible apply Moves.app (emcy_frame ..); decide
  with_reducible apply Moves.app (setLine_frame ..); decide
  with_reducible apply Moves.app (State.set_frame ..); decide
  with_reducible apply Moves.app (State.set_frame ..); decide
  apply Moves.refl
  apply Moves.refl

theorem actBusOffRecoveryDelayExpiry_frame (a0 : Line) (a1 : State) : Moves [.od, .log, .can, .pdo, .link, .sched, .test] a1 (actBusOffRecoveryDelayExpiry a0 a1) := by
  unfold actBusOffRecoveryDelayExpiry
  with_reducible apply Moves.ite
  with_reducible apply Moves.app (setLine_frame ..); decide
  apply Moves.refl
  apply Moves.refl

theorem lineFails_frame (a0 : State) : Moves [.od, .can, .pdo] a0 (lineFails a0) := by
  unfold lineFails
  extract_lets +onlyGivenNames x; clear_value x
  extract_lets +onlyGivenNames x; clear_value x
  focus
    extract_lets +onlyGivenNames x; refine Moves.use x ?_ (fun hx => ?_); unfold x; clear x; rotate_left; clear_value x; rotate_right
  refine Moves.update ?_
  apply Moves.refl
  with_reducible apply Moves.ite
  with_reducible apply Moves.app (withdraw_frame ..); decide
  assumption
  assumption

theorem busOff_frame (a0 : State) (a1 : Line) : Moves [.od, .log, .can, .pdo, .link, .sched, .test] a0 (busOff a0 a1) := by
  unfold busOff
  focus
    extract_lets +onlyGivenNames x; refine Moves.use x ?_ (fun hx => ?_); unfold x; clear x; rotate_left; clear_value x; rotate_right
  with_reducible apply Moves.app (lineFails_frame ..); decide
  with_reducible apply Moves.app (setLine_frame ..); decide
  with_reducible apply Moves.app (State.count_frame ..); decide
  apply Moves.refl
  with_reducible apply Moves.ite
  with_reducible apply Moves.app (emcy_frame ..); decide
  assumption
  assumption

theorem errorDetected_frame (a0 : State) (a1 : Line) (a2 : Bool) (a3 : Nat) : Moves [.od, .log, .can, .pdo, .link, .sched, .test] a0 (errorDetected a0 a1 a2 a3) := by
  unfold errorDetected
  extract_lets +onlyGivenNames x; clear_value x
  extract_lets +onlyGivenNames x; clear_value x
  focus
    extract_lets +onlyGivenNames x; refine Moves.use x ?_ (fun hx => ?_); unfold x; clear x; rotate_left; clear_value x; rotate_right
  with_reducible apply Moves.app (State.set_frame ..); decide
  with_reducible apply Moves.app (State.count_frame ..); decide
  apply Moves.refl
  with_reducible apply Moves.ite
  with_reducible apply Moves.app (busOff_frame ..); decide
  assumption
  with_reducible apply Moves.ite
  with_reducible apply Moves.app (emcy_frame ..); decide
  with_reducible apply Moves.app (setLine_frame ..); decide
  assumption
  assumption

theorem actCanErrorDetected_frame (a0 : Line) (a1 : Bool) (a2 : Nat) (a3 : State) : Moves [.od, .log, .can, .pdo, .link, .sched, .test] a3 (actCanErrorDetected a0 a1 a2 a3) := by
  unfold actCanErrorDetected
  with_reducible apply Moves.ite
  with_reducible apply Moves.app (errorDetected_frame ..); decide
  apply Moves.refl
  apply Moves.refl

theorem noteConflict_frame (a0 : State) (a1 : Nat) : Moves [.od, .log, .link, .sched] a0 (noteConflict a0 a1) := by
  unfold noteConflict
  with_reducible apply Moves.ite
  with_reducible apply Moves.app (logCondition_frame ..); decide
  with_reducible apply Moves.app (State.setFlag_frame ..); decide
  apply Moves.refl
  apply Moves.refl

theorem lineEases_frame (a0 : State) (a1 : Line) : Moves [.od, .log, .can, .pdo, .link, .sched, .test] a0 (lineEases a0 a1) := by
  unfold lineEases
  with_reducible apply Moves.ite
  with_reducible apply Moves.app (setLine_frame ..); decide
  apply Moves.refl
  apply Moves.refl

theorem frameCounts_frame (a0 : State) (a1 : Line) : Moves [.od, .draws, .log, .can, .pdo, .link, .sched, .test] a0 (frameCounts a0 a1) := by
  unfold frameCounts
  extract_lets +onlyGivenNames x; clear_value x
  focus
    extract_lets +onlyGivenNames x; refine Moves.use x ?_ (fun hx => ?_); unfold x; clear x; rotate_left; clear_value x; rotate_right
  with_reducible apply Moves.app (State.count_frame ..); decide
  apply Moves.refl
  focus
    extract_lets +onlyGivenNames x; refine Moves.use x ?_ (fun hx => ?_); unfold x; clear x; rotate_left; clear_value x; rotate_right
  with_reducible apply Moves.ite
  with_reducible apply Moves.app (State.draw_frame ..); decide
  with_reducible apply Moves.app (State.set_frame ..); decide
  assumption
  with_reducible apply Moves.app (State.set_frame ..); decide
  assumption
  with_reducible apply Moves.ite
  with_reducible apply Moves.app (setLine_frame ..); decide
  assumption
  with_reducible apply Moves.app (lineEases_frame ..); decide
  assumption

theorem heartbeatSeen_frame (a0 : State) (a1 : Nat) : Moves [.od, .can, .pdo, .link] a0 (heartbeatSeen a0 a1) := by
  unfold heartbeatSeen
  with_reducible apply Moves.ite
  apply Moves.refl
  extract_lets +onlyGivenNames x; clear_value x
  with_reducible apply Moves.app (refreshErrors_frame ..); decide
  refine Moves.update ?_
  apply Moves.refl

theorem dispatchFrame_frame (a0 : State) (a1 : Line) (a2 : CanFrame) : Moves [.od, .can, .pdo, .link] a0 (dispatchFrame a0 a1 a2) := by
  unfold dispatchFrame
  split
  with_reducible apply Moves.app (heartbeatSeen_frame ..); decide
  apply Moves.refl
  with_reducible apply Moves.ite
  with_reducible apply Moves.app (emcy_frame ..); decide
  apply Moves.refl
  apply Moves.refl
  refine Moves.update ?_
  apply Moves.refl

theorem copyFrame_frame (a0 : State) (a1 : Line) (a2 : CanFrame) (a3 : Nat) : Moves [.od, .link, .mem, .sched] a0 (copyFrame a0 a1 a2 a3) := by
  unfold copyFrame
  extract_lets +onlyGivenNames x; clear_value x
  split
  with_reducible apply Moves.app (ringProduce_frame ..); decide
  apply Moves.refl
  apply Moves.refl

theorem frameAccepted_frame (a0 : State) (a1 : Line) (a2 : CanFrame) (a3 : Nat) : Moves [.od, .draws, .log, .can, .pdo, .link, .mem, .sched, .test] a0 (frameAccepted a0 a1 a2 a3) := by
  unfold frameAccepted
  focus
    extract_lets +onlyGivenNames x; refine Moves.use x ?_ (fun hx => ?_); unfold x; clear x; rotate_left; clear_value x; rotate_right
  with_reducible apply Moves.app (noteConflict_frame ..); decide
  with_reducible apply Moves.app (frameCounts_frame ..); decide
  apply Moves.refl
  extract_lets +onlyGivenNames x; clear_value x
  with_reducible apply Moves.ite
  with_reducible apply Moves.app (State.count_frame ..); decide
  refine Moves.update ?_
  assumption
  extract_lets +onlyGivenNames x; clear_value x
  extract_lets +onlyGivenNames x; clear_value x
  focus
    extract_lets +onlyGivenNames x; refine Moves.use x ?_ (fun hx => ?_); unfold x; clear x; rotate_left; clear_value x; rotate_right
  refine Moves.update ?_
  assumption
  with_reducible apply Moves.app (dispatchFrame_frame ..); decide
  with_reducible apply Moves.ite
  assumption
  with_reducible apply Moves.app (copyFrame_frame ..); decide
  assumption

theorem actCanFrameAccepted_frame (a0 : Line) (a1 : CanFrame) (a2 : Nat) (a3 : State) : Moves [.od, .draws, .log, .can, .pdo, .link, .mem, .sched, .test] a3 (actCanFrameAccepted a0 a1 a2 a3) := by
  unfold actCanFrameAccepted
  with_reducible apply Moves.ite
  apply Moves.refl
  with_reducible apply Moves.ite
  with_reducible apply Moves.app (emcy_frame ..); decide
  apply Moves.refl
  with_reducible apply Moves.app (frameAccepted_frame ..); decide
  apply Moves.refl

theorem setNmt_frame (a0 : State) (a1 : Nmt) : Moves [.od, .log, .can, .pdo, .link, .sched, .update] a0 (setNmt a0 a1) := by
  unfold setNmt
  extract_lets +onlyGivenNames x; clear_value x
  with_reducible apply Moves.ite
  apply Moves.refl
  focus
    extract_lets +onlyGivenNames x; refine Moves.use x ?_ (fun hx => ?_); unfold x; clear x; rotate_left; clear_value x; rotate_right
  with_reducible apply Moves.ite
  with_reducible apply Moves.app (stopPdos_frame ..); decide
  apply Moves.refl
  apply Moves.refl
  extract_lets +onlyGivenNames x; clear_value x
  focus
    extract_lets +onlyGivenNames x; refine Moves.use x ?_ (fun hx => ?_); unfold x; clear x; rotate_left; clear_value x; rotate_right
  refine Moves.update ?_
  assumption
  focus
    extract_lets +onlyGivenNames x; refine Moves.use x ?_ (fun hx => ?_); unfold x; clear x; rotate_left; clear_value x; rotate_right
  with_reducible apply Moves.ite
  with_reducible apply Moves.app (freshPdos_frame ..); decide
  assumption
  assumption
  extract_lets +onlyGivenNames x; clear_value x
  focus
    extract_lets +onlyGivenNames x; refine Moves.use x ?_ (fun hx => ?_); unfold x; clear x; rotate_left; clear_value x; rotate_right
  with_reducible apply Moves.ite
  refine Moves.update ?_
  assumption
  assumption
  with_reducible apply Moves.app (emcyDrainAll_frame ..); decide
  with_reducible apply Moves.app (raise_frame ..); decide
  with_reducible apply Moves.app (logVerbose_frame ..); decide
  assumption

theorem frameSent_frame (a0 : State) (a1 : TxKind) (a2 : List Nat) : Moves [.od, .log, .can, .pdo, .link, .sched, .update] a0 (frameSent a0 a1 a2) := by
  unfold frameSent
  split
  with_reducible apply Moves.app (raise_frame ..); decide
  apply Moves.refl
  with_reducible apply Moves.app (State.setTpdo_frame ..); decide
  apply Moves.refl
  with_reducible apply Moves.ite
  with_reducible apply Moves.app (setNmt_frame ..); decide
  apply Moves.refl
  apply Moves.refl
  apply Moves.refl

theorem transmitted_frame (a0 : State) (a1 : Line) (a2 : Nat) : Moves [.od, .log, .can, .pdo, .link, .sched, .update, .test] a0 (transmitted a0 a1 a2) := by
  unfold transmitted
  split
  apply Moves.refl
  with_reducible apply Moves.ite
  apply Moves.refl
  extract_lets +onlyGivenNames x; clear_value x
  extract_lets +onlyGivenNames x; clear_value x
  extract_lets +onlyGivenNames x; clear_value x
  focus
    extract_lets +onlyGivenNames x; refine Moves.use x ?_ (fun hx => ?_); unfold x; clear x; rotate_left; clear_value x; rotate_right
  refine Moves.update ?_
  apply Moves.refl
  focus
    extract_lets +onlyGivenNames x; refine Moves.use x ?_ (fun hx => ?_); unfold x; clear x; rotate_left; clear_value x; rotate_right
  with_reducible apply Moves.app (State.set_frame ..); decide
  with_reducible apply Moves.app (State.count_frame ..); decide
  assumption
  focus
    extract_lets +onlyGivenNames x; refine Moves.use x ?_ (fun hx => ?_); unfold x; clear x; rotate_left; clear_value x; rotate_right
  with_reducible apply Moves.app (lineEases_frame ..); decide
  assumption
  with_reducible apply Moves.ite
  assumption
  with_reducible apply Moves.app (frameSent_frame ..); decide
  assumption

theorem actCanTransmitComplete_frame (a0 : Line) (a1 : Nat) (a2 : State) : Moves [.od, .log, .can, .pdo, .link, .sched, .update, .test] a2 (actCanTransmitComplete a0 a1 a2) := by
  unfold actCanTransmitComplete
  with_reducible apply Moves.ite
  with_reducible apply Moves.app (transmitted_frame ..); decide
  apply Moves.refl
  apply Moves.refl

theorem actEmcyInhibitExpiry_frame (a0 : State) : Moves [.od, .can, .pdo, .link] a0 (actEmcyInhibitExpiry a0) := by
  unfold actEmcyInhibitExpiry
  with_reducible apply Moves.app (emcyDrainAll_frame ..); decide
  refine Moves.update ?_
  apply Moves.refl

theorem checkPeriod_frame (a0 : State) : Moves [.od, .can, .pdo, .link] a0 (checkPeriod a0) := by
  unfold checkPeriod
  with_reducible apply Moves.ite
  apply Moves.refl
  with_reducible apply Moves.app (emcy_frame ..); decide
  with_reducible apply Moves.app (State.set_frame ..); decide
  apply Moves.refl

theorem configureLine_frame (a0 : State) (a1 : Line) (a2 : Bool) : Moves [.od] a0 (configureLine a0 a1 a2) := by
  unfold configureLine
  with_reducible apply Moves.ite
  with_reducible apply Moves.app (State.set_frame ..); decide
  with_reducible apply Moves.app (State.set_frame ..); decide
  with_reducible apply Moves.app (State.set_frame ..); decide
  apply Moves.refl
  with_reducible apply Moves.ite
  with_reducible apply Moves.app (State.set_frame ..); decide
  with_reducible apply Moves.app (State.set_frame ..); decide
  with_reducible apply Moves.app (State.set_frame ..); decide
  apply Moves.refl
  apply Moves.refl

theorem configureLines_frame (a0 : State) (a1 : Bool) : Moves [.od, .live, .can, .pdo, .link] a0 (configureLines a0 a1) := by
  unfold configureLines
  extract_lets +onlyGivenNames x; clear_value x
  extract_lets +onlyGivenNames x; clear_value x
  extract_lets +onlyGivenNames x; clear_value x
  focus
    extract_lets +onlyGivenNames x; refine Moves.use x ?_ (fun hx => ?_); unfold x; clear x; rotate_left; clear_value x; rotate_right
  with_reducible apply Moves.app (State.takeInForce_frame ..); decide
  apply Moves.refl
  extract_lets +onlyGivenNames x; clear_value x
  extract_lets +onlyGivenNames x; clear_value x
  focus
    extract_lets +onlyGivenNames x; refine Moves.use x ?_ (fun hx => ?_); unfold x; clear x; rotate_left; clear_value x; rotate_right
  with_reducible apply Moves.ite
  with_reducible apply Moves.app (State.setInForce_frame ..); decide
  assumption
  refine Moves.update ?_
  assumption
  extract_lets +onlyGivenNames x; clear_value x
  focus
    extract_lets +onlyGivenNames x; refine Moves.use x ?_ (fun hx => ?_); unfold x; clear x; rotate_left; clear_value x; rotate_right
  with_reducible apply Moves.app (configureLine_frame ..); decide
  with_reducible apply Moves.app (configureLine_frame ..); decide
  assumption
  extract_lets +onlyGivenNames x; clear_value x
  extract_lets +onlyGivenNames x; clear_value x
  extract_lets +onlyGivenNames x; clear_value x
  focus
    extract_lets +onlyGivenNames x; refine Moves.use x ?_ (fun hx => ?_); unfold x; clear x; rotate_left; clear_value x; rotate_right
  with_reducible apply Moves.app (State.set_frame ..); decide
  assumption
  with_reducible apply Moves.app (refreshErrors_frame ..); decide
  with_reducible apply Moves.app (State.set_frame ..); decide
  assumption

theorem followNode_frame (a0 : Nat) (a1 : Nat) (a2 : State) (a3 : Nat × Nat) : Moves [.od] a2 (followNode a0 a1 a2 a3) := by
  unfold followNode
  extract_lets +onlyGivenNames x; clear_value x
  extract_lets +onlyGivenNames x; clear_value x
  extract_lets +onlyGivenNames x; clear_value x
  with_reducible apply Moves.ite
  with_reducible apply Moves.app (State.set_frame ..); decide
  apply Moves.refl
  apply Moves.refl

theorem resolveNode_frame (a0 : State) : Moves [.od, .log, .can, .pdo, .link, .sched] a0 (resolveNode a0) := by
  unfold resolveNode
  extract_lets +onlyGivenNames x; clear_value x
  extract_lets +onlyGivenNames x; clear_value x
  focus
    extract_lets +onlyGivenNames x; refine Moves.use x ?_ (fun hx => ?_); unfold x; clear x; rotate_left; clear_value x; rotate_right
  with_reducible apply Moves.app (State.set_frame ..); decide
  with_reducible apply Moves.app (State.set_frame ..); decide
  with_reducible apply Moves.app (State.set_frame ..); decide
  apply Moves.refl
  extract_lets +onlyGivenNames x; clear_value x
  extract_lets +onlyGivenNames x; clear_value x
  focus
    extract_lets +onlyGivenNames x; refine Moves.use x ?_ (fun hx => ?_); unfold x; clear x; rotate_left; clear_value x; rotate_right
  refine Moves.update ?_
  assumption
  focus
    extract_lets +onlyGivenNames x; refine Moves.use x ?_ (fun hx => ?_); unfold x; clear x; rotate_left; clear_value x; rotate_right
  with_reducible apply Moves.ite
  with_reducible apply Moves.ite
  assumption
  with_reducible apply Moves.app (logCondition_frame ..); decide
  with_reducible apply Moves.app (State.setFlag_frame ..); decide
  assumption
  with_reducible apply Moves.app (State.setFlag_frame ..); decide
  assumption
  with_reducible apply Moves.foldl; intro _ _ _
  with_reducible apply Moves.app (followNode_frame ..); decide
  assumption
  assumption

theorem sendBootUp_frame (a0 : State) : Moves [.can, .pdo] a0 (sendBootUp a0) := by
  unfold sendBootUp
  with_reducible apply Moves.ite
  apply Moves.refl
  with_reducible apply Moves.app (enqueueTx_frame ..); decide
  apply Moves.refl

theorem actHeartbeatConsumerExpiry_frame (a0 : Fin 8) (a1 : State) : Moves [.od, .log, .can, .pdo, .link, .sched] a1 (actHeartbeatConsumerExpiry a0 a1) := by
  unfold actHeartbeatConsumerExpiry
  with_reducible apply Moves.ite
  extract_lets +onlyGivenNames x; clear_value x
  focus
    extract_lets +onlyGivenNames x; refine Moves.use x ?_ (fun hx => ?_); unfold x; clear x; rotate_left; clear_value x; rotate_right
  refine Moves.update ?_
  apply Moves.refl
  focus
    extract_lets +onlyGivenNames x; refine Moves.use x ?_ (fun hx => ?_); unfold x; clear x; rotate_left; clear_value x; rotate_right
  with_reducible apply Moves.app (refreshErrors_frame ..); decide
  with_reducible apply Moves.app (State.count_frame ..); decide
  assumption
  with_reducible apply Moves.app (raise_frame ..); decide
  with_reducible apply Moves.app (emcyLog_frame ..); decide
  assumption
  apply Moves.refl

theorem actHeartbeatProduce_frame (a0 : State) : Moves [.can, .pdo] a0 (actHeartbeatProduce a0) := by
  unfold actHeartbeatProduce
  with_reducible apply Moves.ite
  apply Moves.refl
  with_reducible apply Moves.app (enqueueTx_frame ..); decide
  apply Moves.refl

theorem actLineSilent_frame (a0 : Line) (a1 : State) : Moves [.od, .log, .can, .pdo, .link, .sched, .test] a1 (actLineSilent a0 a1) := by
  unfold actLineSilent
  with_reducible apply Moves.ite
  with_reducible apply Moves.app (emcy_frame ..); decide
  with_reducible apply Moves.app (lineFails_frame ..); decide
  with_reducible apply Moves.app (setLine_frame ..); decide
  apply Moves.refl
  apply Moves.refl

theorem lssServed_frame {l : List Part} {a s : State} {config : Bool} {f : State → State} (h : Moves l a s)
    (hf : ∀ t, Moves l t (f t)) (hr : ∀ p ∈ [Part.can, Part.pdo], p ∈ l) : Moves l a (lssServed s config f) := by
  unfold lssServed
  extract_lets t
  have ht : Moves l s t := (served_frame _ _).mono hr
  exact (h.trans ht).trans (Moves.ite _ (hf _) (Moves.refl _ _))

theorem actLssActivateBitTiming_frame (a0 : Nat) (a1 : State) : Moves [.live, .can, .pdo] a1 (actLssActivateBitTiming a0 a1) := by
  unfold actLssActivateBitTiming
  (with_reducible apply lssServed_frame) <;> first | decide | skip
  apply Moves.refl
  with_reducible intro _
  split
  with_reducible apply Moves.app (State.setLss_frame ..); decide
  with_reducible apply Moves.app (State.setInForce_frame ..); decide
  apply Moves.refl
  apply Moves.refl

theorem actLssConfigureBitTiming_frame (a0 : Line) (a1 : Nat) (a2 : Nat) (a3 : State) : Moves [.can, .pdo] a3 (actLssConfigureBitTiming a0 a1 a2 a3) := by
  unfold actLssConfigureBitTiming
  (with_reducible apply lssServed_frame) <;> first | decide | skip
  apply Moves.refl
  with_reducible intro _
  split
  with_reducible apply Moves.ite
  with_reducible apply Moves.app (lssSend_frame ..); decide
  apply Moves.refl
  with_reducible apply Moves.app (lssSend_frame ..); decide
  with_reducible apply Moves.app (State.setLss_frame ..); decide
  apply Moves.refl
  with_reducible apply Moves.app (lssSend_frame ..); decide
  apply Moves.refl

theorem actLssConfigureNodeId_frame (a0 : Line) (a1 : Nat) (a2 : State) : Moves [.od, .can, .pdo] a2 (actLssConfigureNodeId a0 a1 a2) := by
  unfold actLssConfigureNodeId
  (with_reducible apply lssServed_frame) <;> first | decide | skip
  apply Moves.refl
  with_reducible intro _
  with_reducible apply Moves.ite
  with_reducible apply Moves.app (lssSend_frame ..); decide
  with_reducible apply Moves.app (State.setLss_frame ..); decide
  with_reducible apply Moves.app (State.set_frame ..); decide
  apply Moves.refl
  with_reducible apply Moves.app (lssSend_frame ..); decide
  apply Moves.refl

theorem fastscan_frame (a0 : State) (a1 : Nat) (a2 : Nat) (a3 : Nat) (a4 : Nat) (a5 : Nat) : Moves [.can, .pdo] a0 (fastscan a0 a1 a2 a3 a4 a5) := by
  unfold fastscan
  extract_lets +onlyGivenNames x; clear_value x
  with_reducible apply Moves.ite
  apply Moves.refl
  with_reducible apply Moves.ite
  with_reducible apply Moves.app (lssSend_frame ..); decide
  with_reducible apply Moves.app (State.setLss_frame ..); decide
  apply Moves.refl
  with_reducible apply Moves.ite
  apply Moves.refl
  with_reducible apply Moves.ite
  apply Moves.refl
  extract_lets +onlyGivenNames x; clear_value x
  with_reducible apply Moves.app (lssSend_frame ..); decide
  with_reducible apply Moves.app (State.setLss_frame ..); decide
  apply Moves.refl

theorem actLssFastscan_frame (a0 : Line) (a1 : Nat) (a2 : Nat) (a3 : Nat) (a4 : Nat) (a5 : State) : Moves [.can, .pdo] a5 (actLssFastscan a0 a1 a2 a3 a4 a5) := by
  unfold actLssFastscan
  (with_reducible apply lssServed_frame) <;> first | decide | skip
  apply Moves.refl
  with_reducible intro _
  with_reducible apply Moves.app (fastscan_frame ..); decide
  apply Moves.refl

theorem actLssIdentifyNonConfigured_frame (a0 : Line) (a1 : State) : Moves [.can, .pdo] a1 (actLssIdentifyNonConfigured a0 a1) := by
  unfold actLssIdentifyNonConfigured
  (with_reducible apply lssServed_frame) <;> first | decide | skip
  apply Moves.refl
  with_reducible intro _
  with_reducible apply Moves.ite
  with_reducible apply Moves.app (lssSend_frame ..); decide
  apply Moves.refl
  apply Moves.refl

theorem actLssIdentifyRemoteSlave_frame (a0 : Line) (a1 : Nat) (a2 : Nat) (a3 : Nat) (a4 : Nat) (a5 : Nat) (a6 : Nat) (a7 : State) : Moves [.can, .pdo] a7 (actLssIdentifyRemoteSlave a0 a1 a2 a3 a4 a5 a6 a7) := by
  unfold actLssIdentifyRemoteSlave
  (with_reducible apply lssServed_frame) <;> first | decide | skip
  apply Moves.refl
  with_reducible intro _
  with_reducible apply Moves.ite
  with_reducible apply Moves.app (lssSend_frame ..); decide
  apply Moves.refl
  apply Moves.refl

theorem actLssInquireIdentity_frame (a0 : Line) (a1 : Fin 4) (a2 : State) : Moves [.can, .pdo] a2 (actLssInquireIdentity a0 a1 a2) := by
  unfold actLssInquireIdentity
  (with_reducible apply lssServed_frame) <;> first | decide | skip
  apply Moves.refl
  with_reducible intro _
  with_reducible apply Moves.app (lssSend_frame ..); decide
  apply Moves.refl

theorem actLssInquireNodeId_frame (a0 : Line) (a1 : State) : Moves [.can, .pdo] a1 (actLssInquireNodeId a0 a1) := by
  unfold actLssInquireNodeId
  (with_reducible apply lssServed_frame) <;> first | decide | skip
  apply Moves.refl
  with_reducible intro _
  with_reducible apply Moves.app (lssSend_frame ..); decide
  apply Moves.refl

theorem actLssStoreConfiguration_frame (a0 : Line) (a1 : State) : Moves [.od, .store, .can, .pdo] a1 (actLssStoreConfiguration a0 a1) := by
  unfold actLssStoreConfiguration
  (with_reducible apply lssServed_frame) <;> first | decide | skip
  apply Moves.refl
  with_reducible intro _
  extract_lets +onlyGivenNames x; clear_value x
  split
  with_reducible apply Moves.app (lssSend_frame ..); decide
  with_reducible apply Moves.of_pair; assumption
  with_reducible apply Moves.app (beginLssStore_frame ..); decide
  apply Moves.refl
  with_reducible apply Moves.of_pair; assumption
  with_reducible apply Moves.app (beginLssStore_frame ..); decide
  apply Moves.refl

theorem loseVerified_frame (a0 : State) : Moves [.od, .log, .link, .sched, .update] a0 (loseVerified a0) := by
  unfold loseVerified
  with_reducible apply Moves.foldl; intro _ _ _
  with_reducible apply Moves.ite
  with_reducible apply Moves.app (setStage_frame ..); decide
  assumption
  assumption
  apply Moves.refl

theorem endCanDownload_frame (a0 : State) : Moves [.od, .log, .link, .sched, .update] a0 (endCanDownload a0) := by
  unfold endCanDownload
  split
  extract_lets +onlyGivenNames x; clear_value x
  focus
    extract_lets +onlyGivenNames x; refine Moves.use x ?_ (fun hx => ?_); unfold x; clear x; rotate_left; clear_value x; rotate_right
  refine Moves.update ?_
  apply Moves.refl
  with_reducible apply Moves.ite
  with_reducible apply Moves.app (setStage_frame ..); decide
  assumption
  assumption
  apply Moves.refl

theorem emptyPort_frame (a0 : State) : Moves [.od, .can, .pdo] a0 (emptyPort a0) := by
  unfold emptyPort
  extract_lets +onlyGivenNames x; clear_value x
  focus
    extract_lets +onlyGivenNames x; refine Moves.use x ?_ (fun hx => ?_); unfold x; clear x; rotate_left; clear_value x; rotate_right
  refine Moves.update ?_
  apply Moves.refl
  with_reducible apply Moves.app (State.set_frame ..); decide
  assumption

theorem portReady_frame (a0 : State) : Moves [.od, .can, .pdo] a0 (portReady a0) := by
  unfold portReady
  with_reducible apply Moves.app (sendBootUp_frame ..); decide
  with_reducible apply Moves.app (State.setFlag_frame ..); decide
  apply Moves.refl

theorem portRestart_frame (a0 : State) : Moves [.od, .live, .log, .can, .pdo, .link, .sched, .update] a0 (portRestart a0) := by
  unfold portRestart
  with_reducible apply Moves.app (configureLines_frame ..); decide
  with_reducible apply Moves.app (checkPeriod_frame ..); decide
  with_reducible apply Moves.app (setNmt_frame ..); decide
  apply Moves.refl

theorem reloadObjects_frame (a0 : State) (a1 : Nat) : Moves [.od] a0 (reloadObjects a0 a1) := by
  unfold reloadObjects
  extract_lets +onlyGivenNames x; clear_value x
  extract_lets +onlyGivenNames x; clear_value x
  focus
    extract_lets +onlyGivenNames x; refine Moves.use x ?_ (fun hx => ?_); unfold x; clear x; rotate_left; clear_value x; rotate_right
  refine Moves.update ?_
  apply Moves.refl
  focus
    extract_lets +onlyGivenNames x; refine Moves.use x ?_ (fun hx => ?_); unfold x; clear x; rotate_left; clear_value x; rotate_right
  with_reducible apply Moves.foldl; intro _ _ _
  with_reducible apply Moves.app (State.set_frame ..); decide
  assumption
  assumption
  with_reducible apply Moves.foldl; intro _ _ _
  with_reducible apply Moves.app (takeRecord_frame ..); decide
  assumption
  assumption

theorem recordSoft_frame (a0 : State) (a1 : Nat) : Moves [.aocb] a0 (recordSoft a0 a1) := by
  unfold recordSoft
  refine Moves.update ?_
  apply Moves.refl

theorem resetCommunication_frame (a0 : State) : Moves [.od, .live, .aocb, .log, .can, .pdo, .link, .sched, .update] a0 (resetCommunication a0) := by
  unfold resetCommunication
  with_reducible apply Moves.ite
  with_reducible apply Moves.app (sendBootUp_frame ..); decide
  with_reducible apply Moves.app (resolveNode_frame ..); decide
  with_reducible apply Moves.app (setNmt_frame ..); decide
  with_reducible apply Moves.app (loseVerified_frame ..); decide
  with_reducible apply Moves.app (endCanDownload_frame ..); decide
  with_reducible apply Moves.app (emptyPort_frame ..); decide
  apply Moves.refl
  with_reducible apply Moves.app (portReady_frame ..); decide
  with_reducible apply Moves.app (resolveNode_frame ..); decide
  with_reducible apply Moves.app (portRestart_frame ..); decide
  with_reducible apply Moves.app (reloadObjects_frame ..); decide
  with_reducible apply Moves.app (loseVerified_frame ..); decide
  with_reducible apply Moves.app (endCanDownload_frame ..); decide
  with_reducible apply Moves.app (emptyPort_frame ..); decide
  with_reducible apply Moves.app (recordSoft_frame ..); decide
  apply Moves.refl

theorem lssSwitch_frame (a0 : State) (a1 : Nat) : Moves [.od, .live, .aocb, .log, .can, .pdo, .link, .sched, .update] a0 (lssSwitch a0 a1) := by
  unfold lssSwitch
  extract_lets +onlyGivenNames x; clear_value x
  with_reducible apply Moves.ite
  with_reducible apply Moves.app (State.setLss_frame ..); decide
  apply Moves.refl
  with_reducible apply Moves.ite
  extract_lets +onlyGivenNames x; clear_value x
  focus
    extract_lets +onlyGivenNames x; refine Moves.use x ?_ (fun hx => ?_); unfold x; clear x; rotate_left; clear_value x; rotate_right
  with_reducible apply Moves.app (State.setLss_frame ..); decide
  apply Moves.refl
  with_reducible apply Moves.ite
  with_reducible apply Moves.app (resetCommunication_frame ..); decide
  assumption
  assumption
  apply Moves.refl

theorem actLssSwitchStateGlobal_frame (a0 : Nat) (a1 : State) : Moves [.od, .live, .aocb, .log, .can, .pdo, .link, .sched, .update] a1 (actLssSwitchStateGlobal a0 a1) := by
  unfold actLssSwitchStateGlobal
  (with_reducible apply lssServed_frame) <;> first | decide | skip
  apply Moves.refl
  with_reducible intro _
  with_reducible apply Moves.app (lssSwitch_frame ..); decide
  apply Moves.refl

theorem actLssSwitchStateSelective_frame (a0 : Line) (a1 : Nat) (a2 : Nat) (a3 : Nat) (a4 : Nat) (a5 : State) : Moves [.can, .pdo] a5 (actLssSwitchStateSelective a0 a1 a2 a3 a4 a5) := by
  unfold actLssSwitchStateSelective
  (with_reducible apply lssServed_frame) <;> first | decide | skip
  apply Moves.refl
  with_reducible intro _
  with_reducible apply Moves.ite
  with_reducible apply Moves.app (lssSend_frame ..); decide
  with_reducible apply Moves.app (State.setLss_frame ..); decide
  apply Moves.refl
  apply Moves.refl

theorem nmtCommand_frame {l : List Part} {a s : State} {command : Nat} {line : Line} {node timeNs : Nat} {f : State → State} (h : Moves l a s)
    (hf : ∀ t, Moves l t (f t)) (hr : ∀ p ∈ [Part.can, Part.pdo], p ∈ l) : Moves l a (nmtCommand s command line node timeNs f) := by
  unfold nmtCommand
  extract_lets t
  have ht : Moves l s t := (fifoTake_frame _ _).mono hr
  have hu (x : Can) : Moves l t { t with can := x } := Moves.update (Moves.refl _ t) (h_can := Or.inl ⟨hr _ (by decide), hr _ (by decide)⟩)
  exact (h.trans ht).trans (Moves.ite _ ((hu _).trans (hf _)) (Moves.refl _ _))

theorem endTransfers_frame (a0 : State) : Moves [.od, .can, .pdo] a0 (endTransfers a0) := by
  unfold endTransfers
  extract_lets +onlyGivenNames x; clear_value x
  focus
    extract_lets +onlyGivenNames x; refine Moves.use x ?_ (fun hx => ?_); unfold x; clear x; rotate_left; clear_value x; rotate_right
  refine Moves.update ?_
  apply Moves.refl
  with_reducible apply Moves.app (State.set_frame ..); decide
  assumption

theorem actNmtEnterPreOperational_frame (a0 : Line) (a1 : Nat) (a2 : Nat) (a3 : State) : Moves [.od, .log, .can, .pdo, .link, .sched, .update] a3 (actNmtEnterPreOperational a0 a1 a2 a3) := by
  unfold actNmtEnterPreOperational
  (with_reducible apply nmtCommand_frame) <;> first | decide | skip
  apply Moves.refl
  with_reducible intro _
  with_reducible apply Moves.app (setNmt_frame ..); decide
  with_reducible apply Moves.app (endTransfers_frame ..); decide
  apply Moves.refl

theorem endOwnership_frame (a0 : State) : Moves [.od, .log, .link, .sched, .update] a0 (endOwnership a0) := by
  unfold endOwnership
  focus
    extract_lets +onlyGivenNames x; refine Moves.use x ?_ (fun hx => ?_); unfold x; clear x; rotate_left; clear_value x; rotate_right
  with_reducible apply Moves.foldl; intro _ _ _
  with_reducible apply Moves.ite
  with_reducible apply Moves.app (setStage_frame ..); decide
  assumption
  assumption
  with_reducible apply Moves.app (loseVerified_frame ..); decide
  apply Moves.refl
  refine Moves.update ?_
  assumption

theorem closeWindows_frame (a0 : State) : Moves [.od, .draws, .log, .can, .pdo, .link, .mem, .sched, .tabor, .sense] a0 (closeWindows a0) := by
  unfold closeWindows
  extract_lets +onlyGivenNames x; clear_value x
  focus
    extract_lets +onlyGivenNames x; refine Moves.use x ?_ (fun hx => ?_); unfold x; clear x; rotate_left; clear_value x; rotate_right
  with_reducible apply Moves.foldl; intro _ _ _
  with_reducible apply Moves.app (windowCloses_frame ..); decide
  with_reducible apply Moves.app (State.set_frame ..); decide
  assumption
  apply Moves.refl
  extract_lets +onlyGivenNames x; clear_value x
  refine Moves.update ?_
  assumption

theorem taskReloaded_frame (a0 : List Nat) (a1 : State) (a2 : Nat) : Moves [.sched] a1 (taskReloaded a0 a1 a2) := by
  unfold taskReloaded
  with_reducible apply Moves.ite
  apply Moves.refl
  refine Moves.update ?_
  apply Moves.refl

theorem reloadEffects_frame (a0 : State) (a1 : State) : Moves [.od, .draws, .log, .can, .pdo, .link, .mem, .sched, .touch, .thermal] a1 (reloadEffects a0 a1) := by
  unfold reloadEffects
  focus
    extract_lets +onlyGivenNames x; refine Moves.use x ?_ (fun hx => ?_); unfold x; clear x; rotate_left; clear_value x; rotate_right
  with_reducible apply Moves.foldl; intro _ _ _
  with_reducible apply Moves.ite
  assumption
  with_reducible apply Moves.app (refreshFan_frame ..); decide
  assumption
  apply Moves.refl
  focus
    extract_lets +onlyGivenNames x; refine Moves.use x ?_ (fun hx => ?_); unfold x; clear x; rotate_left; clear_value x; rotate_right
  with_reducible apply Moves.foldl; intro _ _ _
  with_reducible apply Moves.ite
  assumption
  with_reducible apply Moves.app (tsModeChanged_frame ..); decide
  assumption
  assumption
  focus
    extract_lets +onlyGivenNames x; refine Moves.use x ?_ (fun hx => ?_); unfold x; clear x; rotate_left; clear_value x; rotate_right
  with_reducible apply Moves.app (staleAll_frame ..); decide
  assumption
  extract_lets +onlyGivenNames x; clear_value x
  focus
    extract_lets +onlyGivenNames x; refine Moves.use x ?_ (fun hx => ?_); unfold x; clear x; rotate_left; clear_value x; rotate_right
  with_reducible apply Moves.ite
  assumption
  refine Moves.update ?_
  assumption
  focus
    extract_lets +onlyGivenNames x; refine Moves.use x ?_ (fun hx => ?_); unfold x; clear x; rotate_left; clear_value x; rotate_right
  with_reducible apply Moves.ite
  assumption
  with_reducible apply Moves.app (tlbCommand_frame ..); decide
  assumption
  focus
    extract_lets +onlyGivenNames x; refine Moves.use x ?_ (fun hx => ?_); unfold x; clear x; rotate_left; clear_value x; rotate_right
  with_reducible apply Moves.foldl; intro _ _ _
  with_reducible apply Moves.app (taskReloaded_frame ..); decide
  assumption
  assumption
  focus
    extract_lets +onlyGivenNames x; refine Moves.use x ?_ (fun hx => ?_); unfold x; clear x; rotate_left; clear_value x; rotate_right
  with_reducible apply Moves.foldl; intro _ _ _
  with_reducible apply Moves.app (writeMask_frame ..); decide
  with_reducible apply Moves.app (State.set_frame ..); decide
  assumption
  assumption
  focus
    extract_lets +onlyGivenNames x; refine Moves.use x ?_ (fun hx => ?_); unfold x; clear x; rotate_left; clear_value x; rotate_right
  with_reducible apply Moves.ite
  assumption
  with_reducible apply Moves.app (logPolicyChanged_frame ..); decide
  assumption
  with_reducible apply Moves.app (resolvePhaseSets_frame ..); decide
  with_reducible apply Moves.app (refreshEmergency_frame ..); decide
  assumption

theorem resetApplication_frame (a0 : State) : Moves [.od, .live, .draws, .aocb, .store, .log, .can, .pdo, .link, .mem, .sched, .tabor, .sense, .touch, .thermal, .update] a0 (resetApplication a0) := by
  unfold resetApplication
  focus
    extract_lets +onlyGivenNames x; refine Moves.use x ?_ (fun hx => ?_); unfold x; clear x; rotate_left; clear_value x; rotate_right
  with_reducible apply Moves.app (raiseReset_frame ..); decide
  with_reducible apply Moves.app (recordSoft_frame ..); decide
  apply Moves.refl
  focus
    extract_lets +onlyGivenNames x; refine Moves.use x ?_ (fun hx => ?_); unfold x; clear x; rotate_left; clear_value x; rotate_right
  with_reducible apply Moves.app (endOwnership_frame ..); decide
  with_reducible apply Moves.app (endCanDownload_frame ..); decide
  with_reducible apply Moves.app (emptyPort_frame ..); decide
  assumption
  focus
    extract_lets +onlyGivenNames x; refine Moves.use x ?_ (fun hx => ?_); unfold x; clear x; rotate_left; clear_value x; rotate_right
  with_reducible apply Moves.app (closeWindows_frame ..); decide
  with_reducible apply Moves.app (closeRingsOf_frame ..); decide
  with_reducible apply Moves.app (closeRingsOf_frame ..); decide
  assumption
  extract_lets +onlyGivenNames x; clear_value x
  focus
    extract_lets +onlyGivenNames x; refine Moves.use x ?_ (fun hx => ?_); unfold x; clear x; rotate_left; clear_value x; rotate_right
  refine Moves.update ?_
  assumption
  focus
    extract_lets +onlyGivenNames x; refine Moves.use x ?_ (fun hx => ?_); unfold x; clear x; rotate_left; clear_value x; rotate_right
  with_reducible apply Moves.app (reloadEffects_frame ..); decide
  with_reducible apply Moves.app (reloadObjects_frame ..); decide
  assumption
  with_reducible apply Moves.app (portReady_frame ..); decide
  with_reducible apply Moves.app (portRestart_frame ..); decide
  with_reducible apply Moves.app (restartPrograms_frame ..); decide
  assumption

theorem actNmtResetApplication_frame (a0 : Line) (a1 : Nat) (a2 : Nat) (a3 : State) : Moves [.od, .live, .draws, .aocb, .store, .log, .can, .pdo, .link, .mem, .sched, .tabor, .sense, .touch, .thermal, .update] a3 (actNmtResetApplication a0 a1 a2 a3) := by
  unfold actNmtResetApplication
  (with_reducible apply nmtCommand_frame) <;> first | decide | skip
  apply Moves.refl
  with_reducible intro _
  with_reducible apply Moves.app (resetApplication_frame ..); decide
  apply Moves.refl

theorem actNmtResetCommunication_frame (a0 : Line) (a1 : Nat) (a2 : Nat) (a3 : State) : Moves [.od, .live, .aocb, .log, .can, .pdo, .link, .sched, .update] a3 (actNmtResetCommunication a0 a1 a2 a3) := by
  unfold actNmtResetCommunication
  (with_reducible apply nmtCommand_frame) <;> first | decide | skip
  apply Moves.refl
  with_reducible intro _
  with_reducible apply Moves.app (resetCommunication_frame ..); decide
  apply Moves.refl

theorem actNmtStartRemoteNode_frame (a0 : Line) (a1 : Nat) (a2 : Nat) (a3 : State) : Moves [.od, .log, .can, .pdo, .link, .sched, .update] a3 (actNmtStartRemoteNode a0 a1 a2 a3) := by
  unfold actNmtStartRemoteNode
  (with_reducible apply nmtCommand_frame) <;> first | decide | skip
  apply Moves.refl
  with_reducible intro _
  with_reducible apply Moves.app (setNmt_frame ..); decide
  apply Moves.refl

theorem actNmtStopRemoteNode_frame (a0 : Line) (a1 : Nat) (a2 : Nat) (a3 : State) : Moves [.od, .log, .can, .pdo, .link, .sched, .update] a3 (actNmtStopRemoteNode a0 a1 a2 a3) := by
  unfold actNmtStopRemoteNode
  (with_reducible apply nmtCommand_frame) <;> first | decide | skip
  apply Moves.refl
  with_reducible intro _
  with_reducible apply Moves.app (setNmt_frame ..); decide
  with_reducible apply Moves.app (endTransfers_frame ..); decide
  apply Moves.refl

theorem actSdoAbortReceived_frame (a0 : List Nat) (a1 : State) : Moves [.can, .pdo] a1 (actSdoAbortReceived a0 a1) := by
  unfold actSdoAbortReceived
  split
  apply Moves.refl
  with_reducible apply Moves.ite
  with_reducible apply Moves.app (State.setSdo_frame ..); decide
  with_reducible apply Moves.app (served_frame ..); decide
  apply Moves.refl
  apply Moves.refl

theorem sdoServe_frame {l : List Part} {a s : State} {data : List Nat} {f : State → State} (h : Moves l a s)
    (hf : ∀ t, Moves l t (f t)) (hr : ∀ p ∈ [Part.od, Part.can, Part.pdo], p ∈ l) : Moves l a (sdoServe s data f) := by
  unfold sdoServe
  extract_lets t
  have ht : Moves l s t := (served_frame _ _).mono (fun p hp => hr p (by revert p; decide))
  refine (h.trans ht).trans (Moves.ite _ (Moves.refl _ _) ?_)
  split
  · exact (State.count_frame _ _ _).mono (fun p hp => hr p (by revert p; decide))
  · exact hf _

theorem sdoFault_frame (a0 : State) (a1 : SdoFault) : Moves [.can, .pdo] a0 (sdoFault a0 a1) := by
  unfold sdoFault
  extract_lets +onlyGivenNames x; clear_value x
  with_reducible apply Moves.app (sdoAbort_frame ..); decide
  apply Moves.refl

theorem takeBytes_frame (a0 : State) (a1 : Nat) (a2 : Nat) (a3 : List Nat) (a4 : List Nat) : Moves [.od, .draws, .store, .log, .link, .sched, .update] a0 (takeBytes a0 a1 a2 a3 a4).1 := by
  unfold takeBytes
  with_reducible apply Moves.ite_fst
  split
  dsimp only
  with_reducible apply Moves.of_pair; assumption
  with_reducible apply Moves.app (segWrite_frame ..); decide
  apply Moves.refl
  dsimp only
  with_reducible apply Moves.of_pair; assumption
  with_reducible apply Moves.app (segWrite_frame ..); decide
  apply Moves.refl
  dsimp only
  apply Moves.refl

theorem writeAnswered_frame (a0 : Ended) (a1 : Nat) (a2 : Nat) (a3 : List Nat) : Moves [.replies, .can, .pdo] a0.1 (writeAnswered a0 a1 a2 a3) := by
  unfold writeAnswered
  split
  with_reducible apply Moves.app (sdoSend_frame ..); decide
  with_reducible apply Moves.app (State.setSdo_frame ..); decide
  with_reducible apply Moves.app (State.reply_frame ..); decide
  apply Moves.refl
  with_reducible apply Moves.app (sdoAbort_frame ..); decide
  with_reducible apply Moves.app (State.reply_frame ..); decide
  apply Moves.refl
  with_reducible apply Moves.app (State.setSdo_frame ..); decide
  apply Moves.refl

theorem downloadEnds_frame (a0 : State) (a1 : Nat) (a2 : Nat) (a3 : Option Nat) (a4 : List Nat) (a5 : Nat) (a6 : List Nat) : Moves [.od, .live, .draws, .replies, .aocb, .beat, .store, .log, .can, .pdo, .link, .mem, .sched, .tabor, .sense, .touch, .reg, .seq, .pack, .thermal, .update, .test] a0 (downloadEnds a0 a1 a2 a3 a4 a5 a6) := by
  unfold downloadEnds
  with_reducible apply Moves.ite
  with_reducible apply Moves.app (sdoFault_frame ..); decide
  apply Moves.refl
  with_reducible apply Moves.ite
  with_reducible apply Moves.app (sdoAbort_frame ..); decide
  apply Moves.refl
  with_reducible apply Moves.ite
  with_reducible apply Moves.app (sdoSend_frame ..); decide
  with_reducible apply Moves.app (State.setSdo_frame ..); decide
  apply Moves.refl
  with_reducible apply Moves.app (writeAnswered_frame ..); decide
  with_reducible apply Moves.app (writeRequest_frame ..); decide
  apply Moves.refl

theorem blockDownloadEnd_frame (a0 : State) (a1 : List Nat) : Moves [.od, .live, .draws, .replies, .aocb, .beat, .store, .log, .can, .pdo, .link, .mem, .sched, .tabor, .sense, .touch, .reg, .seq, .pack, .thermal, .update, .test] a0 (blockDownloadEnd a0 a1) := by
  unfold blockDownloadEnd
  split
  extract_lets +onlyGivenNames x; clear_value x
  extract_lets +onlyGivenNames x; clear_value x
  extract_lets +onlyGivenNames x; clear_value x
  extract_lets +onlyGivenNames x; clear_value x
  with_reducible apply Moves.ite
  with_reducible apply Moves.app (sdoFault_frame ..); decide
  apply Moves.refl
  split
  with_reducible apply Moves.app (downloadEnds_frame ..); decide
  with_reducible apply Moves.of_pair; assumption
  with_reducible apply Moves.app (takeBytes_frame ..); decide
  apply Moves.refl
  with_reducible apply Moves.app (sdoAbort_frame ..); decide
  with_reducible apply Moves.of_pair; assumption
  with_reducible apply Moves.app (takeBytes_frame ..); decide
  apply Moves.refl
  with_reducible apply Moves.app (sdoFault_frame ..); decide
  apply Moves.refl

theorem actSdoBlockDownloadEnd_frame (a0 : List Nat) (a1 : State) : Moves [.od, .live, .draws, .replies, .aocb, .beat, .store, .log, .can, .pdo, .link, .mem, .sched, .tabor, .sense, .touch, .reg, .seq, .pack, .thermal, .update, .test] a1 (actSdoBlockDownloadEnd a0 a1) := by
  unfold actSdoBlockDownloadEnd
  (with_reducible apply sdoServe_frame) <;> first | decide | skip
  apply Moves.refl
  with_reducible intro _
  with_reducible apply Moves.app (blockDownloadEnd_frame ..); decide
  apply Moves.refl

theorem drawBlockSize_frame (a0 : State) : Moves [.draws] a0 (drawBlockSize a0).1 := by
  unfold drawBlockSize
  dsimp only
  with_reducible apply Moves.app (State.draw_frame ..); decide
  apply Moves.refl

theorem initiateBlockDownload_frame (a0 : State) (a1 : List Nat) : Moves [.draws, .can, .pdo] a0 (initiateBlockDownload a0 a1) := by
  unfold initiateBlockDownload
  extract_lets +onlyGivenNames x; clear_value x
  extract_lets +onlyGivenNames x; clear_value x
  extract_lets +onlyGivenNames x; clear_value x
  focus
    extract_lets +onlyGivenNames x; refine Moves.use x ?_ (fun hx => ?_); unfold x; clear x; rotate_left; clear_value x; rotate_right
  with_reducible apply Moves.app (State.setSdo_frame ..); decide
  apply Moves.refl
  with_reducible apply Moves.ite
  with_reducible apply Moves.app (sdoAbort_frame ..); decide
  assumption
  focus
    extract_lets +onlyGivenNames x; refine Moves.use x.1 ?_ (fun hx => ?_); unfold x; clear x; rotate_left; clear_value x; rotate_right
  with_reducible apply Moves.app (drawBlockSize_frame ..); decide
  assumption
  extract_lets +onlyGivenNames x; clear_value x
  with_reducible apply Moves.app (sdoSend_frame ..); decide
  with_reducible apply Moves.app (State.setSdo_frame ..); decide
  assumption

theorem actSdoBlockDownloadInitiate_frame (a0 : List Nat) (a1 : State) : Moves [.od, .draws, .can, .pdo] a1 (actSdoBlockDownloadInitiate a0 a1) := by
  unfold actSdoBlockDownloadInitiate
  (with_reducible apply sdoServe_frame) <;> first | decide | skip
  apply Moves.refl
  with_reducible intro _
  with_reducible apply Moves.app (initiateBlockDownload_frame ..); decide
  apply Moves.refl

theorem subBlockEnds_frame (a0 : State) (a1 : Nat) (a2 : Nat) (a3 : Option Nat) (a4 : List Nat) (a5 : Nat) (a6 : Nat) (a7 : Bool) (a8 : Nat) (a9 : Bool) : Moves [.od, .draws, .store, .log, .can, .pdo, .link, .sched, .update] a0 (subBlockEnds a0 a1 a2 a3 a4 a5 a6 a7 a8 a9) := by
  unfold subBlockEnds
  with_reducible apply Moves.ite
  with_reducible apply Moves.app (sdoFault_frame ..); decide
  apply Moves.refl
  extract_lets +onlyGivenNames x; clear_value x
  extract_lets +onlyGivenNames x; clear_value x
  focus
    extract_lets +onlyGivenNames x; refine Moves.use x.1 ?_ (fun hx => ?_); unfold x; clear x; rotate_left; clear_value x; rotate_right
  with_reducible apply Moves.ite_fst
  dsimp only
  apply Moves.refl
  with_reducible apply Moves.app (takeBytes_frame ..); decide
  apply Moves.refl
  with_reducible apply Moves.ite
  with_reducible apply Moves.app (sdoAbort_frame ..); decide
  assumption
  focus
    extract_lets +onlyGivenNames x; refine Moves.use x.1 ?_ (fun hx => ?_); unfold x; clear x; rotate_left; clear_value x; rotate_right
  with_reducible apply Moves.app (drawBlockSize_frame ..); decide
  assumption
  extract_lets +onlyGivenNames x; clear_value x
  with_reducible apply Moves.app (sdoSend_frame ..); decide
  with_reducible apply Moves.app (State.setSdo_frame ..); decide
  assumption

theorem blockDownloadSegment_frame (a0 : State) (a1 : List Nat) : Moves [.od, .draws, .store, .log, .can, .pdo, .link, .sched, .update] a0 (blockDownloadSegment a0 a1) := by
  unfold blockDownloadSegment
  split
  extract_lets +onlyGivenNames x; clear_value x
  extract_lets +onlyGivenNames x; clear_value x
  with_reducible apply Moves.ite
  with_reducible apply Moves.app (sdoFault_frame ..); decide
  apply Moves.refl
  extract_lets +onlyGivenNames x; clear_value x
  extract_lets +onlyGivenNames x; clear_value x
  extract_lets +onlyGivenNames x; clear_value x
  extract_lets +onlyGivenNames x; clear_value x
  extract_lets +onlyGivenNames x; clear_value x
  with_reducible apply Moves.ite
  with_reducible apply Moves.app (subBlockEnds_frame ..); decide
  apply Moves.refl
  with_reducible apply Moves.app (State.setSdo_frame ..); decide
  apply Moves.refl
  with_reducible apply Moves.app (sdoFault_frame ..); decide
  apply Moves.refl

theorem actSdoBlockDownloadSegment_frame (a0 : List Nat) (a1 : State) : Moves [.od, .draws, .store, .log, .can, .pdo, .link, .sched, .update] a1 (actSdoBlockDownloadSegment a0 a1) := by
  unfold actSdoBlockDownloadSegment
  (with_reducible apply sdoServe_frame) <;> first | decide | skip
  apply Moves.refl
  with_reducible intro _
  with_reducible apply Moves.app (blockDownloadSegment_frame ..); decide
  apply Moves.refl

theorem sendSubBlock_frame (a0 : State) (a1 : List Nat) (a2 : Nat) : Moves [.can, .pdo] a0 (sendSubBlock a0 a1 a2) := by
  unfold sendSubBlock
  with_reducible apply Moves.foldl; intro _ _ _
  extract_lets +onlyGivenNames x
  with_reducible apply Moves.app (sdoSend_frame ..); decide
  assumption
  apply Moves.refl

theorem sendBlockEnd_frame (a0 : State) (a1 : List Nat) (a2 : Bool) : Moves [.can, .pdo] a0 (sendBlockEnd a0 a1 a2) := by
  unfold sendBlockEnd
  extract_lets +onlyGivenNames x; clear_value x
  with_reducible apply Moves.app (sdoSend_frame ..); decide
  apply Moves.refl

theorem blockUploadAck_frame (a0 : State) (a1 : List Nat) : Moves [.can, .pdo] a0 (blockUploadAck a0 a1) := by
  unfold blockUploadAck
  split
  extract_lets +onlyGivenNames x; clear_value x
  with_reducible apply Moves.ite
  with_reducible apply Moves.app (sendSubBlock_frame ..); decide
  with_reducible apply Moves.app (State.setSdo_frame ..); decide
  apply Moves.refl
  with_reducible apply Moves.ite
  extract_lets +onlyGivenNames x; clear_value x
  extract_lets +onlyGivenNames x; clear_value x
  with_reducible apply Moves.ite
  with_reducible apply Moves.app (sdoFault_frame ..); decide
  apply Moves.refl
  with_reducible apply Moves.ite
  with_reducible apply Moves.app (sdoFault_frame ..); decide
  apply Moves.refl
  extract_lets +onlyGivenNames x; clear_value x
  with_reducible apply Moves.ite
  with_reducible apply Moves.app (sendBlockEnd_frame ..); decide
  with_reducible apply Moves.app (State.setSdo_frame ..); decide
  apply Moves.refl
  with_reducible apply Moves.app (sendSubBlock_frame ..); decide
  with_reducible apply Moves.app (State.setSdo_frame ..); decide
  apply Moves.refl
  with_reducible apply Moves.ite
  with_reducible apply Moves.app (State.setSdo_frame ..); decide
  apply Moves.refl
  with_reducible apply Moves.app (sdoFault_frame ..); decide
  apply Moves.refl
  with_reducible apply Moves.app (sdoFault_frame ..); decide
  apply Moves.refl

theorem actSdoBlockUploadAck_frame (a0 : List Nat) (a1 : State) : Moves [.od, .can, .pdo] a1 (actSdoBlockUploadAck a0 a1) := by
  unfold actSdoBlockUploadAck
  (with_reducible apply sdoServe_frame) <;> first | decide | skip
  apply Moves.refl
  with_reducible intro _
  with_reducible apply Moves.app (blockUploadAck_frame ..); decide
  apply Moves.refl

theorem initiateBlockUpload_frame (a0 : State) (a1 : List Nat) : Moves [.od, .draws, .replies, .store, .log, .can, .pdo, .link, .mem, .sched, .tabor, .test] a0 (initiateBlockUpload a0 a1) := by
  unfold initiateBlockUpload
  extract_lets +onlyGivenNames x; clear_value x
  extract_lets +onlyGivenNames x; clear_value x
  extract_lets +onlyGivenNames x; clear_value x
  focus
    extract_lets +onlyGivenNames x; refine Moves.use x ?_ (fun hx => ?_); unfold x; clear x; rotate_left; clear_value x; rotate_right
  with_reducible apply Moves.app (State.setSdo_frame ..); decide
  apply Moves.refl
  with_reducible apply Moves.ite
  with_reducible apply Moves.app (sdoAbort_frame ..); decide
  assumption
  split
  with_reducible apply Moves.app (sdoSend_frame ..); decide
  with_reducible apply Moves.app (State.setSdo_frame ..); decide
  with_reducible apply Moves.app (State.reply_frame ..); decide
  with_reducible apply Moves.of_pair; assumption
  with_reducible apply Moves.app (readRequest_frame ..); decide
  assumption
  with_reducible apply Moves.app (sdoAbort_frame ..); decide
  with_reducible apply Moves.app (State.reply_frame ..); decide
  with_reducible apply Moves.of_pair; assumption
  with_reducible apply Moves.app (readRequest_frame ..); decide
  assumption
  with_reducible apply Moves.app (State.setSdo_frame ..); decide
  with_reducible apply Moves.of_pair; assumption
  with_reducible apply Moves.app (readRequest_frame ..); decide
  assumption

theorem actSdoBlockUploadInitiate_frame (a0 : List Nat) (a1 : State) : Moves [.od, .draws, .replies, .store, .log, .can, .pdo, .link, .mem, .sched, .tabor, .test] a1 (actSdoBlockUploadInitiate a0 a1) := by
  unfold actSdoBlockUploadInitiate
  (with_reducible apply sdoServe_frame) <;> first | decide | skip
  apply Moves.refl
  with_reducible intro _
  with_reducible apply Moves.app (initiateBlockUpload_frame ..); decide
  apply Moves.refl

theorem downloadSegment_frame (a0 : State) (a1 : List Nat) : Moves [.od, .live, .draws, .replies, .aocb, .beat, .store, .log, .can, .pdo, .link, .mem, .sched, .tabor, .sense, .touch, .reg, .seq, .pack, .thermal, .update, .test] a0 (downloadSegment a0 a1) := by
  unfold downloadSegment
  split
  extract_lets +onlyGivenNames x; clear_value x
  with_reducible apply Moves.ite
  with_reducible apply Moves.app (sdoFault_frame ..); decide
  apply Moves.refl
  extract_lets +onlyGivenNames x; clear_value x
  extract_lets +onlyGivenNames x; clear_value x
  with_reducible apply Moves.ite
  with_reducible apply Moves.app (sdoFault_frame ..); decide
  apply Moves.refl
  split
  extract_lets +onlyGivenNames x; clear_value x
  with_reducible apply Moves.ite
  with_reducible apply Moves.app (downloadEnds_frame ..); decide
  with_reducible apply Moves.of_pair; assumption
  with_reducible apply Moves.app (takeBytes_frame ..); decide
  apply Moves.refl
  with_reducible apply Moves.app (sdoSend_frame ..); decide
  with_reducible apply Moves.app (State.setSdo_frame ..); decide
  with_reducible apply Moves.of_pair; assumption
  with_reducible apply Moves.app (takeBytes_frame ..); decide
  apply Moves.refl
  with_reducible apply Moves.app (sdoAbort_frame ..); decide
  with_reducible apply Moves.of_pair; assumption
  with_reducible apply Moves.app (takeBytes_frame ..); decide
  apply Moves.refl
  with_reducible apply Moves.app (sdoFault_frame ..); decide
  apply Moves.refl

theorem actSdoDownloadSegment_frame (a0 : List Nat) (a1 : State) : Moves [.od, .live, .draws, .replies, .aocb, .beat, .store, .log, .can, .pdo, .link, .mem, .sched, .tabor, .sense, .touch, .reg, .seq, .pack, .thermal, .update, .test] a1 (actSdoDownloadSegment a0 a1) := by
  unfold actSdoDownloadSegment
  (with_reducible apply sdoServe_frame) <;> first | decide | skip
  apply Moves.refl
  with_reducible intro _
  with_reducible apply Moves.app (downloadSegment_frame ..); decide
  apply Moves.refl

theorem initiateDownload_frame (a0 : State) (a1 : List Nat) : Moves [.od, .live, .draws, .replies, .aocb, .beat, .store, .log, .can, .pdo, .link, .mem, .sched, .tabor, .sense, .touch, .reg, .seq, .pack, .thermal, .update, .test] a0 (initiateDownload a0 a1) := by
  unfold initiateDownload
  extract_lets +onlyGivenNames x; clear_value x
  extract_lets +onlyGivenNames x; clear_value x
  extract_lets +onlyGivenNames x; clear_value x
  focus
    extract_lets +onlyGivenNames x; refine Moves.use x ?_ (fun hx => ?_); unfold x; clear x; rotate_left; clear_value x; rotate_right
  with_reducible apply Moves.app (State.setSdo_frame ..); decide
  apply Moves.refl
  extract_lets +onlyGivenNames x; clear_value x
  with_reducible apply Moves.ite
  with_reducible apply Moves.app (sdoAbort_frame ..); decide
  assumption
  with_reducible apply Moves.ite
  extract_lets +onlyGivenNames x; clear_value x
  with_reducible apply Moves.app (writeAnswered_frame ..); decide
  with_reducible apply Moves.app (writeRequest_frame ..); decide
  assumption
  with_reducible apply Moves.ite
  with_reducible apply Moves.app (sdoAbort_frame ..); decide
  assumption
  with_reducible apply Moves.app (sdoSend_frame ..); decide
  with_reducible apply Moves.app (State.setSdo_frame ..); decide
  assumption

theorem actSdoInitiateDownload_frame (a0 : List Nat) (a1 : State) : Moves [.od, .live, .draws, .replies, .aocb, .beat, .store, .log, .can, .pdo, .link, .mem, .sched, .tabor, .sense, .touch, .reg, .seq, .pack, .thermal, .update, .test] a1 (actSdoInitiateDownload a0 a1) := by
  unfold actSdoInitiateDownload
  (with_reducible apply sdoServe_frame) <;> first | decide | skip
  apply Moves.refl
  with_reducible intro _
  with_reducible apply Moves.app (initiateDownload_frame ..); decide
  apply Moves.refl

theorem initiateUpload_frame (a0 : State) (a1 : List Nat) : Moves [.od, .draws, .replies, .store, .log, .can, .pdo, .link, .mem, .sched, .tabor, .test] a0 (initiateUpload a0 a1) := by
  unfold initiateUpload
  extract_lets +onlyGivenNames x; clear_value x
  extract_lets +onlyGivenNames x; clear_value x
  split
  with_reducible apply Moves.app (uploadBegin_frame ..); decide
  with_reducible apply Moves.app (State.reply_frame ..); decide
  with_reducible apply Moves.of_pair; assumption
  with_reducible apply Moves.app (readRequest_frame ..); decide
  with_reducible apply Moves.app (State.setSdo_frame ..); decide
  apply Moves.refl
  with_reducible apply Moves.app (sdoAbort_frame ..); decide
  with_reducible apply Moves.app (State.reply_frame ..); decide
  with_reducible apply Moves.of_pair; assumption
  with_reducible apply Moves.app (readRequest_frame ..); decide
  with_reducible apply Moves.app (State.setSdo_frame ..); decide
  apply Moves.refl
  with_reducible apply Moves.app (State.setSdo_frame ..); decide
  with_reducible apply Moves.of_pair; assumption
  with_reducible apply Moves.app (readRequest_frame ..); decide
  with_reducible apply Moves.app (State.setSdo_frame ..); decide
  apply Moves.refl

theorem actSdoInitiateUpload_frame (a0 : List Nat) (a1 : State) : Moves [.od, .draws, .replies, .store, .log, .can, .pdo, .link, .mem, .sched, .tabor, .test] a1 (actSdoInitiateUpload a0 a1) := by
  unfold actSdoInitiateUpload
  (with_reducible apply sdoServe_frame) <;> first | decide | skip
  apply Moves.refl
  with_reducible intro _
  with_reducible apply Moves.app (initiateUpload_frame ..); decide
  apply Moves.refl

theorem closeUsdo_frame (a0 : State) (a1 : Nat) (a2 : Nat) : Moves [.od, .can, .pdo] a0 (closeUsdo a0 a1 a2) := by
  unfold closeUsdo
  with_reducible apply Moves.app (State.setUsdo_frame ..); decide
  apply Moves.refl

theorem actSdoTimeout_frame (a0 : Option (Nat × Nat)) (a1 : State) : Moves [.od, .can, .pdo] a1 (actSdoTimeout a0 a1) := by
  unfold actSdoTimeout
  split
  with_reducible apply Moves.app (closeUsdo_frame ..); decide
  with_reducible apply Moves.ite
  with_reducible apply Moves.app (usdoSend_frame ..); decide
  apply Moves.refl
  apply Moves.refl
  split
  apply Moves.refl
  apply Moves.refl
  with_reducible apply Moves.app (sdoFault_frame ..); decide
  apply Moves.refl

theorem uploadSegment_frame (a0 : State) (a1 : List Nat) : Moves [.can, .pdo] a0 (uploadSegment a0 a1) := by
  unfold uploadSegment
  split
  with_reducible apply Moves.ite
  with_reducible apply Moves.app (sdoFault_frame ..); decide
  apply Moves.refl
  extract_lets +onlyGivenNames x; clear_value x
  extract_lets +onlyGivenNames x
  extract_lets +onlyGivenNames x; clear_value x
  with_reducible apply Moves.app (sdoSend_frame ..); decide
  with_reducible apply Moves.app (State.setSdo_frame ..); decide
  apply Moves.refl
  with_reducible apply Moves.app (sdoFault_frame ..); decide
  apply Moves.refl

theorem actSdoUploadSegment_frame (a0 : List Nat) (a1 : State) : Moves [.od, .can, .pdo] a1 (actSdoUploadSegment a0 a1) := by
  unfold actSdoUploadSegment
  (with_reducible apply sdoServe_frame) <;> first | decide | skip
  apply Moves.refl
  with_reducible intro _
  with_reducible apply Moves.app (uploadSegment_frame ..); decide
  apply Moves.refl

theorem actTimeReceived_frame (a0 : List Nat) (a1 : State) : Moves [.od, .log, .can, .pdo, .link, .sched] a1 (actTimeReceived a0 a1) := by
  unfold actTimeReceived
  focus
    extract_lets +onlyGivenNames x; refine Moves.use x ?_ (fun hx => ?_); unfold x; clear x; rotate_left; clear_value x; rotate_right
  with_reducible apply Moves.app (served_frame ..); decide
  apply Moves.refl
  with_reducible apply Moves.ite
  with_reducible apply Moves.app (raise_frame ..); decide
  with_reducible apply Moves.app (setCalendar_frame ..); decide
  assumption
  assumption

theorem usdoFault_frame (a0 : State) (a1 : Nat) (a2 : Nat) (a3 : SdoFault) : Moves [.can, .pdo] a0 (usdoFault a0 a1 a2 a3) := by
  unfold usdoFault
  with_reducible apply Moves.app (usdoSend_frame ..); decide
  with_reducible apply Moves.app (setTransfer_frame ..); decide
  apply Moves.refl

theorem usdoBulk_frame (n : Nat) (s : State) (client session : Nat) (data : List Nat) : Moves [.can, .pdo] s (usdoBulk n s client session data) := by
  induction n generalizing s data with
  | zero => exact Moves.refl _ _
  | succ n ih =>
    unfold usdoBulk
    extract_lets t
    have h1 : Moves [.can, .pdo] s t := (usdoSend_frame _ _ _ _ _).mono (by decide)
    exact Moves.ite _ h1 (h1.trans (ih _ _))

theorem usdoWritten_frame (a0 : Ended) (a1 : Nat) (a2 : Nat) : Moves [.replies, .can, .pdo] a0.1 (usdoWritten a0 a1 a2) := by
  unfold usdoWritten
  split
  with_reducible apply Moves.app (usdoAnswer_frame ..); decide
  with_reducible apply Moves.app (State.reply_frame ..); decide
  apply Moves.refl
  apply Moves.refl

theorem usdoWhole_frame (a0 : State) (a1 : Nat) (a2 : Nat) (a3 : Nat) (a4 : Nat) (a5 : List Nat) : Moves [.od, .live, .draws, .replies, .aocb, .beat, .store, .log, .can, .pdo, .link, .mem, .sched, .tabor, .sense, .touch, .reg, .seq, .pack, .thermal, .update, .test] a0 (usdoWhole a0 a1 a2 a3 a4 a5) := by
  unfold usdoWhole
  with_reducible apply Moves.ite
  with_reducible apply Moves.app (usdoSend_frame ..); decide
  apply Moves.refl
  with_reducible apply Moves.app (usdoWritten_frame ..); decide
  with_reducible apply Moves.app (writeRequest_frame ..); decide
  apply Moves.refl

theorem usdoSegment_frame (a0 : State) (a1 : Nat) (a2 : Nat) (a3 : Nat) (a4 : List Nat) (a5 : Bool) : Moves [.od, .live, .draws, .replies, .aocb, .beat, .store, .log, .can, .pdo, .link, .mem, .sched, .tabor, .sense, .touch, .reg, .seq, .pack, .thermal, .update, .test] a0 (usdoSegment a0 a1 a2 a3 a4 a5) := by
  unfold usdoSegment
  split
  extract_lets +onlyGivenNames x; clear_value x
  with_reducible apply Moves.ite
  with_reducible apply Moves.app (usdoFault_frame ..); decide
  apply Moves.refl
  with_reducible apply Moves.ite
  with_reducible apply Moves.ite
  with_reducible apply Moves.app (usdoFault_frame ..); decide
  apply Moves.refl
  with_reducible apply Moves.app (usdoSend_frame ..); decide
  with_reducible apply Moves.app (setTransfer_frame ..); decide
  apply Moves.refl
  split
  with_reducible apply Moves.ite
  focus
    extract_lets +onlyGivenNames x; refine Moves.use x ?_ (fun hx => ?_); unfold x; clear x; rotate_left; clear_value x; rotate_right
  with_reducible apply Moves.app (setTransfer_frame ..); decide
  with_reducible apply Moves.of_pair; assumption
  with_reducible apply Moves.app (takeBytes_frame ..); decide
  apply Moves.refl
  with_reducible apply Moves.ite
  with_reducible apply Moves.app (usdoSend_frame ..); decide
  assumption
  with_reducible apply Moves.app (usdoWhole_frame ..); decide
  assumption
  focus
    extract_lets +onlyGivenNames x; refine Moves.use x ?_ (fun hx => ?_); unfold x; clear x; rotate_left; clear_value x; rotate_right
  with_reducible apply Moves.app (setTransfer_frame ..); decide
  with_reducible apply Moves.of_pair; assumption
  with_reducible apply Moves.app (takeBytes_frame ..); decide
  apply Moves.refl
  with_reducible apply Moves.ite
  assumption
  with_reducible apply Moves.app (usdoSend_frame ..); decide
  assumption
  with_reducible apply Moves.app (usdoSend_frame ..); decide
  with_reducible apply Moves.app (setTransfer_frame ..); decide
  with_reducible apply Moves.of_pair; assumption
  with_reducible apply Moves.app (takeBytes_frame ..); decide
  apply Moves.refl
  with_reducible apply Moves.app (usdoFault_frame ..); decide
  apply Moves.refl

theorem usdoServe_frame (a0 : State) (a1 : Nat) (a2 : Nat) (a3 : UsdoReq) : Moves [.od, .live, .draws, .replies, .aocb, .beat, .store, .log, .can, .pdo, .link, .mem, .sched, .tabor, .sense, .touch, .reg, .seq, .pack, .thermal, .update, .test] a0 (usdoServe a0 a1 a2 a3) := by
  unfold usdoServe
  extract_lets +onlyGivenNames x; clear_value x
  split
  split
  with_reducible apply Moves.app (usdoUpload_frame ..); decide
  apply Moves.refl
  with_reducible apply Moves.app (usdoFault_frame ..); decide
  apply Moves.refl
  split
  focus
    extract_lets +onlyGivenNames x; refine Moves.use x ?_ (fun hx => ?_); unfold x; clear x; rotate_left; clear_value x; rotate_right
  with_reducible apply Moves.app (State.reply_frame ..); decide
  with_reducible apply Moves.of_pair; assumption
  with_reducible apply Moves.app (readRequest_frame ..); decide
  apply Moves.refl
  with_reducible apply Moves.app (usdoBulk_frame ..); decide
  with_reducible apply Moves.app (setTransfer_frame ..); decide
  assumption
  with_reducible apply Moves.app (usdoAnswer_frame ..); decide
  with_reducible apply Moves.app (State.reply_frame ..); decide
  with_reducible apply Moves.of_pair; assumption
  with_reducible apply Moves.app (readRequest_frame ..); decide
  apply Moves.refl
  with_reducible apply Moves.of_pair; assumption
  with_reducible apply Moves.app (readRequest_frame ..); decide
  apply Moves.refl
  with_reducible apply Moves.ite
  with_reducible apply Moves.app (usdoSend_frame ..); decide
  apply Moves.refl
  with_reducible apply Moves.app (usdoSend_frame ..); decide
  with_reducible apply Moves.app (setTransfer_frame ..); decide
  apply Moves.refl
  with_reducible apply Moves.app (usdoSegment_frame ..); decide
  apply Moves.refl
  split
  with_reducible apply Moves.app (usdoAnswer_frame ..); decide
  with_reducible apply Moves.app (State.reply_frame ..); decide
  with_reducible apply Moves.of_pair; assumption
  with_reducible apply Moves.app (readRequest_frame ..); decide
  apply Moves.refl
  with_reducible apply Moves.of_pair; assumption
  with_reducible apply Moves.app (readRequest_frame ..); decide
  apply Moves.refl
  with_reducible apply Moves.app (usdoWritten_frame ..); decide
  with_reducible apply Moves.app (writeRequest_frame ..); decide
  apply Moves.refl
  with_reducible apply Moves.app (closeUsdo_frame ..); decide
  apply Moves.refl

theorem actUsdoRequest_frame (client session : Nat) (req : UsdoReq) (s : State) : Moves [.od, .live, .draws, .replies, .aocb, .beat, .store, .log, .can, .pdo, .link, .mem, .sched, .tabor, .sense, .touch, .reg, .seq, .pack, .thermal, .update, .test] s (actUsdoRequest client session req s) := by
  unfold actUsdoRequest
  refine Moves.ite _ (Moves.refl _ _) ?_
  split
  · rename_i t ht
    have h : Moves [.od, .live, .draws, .replies, .aocb, .beat, .store, .log, .can, .pdo, .link, .mem, .sched, .tabor, .sense, .touch, .reg, .seq, .pack, .thermal, .update, .test] s t := by
      unfold usdoSession at ht
      split at ht
      · cases ht; exact Moves.refl _ _
      · split at ht
        · cases ht
        · cases ht; exact (State.setUsdo_frame _ _).mono (by decide)
    exact h.trans ((usdoServe_frame _ _ _ _).mono (by decide))
  · exact (usdoSend_frame _ _ _ _ _).mono (by decide)

end Sys2Proof.Machine
end

