-- ==== Sys2Proof/Laws/FramesPower.lean ====
section
/-!
SUPPORT. What each function may change: the frames of the downbeat, of starting and of the power commands, and of the debug port. One lemma per function: every part of the
state that is not listed stands as it stood, and every table keeps its canonical form.
-/

set_option linter.all false
set_option Elab.async false

namespace Sys2Proof.Machine

theorem State.setDap_frame (a0 : State) (a1 : Dap) : Moves [.test] a0 (State.setDap a0 a1) := by
  unfold State.setDap
  refine Moves.update ?_
  apply Moves.refl

theorem abandonWork_frame (a0 : State) (a1 : Nat) (a2 : Nat) : Moves [.od] a0 (abandonWork a0 a1 a2) := by
  unfold abandonWork
  focus
    extract_lets +onlyGivenNames x; refine Moves.use x ?_ (fun hx => ?_); unfold x; clear x; rotate_left; clear_value x; rotate_right
  with_reducible apply Moves.app (State.countBy_frame ..); decide
  with_reducible apply Moves.app (State.countBy_frame ..); decide
  apply Moves.refl
  focus
    extract_lets +onlyGivenNames x; refine Moves.use x ?_ (fun hx => ?_); unfold x; clear x; rotate_left; clear_value x; rotate_right
  with_reducible apply Moves.ite
  with_reducible apply Moves.app (State.count_frame ..); decide
  assumption
  assumption
  focus
    extract_lets +onlyGivenNames x; refine Moves.use x ?_ (fun hx => ?_); unfold x; clear x; rotate_left; clear_value x; rotate_right
  with_reducible apply Moves.ite
  with_reducible apply Moves.app (State.count_frame ..); decide
  assumption
  assumption
  with_reducible apply Moves.ite
  with_reducible apply Moves.app (State.count_frame ..); decide
  assumption
  assumption

theorem toLoader_frame (a0 : State) (a1 : Nat) (a2 : Bool) : Moves [.aocb, .update] a0 (toLoader a0 a1 a2) := by
  unfold toLoader
  refine Moves.update ?_
  apply Moves.refl

theorem bootOther_frame (a0 : State) (a1 : Nat) (a2 : Nat) (a3 : Nat × Nat) : Moves [.od, .update] a0 (bootOther a0 a1 a2 a3) := by
  unfold bootOther
  focus
    extract_lets +onlyGivenNames x; refine Moves.use x ?_ (fun hx => ?_); unfold x; clear x; rotate_left; clear_value x; rotate_right
  with_reducible apply Moves.app (confirmedRecord_frame ..); decide
  apply Moves.refl
  focus
    extract_lets +onlyGivenNames x; refine Moves.use x ?_ (fun hx => ?_); unfold x; clear x; rotate_left; clear_value x; rotate_right
  with_reducible apply Moves.app (State.count_frame ..); decide
  assumption
  refine Moves.update ?_
  assumption

theorem bootSelect_frame (a0 : State) : Moves [.od, .update] a0 (bootSelect a0).1 := by
  unfold bootSelect
  split
  with_reducible apply Moves.ite_fst
  dsimp only
  with_reducible apply Moves.app (confirmedRecord_frame ..); decide
  apply Moves.refl
  with_reducible apply Moves.ite_fst
  dsimp only
  with_reducible apply Moves.app (confirmedRecord_frame ..); decide
  apply Moves.refl
  dsimp only
  apply Moves.refl
  extract_lets +onlyGivenNames x; clear_value x
  extract_lets +onlyGivenNames x; clear_value x
  with_reducible apply Moves.ite_fst
  with_reducible apply Moves.ite_fst
  dsimp only
  apply Moves.refl
  with_reducible apply Moves.ite_fst
  dsimp only
  with_reducible apply Moves.app (bootOther_frame ..); decide
  apply Moves.refl
  dsimp only
  apply Moves.refl
  with_reducible apply Moves.ite_fst
  dsimp only
  with_reducible apply Moves.app (modifyRecord_frame ..); decide
  apply Moves.refl
  with_reducible apply Moves.ite_fst
  dsimp only
  with_reducible apply Moves.app (bootOther_frame ..); decide
  apply Moves.refl
  dsimp only
  with_reducible apply Moves.app (bootOther_frame ..); decide
  apply Moves.refl

theorem bootRom_frame (a0 : State) : Moves [.od, .aocb, .update] a0 (bootRom a0) := by
  unfold bootRom
  with_reducible apply Moves.ite
  with_reducible apply Moves.app (toLoader_frame ..); decide
  apply Moves.refl
  with_reducible apply Moves.ite
  with_reducible apply Moves.app (toLoader_frame ..); decide
  apply Moves.refl
  split
  with_reducible apply Moves.app (toLoader_frame ..); decide
  with_reducible apply Moves.of_pair; assumption
  with_reducible apply Moves.app (bootSelect_frame ..); decide
  apply Moves.refl
  refine Moves.update ?_
  with_reducible apply Moves.of_pair; assumption
  with_reducible apply Moves.app (bootSelect_frame ..); decide
  apply Moves.refl

theorem actBootRomStart_frame (a0 : BootFindings) (a1 : State) : Moves [.od, .power, .aocb, .store, .tabor, .update] a1 (actBootRomStart a0 a1) := by
  unfold actBootRomStart
  with_reducible apply Moves.ite
  apply Moves.refl
  extract_lets +onlyGivenNames x; clear_value x
  extract_lets +onlyGivenNames x; clear_value x
  extract_lets +onlyGivenNames x; clear_value x
  extract_lets +onlyGivenNames x; clear_value x
  extract_lets +onlyGivenNames x; clear_value x
  extract_lets +onlyGivenNames x; clear_value x
  focus
    extract_lets +onlyGivenNames x; refine Moves.use x ?_ (fun hx => ?_); unfold x; clear x; rotate_left; clear_value x; rotate_right
  refine Moves.update ?_
  apply Moves.refl
  with_reducible apply Moves.app (bootRom_frame ..); decide
  with_reducible apply Moves.app (State.set_frame ..); decide
  assumption

theorem denied_frame (a0 : State) (a1 : Bool) : Moves [.test] a0 (denied a0 a1) := by
  unfold denied
  with_reducible apply Moves.app (State.setDap_frame ..); decide
  apply Moves.refl

theorem dapEnds_frame (a0 : State) (a1 : Status) (a2 : List Nat) : Moves [.replies, .test] a0 (dapEnds a0 a1 a2) := by
  unfold dapEnds
  with_reducible apply Moves.app (State.setDap_frame ..); decide
  with_reducible apply Moves.app (State.reply_frame ..); decide
  apply Moves.refl

theorem dapRequest_frame (a0 : State) (a1 : List Nat) : Moves [.od, .live, .draws, .replies, .aocb, .beat, .store, .log, .can, .pdo, .link, .mem, .sched, .tabor, .sense, .touch, .reg, .seq, .pack, .thermal, .update, .test] a0 (dapRequest a0 a1) := by
  unfold dapRequest
  extract_lets +onlyGivenNames x; clear_value x
  focus
    extract_lets +onlyGivenNames x; refine Moves.use x ?_ (fun hx => ?_); unfold x; clear x; rotate_left; clear_value x; rotate_right
  with_reducible apply Moves.app (State.setDap_frame ..); decide
  apply Moves.refl
  split
  with_reducible apply Moves.ite
  focus
    extract_lets +onlyGivenNames x; refine Moves.use x ?_ (fun hx => ?_); unfold x; clear x; rotate_left; clear_value x; rotate_right
  with_reducible apply Moves.app (dapEnds_frame ..); decide
  with_reducible apply Moves.of_pair; assumption
  with_reducible apply Moves.app (orwRequest_frame ..); decide
  assumption
  with_reducible apply Moves.app (State.setDap_frame ..); decide
  assumption
  with_reducible apply Moves.app (dapEnds_frame ..); decide
  with_reducible apply Moves.of_pair; assumption
  with_reducible apply Moves.app (orwRequest_frame ..); decide
  assumption
  with_reducible apply Moves.of_pair; assumption
  with_reducible apply Moves.app (orwRequest_frame ..); decide
  assumption

theorem dapStart_frame (a0 : State) : Moves [.od, .live, .draws, .replies, .aocb, .beat, .store, .log, .can, .pdo, .link, .mem, .sched, .tabor, .sense, .touch, .reg, .seq, .pack, .thermal, .update, .test] a0 (dapStart a0) := by
  unfold dapStart
  extract_lets +onlyGivenNames x; clear_value x
  with_reducible apply Moves.ite
  with_reducible apply Moves.app (State.setDap_frame ..); decide
  apply Moves.refl
  with_reducible apply Moves.app (dapRequest_frame ..); decide
  apply Moves.refl

theorem dapSegment_frame (a0 : State) (a1 : Bool) (a2 : Nat) : Moves [.od, .live, .draws, .replies, .aocb, .beat, .store, .log, .can, .pdo, .link, .mem, .sched, .tabor, .sense, .touch, .reg, .seq, .pack, .thermal, .update, .test] a0 (dapSegment a0 a1 a2) := by
  unfold dapSegment
  extract_lets +onlyGivenNames x; clear_value x
  with_reducible apply Moves.ite
  with_reducible apply Moves.app (State.setDap_frame ..); decide
  apply Moves.refl
  with_reducible apply Moves.ite
  apply Moves.refl
  extract_lets +onlyGivenNames x; clear_value x
  focus
    extract_lets +onlyGivenNames x; refine Moves.use x ?_ (fun hx => ?_); unfold x; clear x; rotate_left; clear_value x; rotate_right
  with_reducible apply Moves.app (State.setDap_frame ..); decide
  apply Moves.refl
  with_reducible apply Moves.ite
  assumption
  with_reducible apply Moves.app (dapRequest_frame ..); decide
  assumption

theorem requestHalt_frame (a0 : State) : Moves [.od, .draws, .log, .can, .pdo, .link, .mem, .sched, .tabor] a0 (requestHalt a0) := by
  unfold requestHalt
  extract_lets +onlyGivenNames x; clear_value x
  with_reducible apply Moves.ite
  apply Moves.refl
  with_reducible apply Moves.ite
  refine Moves.update ?_
  apply Moves.refl
  with_reducible apply Moves.ite
  with_reducible apply Moves.app (endWait_frame ..); decide
  refine Moves.update ?_
  apply Moves.refl
  with_reducible apply Moves.app (haltNow_frame ..); decide
  apply Moves.refl

theorem forceHalt_frame (a0 : State) : Moves [.od, .draws, .log, .can, .pdo, .link, .mem, .sched, .tabor] a0 (forceHalt a0) := by
  unfold forceHalt
  with_reducible apply Moves.ite
  with_reducible apply Moves.app (requestHalt_frame ..); decide
  apply Moves.refl
  focus
    extract_lets +onlyGivenNames x; refine Moves.use x ?_ (fun hx => ?_); unfold x; clear x; rotate_left; clear_value x; rotate_right
  with_reducible apply Moves.app (haltNow_frame ..); decide
  with_reducible apply Moves.app (State.count_frame ..); decide
  with_reducible apply Moves.app (breakLock_frame ..); decide
  apply Moves.refl
  with_reducible apply Moves.app (State.setCore_frame ..); decide
  assumption

theorem resumeCore_frame (a0 : State) (a1 : Bool) : Moves [.tabor] a0 (resumeCore a0 a1) := by
  unfold resumeCore
  with_reducible apply Moves.ite
  apply Moves.refl
  extract_lets +onlyGivenNames x; clear_value x
  extract_lets +onlyGivenNames x; clear_value x
  extract_lets +onlyGivenNames x; clear_value x
  refine Moves.update ?_
  apply Moves.refl

theorem coreControl_frame (a0 : State) (a1 : Nat) : Moves [.od, .draws, .log, .can, .pdo, .link, .mem, .sched, .tabor] a0 (coreControl a0 a1) := by
  unfold coreControl
  with_reducible apply Moves.ite
  with_reducible apply Moves.app (requestHalt_frame ..); decide
  apply Moves.refl
  with_reducible apply Moves.ite
  with_reducible apply Moves.app (forceHalt_frame ..); decide
  apply Moves.refl
  with_reducible apply Moves.ite
  with_reducible apply Moves.app (resumeCore_frame ..); decide
  apply Moves.refl
  with_reducible apply Moves.ite
  with_reducible apply Moves.app (resumeCore_frame ..); decide
  apply Moves.refl
  apply Moves.refl

theorem setDebugRegister_frame (a0 : State) (a1 : Nat) (a2 : Word) : Moves [.tabor] a0 (setDebugRegister a0 a1 a2) := by
  unfold setDebugRegister
  with_reducible apply Moves.ite
  with_reducible apply Moves.ite
  with_reducible apply Moves.app (State.setCore_frame ..); decide
  apply Moves.refl
  with_reducible apply Moves.app (State.setCore_frame ..); decide
  apply Moves.refl
  with_reducible apply Moves.app (State.setCore_frame ..); decide
  apply Moves.refl

theorem debugWrite_frame (a0 : State) (a1 : Nat) (a2 : Word) : Moves [.od, .draws, .log, .can, .pdo, .link, .mem, .sched] a0 (debugWrite a0 a1 a2).1 := by
  unfold debugWrite
  extract_lets +onlyGivenNames x; clear_value x
  with_reducible apply Moves.ite_fst
  split
  dsimp only
  with_reducible apply Moves.of_pair; assumption
  with_reducible apply Moves.app (objWrite_frame ..); decide
  apply Moves.refl
  dsimp only
  with_reducible apply Moves.of_pair; assumption
  with_reducible apply Moves.app (objWrite_frame ..); decide
  apply Moves.refl
  with_reducible apply Moves.ite_fst
  split
  dsimp only
  refine Moves.update ?_
  with_reducible apply Moves.of_pair; assumption
  with_reducible apply Moves.app (storeEcc_frame ..); decide
  apply Moves.refl
  dsimp only
  with_reducible apply Moves.of_pair; assumption
  with_reducible apply Moves.app (storeEcc_frame ..); decide
  apply Moves.refl
  dsimp only
  apply Moves.refl

theorem dapWrite_frame (a0 : State) (a1 : Nat) (a2 : Nat) : Moves [.od, .live, .draws, .replies, .aocb, .beat, .store, .log, .can, .pdo, .link, .mem, .sched, .tabor, .sense, .touch, .reg, .seq, .pack, .thermal, .update, .test] a0 (dapWrite a0 a1 a2).1 := by
  unfold dapWrite
  extract_lets +onlyGivenNames x; clear_value x
  extract_lets +onlyGivenNames x; clear_value x
  with_reducible apply Moves.ite_fst
  dsimp only
  apply Moves.refl
  with_reducible apply Moves.ite_fst
  dsimp only
  with_reducible apply Moves.app (State.setDap_frame ..); decide
  apply Moves.refl
  with_reducible apply Moves.ite_fst
  dsimp only
  with_reducible apply Moves.app (dapStart_frame ..); decide
  with_reducible apply Moves.app (State.setDap_frame ..); decide
  apply Moves.refl
  with_reducible apply Moves.ite_fst
  dsimp only
  with_reducible apply Moves.app (State.setDap_frame ..); decide
  apply Moves.refl
  with_reducible apply Moves.ite_fst
  dsimp only
  with_reducible apply Moves.app (State.setDap_frame ..); decide
  apply Moves.refl
  with_reducible apply Moves.ite_fst
  dsimp only
  with_reducible apply Moves.app (dapSegment_frame ..); decide
  apply Moves.refl
  with_reducible apply Moves.ite_fst
  dsimp only
  with_reducible apply Moves.app (coreControl_frame ..); decide
  apply Moves.refl
  with_reducible apply Moves.ite_fst
  dsimp only
  with_reducible apply Moves.app (State.setDap_frame ..); decide
  apply Moves.refl
  with_reducible apply Moves.ite_fst
  with_reducible apply Moves.ite_fst
  dsimp only
  with_reducible apply Moves.app (setDebugRegister_frame ..); decide
  apply Moves.refl
  dsimp only
  apply Moves.refl
  with_reducible apply Moves.ite_fst
  dsimp only
  with_reducible apply Moves.app (State.setDap_frame ..); decide
  apply Moves.refl
  with_reducible apply Moves.ite_fst
  with_reducible apply Moves.ite_fst
  dsimp only
  apply Moves.refl
  split
  dsimp only
  with_reducible apply Moves.app (State.setDap_frame ..); decide
  with_reducible apply Moves.of_pair; assumption
  with_reducible apply Moves.app (debugWrite_frame ..); decide
  apply Moves.refl
  with_reducible apply Moves.app (debugWrite_frame ..); decide
  apply Moves.refl
  with_reducible apply Moves.ite_fst
  dsimp only
  refine Moves.update ?_
  apply Moves.refl
  with_reducible apply Moves.ite_fst
  dsimp only
  refine Moves.update ?_
  apply Moves.refl
  with_reducible apply Moves.ite_fst
  dsimp only
  refine Moves.update ?_
  apply Moves.refl
  with_reducible apply Moves.ite_fst
  dsimp only
  refine Moves.update ?_
  apply Moves.refl
  dsimp only
  apply Moves.refl

theorem dapReadEffect_frame (a0 : State) (a1 : Nat) : Moves [.od, .live, .draws, .replies, .aocb, .beat, .store, .log, .can, .pdo, .link, .mem, .sched, .tabor, .sense, .touch, .reg, .seq, .pack, .thermal, .update, .test] a0 (dapReadEffect a0 a1) := by
  unfold dapReadEffect
  extract_lets +onlyGivenNames x; clear_value x
  with_reducible apply Moves.ite
  with_reducible apply Moves.app (dapSegment_frame ..); decide
  apply Moves.refl
  with_reducible apply Moves.ite
  with_reducible apply Moves.app (State.setDap_frame ..); decide
  apply Moves.refl
  apply Moves.refl

theorem dapAccess_frame (a0 : State) (a1 : Bool) (a2 : Nat) (a3 : Nat) : Moves [.od, .live, .draws, .replies, .tdo, .aocb, .beat, .store, .log, .can, .pdo, .link, .mem, .sched, .tabor, .sense, .touch, .reg, .seq, .pack, .thermal, .update, .test] a0 (dapAccess a0 a1 a2 a3) := by
  unfold dapAccess
  extract_lets +onlyGivenNames x; clear_value x
  extract_lets +onlyGivenNames x; clear_value x
  extract_lets +onlyGivenNames g248
  split
  unfold g248
  refine Moves.update ?_
  apply Moves.refl
  with_reducible apply Moves.ite
  unfold g248
  refine Moves.update ?_
  with_reducible apply Moves.app (denied_frame ..); decide
  apply Moves.refl
  with_reducible apply Moves.ite
  split
  unfold g248
  refine Moves.update ?_
  with_reducible apply Moves.ite
  with_reducible apply Moves.of_pair; assumption
  with_reducible apply Moves.app (dapWrite_frame ..); decide
  apply Moves.refl
  with_reducible apply Moves.app (denied_frame ..); decide
  with_reducible apply Moves.of_pair; assumption
  with_reducible apply Moves.app (dapWrite_frame ..); decide
  apply Moves.refl
  split
  unfold g248
  refine Moves.update ?_
  with_reducible apply Moves.app (denied_frame ..); decide
  apply Moves.refl
  unfold g248
  refine Moves.update ?_
  with_reducible apply Moves.ite
  apply Moves.refl
  with_reducible apply Moves.app (denied_frame ..); decide
  with_reducible apply Moves.app (dapReadEffect_frame ..); decide
  apply Moves.refl

theorem viaDap_frame (a0 : State) (a1 : Bool) (a2 : Nat) (a3 : Nat) : Moves [.od, .live, .draws, .replies, .tdo, .power, .clocks, .aocb, .beat, .store, .log, .can, .pdo, .link, .mem, .sched, .tabor, .sense, .touch, .reg, .seq, .pack, .thermal, .update, .test] a0 (viaDap a0 a1 a2 a3) := by
  unfold viaDap
  (with_reducible apply tapCommand_frame) <;> first | decide | skip
  apply Moves.refl
  with_reducible intro _
  with_reducible apply Moves.app (dapAccess_frame ..); decide
  apply Moves.refl

theorem actDebugMemoryAccess_frame (a0 : Option Word) (a1 : State) : Moves [.od, .live, .draws, .replies, .tdo, .power, .clocks, .aocb, .beat, .store, .log, .can, .pdo, .link, .mem, .sched, .tabor, .sense, .touch, .reg, .seq, .pack, .thermal, .update, .test] a1 (actDebugMemoryAccess a0 a1) := by
  unfold actDebugMemoryAccess
  split
  with_reducible apply Moves.app (viaDap_frame ..); decide
  apply Moves.refl
  with_reducible apply Moves.app (viaDap_frame ..); decide
  apply Moves.refl

theorem actDebugObjectRequest_frame (a0 : State) : Moves [.od, .live, .draws, .replies, .tdo, .power, .clocks, .aocb, .beat, .store, .log, .can, .pdo, .link, .mem, .sched, .tabor, .sense, .touch, .reg, .seq, .pack, .thermal, .update, .test] a0 (actDebugObjectRequest a0) := by
  unfold actDebugObjectRequest
  with_reducible apply Moves.app (viaDap_frame ..); decide
  apply Moves.refl

theorem actDebugRegisterAccess_frame (a0 : Nat) (a1 : Option Word) (a2 : State) : Moves [.od, .live, .draws, .replies, .tdo, .power, .clocks, .aocb, .beat, .store, .log, .can, .pdo, .link, .mem, .sched, .tabor, .sense, .touch, .reg, .seq, .pack, .thermal, .update, .test] a2 (actDebugRegisterAccess a0 a1 a2) := by
  unfold actDebugRegisterAccess
  (with_reducible apply tapCommand_frame) <;> first | decide | skip
  apply Moves.refl
  with_reducible intro _
  focus
    extract_lets +onlyGivenNames x; refine Moves.use x ?_ (fun hx => ?_); unfold x; clear x; rotate_left; clear_value x; rotate_right
  with_reducible apply Moves.app (dapAccess_frame ..); decide
  apply Moves.refl
  split
  with_reducible apply Moves.app (dapAccess_frame ..); decide
  assumption
  with_reducible apply Moves.app (dapAccess_frame ..); decide
  assumption

theorem actDebugSegmentData_frame (a0 : Option Word) (a1 : State) : Moves [.od, .live, .draws, .replies, .tdo, .power, .clocks, .aocb, .beat, .store, .log, .can, .pdo, .link, .mem, .sched, .tabor, .sense, .touch, .reg, .seq, .pack, .thermal, .update, .test] a1 (actDebugSegmentData a0 a1) := by
  unfold actDebugSegmentData
  split
  with_reducible apply Moves.app (viaDap_frame ..); decide
  apply Moves.refl
  with_reducible apply Moves.app (viaDap_frame ..); decide
  apply Moves.refl

theorem retune_frame (a0 : State) : Moves [.od, .touch] a0 (retune a0) := by
  unfold retune
  extract_lets +onlyGivenNames x; clear_value x
  with_reducible apply Moves.ite
  refine Moves.update ?_
  apply Moves.refl
  focus
    extract_lets +onlyGivenNames x; refine Moves.use x ?_ (fun hx => ?_); unfold x; clear x; rotate_left; clear_value x; rotate_right
  with_reducible apply Moves.app (State.count_frame ..); decide
  with_reducible apply Moves.app (State.set_frame ..); decide
  apply Moves.refl
  refine Moves.update ?_
  assumption

theorem restartStopped_frame (a0 : State) : Moves [.od, .beat, .sense, .thermal] a0 (restartStopped a0) := by
  unfold restartStopped
  focus
    extract_lets +onlyGivenNames x; refine Moves.use x ?_ (fun hx => ?_); unfold x; clear x; rotate_left; clear_value x; rotate_right
  with_reducible apply Moves.app (lanesRestart_frame ..); decide
  apply Moves.refl
  extract_lets +onlyGivenNames x; clear_value x
  extract_lets +onlyGivenNames x; clear_value x
  extract_lets +onlyGivenNames x; clear_value x
  focus
    extract_lets +onlyGivenNames x; refine Moves.use x ?_ (fun hx => ?_); unfold x; clear x; rotate_left; clear_value x; rotate_right
  with_reducible apply Moves.ite
  with_reducible apply Moves.app (State.setFlag_frame ..); decide
  refine Moves.update ?_
  assumption
  apply Moves.refl
  with_reducible apply Moves.ite
  with_reducible apply Moves.app (State.setFlag_frame ..); decide
  refine Moves.update ?_
  assumption
  assumption

theorem takeSwaps_frame (a0 : State) (a1 : SliceEst) : Moves [.od, .live, .beat, .log, .can, .pdo, .link, .sched, .sense, .touch, .thermal] a0 (takeSwaps a0 a1) := by
  unfold takeSwaps
  focus
    extract_lets +onlyGivenNames x; refine Moves.use x ?_ (fun hx => ?_); unfold x; clear x; rotate_left; clear_value x; rotate_right
  with_reducible apply Moves.app (restartStopped_frame ..); decide
  with_reducible apply Moves.ite
  apply Moves.refl
  with_reducible apply Moves.app (lanesDownbeat_frame ..); decide
  with_reducible apply Moves.app (rotationDownbeat_frame ..); decide
  apply Moves.refl
  with_reducible apply Moves.ite
  refine Moves.update ?_
  assumption
  assumption

theorem flushTranslations_frame (a0 : State) : Moves [.mem] a0 (flushTranslations a0) := by
  unfold flushTranslations
  refine Moves.update ?_
  apply Moves.refl

theorem countFrame_frame (a0 : State) : Moves [.od, .live, .beat, .log, .link, .sched] a0 (countFrame a0) := by
  unfold countFrame
  focus
    extract_lets +onlyGivenNames x; refine Moves.use x ?_ (fun hx => ?_); unfold x; clear x; rotate_left; clear_value x; rotate_right
  with_reducible apply Moves.app (State.set_frame ..); decide
  apply Moves.refl
  extract_lets +onlyGivenNames x; clear_value x
  extract_lets +onlyGivenNames x; clear_value x
  focus
    extract_lets +onlyGivenNames x; refine Moves.use x ?_ (fun hx => ?_); unfold x; clear x; rotate_left; clear_value x; rotate_right
  refine Moves.update ?_
  assumption
  focus
    extract_lets +onlyGivenNames x; refine Moves.use x ?_ (fun hx => ?_); unfold x; clear x; rotate_left; clear_value x; rotate_right
  with_reducible apply Moves.app (frameInForce_frame ..); decide
  assumption
  with_reducible apply Moves.app (nextLength_frame ..); decide
  with_reducible apply Moves.app (State.set_frame ..); decide
  assumption

theorem beginFrame_frame (a0 : State) : Moves [.beat, .touch] a0 (beginFrame a0) := by
  unfold beginFrame
  refine Moves.update ?_
  apply Moves.refl

theorem recordOverrun_frame (a0 : State) (a1 : Bool) (a2 : Nat) (a3 : Nat) (a4 : Nat) : Moves [.od, .link, .mem, .sched, .touch] a0 (recordOverrun a0 a1 a2 a3 a4) := by
  unfold recordOverrun
  with_reducible apply Moves.ite
  with_reducible apply Moves.app (raiseVector_frame ..); decide
  with_reducible apply Moves.app (raise_frame ..); decide
  with_reducible apply Moves.app (overrun_frame ..); decide
  apply Moves.refl
  apply Moves.refl

theorem profilesDownbeat_frame (s : State) : Moves [.od, .live, .touch] s (profilesDownbeat s) := by
  have tch (t : State) (x : Touch) : Moves [.od, .live, .touch] t { t with touch := x } := Moves.update (Moves.refl _ t)
  have st (t : State) (i n v : Nat) : Moves [.od, .live, .touch] t (t.set i n v) := (State.set_frame _ _ _ _).mono (by decide)
  unfold profilesDownbeat
  extract_lets +onlyGivenNames s1
  have h1 : Moves [.od, .live, .touch] s s1 := by
    unfold s1
    split
    · exact (((profilesInForce_frame _ _).mono (by decide)).trans ((staleAll_frame _).mono (by decide))).trans (tch _ _)
    · exact Moves.refl _ _
  extract_lets +onlyGivenNames p t2 x2 s2
  have h2 : Moves [.od, .live, .touch] s s2 := by
    unfold s2
    refine Moves.ite _ h1 (h1.trans ?_)
    exact (st _ _ _ _).trans (tch _ _)
  extract_lets +onlyGivenNames fits s3
  have fl (b : Bool) : Moves [.od, .live, .touch] s2 (s2.setFlag 0x3202 6 7 b) := (State.setFlag_frame _ _ _ _ _).mono (by decide)
  have h3 : Moves [.od, .live, .touch] s s3 := h2.trans (fl _)
  exact Moves.ite _ (h3.trans (tch _ _)) h3

theorem touchOutDownbeat_frame (a0 : State) : Moves [.od, .sched, .sense, .touch] a0 (touchOutDownbeat a0) := by
  unfold touchOutDownbeat
  with_reducible apply Moves.ite
  with_reducible apply Moves.app (releaseButtons_frame ..); decide
  refine Moves.update ?_
  apply Moves.refl
  with_reducible apply Moves.ite
  with_reducible apply Moves.app (releaseButtons_frame ..); decide
  apply Moves.refl
  apply Moves.refl

theorem coreLoad_frame (a0 : State) : Moves [.od, .draws] a0 (coreLoad a0) := by
  unfold coreLoad
  with_reducible apply Moves.ite
  with_reducible apply Moves.app (State.draw_frame ..); decide
  with_reducible apply Moves.app (State.set_frame ..); decide
  apply Moves.refl
  apply Moves.refl

theorem senseInForce_frame (a0 : State) : Moves [.live] a0 (senseInForce a0) := by
  unfold senseInForce
  with_reducible apply Moves.app (State.takeInForce_frame ..); decide
  with_reducible apply Moves.app (State.takeInForce_frame ..); decide
  apply Moves.refl

theorem vinDownbeat_frame (a0 : State) : Moves [.od, .power] a0 (vinDownbeat a0) := by
  unfold vinDownbeat
  focus
    extract_lets +onlyGivenNames x; refine Moves.use x ?_ (fun hx => ?_); unfold x; clear x; rotate_left; clear_value x; rotate_right
  with_reducible apply Moves.app (State.set_frame ..); decide
  apply Moves.refl
  refine Moves.update ?_
  assumption

theorem judgeFrame_frame (a0 : State) (a1 : Nat) : Moves [.od, .live, .draws, .power, .log, .can, .pdo, .link, .sched, .tabor, .sense, .touch, .reg, .pack, .update, .test] a0 (judgeFrame a0 a1) := by
  unfold judgeFrame
  focus
    extract_lets +onlyGivenNames x; refine Moves.use x ?_ (fun hx => ?_); unfold x; clear x; rotate_left; clear_value x; rotate_right
  with_reducible apply Moves.app (stageDownbeat_frame ..); decide
  with_reducible apply Moves.app (supervisionDownbeat_frame ..); decide
  apply Moves.refl
  focus
    extract_lets +onlyGivenNames x; refine Moves.use x ?_ (fun hx => ?_); unfold x; clear x; rotate_left; clear_value x; rotate_right
  with_reducible apply Moves.app (regulatorDownbeat_frame ..); decide
  with_reducible apply Moves.app (tsDownbeat_frame ..); decide
  assumption
  focus
    extract_lets +onlyGivenNames x; refine Moves.use x ?_ (fun hx => ?_); unfold x; clear x; rotate_left; clear_value x; rotate_right
  with_reducible apply Moves.app (touchOutDownbeat_frame ..); decide
  with_reducible apply Moves.app (testDownbeat_frame ..); decide
  assumption
  focus
    extract_lets +onlyGivenNames x; refine Moves.use x ?_ (fun hx => ?_); unfold x; clear x; rotate_left; clear_value x; rotate_right
  with_reducible apply Moves.app (updateTime_frame ..); decide
  with_reducible apply Moves.app (lifeTime_frame ..); decide
  with_reducible apply Moves.app (chargerTime_frame ..); decide
  with_reducible apply Moves.app (timeAdvance_frame ..); decide
  assumption
  focus
    extract_lets +onlyGivenNames x; refine Moves.use x ?_ (fun hx => ?_); unfold x; clear x; rotate_left; clear_value x; rotate_right
  with_reducible apply Moves.app (coreLoad_frame ..); decide
  with_reducible apply Moves.app (senseInForce_frame ..); decide
  with_reducible apply Moves.app (vinDownbeat_frame ..); decide
  assumption
  refine Moves.update ?_
  assumption

theorem downbeat_frame (a0 : State) (a1 : Nat) (a2 : Nat) (a3 : SliceEst) : Moves [.od, .live, .draws, .power, .beat, .log, .can, .pdo, .link, .mem, .sched, .tabor, .sense, .touch, .reg, .pack, .thermal, .update, .test] a0 (downbeat a0 a1 a2 a3) := by
  unfold downbeat
  extract_lets +onlyGivenNames x; clear_value x
  extract_lets +onlyGivenNames x; clear_value x
  extract_lets +onlyGivenNames x; clear_value x
  extract_lets +onlyGivenNames x; clear_value x
  extract_lets +onlyGivenNames x; clear_value x
  focus
    extract_lets +onlyGivenNames x; refine Moves.use x ?_ (fun hx => ?_); unfold x; clear x; rotate_left; clear_value x; rotate_right
  with_reducible apply Moves.app (ringsDownbeat_frame ..); decide
  with_reducible apply Moves.app (abandonWork_frame ..); decide
  apply Moves.refl
  extract_lets +onlyGivenNames x; clear_value x
  focus
    extract_lets +onlyGivenNames x; refine Moves.use x ?_ (fun hx => ?_); unfold x; clear x; rotate_left; clear_value x; rotate_right
  with_reducible apply Moves.app (retune_frame ..); decide
  with_reducible apply Moves.app (takeSwaps_frame ..); decide
  with_reducible apply Moves.app (flushTranslations_frame ..); decide
  assumption
  focus
    extract_lets +onlyGivenNames x; refine Moves.use x ?_ (fun hx => ?_); unfold x; clear x; rotate_left; clear_value x; rotate_right
  with_reducible apply Moves.app (countFrame_frame ..); decide
  with_reducible apply Moves.app (closeWindow_frame ..); decide
  assumption
  focus
    extract_lets +onlyGivenNames x; refine Moves.use x ?_ (fun hx => ?_); unfold x; clear x; rotate_left; clear_value x; rotate_right
  with_reducible apply Moves.app (beginFrame_frame ..); decide
  with_reducible apply Moves.app (recordOverrun_frame ..); decide
  assumption
  focus
    extract_lets +onlyGivenNames x; refine Moves.use x ?_ (fun hx => ?_); unfold x; clear x; rotate_left; clear_value x; rotate_right
  with_reducible apply Moves.app (profilesDownbeat_frame ..); decide
  with_reducible apply Moves.app (judgeFrame_frame ..); decide
  assumption
  with_reducible apply Moves.app (raiseAll_frame ..); decide
  assumption

theorem actDownbeat_frame (a0 : Nat) (a1 : Nat) (a2 : SliceEst) (a3 : State) : Moves [.od, .live, .draws, .power, .beat, .log, .can, .pdo, .link, .mem, .sched, .tabor, .sense, .touch, .reg, .pack, .thermal, .update, .test] a3 (actDownbeat a0 a1 a2 a3) := by
  unfold actDownbeat
  with_reducible apply Moves.ite
  with_reducible apply Moves.app (downbeat_frame ..); decide
  apply Moves.refl
  apply Moves.refl

theorem restartAfterLoss_frame (a0 : State) : Moves [.od, .live, .draws, .power, .clocks, .aocb, .beat, .store, .log, .can, .pdo, .link, .mem, .sched, .tabor, .sense, .touch, .reg, .seq, .pack, .thermal, .update, .test] a0 (restartAfterLoss a0) := by
  unfold restartAfterLoss
  with_reducible apply Moves.app (inputLossRestart_frame ..); decide
  with_reducible apply Moves.app (packPending_frame ..); decide
  with_reducible apply Moves.app (resetDomains_frame ..); decide
  apply Moves.refl

theorem actEmergencyOrderEnd_frame (a0 : State) : Moves [.od, .live, .draws, .power, .clocks, .aocb, .beat, .store, .log, .can, .pdo, .link, .mem, .sched, .tabor, .sense, .touch, .reg, .seq, .pack, .thermal, .update, .test] a0 (actEmergencyOrderEnd a0) := by
  unfold actEmergencyOrderEnd
  with_reducible apply Moves.ite
  apply Moves.refl
  with_reducible apply Moves.ite
  with_reducible apply Moves.app (restartAfterLoss_frame ..); decide
  apply Moves.refl
  focus
    extract_lets +onlyGivenNames x; refine Moves.use x ?_ (fun hx => ?_); unfold x; clear x; rotate_left; clear_value x; rotate_right
  with_reducible apply Moves.app (disarm_frame ..); decide
  with_reducible apply Moves.app (resetDomains_frame ..); decide
  apply Moves.refl
  refine Moves.update ?_
  assumption

theorem mapBuffers_frame (a0 : State) : Moves [.od, .draws, .mem] a0 (mapBuffers a0) := by
  unfold mapBuffers
  split
  with_reducible apply Moves.of_pair; assumption
  with_reducible apply Moves.app (State.pick_frame ..); decide
  apply Moves.refl
  split
  with_reducible apply Moves.of_pair; assumption
  with_reducible apply Moves.app (State.pick_frame ..); decide
  with_reducible apply Moves.of_pair; assumption
  with_reducible apply Moves.app (State.pick_frame ..); decide
  apply Moves.refl
  focus
    extract_lets +onlyGivenNames x; refine Moves.use x ?_ (fun hx => ?_); unfold x; clear x; rotate_left; clear_value x; rotate_right
  with_reducible apply Moves.app (State.set_frame ..); decide
  with_reducible apply Moves.of_pair; assumption
  with_reducible apply Moves.app (State.pick_frame ..); decide
  with_reducible apply Moves.of_pair; assumption
  with_reducible apply Moves.app (State.pick_frame ..); decide
  apply Moves.refl
  focus
    extract_lets +onlyGivenNames x; refine Moves.use x ?_ (fun hx => ?_); unfold x; clear x; rotate_left; clear_value x; rotate_right
  with_reducible apply Moves.app (State.storeWord_frame ..); decide
  assumption
  with_reducible apply Moves.foldl; intro _ _ _
  with_reducible apply Moves.ite
  with_reducible apply Moves.app (State.storeWord_frame ..); decide
  assumption
  assumption
  assumption

theorem startEngines_frame (a0 : State) : Moves [.od, .live, .draws, .log, .can, .pdo, .link, .mem, .sched, .tabor, .sense, .thermal, .update] a0 (startEngines a0) := by
  unfold startEngines
  focus
    extract_lets +onlyGivenNames x; refine Moves.use x ?_ (fun hx => ?_); unfold x; clear x; rotate_left; clear_value x; rotate_right
  with_reducible apply Moves.app (mapBuffers_frame ..); decide
  with_reducible apply Moves.app (takeArena_frame ..); decide
  with_reducible apply Moves.app (thermalStart_frame ..); decide
  apply Moves.refl
  extract_lets +onlyGivenNames x; clear_value x
  extract_lets +onlyGivenNames x; clear_value x
  focus
    extract_lets +onlyGivenNames x; refine Moves.use x ?_ (fun hx => ?_); unfold x; clear x; rotate_left; clear_value x; rotate_right
  refine Moves.update ?_
  assumption
  focus
    extract_lets +onlyGivenNames x; refine Moves.use x ?_ (fun hx => ?_); unfold x; clear x; rotate_left; clear_value x; rotate_right
  with_reducible apply Moves.app (autoStart_frame ..); decide
  with_reducible apply Moves.app (autoOpen_frame ..); decide
  assumption
  extract_lets +onlyGivenNames x; clear_value x
  focus
    extract_lets +onlyGivenNames x; refine Moves.use x ?_ (fun hx => ?_); unfold x; clear x; rotate_left; clear_value x; rotate_right
  refine Moves.update ?_
  assumption
  with_reducible apply Moves.ite
  with_reducible apply Moves.app (calendarResume_frame ..); decide
  assumption
  assumption

theorem defaultsOf_frame (a0 : State) (a1 : Nat → Nat → Bool) : Moves [.od] a0 (defaultsOf a0 a1) := by
  unfold defaultsOf
  refine Moves.update ?_
  apply Moves.refl

theorem checkPools_frame (a0 : State) : Moves [.od, .log, .link, .mem, .sched] a0 (checkPools a0) := by
  unfold checkPools
  extract_lets +onlyGivenNames x; clear_value x
  extract_lets +onlyGivenNames x; clear_value x
  extract_lets +onlyGivenNames x; clear_value x
  extract_lets +onlyGivenNames x; clear_value x
  extract_lets +onlyGivenNames x; clear_value x
  extract_lets +onlyGivenNames x; clear_value x
  focus
    extract_lets +onlyGivenNames x; refine Moves.use x ?_ (fun hx => ?_); unfold x; clear x; rotate_left; clear_value x; rotate_right
  with_reducible apply Moves.ite
  apply Moves.refl
  with_reducible apply Moves.app (logCondition_frame ..); decide
  with_reducible apply Moves.app (defaultsOf_frame ..); decide
  apply Moves.refl
  refine Moves.update ?_
  assumption

theorem checkGroup_frame (a0 : State) (a1 : Bool) (a2 : Nat → Nat → Bool) (a3 : Nat) (a4 : Nat) : Moves [.od, .log, .link, .sched] a0 (checkGroup a0 a1 a2 a3 a4) := by
  unfold checkGroup
  with_reducible apply Moves.ite
  apply Moves.refl
  with_reducible apply Moves.app (logCondition_frame ..); decide
  with_reducible apply Moves.app (defaultsOf_frame ..); decide
  apply Moves.refl

theorem checkGroups_frame (a0 : State) : Moves [.od, .log, .link, .sched] a0 (checkGroups a0) := by
  unfold checkGroups
  focus
    extract_lets +onlyGivenNames x; refine Moves.use x ?_ (fun hx => ?_); unfold x; clear x; rotate_left; clear_value x; rotate_right
  with_reducible apply Moves.app (checkGroup_frame ..); decide
  apply Moves.refl
  focus
    extract_lets +onlyGivenNames x; refine Moves.use x ?_ (fun hx => ?_); unfold x; clear x; rotate_left; clear_value x; rotate_right
  with_reducible apply Moves.app (checkGroup_frame ..); decide
  assumption
  focus
    extract_lets +onlyGivenNames x; refine Moves.use x ?_ (fun hx => ?_); unfold x; clear x; rotate_left; clear_value x; rotate_right
  with_reducible apply Moves.app (checkGroup_frame ..); decide
  assumption
  focus
    extract_lets +onlyGivenNames x; refine Moves.use x ?_ (fun hx => ?_); unfold x; clear x; rotate_left; clear_value x; rotate_right
  with_reducible apply Moves.foldl; intro _ _ _
  with_reducible apply Moves.app (checkGroup_frame ..); decide
  assumption
  assumption
  with_reducible apply Moves.app (checkGroup_frame ..); decide
  assumption

theorem startDictionary_frame (a0 : State) : Moves [.od, .live, .power, .aocb, .beat, .store, .log, .can, .pdo, .link, .mem, .sched] a0 (startDictionary a0) := by
  unfold startDictionary
  focus
    extract_lets +onlyGivenNames x; refine Moves.use x ?_ (fun hx => ?_); unfold x; clear x; rotate_left; clear_value x; rotate_right
  with_reducible apply Moves.app (resolvePhaseSets_frame ..); decide
  with_reducible apply Moves.app (checkPools_frame ..); decide
  with_reducible apply Moves.app (checkGroups_frame ..); decide
  with_reducible apply Moves.app (restoreStore_frame ..); decide
  apply Moves.refl
  focus
    extract_lets +onlyGivenNames x; refine Moves.use x ?_ (fun hx => ?_); unfold x; clear x; rotate_left; clear_value x; rotate_right
  with_reducible apply Moves.app (State.set_frame ..); decide
  with_reducible apply Moves.app (State.takeInForce_frame ..); decide
  assumption
  focus
    extract_lets +onlyGivenNames x; refine Moves.use x ?_ (fun hx => ?_); unfold x; clear x; rotate_left; clear_value x; rotate_right
  with_reducible apply Moves.app (ordersInForce_frame ..); decide
  assumption
  focus
    extract_lets +onlyGivenNames x; refine Moves.use x ?_ (fun hx => ?_); unfold x; clear x; rotate_left; clear_value x; rotate_right
  with_reducible apply Moves.app (senseInForce_frame ..); decide
  with_reducible apply Moves.app (profilesInForce_frame ..); decide
  assumption
  focus
    extract_lets +onlyGivenNames x; refine Moves.use x ?_ (fun hx => ?_); unfold x; clear x; rotate_left; clear_value x; rotate_right
  with_reducible apply Moves.app (State.takeInForce_frame ..); decide
  with_reducible apply Moves.app (State.takeInForce_frame ..); decide
  assumption
  focus
    extract_lets +onlyGivenNames x; refine Moves.use x ?_ (fun hx => ?_); unfold x; clear x; rotate_left; clear_value x; rotate_right
  with_reducible apply Moves.app (State.set_frame ..); decide
  assumption
  extract_lets +onlyGivenNames x; clear_value x
  extract_lets +onlyGivenNames x; clear_value x
  focus
    extract_lets +onlyGivenNames x; refine Moves.use x ?_ (fun hx => ?_); unfold x; clear x; rotate_left; clear_value x; rotate_right
  refine Moves.update ?_
  assumption
  with_reducible apply Moves.app (checkPeriod_frame ..); decide
  assumption

theorem fansForced_frame (a0 : State) : Moves [.od, .thermal] a0 (fansForced a0) := by
  unfold fansForced
  extract_lets +onlyGivenNames x; clear_value x
  focus
    extract_lets +onlyGivenNames x; refine Moves.use x ?_ (fun hx => ?_); unfold x; clear x; rotate_left; clear_value x; rotate_right
  refine Moves.update ?_
  apply Moves.refl
  with_reducible apply Moves.foldl; intro _ _ _
  with_reducible apply Moves.ite
  assumption
  with_reducible apply Moves.app (refreshFan_frame ..); decide
  with_reducible apply Moves.app (fanDuty_frame ..); decide
  with_reducible apply Moves.app (State.setFan_frame ..); decide
  assumption
  assumption

theorem lossOfB_frame (a0 : State) : Moves [.od, .beat, .log, .can, .pdo, .link, .sched, .thermal, .test] a0 (lossOfB a0) := by
  unfold lossOfB
  focus
    extract_lets +onlyGivenNames x; refine Moves.use x ?_ (fun hx => ?_); unfold x; clear x; rotate_left; clear_value x; rotate_right
  with_reducible apply Moves.app (State.setFlag_frame ..); decide
  with_reducible apply Moves.app (abandonSegment_frame ..); decide
  apply Moves.refl
  with_reducible apply Moves.app (emcyLog_frame ..); decide
  with_reducible apply Moves.app (fansForced_frame ..); decide
  refine Moves.update ?_
  assumption

theorem lossOfC_frame (a0 : State) : Moves [.od, .beat, .log, .can, .pdo, .link, .sched] a0 (lossOfC a0) := by
  unfold lossOfC
  with_reducible apply Moves.app (emcyLog_frame ..); decide
  with_reducible apply Moves.app (State.setFlag_frame ..); decide
  refine Moves.update ?_
  apply Moves.refl

theorem lostBefore_frame (a0 : State) : Moves [.od, .beat, .log, .can, .pdo, .link, .sched, .thermal, .test] a0 (lostBefore a0) := by
  unfold lostBefore
  focus
    extract_lets +onlyGivenNames x; refine Moves.use x ?_ (fun hx => ?_); unfold x; clear x; rotate_left; clear_value x; rotate_right
  with_reducible apply Moves.ite
  apply Moves.refl
  with_reducible apply Moves.app (lossOfB_frame ..); decide
  apply Moves.refl
  with_reducible apply Moves.ite
  assumption
  with_reducible apply Moves.app (lossOfC_frame ..); decide
  assumption

theorem startReports_frame (a0 : State) : Moves [.od, .store, .log, .can, .pdo, .link, .sched, .update] a0 (startReports a0) := by
  unfold startReports
  extract_lets +onlyGivenNames x; clear_value x
  extract_lets +onlyGivenNames x; clear_value x
  focus
    extract_lets +onlyGivenNames x; refine Moves.use x ?_ (fun hx => ?_); unfold x; clear x; rotate_left; clear_value x; rotate_right
  with_reducible apply Moves.foldl; intro _ _ _
  with_reducible apply Moves.ite
  with_reducible apply Moves.app (logCondition_frame ..); decide
  assumption
  assumption
  apply Moves.refl
  focus
    extract_lets +onlyGivenNames x; refine Moves.use x ?_ (fun hx => ?_); unfold x; clear x; rotate_left; clear_value x; rotate_right
  with_reducible apply Moves.foldl; intro _ _ _
  with_reducible apply Moves.app (reportSlice_frame ..); decide
  assumption
  assumption
  extract_lets +onlyGivenNames x; clear_value x
  focus
    extract_lets +onlyGivenNames x; refine Moves.use x ?_ (fun hx => ?_); unfold x; clear x; rotate_left; clear_value x; rotate_right
  with_reducible apply Moves.ite
  with_reducible apply Moves.app (emcy_frame ..); decide
  refine Moves.update ?_
  assumption
  assumption
  split
  with_reducible apply Moves.app (emcyLog_frame ..); decide
  refine Moves.update ?_
  assumption
  assumption

theorem startImage_frame (a0 : State) : Moves [.od, .log, .link, .sched, .update] a0 (startImage a0) := by
  unfold startImage
  extract_lets +onlyGivenNames x; clear_value x
  focus
    extract_lets +onlyGivenNames x; refine Moves.use x ?_ (fun hx => ?_); unfold x; clear x; rotate_left; clear_value x; rotate_right
  with_reducible apply Moves.app (State.set_frame ..); decide
  with_reducible apply Moves.app (State.set_frame ..); decide
  with_reducible apply Moves.app (refreshRecord_frame ..); decide
  apply Moves.refl
  with_reducible apply Moves.ite
  extract_lets +onlyGivenNames x; clear_value x
  focus
    extract_lets +onlyGivenNames x; refine Moves.use x ?_ (fun hx => ?_); unfold x; clear x; rotate_left; clear_value x; rotate_right
  with_reducible apply Moves.app (setStage_frame ..); decide
  refine Moves.update ?_
  assumption
  with_reducible apply Moves.app (State.set_frame ..); decide
  assumption
  assumption

theorem startPort_frame (a0 : State) : Moves [.od, .live, .log, .can, .pdo, .link, .sched] a0 (startPort a0) := by
  unfold startPort
  focus
    extract_lets +onlyGivenNames x; refine Moves.use x ?_ (fun hx => ?_); unfold x; clear x; rotate_left; clear_value x; rotate_right
  with_reducible apply Moves.app (configureLines_frame ..); decide
  with_reducible apply Moves.app (resolveNode_frame ..); decide
  apply Moves.refl
  extract_lets +onlyGivenNames x; clear_value x
  focus
    extract_lets +onlyGivenNames x; refine Moves.use x ?_ (fun hx => ?_); unfold x; clear x; rotate_left; clear_value x; rotate_right
  refine Moves.update ?_
  assumption
  with_reducible apply Moves.app (sendBootUp_frame ..); decide
  with_reducible apply Moves.app (State.setFlag_frame ..); decide
  assumption

theorem firmwareStart_frame (a0 : State) : Moves [.od, .live, .draws, .replies, .power, .aocb, .beat, .store, .log, .can, .pdo, .link, .mem, .sched, .tabor, .sense, .touch, .reg, .seq, .pack, .thermal, .update, .test] a0 (firmwareStart a0) := by
  unfold firmwareStart
  extract_lets +onlyGivenNames x; clear_value x
  extract_lets +onlyGivenNames x; clear_value x
  focus
    extract_lets +onlyGivenNames x; refine Moves.use x ?_ (fun hx => ?_); unfold x; clear x; rotate_left; clear_value x; rotate_right
  with_reducible apply Moves.app (State.setCore_frame ..); decide
  apply Moves.refl
  extract_lets +onlyGivenNames x; clear_value x
  extract_lets +onlyGivenNames x; clear_value x
  extract_lets +onlyGivenNames x; clear_value x
  extract_lets +onlyGivenNames x; clear_value x
  focus
    extract_lets +onlyGivenNames x; refine Moves.use x ?_ (fun hx => ?_); unfold x; clear x; rotate_left; clear_value x; rotate_right
  refine Moves.update ?_
  assumption
  focus
    extract_lets +onlyGivenNames x; refine Moves.use x ?_ (fun hx => ?_); unfold x; clear x; rotate_left; clear_value x; rotate_right
  with_reducible apply Moves.app (startEngines_frame ..); decide
  with_reducible apply Moves.app (takeDegraded_frame ..); decide
  with_reducible apply Moves.app (startDictionary_frame ..); decide
  with_reducible apply Moves.app (State.setFlag_frame ..); decide
  assumption
  focus
    extract_lets +onlyGivenNames x; refine Moves.use x ?_ (fun hx => ?_); unfold x; clear x; rotate_left; clear_value x; rotate_right
  with_reducible apply Moves.app (lostBefore_frame ..); decide
  with_reducible apply Moves.app (startReports_frame ..); decide
  with_reducible apply Moves.app (startImage_frame ..); decide
  with_reducible apply Moves.app (startPort_frame ..); decide
  assumption
  focus
    extract_lets +onlyGivenNames x; refine Moves.use x ?_ (fun hx => ?_); unfold x; clear x; rotate_left; clear_value x; rotate_right
  with_reducible apply Moves.app (exchangeTrigger_frame ..); decide
  with_reducible apply Moves.app (linkReview_frame ..); decide
  assumption
  split
  with_reducible apply Moves.app (powerRequest_frame ..); decide
  assumption
  assumption

theorem actFirmwareStart_frame (a0 : State) : Moves [.od, .live, .draws, .replies, .power, .aocb, .beat, .store, .log, .can, .pdo, .link, .mem, .sched, .tabor, .sense, .touch, .reg, .seq, .pack, .thermal, .update, .test] a0 (actFirmwareStart a0) := by
  unfold actFirmwareStart
  with_reducible apply Moves.ite
  with_reducible apply Moves.app (firmwareStart_frame ..); decide
  apply Moves.refl
  apply Moves.refl

theorem actForcedHalt_frame (a0 : State) : Moves [.od, .live, .draws, .replies, .tdo, .power, .clocks, .aocb, .beat, .store, .log, .can, .pdo, .link, .mem, .sched, .tabor, .sense, .touch, .reg, .seq, .pack, .thermal, .update, .test] a0 (actForcedHalt a0) := by
  unfold actForcedHalt
  with_reducible apply Moves.app (viaDap_frame ..); decide
  apply Moves.refl

theorem actHaltRequest_frame (a0 : State) : Moves [.od, .live, .draws, .replies, .tdo, .power, .clocks, .aocb, .beat, .store, .log, .can, .pdo, .link, .mem, .sched, .tabor, .sense, .touch, .reg, .seq, .pack, .thermal, .update, .test] a0 (actHaltRequest a0) := by
  unfold actHaltRequest
  with_reducible apply Moves.app (viaDap_frame ..); decide
  apply Moves.refl

theorem actHardResetOrderEnd_frame (a0 : State) : Moves [.od, .live, .draws, .power, .clocks, .aocb, .beat, .store, .log, .can, .pdo, .link, .mem, .sched, .tabor, .sense, .touch, .reg, .seq, .pack, .thermal, .update, .test] a0 (actHardResetOrderEnd a0) := by
  unfold actHardResetOrderEnd
  with_reducible apply Moves.ite
  apply Moves.refl
  focus
    extract_lets +onlyGivenNames x; refine Moves.use x ?_ (fun hx => ?_); unfold x; clear x; rotate_left; clear_value x; rotate_right
  with_reducible apply Moves.app (resetDomains_frame ..); decide
  apply Moves.refl
  focus
    extract_lets +onlyGivenNames x; refine Moves.use x ?_ (fun hx => ?_); unfold x; clear x; rotate_left; clear_value x; rotate_right
  with_reducible apply Moves.app (lossEnds_frame ..); decide
  assumption
  extract_lets +onlyGivenNames x; clear_value x
  focus
    extract_lets +onlyGivenNames x; refine Moves.use x ?_ (fun hx => ?_); unfold x; clear x; rotate_left; clear_value x; rotate_right
  with_reducible apply Moves.ite
  refine Moves.update ?_
  assumption
  assumption
  extract_lets +onlyGivenNames x; clear_value x
  extract_lets +onlyGivenNames x; clear_value x
  focus
    extract_lets +onlyGivenNames x; refine Moves.use x ?_ (fun hx => ?_); unfold x; clear x; rotate_left; clear_value x; rotate_right
  with_reducible apply Moves.ite
  with_reducible apply Moves.app (State.set_frame ..); decide
  refine Moves.update ?_
  assumption
  assumption
  with_reducible apply Moves.ite
  refine Moves.update ?_
  assumption
  with_reducible apply Moves.ite
  refine Moves.update ?_
  assumption
  with_reducible apply Moves.app (resumeStartup_frame ..); decide
  assumption

theorem actJtagDap_frame (a0 : Bool) (a1 : Nat) (a2 : Nat) (a3 : State) : Moves [.od, .live, .draws, .replies, .tdo, .power, .clocks, .aocb, .beat, .store, .log, .can, .pdo, .link, .mem, .sched, .tabor, .sense, .touch, .reg, .seq, .pack, .thermal, .update, .test] a3 (actJtagDap a0 a1 a2 a3) := by
  unfold actJtagDap
  with_reducible apply Moves.app (viaDap_frame ..); decide
  apply Moves.refl

theorem beginPhase_frame (a0 : State) (a1 : Phase) : Moves [.beat] a0 (beginPhase a0 a1) := by
  unfold beginPhase
  refine Moves.update ?_
  apply Moves.refl

theorem scanBegins_frame (a0 : State) : Moves [.od, .draws, .beat, .sched, .touch] a0 (scanBegins a0) := by
  unfold scanBegins
  focus
    extract_lets +onlyGivenNames x; refine Moves.use x ?_ (fun hx => ?_); unfold x; clear x; rotate_left; clear_value x; rotate_right
  split
  with_reducible apply Moves.ite
  with_reducible apply Moves.app (measureNoise_frame ..); decide
  apply Moves.refl
  apply Moves.refl
  apply Moves.refl
  with_reducible apply Moves.app (raise_frame ..); decide
  with_reducible apply Moves.app (beginPhase_frame ..); decide
  assumption

theorem processBegins_frame (a0 : State) (a1 : Int) : Moves [.od, .beat, .log, .link, .sched] a0 (processBegins a0 a1) := by
  unfold processBegins
  extract_lets +onlyGivenNames x; clear_value x
  focus
    extract_lets +onlyGivenNames x; refine Moves.use x ?_ (fun hx => ?_); unfold x; clear x; rotate_left; clear_value x; rotate_right
  with_reducible apply Moves.app (handover_frame ..); decide
  with_reducible apply Moves.app (beginPhase_frame ..); decide
  apply Moves.refl
  with_reducible apply Moves.app (raise_frame ..); decide
  refine Moves.update ?_
  assumption

theorem reportBegins_frame (a0 : State) : Moves [.od, .beat, .can, .pdo, .link, .mem, .sched, .touch] a0 (reportBegins a0) := by
  unfold reportBegins
  with_reducible apply Moves.app (openWindow_frame ..); decide
  with_reducible apply Moves.app (raise_frame ..); decide
  with_reducible apply Moves.app (deliverReport_frame ..); decide
  with_reducible apply Moves.app (beginPhase_frame ..); decide
  apply Moves.refl

theorem quietBegins_frame (a0 : State) : Moves [.od, .beat, .can, .pdo, .sched, .test] a0 (quietBegins a0) := by
  unfold quietBegins
  with_reducible apply Moves.app (raise_frame ..); decide
  with_reducible apply Moves.app (markEligible_frame ..); decide
  with_reducible apply Moves.app (closeWindow_frame ..); decide
  with_reducible apply Moves.app (beginPhase_frame ..); decide
  apply Moves.refl

theorem actPhaseBoundary_frame (a0 : Phase) (a1 : Int) (a2 : State) : Moves [.od, .draws, .beat, .log, .can, .pdo, .link, .mem, .sched, .touch, .test] a2 (actPhaseBoundary a0 a1 a2) := by
  unfold actPhaseBoundary
  with_reducible apply Moves.ite
  apply Moves.refl
  split
  with_reducible apply Moves.app (scanBegins_frame ..); decide
  apply Moves.refl
  with_reducible apply Moves.app (processBegins_frame ..); decide
  apply Moves.refl
  with_reducible apply Moves.app (reportBegins_frame ..); decide
  apply Moves.refl
  with_reducible apply Moves.app (quietBegins_frame ..); decide
  apply Moves.refl
  apply Moves.refl

theorem actPllALoss_frame (a0 : State) : Moves [.clocks] a0 (actPllALoss a0) := by
  unfold actPllALoss
  refine Moves.update ?_
  apply Moves.refl

theorem actPllBLoss_frame (a0 : State) : Moves [.od, .clocks, .beat, .log, .can, .pdo, .link, .sched, .thermal, .test] a0 (actPllBLoss a0) := by
  unfold actPllBLoss
  with_reducible apply Moves.ite
  apply Moves.refl
  extract_lets +onlyGivenNames x; clear_value x
  focus
    extract_lets +onlyGivenNames x; refine Moves.use x ?_ (fun hx => ?_); unfold x; clear x; rotate_left; clear_value x; rotate_right
  refine Moves.update ?_
  apply Moves.refl
  with_reducible apply Moves.ite
  with_reducible apply Moves.app (lossOfB_frame ..); decide
  assumption
  assumption

theorem actPllCLoss_frame (a0 : State) : Moves [.od, .clocks, .beat, .log, .can, .pdo, .link, .sched] a0 (actPllCLoss a0) := by
  unfold actPllCLoss
  with_reducible apply Moves.ite
  apply Moves.refl
  extract_lets +onlyGivenNames x; clear_value x
  focus
    extract_lets +onlyGivenNames x; refine Moves.use x ?_ (fun hx => ?_); unfold x; clear x; rotate_left; clear_value x; rotate_right
  refine Moves.update ?_
  apply Moves.refl
  with_reducible apply Moves.ite
  with_reducible apply Moves.app (lossOfC_frame ..); decide
  assumption
  assumption

theorem actPllDLoss_frame (a0 : State) : Moves [.od, .draws, .replies, .clocks, .aocb, .store, .log, .can, .pdo, .link, .mem, .sched, .tabor, .sense, .touch, .reg, .seq, .update, .test] a0 (actPllDLoss a0) := by
  unfold actPllDLoss
  with_reducible apply Moves.ite
  apply Moves.refl
  extract_lets +onlyGivenNames x; clear_value x
  focus
    extract_lets +onlyGivenNames x; refine Moves.use x ?_ (fun hx => ?_); unfold x; clear x; rotate_left; clear_value x; rotate_right
  refine Moves.update ?_
  apply Moves.refl
  with_reducible apply Moves.app (afterFault_frame ..); decide
  with_reducible apply Moves.app (faultAll_frame ..); decide
  assumption

theorem actPllRelock_frame (a0 : Fin 4) (a1 : State) : Moves [.od, .draws, .clocks, .can, .pdo, .link, .reg] a1 (actPllRelock a0 a1) := by
  unfold actPllRelock
  with_reducible apply Moves.ite
  apply Moves.refl
  split
  refine Moves.update ?_
  apply Moves.refl
  refine Moves.update ?_
  apply Moves.refl
  with_reducible apply Moves.foldl; intro _ _ _
  with_reducible apply Moves.app (tryRetry_frame ..); decide
  assumption
  refine Moves.update ?_
  apply Moves.refl
  apply Moves.refl

theorem actRecoveryLoaderStart_frame (a0 : State) : Moves [.od, .live, .power, .log, .can, .pdo, .link, .sched] a0 (actRecoveryLoaderStart a0) := by
  unfold actRecoveryLoaderStart
  with_reducible apply Moves.ite
  apply Moves.refl
  extract_lets +onlyGivenNames x; clear_value x
  extract_lets +onlyGivenNames x; clear_value x
  extract_lets +onlyGivenNames x; clear_value x
  extract_lets +onlyGivenNames x; clear_value x
  focus
    extract_lets +onlyGivenNames x; refine Moves.use x ?_ (fun hx => ?_); unfold x; clear x; rotate_left; clear_value x; rotate_right
  with_reducible apply Moves.app (State.set_frame ..); decide
  with_reducible apply Moves.app (State.set_frame ..); decide
  with_reducible apply Moves.app (State.set_frame ..); decide
  with_reducible apply Moves.app (State.set_frame ..); decide
  apply Moves.refl
  focus
    extract_lets +onlyGivenNames x; refine Moves.use x ?_ (fun hx => ?_); unfold x; clear x; rotate_left; clear_value x; rotate_right
  with_reducible apply Moves.app (startPort_frame ..); decide
  with_reducible apply Moves.app (State.set_frame ..); decide
  with_reducible apply Moves.app (refreshVersions_frame ..); decide
  with_reducible apply Moves.app (State.set_frame ..); decide
  assumption
  refine Moves.update ?_
  assumption

theorem resetNFalls_frame (a0 : State) (a1 : Bool) : Moves [.od, .live, .draws, .replies, .power, .clocks, .aocb, .beat, .store, .log, .can, .pdo, .link, .mem, .sched, .tabor, .sense, .touch, .reg, .seq, .pack, .thermal, .update, .test] a0 (resetNFalls a0 a1) := by
  unfold resetNFalls
  with_reducible apply Moves.app (hardReset_frame ..); decide
  refine Moves.update ?_
  apply Moves.refl

theorem actResetNPulse_frame (a0 : Nat) (a1 : Bool) (a2 : State) : Moves [.od, .live, .draws, .replies, .power, .clocks, .aocb, .beat, .store, .log, .can, .pdo, .link, .mem, .sched, .tabor, .sense, .touch, .reg, .seq, .pack, .thermal, .update, .test] a2 (actResetNPulse a0 a1 a2) := by
  unfold actResetNPulse
  with_reducible apply Moves.ite
  apply Moves.refl
  with_reducible apply Moves.ite
  with_reducible apply Moves.app (resetNFalls_frame ..); decide
  apply Moves.refl
  with_reducible apply Moves.ite
  with_reducible apply Moves.app (resetNFalls_frame ..); decide
  with_reducible apply Moves.app (State.draw_frame ..); decide
  apply Moves.refl
  with_reducible apply Moves.app (State.draw_frame ..); decide
  apply Moves.refl

theorem toClocks_frame (a0 : State) : Moves [.power, .aocb] a0 (toClocks a0) := by
  unfold toClocks
  refine Moves.update ?_
  apply Moves.refl

theorem actResetNRelease_frame (a0 : State) : Moves [.power, .aocb] a0 (actResetNRelease a0) := by
  unfold actResetNRelease
  with_reducible apply Moves.ite
  apply Moves.refl
  extract_lets +onlyGivenNames x; clear_value x
  focus
    extract_lets +onlyGivenNames x; refine Moves.use x ?_ (fun hx => ?_); unfold x; clear x; rotate_left; clear_value x; rotate_right
  refine Moves.update ?_
  apply Moves.refl
  with_reducible apply Moves.ite
  assumption
  split
  refine Moves.update ?_
  assumption
  assumption
  with_reducible apply Moves.app (toClocks_frame ..); decide
  assumption

theorem actResume_frame (a0 : State) : Moves [.od, .live, .draws, .replies, .tdo, .power, .clocks, .aocb, .beat, .store, .log, .can, .pdo, .link, .mem, .sched, .tabor, .sense, .touch, .reg, .seq, .pack, .thermal, .update, .test] a0 (actResume a0) := by
  unfold actResume
  with_reducible apply Moves.app (viaDap_frame ..); decide
  apply Moves.refl

theorem actSelfBuckCheck_frame (a0 : Bool) (a1 : State) : Moves [.power, .aocb] a1 (actSelfBuckCheck a0 a1) := by
  unfold actSelfBuckCheck
  with_reducible apply Moves.ite
  apply Moves.refl
  with_reducible apply Moves.ite
  extract_lets +onlyGivenNames x; clear_value x
  focus
    extract_lets +onlyGivenNames x; refine Moves.use x ?_ (fun hx => ?_); unfold x; clear x; rotate_left; clear_value x; rotate_right
  refine Moves.update ?_
  apply Moves.refl
  with_reducible apply Moves.ite
  assumption
  with_reducible apply Moves.app (toClocks_frame ..); decide
  assumption
  extract_lets +onlyGivenNames x; clear_value x
  focus
    extract_lets +onlyGivenNames x; refine Moves.use x ?_ (fun hx => ?_); unfold x; clear x; rotate_left; clear_value x; rotate_right
  refine Moves.update ?_
  apply Moves.refl
  with_reducible apply Moves.ite
  assumption
  extract_lets +onlyGivenNames x; clear_value x
  extract_lets +onlyGivenNames x; clear_value x
  extract_lets +onlyGivenNames x; clear_value x
  focus
    extract_lets +onlyGivenNames x; refine Moves.use x ?_ (fun hx => ?_); unfold x; clear x; rotate_left; clear_value x; rotate_right
  refine Moves.update ?_
  assumption
  with_reducible apply Moves.app (recordCause_frame ..); decide
  assumption

theorem actSelfBuckRetry_frame (a0 : State) : Moves [.power] a0 (actSelfBuckRetry a0) := by
  unfold actSelfBuckRetry
  with_reducible apply Moves.ite
  refine Moves.update ?_
  apply Moves.refl
  apply Moves.refl

theorem clocksStep_frame (a0 : State) (a1 : Bool) (a2 : Bool) (a3 : Nat) (a4 : Nat) (a5 : Option Nat) : Moves [.od, .power, .clocks, .aocb] a0 (clocksStep a0 a1 a2 a3 a4 a5) := by
  unfold clocksStep
  extract_lets +onlyGivenNames x; clear_value x
  with_reducible apply Moves.ite
  refine Moves.update ?_
  apply Moves.refl
  extract_lets +onlyGivenNames x; clear_value x
  extract_lets +onlyGivenNames x; clear_value x
  extract_lets +onlyGivenNames x; clear_value x
  extract_lets +onlyGivenNames x; clear_value x
  extract_lets +onlyGivenNames x; clear_value x
  extract_lets +onlyGivenNames x; clear_value x
  extract_lets +onlyGivenNames x; clear_value x
  focus
    extract_lets +onlyGivenNames x; refine Moves.use x ?_ (fun hx => ?_); unfold x; clear x; rotate_left; clear_value x; rotate_right
  refine Moves.update ?_
  apply Moves.refl
  with_reducible apply Moves.app (State.set_frame ..); decide
  assumption

theorem actStartupClocksStep_frame (a0 : Bool) (a1 : Bool) (a2 : Nat) (a3 : Nat) (a4 : Option Nat) (a5 : State) : Moves [.od, .power, .clocks, .aocb] a5 (actStartupClocksStep a0 a1 a2 a3 a4 a5) := by
  unfold actStartupClocksStep
  with_reducible apply Moves.ite
  with_reducible apply Moves.app (clocksStep_frame ..); decide
  apply Moves.refl
  apply Moves.refl

theorem actStartupLbistSlot_frame (a0 : Bool) (a1 : Bool) (a2 : State) : Moves [.od, .power, .aocb, .test] a2 (actStartupLbistSlot a0 a1 a2) := by
  unfold actStartupLbistSlot
  extract_lets +onlyGivenNames x; clear_value x
  with_reducible apply Moves.ite
  apply Moves.refl
  extract_lets +onlyGivenNames x; clear_value x
  focus
    extract_lets +onlyGivenNames x; refine Moves.use x ?_ (fun hx => ?_); unfold x; clear x; rotate_left; clear_value x; rotate_right
  refine Moves.update ?_
  apply Moves.refl
  with_reducible apply Moves.ite
  assumption
  focus
    extract_lets +onlyGivenNames x; refine Moves.use x ?_ (fun hx => ?_); unfold x; clear x; rotate_left; clear_value x; rotate_right
  with_reducible apply Moves.app (State.setFlag_frame ..); decide
  assumption
  refine Moves.update ?_
  assumption

theorem actStep_frame (a0 : State) : Moves [.od, .live, .draws, .replies, .tdo, .power, .clocks, .aocb, .beat, .store, .log, .can, .pdo, .link, .mem, .sched, .tabor, .sense, .touch, .reg, .seq, .pack, .thermal, .update, .test] a0 (actStep a0) := by
  unfold actStep
  with_reducible apply Moves.app (viaDap_frame ..); decide
  apply Moves.refl

theorem loseVaon_frame (s : State) : Moves [.od, .live, .draws, .replies, .tdo, .power, .clocks, .aocb, .beat, .store, .log, .can, .pdo, .link, .mem, .sched, .tabor, .sense, .touch, .reg, .seq, .pack, .thermal, .update, .test] s (loseVaon s) := by
  refine ⟨fun p hp => ?_, fun h => ?_⟩
  · cases p <;> first | exact absurd (by decide) hp | skip
    unfold loseVaon abandonRecord
    dsimp only [Part.same]
    split <;> rfl
  · refine ⟨Memory.reset_wf, ?_, values_nil_wf⟩
    have h1 := ((abandonRecord_frame s).keeps h).2.1
    exact values_filter_wf _ _ h1

theorem actVaonLoss_frame (a0 : State) : Moves [.od, .live, .draws, .replies, .tdo, .power, .clocks, .aocb, .beat, .store, .log, .can, .pdo, .link, .mem, .sched, .tabor, .sense, .touch, .reg, .seq, .pack, .thermal, .update, .test] a0 (actVaonLoss a0) := by
  unfold actVaonLoss
  with_reducible apply Moves.ite
  with_reducible apply Moves.app (loseVaon_frame ..); decide
  apply Moves.refl
  apply Moves.refl

theorem actVaonValid_frame (a0 : Option Nat) (a1 : Option Nat) (a2 : Bool) (a3 : State) : Moves [.od, .power, .clocks, .aocb, .thermal, .test] a3 (actVaonValid a0 a1 a2 a3) := by
  unfold actVaonValid
  with_reducible apply Moves.ite
  apply Moves.refl
  extract_lets +onlyGivenNames x; clear_value x
  extract_lets +onlyGivenNames x; clear_value x
  extract_lets +onlyGivenNames x; clear_value x
  extract_lets +onlyGivenNames x; clear_value x
  extract_lets +onlyGivenNames x; clear_value x
  extract_lets +onlyGivenNames x; clear_value x
  extract_lets +onlyGivenNames x; clear_value x
  extract_lets +onlyGivenNames x; clear_value x
  extract_lets +onlyGivenNames x; clear_value x
  focus
    extract_lets +onlyGivenNames x; refine Moves.use x ?_ (fun hx => ?_); unfold x; clear x; rotate_left; clear_value x; rotate_right
  refine Moves.update ?_
  apply Moves.refl
  focus
    extract_lets +onlyGivenNames x; refine Moves.use x ?_ (fun hx => ?_); unfold x; clear x; rotate_left; clear_value x; rotate_right
  with_reducible apply Moves.app (State.setFlag_frame ..); decide
  with_reducible apply Moves.app (State.set_frame ..); decide
  assumption
  with_reducible apply Moves.app (packPending_frame ..); decide
  assumption

theorem vinFalls_frame (a0 : State) (a1 : Bool) : Moves [.power] a0 (vinFalls a0 a1) := by
  unfold vinFalls
  refine Moves.update ?_
  apply Moves.refl

theorem vinStaysLost_frame (a0 : State) (a1 : Bool) (a2 : Bool) : Moves [.od, .live, .draws, .replies, .power, .clocks, .aocb, .beat, .store, .log, .can, .pdo, .link, .mem, .sched, .tabor, .sense, .touch, .reg, .seq, .pack, .thermal, .update, .test] a0 (vinStaysLost a0 a1 a2) := by
  unfold vinStaysLost
  extract_lets +onlyGivenNames x; clear_value x
  focus
    extract_lets +onlyGivenNames x; refine Moves.use x ?_ (fun hx => ?_); unfold x; clear x; rotate_left; clear_value x; rotate_right
  with_reducible apply Moves.app (vinFalls_frame ..); decide
  apply Moves.refl
  with_reducible apply Moves.ite
  assumption
  with_reducible apply Moves.ite
  assumption
  with_reducible apply Moves.ite
  with_reducible apply Moves.app (lossEnds_frame ..); decide
  with_reducible apply Moves.app (raise_frame ..); decide
  assumption
  with_reducible apply Moves.app (vinLostActs_frame ..); decide
  with_reducible apply Moves.app (raise_frame ..); decide
  assumption

theorem ridesHoldUp_frame (a0 : State) (a1 : Nat) : Moves [.od, .power, .aocb, .log, .link, .sched] a0 (ridesHoldUp a0 a1) := by
  unfold ridesHoldUp
  with_reducible apply Moves.app (logInterruption_frame ..); decide
  with_reducible apply Moves.app (raise_frame ..); decide
  with_reducible apply Moves.app (raise_frame ..); decide
  with_reducible apply Moves.app (setLossDur_frame ..); decide
  apply Moves.refl

theorem returnedAtRest_frame (a0 : State) : Moves [.od, .live, .draws, .power, .clocks, .aocb, .beat, .store, .log, .can, .pdo, .link, .mem, .sched, .tabor, .sense, .touch, .reg, .seq, .pack, .thermal, .update, .test] a0 (returnedAtRest a0) := by
  unfold returnedAtRest
  split
  with_reducible apply Moves.app (startFromVin_frame ..); decide
  apply Moves.refl
  with_reducible apply Moves.app (startFromVin_frame ..); decide
  apply Moves.refl
  with_reducible apply Moves.ite
  with_reducible apply Moves.app (restartAfterLoss_frame ..); decide
  apply Moves.refl
  apply Moves.refl
  apply Moves.refl

theorem actVinReturned_frame (a0 : Nat) (a1 : State) : Moves [.od, .live, .draws, .power, .clocks, .aocb, .beat, .store, .log, .can, .pdo, .link, .mem, .sched, .tabor, .sense, .touch, .reg, .seq, .pack, .thermal, .update, .test] a1 (actVinReturned a0 a1) := by
  unfold actVinReturned
  with_reducible apply Moves.ite
  apply Moves.refl
  extract_lets +onlyGivenNames x; clear_value x
  focus
    extract_lets +onlyGivenNames x; refine Moves.use x ?_ (fun hx => ?_); unfold x; clear x; rotate_left; clear_value x; rotate_right
  refine Moves.update ?_
  apply Moves.refl
  with_reducible apply Moves.ite
  assumption
  with_reducible apply Moves.ite
  split
  assumption
  assumption
  with_reducible apply Moves.app (returnedAtRest_frame ..); decide
  with_reducible apply Moves.app (setLossDur_frame ..); decide
  assumption
  focus
    extract_lets +onlyGivenNames x; refine Moves.use x ?_ (fun hx => ?_); unfold x; clear x; rotate_left; clear_value x; rotate_right
  with_reducible apply Moves.app (raise_frame ..); decide
  with_reducible apply Moves.app (setLossDur_frame ..); decide
  assumption
  with_reducible apply Moves.ite
  with_reducible apply Moves.app (restartAfterLoss_frame ..); decide
  assumption
  with_reducible apply Moves.ite
  assumption
  with_reducible apply Moves.ite
  with_reducible apply Moves.app (offPack_frame ..); decide
  assumption
  with_reducible apply Moves.app (State.set_frame ..); decide
  refine Moves.update ?_
  assumption

theorem actVinLost_frame (a0 : Bool) (a1 : Option (Fin 5)) (a2 : Bool) (a3 : State) : Moves [.od, .live, .draws, .replies, .power, .clocks, .aocb, .beat, .store, .log, .can, .pdo, .link, .mem, .sched, .tabor, .sense, .touch, .reg, .seq, .pack, .thermal, .update, .test] a3 (actVinLost a0 a1 a2 a3) := by
  unfold actVinLost
  split
  with_reducible apply Moves.app (vinStaysLost_frame ..); decide
  apply Moves.refl
  with_reducible apply Moves.ite
  with_reducible apply Moves.app (ridesHoldUp_frame ..); decide
  apply Moves.refl
  with_reducible apply Moves.app (actVinReturned_frame ..); decide
  with_reducible apply Moves.app (vinStaysLost_frame ..); decide
  apply Moves.refl

theorem actVinOvervoltageFall_frame (a0 : State) : Moves [.power] a0 (actVinOvervoltageFall a0) := by
  unfold actVinOvervoltageFall
  with_reducible apply Moves.ite
  apply Moves.refl
  extract_lets +onlyGivenNames x; clear_value x
  refine Moves.update ?_
  apply Moves.refl

theorem actVinValidRise_frame (a0 : State) : Moves [.od, .live, .draws, .power, .clocks, .aocb, .beat, .store, .log, .can, .pdo, .link, .mem, .sched, .tabor, .sense, .touch, .reg, .seq, .pack, .thermal, .update, .test] a0 (actVinValidRise a0) := by
  unfold actVinValidRise
  extract_lets +onlyGivenNames x; clear_value x
  extract_lets +onlyGivenNames x; clear_value x
  focus
    extract_lets +onlyGivenNames x; refine Moves.use x ?_ (fun hx => ?_); unfold x; clear x; rotate_left; clear_value x; rotate_right
  refine Moves.update ?_
  apply Moves.refl
  with_reducible apply Moves.ite
  with_reducible apply Moves.app (startFromVin_frame ..); decide
  refine Moves.update ?_
  assumption
  assumption

theorem actVsysUvlo_frame (a0 : State) : Moves [.od, .live, .draws, .power, .clocks, .aocb, .beat, .store, .log, .can, .pdo, .link, .mem, .sched, .tabor, .sense, .touch, .reg, .seq, .pack, .thermal, .update, .test] a0 (actVsysUvlo a0) := by
  unfold actVsysUvlo
  with_reducible apply Moves.ite
  apply Moves.refl
  extract_lets +onlyGivenNames x; clear_value x
  extract_lets +onlyGivenNames x; clear_value x
  focus
    extract_lets +onlyGivenNames x; refine Moves.use x ?_ (fun hx => ?_); unfold x; clear x; rotate_left; clear_value x; rotate_right
  with_reducible apply Moves.ite
  with_reducible apply Moves.app (clearLost_frame ..); decide
  apply Moves.refl
  apply Moves.refl
  focus
    extract_lets +onlyGivenNames x; refine Moves.use x ?_ (fun hx => ?_); unfold x; clear x; rotate_left; clear_value x; rotate_right
  with_reducible apply Moves.app (State.set_frame ..); decide
  with_reducible apply Moves.app (disarm_frame ..); decide
  with_reducible apply Moves.app (resetDomains_frame ..); decide
  assumption
  extract_lets +onlyGivenNames x; clear_value x
  extract_lets +onlyGivenNames x; clear_value x
  refine Moves.update ?_
  assumption

theorem actWatchdogExpiry_frame (a0 : Bool) (a1 : State) : Moves [.od, .live, .draws, .replies, .power, .clocks, .aocb, .beat, .store, .log, .can, .pdo, .link, .mem, .sched, .tabor, .sense, .touch, .reg, .seq, .pack, .thermal, .update, .test] a1 (actWatchdogExpiry a0 a1) := by
  unfold actWatchdogExpiry
  with_reducible apply Moves.ite
  focus
    extract_lets +onlyGivenNames x; refine Moves.use x ?_ (fun hx => ?_); unfold x; clear x; rotate_left; clear_value x; rotate_right
  with_reducible apply Moves.app (hardReset_frame ..); decide
  apply Moves.refl
  with_reducible apply Moves.ite
  refine Moves.update ?_
  assumption
  assumption
  apply Moves.refl

theorem actWatchdogService_frame (a0 : Bool) (a1 : State) : Moves [.power, .tabor] a1 (actWatchdogService a0 a1) := by
  unfold actWatchdogService
  extract_lets +onlyGivenNames x; clear_value x
  with_reducible apply Moves.ite
  apply Moves.refl
  with_reducible apply Moves.ite
  refine Moves.update ?_
  apply Moves.refl
  with_reducible apply Moves.ite
  apply Moves.refl
  refine Moves.update ?_
  apply Moves.refl

theorem actXinAbsentRecheck_frame (a0 : Bool) (a1 : Bool) (a2 : Nat) (a3 : Nat) (a4 : Option Nat) (a5 : State) : Moves [.od, .power, .clocks, .aocb] a5 (actXinAbsentRecheck a0 a1 a2 a3 a4 a5) := by
  unfold actXinAbsentRecheck
  with_reducible apply Moves.ite
  with_reducible apply Moves.app (clocksStep_frame ..); decide
  apply Moves.refl
  apply Moves.refl

theorem floatRails_frame (a0 : State) : Moves [.od, .reg] a0 (floatRails a0) := by
  unfold floatRails
  with_reducible apply Moves.foldl; intro _ _ _
  with_reducible apply Moves.ite
  with_reducible apply Moves.app (railOff_frame ..); decide
  assumption
  assumption
  apply Moves.refl

theorem actXinLoss_frame (a0 : State) : Moves [.od, .clocks, .reg, .thermal] a0 (actXinLoss a0) := by
  unfold actXinLoss
  with_reducible apply Moves.ite
  apply Moves.refl
  focus
    extract_lets +onlyGivenNames x; refine Moves.use x ?_ (fun hx => ?_); unfold x; clear x; rotate_left; clear_value x; rotate_right
  with_reducible apply Moves.app (floatRails_frame ..); decide
  apply Moves.refl
  refine Moves.update ?_
  assumption

end Sys2Proof.Machine
end

