-- ==== Sys2Proof/Laws/Claims.lean ====
section
/-!
SUPPORT. How a claim about a command follows from its effect: from the frame of the effect and what holds of the state it leaves.
-/

namespace Sys2Proof

open Machine

/-- A command that ends nobody's wait does what its effect does. -/
theorem Does.of_observed {c : Instr} {s u : State} {l m : List Part} {P : State → Prop} (hx : exec c s = observed u) (hm : Moves m s u)
    (hl : ∀ p ∈ m, p ∈ Part.pdo :: l) (hP : P (immediates u)) : Does c s l P :=
  ⟨immediates u, hx, (hm.only.mono hl).trans ((immediates_only u).mono (by simp)), hP⟩

/-- A command of the core does what its effect and an INIT that waits do. -/
theorem Does.of_launched {c : Instr} {s u : State} {l m : List Part} {P : State → Prop} (hx : exec c s = launched u) (hm : Moves m s (beginInits (bankFreed u)))
    (hl : ∀ p ∈ m, p ∈ Part.pdo :: l) (hP : P (immediates (beginInits (bankFreed u)))) : Does c s l P :=
  ⟨_, hx, (hm.only.mono hl).trans ((immediates_only _).mono (by simp)), hP⟩

/-- A command that leaves nothing that waits does what its effect does. -/
theorem Does.of_settled {c : Instr} {s u : State} {l m : List Part} {P : State → Prop} (hx : exec c s = settled u) (hu : settleAll u = u) (hm : Moves m s u)
    (hl : ∀ p ∈ m, p ∈ Part.pdo :: l) (hP : P (immediates u)) : Does c s l P :=
  ⟨immediates u, by rw [hx]; simp [settled, hu], (hm.only.mono hl).trans ((immediates_only u).mono (by simp)), hP⟩

/-- A command that may end another agent's wait brings its effect. -/
theorem Brings.of_settled {c : Instr} {s u : State} {l m : List Part} {P : State → Prop} (hx : exec c s = settled u) (hm : Moves m s u)
    (hl : ∀ p ∈ m, p ∈ Part.pdo :: l) (hP : P u) : Brings c s l P := ⟨u, hx, hm.only.mono hl, hP⟩

/-- Where nothing waits, a command that leaves what waits alone does no more than its effect. -/
theorem Does.of_brings {c : Instr} {s : State} {l : List Part} {P : State → Prop} (h : Brings c s l fun u => settleAll u = u ∧ P (immediates u)) :
    Does c s l P := by
  obtain ⟨u, hx, ho, hu, hP⟩ := h
  exact ⟨_, by rw [hx, hu], ho.trans ((immediates_only u).mono (by simp)), hP⟩

/-- A port command that may be given is carried out and answered. -/
theorem portCommand_ok {s : State} {p : Port} {i n : Nat} {f : State → State × Status} (h : MayWrite s p i n) :
    portCommand s p i n f = (f s).1.reply p (f s).2 [] := by
  simp [portCommand, h.1, h.2]

end Sys2Proof
end

