-- ==== Sys2Proof/Laws/Ready.lean ====
section
/-!
SUPPORT. How an instruction of the Tabor core comes to its effect: what stands before it and after it does nothing where the core is ready.
-/

namespace Sys2Proof

open Machine

/-- With nothing on its way, time passes without effect. -/
theorem Machine.Core.pass_idle {c : Core} (n : Nat) (hm : c.muls = []) (hl : c.loads = []) : c.pass n = c := by
  cases c; simp_all [Core.pass]

/-- The core put back is the state. -/
theorem Machine.State.setCore_self (s : State) : s.setCore s.core = s := rfl

/-- An instruction that the core carries out has its effect, with nothing before it. -/
theorem CoreFree.issue {s : State} (h : CoreFree s) (srcs : List Nat) (f : State → State) : issue s srcs f = f s := by
  obtain ⟨h1, h2, h3, h4, h5, h6, h7, h8, h9, h10, h11, h12, h13, -, -, hmv, -⟩ := h
  have hw : wake s = s := by simp [wake, h2]
  have hb : s.breakMatch = 0 := by
    simp [State.breakMatch, h6, bit, List.range, List.range.loop]
  have hm : ({ s with tabor := { s.tabor with moveDue := false } } : State) = s := by rw [← hmv]
  have hb : beforeIssue s = (s, true) := by
    unfold beforeIssue
    rw [hm, hb]
    simpa [h3] using h13
  simp [Machine.issue, h1, hw, hb, h2, Core.pass_idle _ h10 h11, State.setCore_self]

/-- The loop rule of the model is that of the claims. -/
theorem following_eq (c : Core) : ({ c with pc := (c.following c.rsa c.rea).1, rc := (c.following c.rsa c.rea).2 } : Core) = inSequence c := by
  simp only [inSequence, Core.following]
  by_cases h : c.pc = c.rea
  · by_cases h2 : c.rc = 0#32
    · simp [h, h2]
    · by_cases h3 : c.rc = 1#32 <;> simp [h, h2, h3]
  · simp [h]

/-- Retiring in sequence leaves a LOCK sequence. -/
theorem inSequence_lock (c : Core) : (inSequence c).lock = c.lock := by
  simp only [inSequence]; split
  · split <;> rfl
  · rfl

/-- The core after an instruction that goes on in sequence, or to a target. -/
def goesTo (c : Core) (t : Option Word) : Core := t.elim (inSequence c) (fun x => { c with pc := x })

/-- Outside a LOCK sequence, with nothing on its way, an instruction retires at once. -/
theorem advance_ready {s : State} (hl : s.core.lock = none) (hm : s.core.muls = []) (hd : s.core.loads = []) (n : Nat) (t : Option Word) :
    advance s n t s.core.rsa s.core.rea = ({ s with tabor := { s.tabor with core := goesTo s.core t, inString := false } }, false) := by
  unfold advance
  rw [Core.pass_idle n hm hd]
  cases t
  · have := following_eq s.core
    have h2 := inSequence_lock s.core
    rw [hl] at h2
    simp only [goesTo, Option.elim]
    rw [← this] at h2 ⊢
    simp only at h2
    simp only [h2, State.setCore]
  · simp [hl, State.setCore, goesTo]

/-- A transfer of control leaves a LOCK sequence. -/
theorem goesTo_lock (c : Core) (t) : (goesTo c t).lock = c.lock := by
  cases t; exact inSequence_lock c; rfl

/-- An instruction that leaves the core as `c` retires, and nothing follows it. -/
theorem retireAt_ready {s u : State} {c : Core} (h : CoreFree s) (hu : u = s.setCore c) (hl : c.lock = none) (hm : c.muls = [])
    (hd : c.loads = []) (n : Nat) (t : Option Word) :
    retireAt u n t = { s with tabor := { s.tabor with core := goesTo c t, inString := false } } := by
  subst hu
  have ha := advance_ready (s := s.setCore c) (n := n) (t := t) hl hm hd
  have hl' : (s.setCore c).core.lock = none := hl
  unfold retireAt retire
  rw [hl']
  dsimp only
  rw [ha]
  obtain ⟨h1, h2, h3, h4, h5, h6, h7, h8, h9, h10, h11, h12, h13, hec, hen, -⟩ := h
  have hlk := goesTo_lock c t
  rw [hl] at hlk
  simp [boundaryHalt, settleBudget, State.setCore, State.core, h3, h4, h5, h8, h9, hec, hen, hlk]

/-- An instruction whose effect is on the core alone retires. -/
theorem Retires.of {i : Instr} {s u : State} {c : Core} (h : CoreFree s) (hx : exec i s = launched u)
    (hu : u = { s with tabor := { s.tabor with core := c, inString := false } }) : Retires i s c := by
  subst hu
  have hq := h.2.2.2.2.2.2.2.2.2.2.2.2.2.2.2.2
  have hf := bankFreed_of_none (s := { s with tabor := { s.tabor with core := c, inString := false } }) hq.2 hq.1
  have hb := beginInits_of_none_waiting (s := { s with tabor := { s.tabor with core := c, inString := false } }) h.2.2.2.2.2.2.2.2.2.2.2.1
  refine ⟨_, hx, ?_, ?_⟩
  · rw [hf, hb]; refine Only.trans ?_ ((immediates_only _).mono (by simp))
    intro p hp
    cases p <;> simp_all [Part.same]
  · rw [hf, hb]; exact (immediates_only _ .tabor (by decide))

/-- An arithmetic instruction retires with its result and its flags. -/
theorem Retires.alu {i : Instr} {s : State} (h : CoreReady s) {d : Nat} {srcs f op} (hx : exec i s = launched (Machine.alu s d srcs f op)) {v : Word} {g : Flg}
   (h1 : (op s.core).1 = v) (h2 : s.core.flg.taken (op s.core).2 f = g) : Retires i s (inSequence { s.core.setReg d v with flg := g }) := by
  subst h1 h2
  refine Retires.of h.1 hx ?_
  have hh : CoreFree s := h.1
  obtain ⟨⟨a1, h2, h3, h4, h5, h6, h7, h8, h9, h10, h11, -⟩, hl⟩ := h
  unfold Machine.alu
  rw [CoreFree.issue hh]
  refine retireAt_ready (t := none) hh rfl ?_ ?_ ?_ 1
  all_goals simp only [Core.setReg]; split <;> simp_all

end Sys2Proof
end

