-- ==== Sys2Proof/Machine/Balls.lean ====
section
/-!
DEFINITION. The balls the device drives (Table 2.2, R53): what each is at in a state. In a hard reset and until its function starts, a ball has the
state of Table 2.2; after that its function's own chapter decides its level, and `working` says so where that level is a waveform.
-/

namespace Sys2Proof.Machine

/-- The balls that the device drives (Table 2.2). -/
inductive Ball where
  | insw | batg
  | pwm (p : Fin 16) | exen (n : Fin 8)
  | charge
  | pack
  | fanPwm (c : Fin 4)
  | shdnN
  | tx (n : Fin 128) | guard (n : Fin 2) | btn (n : Fin 8) | hvout
  | canTxd (l : Line) | canStb (l : Line)
  | ktx (lane : Fin 4)
  | qspiClk | qspiCsN | qspiIo (n : Fin 4)
  | tdo | toll | syncout
  | irq (n : Fin 8)
deriving DecidableEq, Repr

/-- What a ball is at. -/
inductive BallAt where
  | undriven | low | high | highZ
  /-- an open-drain ball that pulls nothing -/
  | released
  /-- HVOUT discharged through 10 kΩ -/
  | discharged
  /-- CML lanes without signal -/
  | electricalIdle
  /-- its function drives it -/
  | working
  /-- the boundary register drives it (R712) -/
  | boundary
deriving DecidableEq, Repr

/-- VD33, VD18 and VCORE are there: the self-bucks regulate (R84, R85). -/
def State.vd33 (s : State) : Bool := s.power.selfBuck == .regulating

/-- The supply of a ball is there (Table 2.2). -/
def Ball.supplied (s : State) : Ball → Bool
  | .insw | .batg => !s.power.uvlo
  | .exen _ | .pack | .shdnN | .toll => s.power.vaonValid
  | _ => s.vd33

/-- The balls that a boundary-scan instruction drives: the digital outputs of the VD33 and VAON supplies (R712). -/
def Ball.scanned : Ball → Bool
  | .insw | .batg | .tx _ | .guard _ | .btn _ | .hvout | .ktx _ | .tdo => false
  | _ => true

/-- An IRQ pin is asserted: a vector routed to it has pin-pending set and mask clear (R273). -/
def State.irqAsserted (s : State) (n : Nat) : Bool :=
  (List.range 320).any (fun v =>
    let r := s.routing v
    bit r 31 && bit r 29 && bits r 16 3 == n && s.flag 0x2621 (v / 32 + 1) (v % 32) && !s.flag 0x2622 (v / 32 + 1) (v % 32))

/-- An IRQ pin by its mode in 0x2620: high impedance when disabled, push-pull active high, or open-drain active low (R273). -/
def State.irqPin (s : State) (n : Nat) : BallAt :=
  match s.get 0x2620 (n + 1) with
  | 1 => if s.irqAsserted n then .high else .low
  | 2 => if s.irqAsserted n then .low else .released
  | _ => .highZ

/-- A transceiver's standby input: low for a line in use of a port that has started, else high (R199, R240). -/
def State.canStb (s : State) (l : Line) : BallAt := if s.can.started && s.lineInUse l then .low else .high

/-- The level of a ball that is supplied and whose function, not a boundary scan, decides (Table 2.2). -/
def State.ballLevel (s : State) : Ball → BallAt
  | .insw => if s.power.insw then .high else .low
  | .batg => if s.power.batg then .high else .low
  | .pwm p => if (nth s.reg.phases p.val PhaseSt.reset).driven then .working else .highZ
  | .exen n => if s.flag 0x4205 1 n.val then .high else .low
  | .charge => if s.charging && !s.pack.stageOff then .working else .low
  | .pack => if s.up then .working else .released
  | .fanPwm c => if s.thermal.running && s.get (fanObj c.val) 1 ≠ 0 then .working else .highZ
  | .shdnN => if s.thermal.shdnLow then .low else .released
  | .tx _ => if s.sense.power = .off then .low else .working
  | .guard _ => if s.sense.power = .off then .low else .working
  | .btn _ => if s.sense.power = .off then .highZ else .working
  | .hvout => if s.sense.power = .off then .discharged else .working
  | .canTxd l => if s.lineRuns l then .working else .high
  | .canStb l => s.canStb l
  | .ktx lane =>
    if s.linkState = 0 || s.linkState = 1 || s.linkState = 8 || s.get 0x2030 1 ≤ lane.val then .electricalIdle else .working
  | .qspiClk => if decide (s.power.step = .bootRom) || s.up || s.inLoader then .working else .low
  | .qspiCsN => if decide (s.power.step = .bootRom) || s.up || s.inLoader then .working else .high
  | .qspiIo _ => if decide (s.power.step = .bootRom) || s.up || s.inLoader then .working else .highZ
  | .tdo => if s.test.session then .working else .highZ
  | .toll => if s.tollToggles then .working else .low
  | .syncout => if s.up && s.get 0x4020 2 < 16 && (s.rail (s.get 0x4020 2)).enabled then .working else .low
  | .irq n => if s.up then s.irqPin n.val else .highZ

/-- What a ball is at (R53): undriven without its supply, and as the boundary register has it while a scan instruction drives the balls. -/
def State.ball (s : State) (b : Ball) : BallAt :=
  if !b.supplied s then .undriven
  else if s.test.tap = .highz && b.scanned then .highZ
  else if s.test.tap.drives && b.scanned then .boundary
  else s.ballLevel b

end Sys2Proof.Machine
end

