-- ==== Sys2Proof/Tests/Slice0.lean ====
section
/-!
SUPPORT. The tests: well-formedness refused for each of its checks, states that meet the hypotheses of the statements, and small single commands with results worked out from
the spec's text.
-/

namespace Sys2Proof.Tests

open Machine

set_option Elab.async false

/-! ### States that the tests start from -/

/-- VAON valid, VIN present and the clocks locked, at a step of start-up. -/
def powered (k : StartStep) : State := { State.reset with
  power := { Power.reset with
    vaonValid := true, vinValid := true, vinLost := false, uvlo := false, insw := true, selfBuck := .regulating, step := k, watchdog := ⟨true, true, 1000, false⟩ }
  clocks := ⟨true, false, true, true, true, true, true, false⟩ }

/-- Firmware runs, in KEEPALIVE. -/
def up : State := { powered .firmware with
  aocb := { Aocb.reset with pstate := .keepalive, target := .keepalive }
  tabor := { Tabor.reset with held := false, run := .running } }

/-! ### Well-formed commands: an ill-formed one for each check -/

/-- Operands beyond their fields, one for each check of `Instr.wf`. -/
theorem test_ill_formed_1 : ([
    .startupClocksStep true true 4081 0 none,
    .startupClocksStep true true 0 4081 none,
    .xinAbsentRecheck true true 4081 0 none,
    .xinAbsentRecheck true true 0 4081 none,
    .vinReturned (2 ^ 32),
    .downbeat 65536 0 ⟨0, 0, 0⟩,
    .downbeat 0 65536 ⟨0, 0, 0⟩,
    .syncReception .A (some 256) 0,
    .objectRead .C 65536 0 true,
    .objectRead .C 0 256 true,
    .objectWrite .C 65536 0 0 0,
    .objectWrite .C 0 256 0 0,
    .objectWrite .C 0 0 0 9,
    .segmentRead .C 65536 0 0 0,
    .segmentRead .C 0 256 0 0,
    .segmentRead .C 0 0 (2 ^ 32) 0,
    .segmentRead .C 0 0 0 (2 ^ 32),
    .segmentWrite .C 65536 0 0 [],
    .segmentWrite .C 0 256 0 [],
    .segmentWrite .C 0 0 (2 ^ 32) [],
    .segmentWrite .C 0 0 0 [256],
    .descriptorQuery .C 65536 0,
    .descriptorQuery .C 0 256,
    .rcLatchRead .C 65536 0 true,
    .rcLatchRead .C 0 256 true,
    .segmentFillTimeout .C 65536 0 true,
    .segmentFillTimeout .C 0 256 false,
    .saveParameters .C 256 0,
    .saveParameters .C 0 (2 ^ 32)] : List Instr).all (fun i => !i.wf) = true := by decide +kernel

/-- Operands beyond their fields. -/
theorem test_ill_formed_2 : ([
    .restoreDefaultParameters .C 256 0,
    .restoreDefaultParameters .C 0 (2 ^ 32),
    .nmtStartRemoteNode .A 256 0,
    .nmtStopRemoteNode .A 256 0,
    .nmtEnterPreOperational .A 256 0,
    .nmtResetApplication .A 256 0,
    .nmtResetCommunication .A 256 0,
    .lssSwitchStateGlobal 256,
    .lssSwitchStateSelective .A (2 ^ 32) 0 0 0,
    .lssSwitchStateSelective .A 0 (2 ^ 32) 0 0,
    .lssSwitchStateSelective .A 0 0 (2 ^ 32) 0,
    .lssSwitchStateSelective .A 0 0 0 (2 ^ 32),
    .lssConfigureNodeId .A 256,
    .lssConfigureBitTiming .A 256 0,
    .lssConfigureBitTiming .A 0 65536,
    .lssActivateBitTiming 65536,
    .lssIdentifyRemoteSlave .A (2 ^ 32) 0 0 0 0 0,
    .lssIdentifyRemoteSlave .A 0 (2 ^ 32) 0 0 0 0,
    .lssIdentifyRemoteSlave .A 0 0 (2 ^ 32) 0 0 0,
    .lssIdentifyRemoteSlave .A 0 0 0 (2 ^ 32) 0 0,
    .lssIdentifyRemoteSlave .A 0 0 0 0 (2 ^ 32) 0,
    .lssIdentifyRemoteSlave .A 0 0 0 0 0 (2 ^ 32),
    .lssFastscan .A (2 ^ 32) 0 0 0,
    .lssFastscan .A 0 256 0 0,
    .lssFastscan .A 0 0 256 0,
    .lssFastscan .A 0 0 0 256,
    .canErrorDetected .A true 9,
    .timeReceived [256],
    .timeReceived (List.replicate 9 0),
    .sdoInitiateDownload [256]] : List Instr).all (fun i => !i.wf) = true := by decide +kernel

/-- Operands beyond their fields. -/
theorem test_ill_formed_3 : ([
    .sdoInitiateDownload (List.replicate 9 0),
    .sdoDownloadSegment [256],
    .sdoDownloadSegment (List.replicate 9 0),
    .sdoInitiateUpload [256],
    .sdoInitiateUpload (List.replicate 9 0),
    .sdoUploadSegment [256],
    .sdoUploadSegment (List.replicate 9 0),
    .sdoBlockDownloadInitiate [256],
    .sdoBlockDownloadInitiate (List.replicate 9 0),
    .sdoBlockDownloadSegment [256],
    .sdoBlockDownloadSegment (List.replicate 9 0),
    .sdoBlockDownloadEnd [256],
    .sdoBlockDownloadEnd (List.replicate 9 0),
    .sdoBlockUploadInitiate [256],
    .sdoBlockUploadInitiate (List.replicate 9 0),
    .sdoBlockUploadAck [256],
    .sdoBlockUploadAck (List.replicate 9 0),
    .sdoAbortReceived [256],
    .sdoAbortReceived (List.replicate 9 0),
    .usdoRequest 256 0 .abort,
    .usdoRequest 0 256 .abort,
    .rpdoReceived 0 [256],
    .detectComplete 256,
    .retrainComplete 9,
    .mrd 65536 0 0,
    .mrd 0 65536 0,
    .mrd 0 0 (2 ^ 64),
    .mwr (2 ^ 64) [],
    .mwr 0 [256],
    .cpl 65536 0 []] : List Instr).all (fun i => !i.wf) = true := by decide +kernel

/-- Operands beyond their fields. -/
theorem test_ill_formed_4 : ([
    .cpl 0 256 [],
    .cpl 0 0 [256],
    .orq 65536 0 [],
    .orq 0 256 [],
    .orq 0 0 [256],
    .dbell 65536 0,
    .dbell 0 (2 ^ 32),
    .cfgrd 65536 0,
    .cfgrd 0 (2 ^ 32),
    .mrdCompletionTimeout 65536,
    .streamSourcesWrite .C (2 ^ 32),
    .streamPacketFormed 0 (2 ^ 64) none [],
    .streamPacketFormed 0 0 (some (2 ^ 32)) [],
    .streamPacketFormed 0 0 none (⟨16384, false, false⟩ :: List.replicate 1023 ⟨0, false, false⟩),
    .streamPacketFormed 16 0 none (⟨4096, false, false⟩ :: List.replicate 1023 ⟨0, false, false⟩),
    .raiseUserVector 65536,
    .pageFillComplete 1048576 [],
    .pageFillComplete 0 [256],
    .pageFillFailed 1048576,
    .writeBackComplete 640,
    .prefetchComplete 1048576 [],
    .prefetchComplete 0 [256],
    .tlbInvalidatePage .C 1048576,
    .tlbEvictPage .C 1048576,
    .pageTableBaseWrite .C (2 ^ 32),
    .ringPush .C 0 [256],
    .ringIndexWrite .C 0 true (2 ^ 32),
    .taskDisable .C 0 (2 ^ 32),
    .debugRegisterAccess 65536 none,
    .burstEnd 0 88 [] [] false,
    .burstEnd 0 0 [16384] [] false,
    .burstEnd 0 0 [1] [(32768, 0)] false,
    .burstEnd 0 0 [1] [] true,
    .telemetryOutput 0 [4096],
    .tIllegal 0,
    .contactStuckTimeout true 256] : List Instr).all (fun i => !i.wf) = true := by decide +kernel

/-- Operands beyond their fields. -/
theorem test_ill_formed_5 : ([
    .targetVoltageWrite .C 0 65536,
    .powerStateRequest .C 256,
    .chargerConfigurationWrite .C 256 0,
    .chargerConfigurationWrite .C 0 (2 ^ 32),
    .packPoll [] (some 65536),
    .logCursorWrite .C (2 ^ 64),
    .logWindowRead .C (2 ^ 32) true,
    .integratorRecord .C [256],
    .programDataWrite .C 256 none [] true,
    .programDataWrite .C 0 (some (2 ^ 32)) [] true,
    .programDataWrite .C 0 none [256] true,
    .programControlStop .C 256,
    .programControlStart .C 256,
    .programControlClear .C 256,
    .programControlVerify .C 256,
    .programControlActivate .C 256 true,
    .jtagSamplePreload (2 ^ 146),
    .jtagDap true 128 0,
    .jtagDap true 0 (2 ^ 32),
    .jtagAocb (2 ^ 32),
    .jtagBypass 256,
    .lifecycleToField .C (2 ^ 32),
    .unlockResponse .C [256],
    .programNodeIdBase .C (2 ^ 32) true,
    .programPackKey .C 0 (2 ^ 256) true,
    .programIntegratorKeyHash .C (2 ^ 256) true,
    .programDebugKeyHash .C (2 ^ 256) true,
    .bootRomStart ⟨true, ⟨true, 2 ^ 256, 0, 0, 0⟩, BankFound.reset⟩,
    .bootRomStart ⟨true, ⟨true, 0, 2 ^ 32, 0, 0⟩, BankFound.reset⟩,
    .bootRomStart ⟨true, BankFound.reset, ⟨true, 0, 0, 2 ^ 32, 0⟩⟩] : List Instr).all (fun i => !i.wf) = true := by decide +kernel

/-- Operands beyond their fields. -/
theorem test_ill_formed_6 : ([
    .bootRomStart ⟨true, BankFound.reset, ⟨true, 0, 0, 0, 2 ^ 32⟩⟩,
    .objectWrite .C 0 0 256 1,
    .canFrameAccepted .A ⟨2048, [], false, false, false⟩ 0,
    .canFrameAccepted .A ⟨0, [256], false, false, false⟩ 0,
    .canFrameAccepted .A ⟨0, List.replicate 9 0, false, false, false⟩ 0,
    .canFrameAccepted .A ⟨0, List.replicate 65 0, true, false, false⟩ 0,
    .usdoRequest 0 0 (.read 65536 0),
    .usdoRequest 0 0 (.bulkRead 0 256),
    .usdoRequest 0 0 (.begin_ 0 0 (2 ^ 32) true),
    .usdoRequest 0 0 (.segment 256 [] true),
    .usdoRequest 0 0 (.segment 0 (List.replicate 65 0) true),
    .usdoRequest 0 0 (.write 65536 0 []),
    .usdoRequest 0 0 (.write 0 256 []),
    .usdoRequest 0 0 (.write 0 0 [256]),
    .sdoTimeout (some (256, 0)),
    .sdoTimeout (some (0, 256)),
    .rpdoReceived 0 (List.replicate 65 0),
    .flitReceived (List.replicate 255 0) 0 0,
    .flitReceived (256 :: List.replicate 255 0) 0 0,
    .streamPacketFormed 0 0 none (List.replicate 1023 ⟨0, false, false⟩),
    .terminationTimeout true (.bytes [256]),
    .topoffExpiry true (.bytes [256]),
    .shipEntry true (.bytes [256]),
    .authenticationExchange (.bytes [256]) true,
    .authenticationResponse (.bytes [256]) (.bytes []) true (.bytes []),
    .authenticationResponse (.bytes []) (.bytes [256]) true (.bytes []),
    .authenticationResponse (.bytes []) (.bytes []) true (.bytes [256]),
    .writeBackLifeRecord .C true (.bytes [256]),
    .lifeWriteBackHourly true (.bytes [256]),
    .packPoll [some (2 ^ 32)] none,
    .updateReject .C ⟨true, 2 ^ 256, 0, 0, 0⟩,
    .lineTestComplete [(256, 0)]] : List Instr).all (fun i => !i.wf) = true := by decide +kernel

/-- Operands beyond their fields. -/
theorem test_ill_formed_7 : ([
    .lineTestComplete [(0, 256)]] : List Instr).all (fun i => !i.wf) = true := by decide +kernel

/-- Operands at the ends of their fields are well formed. -/
theorem test_well_formed : ([.objectWrite .C 65535 255 (2 ^ 64 - 1) 8, .mrd 65535 65535 (2 ^ 64 - 1), .canErrorDetected .A true 8, .writeBackComplete 639,
    .burstEnd 0 87 [0] [] true, .jtagSamplePreload (2 ^ 146 - 1), .rpdoReceived 63 (List.replicate 64 255)] : List Instr).all Instr.wf = true := by decide +kernel

/-! ### States that meet the hypotheses of the statements

One theorem for each statement with hypotheses; each of its conjuncts is one clause's hypotheses on one state, at a boundary value where the clause has a range. -/

theorem test_meets_AlwaysOnSupply : (Canonical State.reset ∧ State.reset.power.vaonValid = false)
    ∧ (up.power.vaonValid = true ∧ up.log.queue = [] ∧ (descOf 0x5F00 1).isSome ∧ (descOf 0x1018 1).isSome) := by decide +kernel

/-- The supply step with the self-bucks in a state. -/
def supply (b : SelfBuck) (n : Nat) (low : Bool) : State :=
  { powered .supply with power := { (powered .supply).power with selfBuck := b, attempts := n, resetNLow := low } }

/-- The LBIST step before a slot. -/
def lbistAt (n : Nat) : State := { powered .lbist with power := { (powered .lbist).power with lbistSlot := n } }

theorem test_meets_StartUpSteps :
    (Canonical (powered .idle) ∧ (powered .idle).power.vaonValid = true ∧ (powered .idle).power.armedRise = true ∧ (powered .idle).power.step = .idle
      ∧ (powered .idle).aocb.pstate ≠ .ship)
    ∧ up.power.step ≠ .idle
    ∧ ((supply .starting 0 false).atStep .supply = true ∧ (supply .starting 0 false).power.selfBuck = .starting ∧ (supply .starting 0 false).power.resetNLow = false)
    ∧ ((supply .starting 1 false).atStep .supply = true ∧ (supply .starting 1 false).power.attempts < 2)
    ∧ ((supply .starting 2 false).atStep .supply = true ∧ (supply .starting 2 false).power.attempts = 2)
    ∧ ((supply .stopped 1 false).atStep .supply = true ∧ 1 ≤ (supply .stopped 1 false).power.attempts ∧ (supply .stopped 1 false).power.resetNLow = false)
    ∧ ((supply .stopped 0 true).atStep .supply = true ∧ (supply .stopped 0 true).power.resetNLow = true)
    ∧ ((supply .regulating 0 true).atStep .supply = true ∧ (supply .regulating 0 true).power.selfBuck = .regulating)
    ∧ (Canonical (lbistAt 23) ∧ (lbistAt 23).atStep .lbist = true ∧ (lbistAt 23).clocks.pllA = true ∧ (lbistAt 23).power.lbistSlot < 24 ∧ (false || true) = true) := by
  decide +kernel

/-- The clocks step, XIN found absent or not. -/
def clocksStep (absent : Bool) : State := { powered .clocks with aocb := { Aocb.reset with boot := { BootStat.reset with xinAbsent := absent } } }

theorem test_meets_ClocksStep :
    ((clocksStep false).atStep .clocks = true ∧ (clocksStep false).aocb.boot.xinAbsent = false ∧ Canonical (clocksStep false))
    ∧ ((clocksStep true).atStep .clocks = true ∧ (clocksStep true).aocb.boot.xinAbsent = true) ∧ (7 ≤ 7 ∧ 4080 * 7 % 7 = 0) ∧ (249 < 250 ∧ 750 < 751 ∧ 250 ≤ 750) := by decide +kernel

/-- The boot ROM's step, with the loader to follow or not. -/
def bootStep (loader : Bool) : State := { powered .bootRom with update := { Update.reset with loader := loader } }

theorem test_meets_BootAndFirmwareStart :
    (Canonical (lbistAt 24) ∧ (lbistAt 24).atStep .lbist = true ∧ (lbistAt 24).clocks.pllA = true ∧ (lbistAt 24).power.lbistSlot = 24
      ∧ (lbistAt 24).lbistHalted = false ∧ (lbistAt 24).aocb.straps.bootsel = false ∧ (lbistAt 24).update.record = none)
    ∧ ((bootStep true).atStep .bootRom = true ∧ (bootStep true).clocks.pllA = true ∧ (bootStep true).update.loader = true)
    ∧ ((bootStep false).atStep .bootRom = true ∧ (bootStep false).update.loader = false) ∧ up.atStep .bootRom = false
    ∧ { lbistAt 24 with aocb := { Aocb.reset with straps := { Straps.reset with bootsel := true } } }.aocb.straps.bootsel = true
    ∧ { lbistAt 24 with update := { Update.reset with hash0 := false } }.update.hash0 = false
    ∧ (let s : State := { bootStep false with clocks := { (bootStep false).clocks with pllB := false, pllC := false } }
      s.atStep .bootRom = true ∧ s.clocks.pllA = true ∧ s.update.loader = false ∧ s.clocks.pllB = false ∧ s.clocks.pllC = false) := by decide +kernel

/-- On the pack, VIN lost, the pack trusted or not. -/
def onPack (trust : Nat) : State :=
  { (up.set 0x4320 1 trust).set 0x2010 4 1 with power := { up.power with vinLost := true, insw := false, batg := true, interruption := true } }

/-- The emergency order at its end. -/
def emergencyEnd : State := { up with
  aocb := { up.aocb with pstate := .emergency, target := .emergency }, power := { up.power with vinLost := true }, seq := { Seq.reset with parallel := true } }

theorem test_meets_InputLossAndReturn :
    (powered .idle).power.step = .idle ∧ (onPack 2).power.vinLost = true
    ∧ (let s := up.set 0x4320 1 2
      Canonical s ∧ s.up = true ∧ s.judgesVin = true ∧ s.trusted = true ∧ s.aocb.pstate ≠ .emergency)
    ∧ (let s := up.set 0x4320 1 0
      Canonical s ∧ s.up = true ∧ s.judgesVin = true ∧ s.packCondition = 0 ∧ s.aocb.pstate ≠ .emergency ∧ s.inEmergency = false ∧ s.collapses = true)
    ∧ (let s : State := { emergencyEnd with power := { emergencyEnd.power with vinLost := false } }
      s.judgesVin = true ∧ s.aocb.pstate = .emergency ∧ s.power.emergWait = false)
    ∧ (let s : State := { up with power := { up.power with vinOv := true } }
      s.power.vinOv = true ∧ s.power.vaonValid = true ∧ s.power.batg = false ∧ s.aocb.pstate ≠ .ship ∧ s.get 0x2010 4 = 0 ∧ (s.set 0x2010 4 2).get 0x2010 4 = 2
        ∧ (s.set 0x2010 4 1).get 0x2010 4 = 1)
    ∧ (Canonical (onPack 2) ∧ (onPack 2).up = true ∧ (onPack 2).power.vaonValid = true ∧ (onPack 2).power.vinLost = true ∧ (onPack 2).onPack = true
      ∧ (onPack 2).aocb.pstate ≠ .emergency)
    ∧ up.power.vinLost = false
    ∧ (Canonical emergencyEnd ∧ emergencyEnd.aocb.pstate = .emergency ∧ emergencyEnd.power.emergWait = false ∧ emergencyEnd.seq.run = none
      ∧ emergencyEnd.seq.parallel = true ∧ emergencyEnd.railsDown = true ∧ emergencyEnd.power.vinLost = true)
    ∧ up.aocb.pstate ≠ .emergency ∧ (Canonical up ∧ up.power.vaonValid = true ∧ up.power.uvlo = false) := by decide +kernel

/-- A hard reset's power-down order at its end. -/
def resetEnd : State := { up with power := { up.power with hardReset := true } }

theorem test_meets_HardResets :
    (999 < 1000 ∧ 10000 ≤ 10000 ∧ 1000 ≤ 1000 ∧ 9999 < 10000)
    ∧ (Canonical up ∧ up.up = true ∧ up.aocb.pstate ≠ .emergency ∧ up.aocb.pstate ≠ .ship ∧ up.power.vaonValid = true ∧ up.power.watchdog.armed = true
      ∧ up.update.restarting = false ∧ up.tabor.run = .running ∧ up.power.watchdog.expired = false)
    ∧ (let s : State := { powered .loader with power := { (powered .loader).power with watchdog := Watchdog.start } }
      s.power.watchdog.armed = true ∧ s.update.restarting = false ∧ s.power.watchdog.byFirmware = false)
    ∧ State.reset.power.watchdog.armed = false
    ∧ (emergencyEnd.power.vaonValid = true ∧ emergencyEnd.aocb.pstate = .emergency ∧ emergencyEnd.power.watchdog.armed = true
      ∧ emergencyEnd.power.watchdog.expired = false ∧ emergencyEnd.tabor.run ≠ .halted)
    ∧ (resetEnd.power.vaonValid = true ∧ resetEnd.aocb.pstate ≠ .ship)
    ∧ (Canonical resetEnd ∧ resetEnd.power.hardReset = true ∧ resetEnd.power.batgHeld = false ∧ resetEnd.seq.run = none ∧ resetEnd.railsDown = true
      ∧ resetEnd.onPack = false ∧ resetEnd.pack.pressHold = false ∧ resetEnd.power.resetNLow = false ∧ resetEnd.power.selfBuck = .regulating)
    ∧ up.power.hardReset = false := by decide +kernel

theorem test_meets_ClockLosses :
    (up.clocks.xin = true ∧ up.up = true ∧ up.clocks.pllB = true ∧ up.clocks.pllC = true ∧ up.clocks.pllD = true ∧ up.seq.run = none ∧ up.clocks.pllsHeld = false
      ∧ up.clocks.pllA = true)
    ∧ ((bootStep false).clocks.pllB = true ∧ (bootStep false).clocks.pllC = true ∧ (bootStep false).up = false)
    ∧ State.reset.clocks.pllA = false ∧ { up.clocks with pllsHeld := true }.pllsHeld = true := by decide +kernel

theorem test_meets_PathSafeKept : PathSafe up ∧ ∃ t, step up = .next t := ⟨by decide, up, rfl⟩

/-- The downbeat runs, in a phase. -/
def inPhase (p : Phase) : State := { up with beat := { Beat.reset with running := true, phase := p } }

theorem test_meets_DownbeatOpensFrame :
    ((inPhase .quiet).beat.running = true ∧ (inPhase .quiet).clocks.pllA = true) ∧ (up.beat.running = false ∧ Calm up)
    ∧ (Canonical (inPhase .quiet) ∧ (inPhase .quiet).beat.applySet = none) ∧ up.lock = 0 ∧ (up.set 0x2110 1 3).nominal % 5 = 0
    ∧ (let s : State := { up.set 0x2101 3 2 with beat := { Beat.reset with applySet := some up.stagedFrame } }
      Canonical s ∧ s.beat.applySet = some up.stagedFrame ∧ up.stagedFrame.length = 7 ∧ s.lock = 2) := by
  repeat' apply And.intro
  all_goals decide +kernel

theorem test_meets_PhasesAndConfiguration :
    (inPhase .listen).clocks.pllA = true ∧ (inPhase .listen).beat.running = true ∧ (inPhase .listen).beat.phase = .listen ∧ (inPhase .scan).beat.phase = .scan
    ∧ (inPhase .process).beat.phase = .process ∧ (inPhase .report).beat.phase = .report
    ∧ (inPhase .process).can.guard = false
    ∧ { (inPhase .process).can with nmt := .operational }.nmt = .operational
    ∧ ((inPhase .quiet).beat.phase, Phase.scan) ∉ [(Phase.listen, Phase.scan), (.scan, .process), (.process, .report), (.report, .quiet)]
    ∧ MayWrite up .C 0x2100 8 ∧ up.frameOk = true := by decide +kernel

theorem test_meets_ArbiterAnswers :
    Calm up ∧ segment 0x1000 0 = false
    ∧ (MayRead up .D 0x1000 0 ∧ ¬(0x2400 ≤ 0x1000 ∧ 0x1000 ≤ 0x24FF ∧ 0 = 9) ∧ rcLatch 0x1000 0 = false ∧ (0x1000 < 65536 ∧ 0 < 256))
    ∧ (up.up = true ∧ up.checkRead .C 0x6000 0 ≠ .ok ∧ segment 0x6000 0 = false)
    ∧ ((powered .bootRom).up = false ∧ (powered .bootRom).inLoader = false ∧ Calm (powered .bootRom))
    ∧ Port.C ≠ .D ∧ (up.up = true ∧ up.checkWrite .C 0x1018 1 ≠ .ok)
    ∧ (MayWrite up .C 0x2100 1 ∧ 3 ≠ up.sizeNow .C 0x2100 1)
    ∧ (MayWrite up .C 0x2100 2 ∧ isPush 0x2100 2 = false ∧ rowOk 0x2100 2 (keptFields 0x2100 2 (fromLE (toLE (sizeOf 0x2100 2) 0))) = false
      ∧ ¬(0x2400 ≤ 0x2100 ∧ 0x2100 ≤ 0x24FF))
    ∧ (Canonical up ∧ 3 ∈ [1, 2, 3] ∧ MayWrite up .C 0x2100 3 ∧ 1 < 2 ^ (8 * sizeOf 0x2100 3) ∧ rowOk 0x2100 3 19999 = true ∧ rowOk 0x2100 3 20000 = false)
    ∧ up.gateDenies .C 0x1000 0 false = false
    ∧ (rcLatch 0x2621 10 = true ∧ MayRead up .D 0x2621 10 ∧ segment 0x2621 10 = false) := by
  repeat' apply And.intro
  all_goals decide +kernel

theorem test_meets_SegmentAccess :
    Calm up ∧ MayRead up .C 0x2003 1 ∧ (MayWrite up .C 0x2003 2 ∧ 65532 + [1, 2, 3, 4].length ≤ 65536 ∧ 65536 < 65533 + [1, 2, 3, 4].length)
    ∧ (0 < 1 ∧ up.store.exports.length = 4 ∧ nth { Store.reset with exports := [some [1], none, none, none] }.exports 0 none = some [1]
      ∧ nth up.store.exports 0 none = none)
    ∧ (up.segmentAccess .C 0x2003 1 false = .ok ∧ up.can.sdo.mux ≠ (0x2003, 1) ∧ up.segmentAccess .C 0x2003 1 true ≠ .ok)
    ∧ (let s : State := { up with can := { up.can with sdo := .upload 0x2003 1 [] false } }
      s.segmentAccess .C 0x2003 1 false = .ok ∧ s.can.sdo.mux = (0x2003, 1)) := by
  repeat' apply And.intro
  all_goals decide +kernel

/-- A store job, first or second copy, with its retry spent or not. -/
def storing (k : JobKind) (second retried : Bool) : State :=
  { up with store := { Store.reset with job := some ⟨k, up.newImage [], 0, second, retried, .port 0 0x1010 1 0⟩ } }

/-- The staging segment holds an image without records. -/
def staged : State := { up with store := { Store.reset with staging := { up.newImage [] with kind := 2 }.bytes } }

/-- A repair is due, after the boot-up message. -/
def repairDue : State :=
  { up with store := { Store.reset with slots := Store.reset.slots.set 0 (.holds (up.newImage [])), repairDue := some 1 }, can := { Can.reset with started := true, nmt := .preOp } }

theorem test_meets_StoreJobs :
    (Canonical up ∧ Calm up ∧ up.flashRefused = false ∧ up.store.busy = false)
    ∧ (3 ∈ [1, 2, 3] ∧ MayWrite up .C 0x1010 3 ∧ (up.newImage (up.savedRecords 3 ++ up.storedRecords (fun r => !inGroup 3 r.index))).length ≤ 65536)
    ∧ (MayWrite up .C 0x1011 1 ∧ (up.newImage (up.storedRecords (fun r => !inGroup 1 r.index))).length ≤ 65536)
    ∧ (2 ^ 32 - 1 < 2 ^ 32 ∧ 2 ^ 32 - 1 ≠ 0x65766173 ∧ 0 ≠ 0x64616F6C ∧ MayWrite up .C 0x1010 1 ∧ MayWrite up .C 0x1011 3)
    ∧ (MayWrite up .C 0x2003 3 ∧ importHeaderOk (parseImage up.store.staging) = false) := by
  repeat' apply And.intro
  all_goals decide +kernel

theorem test_meets_StoreJobs_ends :
    (Canonical staged ∧ Calm staged ∧ MayWrite staged .C 0x2003 3 ∧ importHeaderOk (parseImage staged.store.staging) = true
      ∧ (parseImage staged.store.staging).records = []
      ∧ (staged.newImage (((staged.set 0x2003 4 0).set 0x2003 5 0).storedRecords (fun r => unitBound r.index r.sub))).length ≤ 65536
      ∧ staged.flashRefused = false ∧ staged.store.busy = false)
    ∧ (Canonical (storing .save false false) ∧ Calm (storing .save false false) ∧ (storing .save false false).store.job.isSome)
    ∧ (Canonical (storing .save true false) ∧ Calm (storing .save true false)) ∧ up.store.job = none
    ∧ (Canonical repairDue ∧ Calm repairDue ∧ repairDue.store.repairDue = some 1 ∧ repairDue.store.chosen.isSome ∧ repairDue.store.job = none ∧ repairDue.up = true
      ∧ repairDue.can.started = true ∧ repairDue.can.nmt ≠ .init ∧ repairDue.flashRefused = false ∧ repairDue.store.current 1 = false) ∧ up.store.repairDue = none := by
  repeat' apply And.intro
  all_goals decide +kernel

/-- The CAN port runs on line A alone, with a node-ID, in an NMT state. -/
def canUp (n : Nmt) : State := { (up.set 0x2021 4 5).set 0x2022 1 1 with can := { Can.reset with started := true, nmt := n } }

/-- Both lines in use. -/
def bothLines : State := { (canUp .preOp).set 0x2023 1 1 with live := [(0x2020 * 256 + 3, 2)] }

theorem test_meets_NmtCommands :
    ((canUp .preOp).up = true ∧ (canUp .preOp).lineRuns .A = true ∧ (canUp .preOp).can.nmt ≠ .init ∧ (canUp .preOp).nodeId = 5 ∧ 5 ≠ 0xFF
      ∧ ∀ c ∈ [1, 2, 128, 129, 130], (canUp .preOp).nmtCopy c .A 5 0 = false)
    ∧ (canUp .operational).can.nmt = .operational ∧ (up.lineRuns .A = false ∧ Calm up) ∧ (6 ≠ 0 ∧ 6 ≠ (canUp .preOp).nodeId)
    ∧ (let s : State := { bothLines with can := { bothLines.can with nmtSeen := some ⟨.A, 1, 0, 7⟩ } }
      s.lineInUse .A = true ∧ s.lineInUse .B = true ∧ s.can.nmtSeen = some ⟨Line.other .B, 1, 0, 7⟩) := by
  repeat' apply And.intro
  all_goals decide +kernel

/-- The LSS services on a port, configured or not, in the configuration state or not. -/
def lssUp (node : Nat) (cfg set : Bool) : State :=
  { ((canUp .preOp).set 0x2021 4 node).set 0x2021 5 7 with can := { (canUp .preOp).can with lss := ⟨cfg, 0, set, some 500, none⟩ } }

theorem test_meets_LssServices :
    ((lssUp 5 true false).canRuns = true ∧ 1 ≠ 0 ∧ (lssUp 5 true false).nodeId ≠ 0xFF ∧ (lssUp 5 true false).can.nmt ≠ .operational)
    ∧ ((lssUp 255 true true).can.lss.configuring = true ∧ (lssUp 255 true true).nodeId = 0xFF ∧ (lssUp 255 true true).can.lss.nodeSet = true
      ∧ (lssUp 255 true true).get 0x2021 5 ≠ 0xFF ∧ (lssUp 255 true true).inLoader = false)
    ∧ ((lssUp 255 false false).nodeId = 0xFF ∧ (lssUp 255 false false).can.lss.nodeSet = false ∧ (lssUp 255 false false).can.lss.configuring = false
      ∧ (lssUp 255 false false).can.lss.matched ≤ 3 ∧ 31 ≤ 31 ∧ 3 ≤ 3)
    ∧ (Canonical (lssUp 5 true false) ∧ 127 ≤ 127 ∧ (127 < 128 ∧ 128 ≠ 0xFF)) ∧ (lssRate 0 4 = some 125 ∧ (lssUp 5 true false).fdOn = false) ∧ 4 < 5
    ∧ (lssUp 5 true false).can.lss.rate = some 500
    ∧ ((lssUp 5 true false).store.busy = false ∧ (lssUp 5 true false).flashRefused = false ∧ { lssUp 5 true false with store := { Store.reset with flashAbsent := true } }.flashRefused = true)
    ∧ ((0, 0, 0, 0) ≠ ((lssUp 5 true false).identity 0, (lssUp 5 true false).identity 1, (lssUp 5 true false).identity 2, (lssUp 5 true false).identity 3))
    ∧ (lssUp 5 true false).identity 0 ≠ 0 := by decide +kernel

/-- The port with line A in a state. -/
def lineAt (k : Nat) : State := (canUp .preOp).set 0x2022 1 k

theorem test_meets_CanLineEvents :
    (Canonical (canUp .preOp) ∧ (canUp .preOp).lineRuns .A = true ∧ (canUp .preOp).fdOn = false ∧ (canUp .preOp).inForce 0x2020 3 ≤ 1
      ∧ (canUp .preOp).can.emcyDropped = 0 ∧ (canUp .preOp).fifoFull .A = false ∧ (canUp .preOp).seenOnOther .A ⟨5, [], false, false, false⟩ 0 = false)
    ∧ (let s : State := { bothLines with can := { bothLines.can with seen := [⟨.B, 5, [], 0⟩] } }
      Canonical s ∧ s.lineRuns .A = true ∧ s.fifoFull .A = false ∧ s.duplicate .A ⟨5, [], false, false, false⟩ 0 = true)
    ∧ (let s : State := { canUp .preOp with can := { (canUp .preOp).can with fifo := List.replicate 64 (.A, .none) } }
      s.lineRuns .A = true ∧ s.fifoFull .A = true ∧ s.can.emcyDropped = 0)
    ∧ (Canonical up ∧ up.lineRuns .A = false) ∧ ((canUp .preOp).get 0x2022 3 + 8 ≤ 127)
    ∧ (let s := (canUp .preOp).set 0x2022 2 248
      Canonical s ∧ s.lineRuns .A = true ∧ 255 < s.get 0x2022 2 + 8)
    ∧ ((lineAt 3).canRuns = true ∧ (lineAt 3).lineState .A = 3) ∧ (lineAt 1).lineState .A ≠ 3 ∧ (lineAt 4).lineState .A = 4
    ∧ (bothLines.canRuns = true ∧ bothLines.lineInUse .A = true ∧ bothLines.lineInUse .B = true ∧ bothLines.lineState .A = 1)
    ∧ (canUp .preOp).lineInUse .B = false
    ∧ (let s := (canUp .stopped).set 0x1017 0 1000
      s.canRuns = true ∧ s.can.nmt = .stopped ∧ s.nodeId ≠ 0xFF ∧ s.allFaulty = false ∧ s.get 0x1017 0 ≠ 0) ∧ up.can.nmt = .init
    ∧ ({ (canUp .preOp).can with consumers := List.replicate 8 .armed }.consumers[7]? = some .armed ∧ (canUp .preOp).can.consumers[7]? ≠ some .armed)
    ∧ ((canUp .operational).inLoader = false ∧ (List.replicate 6 0).length = 6 ∧ (canUp .operational).can.nmt = .operational)
    ∧ (List.replicate 5 0).length ≠ 6 ∧ (canUp .preOp).can.emcyQ = [] := by decide +kernel

/-- The SDO server in a state, pre-operational. -/
def sdoAt (x : SdoState) : State := { canUp .preOp with can := { (canUp .preOp).can with sdo := x } }

/-- An eight-byte SDO frame: a command, the multiplexer and data. -/
def sdoFrame (c i n : Nat) (d : List Nat) : List Nat := c :: muxBytes i n ++ d

theorem test_meets_SdoTransfers :
    (let s := sdoAt .idle;
      Calm s ∧ s.canRuns = true ∧ s.nodeId ≠ 0xFF ∧ s.can.nmt = .preOp ∧ s.up = true ∧ s.inLoader = false ∧ MayRead s .C 0x1000 0)
    ∧ (let d := sdoFrame 0x21 0x1000 0 [4, 0, 0, 0]
      d.length = 8 ∧ definedStatus (muxIndex d) (muxSub d) = .ok ∧ bit (commandByte d) 1 = false ∧ muxIndex d = 0x1000 ∧ muxSub d = 0)
    ∧ (let d := sdoFrame 0x21 0x6000 0 [0, 0, 0, 0]
      d.length = 8 ∧ definedStatus (muxIndex d) (muxSub d) ≠ .ok ∧ segment (muxIndex d) (muxSub d) = false ∧ bit (commandByte d) 1 = false ∧ nth d 4 0 = 0)
    ∧ (let d := sdoFrame 0xA4 0x1000 0 [127, 0, 0, 0]
      1 ≤ nth d 4 0 ∧ nth d 4 0 ≤ 127 ∧ 127 < nth (sdoFrame 0xA4 0x1000 0 [128, 0, 0, 0]) 4 0)
    ∧ (let d := sdoFrame 0x23 0x2003 2 [1, 2, 3, 4]
      d.length = 8 ∧ bit (commandByte d) 1 = true ∧ segment (muxIndex d) (muxSub d) = true) := by
  repeat' apply And.intro
  all_goals decide +kernel

theorem test_meets_SdoTransfers_segments :
    ((sdoAt (.download 0x1008 0 none [] 0 false)).can.sdo = .download 0x1008 0 none [] 0 false ∧ Calm (sdoAt (.download 0x1008 0 none [] 0 false))
      ∧ bit 0x10 4 ≠ false ∧ bit 0x00 4 = false ∧ bit 0x00 0 = false ∧ segment 0x1008 0 = false ∧ streams 0x1008 = false)
    ∧ ((sdoAt (.upload 0x1008 0 [1, 2, 3, 4, 5, 6, 7, 8] true)).can.sdo = .upload 0x1008 0 [1, 2, 3, 4, 5, 6, 7, 8] true ∧ bit 0x70 4 = true ∧ bit 0x60 4 ≠ true)
    ∧ (let s := sdoAt (.blockDownload 0x1008 0 none [] 0 0 true 127 125 false)
      s.can.sdo = .blockDownload 0x1008 0 none [] 0 0 true 127 125 false ∧ bits 126 0 7 = 125 + 1 ∧ 125 + 1 < 127 ∧ bit 126 7 = false ∧ bits 0 0 7 = 0)
    ∧ 126 < bits 127 0 7
    ∧ (let s := sdoAt (.blockDownload 0x1008 0 (some 7) [1, 2, 3, 4, 5, 6, 7] 7 0 true 127 1 true)
      s.can.sdo = .blockDownload 0x1008 0 (some 7) [1, 2, 3, 4, 5, 6, 7] 7 0 true 127 1 true
        ∧ [1, 2, 3, 4, 5, 6, 7].foldl (fun c x => crc16Bits 8 (c ^^^ (x % 256 * 256))) 0 ≠ fromLE (([0xC1, 0, 0, 0, 0, 0, 0, 0].drop 1).take 2) ∧ 7 = 7 - bits 0xC1 2 3)
    ∧ (let s := sdoAt (.blockUpload 0x1008 0 [1] [1] true 1 true false)
      s.can.sdo = .blockUpload 0x1008 0 [1] [1] true 1 true false ∧ 1 ≤ subBlock 1 1 ∧ 1 ≤ 7 * 1 ∧ (sdoAt (.blockUpload 0x1008 0 [1] [] true 1 true true)).can.sdo
        = .blockUpload 0x1008 0 [1] [] true 1 true true)
    ∧ ((sdoAt (.awaiting 0x1010 1 [0x60])).can.sdo = .awaiting 0x1010 1 [0x60] ∧ Canonical (sdoAt (.awaiting 0x1010 1 [0x60]))) := by decide +kernel

/-- CAN FD on, with USDO sessions open. -/
def usdoAt (l : List UsdoSession) : State :=
  { canUp .preOp with live := [(0x2020 * 256 + 2, 2000)], can := { (canUp .preOp).can with usdo := l } }

theorem test_meets_UsdoSessions :
    (let s := usdoAt [⟨1, 0, .idle⟩, ⟨1, 1, .idle⟩, ⟨1, 2, .idle⟩];
      Canonical s ∧ Calm s ∧ s.canRuns = true ∧ s.nodeId ≠ 0xFF ∧ s.can.nmt = .preOp ∧ s.fdOn = true
        ∧ s.can.usdo.any (fun y => y.client == 2 && y.session == 0) = false ∧ s.can.usdo.length + b2n (s.can.sdo != .idle) < 5 ∧ s.can.usdo.length < 4
        ∧ MayRead s .C 0x1000 0 ∧ ∀ y ∈ s.can.usdo, usdoTag y.client y.session ≠ usdoTag 2 0)
    ∧ 4 ≤ (usdoAt [⟨1, 0, .idle⟩, ⟨1, 1, .idle⟩, ⟨1, 2, .idle⟩, ⟨1, 3, .idle⟩]).can.usdo.length
    ∧ (let s := usdoAt [⟨1, 0, .idle⟩]
      s.fdOn = true ∧ s.can.usdo.any (fun y => y.client == 1 && y.session == 0) = true ∧ definedStatus 0x1000 0 = .ok)
    ∧ (let s := usdoAt [⟨1, 0, .download 0x1008 0 8 false [] 0 255⟩]
      s.transfer 1 0 = .download 0x1008 0 8 false [] 0 255 ∧ 0 ≠ 255 ∧ streams 0x1008 = false ∧ 0 + (List.replicate 8 0).length ≤ 8 ∧ s.transferring 1 0 = true)
    ∧ (usdoAt [⟨1, 0, .upload [7]⟩]).transfer 1 0 = .upload [7]
    ∧ ((canUp .preOp).fdOn = false ∧ Canonical (canUp .preOp)) := by
  repeat' apply And.intro
  all_goals decide +kernel

/-- Operational, with RPDO 64 valid and mapped to 0x4200:03, and a queue of frames. -/
def pdoUp (q : List TxFrame) : State :=
  let s := ((canUp .operational).set 0x143F 1 0x200).set 0x163F 1 0x42000308
  let s := ((s.set 0x163F 0 1).set 0x143F 2 240).set 0x183F 5 10
  { s with can := { s.can with txq := q } }

theorem test_meets_PdoEvents :
    (Canonical (pdoUp []) ∧ (pdoUp []).pdoActive 0x1400 63 = true ∧ ([] : List Nat).length < mapLength ((pdoUp []).mapping (0x1600 + 63)) ∧ (pdoUp []).can.emcyDropped = 0)
    ∧ up.pdoActive 0x1400 0 = false ∧ [2].length = mapLength ((pdoUp []).mapping (0x1600 + 63)) ∧ (pdoUp []).get 0x143F 2 ≤ 240 ∧ 63 < (pdoUp []).can.rpdos.length
    ∧ (splitMapped ((pdoUp []).mapping (0x1600 + 63)) [2]).all (raise (served (pdoUp []) (.rpdo 63)) (320 + 63)).rpdoValueOk = true
    ∧ (let s : State := { pdoUp [] with can := { (pdoUp []).can with rpdos := (List.replicate 64 Rpdo.reset).set 63 { Rpdo.reset with timing := true } } }
      s.pdoActive 0x1400 63 = true ∧ (s.rpdo 63).timing = true)
    ∧ up.can.nmt ≠ .operational
    ∧ (let s := (((pdoUp []).set 0x183F 1 0x1FF).set 0x1A3F 1 0x42000108).set 0x1A3F 0 1
      s.get (0x1800 + 63) 5 ≠ 0 ∧ s.pdoActive 0x1800 63 = true ∧ s.tpdoSync 63 = false ∧ (s.set 0x183F 2 254).tpdoImmediate 63 = false
        ∧ (s.set 0x183F 2 254).tpdoSync 63 = false ∧ (s.set 0x183F 2 254).pdoActive 0x1800 63 = true ∧ Canonical (s.set 0x183F 2 254)) := by
  repeat' apply And.intro
  all_goals decide +kernel

/-- A boot-up or heartbeat frame on line A. -/
def frameOf (k : TxKind) : TxFrame := ⟨k, classic 0x705 [0], true, false, false, false⟩

theorem test_meets_PdoEvents_lines :
    (let s : State := { canUp .preOp with can := { (canUp .preOp).can with txq := [frameOf .heartbeat] } };
      Canonical s ∧ s.lineRuns .A = true ∧ s.can.txq[0]? = some (frameOf .heartbeat) ∧ s.mayNotSend (frameOf .heartbeat) = false ∧ s.can.nmt ≠ .operational ∧ s.can.txq.length ≤ 1
        ∧ s.mayNotSend { frameOf .heartbeat with held := true } = true)
    ∧ (let s : State := { canUp .init with can := { (canUp .init).can with txq := [frameOf .bootUp] } }
      s.lineRuns .A = true ∧ s.can.txq[0]? = some (frameOf .bootUp) ∧ s.can.nmt = .init)
    ∧ up.lineRuns .A = false
    ∧ (let s := (canUp .preOp).set 0x2101 3 2
      Canonical s ∧ s.canRuns = true ∧ s.lock = 2 ∧ s.can.nmt ≠ .operational ∧ s.can.window = false) ∧ (canUp .preOp).lock = 0
    ∧ ((canUp .preOp).set 0x2101 3 3).lock = 3
    ∧ ((canUp .preOp).lineRuns .A = true ∧ Line.A = (canUp .preOp).syncSource ∧ (canUp .preOp).can.otherSync = none ∧ (canUp .preOp).can.nmt ≠ .operational
      ∧ (canUp .preOp).beat.running = false)
    ∧ ((canUp .operational).lineRuns .A = true ∧ Line.A = (canUp .operational).syncSource ∧ ∀ k < 64, ((canUp .operational).rpdo k).held = [])
    ∧ ((bothLines.set 0x2023 1 1).lineRuns .B = true ∧ Line.B ≠ bothLines.syncSource ∧ bothLines.syncOfPeriod 0 = false) ∧ (canUp .preOp).lineRuns .B = false
    ∧ (let s : State := { bothLines with can := { bothLines.can with lastSync := some 0 } }
      s.lineRuns .B = true ∧ s.syncOfPeriod 0 = true)
    ∧ { (canUp .preOp).can with otherSync := some (Line.B, none, 0) }.otherSync = some (.B, none, 0)
    ∧ (let s : State := { (canUp .preOp).set 0x2101 3 1 with beat := { Beat.reset with missRun := 1 } }
      s.can.otherSync = none ∧ s.lock ≠ 0 ∧ s.beat.missRun < 2 ∧ 2 ≤ { s.beat with missRun := 2 }.missRun) := by
  repeat' apply And.intro
  all_goals decide +kernel

/-- The link in a state of Table 7.2, host domain up, KREF present, configured for 4 lanes. -/
def linkAt (k : Nat) : State :=
  let s := ((up.set 0x2030 1 4).set 0x2031 2 4).set 0x2031 1 k
  { s with link := { Link.reset with hostUp := true, trainWidth := 4 }, clocks := { s.clocks with kref := true } }

theorem test_meets_LinkTraining :
    (Canonical (linkAt 2) ∧ (linkAt 2).linkState = 2 ∧ (linkAt 2).widthFound 15 = some 4 ∧ (linkAt 2).widthFound 7 = some 2 ∧ (linkAt 2).widthFound 0 = none ∧ (linkAt 2).link.failedRun < 2)
    ∧ ((linkAt 3).linkState = 3 ∧ (linkAt 4).linkState = 4 ∧ (linkAt 5).linkState = 5)
    ∧ ((linkAt 8).linkState = 8 ∧ (linkAt 8).trainCondition = true)
    ∧ (Canonical (linkAt 7) ∧ (linkAt 7).linkState = 7 ∧ (linkAt 7).retrainWidthOk 4 = true ∧ (linkAt 7).get 0x2032 1 = 0 ∧ (linkAt 7).trainCondition = true)
    ∧ (MayWrite (linkAt 5) .C 0x2030 3 ∧ (linkAt 5).linkState ≠ 6 ∧ Calm (linkAt 5))
    ∧ (Canonical (linkAt 6) ∧ MayWrite (linkAt 6) .C 0x2030 3 ∧ (linkAt 6).linkState = 6 ∧ (linkAt 6).trainCondition = true
      ∧ ((linkAt 6).link.retrains.filter (fun t => decide ((linkAt 6).now - t < 1000000000))).length < 2)
    ∧ ((linkAt 5).linkUp = false ∧ (linkAt 1).linkState ≤ 1 ∧ (linkAt 1).get 0x2030 1 ≠ 0 ∧ (linkAt 1).link.hostUp = true
      ∧ bit (linkAt 1).test.degraded 16 = false ∧ bit (linkAt 1).test.degraded 17 = false) := by decide +kernel

/-- A flit with a type and SEQ, no acknowledgement and PAD for its payload. -/
def flitOf (t : FType) (q : Nat) : Flit := ⟨true, t, q, .none, 0, 0, 0, List.replicate 244 0⟩

/-- LINK_UP with a flit in the replay buffer. -/
def replaying : State := { linkAt 6 with link := { (linkAt 6).link with replay := [⟨0, .dbell 0 1, 0, true⟩], replayRun := 2 } }

theorem test_meets_LinkFlitsAndStream :
    (Canonical (linkAt 5) ∧ 5 ≤ (linkAt 5).linkState ∧ (linkAt 7).linkState ≤ 7 ∧ (Flit.of []).good = false ∧ (1 ≠ 0) ∧ (linkAt 4).linkState < 5
      ∧ 7 < (linkAt 8).linkState)
    ∧ ((flitOf .data 4095).good = true ∧ (flitOf .data 4095).seq < 4096 ∧ (flitOf .data 0).payload.length = 244 ∧ (flitOf .data 0).payload.all (· < 256) = true
      ∧ 255 < 256 ∧ 1023 < 1024)
    ∧ (let b := (flitOf .data 0).bytes
      (Flit.of b).good = true ∧ (Flit.of b).ftype = .data ∧ (Flit.of b).ack ≠ .nak ∧ ((Flit.of b).seq + 4096 - (linkAt 6).link.expected) % 4096 = 0)
    ∧ ((Flit.of (flitOf .data 3968).bytes).seq + 4096 - (linkAt 6).link.expected) % 4096 ≥ 3968
    ∧ (0 < ((Flit.of (flitOf .data 3967).bytes).seq + 4096 - (linkAt 6).link.expected) % 4096
      ∧ ((Flit.of (flitOf .data 3967).bytes).seq + 4096 - (linkAt 6).link.expected) % 4096 < 3968)
    ∧ ((Flit.of (flitOf .idle 0).bytes).good = true ∧ (Flit.of (flitOf .idle 0).bytes).ftype ≠ .data ∧ (Flit.of (flitOf .idle 0).bytes).ack = .none)
    ∧ { (linkAt 6).link with nakSent := true }.nakSent = true
    ∧ (Canonical replaying ∧ replaying.linkState = 6 ∧ replaying.link.replay ≠ [] ∧ replaying.link.replayRun < 3) ∧ (linkAt 6).link.replay = []
    ∧ (MayWrite (linkAt 6) .C 0x2032 1 ∧ 1 < 2 ^ 17 ∧ (linkAt 6).linkUp = true ∧ streamFits 1 ((linkAt 6).get 0x2031 2) = true ∧ streamFits 0 0 = true)
    ∧ ¬(((linkAt 5).linkUp = true ∨ 1 = 0) ∧ streamFits 1 ((linkAt 5).get 0x2031 2) = true)
    ∧ (let s := (linkAt 5).set 0x2032 1 0x10000
      Canonical s ∧ s.up = true ∧ (List.replicate 1024 (⟨0, false, false⟩ : Sample)).length = 1024 ∧ s.linkUp = false ∧ s.link.streams[16]? = some ⟨false, [], false⟩
        ∧ bit (s.get 0x2032 1) 16 = true)
    ∧ (let x : StreamSrc := ⟨true, List.replicate 7 (.dbell 0 0), false⟩
      (List.replicate 16 ⟨false, [], false⟩ ++ [x])[16]? = some x ∧ x.active = true ∧ x.buffer.length < 8)
    ∧ (List.replicate 1023 (⟨0, false, false⟩ : Sample)).length ≠ 1024 := by
  repeat' apply And.intro
  all_goals decide +kernel

/-- LINK_UP with inbound window 0 over the first 4 KiB of SRAM, writable; and with a read outstanding or a window closing. -/
def hostWin : State :=
  let s := ((linkAt 6).set 0x2035 1 0).set 0x2035 2 0xC0000000
  { s with mem := { s.mem with micro := s.mem.micro.set 3 [⟨0, 5, true, false⟩] } }
def reading (u : ReadUse) : State := { linkAt 6 with link := { (linkAt 6).link with tags := [⟨9, u, 15⟩] } }
def closing (a : Asker) : State := { linkAt 6 with link := { (linkAt 6).link with closing := [(15, a)] } }

theorem test_meets_LinkPackets :
    (Canonical (linkAt 6) ∧ (linkAt 6).linkUp = true ∧ (linkAt 6).link.inq = [])
    ∧ (linkAt 6).inboundStatus 0 0 false ≠ 0 ∧ (linkAt 6).inboundStatus 0 5 true ≠ 0 ∧ (linkAt 6).inboundStatus 0x100000 4 true ≠ 0
    ∧ (Canonical hostWin ∧ hostWin.inboundStatus 4092 4 false = 0 ∧ (inRead hostWin 4092 4).2 = .bytes [0, 0, 0, 0] ∧ hostWin.inboundStatus 4092 4 true = 0
      ∧ (inWrite hostWin 4092 [1, 2, 3, 4]).2 matches .bytes _)
    ∧ (linkAt 6).link.tags.find? (fun x => x.tag == 9) = none
    ∧ (Canonical (reading .stale) ∧ (reading .stale).link.tags.find? (fun x => x.tag == 9) = some ⟨9, .stale, 15⟩ ∧ (reading .stale).mem.fills = []
      ∧ (reading .stale).link.pops = [])
    ∧ (bit (2 ^ 63) 63 = true ∧ bits (2 ^ 63) 60 3 < 5 ∧ bits (2 ^ 63) 0 32 = 0) ∧ 5 ≤ bits (7 * 2 ^ 60) 60 3 ∧ 5 ≤ bits (5 * 2 ^ 60) 60 3
    ∧ ((linkAt 6).sched.ring 255).isOpen = false ∧ (256 ≤ 319 ∧ 319 < 320)
    ∧ (((linkAt 6).configWord 0x13C).isSome = true ∧ (linkAt 6).configWord 0x140 = none ∧ (linkAt 6).configWord 2 = none)
    ∧ ((reading (.fill 3)).link.tags.any (fun x => x.window == 15) = true)
    ∧ ((linkAt 6).link.tags.any (fun x => x.window == 15) = false ∧ ∀ e ∈ (closing .none).link.closing, e.1 = 15 → e.2 = .none)
    ∧ ((closing (.port 3 0x2034 48 0)).link.closing = [(15, .port 3 0x2034 48 0)] ∧ (closing (.port 3 0x2034 48 0)).link.tags = []) := by decide +kernel

/-- Vector 319's moderation state, its routing entry and its mask, with the link in a state. -/
def vecAt (k route mask : Nat) (v : Vec) : State :=
  let s := ((linkAt k).set 0x2619 32 route).set 0x2622 10 mask
  { s with link := s.link.setVec 319 v }

theorem test_meets_VectorModeration :
    (Canonical (vecAt 6 0 0 ⟨0, true⟩) ∧ ((linkAt 6).link.vec 319).holdoff = false)
    ∧ (((vecAt 6 0 (2 ^ 31) ⟨1, true⟩).link.vec 319).holdoff = true ∧ (vecAt 6 0 (2 ^ 31) ⟨1, true⟩).masked 319 = true)
    ∧ ((vecAt 6 0 0 ⟨0, true⟩).link.vec 319).count = 0 ∧ (vecAt 5 0 0 ⟨1, true⟩).linkUp = false
    ∧ (let s := vecAt 6 (2 ^ 30) 0 ⟨255, true⟩
      (s.link.vec 319).holdoff = true ∧ s.masked 319 = false ∧ (s.link.vec 319).count ≠ 0 ∧ s.linkUp = true ∧ bit (s.routing 319) 30 = true)
    ∧ (let s := vecAt 6 (2 ^ 31) (2 ^ 31) ⟨255, false⟩
      MayWrite s .T 0x2623 1 ∧ bit (s.routing 319) 31 = true ∧ bit (s.routing 319) 29 = false ∧ s.masked 319 = true)
    ∧ (let s := vecAt 6 (2 ^ 31 + 2 ^ 29) (2 ^ 31) ⟨0, false⟩
      Canonical s ∧ MayWrite s .T 0x2623 1 ∧ bit (s.routing 319) 31 = true ∧ bit (s.routing 319) 29 = true ∧ s.masked 319 = true)
    ∧ (let s := vecAt 6 0 0 ⟨0, false⟩
      MayWrite s .T 0x2623 1 ∧ bit (s.routing 319) 31 = false ∧ 287 < 288 ∧ 319 < 320) := by decide +kernel

/-- Translation is on, with the tables at frame 0 and page 1 backed by flash page 0. -/
def paged : State := ((up.set 0x2200 1 0x80000000).storeWord 0 0x1001).storeWord 0x1008 (2 ^ 63 + 1)

/-- The memory's state with a fill, with a frame's use, or with a prefetch stream past a page. -/
def filling (f : Fill) : State := { paged with mem := { paged.mem with fills := [f], frames := [(512, .filling 1)] } }
def usedAs (u : FrameUse) (out : List Packet) : State :=
  { paged with mem := { paged.mem with frames := [(895, u)] }, link := { Link.reset with out := out } }
def streaming (fills : List Fill) : State :=
  let s := ((paged.set 0x2030 1 4).set 0x2031 1 6)
  { s with mem := { paged.mem with streams := [⟨11, 0, []⟩], fills := fills }, link := { Link.reset with hostUp := true } }

/-- A LOCK sequence of the core holds a bank. -/
def lockHolds (b : Nat) (s : State) : State :=
  { s with tabor := { s.tabor with core := { s.tabor.core with lock := some ⟨0, 1, ⟨[], s.tabor.core.flg, 0⟩, [], [b], []⟩ } } }

/-- Single or double errors in the word the scrubber reads next. -/
def damaged (w : Nat) (e : EccErr) : State := { up with mem := { Mem.reset with scrub := 524287, ecc := [(w, e)] } }

theorem test_meets_PagingEvents :
    (Canonical (damaged 0 .double) ∧ (damaged 0 .double).up = true ∧ (∀ e ∈ (damaged 0 .double).mem.ecc, e.1 ≠ 524287) ∧ (damaged 0 .double).link.inq = []
      ∧ (damaged 0 .double).bankHeld (8 * 524287) = false ∧ (lockHolds 31 (damaged 0 .double)).bankHeld (8 * 524287) = true)
    ∧ (((damaged 524287 .single).mem.scrub, EccErr.double) ∉ (damaged 524287 .single).mem.ecc) ∧ (powered .lbist).up = false
    ∧ (let fl : Fill := ⟨1, 3, some 512, 16, false, true, [], none, none⟩
      let s := filling fl
      Canonical s ∧ s.link.inq = [] ∧ s.mem.fills = [fl] ∧ fl.waiters = [] ∧ s.fillRead fl = true ∧ s.mem.inPool 512 = true ∧ s.fillHeld 1 512 = false
        ∧ (lockHolds 0 s).fillHeld 1 512 = true ∧ (lockHolds 0 s).fillRead fl = true)
    ∧ up.mem.fills.find? (fun x => x.page == 1) = none
    ∧ ((usedAs (.writeBack 1 0 true) []).mem.use 895 = some (.writeBack 1 0 true) ∧ Canonical (usedAs (.writeBack 1 0 true) [])
      ∧ (usedAs (.writeBack 1 0 true) []).writesIn 0 4096 = false ∧ (usedAs (.writeBack 1 0 true) []).mem.fills = []
      ∧ (usedAs (.writeBack 1 0 true) []).mem.retiring.contains 895 = false)
    ∧ (usedAs (.writeBack 1 0 false) [.mwr 4095 [0]]).writesIn 0 4096 = true
    ∧ ((up.set 0x2220 1 0).get 0x2220 1 ≠ 1 ∧ up.wanting 11 = [] ∧ up.mem.streams.find? (fun x => x.engine == 11) = none)
    ∧ (Canonical (streaming []) ∧ (streaming []).get 0x2220 1 = 1 ∧ (streaming []).wanting 11 = [(⟨11, 0, []⟩, 1)] ∧ (streaming []).prefetchHeld = false
      ∧ (streaming []).ofFlash 1 = true ∧ (streaming []).store.flashAbsent = false
      ∧ (streaming []).mem.streams.find? (fun x => x.engine == 11) = some ⟨11, 0, []⟩)
    ∧ (let s : State := { streaming [] with store := { Store.reset with flashAbsent := true } }
      s.wanting 11 = [(⟨11, 0, []⟩, 1)] ∧ s.prefetchHeld = false ∧ s.ofFlash 1 = true ∧ s.store.flashAbsent = true)
    ∧ ((streaming (List.replicate 8 ⟨9, 3, some 512, 16, true, true, [], none, none⟩)).wanting 11 = [(⟨11, 0, []⟩, 1)]
      ∧ (streaming (List.replicate 8 ⟨9, 3, some 512, 16, true, true, [], none, none⟩)).prefetchHeld = true)
    ∧ (let fl : Fill := ⟨1, 3, some 512, 16, true, true, [], none, none⟩
      (filling fl).mem.fills = [fl] ∧ fl.prefetch = true ∧ (filling fl).fillRead fl = true ∧ (filling fl).fillHeld 1 512 = false) := by
  repeat' apply And.intro
  all_goals decide +kernel

theorem test_meets_TlbCommands :
    (Canonical up ∧ MayWrite up .T 0x2210 1 ∧ MayWrite up .D 0x2210 1 ∧ 65535 < 65536)
    ∧ (MayWrite up .T 0x2200 1 ∧ 0x803FFC00 < 2 ^ 32 ∧ up.mem.pinned (bits (0x8007FC00 &&& 0x803FFC00) 12 10) = true
      ∧ bits (0x8007FC00 &&& 0x803FFC00) 10 12 ≠ bits (up.get 0x2200 1) 10 12 ∧ bits (0x80000000 &&& 0x803FFC00) 10 12 = bits (up.get 0x2200 1) 10 12)
    ∧ up.mem.pinned (bits (0x803FFC00 &&& 0x803FFC00) 12 10) = false := by decide +kernel

/-- Ring 255 open with a descriptor and indices. -/
def ringed (d prod cons : Nat) : State :=
  let s := up.set 0x24FF 1 d
  { s with sched := s.sched.setRing 255 { Ring.reset with isOpen := true, opener := 1, prod := prod, cons := cons, frames := [896, 897] } }

theorem test_meets_RingCommands :
    (Canonical up ∧ MayWrite up .C 0x24FF 2 ∧ up.ringOpenRefused 255 = true)
    ∧ (let s := up.set 0x24FF 1 0x10000
      Canonical s ∧ MayWrite s .T 0x24FF 2 ∧ s.ringOpenRefused 255 = false ∧ bit (s.ringDesc 255) 59 = false ∧ MayRead s .D 0x24FF 9 ∧ (s.sched.ring 255).isOpen = false
        ∧ MayWrite s .C 0x24FF 10 ∧ (List.replicate 16 0).length = ringSize (s.ringDesc 255) ∧ (s.sched.ring 255).closing = false ∧ (s.sched.ring 255).linkLoss = false
        ∧ s.ringHeld 255 = false)
    ∧ (let s := ringed 0x10000 1 1
      Canonical s ∧ MayWrite s .C 0x24FF 2 ∧ (s.sched.ring 255).isOpen = true ∧ (s.sched.ring 255).used = 0 ∧ (s.sched.ring 255).used < ringSlots (s.ringDesc 255)
        ∧ bit (s.ringDesc 255) 62 = false ∧ (s.sched.ring 255).closing = false)
    ∧ (let s := ringed 0x10000 0 65535
      MayRead s .D 0x24FF 9 ∧ (s.sched.ring 255).isOpen = true ∧ (s.sched.ring 255).used ≠ 0 ∧ s.mem.ecc = [] ∧ s.ringHeld 255 = false ∧ s.link.pops = []
        ∧ (lockHolds 28 s).ringHeld 255 = true ∧ MayRead (lockHolds 28 s) .D 0x24FF 9 ∧ MayWrite (lockHolds 28 s) .C 0x24FF 10 ∧ bits (s.ringDesc 255) 60 2 ≠ 2)
    ∧ (let s := ringed (0x10000 + 2 ^ 61) 2 0
      MayWrite s .T 0x24FF 10 ∧ ringSlots (s.ringDesc 255) ≤ (s.sched.ring 255).used ∧ bits (s.ringDesc 255) 60 2 = 2 ∧ MayWrite s .C 0x24FF 10 ∧ Canonical s)
    ∧ (let s : State := { ringed 0x10000 2 0 with sched := (ringed 0x10000 2 0).sched.setRing 255 { (ringed 0x10000 2 0).sched.ring 255 with closing := true, linkLoss := true } }
      (s.sched.ring 255).closing = true ∧ bit (s.ringDesc 255) 59 = false ∧ s.sched.pushWait = none ∧ (s.sched.ring 255).linkLoss = true ∧ s.ringHeld 255 = false ∧ (s.sched.ring 255).isOpen = true
        ∧ MayWrite s .C 0x24FF 2 ∧ Canonical s) := by
  repeat' apply And.intro
  all_goals decide +kernel

theorem test_meets_RingCommands_index :
    (let s := ringed 0x10000 2 0;
      Canonical s ∧ MayWrite s .C 0x24FF 4 ∧ ringIndexAllowed (s.ringDesc 255) .C false = false ∧ MayWrite s .C 0x24FF 5
        ∧ ringIndexAllowed (s.ringDesc 255) .C true = true ∧ bit (s.ringDesc 255) 63 = false ∧ s.sched.pushWait = none
        ∧ ({ s.sched.ring 255 with cons := 2 } : Ring).used ≤ ringSlots (s.ringDesc 255)
        ∧ ringSlots (s.ringDesc 255) < ({ s.sched.ring 255 with cons := 3 } : Ring).used) := by decide +kernel

/-- Task 127 at the head of the ready queue, with an action. -/
def ready (action : Nat) (s : State) : State :=
  let s := (s.set 0x257F 5 action).set 0x257F 6 1
  { s with sched := { s.sched.setTask 127 ⟨some ⟨1, [0, 0, 0, 0], 0, 0, 0⟩, [0, 0, 0, 0], none⟩ with ready := [127] } }

/-- TPDO 64 valid, of type 255, mapped. -/
def tpdo64 : State := (((canUp .operational).set 0x1A3F 1 0x42000108).set 0x1A3F 0 1).set 0x183F 1 0x1FF

theorem test_meets_TaskActions :
    (let s := ready (2 ^ 60 + 64) (tpdo64.set 0x183F 2 255);
      Canonical s ∧ s.readyHead = some 127 ∧ (s.sched.task 127).pending.isSome ∧ s.taskKind 127 = 1 ∧ s.taskTpdo (s.taskArg 127) = true
        ∧ s.pdoActive 0x1800 (s.taskArg 127 - 1) = true)
    ∧ (let s := ready (2 ^ 60 + 65) up
      s.taskKind 127 = 1 ∧ s.taskTpdo (s.taskArg 127) = false ∧ Canonical s ∧ s.readyHead = some 127)
    ∧ (let s := ready (2 * 2 ^ 60 + 255) (ringed 0x10000 0 0)
      Canonical s ∧ s.readyHead = some 127 ∧ s.taskKind 127 = 2 ∧ s.taskArg 127 ≤ 255 ∧ s.ringAccepts (s.taskArg 127) = true ∧ s.ringHeld 255 = false
        ∧ (lockHolds 28 s).readyHead = some 127 ∧ (lockHolds 28 s).ringHeld 255 = true ∧ (ready (2 * 2 ^ 60 + 255) up).ringAccepts 255 = false
        ∧ (ready (2 * 2 ^ 60 + 255) up).ringHeld 255 = false)
    ∧ 255 < (ready (2 * 2 ^ 60 + 256) up).taskArg 127
    ∧ (let s := ready (3 * 2 ^ 60 + 7) up
      Canonical s ∧ s.readyHead = some 127 ∧ s.taskKind 127 = 3 ∧ s.flag 0x4800 10 2 = false ∧ s.log.queue.length < 32 ∧ s.log.dropped.count = 0)
    ∧ (let s := ready (4 * 2 ^ 60 + 0) up
      Canonical s ∧ s.readyHead = some 127 ∧ s.taskKind 127 = 4 ∧ PState.ofCode (s.taskArg 127) = some .off ∧ (freeSlot s 127).requestRefusal .off false = none)
    ∧ PState.ofCode ((ready (4 * 2 ^ 60 + 6) up).taskArg 127) = none ∧ (ready (4 * 2 ^ 60 + 6) up).taskKind 127 = 4
    ∧ up.readyHead ≠ some 127
    ∧ (MayWrite (ready 0 up) .C 0x257F 6 ∧ 15 < 16 ∧ bit ((ready 0 up).get 0x257F 6) 0 = true ∧ bit (up.get 0x257F 6) 0 = false) := by decide +kernel

theorem test_meets_SramReadsWhatWasWritten : Memory.wf paged.mem.sram = true ∧ paged.mem.sram ≠ [] := by decide +kernel

/-! #### The core -/

/-- System mode with BEV clear, at a word of the physical window, in slot 7. -/
def core0 : Core := { Core.reset with pc := 0x80001000, mst := ⟨0, false, false, false, false, false, false, false⟩, winb := ⟨0, 1, 7⟩, epc := 0x80001004, wspSys := 0x80000040 }

/-- Firmware runs with a core. -/
def coreAt (c : Core) : State := { up with tabor := { up.tabor with core := c } }

/-- User mode, no program in force, at page 0x10 of object space, which every micro-TLB holds. -/
def userAt (c : Core) : State :=
  let s := coreAt { c with pc := 0x10000, mst := { c.mst with um := true } }
  { s with mem := { s.mem with micro := List.replicate 12 [⟨0x10, 300, true, true⟩] } }

theorem test_meets_RegisterFile : sparseWf core0.regs (fun _ => (0 : Word)) = true ∧ core0.winb.slot < 8 ∧ (1 : Fin 32) ≠ 0 ∧ 4 ≤ 7 ∧ 7 < 8 := by
  repeat' apply And.intro
  all_goals decide +kernel

theorem test_meets_RegisterArithmetic : CoreReady (coreAt core0) ∧ CoreReady (userAt core0) := by
  repeat' apply And.intro
  all_goals decide +kernel

theorem test_meets_ImmediatesAndMultiplier : CoreReady (coreAt core0) ∧ CanEnter (coreAt core0) ∧ Canonical (coreAt core0) ∧ (40 : BitVec 8).toNat ≤ 40 ∧ 40 < (41 : BitVec 8).toNat
    ∧ { core0 with muls := [(2, .set 5)] }.muls = [(2, .set 5)] ∧ 1 < 2 ∧ 2 ≤ 2 ∧ { core0 with muls := [(2, .add 5)] }.muls = [(2, .add 5)]
    ∧ { core0 with muls := [(1, .add (2 ^ 71)), (2, .add (-(2 ^ 72)))] }.muls = [(1, .add (2 ^ 71)), (2, .add (-(2 ^ 72)))] := by
  repeat' apply And.intro
  all_goals decide +kernel

theorem test_meets_SpecialRegisters :
    (CoreReady (coreAt { core0 with acc := -(2 ^ 71) }) ∧ -(2 ^ 71) ≤ { core0 with acc := -(2 ^ 71) }.acc ∧ { core0 with acc := 2 ^ 71 - 1 }.acc < 2 ^ 71)
    ∧ ((coreAt core0).core.mst.um = false ∧ CanEnter (coreAt core0) ∧ Canonical (coreAt core0))
    ∧ (CoreReady (userAt core0) ∧ (userAt core0).core.mst.um = true ∧ CanEnter (userAt core0) ∧ Canonical (userAt core0))
    ∧ 16 < (17 : BitVec 8).toNat ∧ (31 : BitVec 8).toNat ≤ 31 ∧ 31 < (32 : BitVec 8).toNat := by
  repeat' apply And.intro
  all_goals decide +kernel

/-- A LOCK of n instructions at a physical address. -/
def lockWord (c : Core) (a n : Nat) : State := { coreAt c with mem := (coreAt c).mem.store a (toLE 4 (0xC0000009 + 256 * n)) }

theorem test_meets_ControlTransfers :
    (Canonical (coreAt core0) ∧ CoreReady (coreAt core0) ∧ (coreAt core0).targetInLock 0x80001000 = false ∧ CanEnter (coreAt core0))
    ∧ [core0.flg.z, !core0.flg.z][0]? = some false ∧ [core0.flg.z, !core0.flg.z][1]? = some true ∧ (core0.pc + 4 * (0 : BitVec 22).signExtend 32).toNat % 4 = 0
    ∧ (Canonical (lockWord core0 0x1000 8) ∧ CoreReady (lockWord core0 0x1000 8) ∧ CanEnter (lockWord core0 0x1000 8) ∧ (lockWord core0 0x1000 8).targetInLock 0x80001020 = true
      ∧ (lockWord core0 0x1000 8).targetInLock 0x80001024 = false ∧ (core0.pc + 4 * (8 : BitVec 22).signExtend 32).toNat = 0x80001020)
    ∧ (let c := core0.setReg 1 0x80001002
      CoreReady (coreAt c) ∧ Canonical (coreAt c) ∧ CanEnter (coreAt c) ∧ (coreAt c).targetInLock (c.reg 1).toNat = false ∧ (c.reg 1).toNat % 4 ≠ 0 ∧ (c.reg 0).toNat % 4 = 0)
    ∧ (core0.winb.resident < 7 ∧ (core0.pc + 4 * (1 : BitVec 26).signExtend 32).toNat % 4 = 0)
    ∧ (let c := { core0 with winb := ⟨0, 7, 7⟩ }
      CoreReady (coreAt c) ∧ c.winb.resident = 7 ∧ bit c.winb.owner ((c.winb.slot + 2) % 8) = false ∧ c.wspSys.toNat % 64 = 0 ∧ 0x80000000 + 64 ≤ c.wspSys.toNat
        ∧ c.wspSys.toNat ≤ 0x80400000)
    ∧ (let c := { core0 with winb := ⟨0, 2, 7⟩ }
      CoreReady (coreAt c) ∧ (c.reg 23).toNat % 4 = 0 ∧ 1 < c.winb.resident ∧ c.epc.toNat % 4 = 0 ∧ c.flat = false ∧ c.mst.um = false)
    ∧ (let c := core0.setReg 23 2
      CoreReady (coreAt c) ∧ (c.reg 23).toNat % 4 ≠ 0 ∧ CanEnter (coreAt c) ∧ { c with epc := 6 }.epc.toNat % 4 ≠ 0) := by
  repeat' apply And.intro
  all_goals decide +kernel

/-- Task 127, of kind 5 with an owner and a handler, at the head of the core's ready queue. -/
def coreTask (owner handler : Nat) (s : State) : State := ready (5 * 2 ^ 60 + 256 * owner + handler) s

theorem test_meets_ControlTransfers_returns :
    (CoreReady (coreAt core0) ∧ core0.winb.resident = 1 ∧ bit core0.winb.owner 6 = false ∧ core0.wspSys.toNat % 64 = 0 ∧ 0x80000000 ≤ core0.wspSys.toNat
      ∧ core0.wspSys.toNat + 64 ≤ 0x80400000 ∧ (coreAt core0).mem.ecc = [] ∧ sparseWf core0.regs (fun _ => (0 : Word)) = true)
    ∧ (CoreReady (coreAt { core0 with flat := true }) ∧ { core0 with flat := true }.flat = true)
    ∧ (Canonical (userAt core0) ∧ CoreReady (userAt core0) ∧ (userAt core0).core.mst.exl = false ∧ (userAt core0).core.winb.resident < 7 ∧ (userAt core0).core.mst.um = true
      ∧ (userAt core0).tabor.handler = none ∧ CanEnter (userAt core0))
    ∧ (Canonical (coreTask 0 255 (coreAt core0)) ∧ CoreReady (coreTask 0 255 (coreAt core0)) ∧ (coreTask 0 255 (coreAt core0)).firmwareHead = true)
    ∧ (coreAt core0).firmwareHead = false
    ∧ (let c := { core0 with mst := { core0.mst with exl := true } }
      CoreReady (coreAt c) ∧ c.mst.exl = true)
    ∧ (decodeTabor (0xFFFFFFFF : BitVec 32).toNat = none ∧ decodeTabor (0 : BitVec 32).toNat = some (.tAdd 0 0 0 false)) := by
  repeat' apply And.intro
  all_goals decide +kernel

/-- A LOCK sequence under way, with instructions left and buffered stores. -/
def inLock (left : Nat) (stores : List (Nat × Byte)) : Core :=
  { core0 with lock := some ⟨0x80000FFC, left, ⟨[(1, 7)], core0.flg, 0⟩, stores, [0], []⟩ }

theorem test_meets_LockSequences :
    (Canonical (coreAt core0) ∧ CoreFree (coreAt core0) ∧ core0.lock = none ∧ core0.rc.toNat ≤ 1 ∧ (8 : BitVec 8).toNat ≤ 8 ∧ 8 < (9 : BitVec 8).toNat ∧ CanEnter (coreAt core0)
      ∧ (coreAt core0).barredAhead 8 = false)
    ∧ (let s := lockWord core0 0x1004 1
      Canonical s ∧ CoreFree s ∧ CanEnter s ∧ s.barredAhead 1 = true)
    ∧ (let c := { core0 with rc := 2, rea := 0x80001020 }
      CoreFree (coreAt c) ∧ CanEnter (coreAt c) ∧ 1 < c.rc.toNat ∧ c.rea = c.pc + BitVec.ofNat 32 (4 * 8))
    ∧ (let c := { core0 with rc := 2, rea := 0x80001000 }
      CoreFree (coreAt c) ∧ ∀ k < 9, 1 ≤ k → c.rea ≠ c.pc + BitVec.ofNat 32 (4 * k))
    ∧ (Canonical (coreAt (inLock 2 [])) ∧ CoreFree (coreAt (inLock 2 [])) ∧ ((inLock 2 []).lock.map LockSeq.marks) = some [] ∧ (inLock 2 []).mst.um = false ∧ (coreAt (inLock 2 [])).mem.ecc = []
      ∧ (inLock 2 []).mst.exl = false ∧ (inLock 2 []).winb.resident < 7)
    ∧ (CoreFree (coreAt (inLock 1 [(5, 3)])) ∧ Canonical (coreAt (inLock 1 [(5, 3)])))
    ∧ (let c := (inLock 2 []).setReg 1 0x803FFFFC
      CoreFree (coreAt c) ∧ 0x80000000 ≤ (c.reg 1 + (0 : BitVec 16).signExtend 32).toNat ∧ (c.reg 1 + (0 : BitVec 16).signExtend 32).toNat + 4 ≤ 0x80400000
        ∧ (c.reg 1 + (0 : BitVec 16).signExtend 32).toNat % 4 = 0 ∧ (c.reg 1 + (2 : BitVec 16).signExtend 32).toNat % 4 ≠ 0) := by
  repeat' apply And.intro
  all_goals decide +kernel

theorem test_meets_LoadsAndStores :
    (let c := (core0.setReg 1 0x803FFFF8).setReg 2 0x803FFFFF;
      Canonical (coreAt c) ∧ CoreReady (coreAt c) ∧ (coreAt c).mem.ecc = [] ∧ CanEnter (coreAt c) ∧ c.mst.um = false ∧ (c.reg 1).toNat + 8 ≤ 0x80400000
        ∧ (c.reg 1).toNat % 8 = 0 ∧ (c.reg 2).toNat + 1 ≤ 0x80400000 ∧ (c.reg 2).toNat % 2 = 1 ∧ (c.reg 2).toNat % 8 ≠ 0)
    ∧ (let c := core0.setReg 1 0x7FFFFFFF
      CoreReady (coreAt c) ∧ 0x10000000 ≤ (c.reg 1).toNat ∧ (c.reg 1).toNat < 0x80000000)
    ∧ (let c := core0.setReg 1 0xFFFF0000
      CoreReady (coreAt c) ∧ 0xFFFF0000 ≤ (c.reg 1).toNat)
    ∧ (Canonical (userAt (core0.setReg 1 0x10000000)) ∧ CoreReady (userAt (core0.setReg 1 0x10000000)) ∧ (userAt core0).core.mst.um = true) := by
  repeat' apply And.intro
  all_goals decide +kernel

/-- User mode with the MPU on: region 0 covers page 0x10 for execution alone. -/
def guarded : State := userAt { core0 with mst := { core0.mst with mpuen := true }, mpu := [0x10000, 0x10FC0, 0x80000004] ++ List.replicate 29 0 }

theorem test_meets_LoadsAndStores_mpu :
    Canonical guarded ∧ CoreReady guarded ∧ CanEnter guarded ∧ guarded.core.mst.um = true ∧ guarded.core.mst.mpuen = true ∧ guarded.mem.ecc = []
    ∧ (guarded.core.reg 1 + (0 : BitVec 16).signExtend 32).toNat < 0x10000000
    ∧ (nth guarded.core.mpu 2 0).getLsbD 0 = false ∧ (nth guarded.core.mpu 2 0).getLsbD 1 = false := by
  repeat' apply And.intro
  all_goals decide +kernel

theorem test_meets_StringUnits :
    (CoreReady (coreAt core0) ∧ (coreAt core0).mem.ecc = [] ∧ core0.mst.um = false ∧ core0.cnt.toNat = 0)
    ∧ (let c := { core0 with sa := 0x80000001, da := 0x803FFFFF, cnt := 1 }
      CoreReady (coreAt c) ∧ 0 < c.cnt.toNat ∧ 0x80000000 ≤ c.da.toNat ∧ c.da.toNat < 0x80400000 ∧ 0x80000000 ≤ c.sa.toNat ∧ c.sa.toNat < 0x80400000
        ∧ (coreAt c).mem.read 1 1 = (coreAt c).mem.read 0x3FFFFF 1 ∧ min (min (8 - c.sa.toNat % 8) (8 - c.da.toNat % 8)) c.cnt.toNat = 1)
    ∧ (let s : State := { coreAt { core0 with sa := 0x80000001, da := 0x803FFFFF, cnt := 1 } with mem := Mem.reset.store 1 [9] }
      CoreReady s ∧ nth (s.mem.read 1 1) 0 0 ≠ nth (s.mem.read 0x3FFFFF 1) 0 0) := by
  repeat' apply And.intro
  all_goals decide +kernel

/-- A signed image of a user program of one handler, one instruction and no data (Table 18.2, R360, R671 to R674), its key in OTP slot 1. The digest, the signature
and a key that it checks under were computed outside Lean. -/
def signedImage : Bank :=
  let h := [70, 71, 77, 73, 1, 0, 2, 1, 0, 104, 1, 0, 1, 0, 0, 0, 2, 0, 0, 0, 3, 0, 0, 0, 72, 0, 0, 0] ++ List.replicate 4064 0 ++ toLE 4 1158866309
  let p := [80, 85, 65, 84, 4, 0, 0, 0, 0, 0, 0, 0, 0, 0, 0, 0, 192, 1, 0, 0, 1, 0, 0, 0, 0, 0, 0, 0, 0, 0, 0, 0, 0, 0, 0, 0, 0, 0, 0, 0, 0, 0, 0, 0, 0, 0, 0, 0, 0, 0, 0, 0, 0, 0, 0, 0, 0, 0, 0, 0, 0, 0, 0, 0, 0, 0, 0, 0, 0, 0, 0, 0] ++ List.replicate 4020 0 ++ toLE 4 2152456638
  let t := [82, 76, 82, 84, 3, 0, 0, 0, 178, 155, 123, 240, 87, 178, 205, 33, 204, 9, 197, 238, 192, 126, 12, 39, 106, 31, 27, 154, 111, 39, 62, 232, 4, 71, 197, 132, 81, 207, 8, 41]
    ++ toBE 32 0xb28a704808a15c51e695f4dff2822208f0fd947e9930d6dba900b0d17c4de97c
    ++ toBE 32 0xb28a704808a15c51e695f4dff2822208f0fd947e9930d6dba900b0d17c4de97c
    ++ toBE 32 0x613fb34e98aa06686c8a7947551fb9e71322f4ac8bba16fc6f8b2762f77ae1fd
    ++ toBE 32 0x54a756061de49afadbbc6cff82dc4f9c986af07c7d76a2eb28819bec56ef5742 ++ List.replicate 3924 0 ++ toLE 4 171036823
  ⟨[(0, h), (1, p), (2, t)], false⟩

/-- Firmware runs, with the signed image in each user program slot's bank and the key's hash programmed; the first is being verified. -/
def withImage : State := { up with
  update := { Update.reset with programs := List.replicate 4 signedImage, targets := Update.reset.targets.set 1 ⟨3, .verifying, 0⟩ }
  test := { up.test with hashes := [.key 0, .key 0x8f785946865054299d3553e87cc7ecb191a2fdd00b55ef7cd4aaac14216846aa, .empty] } }

/-- The signed image's blocks: header, program, trailer. -/
def imageHeader : List Nat := (signedImage.block 0).getD []
@[inherit_doc imageHeader] def imageBody : List Nat := (signedImage.block 1).getD []
@[inherit_doc imageHeader] def imageTrailer : List Nat := (signedImage.block 2).getD []

/-- The 64-byte blocks of which the image's digest is taken. -/
def imageChunks : List (List Nat) :=
  chunks 64 ((sha256Pad (imageHeader.take 4092 ++ imageBody.take 4092)).length / 64) (sha256Pad (imageHeader.take 4092 ++ imageBody.take 4092))

set_option maxRecDepth 200000 in
theorem test_image_digest_part1 : (imageChunks.take 32).foldl sha256Block sha256H = [1205738272, 1436257830, 3838793519, 1680476956, 442301089, 2791011408, 322766171, 3895058499] := by decide +kernel
set_option maxRecDepth 200000 in
theorem test_image_digest_part2 : ((imageChunks.drop 32).take 32).foldl sha256Block ([1205738272, 1436257830, 3838793519, 1680476956, 442301089, 2791011408, 322766171, 3895058499] : List Nat) = [1578843656, 369032318, 2294162799, 750549814, 1982027195, 1242454760, 1551002918, 2465881638] := by decide +kernel
set_option maxRecDepth 200000 in
theorem test_image_digest_part3 : ((imageChunks.drop 64).take 32).foldl sha256Block ([1578843656, 369032318, 2294162799, 750549814, 1982027195, 1242454760, 1551002918, 2465881638] : List Nat) = [3143608661, 3639393712, 2211626650, 3532834748, 2574570318, 2671655637, 2828150057, 2431733831] := by decide +kernel
set_option maxRecDepth 200000 in
theorem test_image_digest_part4 : (imageChunks.drop 96).foldl sha256Block ([3143608661, 3639393712, 2211626650, 3532834748, 2574570318, 2671655637, 2828150057, 2431733831] : List Nat) = [2996534256, 1471335713, 3423192558, 3229486119, 1780423578, 1864842984, 71812484, 1372522537] := by decide +kernel

/-- A fold in four parts, each of 32 elements but the last. -/
theorem foldl_four {α β : Type} (f : β → α → β) (l : List α) (b b1 b2 b3 b4 : β) (h1 : (l.take 32).foldl f b = b1)
    (h2 : ((l.drop 32).take 32).foldl f b1 = b2) (h3 : ((l.drop 64).take 32).foldl f b2 = b3) (h4 : (l.drop 96).foldl f b3 = b4) : l.foldl f b = b4 := by
  rw [← List.take_append_drop 32 l, List.foldl_append, h1, ← List.take_append_drop 32 (l.drop 32), List.foldl_append, h2, List.drop_drop,
    ← List.take_append_drop 32 (l.drop (32 + 32)), List.foldl_append, h3, List.drop_drop, h4]

set_option maxRecDepth 200000 in
theorem test_image_digest : sha256 (imageHeader.take 4092 ++ imageBody.take 4092) = (imageTrailer.drop 8).take 32 :=
  (congrArg (fun v : List Nat => (v.map (toBE 4)).flatten)
    (foldl_four sha256Block imageChunks sha256H _ _ _ _ test_image_digest_part1 test_image_digest_part2 test_image_digest_part3 test_image_digest_part4)).trans
    (by decide +kernel)

set_option maxRecDepth 200000 in
theorem test_image_header : blockOk 0 imageHeader = true := by decide +kernel
set_option maxRecDepth 200000 in
theorem test_image_body : blockOk 1 imageBody = true := by decide +kernel
set_option maxRecDepth 200000 in
theorem test_image_trailer : blockOk 2 imageTrailer = true := by decide +kernel
set_option maxRecDepth 200000 in
theorem test_image_key : withImage.keyHash (nth imageHeader 7 0) = some (fromLE (sha256 ((imageTrailer.drop 104).take 64))) := by decide +kernel
set_option maxRecDepth 200000 in
theorem test_image_signature : ecdsaVerify ((imageTrailer.drop 104).take 64) (sha256 (imageTrailer.take 40)) ((imageTrailer.drop 40).take 64) = true := by
  decide +kernel

/-- R678's checks, one after another, over an image of three blocks. -/
theorem verifyBlocks_three (s : State) (sub : Nat) (b : Bank) (h p t : List Nat) (hb : b.block 0 = some h ∧ b.block 1 = some p ∧ b.block 2 = some t)
    (hn : blockField h 20 4 = 3) (h0 : blockOk 0 h = true) (h1 : blockOk 1 p = true) (h2 : blockOk 2 t = true) (he : headerError sub h = 0)
    (ht : blockField t 0 4 = 0x54524C52 ∧ blockField t 4 4 = 3) (hd : sha256 (h.take 4092 ++ p.take 4092) = (t.drop 8).take 32)
    (hk : s.keyProgrammed (nth h 7 0) = true) (hh : s.keyHash (nth h 7 0) = some (fromLE (sha256 ((t.drop 104).take 64))))
    (hv : ecdsaVerify ((t.drop 104).take 64) (sha256 (t.take 40)) ((t.drop 40).take 64) = true) : verifyBlocks s sub b [] = 0 := by
  simp [verifyBlocks, hb.1, hb.2.1, hb.2.2, hn, h0, h1, h2, he, ht.1, ht.2, hd, hk, hh, hv, List.range_succ]

set_option maxRecDepth 200000 in
theorem test_signed_image_verifies : verifyBlocks withImage 2 (withImage.targetBank 2) [] = 0 :=
  verifyBlocks_three withImage 2 _ imageHeader imageBody imageTrailer ⟨by decide +kernel, by decide +kernel, by decide +kernel⟩ (by decide +kernel) test_image_header
    test_image_body test_image_trailer (by decide +kernel) ⟨by decide +kernel, by decide +kernel⟩ test_image_digest (by decide +kernel) test_image_key test_image_signature

/-- System mode with an ORW in R2 and R3: an operation, an object and a length. -/
def orwCore (op i n len : Nat) : Core := (core0.setReg 2 (BitVec.ofNat 32 len)).setReg 3 (BitVec.ofNat 32 (op * 2 ^ 28 + i * 256 + n))

/-- The state in which an object instruction makes its request. -/
def askingAt (c : Core) (d : Option Nat) : State :=
  { coreAt c with tabor := { (coreAt c).tabor with blocked := some (.object d) } }

theorem test_meets_ObjectInstructions :
    (Canonical (coreAt (orwCore 0 0x1000 0 0)) ∧ CoreReady (coreAt (orwCore 0 0x1000 0 0)) ∧ CanEnter (coreAt core0) ∧ core0.mst.um = false)
    ∧ (let r := orwRequest (askingAt (orwCore 0 0x1000 0 0) (some 4)) .T 0 (0x1000 * 2 ^ 40) []
      r.1.tabor = (askingAt (orwCore 0 0x1000 0 0) (some 4)).tabor ∧ r.2.map (·.1) = some .ok)
    ∧ (let r := orwRequest (askingAt (orwCore 0 0x6000 0 0) (some 4)) .T 0 (0x6000 * 2 ^ 40) []
      r.1.tabor = (askingAt (orwCore 0 0x6000 0 0) (some 4)).tabor ∧ r.2.map (·.1) = some .noObject)
    ∧ (let w := 2 ^ 60 + 0x2623 * 2 ^ 40 + 2 ^ 32
      let r := orwRequest (askingAt (orwCore 1 0x2623 1 0) none) .T 0 w (toLE ((coreAt core0).sizeNow .T 0x2623 1) 288)
      r.1.tabor = (askingAt (orwCore 1 0x2623 1 0) none).tabor ∧ r.2.map (·.1) = some .ok)
    ∧ (let w := 2 ^ 60 + 0x2623 * 2 ^ 40 + 2 ^ 32
      let r := orwRequest (askingAt (orwCore 1 0x2623 1 0) none) .T 0 w (toLE ((coreAt core0).sizeNow .T 0x2623 1) 5)
      r.1.tabor = (askingAt (orwCore 1 0x2623 1 0) none).tabor ∧ r.2.map (·.1) = some .range)
    ∧ (CanEnter (userAt core0) ∧ CoreReady (userAt core0) ∧ Canonical (userAt core0) ∧ (userAt core0).core.mst.um = true)
    ∧ (let r := orwRequest (askingAt (orwCore 0 0x24FF 9 0) (some 4)) .T 0 (0x24FF * 2 ^ 40 + 9 * 2 ^ 32) []
      r.1.tabor = (askingAt (orwCore 0 0x24FF 9 0) (some 4)).tabor) := by
  repeat' apply And.intro
  all_goals decide +kernel

/-- A core with a string of object bytes to move: an ORW with its offset, CNT and the memory's addresses. -/
def osCore (op cnt : Nat) : Core := { orwCore op 0x4801 2 0 with cnt := BitVec.ofNat 32 cnt, sa := 0x803FFFFF, da := 0x803FFFFF }

theorem test_meets_ObjectInstructions_strings :
    (CoreReady (coreAt (osCore 2 0)) ∧ (osCore 2 0).cnt = 0)
    ∧ (let s : State := { coreAt (osCore 2 1) with tabor := { (coreAt (osCore 2 1)).tabor with inString := true } }
      let r := orwRequest s .T 0 (2 ^ 61 + 0x4801 * 2 ^ 40 + 2 * 2 ^ 32 + 1) []
      CoreReady (coreAt (osCore 2 1)) ∧ (osCore 2 1).cnt ≠ 0 ∧ (osCore 2 1).da.toNat + 1 ≤ 0x80400000 ∧ r.1.tabor = s.tabor ∧ r.2.map (·.1) = some .ok ∧ r.1.mem.ecc = []
        ∧ Memory.wf r.1.mem.sram = true)
    ∧ (let s : State := { coreAt (osCore 3 1) with tabor := { (coreAt (osCore 3 1)).tabor with inString := true } }
      let r := orwRequest s .T 0 (3 * 2 ^ 60 + 0x4801 * 2 ^ 40 + 2 * 2 ^ 32 + 1) [0]
      CoreReady (coreAt (osCore 3 1)) ∧ CanEnter (coreAt (osCore 3 1)) ∧ (osCore 3 1).sa.toNat + 1 ≤ 0x80400000 ∧ r.1.tabor = s.tabor ∧ r.2.map (·.1) = some .readOnly) := by
  repeat' apply And.intro
  all_goals decide +kernel

/-- A program as loaded into the first slot, with a number of handlers. -/
def program (pendingCmd abandoned : Nat) (spent : Bool) : Prog :=
  { nHandlers := 1, init := 0, bindings := [], handlers := [0], frames := [384, 385], base := 0x20000, spillTop := 0x30000, mpu := List.replicate 32 0
    abandonedRun := abandoned, shareSpent := spent, pendingCmd := pendingCmd }

/-- A state with user program 1 loaded, its state of Table 9.9 and the handler that runs. -/
def programmed (s : State) (state : Nat) (x : Prog) (h : Option (Nat × Bool)) : State :=
  let s := s.set 0x2810 2 state
  { s with tabor := { s.tabor with programs := [some x, none, none, none], handler := h } }

theorem test_meets_MissingHandlerFails :
    (let s := coreTask 1 0 (coreAt core0);
      Canonical s ∧ Calm s ∧ s.coreHead = some 127 ∧ (s.sched.task 127).pending.isSome ∧ s.get 0x257F 5 / 256 % 16 = 1 ∧ s.get 0x2810 2 ≠ 2)
    ∧ (let s := coreTask 4 255 (coreAt core0)
      Canonical s ∧ Calm s ∧ s.coreHead = some 127 ∧ s.get 0x257F 5 / 256 % 16 = 4)
    ∧ (let s := coreTask 1 1 (programmed (coreAt core0) 2 (program 0 0 false) none)
      Canonical s ∧ Calm s ∧ s.coreHead = some 127 ∧ s.get 0x2810 2 = 2 ∧ s.prog 1 = some (program 0 0 false) ∧ (program 0 0 false).nHandlers ≤ 1) := by
  repeat' apply And.intro
  all_goals decide +kernel

/-- A core that takes events. -/
def coreEE : Core := { core0 with mst := { core0.mst with ee := true }, winb := ⟨0, 5, 7⟩ }

theorem test_meets_EventsAndPrograms :
    (let s := coreTask 0 255 (coreAt coreEE);
      Canonical s ∧ CoreReady s ∧ s.coreHead = some 127 ∧ (s.sched.task 127).pending.isSome ∧ s.core.mst.ee = true ∧ s.core.mst.exl = false ∧ s.tabor.handler = none
        ∧ s.core.winb.slot < 8 ∧ s.core.winb.resident < 6 ∧ sparseWf s.core.regs (fun _ => (0 : Word)) = true ∧ (s.handlerOf 127).1 = 0 ∧ s.core.mst.um = false)
    ∧ (let s := coreTask 1 0 (programmed (coreAt coreEE) 2 (program 0 0 false) none)
      Canonical s ∧ CoreReady s ∧ s.coreHead = some 127 ∧ (s.handlerOf 127).1 = 1 ∧ (s.handlerOf 127).2 < (program 0 0 false).nHandlers
        ∧ s.prog 1 = some (program 0 0 false) ∧ s.get 0x2810 2 = 2)
    ∧ (let s := coreTask 0 0 (coreAt core0)
      Calm s ∧ (s.handlerOf 127).1 = 0 ∧ s.tabor.run ≠ .waiting ∧ s.core.mst.ee = false)
    ∧ (Calm up ∧ (up.sched.task 127).pending = none ∧ up.coreHead ≠ some 127) := by
  repeat' apply And.intro
  all_goals decide +kernel

/-- User program 1 runs its handler. -/
def inHandler (state : Nat) (b : Bool) : State := programmed (userAt { core0 with mst := { core0.mst with prog := 1 } }) state (program 0 6 false) (some (1, b))

theorem test_meets_EventsAndPrograms_programs :
    (let s := inHandler 2 true;
      Canonical s ∧ CoreReady s ∧ s.prog 1 = some (program 0 6 false) ∧ s.tabor.programs.length = 4 ∧ s.core.mst.um = true ∧ s.core.mst.exl = false ∧ s.core.winb.resident < 7
        ∧ s.get 0x2810 2 = 2 ∧ (program 0 6 false).abandonedRun < 7 ∧ (program 0 6 false).pendingCmd = 0)
    ∧ ((inHandler 2 false).tabor.handler = some (1, false) ∧ (inHandler 2 false).core.mst.prog = 1 ∧ CoreReady (inHandler 2 false))
    ∧ (let s := programmed (coreAt (inLock 2 [])) 2 (program 0 0 false) (some (1, false))
      Canonical s ∧ CoreFree s ∧ s.core.lock.isSome)
    ∧ (let s := programmed (coreAt core0) 2 (program 0 0 false) none
      Canonical s ∧ Calm s ∧ s.tabor.handler = none ∧ s.get 0x2810 2 = 2 ∧ MayWrite s .C 0x2810 1 ∧ s.handlerRuns 1 = false ∧ s.openRings = [])
    ∧ (let s := programmed (coreAt core0) 1 (program 0 0 false) none
      Canonical s ∧ Calm s ∧ s.get 0x2810 2 ∈ [1, 3] ∧ s.get 0x2810 2 ≠ 2 ∧ s.handlerRuns 1 = false ∧ s.coreFree = true ∧ s.core.winb.resident < 7 ∧ s.core.winb.slot < 8)
    ∧ (let s := programmed (coreAt { core0 with mst := { core0.mst with exl := true } }) 3 (program 0 0 false) none
      Canonical s ∧ Calm s ∧ s.get 0x2810 2 ∈ [1, 3] ∧ s.coreFree = false ∧ s.handlerRuns 1 = false ∧ MayWrite s .C 0x2810 1)
    ∧ (let s := programmed (coreAt core0) 4 (program 0 0 false) (some (1, false))
      Canonical s ∧ Calm s ∧ s.get 0x2810 2 ∈ [2, 4] ∧ s.get 0x2810 2 ∉ [1, 3] ∧ s.handlerRuns 1 = true ∧ MayWrite s .C 0x2810 1) := by
  repeat' apply And.intro
  all_goals decide +kernel

set_option maxRecDepth 200000 in
theorem test_meets_EventsAndPrograms_load :
    (Canonical withImage ∧ Calm withImage ∧ MayWrite withImage .C 0x2810 1 ∧ withImage.get 0x2810 2 = 0 ∧ withImage.tabor.programs.length = 4)
    ∧ verifyBlocks withImage 2 (withImage.targetBank 2) [] = 0
    ∧ (parseProgram (withImage.targetBank 2).content).map (fun im => (pagesOf im.code.length + pagesOf (im.data.length + im.bss) + pagesOf im.spill, im.shared)) = some (2, [])
    ∧ 2 ≤ withImage.freeArena.length ∧ withImage.codeLoaded + 4 ≤ 262144
    ∧ { withImage with tabor := { withImage.tabor with arenaCount := 1 } }.freeArena.length < 2 :=
  ⟨by decide +kernel, test_signed_image_verifies, by decide +kernel, by decide +kernel, by decide +kernel, by decide +kernel⟩

/-- The same with translation on and every L1 entry that a program's page can need valid. -/
def pagedImage : State :=
  { withImage.set 0x2200 1 0x80000000 with mem := Mem.reset.store 0 ((List.replicate 97 [1, 16, 0, 0, 0, 0, 0, 0]).flatten) }

/-- Whether a page has a PTE is the same for all pages of one L1 entry. -/
theorem pteAddr_isSome_of_table (s : State) (v : Nat) : (s.pteAddr v).isSome = (s.pteAddr (v / 512 * 512)).isSome := by
  unfold State.pteAddr State.l1Addr
  rw [Nat.mul_div_cancel _ (by decide)]
  dsimp only
  split <;> rfl

set_option maxRecDepth 200000 in
theorem test_pagedImage_tables : ∀ k < 97, (pagedImage.pteAddr (k * 512)).isSome = true := by decide +kernel

/-- Every page that a program may be given has its PTE. -/
theorem test_pagedImage_pages (p k : Nat) (hk : k < 2) : pagedImage.pteAddr (Config.programPage p % 0xC000 + k) ≠ none := by
  intro e
  have bound := Nat.mod_lt (Config.programPage p) (show 0 < 0xC000 by decide)
  have same := pteAddr_isSome_of_table pagedImage (Config.programPage p % 0xC000 + k)
  rw [test_pagedImage_tables _ (by omega), e] at same
  cases same

set_option maxRecDepth 200000 in
theorem test_meets_EventsAndPrograms_load_pages :
    (Canonical pagedImage ∧ Calm pagedImage ∧ MayWrite pagedImage .C 0x2810 1 ∧ pagedImage.get 0x2810 2 = 0 ∧ pagedImage.tabor.programs.length = 4)
    ∧ verifyBlocks pagedImage 2 (pagedImage.targetBank 2) [] = 0 ∧ pagedImage.targetBank 2 = withImage.targetBank 2
    ∧ 2 ≤ pagedImage.freeArena.length ∧ pagedImage.codeLoaded + 4 ≤ 262144
    ∧ (∀ k < 2, pagedImage.pteAddr (Config.programPage 1 % 0xC000 + k) ≠ none)
    ∧ withImage.pteAddr (Config.programPage 1 % 0xC000 + 0) = none :=
  ⟨by decide +kernel, test_signed_image_verifies, by decide +kernel, by decide +kernel, by decide +kernel, test_pagedImage_pages 1,
    by unfold State.pteAddr; rw [if_neg (by decide +kernel)]⟩

/-- The core halted, with a DAP. -/
def haltedAt (d : Dap) (a : Access) : State :=
  let s := coreAt core0
  { s with tabor := { s.tabor with run := .halted }, test := { s.test with dap := d, access := a } }

theorem test_meets_ForcedHaltBreaksLock :
    (let s := coreAt (inLock 1 [(5, 3)]);
      Canonical s ∧ s.power.vaonValid = true ∧ s.test.tap.drives = false ∧ s.lbistHalted = false ∧ s.test.access = .full ∧ CoreFree s ∧ s.core.lock.isSome)
    ∧ (coreAt core0).core.lock = none ∧ (haltedAt Test.reset.dap .full).tabor.run = .halted := by
  repeat' apply And.intro
  all_goals decide +kernel

/-- A DAP with an ORW, its states and a memory address. -/
def dapAt (orw addr : Nat) : Dap := { Test.reset.dap with orw := orw, memAddr := addr }

theorem test_meets_DebugAccess :
    (let s := haltedAt (dapAt 0 0x803FFFFC) .observe;
      Canonical s ∧ s.power.vaonValid = true ∧ s.test.tap.drives = false ∧ s.lbistHalted = false ∧ s.test.access ≠ .full ∧ s.test.access ≠ .locked ∧ s.test.dap.busy = false)
    ∧ (CoreReady (coreAt core0) ∧ (coreAt core0).test.access = .full ∧ (coreAt core0).tabor.run ≠ .halted)
    ∧ (CoreFree (coreAt (inLock 1 [])) ∧ (coreAt (inLock 1 [])).core.lock ≠ none)
    ∧ (let s := haltedAt (dapAt 0 0x803FFFFC) .full
      s.tabor.run = .halted ∧ 0x80000000 ≤ s.test.dap.memAddr ∧ s.test.dap.memAddr + 4 ≤ 0x80400000 ∧ s.mem.ecc = [] ∧ (haltedAt (dapAt 0 0x0FFFFFFC) .full).debugFrame 0xFFFF = none)
    ∧ (let o := 0x1000 * 2 ^ 40
      MayRead (haltedAt (dapAt o 0) .observe) .D 0x1000 0 ∧ segment 0x1000 0 = false ∧ rcLatch 0x1000 0 = false ∧ sizeOf 0x1000 0 ≤ 8 ∧ o / 2 ^ 60 % 8 = 0 ∧ o % 2 ^ 32 = 0)
    ∧ (rcLatch 0x2621 10 = true ∧ (2 ^ 63 + 0x2621 * 2 ^ 40 + 10 * 2 ^ 32) / 2 ^ 63 % 2 = 1)
    ∧ (let d := dapAt (3 * 2 ^ 60 + 5) 0
      d.orw < 2 ^ 64 ∧ d.orw / 2 ^ 60 % 8 = 3 ∧ d.done = false ∧ d.seg.length + 4 < d.orw % 256) ∧ (dapAt 0 0).collecting = false
    ∧ (let s : State := { coreAt core0 with tabor := { (coreAt core0).tabor with stepOne := true } }
      s.tabor.stepOne = true ∧ fetchWord s = (s, true) ∧ CoreReady { s with tabor := { s.tabor with stepOne := false } }) := by
  repeat' apply And.intro
  all_goals decide +kernel

/-- Touch runs in LISTEN, in a phase of the frame. -/
def touching (p : Phase) : State := { inPhase p with
  aocb := { up.aocb with pstate := .listen, target := .listen }, sense := { Sense.reset with power := .ready, hkRunning := true } }

/-- A telemetry lane 23 that stands somewhere in a switch of input 58. -/
def fading (sw : Bool) (f : FadeStep) : State :=
  let s := (touching .scan).set 0x3117 10 4
  { s with sense := { s.sense with lanes := s.sense.lanes.set 23 { Lane.reset with switching := sw, fades := (List.replicate 8 .none).set 2 f } } }

theorem test_meets_BurstsAndTelemetry :
    (let s := touching .listen;
      Canonical s ∧ nth s.sense.map 15 none = some 15 ∧ (s.sense.slices[15]?).isSome ∧ s.touchRuns = true ∧ 79 < 88 ∧ 79 % 16 = 15 ∧ s.beat.phase = .listen)
    ∧ ((touching .scan).beat.phase = .scan ∧ (touching .scan).touchRuns = true) ∧ up.touchRuns = false ∧ 88 ≤ 88 ∧ 87 % 16 ≠ 15
    ∧ ([0] : List Nat).length ≤ 1
    ∧ (Canonical (fading false .none) ∧ (fading false .none).sense.hkRunning = true ∧ (fading false .none).beat.stoppedB = false ∧ (fading false .none).clocks.pllB = true
      ∧ 58 ∈ (fading false .none).hkScanned ∧ ((fading false .none).lane 23).switching = false)
    ∧ up.sense.hkRunning = false
    ∧ (((fading true .none).lane 23).switching = true ∧ nth ((fading true .none).lane 23).fades 2 .none = .none ∧ Canonical (fading true .none))
    ∧ nth ((fading true (.warming 2)).lane 23).fades 2 .none = .warming (0 + 2)
    ∧ (nth ((fading true (.fading 3)).lane 23).fades 2 .none = .fading 3 ∧ 3 < (fading true (.fading 3)).get 0x3117 10) := by
  repeat' apply And.intro
  all_goals decide +kernel

/-- A profile of one row whose mutual channel is channel 15, with one hop, in a phase of the frame. -/
def scanning (p : Phase) : State :=
  { ((touching p).set 0x3202 4 0).set 0x3203 1 (2 ^ 31 + 100000) with live := [(0x3200 * 256 + 2, 1), (0x3200 * 256 + 5, 0x8000)] }

theorem test_meets_BurstsAndTelemetry_due :
    (let s := scanning .listen;
      Canonical s ∧ nth s.sense.map 15 none = some 15 ∧ (s.sense.slices[15]?).isSome ∧ s.touchRuns = true ∧ s.electrodeTest = false ∧ s.burstDue 15 = true
        ∧ s.beat.phase = .listen ∧ s.burstDue 14 = false)
    ∧ ((scanning .scan).burstDue 15 = true ∧ (scanning .scan).beat.phase = .scan ∧ Canonical (scanning .scan))
    ∧ ({ scanning .scan with test := { up.test with lineTest := some .electrode } } : State).electrodeTest = true
    ∧ ((fading false .none).bank 23 ((fading false .none).lane 23).activeB).d * ((fading false .none).bank 23 ((fading false .none).lane 23).activeB).m = (List.replicate 128 0).length := by
  repeat' apply And.intro
  all_goals decide +kernel

/-- A lane in a state, with its library record at page 0 of object space, which every micro-TLB holds in frame 5. -/
def laneAt (n : Nat) (l : Lane) (record : List Nat) : State :=
  { up with
    sense := { Sense.reset with lanes := Sense.reset.lanes.set n l }
    mem := { Mem.reset with micro := List.replicate 12 [⟨0, 5, true, false⟩] }.store 20480 record }

/-- A library record of bank parameters, with its CRC. -/
def libraryRecord (w : Nat) : List Nat := let r := toLE 8 w ++ List.replicate 148 0; r ++ toLE 4 (crc32 r)

/-- Every telemetry input of lane 23 holds a valid value. -/
def allValid : State := [57, 58, 59, 60, 61, 62, 63, 64].foldl (fun (s : State) h => s.set 0x3120 h (2 ^ 31)) up

/-- The record read by a lane. -/
def recordRead (s : State) (n : Nat) : Option (List Nat) :=
  match (readRecord s n).2 with
  | .bytes l => some l
  | _ => none

theorem test_meets_BanksAndCalibration :
    (MayWrite up .C 0x310F 5 ∧ (up.lane 15).busy = false ∧ (up.lane 23).busy = false ∧ MayWrite up .C 0x3117 5)
    ∧ (((laneAt 15 { Lane.reset with pending := true } []).lane 15).busy = true ∧ ((laneAt 23 { Lane.reset with switching := true } []).lane 23).busy = true
      ∧ MayWrite (laneAt 15 { Lane.reset with pending := true } []) .C 0x310F 5)
    ∧ ((up.bank 23 false).d * (up.bank 23 false).m = (up.bank 23 true).d * (up.bank 23 true).m)
    ∧ (let s := up.set 0x3117 2 0
      (s.bank 23 false).d * (s.bank 23 false).m ≠ (s.bank 23 true).d * (s.bank 23 true).m)
    ∧ (∀ h ∈ allValid.laneInputs 23, allValid.hkValid h = true)
    ∧ up.hkValid 60 = false ∧ 60 ∈ up.laneInputs 23 := by decide +kernel

/-- A lane whose library load runs. -/
def loadingLane (w : Nat) : State := laneAt 23 { Lane.reset with loading := true } (libraryRecord w)

theorem test_meets_BanksAndCalibration_loads :
    ((up.lane 23).loading = false ∧ Canonical up ∧ 23 < up.sense.lanes.length)
    ∧ (recordRead (loadingLane 0) 23 = some (libraryRecord 0) ∧ Canonical (readRecord (loadingLane 0) 23).1 ∧ (readRecord (loadingLane 0) 23).1.sense = (loadingLane 0).sense
      ∧ crc32 ((libraryRecord 0).take 156) = fromLE ((libraryRecord 0).drop 156) ∧ bankParamsOk true (fromLE ((libraryRecord 0).take 8)) = false ∧ Canonical (loadingLane 0))
    ∧ (let w := up.get 0x3117 1
      recordRead (loadingLane w) 23 = some (libraryRecord w) ∧ bankParamsOk true (fromLE ((libraryRecord w).take 8)) = true
        ∧ crc32 ((libraryRecord w).take 156) = fromLE ((libraryRecord w).drop 156))
    ∧ (let s := laneAt 23 { Lane.reset with loading := true } (List.replicate 160 1)
      recordRead s 23 = some (List.replicate 160 1) ∧ crc32 (List.replicate 156 1) ≠ fromLE (List.replicate 4 1)) := by
  repeat' apply And.intro
  all_goals decide +kernel

/-- The touch bank in a state of power. -/
def bankPower (p : BankPower) : State := { touching .scan with sense := { Sense.reset with power := p } }

theorem test_meets_BanksAndCalibration_power :
    ((bankPower .off).up = true ∧ (bankPower .off).touchState = true ∧ (bankPower .off).sense.power = .off ∧ (bankPower .off).clocks.pllB = true
      ∧ (bankPower .off).test.degraded % 32 = 0)
    ∧ (bankPower .ready).sense.power ≠ .off
    ∧ ((bankPower .calibrating).sense.power = .calibrating ∧ (bankPower .calibrating).sense.out = some 16
      ∧ (bankPower .calibrating).sense.slices.length = 17 ∧ (nth (bankPower .calibrating).sense.slices 16 ⟨.failed, 0, 0, 0, 0⟩).state ≠ .failed
      ∧ some 16 ∉ (bankPower .calibrating).sense.map ∧ Canonical (bankPower .calibrating)) := by decide +kernel

/-- A slice's estimates. -/
def anEst (r : Nat) : SliceEst := ⟨r, 5, 16384⟩

theorem test_meets_BanksAndCalibration_estimates :
    (∀ k < 17, ((List.replicate 17 (anEst 65, anEst 64))[k]?).any (fun e => e.1.steady e.2) = true)
    ∧ (∀ j < 17, ((List.replicate 16 (anEst 0, anEst 64) ++ [(anEst 0, anEst 65)])[j]?).any (fun e => e.1.steady e.2) = decide (j ≠ 16)) := by
  decide +kernel

/-- The frame has reached PROCESS with its scan whole; with no rows to keep baselines of, or with some and no page for them. -/
def processing : State :=
  let s := ((touching .process).set 0x3202 4 0).set 0x3202 8 0
  { s with beat := { s.beat with scanDone := true } }

theorem test_meets_TouchCommands :
    (Canonical up ∧ MayWrite up .C 0x3202 1 ∧ up.profilesOk = true ∧ MayWrite up .C 0x3222 9)
    ∧ (let s := (up.set 0x3200 1 127).set 0x3200 2 2
      MayWrite s .C 0x3202 1 ∧ s.profilesOk = false)
    ∧ (processing.profile = some 0 ∧ processing.touchRuns = true ∧ processing.electrodeTest = false ∧ processing.beat.stoppedC = false ∧ processing.beat.phase = .process
      ∧ processing.beat.processDone = false ∧ processing.beat.scanDone = true ∧ processing.touch.imageFault = false ∧ processing.flag 0x3202 6 7 = false
      ∧ Canonical processing ∧ (baselineAccess processing).2 = false)
    ∧ (baselineAccess { processing with mem := { processing.mem with micro := List.replicate 12 [⟨0, 5, true, false⟩] } }).2 = true
    ∧ up.touchRuns = false := by
  repeat' apply And.intro
  all_goals decide +kernel

/-- A track. -/
def trackOf (id : Nat) : Track := ⟨id, ⟨0, 0, 0, 0, 0, 0, 0, 0, false⟩, 0, 0, 0, 0, false⟩

/-- One track and one palm stand; buttons are pressed. -/
def touched : State := { (up.set 0x3221 1 0x80).set 0x3202 4 0 with touch := { up.touch with tracks := [trackOf 9], palms := [(3, 4)] } }

/-- Button 7 has a reference baseline, but its baseline is 0. -/
def drifting : State := ((touched.set 0x3222 8 100).set 0x3220 8 1)

theorem test_meets_TouchCommands_ends :
    (Canonical touched ∧ touched.get 0x3210 8 ≠ 0 ∧ (∃ t ∈ touched.touch.tracks, t.id = 9) ∧ touched.touch.palms[0]? = some (3, 4))
    ∧ (up.set 0x3210 8 0).get 0x3210 8 = 0
    ∧ (touched.up = true ∧ touched.pressed 7 = true ∧ touched.get 0x3221 6 ≠ 0 ∧ touched.pressed 6 = false ∧ (touched.set 0x3221 6 0).get 0x3221 6 = 0)
    ∧ (Canonical drifting ∧ drifting.profile = some 0 ∧ drifting.up = true ∧ drifting.flag 0x3221 4 7 = false ∧ bit (drifting.buttonWord 7) 0 = true
      ∧ drifting.drifted 0 (drifting.get 0x3203 12) 7 = true ∧ drifting.get 0x3222 7 = 0)
    ∧ ((up.set 0x3241 1 1).get 0x3241 1 = 1 ∧ (up.set 0x3241 1 3).get 0x3241 1 = 3 ∧ up.get 0x3241 1 = 0)
    ∧ (let s : State := { (up.set 0x3241 1 1).set 0x3241 2 0x8000 with touch := { up.touch with acted := [(15, false)] } }
      Canonical s ∧ (15, false) ∈ s.touch.acted ∧ bit (s.get 0x3241 2) 15 = true) := by
  repeat' apply And.intro
  all_goals decide +kernel

theorem test_meets_TouchCommands_glove :
    (Canonical up ∧ ∀ t ∈ up.touch.tracks, up.threshold 1 ≤ t.at_.peak)
    ∧ (Canonical touched ∧ ∃ t ∈ touched.touch.tracks, t.at_.peak < touched.threshold 1) := by decide +kernel

theorem test_meets_ContactEngineRules :
    (128 ∈ [4, 8, 16, 32, 64, 128] ∧ 127 < 128) ∧ 128 ≤ 128 ∧ (0 < 1 ∧ 1 ≤ 32 ∧ 1024 * (32 - 1) / 1 < 32768) ∧ (up.profilesOk = true ∧ (0 < 1 ∧ 7 < 8))
    ∧ (sparseSortedFrom none up.touch.bases = true ∧ (5 : Int).natAbs ≤ up.get 0x3210 4 ∧ (up.get 0x3210 4 : Int) < 32767)
    ∧ (let s : State := { up with touch := { up.touch with tracks := (List.range 20).map trackOf } }
      s.touch.tracks.length ≤ 20 ∧ (s.touch.tracks.map (·.id)).Nodup) := by decide +kernel

/-- Rail 15 with phase 15 and a supervisor, all shutdown comparators released. -/
def railAt (r : RailSt) (x : Sup) : State :=
  { (up.set 0x401F 1 0x8000) with reg := { Reg.reset with rails := Reg.reset.rails.set 15 r, sups := Reg.reset.sups.set 15 x
                                                          tmonShut := List.replicate 4 false, dieShut := List.replicate 4 false } }

/-- A rail at 1,000 mV, with a command running or not. -/
def railOn (slewing : Bool) : RailSt := { RailSt.reset with enabled := true, started := true, vset := 100000, target := 1000, slewing := slewing }

theorem test_meets_RailsAndPhases :
    (let s := railAt (railOn false) Sup.reset;
      Canonical s ∧ s.reg.rails.length = 16 ∧ s.reg.phases.length = 16 ∧ s.reg.sups.length = 16 ∧ MayWrite s .C 0x401F 2 ∧ targetInRange (s.scaling 15) 3600 = true
        ∧ targetInRange (s.scaling 15) 300 = true ∧ targetInRange (s.scaling 15) 299 = false ∧ targetInRange (s.scaling 15) 3601 = false
        ∧ (s.rail 15).enabled = true ∧ (s.rail 15).seqOwned = false ∧ s.flag 0x3241 2 15 = false)
    ∧ (let s := railAt RailSt.reset Sup.reset
      MayWrite s .C 0x401F 2 ∧ (s.rail 15).enabled = false ∧ (s.rail 15).slewing = false)
    ∧ ((railAt { railOn false with seqOwned := true } Sup.reset).rail 15).seqOwned = true
    ∧ (let r := { railOn true with vset := 99999 }
      r.slewing = true ∧ r.enabled = true ∧ r.vset < 100 * r.target ∧ r.disabling = false ∧ r.closing = false)
    ∧ (let s := railAt { railOn true with target := 0, disabling := true, vset := 1 } Sup.reset
      (s.rail 15).disabling = true ∧ (∀ q ∈ s.phaseList 15, (s.phase q).driven = false))
    ∧ (let s := railAt (railOn false) Sup.reset
      (s.rail 15).started = true ∧ s.monitor 15 = false ∧ s.clocks.pllD = true ∧ 30 ≤ s.railN 15 ∧ s.owner 15 = some 15 ∧ s.owner 14 = none)
    ∧ (up.monitor 15 = true ∧ (100000 ≤ 1579999 ∧ 1579999 < 1580000))
    ∧ ((railAt { railOn false with closing := true } Sup.reset).rail 15).closing = true ∧ 0 < 1 := by
  repeat' apply And.intro
  all_goals decide +kernel

/-- SYNCIN times rail 15; its pulses, and whether it is lost. -/
def synced (at_ : Option Nat) (bad good : Nat) (lost : Bool) : State :=
  let s := ((railAt (railOn false) Sup.reset).set 0x4021 16 0x40000000).setFlag 0x4020 1 4 lost
  { s with reg := { s.reg with syncinAt := at_, syncinBad := bad, syncinGood := good } }

theorem test_meets_TimingAndShutdowns :
    (let s := synced (some 0) 3 0 false;
      Canonical s ∧ s.reg.rails.length = 16 ∧ s.reg.tmonShut.length = 4 ∧ s.reg.dieShut.length = 4 ∧ s.syncinRails = [15] ∧ s.flag 0x4020 1 4 = false
        ∧ s.reg.syncinAt = some 0 ∧ s.reg.syncinBad = 3 ∧ s.syncinGoodInterval (s.railN 15 * 2 - 0) = false)
    ∧ (let s := synced (some 0) 0 7 true
      s.flag 0x4020 1 4 = true ∧ s.syncinGoodInterval (s.railN 15 - 0) = true ∧ 7 ≤ s.reg.syncinGood ∧ s.syncinRails ≠ [] ∧ Canonical s)
    ∧ (let s := synced none 0 7 true
      s.reg.syncinAt = none ∧ s.flag 0x4020 1 4 = true ∧ s.reg.syncinGood < 8)
    ∧ up.syncinRails = []
    ∧ (let s := railAt (railOn false) Sup.reset
      (s.rail 15).enabled = true ∧ (∃ p ∈ s.phaseList 15, s.get (0x4000 + p) 4 = s.get 0x400F 4) ∧ s.get 0x400F 4 < 4)
    ∧ (let s : State := { railAt RailSt.reset Sup.reset with reg := { (railAt RailSt.reset Sup.reset).reg with dieShut := [true, true, false, false] } }
      (s.rail 15).enabled = false ∧ (s.sup 15).retryPending = false ∧ s.shutConcerned 15 = true) := by
  repeat' apply And.intro
  all_goals decide +kernel

theorem test_meets_TimingAndShutdowns_levels :
    (let s := railAt (railOn false) Sup.reset;
      Canonical s ∧ s.seq.run = none
        ∧ 10 * ((16800000 / 10 : Nat) : Int) ≤ 10000 * s.get 0x4024 2 + s.get 0x4024 1 * s.getS 0x4024 4
        ∧ 10000 * s.get 0x4024 2 + s.get 0x4024 1 * s.getS 0x4024 4 < 10 * ((16800000 / 10 + 1 : Nat) : Int)
        ∧ (1500 : Int) ≤ 1500 ∧ (1500 : Int) < 1501)
    ∧ (up.belowWarning 7 1249 = true ∧ up.belowWarning 7 1250 = false ∧ up.belowWarning 3 1519999 = true ∧ up.belowWarning 3 1520000 = false)
    ∧ (let s := synced (some 0) 0 7 false
      s.syncinRails ≠ [] ∧ s.flag 0x4020 1 4 = false) := by
  repeat' apply And.intro
  all_goals decide +kernel

/-- An order in the first step of the up table, on its way from KEEPALIVE to RUN. -/
def upRun (x : Option SeqWait) : Run := ⟨.up, 0, 0, 3, x, false⟩

/-- The up order stands at a step that names object 15, with rail 15 and its supervisor in a state. -/
def ordering (type : Nat) (x : Option SeqWait) (r : RailSt) (p : Sup) : State :=
  let s := railAt r p
  { s with live := [(0x4201 * 256 + 1, type * 2 ^ 28 + 2 ^ 26 + 15 * 2 ^ 20 + 5)]
           aocb := { s.aocb with target := .run }, seq := { Seq.reset with run := some (upRun x), dest := some .run } }

theorem test_meets_SequencerSteps :
    (∀ k ∈ [1, 2, 3, 4, 5, 6, 7, 8, 9, 10, 11], UpStep (ordering k none RailSt.reset Sup.reset) (upRun none) k none)
    ∧ (let s := ordering 1 none RailSt.reset Sup.reset
      Canonical s ∧ s.reg.rails.length = 16 ∧ s.reg.sups.length = 16 ∧ stepObj (s.stepWord .up 0) = 15 ∧ s.enableFails 15 true = true ∧ s.enableFails 15 false = false
        ∧ (s.rail 15).enabled = false)
    ∧ (let s := ordering 1 none (railOn false) Sup.reset
      s.enableFails 15 true = false ∧ (s.rail 15).enabled = true ∧ (s.rail 15).offByFault = false ∧ (s.rail 15).vset ≠ 0)
    ∧ ((ordering 2 none { RailSt.reset with offByFault := true } Sup.reset).rail 15).offByFault = true
    ∧ ((ordering 4 none RailSt.reset Sup.reset).railWaitOver (upRun none) 15 = true ∧ (ordering 4 none (railOn true) Sup.reset).railWaitOver (upRun none) 15 = false)
    ∧ (∀ e ∈ [(4, SeqWait.rail 15), (7, .pgHigh 15), (8, .pgLow 15), (9, .delay)], UpStep (ordering e.1 (some e.2) RailSt.reset Sup.reset) (upRun (some e.2)) e.1 (some e.2))
    ∧ ((ordering 4 (some (.rail 15)) RailSt.reset Sup.reset).railWaitOver (upRun (some (.rail 15))) 15 = true
      ∧ (ordering 4 (some (.rail 15)) (railOn true) Sup.reset).railWaitOver (upRun (some (.rail 15))) 15 = false)
    ∧ (up.seq.run = none ∧ up.stepDue 0 = none ∧ up.stepDue 11 = none) := by
  repeat' apply And.intro
  all_goals decide +kernel

/-- The up order stands at its END. -/
def atEnd : State := { ordering 0 none (railOn false) Sup.reset with live := [] }

/-- The emergency order stands at a step. -/
def emergencyOrder (type : Nat) (x : Option SeqWait) : State :=
  let s := ordering 0 none (railOn false) Sup.reset
  { s with live := if type = 0 then [] else [(0x4203 * 256 + 1, type * 2 ^ 28 + 15 * 2 ^ 20)], seq := { s.seq with run := some ⟨.emergency, 0, 0, 0, x, false⟩ }
           aocb := { s.aocb with pstate := .emergency } }

theorem test_meets_SequencerSteps_ends :
    (let s := atEnd;
      Canonical s ∧ UpStep s (upRun none) 0 none ∧ s.aocb.pstate.levelOf < 3 ∧ s.seq.after = none)
    ∧ (let s := emergencyOrder 3 none
      Canonical s ∧ s.seq.run = some ⟨.emergency, 0, 0, 0, none, false⟩ ∧ stepType (s.stepWord .emergency 0) = 3 ∧ stepObj (s.stepWord .emergency 0) = 15
        ∧ (s.rail 15).enabled = true ∧ (s.rail 15).vset ≠ 0)
    ∧ (let s := emergencyOrder 0 none
      Canonical s ∧ stepType (s.stepWord .emergency 0) = 0)
    ∧ (emergencyOrder 9 (some .delay)).seq.run = some ⟨.emergency, 0, 0, 0, some .delay, false⟩ := by
  repeat' apply And.intro
  all_goals decide +kernel

theorem test_meets_SequencerSteps_sense :
    decide (0 + 500000 < 500001 ∨ 500001 + 500000 < 0) = true ∧ decide (0 + 500000 < 500000 ∨ 500000 + 500000 < 0) = false := by decide +kernel

/-- The state in force at a level, on the pack or not. -/
def atLevel (p : PState) (level : Nat) : State := { up with aocb := { up.aocb with pstate := p, target := p }, seq := { Seq.reset with level := level, issued := level } }

theorem test_meets_RequestsAndSupervision :
    (MayWrite up .C 0x4200 3 ∧ PState.ofCode 6 = none ∧ PState.ofCode 5 = some .run ∧ up.requestRefusal .run true = none ∧ up.requestRefusal .ship true = some 3
      ∧ up.requestRefusal .keepalive true = none ∧ up.seq.run = none ∧ up.aocb.pstate = .keepalive ∧ up.seq.level < PState.run.levelOf)
    ∧ (let s := atLevel .run 3
      Canonical s ∧ MayWrite s .C 0x4200 3 ∧ s.requestRefusal .listen true = none ∧ PState.listen ≠ s.aocb.pstate ∧ PState.listen.levelOf < s.seq.level ∧ s.seq.issued ≤ s.seq.level)
    ∧ (MayWrite up .C 0x4200 13 ∧ up.ordersOk = true ∧ (up.set 0x4201 1 0xF0000000).ordersOk = false ∧ MayWrite (up.set 0x4201 1 0xF0000000) .C 0x4200 13)
    ∧ ((ordering 4 none RailSt.reset Sup.reset).seq.run.isSome = true ∧ MayWrite (ordering 4 none RailSt.reset Sup.reset) .C 0x4200 13)
    ∧ (let s : State := { up with seq := { Seq.reset with retryDue := true, dest := some .run } }
      Canonical s ∧ s.seq.retryDue = true ∧ s.seq.run = none ∧ s.seq.level < PState.run.levelOf) ∧ up.seq.retryDue = false
    ∧ (let s := (up.set 0x2010 4 1).set 0x4200 7 60000
      Canonical s ∧ s.level ≠ none ∧ s.onPack = true ∧ s.get 0x4200 7 ≠ 0 ∧ s.seq.dwellUsed = false ∧ s.aocb.pstate.code ≤ s.get 0x4200 6 ∧ s.up = true
        ∧ s.aocb.boot.trimFault = false) ∧ up.onPack = false := by
  repeat' apply And.intro
  all_goals decide +kernel

/-- A supervisor with nothing asserted. -/
def calm : Sup := { Sup.reset with uv := false }

theorem test_meets_RequestsAndSupervision_faults :
    (let s := railAt RailSt.reset Sup.reset;
      Canonical s ∧ s.seq.run = none ∧ (s.rail 15).enabled = false ∧ (s.sup 15).retryPending = false ∧ (s.sup 15).transition = false ∧ (s.sup 15).latched = false
        ∧ MayWrite s .C 0x410F 14)
    ∧ (let s := (railAt (railOn false) calm).set 0x410F 6 100
      Canonical s ∧ (s.rail 15).enabled = true ∧ (s.sup 15).transition = false ∧ s.monitor 15 = false ∧ s.get 0x410F 6 ≠ 0 ∧ (s.rail 15).disabling = false)
    ∧ (let s := railAt (railOn false) { calm with transition := true }
      (s.rail 15).enabled = true ∧ (s.sup 15).transition = true ∧ (s.rail 15).slewing = false ∧ (s.sup 15).uv = false)
    ∧ (up.monitor 15 = true ∧ (up.set 0x410F 6 0).get 0x410F 6 = 0 ∧ ((railAt (railOn true) calm).rail 15).slewing = true)
    ∧ (let s := railAt RailSt.reset { calm with retryPending := true }
      Canonical s ∧ (s.sup 15).retryPending = true ∧ s.shutConcerned 15 = false ∧ s.clocks.pllD = true ∧ (s.sup 15).ov = false ∧ (s.sup 15).oc = false)
    ∧ ((railAt RailSt.reset { calm with retryPending := true, oc := true }).sup 15).oc = true
    ∧ (let s := railAt RailSt.reset { calm with latched := true }
      Canonical s ∧ MayWrite s .C 0x410F 14 ∧ (s.sup 15).latched = true ∧ (s.sup 15).lbist = false ∧ (s.sup 15).wasEnabled = false ∧ s.shutConcerned 15 = false)
    ∧ ((railAt RailSt.reset { calm with latched := true, wasEnabled := true }).sup 15).wasEnabled = true
    ∧ ((railAt RailSt.reset { calm with latched := true, lbist := true }).sup 15).lbist = true
    ∧ (let s := railAt (railOn false) { Sup.reset with transition := true }
      (s.sup 15).uv = true ∧ (s.rail 15).slewing = false ∧ (s.rail 15).enabled = true ∧ (s.sup 15).transition = true) := by
  repeat' apply And.intro
  all_goals decide +kernel

theorem test_meets_RequestsAndSupervision_values :
    (let s := (railAt (railOn false) calm).set 0x410F 6 100;
      Canonical s ∧ s.beyondFault 15 0 1100001 = true ∧ s.beyondFault 15 0 1100000 = false ∧ s.beyondFault 15 1 899999 = true ∧ s.beyondFault 15 1 900000 = false
        ∧ s.beyondFault 15 2 10001 = true ∧ s.beyondFault 15 2 10000 = false ∧ s.pastRelease 15 0 1049999 = true ∧ s.pastRelease 15 0 1050000 = false
        ∧ s.pastRelease 15 1 950001 = true ∧ s.pastRelease 15 1 950000 = false ∧ s.pastRelease 15 2 9999 = true ∧ s.pastRelease 15 2 10000 = false)
    ∧ (let s := railAt (railOn false) { calm with transition := true }
      Canonical s ∧ s.seq.run = none ∧ s.beyondFault 15 1 0 = true ∧ (s.sup 15).transition = true)
    ∧ (0 ≤ 500000 + 500000 ∧ 500000 ≤ 0 + 500000 ∧ 0 + 500000 < 500001) := by
  repeat' apply And.intro
  all_goals decide +kernel

/-- A trusted pack, VSYS on VIN for 100 ms, the charger enabled in a window of temperature, in a phase. -/
def chargerIn (phase window : Nat) : State :=
  let s := (((up.set 0x4320 1 2).set 0x4300 1 1).set 0x4301 3 window).set 0x4301 1 phase
  { s with pack := { s.pack with vinSettled := true, heldPhase := 4 } }

theorem test_meets_ChargerCommands :
    (Canonical (chargerIn 0 2) ∧ (chargerIn 0 2).chargePhase = 0 ∧ (chargerIn 0 2).chargerMay = true ∧ (chargerIn 0 2).chargerVin = true)
    ∧ (up.chargePhase = 0 ∧ up.chargerMay = false ∧ up.chargerVin = false)
    ∧ ((chargerIn 7 2).chargePhase = 7 ∧ (chargerIn 7 2).chargerMay = true ∧ (chargerIn 7 2).chargerVin = true)
    ∧ (let s := ((chargerIn 1 2).set 0x3120 50 0x807FFFFF)
      s.onVin = true ∧ s.power.vinLost = false ∧ s.chargePhase = 1 ∧ s.chargerMay = true ∧ s.window ≠ 0 ∧ s.window ≠ 4 ∧ s.inputLow = false ∧ Canonical s)
    ∧ (let s := (chargerIn 4 2).set 0x4300 1 0
      s.chargePhase ≠ 0 ∧ s.chargePhase ≠ 8 ∧ s.chargerMay = false ∧ Canonical s)
    ∧ ((up.set 0x2010 4 1).onVin = false)
    ∧ ((chargerIn 5 2).chargePhase = 5 ∧ ((chargerIn 5 2).set 0x4300 7 1).get 0x4300 7 ≠ 0 ∧ ((chargerIn 5 2).set 0x4300 7 0).get 0x4300 7 = 0
      ∧ ((chargerIn 5 2).set 0x2010 4 1).trusted = true ∧ (chargerIn 6 2).chargePhase = 6)
    ∧ (2 ≤ (chargerIn 2 2).chargePhase ∧ (chargerIn 5 2).chargePhase ≤ 5 ∧ (chargerIn 1 2).chargePhase < 2 ∧ 5 < (chargerIn 6 2).chargePhase
      ∧ (chargerIn 6 2).charging = true ∧ (chargerIn 7 2).charging = false)
    ∧ (MayWrite (chargerIn 8 2) .C 0x4302 1 ∧ (chargerIn 8 2).chargePhase = 8 ∧ (chargerIn 8 2).flag 0x4301 2 5 = false ∧ (chargerIn 7 2).chargePhase ≠ 8)
    ∧ (let s := ((chargerIn 8 2).setFlag 0x4301 2 5 true).set 0x4301 5 65535
      MayWrite s .C 0x4302 1 ∧ s.flag 0x4301 2 5 = true ∧ s.ovStopMv < s.get 0x4301 5)
    ∧ (MayWrite up .C 0x4300 5 ∧ rowOk 0x4300 5 65535 = false ∧ rowOk 0x4300 1 0 = true ∧ rowOk 0x4300 2 (up.get 0x4300 2) = true ∧ MayWrite up .C 0x4300 2
      ∧ MayWrite up .C 0x4300 1)
    ∧ (rawWindow 430 = 2 ∧ 120 ≤ 430) := by
  repeat' apply And.intro
  all_goals decide +kernel

theorem test_meets_ChargerCommands_faults :
    (let s := chargerIn 4 2;
      Canonical s ∧ s.charging = true ∧ s.ovStopMv < 14801 ∧ 14800 ≤ s.ovStopMv ∧ 3 * s.iccEff + 200 < 2 * 1601 ∧ 2 * 1600 ≤ 3 * s.iccEff + 200) := by
  repeat' apply And.intro
  all_goals decide +kernel

/-- A pack on which VSYS runs, trusted or not. -/
def runsOnPack : State := onPack 2

/-- OFF, with VIN lost or not. -/
def offState (lost trusted : Bool) : State :=
  let s := (powered .idle).set 0x4320 1 (if trusted then 2 else 0)
  { s with aocb := { Aocb.reset with pstate := .off, target := .off }, power := { s.power with vinLost := lost, batgHeld := false, selfBuck := .stopped, resetNLow := false } }

/-- SHIP. -/
def shipped : State := { powered .idle with aocb := { Aocb.reset with pstate := .ship, target := .ship }, power := { (powered .idle).power with armedRise := true, resetNLow := false } }

/-- The BATFET hold of a long press runs. -/
def holding (lost : Bool) : State := { powered .idle with power := { (powered .idle).power with batgHeld := true, vinLost := lost, resetNLow := false } }

/-- OFF or SHIP follows, KEEPALIVE reached. -/
def leaving (p : PState) : State := { up with seq := { Seq.reset with after := some p } }

theorem test_meets_PackAndServiceButton :
    (up.onPack = false ∧ Canonical runsOnPack ∧ runsOnPack.onPack = true ∧ runsOnPack.aocb.pstate ≠ .emergency)
    ∧ (up.up = true ∧ up.chargePhase ≠ 8 ∧ (up.set 0x4320 1 2).packCondition ≠ 1 ∧ up.pack.removed = false)
    ∧ ({ up with pack := { up.pack with removed := true } }.pack.removed = true)
    ∧ (State.reset.power.vaonValid = false ∧ shipped.aocb.pstate = .ship ∧ up.power.vaonValid = true ∧ up.aocb.pstate ≠ .off ∧ up.aocb.pstate ≠ .ship)
    ∧ (Canonical (offState true false) ∧ (offState true false).aocb.pstate = .off ∧ (offState true false).power.vinLost = true ∧ (offState true false).trusted = false)
    ∧ ((offState false false).power.vinLost = false ∧ (offState false false).power.resetNLow = false ∧ (offState false false).power.vaonValid = true)
    ∧ ((offState true true).trusted = true ∧ (offState true true).power.batgHeld = false)
    ∧ ((powered .idle).up = false ∧ up.get 0x4200 9 = 0 ∧ (up.set 0x4200 9 1).get 0x4200 9 ≠ 0 ∧ (up.set 0x4200 9 1).requestRefusal .service false = none)
    ∧ (Canonical (holding true) ∧ (holding true).power.batgHeld = true ∧ (holding true).power.vinLost = true ∧ (holding false).power.vinLost = false
      ∧ (holding false).power.resetNLow = false ∧ up.power.batgHeld = false)
    ∧ (Canonical shipped ∧ shipped.power.armedRise = true ∧ shipped.power.resetNLow = false)
    ∧ (Canonical (leaving .off) ∧ (leaving .off).seq.after = some .off ∧ (leaving .off).seq.run = none ∧ (leaving .off).aocb.pstate = .keepalive
      ∧ (leaving .ship).seq.after = some .ship ∧ up.seq.after ≠ some .off) := by
  repeat' apply And.intro
  all_goals decide +kernel

theorem test_meets_PackAndServiceButton_cutoff : 10400 ≤ runsOnPack.cutoffMv ∧ runsOnPack.cutoffMv < 10401 := by decide +kernel

/-- An exchange with the pack stands somewhere. -/
def exchanging (e : Exchange) (due : Bool) (trust : Nat) : State :=
  let s := up.set 0x4320 1 trust
  { s with pack := { s.pack with exchange := e, exchangeDue := due, keys := [.key 5, .empty, .empty, .empty] } }

/-- An identity record that passes step 1 of R588, for key slot 0. -/
def identity : List Nat :=
  let body := [1, 0] ++ toLE 2 5000 ++ toLE 2 0 ++ List.replicate 22 0
  body ++ toLE 4 (crc32 body)

theorem test_meets_PackAndServiceButton_exchange :
    (up.attemptNow = none ∧ (exchanging .idle true 0).attemptNow = some 1 ∧ (exchanging (.between 3) false 0).attemptNow = some 3 ∧ Canonical (exchanging .idle true 0))
    ∧ identReason (exchanging .idle true 0) .noAnswer ≠ 0 ∧ identReason (exchanging .idle true 0) (.bytes identity) = 0
    ∧ ((exchanging (.waiting 3 7) false 0).pack.exchange = .waiting 3 7 ∧ (exchanging (.waiting 3 7) false 0).exchangeMay = true
      ∧ (exchanging (.waiting 3 7) false 0).packKey ((exchanging (.waiting 3 7) false 0).ident 1 1) = some (toLE 32 5)) ∧ (∀ k < 4, up.pack.exchange ≠ .waiting k 0)
    ∧ (MayWrite up .C 0x4320 6 ∧ MayWrite runsOnPack .C 0x4320 6 ∧ runsOnPack.onVin = false ∧ up.onVin = true ∧ up.power.vinLost = false)
    ∧ (up.trusted = false ∧ runsOnPack.trusted = true ∧ (exchanging .idle false 2).trusted = true ∧ (exchanging .idle false 2).onVin = true
      ∧ (exchanging .idle false 2).pack.exchange = .idle ∧ (exchanging .idle false 2).pack.exchangeDue = false ∧ MayWrite (exchanging .idle false 2) .C 0x4320 6)
    ∧ (((exchanging .idle false 2).setFlag 0x4810 3 0 true).flag 0x4810 3 0 = true) ∧ ((exchanging (.between 2) false 0).pack.exchange ≠ .idle)
    ∧ (65535 < 65536 ∧ 255 < 256 ∧ { up.pack with pollFails := 2 }.pollFails = 2) := by
  repeat' apply And.intro
  all_goals decide +kernel

/-- A channel in a state, the channels running. -/
def fanAt (f : Fan) : State := { up with thermal := { Thermal.reset with running := true, fans := Thermal.reset.fans.set 3 f } }

theorem test_meets_ThermalAndAirMovers :
    (Canonical up ∧ up.thermal.fans.length = 4 ∧ up.thermal.biasHigh = true ∧ { Thermal.reset with biasHigh := false }.biasHigh = false)
    ∧ (let s : State := { (up.set (tsObj 7) 1 2) with thermal := { Thermal.reset with biasHigh := false, diodeHigh := List.replicate 8 (some 900), diodeNow := List.replicate 8 (some 100) } }
      s.get (tsObj 7) 1 = 2 ∧ nth s.thermal.diodeHigh 7 none = some 900 ∧ nth s.thermal.diodeNow 7 none = some 100 ∧ up.get (tsObj 7) 1 ≠ 2 ∧ Canonical s)
    ∧ (State.reset.power.vaonValid = false ∧ up.power.vaonValid = true ∧ up.aocb.pstate ≠ .ship)
    ∧ (up.thermal.shdnLow = false ∧ { Thermal.reset with overRun := 1 }.overRun = 1 ∧ up.tcritTenths ≤ 3000 ∧ up.thermal.overRun = 0 ∧ (0 : Int) < up.tcritTenths)
    ∧ ({ Thermal.reset with shdnLow := true }.shdnLow = true ∧ (0 : Int) < up.tcritTenths - 100)
    ∧ (up.flag 0x440A 3 25 = false ∧ (up.setFlag 0x440A 3 25 true).flag 0x440A 3 25 = true)
    ∧ (up.thermal.running = false ∧ (fanAt Fan.reset).thermal.running = true ∧ (fanAt Fan.reset).thermal.lbistOff = false ∧ Canonical (fanAt Fan.reset))
    ∧ (let s := (((fanAt { Fan.reset with lastTarget := 1000, stallRun := 2 }).set (fanObj 3) 1 1).set (fanObj 3) 3 1000).set (fanObj 3) 2 2
      Canonical s ∧ s.get (fanObj 3) 1 ≠ 0 ∧ s.thermal.forcedB = false ∧ s.test.lineTest ≠ some .tacho ∧ s.get (fanObj 3) 3 ≠ 0 ∧ s.get (fanObj 3) 2 ≠ 0
        ∧ s.flag (fanObj 3) 23 5 = false ∧ (s.fan 3).lastTarget ≠ 0 ∧ (s.fan 3).restart = false ∧ (s.fan 3).spinup = false ∧ s.fanSpeed 3 = 0)
    ∧ (let s := (((fanAt Fan.reset).set (fanObj 3) 1 1).set (fanObj 3) 3 1000).set (fanObj 3) 2 2
      (s.fan 3).lastTarget = 0 ∧ s.thermal.running = true)
    ∧ (up.get (fanObj 3) 1 = 0 ∧ (up.set (fanObj 3) 2 0).get (fanObj 3) 2 = 0)
    ∧ ((fanAt { Fan.reset with spinup := true }).fan 3).spinup = true ∧ ((fanAt Fan.reset).fan 3).spinup = false
    ∧ (let s := (fanAt { Fan.reset with edges := [9, 5] }).set (fanObj 3) 2 2
      (s.fan 3).edges[s.get (fanObj 3) 2 - 1]? = some 5 ∧ 5 < 10 ∧ (Fan.reset).edges.length < s.get (fanObj 3) 2)
    ∧ (let s := up.set (fanObj 3) 1 1
      s.get (fanObj 3) 1 = 1 ∧ s.flag (fanObj 3) 23 6 = false ∧ s.flag (fanObj 3) 23 5 = false ∧ Canonical s)
    ∧ (MayWrite up .C (fanObj 3) 19 ∧ up.curveOk 3 = true ∧ (up.set (fanObj 3) 11 0xFFFF).curveOk 3 = false ∧ MayWrite (up.set (fanObj 3) 11 0xFFFF) .C (fanObj 3) 19)
    ∧ (up.get (fanObj 3) 5 ≤ 500) := by
  repeat' apply And.intro
  all_goals decide +kernel

/-- The critical-temperature comparator has measured a value while the die's inputs read another. -/
def tcritAt (measured : Nat) : State :=
  let s := [37, 38, 39, 40].foldl (fun (s : State) h => s.set 0x3120 h (2 ^ 31)) (up.set 0x4410 4 measured)
  { s with thermal := { s.thermal with measured := true } }

theorem test_meets_ThermalAndAirMovers_conditions :
    (Canonical (tcritAt 101) ∧ (tcritAt 101).flag 0x440A 3 25 = false ∧ (tcritAt 101).tcritDiffers = some 101 ∧ (tcritAt 100).tcritDiffers = some 100
      ∧ (tcritAt 50).tcritDiffers = some 50 ∧ (tcritAt 51).tcritDiffers = some 51 ∧ up.tcritDiffers = none)
    ∧ (((up.set (fanObj 3) 21 300).fanSpeed 3 = 300 ∧ (up.set (fanObj 3) 21 299).fanSpeed 3 = 299))
    ∧ (let s := ((up.set (fanObj 3) 22 1000).set (fanObj 3) 20 1000).set (fanObj 3) 1 1
      Canonical s ∧ (s.set (fanObj 3) 21 800).speedCondition 3 = 0 ∧ (s.set (fanObj 3) 21 799).speedCondition 3 = 1
        ∧ ((s.set (fanObj 3) 22 200).set (fanObj 3) 21 1201).speedCondition 3 = 2 ∧ ((s.set (fanObj 3) 22 200).set (fanObj 3) 21 1200).speedCondition 3 = 0
        ∧ s.get (fanObj 3) 1 = 1 ∧ s.flag (fanObj 3) 23 6 = false ∧ (s.fan 3).spinup = false ∧ s.flag (fanObj 3) 23 5 = false ∧ s.get (fanObj 3) 20 ≠ 0) := by
  repeat' apply And.intro
  all_goals decide +kernel

/-- A queued record of a code. -/
def aRecord (code : Nat) : LogRecord := ⟨code, false, 0, 0, 0, 7⟩

/-- The log open with the flash present, in a state of its own. -/
def logging (f : Log → Log) : State := { (up.set 0x4800 13 255) with log := f { Log.reset with opened := true, writeSlot := 5, nextLsn := 9 } }

theorem test_meets_LogCommands :
    (Canonical up ∧ up.log.cursors.length = 4 ∧ up.log.opened = false ∧ up.up = true ∧ newestGood up.log.slots (fun _ => true) = none
      ∧ newestGood [(3, LogSlot.good 8 4 (aRecord 1))] (fun _ => true) = some (3, 8, 4))
    ∧ (let s := logging (fun l => { l with queue := [aRecord 0x0160, aRecord 0x0161] });
      Canonical s ∧ s.log.cursors.length = 4 ∧ s.up = true ∧ s.log.opened = true ∧ s.log.queue = [aRecord 0x0160, aRecord 0x0161] ∧ s.store.flashAbsent = false
        ∧ s.flag 0x4800 10 0 = false ∧ s.power.writesStopped = false ∧ s.flag 0x4800 10 2 = false ∧ s.eraseDue = false ∧ s.get 0x4800 13 = 255 ∧ s.log.failures < 7)
    ∧ ((logging (fun l => { l with queue := [aRecord 0x0160], failures := 7 })).eraseDue = false)
    ∧ (let s := logging (fun l => { l with queue := [aRecord 0x0160], writeSlot := 64, slots := [(128, .torn)] })
      s.eraseDue = true ∧ s.eraseBarred = false ∧ s.get 0x4800 13 = 255 ∧ s.up = true ∧ s.log.opened = true)
    ∧ (let s := (logging (fun l => { l with queue := [aRecord 0x0160] })).setFlag 0x4800 10 2 true
      s.flag 0x4800 10 2 = true ∧ (aRecord 0x0160).mayFill = false ∧ Canonical s)
    ∧ (let s := logging (fun l => { l with queue := [aRecord 0x0160] })
      ({ s with store := { s.store with flashAbsent := true } } : State).store.flashAbsent = true ∧ (s.setFlag 0x4800 10 0 true).flag 0x4800 10 0 = true)
    ∧ (MayWrite (logging id) .C 0x4800 6 ∧ (logging id).flag 0x4800 10 2 = false ∧ (logging id).log.dropped.count = 0 ∧ (logging id).log.queue.length < 32)
    ∧ (let s := (logging (fun l => { l with whileFull := ⟨2, 5⟩ })).setFlag 0x4800 10 2 true
      MayWrite s .C 0x4800 6 ∧ s.flag 0x4800 10 2 = true ∧ s.log.queue = [] ∧ s.log.dropped.count = 0 ∧ 0 < s.log.whileFull.count ∧ Canonical s)
    ∧ (MayWrite up .T 0x4801 1 ∧ 524287 < 524288 ∧ MayRead up .D 0x4801 2 ∧ MayRead up .C 0x4801 2 ∧ (powered .idle).up = false)
    ∧ (let s := logging (fun l => { l with slots := [(3, .torn), (4, .good 8 1 (aRecord 0x0160))] })
      MayRead s .D 0x4801 2 ∧ s.log.opened = true ∧ nth s.log.cursors Port.D.code 0xFFFFFFFF ≠ s.log.writeSlot
        ∧ (s.log.fromCursor 0xFFFFFFFF).map Prod.fst = [4] ∧ 0 < (s.log.fromCursor 0xFFFFFFFF).length)
    ∧ (MayWrite (logging id) .T 0x4802 1 ∧ (List.replicate 20 1).length = 20 ∧ up.get 0x4800 2 < 2)
    ∧ (let s := (logging (fun l => { l with queue := List.replicate 32 (aRecord 0x0160) })).set 0x4800 2 2
      s.up = true ∧ 2 ≤ s.get 0x4800 2 ∧ s.flag 0x4800 10 2 = false ∧ 32 ≤ s.log.queue.length ∧ s.log.opened = true ∧ Canonical s) := by
  repeat' apply And.intro
  all_goals decide +kernel

/-- Firmware runs, the scan done, with a target at a stage and a session of port C on it. -/
def updating (sub : Nat) (st : Target) (blk : List Nat) (record : Option BootRecord) : State := { up with
  update := { Update.reset with
    scanned := true, targets := Update.reset.targets.set (sub - 1) st, session := some ⟨sub, 0, blk⟩, slots := [record, none] } }

/-- The same without a session. -/
def unsessioned (st : Target) (record : Option BootRecord) : State :=
  { updating 1 st [] record with update := { (updating 1 st [] record).update with session := none } }

/-- A boot record. -/
def aBoot (trial : Bool) : BootRecord := ⟨3, 0, trial, 0, 1, 2, 0, false⟩

set_option maxRecDepth 200000 in
theorem test_meets_UpdateCommands :
    (let s := updating 1 ⟨4, .downloading, 0⟩ [] none;
      Canonical s ∧ s.update.targets.length = 5 ∧ s.update.banks.length = 2 ∧ s.update.programs.length = 4 ∧ s.update.slots.length = 2
        ∧ s.update.found.length = 2 ∧ s.update.running < 2)
    ∧ ((powered .idle).up = false ∧ up.up = true ∧ up.update.scanned = false ∧ up.store.flashAbsent = false ∧ (up.targetBank 5).blocks = [] ∧ (up.targetBank 5).erasing = false)
    ∧ ((unsessioned Target.reset (some (aBoot true))).update.inTrial = true ∧ (unsessioned Target.reset (some (aBoot false))).update.inTrial = false)
    ∧ (MayWrite up .C 0x1F50 1 ∧ MayWrite up .C 0x1F51 1 ∧ MayWrite up .D 0x1F50 5 ∧ MayWrite up .D 0x1F51 5)
    ∧ (let s := updating 5 ⟨4, .downloading, 0⟩ [1, 2, 3] none
      MayWrite s .C 0x1F50 5 ∧ s.update.scanned = true ∧ (∀ x ∈ s.update.session, x.port = Port.C.code) ∧ s.power.writesStopped = false ∧ s.slotLive 5 = false
        ∧ s.update.session = some ⟨5, Port.C.code, [1, 2, 3]⟩ ∧ (s.target 5).stage = .downloading ∧ (s.target 5).offset < s.imageBlocks 5 ∧ 3 + 4092 < 4096
        ∧ blockOk 4 ([1, 2, 3] ++ List.replicate 4093 0) = false)
    ∧ ((updating 5 ⟨4, .verified, 0⟩ [] none).target 5).stage ∈ [.complete, .verifying, .verified, .activated]
    ∧ ((up.set (progObj 4) 2 1).slotLive 5 = true ∧ (up.set (progObj 4) 2 1).progState 4 ≠ 0 ∧ up.progState 4 ≠ 1 ∧ up.progState 4 ≠ 3)
    ∧ ((unsessioned Target.reset none).update.session = none ∧ ((updating 5 ⟨4, .downloading, 0⟩ [] none).target 5).stage ≠ .erasing)
    ∧ (((unsessioned ⟨4, .activated, 0⟩ none).target 1).stage = .activated ∧ MayWrite (unsessioned ⟨4, .activated, 0⟩ none) .C 0x1F51 1
      ∧ ((unsessioned ⟨4, .complete, 0⟩ none).target 1).stage ∈ [.complete, .verified, .failed])
    ∧ (let s := unsessioned ⟨4, .verified, 0⟩ (some (aBoot false))
      (s.target 1).stage = .verified ∧ s.update.inForceSlot = some 0 ∧ s.update.record = some (aBoot false) ∧ s.power.writesStopped = false)
    ∧ (let s := unsessioned ⟨4, .failed, 9⟩ none
      (s.target 1).stage = .failed ∧ (s.target 1).error = 9)
    ∧ (let s := unsessioned ⟨0, .trial, 0⟩ (some (aBoot true))
      MayWrite s .C 0x4900 5 ∧ (s.target 1).stage = .trial ∧ s.power.writesStopped = false ∧ s.store.flashAbsent = false
        ∧ nth s.update.banks (1 - s.update.running) ⟨[], false⟩ = ⟨[], false⟩ ∧ (up.target 1).stage ≠ .trial)
    ∧ ((updating 5 ⟨0, .erasing, 0⟩ [] none).targetIn .erasing = some 5 ∧ up.targetIn .erasing = none ∧ up.targetIn .verifying = none
      ∧ (updating 5 ⟨0, .verifying, 0⟩ [] none).targetIn .verifying = some 5 ∧ (updating 5 ⟨0, .verifying, 0⟩ [] none).verifyTarget 5 [] = 4)
    ∧ (let s : State := { up with update := { up.update with windowOpen := true } }
      s.update.windowOpen = true ∧ (s.set 0x4900 2 0).get 0x4900 2 = 0 ∧ (s.set 0x4900 2 60).get 0x4900 2 ≠ 0
        ∧ ((s.set 0x4900 2 60).set 0x4900 3 1).selected &&& (31 - ((s.set 0x4900 2 60).set 0x4900 3 1).criteria) = 0
        ∧ ((s.set 0x4900 2 60).set 0x4900 3 7).selected &&& (31 - ((s.set 0x4900 2 60).set 0x4900 3 7).criteria) ≠ 0) := by
  repeat' apply And.intro
  all_goals decide +kernel

/-- The recovery loader runs over a record. -/
def loading (t : Target) : State :=
  let s := powered .loader
  { s with update := { Update.reset with targets := Update.reset.targets.set 0 t, slots := [some (aBoot false), none] } }

/-- A user program with a program loaded, the core held. -/
def loadedProgram (st : Nat) : State := { withImage.set (progObj 1) 2 st with
  tabor := { withImage.tabor with held := true, programs := withImage.tabor.programs.set 0 (some ⟨1, 0, [], [0], [], 0, 0, [], 0, false, 0⟩) } }

set_option maxRecDepth 200000 in
theorem test_meets_UpdateCommands_more :
    (let s := loading ⟨4, .verified, 0⟩;
      Canonical s ∧ s.power.step = .loader ∧ s.power.hardReset = false ∧ s.checkWrite .C 0x1F50 1 = .ok ∧ s.checkWrite .D 0x1F51 1 = .ok
        ∧ s.store.flashAbsent = false ∧ s.update.session = none ∧ s.power.writesStopped = false ∧ (s.target 1).stage = .verified ∧ s.update.record = some (aBoot false)
        ∧ (aBoot false).bank < 2)
    ∧ (withImage.targetIn .verifying = some 2 ∧ (withImage.targetBank 2).blocks ≠ [] ∧ Canonical withImage)
    ∧ ((updating 2 ⟨0, .downloading, 0⟩ [] none).imageBlocks 2 = 128 ∧ headerError 2 ((signedImage.block 0).getD []) = 0 ∧ blockField ((signedImage.block 0).getD []) 20 4 = 3)
    ∧ ((loadedProgram 1).progState 1 ∈ [1, 3] ∧ (loadedProgram 1).prog 1 ≠ none ∧ (loadedProgram 1).coreFree = false ∧ MayWrite (loadedProgram 1) .C 0x1F51 2)
    ∧ blockOk 0 ((signedImage.block 0).getD []) = true := by
  repeat' apply And.intro
  all_goals decide +kernel

/-- The check of a user program's image is that of its blocks. -/
theorem verifyTarget_program (s : State) (bad : List Nat) : s.verifyTarget 2 bad = verifyBlocks s 2 (s.targetBank 2) bad := by
  simp [State.verifyTarget]

/-- The verification of the signed image finds nothing. -/
theorem test_meets_UpdateCommands_verified : withImage.verifyTarget 2 [] = 0 := (verifyTarget_program withImage []).trans test_signed_image_verifies

theorem test_meets_UpdateCommands_barred :
    (let s : State := { updating 5 ⟨0, .erasing, 0⟩ [] none with power := { up.power with writesStopped := true } };
      Canonical s ∧ s.power.writesStopped = true ∧ s.targetIn .erasing = some 5 ∧ MayWrite s .C 0x1F51 5 ∧ s.update.scanned = true)
    ∧ (let s : State := { up with update := { up.update with windowOpen := true }, power := { up.power with writesStopped := true } }
      s.power.writesStopped = true ∧ s.update.windowOpen = true)
    ∧ (let s := programmed (loadedProgram 1) 1 (program 0 0 false) (some (1, true))
      s.progState 1 = 1 ∧ s.handlerRuns 1 = true) := by
  repeat' apply And.intro
  all_goals decide +kernel

/-- An in-service cycle stands somewhere in a quiet frame. -/
def cycling (todo : List Nat) (current : Option SliceTest) (segRuns : Bool) : State := { up with
  beat := { up.beat with phase := .quiet }
  test := { up.test with cycleRuns := true, todo := todo, current := current, segRuns := segRuns } }

/-- Redundancy mode 2 with line A not the active one: slice 5 may be tested. -/
def lineIdle (s : State) : State := { s.set 0x2025 1 1 with live := [(0x2020 * 256 + 3, 2)] }

theorem test_meets_SelfTestAndAccess :
    (Canonical up ∧ up.test.hashes.length = 3 ∧ up.pack.keys.length = 4 ∧ up.up = true ∧ up.test.cycleRuns = false ∧ (up.set 0x4A00 1 0x60).get 0x4A00 1 = 0x60
      ∧ setBits 7 0x60 ≠ [])
    ∧ (let s := cycling [6] (some ⟨5, 6, false⟩) false
      s.up = true ∧ s.test.cycleRuns = true ∧ s.test.segRuns = false ∧ s.test.granted = false ∧ s.beat.phase = .quiet ∧ s.test.tap.drives = false ∧ s.clocks.pllB = true
        ∧ s.test.current = some ⟨5, 6, false⟩)
    ∧ ((cycling [3] none false).sliceEligible 3 = false ∧ (cycling [3] none false).test.todo = [3] ∧ (cycling [3] none false).test.current = none)
    ∧ ((cycling [6] (some ⟨5, 6, true⟩) true).test.segRuns = true ∧ (cycling [] (some ⟨5, 6, false⟩) true).test.todo = [] ∧ (159 < 160 ∧ 160 ≤ 160))
    ∧ (State.reset.power.vaonValid = false ∧ up.power.vaonValid = true ∧ up.test.tap.drives = false ∧ up.test.access ≠ .locked ∧ up.lbistHalted = false)
    ∧ (({ up with test := { up.test with access := .locked } } : State).test.access = .locked ∧ ((lbistAt 24).set 0x4A00 3 0x80).lbistHalted = true
      ∧ (lbistAt 24).power.vaonValid = true ∧ up.test.dap.busy = false)
    ∧ (up.test.access = .full ∧ (∀ r ∈ up.reg.rails, r.enabled = false) ∧ up.get 0x4301 1 = 0 ∧ up.test.lineTest = none ∧ (∃ r ∈ (railAt (railOn false) Sup.reset).reg.rails, r.enabled = true))
    ∧ (let s : State := { up with test := { up.test with tap := .extest } }
      s.test.tap.drives = true ∧ s.aocb.pstate ≠ .ship ∧ s.inEmergency = false ∧ s.power.step ≠ .idle ∧ s.power.step ≠ .supplyFailed)
    ∧ (MayWrite up .C 0x4A10 1 ∧ up.aocb.pstate = .keepalive ∧ up.onVin = true ∧ (∀ n < 16, (up.rail n).enabled = false ∧ up.get (railObj n) 14 < 50) ∧ up.level ≠ none
      ∧ (up.set (fanObj 3) 1 1).get (fanObj 3) 1 ≠ 0)
    ∧ (let s : State := { up with aocb := { up.aocb with pstate := .service, target := .service } }
      MayWrite s .C 0x4A10 1 ∧ s.aocb.target = .service ∧ s.seq.run = none ∧ s.get 0x3241 1 = 0 ∧ s.flag 0x3202 6 5 = false ∧ s.test.lineTest = none)
    ∧ (let s : State := { up with test := { up.test with lineTest := some .pwm } }
      s.test.lineTest = some .pwm ∧ LineTest.pwm.bytes.1 ≤ 233 ∧ 233 < LineTest.pwm.bytes.1 + LineTest.pwm.bytes.2)
    ∧ (let s : State := { up with test := { up.test with hashes := [.key 0, .empty, .key 7] } }
      MayWrite s .D 0x5F00 2 ∧ s.test.field = false ∧ (nth s.test.hashes 2 .empty).programmed = true ∧ s.onVin = true ∧ (nth up.test.hashes 2 .empty).programmed = false)
    ∧ (MayWrite up .D 0x5F00 5 ∧ up.test.serial < 2 ^ 64 ∧ MayWrite up .D 0x5F00 6 ∧ up.test.lockout = false ∧ (1 :: List.replicate 131 0).length = 132
      ∧ nth (1 :: List.replicate 131 0) 0 0 = 1 ∧ up.test.nonce = none ∧ { up.test with lockout := true }.lockout = true)
    ∧ (MayWrite up .D 0x5F10 1 ∧ up.test.baseFields.length < 4 ∧ up.onPack = false ∧ 4 ≤ { up.test with baseFields := [1, 2, 3, 4] }.baseFields.length)
    ∧ (MayWrite up .D 0x5F10 7 ∧ MayWrite up .D 0x5F10 8 ∧ (nth up.test.hashes 1 .empty).programmed = false ∧ (nth up.test.hashes 0 .empty).programmed = true
      ∧ MayWrite up .D 0x5F10 6 ∧ (nth up.pack.keys 3 .empty).programmed = false) := by
  repeat' apply And.intro
  all_goals decide +kernel

theorem test_meets_SelfTestAndAccess_slice :
    let s := lineIdle (cycling [6] (some ⟨5, 6, false⟩) false)
    s.sliceEligible 5 = true ∧ Canonical s ∧ s.test.current = some ⟨5, 6, false⟩ ∧ 160 ≤ 160 := by decide +kernel

theorem test_meets_SelfTestAndAccess_quiet :
    (let s := lineIdle { cycling [6] (some ⟨5, 6, false⟩) false with test := { (cycling [6] (some ⟨5, 6, false⟩) false).test with eligible := 32 } };
      Canonical s ∧ s.slotEligible 5 = true ∧ s.quietHolds = true ∧ s.test.current = some ⟨5, 6, false⟩ ∧ (s.set 0x2100 9 20).quietHolds = false
        ∧ (s.set 0x2100 9 20).slotEligible 5 = true)
    ∧ (let s := lineIdle { cycling [5] none false with test := { (cycling [5] none false).test with eligible := 32 } }
      Canonical s ∧ s.test.current = none ∧ s.test.todo = [5] ∧ s.slotEligible 5 = true ∧ s.quietHolds = true)
    ∧ ((cycling [3] none false).slotEligible 3 = false ∧ (cycling [3] none false).test.cycleDue = false
      ∧ (cycling [] (some ⟨3, 0, false⟩) false).slotEligible 3 = false)
    ∧ (let s : State := { up with test := { up.test with cycleRuns := true, cycleDue := true } }
      s.test.cycleRuns = true ∧ s.test.cycleDue = true)
    ∧ (let s : State := { up with aocb := { up.aocb with pstate := .service, target := .service } }
      s.lineTestMay .electrode = true ∧ up.lineTestMay .electrode = false)
    ∧ (8 ∉ [1, 2, 3, 4, 5, 6, 7, 0x10, 0x11, 0x12]) := by
  repeat' apply And.intro
  all_goals decide +kernel

/-- An unlock response of level 1 to nonce 1 and serial number 0: key, then signature, both computed outside Lean. -/
def response : List Nat := [1, 0, 0, 0] ++ toBE 32 0x8125786f0c799045f26c284c81e18ef663eb5dc7f944bfdb0b2f2bb6924b96c7 ++ toBE 32 0xd85bea2911cc2aaede0357e6d1a5f56152daed48826db09f69e12e34007b7795 ++ toBE 32 0xa0b8a11dcc39e9854aac19823926686a221721553e53f4f0395ac499be88a75c ++ toBE 32 0xa0b8a11dcc39e9854aac19823926686a221721553e53f4f0395ac499be88a75c

theorem test_meets_SelfTestAndAccess_unlock :
    let s : State := { up with test := { up.test with field := true, nonce := some 1, hashes := [.key 0, .empty, .key 0xe9deea4b9999b15f306ce7cccb11f66be8fdca5bf382918734886a6b9d89fc88] } }
    MayWrite s .D 0x5F00 6 ∧ response.length = 132 ∧ s.test.lockout = false ∧ nth response 0 0 = 1
      ∧ nth s.test.hashes 2 .empty = .key (fromLE (sha256 ((response.drop 4).take 64)))
      ∧ ecdsaVerify ((response.drop 4).take 64) (sha256 (toLE 32 1 ++ toLE 8 s.test.serial ++ [nth response 0 0])) ((response.drop 68).take 64) = true := by
  decide +kernel

/-- Commands and queue: the queue's front is carried out on the queue's rest; a step of an empty queue. -/
theorem test_meets_StepRunsTheFront : up.pending = [] ∧ ({ up with pending := [Instr.relock .C] } : State).pending ≠ [] := by decide +kernel

theorem test_meets_EveryStepKeepsCanonical : Canonical up ∧ ∃ t, step up = .next t := ⟨by decide +kernel, up, rfl⟩

/-! ### Named functions on their standards' own check values -/

/-- CRC-32 and CRC-16 of the nine digits. -/
theorem test_crc_check_values : crc32 [49, 50, 51, 52, 53, 54, 55, 56, 57] = 0xCBF43926 ∧ crc16 [49, 50, 51, 52, 53, 54, 55, 56, 57] = 0x31C3 := by decide +kernel

/-- SHA-256 of "abc" (FIPS 180-4). -/
theorem test_sha256_abc : fromBE (sha256 [97, 98, 99]) = 0xba7816bf8f01cfea414140de5dae2223b00361a396177a9cb410ff61f20015ad := by decide +kernel

/-- No row of the table gives bits. -/
theorem test_no_word_spells_a_command (nbits w : Nat) : decodeTableWord nbits w = none := rfl

/-! ### Words of the core and flits, from their tables -/

/-- Words laid out field by field from Tables 10.1, 10.2 and 10.5, one of each format and function space. -/
theorem test_core_words :
    decodeTabor (0x00 * 2 ^ 26 + 1 * 2 ^ 21 + 2 * 2 ^ 16 + 3 * 2 ^ 11 + 2 ^ 10 + 0x00B) = some (.tAndn 1 2 3 true)
    ∧ decodeTabor (0x01 * 2 ^ 26 + 5 * 2 ^ 16 + 6 * 2 ^ 11 + 0x005) = some (.tMsuu 5 6)
    ∧ decodeTabor (0x06 * 2 ^ 26 + 7 * 2 ^ 21 + 8 * 2 ^ 16 + 2 * 2 ^ 5 + 31) = some (.tShi 7 8 2 31)
    ∧ decodeTabor (0x15 * 2 ^ 26 + 10 * 2 ^ 21 + 9 * 2 ^ 16 + 0xFFF8) = some (.tLdd 10 9 0xFFF8)
    ∧ decodeTabor (0x20 * 2 ^ 26 + 13 * 2 ^ 22 + 0x3FFFFF) = some (.tB 13 0x3FFFFF)
    ∧ decodeTabor (0x21 * 2 ^ 26 + 5) = some (.tCall 5)
    ∧ decodeTabor (0x30 * 2 ^ 26 + 4 * 2 ^ 16 + 5 * 2 ^ 8 + 0x02) = some (.tMts 5 4)
    ∧ decodeTabor 0xC0000000 = some .tNop := by decide +kernel

/-- Words with a field that must be 0 set, an unassigned major and the erased-flash word are ILLEGAL (R379). -/
theorem test_illegal_words :
    decodeTabor (0x06 * 2 ^ 26 + 2 ^ 7) = none ∧ decodeTabor (0x00 * 2 ^ 26 + 2 ^ 11 + 0x020) = none ∧ decodeTabor (0x0A * 2 ^ 26) = none
    ∧ decodeTabor 0xFFFFFFFF = none := by decide +kernel

/-- A flit's 256 bytes read back as the flit, its CRC good; a byte changed makes it bad (R249, Table 7.3). -/
theorem test_flit_bytes :
    (flitOf .data 4095).bytes.length = 256 ∧ Flit.of (flitOf .data 4095).bytes = flitOf .data 4095 ∧ (Flit.of ((flitOf .data 4095).bytes.set 100 1)).good = false := by
  decide +kernel

/-! ### Worked examples of the spec -/

/-- Chapter 2's strap resistors: 24.9 kΩ at its extremes is level 5, 7.50 kΩ at its extremes level 3, none marginal, and the strap value is 43 (R57, R58). -/
theorem test_worked_strap_value :
    strapLevel 1729 = (3, false) ∧ strapLevel 1768 = (3, false) ∧ strapLevel 2895 = (5, false) ∧ strapLevel 2927 = (5, false)
    ∧ (Machine.clocksStep (powered .clocks) true false 2895 1729 none).get 0x2021 2 = 43 := by decide +kernel

/-- Table 5.11: a read by D with PEEK leaves a supervisor's latch, a read by K clears it. -/
theorem test_worked_latch_peek :
    let s := up.set 0x2621 10 5
    (actRcLatchRead .D 0x2621 10 true s).get 0x2621 10 = 5 ∧ (actRcLatchRead .K 0x2621 10 false s).get 0x2621 10 = 0 := by decide +kernel

/-- Table 10.8: a call from slot 6 with 7 frames resident spills one, WSP falling by 64, and goes to slot 7. -/
theorem test_worked_call_spills :
    let t := (actTCall 4 (coreAt { core0 with winb := ⟨0, 7, 6⟩, wspSys := 0x80002000 })).core
    t.winb = ⟨0, 7, 7⟩ ∧ t.wspSys = 0x80001FC0 ∧ t.pc = 0x80001010 := by decide +kernel

end Sys2Proof.Tests
end

section
/-!
SUPPORT. Every command completes, keeps the queue and keeps the canonical form of the tables.
-/

namespace Sys2Proof

open Machine

/-- What a command's effect and what follows it must do for the command to complete: move no queue, and keep every table's canonical form. -/
structure Steady (s t : State) : Prop where
  pending : t.pending = s.pending
  keeps : Canonical s → Canonical t

theorem Steady.trans {s t u : State} (h : Steady s t) (g : Steady t u) : Steady s u := ⟨g.pending.trans h.pending, fun c => g.keeps (h.keeps c)⟩

/-- A frame that does not name the queue is steady. -/
theorem Moves.steady {l : List Part} {s t : State} (h : Moves l s t) (hl : Part.pending ∉ l := by decide) : Steady s t := ⟨h.only .pending hl, h.keeps⟩

/-- The command answers a next state, reached without a change of the queue or of a table's form. -/
def Completes (c : Instr) (s : State) : Prop := ∃ t, exec c s = .next t ∧ Steady s t

/-- A command that ends nobody's wait. -/
theorem Completes.of_observed {c : Instr} {l : List Part} {s u : State} (h : Moves l s u) (hl : Part.pending ∉ l := by decide)
    (hx : exec c s = observed u := by rfl) : Completes c s :=
  ⟨_, hx, (h.steady hl).trans (immediates_frame u).steady⟩

/-- A command of the core. -/
theorem Completes.of_launched {c : Instr} {l : List Part} {s u : State} (h : Moves l s u) (hl : Part.pending ∉ l := by decide)
    (hx : exec c s = launched u := by rfl) : Completes c s :=
  ⟨_, hx, ((h.steady hl).trans (bankFreed_frame u).steady).trans ((beginInits_frame _).steady.trans (immediates_frame _).steady)⟩

/-- A command that may end what another agent waits for. -/
theorem Completes.of_settled {c : Instr} {l : List Part} {s u : State} (h : Moves l s u) (hl : Part.pending ∉ l := by decide)
    (hx : exec c s = settled u := by rfl) : Completes c s :=
  ⟨_, hx, (h.steady hl).trans ((settleAll_frame u).steady.trans (immediates_frame _).steady)⟩

/-- Every command completes: what it does of itself has a frame without the queue. -/
theorem exec_completes (c : Instr) (s : State) : Completes c s := by
  cases c with
  | vaonValid => exact .of_observed (actVaonValid_frame ..)
  | vaonLoss => exact .of_observed (actVaonLoss_frame ..)
  | vinValidRise => exact .of_observed (actVinValidRise_frame ..)
  | selfBuckCheck => exact .of_observed (actSelfBuckCheck_frame ..)
  | selfBuckRetry => exact .of_observed (actSelfBuckRetry_frame ..)
  | startupClocksStep => exact .of_observed (actStartupClocksStep_frame ..)
  | xinAbsentRecheck => exact .of_observed (actXinAbsentRecheck_frame ..)
  | startupLbistSlot => exact .of_observed (actStartupLbistSlot_frame ..)
  | bootRomStart => exact .of_observed (actBootRomStart_frame ..)
  | firmwareStart => exact .of_observed (actFirmwareStart_frame ..)
  | logOpen => exact .of_observed (actLogOpen_frame ..)
  | imageScan => exact .of_settled (actImageScan_frame ..)
  | vinLost => exact .of_observed (actVinLost_frame ..)
  | vinOvervoltageFall => exact .of_observed (actVinOvervoltageFall_frame ..)
  | vinReturned => exact .of_observed (actVinReturned_frame ..)
  | emergencyOrderEnd => exact .of_observed (actEmergencyOrderEnd_frame ..)
  | vsysUvlo => exact .of_observed (actVsysUvlo_frame ..)
  | resetNPulse => exact .of_observed (actResetNPulse_frame ..)
  | hardResetOrderEnd => exact .of_observed (actHardResetOrderEnd_frame ..)
  | watchdogService => exact .of_observed (actWatchdogService_frame ..)
  | watchdogExpiry => exact .of_observed (actWatchdogExpiry_frame ..)
  | xinLoss => exact .of_observed (actXinLoss_frame ..)
  | pllALoss => exact .of_observed (actPllALoss_frame ..)
  | pllBLoss => exact .of_observed (actPllBLoss_frame ..)
  | pllCLoss => exact .of_observed (actPllCLoss_frame ..)
  | pllDLoss => exact .of_observed (actPllDLoss_frame ..)
  | pllRelock => exact .of_observed (actPllRelock_frame ..)
  | downbeat => exact .of_settled (actDownbeat_frame ..)
  | phaseBoundary => exact .of_observed (actPhaseBoundary_frame ..)
  | applyFrameConfiguration => exact .of_observed (actApplyFrameConfiguration_frame ..)
  | syncReception => exact .of_observed (actSyncReception_frame ..)
  | syncMissing => exact .of_observed (actSyncMissing_frame ..)
  | objectRead => exact .of_settled (actObjectRead_frame ..)
  | objectWrite => exact .of_settled (actObjectWrite_frame ..)
  | segmentRead => exact .of_settled (actSegmentRead_frame ..)
  | segmentWrite => exact .of_settled (actSegmentWrite_frame ..)
  | descriptorQuery => exact .of_settled (actDescriptorQuery_frame ..)
  | rcLatchRead => exact .of_settled (actRcLatchRead_frame ..)
  | segmentFillTimeout => exact .of_settled (actSegmentFillTimeout_frame ..)
  | saveParameters => exact .of_settled (actSaveParameters_frame ..)
  | restoreDefaultParameters => exact .of_settled (actRestoreDefaultParameters_frame ..)
  | storeCopyComplete => exact .of_settled (actStoreCopyComplete_frame ..)
  | storeRepair => exact .of_settled (actStoreRepair_frame ..)
  | configurationExport => exact .of_settled (actConfigurationExport_frame ..)
  | importStrict => exact .of_settled (actImportStrict_frame ..)
  | importSkipUnknown => exact .of_settled (actImportSkipUnknown_frame ..)
  | nmtStartRemoteNode => exact .of_observed (actNmtStartRemoteNode_frame ..)
  | nmtStopRemoteNode => exact .of_observed (actNmtStopRemoteNode_frame ..)
  | nmtEnterPreOperational => exact .of_observed (actNmtEnterPreOperational_frame ..)
  | nmtResetApplication => exact .of_settled (actNmtResetApplication_frame ..)
  | nmtResetCommunication => exact .of_observed (actNmtResetCommunication_frame ..)
  | lssSwitchStateGlobal => exact .of_observed (actLssSwitchStateGlobal_frame ..)
  | lssSwitchStateSelective => exact .of_observed (actLssSwitchStateSelective_frame ..)
  | lssConfigureNodeId => exact .of_observed (actLssConfigureNodeId_frame ..)
  | lssConfigureBitTiming => exact .of_observed (actLssConfigureBitTiming_frame ..)
  | lssActivateBitTiming => exact .of_observed (actLssActivateBitTiming_frame ..)
  | lssStoreConfiguration => exact .of_observed (actLssStoreConfiguration_frame ..)
  | lssInquireIdentity => exact .of_observed (actLssInquireIdentity_frame ..)
  | lssInquireNodeId => exact .of_observed (actLssInquireNodeId_frame ..)
  | lssIdentifyRemoteSlave => exact .of_observed (actLssIdentifyRemoteSlave_frame ..)
  | lssIdentifyNonConfigured => exact .of_observed (actLssIdentifyNonConfigured_frame ..)
  | lssFastscan => exact .of_observed (actLssFastscan_frame ..)
  | canFrameAccepted => exact .of_observed (actCanFrameAccepted_frame ..)
  | canErrorDetected => exact .of_observed (actCanErrorDetected_frame ..)
  | busOffRecoveryDelayExpiry => exact .of_observed (actBusOffRecoveryDelayExpiry_frame ..)
  | busOffRecoveryComplete => exact .of_observed (actBusOffRecoveryComplete_frame ..)
  | lineSilent => exact .of_observed (actLineSilent_frame ..)
  | heartbeatProduce => exact .of_observed (actHeartbeatProduce_frame ..)
  | heartbeatConsumerExpiry => exact .of_observed (actHeartbeatConsumerExpiry_frame ..)
  | timeReceived => exact .of_observed (actTimeReceived_frame ..)
  | emcyInhibitExpiry => exact .of_observed (actEmcyInhibitExpiry_frame ..)
  | sdoInitiateDownload => exact .of_settled (actSdoInitiateDownload_frame ..)
  | sdoDownloadSegment => exact .of_settled (actSdoDownloadSegment_frame ..)
  | sdoInitiateUpload => exact .of_settled (actSdoInitiateUpload_frame ..)
  | sdoUploadSegment => exact .of_settled (actSdoUploadSegment_frame ..)
  | sdoBlockDownloadInitiate => exact .of_settled (actSdoBlockDownloadInitiate_frame ..)
  | sdoBlockDownloadSegment => exact .of_settled (actSdoBlockDownloadSegment_frame ..)
  | sdoBlockDownloadEnd => exact .of_settled (actSdoBlockDownloadEnd_frame ..)
  | sdoBlockUploadInitiate => exact .of_settled (actSdoBlockUploadInitiate_frame ..)
  | sdoBlockUploadAck => exact .of_settled (actSdoBlockUploadAck_frame ..)
  | sdoAbortReceived => exact .of_settled (actSdoAbortReceived_frame ..)
  | usdoRequest => exact .of_settled (actUsdoRequest_frame ..)
  | sdoTimeout => exact .of_settled (actSdoTimeout_frame ..)
  | rpdoReceived => exact .of_observed (actRpdoReceived_frame ..)
  | rpdoEventTimerExpiry => exact .of_observed (actRpdoEventTimerExpiry_frame ..)
  | tpdoEventTimerExpiry => exact .of_observed (actTpdoEventTimerExpiry_frame ..)
  | tpdoInhibitExpiry => exact .of_observed (actTpdoInhibitExpiry_frame ..)
  | tpdoLatestStart => exact .of_observed (actTpdoLatestStart_frame ..)
  | canTransmitComplete => exact .of_observed (actCanTransmitComplete_frame ..)
  | syncGuardBegin => exact .of_observed (actSyncGuardBegin_frame ..)
  | detectComplete => exact .of_settled (actDetectComplete_frame ..)
  | equaliseComplete => exact .of_settled (actEqualiseComplete_frame ..)
  | alignComplete => exact .of_settled (actAlignComplete_frame ..)
  | configComplete => exact .of_settled (actConfigComplete_frame ..)
  | trainingPhaseTimeout => exact .of_settled (actTrainingPhaseTimeout_frame ..)
  | failedTimeout => exact .of_settled (actFailedTimeout_frame ..)
  | retrainComplete => exact .of_settled (actRetrainComplete_frame ..)
  | retrainTimeout => exact .of_settled (actRetrainTimeout_frame ..)
  | retrainRequest => exact .of_settled (actRetrainRequest_frame ..)
  | fullTrainingRequest => exact .of_settled (actFullTrainingRequest_frame ..)
  | krefLoss => exact .of_settled (actKrefLoss_frame ..)
  | krefReturn => exact .of_settled (actKrefReturn_frame ..)
  | flitReceived => exact .of_settled (actFlitReceived_frame ..)
  | ackTimeout => exact .of_settled (actAckTimeout_frame ..)
  | mrd => exact .of_settled (actMrd_frame ..)
  | mwr => exact .of_settled (actMwr_frame ..)
  | cpl => exact .of_settled (actCpl_frame ..)
  | orq => exact .of_settled (actOrq_frame ..)
  | dbell => exact .of_settled (actDbell_frame ..)
  | cfgrd => exact .of_settled (actCfgrd_frame ..)
  | mrdCompletionTimeout => exact .of_settled (actMrdCompletionTimeout_frame ..)
  | streamSourcesWrite => exact .of_settled (actStreamSourcesWrite_frame ..)
  | streamPacketFormed => exact .of_settled (actStreamPacketFormed_frame ..)
  | holdoffExpiry => exact .of_settled (actHoldoffExpiry_frame ..)
  | raiseUserVector => exact .of_settled (actRaiseUserVector_frame ..)
  | hostWindowCloseComplete => exact .of_settled (actHostWindowCloseComplete_frame ..)
  | scrubWord => exact .of_settled (actScrubWord_frame ..)
  | pageFillComplete => exact .of_settled (actPageFillComplete_frame ..)
  | pageFillFailed => exact .of_settled (actPageFillFailed_frame ..)
  | writeBackComplete => exact .of_settled (actWriteBackComplete_frame ..)
  | prefetchIssue => exact .of_settled (actPrefetchIssue_frame ..)
  | prefetchComplete => exact .of_settled (actPrefetchComplete_frame ..)
  | prefetchStreamDeath => exact .of_settled (actPrefetchStreamDeath_frame ..)
  | tlbInvalidatePage => exact .of_settled (actTlbInvalidatePage_frame ..)
  | tlbInvalidateAll => exact .of_settled (actTlbInvalidateAll_frame ..)
  | tlbEvictPage => exact .of_settled (actTlbEvictPage_frame ..)
  | pageTableBaseWrite => exact .of_settled (actPageTableBaseWrite_frame ..)
  | ringOpen => exact .of_settled (actRingOpen_frame ..)
  | ringClose => exact .of_settled (actRingClose_frame ..)
  | ringCloseComplete => exact .of_settled (actRingCloseComplete_frame ..)
  | ringAcknowledgeLinkloss => exact .of_settled (actRingAcknowledgeLinkloss_frame ..)
  | ringPop => exact .of_settled (actRingPop_frame ..)
  | ringPush => exact .of_settled (actRingPush_frame ..)
  | ringIndexWrite => exact .of_settled (actRingIndexWrite_frame ..)
  | taskDisable => exact .of_settled (actTaskDisable_frame ..)
  | taskActionTpdoDue => exact .of_settled (actTaskActionTpdoDue_frame ..)
  | taskActionPostRecord => exact .of_settled (actTaskActionPostRecord_frame ..)
  | taskActionLog => exact .of_settled (actTaskActionLog_frame ..)
  | taskActionPowerRequest => exact .of_settled (actTaskActionPowerRequest_frame ..)
  | eventDispatch => exact .of_launched (actEventDispatch_frame ..)
  | activationBudgetExpiry => exact .of_launched (actActivationBudgetExpiry_frame ..)
  | frameShareSpent => exact .of_launched (actFrameShareSpent_frame ..)
  | userProgramLoad => exact .of_launched (actUserProgramLoad_frame ..)
  | userProgramStart => exact .of_launched (actUserProgramStart_frame ..)
  | userProgramStop => exact .of_launched (actUserProgramStop_frame ..)
  | userProgramUnload => exact .of_launched (actUserProgramUnload_frame ..)
  | tAdd => exact .of_launched (actTAdd_frame ..)
  | tAddc => exact .of_launched (actTAddc_frame ..)
  | tSub => exact .of_launched (actTSub_frame ..)
  | tSubc => exact .of_launched (actTSubc_frame ..)
  | tAdds => exact .of_launched (actTAdds_frame ..)
  | tSubs => exact .of_launched (actTSubs_frame ..)
  | tAnd => exact .of_launched (actTAnd_frame ..)
  | tOr => exact .of_launched (actTOr_frame ..)
  | tXor => exact .of_launched (actTXor_frame ..)
  | tAndn => exact .of_launched (actTAndn_frame ..)
  | tShl => exact .of_launched (actTShl_frame ..)
  | tShr => exact .of_launched (actTShr_frame ..)
  | tSar => exact .of_launched (actTSar_frame ..)
  | tRor => exact .of_launched (actTRor_frame ..)
  | tMin => exact .of_launched (actTMin_frame ..)
  | tMax => exact .of_launched (actTMax_frame ..)
  | tMinu => exact .of_launched (actTMinu_frame ..)
  | tMaxu => exact .of_launched (actTMaxu_frame ..)
  | tClz => exact .of_launched (actTClz_frame ..)
  | tSextb => exact .of_launched (actTSextb_frame ..)
  | tSexth => exact .of_launched (actTSexth_frame ..)
  | tZextb => exact .of_launched (actTZextb_frame ..)
  | tZexth => exact .of_launched (actTZexth_frame ..)
  | tMul => exact .of_launched (actTMul_frame ..)
  | tMulu => exact .of_launched (actTMulu_frame ..)
  | tMac => exact .of_launched (actTMac_frame ..)
  | tMacu => exact .of_launched (actTMacu_frame ..)
  | tMsu => exact .of_launched (actTMsu_frame ..)
  | tMsuu => exact .of_launched (actTMsuu_frame ..)
  | tAddi => exact .of_launched (actTAddi_frame ..)
  | tAndi => exact .of_launched (actTAndi_frame ..)
  | tOri => exact .of_launched (actTOri_frame ..)
  | tXori => exact .of_launched (actTXori_frame ..)
  | tShi => exact .of_launched (actTShi_frame ..)
  | tLui => exact .of_launched (actTLui_frame ..)
  | tCmpi => exact .of_launched (actTCmpi_frame ..)
  | tTsti => exact .of_launched (actTTsti_frame ..)
  | tLdw => exact .of_launched (actTLdw_frame ..)
  | tLdh => exact .of_launched (actTLdh_frame ..)
  | tLdhu => exact .of_launched (actTLdhu_frame ..)
  | tLdb => exact .of_launched (actTLdb_frame ..)
  | tLdbu => exact .of_launched (actTLdbu_frame ..)
  | tLdd => exact .of_launched (actTLdd_frame ..)
  | tStw => exact .of_launched (actTStw_frame ..)
  | tSth => exact .of_launched (actTSth_frame ..)
  | tStb => exact .of_launched (actTStb_frame ..)
  | tStd => exact .of_launched (actTStd_frame ..)
  | tB => exact .of_launched (actTB_frame ..)
  | tCall => exact .of_launched (actTCall_frame ..)
  | tNop => exact .of_launched (actTNop_frame ..)
  | tMfs => exact .of_launched (actTMfs_frame ..)
  | tMts => exact .of_launched (actTMts_frame ..)
  | tJr => exact .of_launched (actTJr_frame ..)
  | tCallr => exact .of_launched (actTCallr_frame ..)
  | tRet => exact .of_launched (actTRet_frame ..)
  | tRete => exact .of_launched (actTRete_frame ..)
  | tTrap => exact .of_launched (actTTrap_frame ..)
  | tWait => exact .of_launched (actTWait_frame ..)
  | tLock => exact .of_launched (actTLock_frame ..)
  | tRpt => exact .of_launched (actTRpt_frame ..)
  | tAccx => exact .of_launched (actTAccx_frame ..)
  | tMpur => exact .of_launched (actTMpur_frame ..)
  | tMpuw => exact .of_launched (actTMpuw_frame ..)
  | tMovs => exact .of_launched (actTMovs_frame ..)
  | tFills => exact .of_launched (actTFills_frame ..)
  | tCmps => exact .of_launched (actTCmps_frame ..)
  | tOsr => exact .of_launched (actTOsr_frame ..)
  | tOsw => exact .of_launched (actTOsw_frame ..)
  | tOrd => exact .of_launched (actTOrd_frame ..)
  | tOwr => exact .of_launched (actTOwr_frame ..)
  | haltRequest => exact .of_settled (actHaltRequest_frame ..)
  | forcedHalt => exact .of_settled (actForcedHalt_frame ..)
  | resume => exact .of_settled (actResume_frame ..)
  | step => exact .of_settled (actStep_frame ..)
  | debugRegisterAccess => exact .of_settled (actDebugRegisterAccess_frame ..)
  | debugMemoryAccess => exact .of_settled (actDebugMemoryAccess_frame ..)
  | debugObjectRequest => exact .of_settled (actDebugObjectRequest_frame ..)
  | debugSegmentData => exact .of_settled (actDebugSegmentData_frame ..)
  | burstEnd => exact .of_observed (actBurstEnd_frame ..)
  | touchBankPowerUp => exact .of_observed (actTouchBankPowerUp_frame ..)
  | touchCalibrationComplete => exact .of_observed (actTouchCalibrationComplete_frame ..)
  | telemetryOutput => exact .of_observed (actTelemetryOutput_frame ..)
  | telemetryBankSwitch => exact .of_observed (actTelemetryBankSwitch_frame ..)
  | touchBankSwitch => exact .of_observed (actTouchBankSwitch_frame ..)
  | loadLibraryRecord => exact .of_observed (actLoadLibraryRecord_frame ..)
  | libraryLoadComplete => exact .of_observed (actLibraryLoadComplete_frame ..)
  | applyProfiles => exact .of_observed (actApplyProfiles_frame ..)
  | processFrame => exact .of_observed (actProcessFrame_frame ..)
  | contactStuckTimeout => exact .of_observed (actContactStuckTimeout_frame ..)
  | buttonStuckTimeout => exact .of_observed (actButtonStuckTimeout_frame ..)
  | buttonDrift => exact .of_observed (actButtonDrift_frame ..)
  | captureReferenceBaselines => exact .of_observed (actCaptureReferenceBaselines_frame ..)
  | gloveModeEnd => exact .of_observed (actGloveModeEnd_frame ..)
  | prearmHoldExpiry => exact .of_observed (actPrearmHoldExpiry_frame ..)
  | prearmHoldoffExpiry => exact .of_observed (actPrearmHoldoffExpiry_frame ..)
  | targetVoltageWrite => exact .of_observed (actTargetVoltageWrite_frame ..)
  | setpointStep => exact .of_observed (actSetpointStep_frame ..)
  | loopSample => exact .of_observed (actLoopSample_frame ..)
  | pwmPeriodStart => exact .of_observed (actPwmPeriodStart_frame ..)
  | delayLineUnlock => exact .of_observed (actDelayLineUnlock_frame ..)
  | delayLineRelock => exact .of_observed (actDelayLineRelock_frame ..)
  | syncinPulse => exact .of_observed (actSyncinPulse_frame ..)
  | syncinLoss => exact .of_observed (actSyncinLoss_frame ..)
  | tmonShutdown => exact .of_observed (actTmonShutdown_frame ..)
  | dieShutdown => exact .of_observed (actDieShutdown_frame ..)
  | shutdownRelease => exact .of_observed (actShutdownRelease_frame ..)
  | powerStateRequest => exact .of_observed (actPowerStateRequest_frame ..)
  | applyOrders => exact .of_observed (actApplyOrders_frame ..)
  | seqEnable => exact .of_observed (actSeqEnable_frame ..)
  | seqRetarget => exact .of_observed (actSeqRetarget_frame ..)
  | seqDisable => exact .of_observed (actSeqDisable_frame ..)
  | seqWaitRail => exact .of_observed (actSeqWaitRail_frame ..)
  | seqExenHigh => exact .of_observed (actSeqExenHigh_frame ..)
  | seqExenLow => exact .of_observed (actSeqExenLow_frame ..)
  | seqWaitPg => exact .of_observed (actSeqWaitPg_frame ..)
  | seqWaitPgLow => exact .of_observed (actSeqWaitPgLow_frame ..)
  | seqDelay => exact .of_observed (actSeqDelay_frame ..)
  | seqLinkOn => exact .of_observed (actSeqLinkOn_frame ..)
  | seqLinkOff => exact .of_observed (actSeqLinkOff_frame ..)
  | seqEnd => exact .of_observed (actSeqEnd_frame ..)
  | stepWaitSatisfied => exact .of_observed (actStepWaitSatisfied_frame ..)
  | stepWaitTimeout => exact .of_observed (actStepWaitTimeout_frame ..)
  | transitionRetry => exact .of_observed (actTransitionRetry_frame ..)
  | offEntry => exact .of_observed (actOffEntry_frame ..)
  | onPackDwellExpiry => exact .of_observed (actOnPackDwellExpiry_frame ..)
  | supervisorFault => exact .of_observed (actSupervisorFault_frame ..)
  | retryDelayExpiry => exact .of_observed (actRetryDelayExpiry_frame ..)
  | retryCountReset => exact .of_observed (actRetryCountReset_frame ..)
  | clearLatch => exact .of_observed (actClearLatch_frame ..)
  | settleTimeExpiry => exact .of_observed (actSettleTimeExpiry_frame ..)
  | expgLoss => exact .of_observed (actExpgLoss_frame ..)
  | chargeCycleStart => exact .of_observed (actChargeCycleStart_frame ..)
  | terminationTimeout => exact .of_observed (actTerminationTimeout_frame ..)
  | topoffExpiry => exact .of_observed (actTopoffExpiry_frame ..)
  | rechargeTimeout => exact .of_observed (actRechargeTimeout_frame ..)
  | chargeTimerExpiry => exact .of_observed (actChargeTimerExpiry_frame ..)
  | clearChargerFault => exact .of_observed (actClearChargerFault_frame ..)
  | chargerConfigurationWrite => exact .of_observed (actChargerConfigurationWrite_frame ..)
  | chargeOvervoltage => exact .of_observed (actChargeOvervoltage_frame ..)
  | chargeStageFault => exact .of_observed (actChargeStageFault_frame ..)
  | dischargeCutoff => exact .of_observed (actDischargeCutoff_frame ..)
  | packRemoval => exact .of_observed (actPackRemoval_frame ..)
  | packInsertion => exact .of_observed (actPackInsertion_frame ..)
  | shortPress => exact .of_observed (actShortPress_frame ..)
  | serviceRequest => exact .of_observed (actServiceRequest_frame ..)
  | longPress => exact .of_observed (actLongPress_frame ..)
  | longPressHoldExpiry => exact .of_observed (actLongPressHoldExpiry_frame ..)
  | pressIgnored => exact .of_observed (actPressIgnored_frame ..)
  | shipExitPress => exact .of_observed (actShipExitPress_frame ..)
  | shipEntry => exact .of_observed (actShipEntry_frame ..)
  | shipExitVin => exact .of_observed (actShipExitVin_frame ..)
  | authenticationExchange => exact .of_observed (actAuthenticationExchange_frame ..)
  | authenticationResponse => exact .of_observed (actAuthenticationResponse_frame ..)
  | runExchange => exact .of_observed (actRunExchange_frame ..)
  | exchangePeriodic => exact .of_observed (actExchangePeriodic_frame ..)
  | writeBackLifeRecord => exact .of_observed (actWriteBackLifeRecord_frame ..)
  | lifeWriteBackHourly => exact .of_observed (actLifeWriteBackHourly_frame ..)
  | packPoll => exact .of_observed (actPackPoll_frame ..)
  | packAgeUpdate => exact .of_observed (actPackAgeUpdate_frame ..)
  | diodeBiasToggle => exact .of_observed (actDiodeBiasToggle_frame ..)
  | tcritMeasurement => exact .of_observed (actTcritMeasurement_frame ..)
  | tcritDisagree => exact .of_observed (actTcritDisagree_frame ..)
  | tachEdge => exact .of_observed (actTachEdge_frame ..)
  | tachTimeout => exact .of_observed (actTachTimeout_frame ..)
  | fanLoopTick => exact .of_observed (actFanLoopTick_frame ..)
  | spinupEnd => exact .of_observed (actSpinupEnd_frame ..)
  | stallAlarmClear => exact .of_observed (actStallAlarmClear_frame ..)
  | speedAlarm => exact .of_observed (actSpeedAlarm_frame ..)
  | applyCurve => exact .of_observed (actApplyCurve_frame ..)
  | clearAlarms => exact .of_observed (actClearAlarms_frame ..)
  | logRecordCommit => exact .of_observed (actLogRecordCommit_frame ..)
  | logClear => exact .of_observed (actLogClear_frame ..)
  | logCursorWrite => exact .of_observed (actLogCursorWrite_frame ..)
  | logWindowRead => exact .of_observed (actLogWindowRead_frame ..)
  | integratorRecord => exact .of_observed (actIntegratorRecord_frame ..)
  | snapshotTimer => exact .of_observed (actSnapshotTimer_frame ..)
  | programDataWrite => exact .of_settled (actProgramDataWrite_frame ..)
  | programControlStop => exact .of_settled (actProgramControlStop_frame ..)
  | programControlStart => exact .of_settled (actProgramControlStart_frame ..)
  | programControlClear => exact .of_settled (actProgramControlClear_frame ..)
  | clearEraseComplete => exact .of_settled (actClearEraseComplete_frame ..)
  | programControlVerify => exact .of_settled (actProgramControlVerify_frame ..)
  | verifyComplete => exact .of_settled (actVerifyComplete_frame ..)
  | programControlActivate => exact .of_settled (actProgramControlActivate_frame ..)
  | updateConfirm => exact .of_settled (actUpdateConfirm_frame ..)
  | updateReject => exact .of_settled (actUpdateReject_frame ..)
  | healthWindowEnd => exact .of_settled (actHealthWindowEnd_frame ..)
  | recoveryLoaderStart => exact .of_observed (actRecoveryLoaderStart_frame ..)
  | inserviceCycleStart => exact .of_observed (actInserviceCycleStart_frame ..)
  | inserviceSegment => exact .of_observed (actInserviceSegment_frame ..)
  | segmentComplete => exact .of_observed (actSegmentComplete_frame ..)
  | jtagIdcode => exact .of_observed (actJtagIdcode_frame ..)
  | jtagSamplePreload => exact .of_observed (actJtagSamplePreload_frame ..)
  | jtagExtest => exact .of_observed (actJtagExtest_frame ..)
  | jtagClamp => exact .of_observed (actJtagClamp_frame ..)
  | jtagHighz => exact .of_observed (actJtagHighz_frame ..)
  | jtagExtestPulse => exact .of_observed (actJtagExtestPulse_frame ..)
  | jtagExtestTrain => exact .of_observed (actJtagExtestTrain_frame ..)
  | jtagDap => exact .of_settled (actJtagDap_frame ..)
  | jtagLbistResult => exact .of_observed (actJtagLbistResult_frame ..)
  | jtagAocb => exact .of_observed (actJtagAocb_frame ..)
  | jtagBypass => exact .of_observed (actJtagBypass_frame ..)
  | trstNLow => exact .of_observed (actTrstNLow_frame ..)
  | testLogicReset => exact .of_observed (actTestLogicReset_frame ..)
  | electrodeTest => exact .of_observed (actElectrodeTest_frame ..)
  | pwmLineTest => exact .of_observed (actPwmLineTest_frame ..)
  | tachometerLineTest => exact .of_observed (actTachometerLineTest_frame ..)
  | lineTestComplete => exact .of_observed (actLineTestComplete_frame ..)
  | lifecycleToField => exact .of_observed (actLifecycleToField_frame ..)
  | unlockNonce => exact .of_observed (actUnlockNonce_frame ..)
  | relock => exact .of_observed (actRelock_frame ..)
  | unlockResponse => exact .of_observed (actUnlockResponse_frame ..)
  | unlockLockoutExpiry => exact .of_observed (actUnlockLockoutExpiry_frame ..)
  | programNodeIdBase => exact .of_observed (actProgramNodeIdBase_frame ..)
  | programPackKey => exact .of_observed (actProgramPackKey_frame ..)
  | programIntegratorKeyHash => exact .of_observed (actProgramIntegratorKeyHash_frame ..)
  | programDebugKeyHash => exact .of_observed (actProgramDebugKeyHash_frame ..)
  | tIllegal => exact .of_launched (actTIllegal_frame ..)
  | resetNRelease => exact .of_observed (actResetNRelease_frame ..)
  | vinValidFall => exact .of_observed (actVinValidFall_frame ..)
  | chargeCycleResume => exact .of_observed (actChargeCycleResume_frame ..)
  | supervisorComparatorRelease => exact .of_observed (actSupervisorComparatorRelease_frame ..)

end Sys2Proof

open Sys2Proof Machine

/-- Settles O2: a command completes without a change of the queue. -/
theorem noCommandStops : Obligations.NoCommandStops := by
  intro c s
  obtain ⟨t, hx, hs⟩ := exec_completes c s
  exact ⟨t, hx, hs.pending⟩

/-- Settles O3: after reset all three tables are empty. -/
theorem canonicalAtReset : Obligations.CanonicalAtReset := ⟨Memory.reset_wf, values_nil_wf, values_nil_wf⟩

/-- Settles O4: an idle step leaves the state, and a command completes from the state with the queue's rest. -/
theorem everyStepKeepsCanonical : Obligations.EveryStepKeepsCanonical := by
  intro s t hc hs
  unfold step at hs
  split at hs
  case h_1 =>
    cases hs
    exact hc
  case h_2 c rest _ =>
    obtain ⟨u, hx, hu⟩ := exec_completes c { s with pending := rest }
    cases hx.symm.trans hs
    exact hu.keeps hc

end

section
/-!
SUPPORT. The arbiter: how a read, a write and a descriptor query end, and that what ends with a reply alone changes the reply alone.
-/

namespace Sys2Proof.Machine

/-! ### Bytes of a value -/

@[simp] theorem length_toLE (n v : Nat) : (toLE n v).length = n := by
  induction n generalizing v with
  | zero => rfl
  | succ n ih => simp [toLE, ih]

/-- The low bytes of a value, read back, are the value modulo their range. -/
theorem fromLE_toLE (n v : Nat) : fromLE (toLE n v) = v % 256 ^ n := by
  induction n generalizing v with
  | zero => simp [toLE, fromLE, Nat.mod_one]
  | succ n ih =>
    simp only [toLE, fromLE, ih, Nat.mod_mod]
    rw [Nat.pow_succ', Nat.mod_mul]

/-- A value that fits its bytes is what they read as. -/
theorem fromLE_toLE_of_lt {n v : Nat} (h : v < 2 ^ (8 * n)) : fromLE (toLE n v) = v := by
  rw [fromLE_toLE, Nat.mod_eq_of_lt]
  rwa [Nat.pow_mul] at h

/-! ### What the arbiter asks before an object (R143, R193) -/

/-- Where firmware runs, the recovery loader does not. -/
theorem State.inLoader_of_up {s : State} (h : s.up = true) : s.inLoader = false := by
  simp only [State.up, Bool.and_eq_true, decide_eq_true_eq] at h
  simp [State.inLoader, h]

/-- Where firmware runs, every object is reached. -/
theorem State.barred_of_up {s : State} (h : s.up = true) (p : Port) (i n : Nat) (w : Bool) : s.barred p i n w = none := by
  simp [State.barred, h, State.inLoader_of_up h]

/-- Before the dictionary is restored no object is reached (R193). -/
theorem State.barred_of_not_up {s : State} (h : s.up = false) (hl : s.inLoader = false) (p : Port) (i n : Nat) (w : Bool) :
    s.barred p i n w = some .notReady := by
  simp [State.barred, h, hl]

/-- The size of a value that is no segment and no window of a ring. -/
theorem State.sizeNow_eq_sizeOf {s : State} {i n : Nat} (p : Port) (h : segment i n = false) (hr : ¬(0x2400 ≤ i ∧ i ≤ 0x24FF)) :
    s.sizeNow p i n = sizeOf i n := by
  unfold State.sizeNow
  rw [if_neg (by simp; omega), h]
  rfl

/-! ### How a read of a whole value ends (R141, R143) -/

section
variable {s : State} {p : Port} {i n : Nat} (hs : segment i n = false)
include hs

theorem readRequest_notReady (h : s.up = false) (hl : s.inLoader = false) (peek : Bool) (tag : Nat) :
    readRequest s p i n peek tag = refusedRead s .notReady := by
  simp [readRequest, hs, State.barred_of_not_up h hl]

theorem readRequest_peek_refused (h : s.up = true) (hp : p ≠ .D) (tag : Nat) : readRequest s p i n true tag = refusedRead s .noAccess := by
  simp [readRequest, hs, State.barred_of_up h, hp]

theorem readRequest_denied {st : Status} (h : s.up = true) (hc : s.checkRead p i n = st) (hst : st ≠ .ok) (tag : Nat) :
    readRequest s p i n false tag = refusedRead s st := by
  simp only [readRequest, hs, State.barred_of_up h, hc, Bool.false_and, Bool.false_eq_true, if_false]

theorem readRequest_granted {peek : Bool} (h : MayRead s p i n) (hp : peek = true → p = .D) (hw : ¬(0x2400 ≤ i ∧ i ≤ 0x24FF ∧ n = 9)) (tag : Nat) :
    readRequest s p i n peek tag = gave (if rcLatch i n && !peek then s.set i n 0 else s) (toLE (sizeOf i n) (s.valueAt p i n)) := by
  have hd : (peek && decide (p ≠ .D)) = false := by cases peek <;> simp_all
  have hw' : (decide (0x2400 ≤ i) && decide (i ≤ 0x24FF) && decide (n = 9)) = false := by simpa using hw
  simp only [readRequest, hs, State.barred_of_up h.1, h.2, hd, hw', Bool.false_and, Bool.false_eq_true, if_false]

/-! ### How a write of a whole value ends (R11, R143) -/

theorem writeRequest_notReady (h : s.up = false) (hl : s.inLoader = false) (data : List Nat) (tag : Nat) :
    writeRequest s p i n data tag = (s, some .notReady) := by
  simp [writeRequest, hs, State.barred_of_not_up h hl]

theorem writeRequest_denied {st : Status} (h : s.up = true) (hc : s.checkWrite p i n = st) (hst : st ≠ .ok) (data : List Nat) (tag : Nat) :
    writeRequest s p i n data tag = (s, some st) := by
  simp only [writeRequest, hs, State.barred_of_up h, hc, Bool.false_and, Bool.false_eq_true, if_false]

theorem writeRequest_judged {st : Status} {data : List Nat} (h : MayWrite s p i n) (hj : s.judgeWrite p i n data = st) (hst : st ≠ .ok) (tag : Nat) :
    writeRequest s p i n data tag = (s, some st) := by
  simp only [writeRequest, hs, State.barred_of_up h.1, h.2, hj, Bool.false_and, Bool.false_eq_true, if_false]

theorem writeRequest_accepted {data : List Nat} (h : MayWrite s p i n) (hj : s.judgeWrite p i n data = .ok) (tag : Nat) :
    writeRequest s p i n data tag = writeEffect s p tag i n (writtenValue i n data) := by
  simp only [writeRequest, hs, State.barred_of_up h.1, h.2, hj, Bool.false_and, Bool.false_eq_true, if_false]

end

/-- A value of the wrong length is refused before anything else of it is judged. -/
theorem State.judgeWrite_length {s : State} {p : Port} {i n : Nat} {data : List Nat} (h : data.length ≠ s.sizeNow p i n) :
    s.judgeWrite p i n data = .length := by
  simp [State.judgeWrite, h]

/-- A value outside its object's row is out of range (R11). -/
theorem State.judgeWrite_range {s : State} {p : Port} {i n : Nat} {data : List Nat} (h : data.length = s.sizeNow p i n) (hp : isPush i n = false)
    (hr : rowOk i n (keptFields i n (fromLE data)) = false) : s.judgeWrite p i n data = .range := by
  simp [State.judgeWrite, h, hp, hr]

/-! ### The staged frame configuration (R113) -/

/-- The sub-indices of the frame configuration that the arbiter's statement speaks of, one by one. -/
theorem eq_of_mem_frameConfiguration {k : Nat} (hk : k ∈ [1, 2, 3]) : k = 1 ∨ k = 2 ∨ k = 3 := by
  simpa only [List.mem_cons, List.not_mem_nil, or_false] using hk

/-- The frame configuration's values reserve no field. -/
theorem keptFields_frameConfiguration {k v : Nat} (hk : k ∈ [1, 2, 3]) (hv : v < 2 ^ (8 * sizeOf 0x2100 k)) : keptFields 0x2100 k v = v := by
  have hm : fieldMask 0x2100 k = 2 ^ (8 * sizeOf 0x2100 k) - 1 := by
    obtain rfl | rfl | rfl := eq_of_mem_frameConfiguration hk <;> rfl
  simp only [keptFields, hm, Nat.and_two_pow_sub_one_eq_mod, Nat.mod_eq_of_lt hv]
  rfl

/-- A value of the frame configuration in its row's range passes every rule. -/
theorem State.judgeWrite_frameConfiguration {s : State} (p : Port) {k v : Nat} (hk : k ∈ [1, 2, 3]) (hv : v < 2 ^ (8 * sizeOf 0x2100 k))
    (hr : rowOk 0x2100 k v = true) : s.judgeWrite p 0x2100 k (toLE (sizeOf 0x2100 k) v) = .ok := by
  have hseg : segment 0x2100 k = false := by simp [Machine.segment]
  simp [State.judgeWrite, fromLE_toLE_of_lt hv, keptFields_frameConfiguration hk hv, hr, State.sizeNow_eq_sizeOf p hseg, isPush, State.rangeOk,
    State.writeRule, State.globalRule]

/-- A value of the frame configuration is stored, and nothing else changes (R113). -/
theorem writeEffect_frameConfiguration (s : State) (p : Port) (tag : Nat) {k : Nat} (hk : k ∈ [1, 2, 3]) (v : Nat) :
    writeEffect s p tag 0x2100 k v = done (s.set 0x2100 k v) := by
  obtain rfl | rfl | rfl := eq_of_mem_frameConfiguration hk <;> rfl

end Sys2Proof.Machine

namespace Sys2Proof

open Machine

/-- Where nothing waits, a request that ends with a reply alone changes the reply alone. -/
theorem Does.of_reply {c : Instr} {s : State} {p : Port} {st : Status} {data : List Nat} (hc : Calm s) (hx : exec c s = settled (s.reply p st data)) :
    Does c s [.replies] fun t => t.replies = s.replies.set p.code ⟨st.code, data⟩ :=
  .of_settled hx (settleAll_of_calm hc) (State.reply_frame ..) (by decide) (immediates_replies _)

/-- Where nothing waits, a request that stores one value and is answered changes that value and the reply alone. -/
theorem Does.of_set_reply {c : Instr} {s : State} {p : Port} {i n v : Nat} {data : List Nat} (hc : Calm s) (hw : Canonical s) (hn : n < 256)
    (hx : exec c s = settled ((s.set i n v).reply p .ok data)) :
    Does c s [.replies, .od] fun t => t.get i n = v ∧ OnlyValues [(i, n)] s t ∧ t.replies = s.replies.set p.code ⟨0, data⟩ := by
  refine .of_settled hx (settleAll_of_calm hc) (((State.set_frame ..).mono (m := [.replies, .od]) (by decide)).trans ((State.reply_frame ..).mono (by decide)))
    (by decide) ⟨?_, OnlyValues.of_immediates fun j m hm hj => ?_, immediates_replies _⟩
  · rw [immediates_get]
    exact s.get_set_same i n v hw.2.1
  · exact s.get_set_other hn hm fun h => hj (by simp [h])

theorem exec_objectRead (s : State) (p : Port) (i n : Nat) (peek : Bool) :
    exec (.objectRead p i n peek) s = settled (answerRead p (readRequest s p i n peek 0)) := rfl

theorem exec_rcLatchRead (s : State) (p : Port) (i n : Nat) (peek : Bool) :
    exec (.rcLatchRead p i n peek) s = settled (answerRead p (readRequest s p i n peek 0)) := rfl

theorem exec_descriptorQuery (s : State) (p : Port) (i n : Nat) :
    exec (.descriptorQuery p i n) s = settled (answerRead p (queryDescriptor s p i n)) := rfl

theorem exec_objectWrite (s : State) (p : Port) (i n v z : Nat) :
    exec (.objectWrite p i n v z) s = settled (answer p (writeRequest s p i n (toLE z v) 0)) := rfl

/-- A read that ends at once with a reply. -/
theorem Does.of_readRequest {s : State} {p : Port} {i n : Nat} {peek : Bool} {st : Status} {data : List Nat} (hc : Calm s)
    (hr : readRequest s p i n peek 0 = (s, some (st, data))) :
    Does (.objectRead p i n peek) s [.replies] fun t => t.replies = s.replies.set p.code ⟨st.code, data⟩ :=
  .of_reply hc (by rw [exec_objectRead, hr]; rfl)

/-- A write that is refused. -/
theorem Does.of_writeRequest {s : State} {p : Port} {i n v z : Nat} {st : Status} (hc : Calm s)
    (hr : writeRequest s p i n (toLE z v) 0 = (s, some st)) :
    Does (.objectWrite p i n v z) s [.replies] fun t => t.replies = s.replies.set p.code ⟨st.code, []⟩ :=
  .of_reply hc (by rw [exec_objectWrite, hr]; rfl)

/-- A descriptor query that the gate does not deny answers the descriptor (R146). -/
theorem queryDescriptor_granted {s : State} {p : Port} {i n : Nat} (h : s.up = true) (hg : s.gateDenies p i n false = false) :
    queryDescriptor s p i n = gave s (toLE 8 (s.descriptor p i n (if p = .T then s.userNow else 0))) := by
  simp [queryDescriptor, State.barred_of_up h, hg]

/-- An RC latch is no window of a ring. -/
theorem not_window_of_rcLatch {i n : Nat} (h : rcLatch i n = true) : ¬(0x2400 ≤ i ∧ i ≤ 0x24FF ∧ n = 9) := by
  simp only [rcLatch, Bool.or_eq_true, Bool.and_eq_true, beq_iff_eq, decide_eq_true_eq] at h
  omega

end Sys2Proof

open Sys2Proof Machine

/-- Settles O16, clause by clause: each request ends with a reply alone, but for the frame configuration's write and the latch that a read clears, which store one value. -/
theorem arbiterAnswers : Obligations.ArbiterAnswers := by
  intro s p i n hc _ hn hs
  refine ⟨?read, ?denied, ?notReady, ?peek, ?writeDenied, ?length, ?range, ?staged, ?descriptor, ?latch⟩
  case read =>
    intro peek h hp hw hl
    have hr := readRequest_granted hs h hp hw 0
    rw [if_neg (by rcases hl with hl | hl <;> simp [hl])] at hr
    exact .of_readRequest hc hr
  case denied => exact fun st h hst hne => .of_readRequest hc (readRequest_denied hs h hst hne 0)
  case notReady =>
    exact fun h hl => ⟨.of_readRequest hc (readRequest_notReady hs h hl false 0), fun v z => .of_writeRequest hc (writeRequest_notReady hs h hl _ 0)⟩
  case peek => exact fun h hp => .of_readRequest hc (readRequest_peek_refused hs h hp 0)
  case writeDenied => exact fun v z st h hst hne => .of_writeRequest hc (writeRequest_denied hs h hst hne _ 0)
  case length =>
    intro v z h hz
    have hj : s.judgeWrite p i n (toLE z v) = .length := State.judgeWrite_length (by simpa using hz)
    exact .of_writeRequest hc (writeRequest_judged hs h hj (by decide) 0)
  case range =>
    intro v h hp hr hw
    have hj := State.judgeWrite_range (s := s) (by rw [length_toLE, State.sizeNow_eq_sizeOf p hs hw]) hp hr
    exact .of_writeRequest hc (writeRequest_judged hs h hj (by decide) 0)
  case staged =>
    intro hw k v hk h hv hr
    have hseg : segment 0x2100 k = false := by simp [Machine.segment]
    have hval : writtenValue 0x2100 k (toLE (sizeOf 0x2100 k) v) = v := by
      simp [writtenValue, isPush, fromLE_toLE_of_lt hv, keptFields_frameConfiguration hk hv]
    have he := writeRequest_accepted hseg h (State.judgeWrite_frameConfiguration p hk hv hr) 0
    rw [hval, writeEffect_frameConfiguration s p 0 hk v] at he
    have hk' : k < 256 := by
      have hk := eq_of_mem_frameConfiguration hk
      omega
    exact .of_set_reply hc hw hk' (by rw [exec_objectWrite, he]; rfl)
  case descriptor => exact fun h hg => .of_reply hc (by rw [exec_descriptorQuery, queryDescriptor_granted h hg]; rfl)
  case latch =>
    intro hw hl h
    have hr : ∀ peek : Bool, (peek = true → p = .D) → _ := fun peek hp => readRequest_granted hs h hp (not_window_of_rcLatch hl) 0
    constructor
    · have hr := hr false nofun
      rw [if_pos (by simp [hl])] at hr
      exact .of_set_reply hc hw hn (by rw [exec_rcLatchRead, hr]; rfl)
    · intro hp
      have hr := hr true fun _ => hp
      rw [if_neg (by simp)] at hr
      exact .of_reply hc (by rw [exec_rcLatchRead, hr]; rfl)

end

section
/-!
SUPPORT. The special registers, the MPU bank and RPT on a ready core: what retires in sequence, and what raises an exception.
-/

namespace Sys2Proof.Machine

/-! ### Bit fields -/

theorem b2n_eq_toNat (b : Bool) : b2n b = b.toNat := by cases b <;> rfl

theorem bits_eq_div_mod (v lo w : Nat) : bits v lo w = v / 2 ^ lo % 2 ^ w := by
  rw [bits, Nat.shiftRight_eq_div_pow]

/-! ### The special registers as words (Tables 9.2, 9.3, 9.10) -/

theorem Mst.word_eq (m : Mst) :
    m.word = BitVec.ofNat 32 (256 * (m.prog % 16) + 128 * m.bev.toNat + 64 * m.mpuen.toNat + 32 * m.pum.toNat + 16 * m.pee.toNat
      + 8 * m.exl.toNat + 4 * m.ee.toNat + m.um.toNat) := by
  simp [Mst.word, bits_eq_div_mod, b2n_eq_toNat]

theorem Winb.word_eq (w : Winb) : w.word = BitVec.ofNat 32 (65536 * (w.owner % 256) + 256 * (w.resident % 16) + w.slot % 8) := by
  simp [Winb.word, bits_eq_div_mod]

theorem Mst.written_eq (m : Mst) (v : Word) :
    m.written v.toNat = ⟨v.toNat / 256 % 16, v.getLsbD 7, v.getLsbD 6, v.getLsbD 5, v.getLsbD 4, m.exl, v.getLsbD 2, m.um⟩ := by
  rw [Mst.written, bits_eq_div_mod]
  rfl

theorem Winb.ofWord_eq (w : Nat) : Winb.ofWord w = ⟨w / 65536 % 256, w / 256 % 16, w % 8⟩ := by
  simp [Winb.ofWord, bits_eq_div_mod]

theorem Core.cstWord_eq {c : Core} (h : c.lock = none) :
    c.cstWord = 32768 * c.cst.lockBrk.toNat + 16384 * c.cst.double.toNat + 8192 * c.cst.halted.toNat + 2048 * c.cst.deferred.toNat
      + 256 * (c.cst.hcause % 8) + 64 * (c.cst.wphit % 4) + 4 * (c.cst.bphit % 16) + 2 * c.cst.user.toNat := by
  simp only [Core.cstWord, h, bits_eq_div_mod, b2n_eq_toNat, Nat.shiftLeft_eq, Option.isSome_none, Bool.toNat_false]
  omega

/-! ### The accumulator as MGD, MHI and MLO (R345) -/

/-- An integer fits the accumulator: 72 bits, signed. -/
def AccFits (x : Int) : Prop := -(2 ^ 71) ≤ x ∧ x < 2 ^ 71

/-- What 72 bits read as fits the accumulator, and is their number modulo the range. -/
theorem toSigned_accFits (n : Nat) : AccFits (toSigned 72 n) ∧ toSigned 72 n % 2 ^ 72 = n % 2 ^ 72 := by
  unfold AccFits toSigned
  simp only [Nat.reducePow, Int.reducePow, Nat.reduceSub]
  split <;> omega

theorem Core.accBits_eq (c : Core) : (c.accBits : Int) = c.acc % 2 ^ 72 := by
  simp only [Core.accBits, ofSigned]
  simp only [Nat.reducePow, Int.reducePow]
  omega

theorem Core.mhi_eq (c : Core) : BitVec.ofNat 32 (c.accBits / 2 ^ 32) = BitVec.ofInt 32 (c.acc / 2 ^ 32) := by
  have h := c.accBits_eq
  apply BitVec.eq_of_toNat_eq
  rw [BitVec.toNat_ofNat, BitVec.toNat_ofInt]
  simp only [Nat.reducePow, Int.reducePow] at h ⊢
  omega

theorem Core.mlo_eq (c : Core) : BitVec.ofNat 32 c.accBits = BitVec.ofInt 32 c.acc := by
  have h := c.accBits_eq
  apply BitVec.eq_of_toNat_eq
  rw [BitVec.toNat_ofNat, BitVec.toNat_ofInt]
  simp only [Nat.reducePow, Int.reducePow] at h ⊢
  omega

theorem Core.mgd_eq {c : Core} (hc : AccFits c.acc) : toSigned 8 (c.accBits / 2 ^ 64) = c.acc / 2 ^ 64 := by
  have h := c.accBits_eq
  unfold AccFits at hc
  unfold toSigned
  simp only [Nat.reducePow, Int.reducePow, Nat.reduceSub] at h hc ⊢
  split <;> omega

/-- The accumulator's parts where bits [63:32] are replaced. -/
theorem acc_parts_of_mhi {a x : Int} {b w : Nat} (ha : AccFits a) (hb : (b : Int) = a % 2 ^ 72) (hw : w < 2 ^ 32)
    (hx : AccFits x ∧ x % 2 ^ 72 = (b / 2 ^ 64 * 2 ^ 64 + w * 2 ^ 32 + b % 2 ^ 32 : Nat) % 2 ^ 72) :
    x / 2 ^ 64 = a / 2 ^ 64 ∧ x / 2 ^ 32 % 2 ^ 32 = w ∧ x % 2 ^ 32 = a % 2 ^ 32 := by
  unfold AccFits at ha hx
  simp only [Nat.reducePow, Int.reducePow] at ha hb hw hx ⊢
  omega

/-- The accumulator's parts where bits [31:0] are replaced. -/
theorem acc_parts_of_mlo {a x : Int} {b w : Nat} (ha : AccFits a) (hb : (b : Int) = a % 2 ^ 72) (hw : w < 2 ^ 32)
    (hx : AccFits x ∧ x % 2 ^ 72 = (b / 2 ^ 32 * 2 ^ 32 + w : Nat) % 2 ^ 72) : x / 2 ^ 32 = a / 2 ^ 32 ∧ x % 2 ^ 32 = w := by
  unfold AccFits at ha hx
  simp only [Nat.reducePow, Int.reducePow] at ha hb hw hx ⊢
  omega

/-- The accumulator's parts where bits [71:64] are replaced, the byte written read as a signed number. -/
theorem acc_parts_of_mgd {a x : Int} {b : Nat} {w : BitVec 8} (hb : (b : Int) = a % 2 ^ 72)
    (hx : AccFits x ∧ x % 2 ^ 72 = (w.toNat * 2 ^ 64 + b % 2 ^ 64 : Nat) % 2 ^ 72) : x / 2 ^ 64 = w.toInt ∧ x % 2 ^ 64 = a % 2 ^ 64 := by
  have hw := w.isLt
  rw [BitVec.toInt_eq_toNat_cond]
  unfold AccFits at hx
  simp only [Nat.reducePow, Int.reducePow] at hb hx hw ⊢
  split <;> omega

end Sys2Proof.Machine

namespace Sys2Proof

open Machine

/-! ### Instructions of a ready core that retire -/

/-- Outside a LOCK sequence an instruction that may not stand in one has its effect. -/
theorem CoreReady.issueUnlocked {s : State} (h : CoreReady s) (srcs : List Nat) (f : State → State) : issueUnlocked s srcs f = f s := by
  rw [Machine.issueUnlocked, CoreFree.issue h.1, h.2]
  rfl

/-- What halts a core at a boundary, and what waits for one, depend on the core only through its LOCK sequence. -/
theorem CoreFree.boundary {s : State} (h : CoreFree s) {c : Core} (hl : c.lock = none) :
    settleBudget (boundaryHalt { s with tabor := { s.tabor with core := c, inString := false } } false) =
      { s with tabor := { s.tabor with core := c, inString := false } } := by
  obtain ⟨-, -, hh, hs, hb, -, -, hw, hk, -, -, -, -, hec, hen, -⟩ := h
  simp [boundaryHalt, settleBudget, State.core, hh, hs, hb, hw, hk, hec, hen, hl]

/-- Nothing is on its way in a core, and no LOCK sequence is under way. -/
def Machine.Core.Idle (c : Core) : Prop := c.muls = [] ∧ c.loads = [] ∧ c.lock = none

theorem CoreReady.idle {s : State} (h : CoreReady s) : s.core.Idle := by
  obtain ⟨⟨-, -, -, -, -, -, -, -, -, hm, hd, -⟩, hl⟩ := h
  exact ⟨hm, hd, hl⟩

theorem Machine.Core.Idle.setReg {c : Core} (h : c.Idle) (r : Nat) (v : Word) : (c.setReg r v).Idle := by
  obtain ⟨hm, hd, hl⟩ := h
  unfold Core.setReg
  split
  · exact ⟨hm, hd, hl⟩
  · exact ⟨hm, by simp [hd], hl⟩

theorem Machine.Core.Idle.setWsp {c : Core} (h : c.Idle) (u : Bool) (v : Word) : (c.setWsp u v).Idle := by
  cases u <;> exact h

@[simp] theorem Machine.Core.setWsp_rsa (c : Core) (u : Bool) (v : Word) : (c.setWsp u v).rsa = c.rsa := by
  cases u <;> rfl

@[simp] theorem Machine.Core.setWsp_rea (c : Core) (u : Bool) (v : Word) : (c.setWsp u v).rea = c.rea := by
  cases u <;> rfl

/-- An instruction that leaves the core as `c`, with nothing on its way, retires in sequence. -/
theorem Retires.of_retired {i : Instr} {s : State} {c : Core} {k : Nat} (h : CoreReady s) (hx : exec i s = launched (retired (s.setCore c) k))
    (hc : c.Idle) : Retires i s (inSequence c) :=
  .of h.1 hx (retireAt_ready h.1 rfl hc.2.2 hc.1 hc.2.1 k none)

/-- With nothing on its way, an instruction leaves the core after its loop test, against the block given. -/
theorem advance_idle (s : State) {c : Core} (hc : c.Idle) (k : Nat) (rsa rea : Word) :
    advance (s.setCore c) k none rsa rea =
      ({ s with tabor := { s.tabor with core := { c with pc := (c.following rsa rea).1, rc := (c.following rsa rea).2 }, inString := false } }, false) := by
  obtain ⟨hm, hd, hl⟩ := hc
  have hp : (s.setCore c).core.pass k = c := Core.pass_idle k hm hd
  simp only [advance, hp, hl]
  rfl

/-! ### Instructions of a ready core that raise an exception (R356) -/

/-- ECAUSE of a precise exception outside a LOCK sequence (Table 9.6). -/
theorem ecauseOf_precise {detail : Nat} (h : detail < 256) (code : Nat) (user : Bool) :
    ecauseOf code detail false false user = code + 65536 * detail + if user then 2 ^ 29 else 0 := by
  have hu : (if user then 2 ^ 29 else 0) = b2n user * 2 ^ 29 := by
    cases user <;> simp only [b2n, Bool.false_eq_true, if_false, if_true, Nat.zero_mul, Nat.one_mul]
  have hf : b2n false = 0 := rfl
  rw [hu]
  unfold ecauseOf
  rw [Nat.mod_eq_of_lt h, hf]
  generalize b2n user = u
  simp only [Nat.shiftLeft_eq, Nat.reducePow]
  omega

/-- A state whose core has entered an exception, the exception counted. -/
def raised (s : State) (code detail : Nat) (epc : Word) : State :=
  { s.count 0x2800 3 with tabor := { s.tabor with core := entered s.core code detail epc, inString := false } }

/-- A core that can issue and does not wait runs, and nothing blocks it. -/
theorem CoreFree.runs {s : State} (h : CoreFree s) : s.tabor.blocked = none ∧ (s.tabor.run = .boot ∨ s.tabor.run = .running) := by
  obtain ⟨hi, hw, -⟩ := h
  simp only [State.canIssue, Bool.and_eq_true, Bool.or_eq_true, beq_iff_eq, Option.isNone_iff_eq_none] at hi
  exact ⟨hi.1.2, hi.2.resolve_right hw⟩

/-- The core as the entry's own arithmetic gives it. -/
def vectored (c : Core) (code detail : Nat) (epc : Word) : Core :=
  { entered c code detail epc with
    epc := BitVec.ofNat 32 epc.toNat
    ecause := BitVec.ofNat 32 (ecauseOf code detail false false c.mst.um)
    pc := BitVec.ofNat 32 ((if c.mst.bev then 0xFFFF0000 else 0x80000000) + 16 * code) }

theorem vectored_eq_entered (c : Core) {detail : Nat} (hd : detail < 256) (code : Nat) (epc : Word) :
    vectored c code detail epc = entered c code detail epc := by
  have hepc : BitVec.ofNat 32 epc.toNat = epc := by simp
  have hpc : BitVec.ofNat 32 ((if c.mst.bev then 0xFFFF0000 else 0x80000000) + 16 * code) = (entered c code detail epc).pc := by
    rw [BitVec.ofNat_add, entered]
    split <;> rfl
  simp only [vectored, hepc, hpc, ecauseOf_precise hd]
  rfl

/-- The core enters an exception, with the window moved already. -/
theorem enterVector_ready {s : State} (h : CoreFree s) {detail : Nat} (hd : detail < 256) (code : Nat) (epc : Word) :
    enterVector (s.setCore { s.core with winb := (entered s.core code detail epc).winb }) code detail epc.toNat false false false =
      raised s code detail epc := by
  obtain ⟨hb, hr⟩ := h.runs
  have hrun : (if s.tabor.run = .boot then .boot else .running) = s.tabor.run := by rcases hr with hr | hr <;> simp [hr]
  calc _ = { s.count 0x2800 3 with tabor := { s.tabor with
          core := vectored s.core code detail epc, run := if s.tabor.run = .boot then .boot else .running, blocked := none, inString := false } } := rfl
    _ = raised s code detail epc := by
      rw [vectored_eq_entered s.core hd, hrun, ← hb]
      rfl

/-- An exception outside a LOCK sequence, without a spill and outside exception level. -/
theorem takeException_ready {s : State} (h : CoreReady s) (he : CanEnter s) {detail : Nat} (hd : detail < 256) (code : Nat) (epc : Word) :
    takeException s code detail epc.toNat false false = raised s code detail epc := by
  obtain ⟨hexl, hres, hprog⟩ := he
  have hset : s.setCore s.core.settle = s := by rw [Core.settle, Core.pass_idle 3 h.idle.1 h.idle.2.1, State.setCore_self]
  have hwin : windowForward s false = (s.setCore { s.core with winb := (entered s.core code detail epc).winb }, .ok) := by
    rw [windowForward, if_neg (by omega)]
    rfl
  have hfault : (s.core.mst.um && s.core.mst.prog != 0) = false := by
    cases hu : s.core.mst.um
    · rfl
    · simp [hprog hu]
  simp only [takeException, hset, hexl, hwin, Bool.false_eq_true, if_false]
  rw [enterVector_ready h.1 hd, programFaults]
  simp [hfault]

/-- A fault of an instruction outside a LOCK sequence enters its exception, and nothing halts the core there. -/
theorem instrFault_ready {s : State} (h : CoreReady s) (he : CanEnter s) {detail : Nat} (hd : detail < 256) (code : Nat) :
    instrFault s code detail = raised s code detail s.core.pc := by
  obtain ⟨-, -, hh, hs, -, -, -, hw, hk, -⟩ := h.1
  simp only [instrFault, h.2]
  rw [takeException_ready h he hd]
  simp [boundaryHalt, raised, hh, hs, hw, hk]

/-- Where the core is ready, a fault of the instruction is its exception. -/
theorem Raises.of_instrFault {i : Instr} {s : State} {code detail : Nat} (h : CoreReady s) (hw : Canonical s) (he : CanEnter s) (hd : detail < 256)
    (hx : exec i s = launched (instrFault s code detail)) : Raises i s code detail s.core.pc := by
  rw [instrFault_ready h he hd] at hx
  obtain ⟨-, -, -, -, -, -, -, -, -, -, -, hi, -, -, -, -, hq, hn⟩ := h.1
  have hu : beginInits (bankFreed (raised s code detail s.core.pc)) = raised s code detail s.core.pc := by
    rw [bankFreed_of_none (s := raised ..) hn hq, beginInits_of_none_waiting (s := raised ..) hi]
  have hm : Moves [.od, .tabor] s (raised s code detail s.core.pc) :=
    .update ((State.count_frame ..).mono (by decide))
  refine .of_launched hx (hu ▸ hm) (by decide) ?_
  rw [hu]
  refine ⟨immediates_tabor _, ?_, OnlyValues.of_immediates fun i n hn hi => ?_⟩
  · rw [immediates_get]
    exact s.get_set_same 0x2800 3 _ hw.2.1
  · exact s.get_set_other (by decide) hn fun h => hi (by simp [h])

/-! ### Instructions that may be ILLEGAL or PRIVILEGED (R344, R379) -/

/-- An instruction whose word is ILLEGAL, or that the mode of the core refuses as PRIVILEGED, or that is carried out. -/
def guarded (s : State) (illegal : Prop) [Decidable illegal] (allowed : Bool) (carriedOut : State) : State :=
  if illegal then instrFault s 0x01 0 else if allowed then carriedOut else instrFault s 0x02 0

section
variable {i : Instr} {s u : State} {p : Prop} [Decidable p] {b : Bool} (hx : exec i s = launched (guarded s p b u))
include hx

theorem exec_guarded_allowed (hp : ¬p) (hb : b = true) : exec i s = launched u := by rw [hx, guarded, if_neg hp, if_pos hb]

theorem Raises.of_guarded_illegal (h : CoreReady s) (hw : Canonical s) (he : CanEnter s) (hp : p) : Raises i s 0x01 0 s.core.pc :=
  .of_instrFault h hw he (by decide) (by rw [hx, guarded, if_pos hp])

theorem Raises.of_guarded_privileged (h : CoreReady s) (hw : Canonical s) (he : CanEnter s) (hp : ¬p) (hb : b = false) :
    Raises i s 0x02 0 s.core.pc :=
  .of_instrFault h hw he (by decide) (by rw [hx, guarded, if_neg hp, hb, if_neg Bool.false_ne_true])

end

/-- The two refusals of an instruction stand before what it does. -/
theorem guarded_eq (s : State) (p : Prop) [Decidable p] (b : Bool) (u : State) :
    (if p then Machine.illegal s else if !b then instrFault s 0x02 0 else u) = guarded s p b u := by
  unfold guarded Machine.illegal
  cases b <;> rfl

/-! ### What MFS, MTS, MPUR, MPUW and RPT do on a ready core (R341, R385, R391, R394) -/

section
variable {s : State} (h : CoreReady s) (d a : Fin 32) (n : BitVec 8)
include h

theorem exec_tMfs : exec (.tMfs d n) s = launched (guarded s (maxSpecial < n.toNat) (specialReadable n.toNat s.core.mst.um)
    (retired (s.setCore (s.core.setReg d.val (s.core.special s.core.cstWord n.toNat))) 1)) := by
  rw [← guarded_eq]
  change launched (actTMfs d n s) = _
  simp only [actTMfs, CoreFree.issue h.1]

theorem exec_tMts :
    let u := advance (s.setCore (s.core.setSpecial n.toNat (s.core.reg a.val))) (if n.toNat = 5 then 2 else 1) none s.core.rsa s.core.rea
    exec (.tMts n a) s = launched (guarded s (maxSpecial < n.toNat) (specialWritable n.toNat s.core.mst.um) (settleBudget (boundaryHalt u.1 u.2))) := by
  intro u
  rw [← guarded_eq]
  change launched (actTMts n a s) = _
  simp only [actTMts, CoreFree.issue h.1, h.issueUnlocked]
  rfl

theorem exec_tMpur : exec (.tMpur d n) s = launched (guarded s (31 < n.toNat) (!s.core.mst.um)
    (retired (s.setCore (s.core.setReg d.val (s.core.mpuWord n.toNat))) 1)) := by
  rw [← guarded_eq, Bool.not_not]
  change launched (actTMpur d n s) = _
  simp only [actTMpur, CoreFree.issue h.1]

theorem exec_tMpuw : exec (.tMpuw n a) s = launched (guarded s (31 < n.toNat) (!s.core.mst.um)
    (retired (s.setCore (s.core.setMpuWord n.toNat (s.core.reg a.val))) 2)) := by
  rw [← guarded_eq, Bool.not_not]
  change launched (actTMpuw n a s) = _
  simp only [actTMpuw, CoreFree.issue h.1, h.issueUnlocked]

theorem exec_tRpt : exec (.tRpt a n) s = launched (retired (s.setCore { s.core with
    rc := s.core.reg a.val, rsa := s.core.pc + 4, rea := s.core.pc + BitVec.ofNat 32 (4 * (n.toNat + 1)) }) 1) := by
  change launched (actTRpt a n s) = _
  rw [actTRpt, h.issueUnlocked]
  rfl

variable {n}

/-- MFS writes its register with the special register's value. -/
theorem Retires.mfs {w : Word} (hw : s.core.special s.core.cstWord n.toNat = w) (hn : n.toNat ≤ maxSpecial := by decide)
    (hr : specialReadable n.toNat s.core.mst.um = true := by simp [specialReadable]) : Retires (.tMfs d n) s (inSequence (s.core.setReg d.val w)) :=
  .of_retired h (hw ▸ exec_guarded_allowed (exec_tMfs h d n) (by omega) hr) (h.idle.setReg ..)

/-- MTS leaves the core as its write has it, after its own loop test against the old block (R385). -/
theorem Retires.mts {c : Core} (hc : s.core.setSpecial n.toNat (s.core.reg a.val) = c) (hi : c.Idle) (hn : n.toNat ≤ maxSpecial := by decide)
    (hw : specialWritable n.toNat s.core.mst.um = true := by simp [specialWritable]) :
    Retires (.tMts n a) s { c with pc := (c.following s.core.rsa s.core.rea).1, rc := (c.following s.core.rsa s.core.rea).2 } := by
  refine .of h.1 (exec_guarded_allowed (exec_tMts h a n) (by omega) hw) ?_
  rw [hc, advance_idle s hi]
  exact CoreFree.boundary h.1 hi.2.2

/-- MTS of a register other than RSA and REA: the loop test is that of the core it leaves. -/
theorem Retires.mts_inSequence {c : Core} (hc : s.core.setSpecial n.toNat (s.core.reg a.val) = c) (hi : c.Idle)
    (hn : n.toNat ≤ maxSpecial := by decide) (hw : specialWritable n.toNat s.core.mst.um = true := by simp [specialWritable])
    (hsa : c.rsa = s.core.rsa := by rfl) (hea : c.rea = s.core.rea := by rfl) : Retires (.tMts n a) s (inSequence c) := by
  have hr := Retires.mts h a hc hi hn hw
  rwa [← hsa, ← hea, following_eq] at hr

/-- MTS of a part of the accumulator. -/
theorem Retires.mts_acc {x : Int} (hc : s.core.setSpecial n.toNat (s.core.reg a.val) = { s.core with acc := x })
    (hn : n.toNat ≤ maxSpecial := by decide) (hw : specialWritable n.toNat s.core.mst.um = true := by simp [specialWritable]) :
    Retires (.tMts n a) s (inSequence { s.core with acc := x }) := .mts_inSequence h a hc h.idle hn hw

/-- RPT goes on at the first instruction of its block, of which its own address is not the end (R347). -/
theorem Retires.rpt : Retires (.tRpt a n) s { s.core with
    rc := s.core.reg a.val, rsa := s.core.pc + 4, rea := s.core.pc + BitVec.ofNat 32 (4 * (n.toNat + 1)), pc := s.core.pc + 4 } := by
  have hend : s.core.pc ≠ s.core.pc + BitVec.ofNat 32 (4 * (n.toNat + 1)) := by
    have := n.isLt
    bv_omega
  have hr := Retires.of_retired h (exec_tRpt h a n) h.idle
  rwa [inSequence, if_neg (by simp [hend])] at hr

end

/-- What user mode may not read lies among the registers. -/
theorem specialReadable_eq_false {user : Bool} {n : BitVec 8} (hu : user = true) (hn : n = 12 ∨ n = 13) :
    n.toNat ≤ maxSpecial ∧ specialReadable n.toNat user = false := by
  subst hu
  rcases hn with rfl | rfl <;> decide

/-- What may not be written lies among the registers. -/
theorem specialWritable_eq_false {user : Bool} {n : BitVec 8} (hn : n = 0 ∨ n = 16 ∨ user = true ∧ (n = 5 ∨ n = 12 ∨ n = 13 ∨ n = 14)) :
    n.toNat ≤ maxSpecial ∧ specialWritable n.toNat user = false := by
  rcases hn with rfl | rfl | ⟨rfl, rfl | rfl | rfl | rfl⟩ <;> simp [maxSpecial, specialWritable]

/-- The bits that a word of the MPU bank holds, by its place in its region (Table 10.6). -/
theorem and_mpuMask (w : Nat) (v : Word) :
    v &&& mpuMask w = if w % 4 = 3 then 0 else if w % 4 = 2 then v &&& 0x80000007 else v &&& 0xFFFFFFC0 := by
  have hlt := Nat.mod_lt w (show 4 > 0 by decide)
  unfold mpuMask
  generalize w % 4 = r at hlt ⊢
  obtain rfl | rfl | rfl | rfl : r = 0 ∨ r = 1 ∨ r = 2 ∨ r = 3 := by omega
  all_goals simp

end Sys2Proof

open Sys2Proof Machine

/-- Settles O37, register by register: what MFS gives is the register's word, what MTS leaves is the core with that register alone written, and the refusals of a ready
core are its exceptions. -/
theorem specialRegisters : Obligations.SpecialRegisters := by
  intro s d a n h hl hu c v reads takes acc m
  have hacc : AccFits c.acc := ⟨hl, hu⟩
  refine ⟨?pc, ?flg, ?mhi, ?mlo, ?mgd, ?mst, ?rc, ?rsa, ?rea, ?sa, ?da, ?cnt, ?epc, ?ecause, ?winb, ?wsp, ?cst, ?raises, ?mpu, Retires.rpt h a⟩
  case pc =>
    rintro rfl
    exact .mfs h d rfl
  case flg | rc | sa | da | cnt =>
    rintro rfl
    exact ⟨.mfs h d rfl, .mts_inSequence h a rfl h.idle⟩
  case mhi =>
    rintro rfl
    obtain ⟨hx, hm⟩ := toSigned_accFits (c.accBits / 2 ^ 64 * 2 ^ 64 + v.toNat * 2 ^ 32 + c.accBits % 2 ^ 32)
    exact ⟨.mfs h d c.mhi_eq, _, acc_parts_of_mhi hacc c.accBits_eq v.isLt ⟨hx, hm⟩, hx.1, hx.2, .mts_acc h a rfl⟩
  case mlo =>
    rintro rfl
    obtain ⟨hx, hm⟩ := toSigned_accFits (c.accBits / 2 ^ 32 * 2 ^ 32 + v.toNat)
    exact ⟨.mfs h d c.mlo_eq, _, acc_parts_of_mlo hacc c.accBits_eq v.isLt ⟨hx, hm⟩, hx.1, hx.2, .mts_acc h a rfl⟩
  case mgd =>
    rintro rfl
    have hv : v.toNat % 256 = (v.truncate 8).toNat := by simp
    obtain ⟨hx, hm⟩ := toSigned_accFits ((v.truncate 8).toNat * 2 ^ 64 + c.accBits % 2 ^ 64)
    refine ⟨.mfs h d (congrArg (BitVec.ofInt 32) (Core.mgd_eq hacc)), _, acc_parts_of_mgd c.accBits_eq ⟨hx, hm⟩, hx.1, hx.2, .mts_acc h a ?_⟩
    rw [← hv]
    rfl
  case mst =>
    rintro rfl
    exact ⟨.mfs h d m.word_eq, fun hm => .mts_inSequence h a (congrArg (fun x => { c with mst := x }) (m.written_eq v)) h.idle
      (hw := by simpa [specialWritable] using hm)⟩
  case rsa =>
    rintro rfl
    refine ⟨.mfs h d rfl, ?_⟩
    rw [← following_eq]
    exact .mts h a (n := 7) rfl h.idle
  case rea =>
    rintro rfl
    refine ⟨.mfs h d rfl, ?_⟩
    rw [← following_eq]
    exact .mts h a (n := 8) rfl h.idle
  case epc | ecause =>
    rintro rfl hm
    exact ⟨.mfs h d rfl (hr := by simpa [specialReadable] using hm), .mts_inSequence h a rfl h.idle (hw := by simpa [specialWritable] using hm)⟩
  case winb =>
    rintro rfl
    exact ⟨.mfs h d c.winb.word_eq, fun hm => .mts_inSequence h a (congrArg (fun x => { c with winb := x }) (Winb.ofWord_eq v.toNat)) h.idle
      (hw := by simpa [specialWritable] using hm)⟩
  case wsp =>
    rintro rfl
    exact ⟨.mfs h d rfl, .mts_inSequence (c := c.setWsp m.um v) h a rfl (h.idle.setWsp ..) (hsa := Core.setWsp_rsa ..) (hea := Core.setWsp_rea ..)⟩
  case cst =>
    rintro rfl
    exact .mfs h d (congrArg (BitVec.ofNat 32) (Core.cstWord_eq h.2))
  case raises =>
    intro hw he
    refine ⟨fun hm hn => ?_, fun hn => ?_, fun hn => ⟨?_, ?_⟩, fun hn => ⟨?_, ?_⟩, fun hn hm => ⟨?_, ?_⟩⟩
    · obtain ⟨hle, hr⟩ := specialReadable_eq_false hm hn
      exact .of_guarded_privileged (exec_tMfs h d n) h hw he (by omega) hr
    · obtain ⟨hle, hr⟩ := specialWritable_eq_false hn
      exact .of_guarded_privileged (exec_tMts h a n) h hw he (by omega) hr
    · exact .of_guarded_illegal (exec_tMfs h d n) h hw he hn
    · exact .of_guarded_illegal (exec_tMts h a n) h hw he hn
    · exact .of_guarded_illegal (exec_tMpur h d n) h hw he hn
    · exact .of_guarded_illegal (exec_tMpuw h a n) h hw he hn
    · exact .of_guarded_privileged (exec_tMpur h d n) h hw he (by omega) (congrArg Bool.not hm)
    · exact .of_guarded_privileged (exec_tMpuw h a n) h hw he (by omega) (congrArg Bool.not hm)
  case mpu =>
    intro hn hm
    have hmode : (!s.core.mst.um) = true := congrArg Bool.not hm
    exact ⟨.of_retired h (exec_guarded_allowed (exec_tMpur h d n) (by omega) hmode) (h.idle.setReg ..), _,
      .of_retired h (exec_guarded_allowed (exec_tMpuw h a n) (by omega) hmode) h.idle, and_mpuMask n.toNat v⟩

end

section
/-!
SUPPORT. Objects' values through events, vectors, log records and the charger's review: which values each of these leaves.
-/

namespace Sys2Proof

open Machine

/-- A frame without the objects' values leaves each of them. -/
theorem Moves.get {l : List Part} {s t : State} (h : Moves l s t) (i n : Nat) (hl : Part.od ∉ l := by decide) : t.get i n = s.get i n := by
  have hod : t.od = s.od := h.only .od hl
  rw [State.get, State.get, hod]

end Sys2Proof

namespace Sys2Proof.Machine

/-- A write leaves the objects of every other index. -/
theorem State.get_set_of_index_ne (s : State) {i j m n : Nat} (v : Nat) (h : i ≠ j) (hm : m < 256) (hn : n < 256) :
    (s.set i m v).get j n = s.get j n := s.get_set_other hm hn (by simp [h])

theorem State.get_count_of_index_ne (s : State) {i j m n : Nat} (h : i ≠ j) (hm : m < 256) (hn : n < 256) : (s.count i m).get j n = s.get j n :=
  s.get_set_of_index_ne _ h hm hn

theorem State.get_setFlag_of_index_ne (s : State) {i j m n : Nat} (k : Nat) (b : Bool) (h : i ≠ j) (hm : m < 256) (hn : n < 256) :
    (s.setFlag i m k b).get j n = s.get j n := s.get_set_of_index_ne _ h hm hn

/-- A fold whose steps leave a value leaves it. -/
theorem foldl_get {α : Type} {f : State → α → State} {l : List α} {i n : Nat} (h : ∀ a ∈ l, ∀ u, (f u a).get i n = u.get i n) (s : State) :
    (l.foldl f s).get i n = s.get i n := by
  induction l generalizing s with
  | nil => rfl
  | cons a l ih => rw [List.foldl_cons, ih fun b hb => h b (by simp [hb]), h a (by simp)]

/-! ### Events (R320 to R323): only objects of the tasks 0x2500 to 0x257F are written -/

/-- A task has four inputs. -/
theorem State.lt_of_mem_inputsOf {s : State} {t n : Nat} {e : Nat × Nat} (h : e ∈ s.inputsOf t n) : e.1 < 4 := by
  simp only [State.inputsOf, List.mem_filterMap, List.mem_range, Option.ite_none_right_eq_some, Option.some.injEq] at h
  obtain ⟨k, hk, -, rfl⟩ := h
  exact hk

theorem mem_of_mem_repeated {l : List (Nat × Nat)} {e : Nat × Nat} (h : e ∈ repeated l) : e ∈ l := by
  induction l with
  | nil => exact h
  | cons a l ih =>
    rw [repeated] at h
    split at h
    · rcases List.mem_cons.mp h with rfl | h
      · exact List.mem_cons_self
      · exact List.mem_cons_of_mem _ (ih h)
    · exact List.mem_cons_of_mem _ (ih h)

/-- The enabled tasks are among the 128 tasks. -/
theorem State.lt_of_mem_enabledTasks {s : State} {t : Nat} (h : t ∈ s.enabledTasks) : t < 128 := by
  simp only [State.enabledTasks, List.mem_map, List.mem_filter, Bool.and_eq_true, decide_eq_true_eq] at h
  obtain ⟨e, ⟨-, ⟨⟨-, hlt⟩, -⟩, -⟩, rfl⟩ := h
  unfold key at hlt
  omega

section
variable {i n t : Nat} (hi : 0x2500 + t ≠ i) (hn : n < 256)
include hi hn

theorem coincide_get (s : State) {k : Nat} (hk : k < 4) : (coincide s t k).get i n = s.get i n := by
  have hset (v : Nat) : (s.set (0x2500 + t) (8 + k) v).get i n = s.get i n := s.get_set_of_index_ne v hi (by omega) hn
  simp only [coincide]
  split
  · rw [State.get_setFlag_of_index_ne _ _ _ hi (by decide) hn, hset]
  · exact hset _

/-- The events of a clock write the objects of the task that they reach. -/
theorem taskEvent_get (s : State) (events : List (Nat × Nat)) : (taskEvent s events t).get i n = s.get i n := by
  unfold taskEvent
  extract_lets +onlyGivenNames mine ins x
  have hins : ∀ e ∈ ins, e.1 < 4 := fun e he => by
    obtain ⟨a, -, ha⟩ := List.mem_flatMap.mp he
    exact s.lt_of_mem_inputsOf ha
  clear_value ins
  split
  · rfl
  split
  · rw [State.get_set_of_index_ne _ _ hi (by decide) hn]
    exact foldl_get (fun e he u => coincide_get hi hn u (hins e he)) s
  · extract_lets +onlyGivenNames u all seen first complete a v w
    have hu : u.get i n = s.get i n := foldl_get (fun e he u => coincide_get hi hn u (hins e (mem_of_mem_repeated he))) s
    have hw : w.get i n = s.get i n := by
      rw [State.get_set_of_index_ne _ _ hi (by decide) hn, State.get_count_of_index_ne _ hi (by decide) hn, hu]
    split
    · exact hu
    · split <;> exact hw

end

/-- An event leaves every object outside the tasks'. -/
theorem raise_get (s : State) (e : Nat) {i n : Nat} (hi : i < 0x2500 ∨ 0x2580 ≤ i) (hn : n < 256) : (raise s e).get i n = s.get i n := by
  unfold raise raiseWith raiseAll
  split
  · rfl
  · refine foldl_get (fun t ht u => taskEvent_get ?_ hn u _) s
    have := s.lt_of_mem_enabledTasks ht
    omega

/-! ### Vectors and log records -/

/-- A vector leaves every object but the pending flags. -/
theorem raiseVector_get (s : State) {v i n : Nat} (hv : v / 32 + 1 < 256) (hi : 0x2621 ≠ i) (hn : n < 256) :
    (raiseVector s v).get i n = s.get i n := by
  unfold raiseVector
  split
  · rfl
  · extract_lets x u w
    rw [(trySend_frame w v).get]
    unfold w
    split
    · exact State.get_setFlag_of_index_ne _ _ _ hi hv hn
    · rfl

/-- An index none of whose objects an event, a vector or a log record writes: not a task's, not the vectors' pending flags, not the log's counters. -/
abbrev Unreported (i : Nat) : Prop := (i < 0x2500 ∨ 0x2580 ≤ i) ∧ 0x2621 ≠ i ∧ 0x4800 ≠ i

section
variable {i n : Nat} (hi : Unreported i) (hn : n < 256)
include hi hn

theorem logLost_get (s : State) : (logLost s).get i n = s.get i n := by
  obtain ⟨htask, hvec, hlog⟩ := hi
  rw [logLost, raiseVector_get _ (by decide) hvec hn, raise_get _ _ htask hn, State.get_count_of_index_ne _ hlog (by decide) hn]

theorem queueLog_get (s : State) (code data : Nat) : (queueLog s code data).get i n = s.get i n := by
  unfold queueLog
  split
  · exact logLost_get hi hn _
  · extract_lets u l
    have hu : u.get i n = s.get i n := (noteDropped_frame s).get i n
    split
    · exact hu
    · split <;> exact (logLost_get hi hn _).trans hu

theorem logVerbose_get (s : State) (j m old new : Nat) : (logVerbose s j m old new).get i n = s.get i n := by
  unfold logVerbose logStateChange
  split
  · exact queueLog_get hi hn s _ _
  · rfl

/-! ### The charger's review (R572) -/

variable (hc : 0x4301 ≠ i)
include hc

theorem setChargePhase_get (s : State) (p : Nat) : (setChargePhase s p).get i n = s.get i n := by
  unfold setChargePhase
  split
  · rfl
  · rw [logVerbose_get hi hn, raise_get _ _ hi.1 hn, State.get_set_of_index_ne _ _ hc (by decide) hn]

/-- The charger's review writes the charger's own objects 0x4301 and 0x4310. -/
theorem chargerReview_get (s : State) (hd : 0x4310 ≠ i) : (chargerReview s).get i n = s.get i n := by
  have hr : (chargerRefresh s).get i n = s.get i n := by
    simp only [chargerRefresh]
    rw [State.get_set_of_index_ne _ _ hd (by decide) hn, State.get_set_of_index_ne _ _ hc (by decide) hn,
      State.get_set_of_index_ne _ _ hc (by decide) hn, State.get_setFlag_of_index_ne _ _ _ hc (by decide) hn,
      State.get_setFlag_of_index_ne _ _ _ hc (by decide) hn]
  have hphase (u : State) (p : Nat) (hu : u.get i n = s.get i n) : (setChargePhase u p).get i n = s.get i n :=
    (setChargePhase_get hi hn hc u p).trans hu
  unfold chargerReview
  extract_lets u p
  split
  · exact hr
  split
  · exact hphase u 0 hr
  split
  · split
    · exact hr
    · exact hphase u u.pack.heldPhase hr
  split
  · exact hr
  split
  · exact hphase { u with pack := { u.pack with heldPhase := p } } 1 hr
  · exact hr

end

end Sys2Proof.Machine
end

section
/-!
SUPPORT. The claims of commands that end nobody's wait, and what the reset of the domains, a hard reset and the resumption of start-up leave (chapter 3).
-/

namespace Sys2Proof

open Machine

section
variable {c : Instr} {s u : State} (hx : exec c s = observed u)
include hx

/-- A command whose effect is none leaves the power path. -/
theorem Does.of_observed_self (hu : u = s) : Does c s [] fun t => t.power = s.power :=
  .of_observed (m := []) hx (by rw [hu]; exact Moves.refl [] s) (by simp) (by rw [immediates_power, hu])

/-- A command answers what its effect leaves, its own TPDOs sent. -/
theorem exists_observed {l : List Part} {P : State → Prop} (hm : Moves l s u) (hP : P u) (hl : Part.pending ∉ l := by decide) :
    ∃ t, exec c s = .next (immediates t) ∧ t.pending = s.pending ∧ P t := ⟨u, hx, hm.only .pending hl, hP⟩

end

/-- A claim with its frame, and the queue that the frame leaves. -/
theorem Does.exists_next {c : Instr} {s : State} {l : List Part} {P : State → Prop} (h : Does c s l P) (hl : Part.pending ∉ Part.pdo :: l := by decide) :
    ∃ t, exec c s = .next t ∧ t.pending = s.pending ∧ Only (.pdo :: l) s t ∧ P t := by
  obtain ⟨t, hx, ho, hP⟩ := h
  exact ⟨t, hx, ho .pending hl, ho, hP⟩

end Sys2Proof

namespace Sys2Proof.Machine

/-! ### States in which commands of the power path act -/

theorem State.parts_of_up {s : State} (h : s.up = true) :
    s.power.step = .firmware ∧ s.power.hardReset = false ∧ s.power.emergWait = false ∧ s.clocks.pllA = true := by
  simpa [State.up, and_assoc] using h

theorem State.inEmergency_eq_false {s : State} : s.inEmergency = false ↔ s.power.emergWait = false ∧ s.aocb.pstate ≠ .emergency := by
  simp [State.inEmergency]

/-- A hard reset that comes now starts its power-down order (R91, R104). -/
def State.Resettable (s : State) : Prop :=
  s.power.vaonValid = true ∧ s.aocb.pstate ≠ .ship ∧ s.inEmergency = false ∧ s.power.hardReset = false ∧ s.power.step ≠ .idle ∧ s.power.step ≠ .supplyFailed

theorem State.resettable_of_up {s : State} (hu : s.up = true) (hv : s.power.vaonValid = true) (he : s.aocb.pstate ≠ .emergency) (hs : s.aocb.pstate ≠ .ship) :
    s.Resettable := by
  obtain ⟨hstep, hhard, hwait, -⟩ := State.parts_of_up hu
  exact ⟨hv, hs, State.inEmergency_eq_false.mpr ⟨hwait, he⟩, hhard, by simp [hstep], by simp [hstep]⟩

/-! ### The cause of a reset (R103, R104) -/

@[simp] theorem recordCause_power (s : State) (src : Source) (q : Nat) (same : Bool) : (recordCause s src q same).power = s.power := rfl

/-- A source that comes alone stands in SOURCE with its qualifier. -/
theorem recordCause_alone (s : State) (src : Source) (q : Nat) :
    (recordCause s src q false).aocb.cause.source = src.code ∧ (recordCause s src q false).aocb.cause.qual = q := ⟨rfl, rfl⟩

/-- Of the AOCB the loss of the log's queue counts the lost records (R94). -/
theorem resetDomains_aocb (s : State) (rails : Bool) :
    ∃ n, (resetDomains s rails).aocb = { s.aocb with cause := { s.aocb.cause with logLost := n } } := by
  have ha : (abandonRecord s).aocb = s.aocb := (abandonRecord_frame s).only .aocb (by decide)
  exact ⟨min 255 ((abandonRecord s).aocb.cause.logLost + (abandonRecord s).log.queue.length), by rw [← ha]; rfl⟩

/-! ### The reset of the domains (R91 to R95) -/

@[simp] theorem resetDomains_power (s : State) (rails : Bool) : (resetDomains s rails).power = s.power :=
  (resetDomains_frame s rails).only .power (by decide)

@[simp] theorem resetDomains_tabor (s : State) (rails : Bool) : (resetDomains s rails).tabor = Tabor.reset := rfl

@[simp] theorem resetDomains_mem (s : State) (rails : Bool) : (resetDomains s rails).mem = Mem.reset := rfl

@[simp] theorem resetDomains_reg (s : State) : (resetDomains s false).reg = Reg.reset := rfl

/-- What lies in flash outlives the reset (R93). -/
@[simp] theorem resetDomains_slots (s : State) (rails : Bool) : (resetDomains s rails).store.slots = s.store.slots := by
  have hs : (loseQueue s).store = s.store := (loseQueue_frame s).only .store (by decide)
  change (loseQueue s).store.slots = _
  rw [hs]

@[simp] theorem resetDomains_pressHold (s : State) (rails : Bool) : (resetDomains s rails).pack.pressHold = s.pack.pressHold := by
  have hp : (loseQueue s).pack = s.pack := (loseQueue_frame s).only .pack (by decide)
  change (loseQueue s).pack.pressHold = _
  rw [hp]

/-- A value kept through a reset reads as before it. -/
theorem resetDomains_get (s : State) (rails : Bool) {i n : Nat} (hk : keptAtReset rails (key i n) = true) : (resetDomains s rails).get i n = s.get i n := by
  have hod : (resetDomains s rails).od = s.od.filter fun e => keptAtReset rails e.1 := by
    rw [← show (loseQueue s).od = s.od from (loseQueue_frame s).only .od (by decide)]
    rfl
  rw [State.get, hod, sparseGet_filter, if_pos hk, State.get]

/-- The source of VSYS outlives the reset. -/
@[simp] theorem resetDomains_onPack (s : State) (rails : Bool) : (resetDomains s rails).onPack = s.onPack := by
  rw [State.onPack, resetDomains_get s rails (by cases rails <;> decide), State.onPack]

/-! ### A hard reset (R91, R104, R543) -/

/-- During an order or the wait after an emergency, a hard reset is recorded and starts nothing. -/
theorem hardReset_recorded {s : State} (hv : s.power.vaonValid = true) (hs : s.aocb.pstate ≠ .ship) (h : s.inEmergency = true ∨ s.power.hardReset = true)
    (src : Source) (q : Nat) (same : Bool) : hardReset s src q same = recordCause s src q same := by
  unfold hardReset
  rw [if_neg (by simp [hv, hs]), if_pos (by rcases h with h | h <;> simp [h])]

/-- The down order that undoes what was issued leaves no power state on its way: the always-on block stands (R543). -/
theorem arrive_undo_aocb (s : State) {r : Run} (ht : r.table = .down) (hu : r.undo = true) : (arrive s r).aocb = s.aocb := by
  have hhost : (setHostUp (s.setRun (some r)) false).aocb = s.aocb := (setHostUp_frame (s.setRun (some r)) false).only .aocb (by decide)
  simp only [arrive, ht, hu, Bool.or_true, if_true]
  cases (s.setRun (some r)).linkLevel with
  | none => rfl
  | some k =>
    rw [apply_ite State.aocb, hhost]
    exact ite_self _

theorem beginRun_undo_aocb (s : State) (from_ to_ : Nat) : (beginRun s .down from_ to_ true).aocb = s.aocb := arrive_undo_aocb s rfl rfl

@[simp] theorem startResetOrder_aocb (s : State) : (startResetOrder s).aocb = s.aocb := by
  have hrails : (releaseRails s).aocb = s.aocb := (releaseRails_frame s).only .aocb (by decide)
  simp only [startResetOrder, beginRun_undo_aocb, hrails]

@[simp] theorem startResetOrder_power (s : State) : (startResetOrder s).power = s.power := (startResetOrder_frame s).only .power (by decide)

@[simp] theorem linkIdle_power (s : State) : (linkIdle s).power = s.power := (linkIdle_frame s).only .power (by decide)

@[simp] theorem abandonStore_power (s : State) : (abandonStore s).power = s.power := rfl

@[simp] theorem abandonStore_aocb (s : State) : (abandonStore s).aocb = s.aocb := rfl

section
variable {s : State} (h : s.Resettable) (src : Source) (q : Nat) (same : Bool)
include h

theorem hardReset_eq : hardReset s src q same =
    (let u := packPending (resetDomains (abandonStore (clearLost (recordCause (linkIdle s) src q same))) true)
     startResetOrder (disarm { u with power := { u.power with hardReset := true } })) := by
  obtain ⟨hv, hs, he, hh, hidle, hfailed⟩ := h
  unfold hardReset
  rw [if_neg (by simp [hv, hs]), if_neg (by simp [he, hh, hidle, hfailed])]

/-- Where a hard reset starts, its order runs and the watchdog is not armed. -/
theorem hardReset_power : (hardReset s src q same).power = { s.power with hardReset := true, watchdog := Watchdog.reset } := by
  rw [hardReset_eq h, startResetOrder_power]
  have hp : (packPending (resetDomains (abandonStore (clearLost (recordCause (linkIdle s) src q same))) true)).power = s.power := by
    rw [show ∀ u, (packPending u).power = u.power from fun _ => rfl, resetDomains_power, abandonStore_power]
    exact linkIdle_power s
  simp only [disarm, hp]

/-- A source that starts a hard reset alone stands in SOURCE with its qualifier. -/
theorem hardReset_cause : (hardReset s src q false).aocb.cause.source = src.code ∧ (hardReset s src q false).aocb.cause.qual = q := by
  rw [hardReset_eq h, startResetOrder_aocb]
  obtain ⟨n, hn⟩ := resetDomains_aocb (abandonStore (clearLost (recordCause (linkIdle s) src q false))) true
  have ha (u : State) : (disarm { packPending u with power := { (packPending u).power with hardReset := true } }).aocb = u.aocb := rfl
  rw [ha, hn]
  exact recordCause_alone (linkIdle s) src q

end

/-! ### The resumption of start-up (R91, R107) -/

/-- Where the self-bucks regulate and RESET_N is released, start-up goes on at the clocks step. -/
theorem resumeStartup_at_clocks {s : State} (hb : s.power.selfBuck = .regulating) (hn : s.power.resetNLow = false) :
    resumeStartup s = resumeAt s .clocks 2 := by
  simp [resumeStartup, resumeClocks, hb, hn]

end Sys2Proof.Machine
end


section
/-!
SUPPORT. RESET_N, the watchdog and the end of a hard reset's power-down order, command by command (R68, R92, R103, R104, R368, R543).
-/

namespace Sys2Proof.Machine

/-- What a hard reset's order leaves at its end, before start-up resumes: the domains in reset, and an interruption that it cut short with its record to come. -/
def resetOrderEnded (s : State) : State :=
  if s.power.interruption then
    { resetDomains s false with
      power := { s.power with interruption := false, pendingRecords := s.power.pendingRecords ++ [(.hardReset, none)] } }
  else resetDomains s false

/-- The end of the order leaves the domains in reset, RESET_N and the self-bucks as they are, and the cause of the reset. -/
theorem resetOrderEnded_parts (s : State) :
    (resetOrderEnded s).tabor = Tabor.reset ∧ (resetOrderEnded s).reg = Reg.reset ∧ (resetOrderEnded s).onPack = s.onPack
      ∧ (resetOrderEnded s).pack.pressHold = s.pack.pressHold ∧ (resetOrderEnded s).aocb = (resetDomains s false).aocb
      ∧ (resetOrderEnded s).power.selfBuck = s.power.selfBuck ∧ (resetOrderEnded s).power.resetNLow = s.power.resetNLow := by
  have hp := resetDomains_power s false
  unfold resetOrderEnded
  split
  · exact ⟨rfl, rfl, resetDomains_onPack s false, resetDomains_pressHold s false, rfl, rfl, rfl⟩
  · exact ⟨rfl, rfl, resetDomains_onPack s false, resetDomains_pressHold s false, rfl, by rw [hp], by rw [hp]⟩

/-- An order's end that is due, off the pack and without a long press, resumes start-up. -/
theorem actHardResetOrderEnd_due {s : State} (hh : s.power.hardReset = true) (hg : s.power.batgHeld = false) (hr : s.seq.run = none)
    (hd : s.railsDown = true) (hp : s.onPack = false) (hl : s.pack.pressHold = false) :
    actHardResetOrderEnd s = resumeStartup (resetOrderEnded s) := by
  obtain ⟨-, -, honPack, hpress, -⟩ := resetOrderEnded_parts s
  have hended : (if (resetDomains s false).power.interruption then
        { lossEnds (resetDomains s false) .hardReset with
          power := { (lossEnds (resetDomains s false) .hardReset).power with interruption := false } }
      else resetDomains s false) = resetOrderEnded s := by
    unfold resetOrderEnded lossEnds
    rw [resetDomains_power]
  unfold actHardResetOrderEnd
  rw [if_neg (by simp [hh, hg, hr, hd])]
  dsimp only
  rw [hended]
  simp [honPack, hpress, hp, hl]

end Sys2Proof.Machine

namespace Sys2Proof

open Machine

section
variable {s : State}

/-- A pulse of 10 µs or more makes RESET_N fall, and starts a hard reset. -/
theorem exec_resetNPulse_long {w : Nat} (hw : 10000 ≤ w) (same : Bool) :
    exec (.resetNPulse w same) s = observed (hardReset { s with power := { s.power with resetNLow := true } } .resetN 0 same) := by
  change observed (actResetNPulse w same s) = _
  rw [actResetNPulse, if_neg (by omega), if_pos hw, resetNFalls]

theorem resetNPulse_resets {w : Nat} (hw : 10000 ≤ w) (hu : s.up = true) (he : s.aocb.pstate ≠ .emergency) (hs : s.aocb.pstate ≠ .ship)
    (hv : s.power.vaonValid = true) (same : Bool) :
    ∃ t, exec (.resetNPulse w same) s = .next t ∧ t.pending = s.pending
      ∧ t.power = { s.power with resetNLow := true, hardReset := true, watchdog := Watchdog.reset }
      ∧ (same = false → t.aocb.cause.source = Source.resetN.code ∧ t.aocb.cause.qual = 0) := by
  have h : ({ s with power := { s.power with resetNLow := true } } : State).Resettable := State.resettable_of_up (s := s) hu hv he hs
  refine ⟨_, exec_resetNPulse_long hw same, ?_, ?_, ?_⟩
  · rw [immediates_pending]
    exact (hardReset_frame ..).only .pending (by decide)
  · rw [immediates_power, hardReset_power h]
  · rintro rfl
    rw [immediates_aocb]
    exact hardReset_cause h .resetN 0

/-- During an order, its wait or in EMERGENCY a reset by RESET_N is recorded alone. -/
theorem Does.resetNPulse_recorded {w : Nat} (hw : 10000 ≤ w) (hv : s.power.vaonValid = true) (hs : s.aocb.pstate ≠ .ship)
    (h : s.power.hardReset = true ∨ s.power.emergWait = true ∨ s.aocb.pstate = .emergency) :
    Does (.resetNPulse w false) s [.power, .aocb] fun t => t.power = { s.power with resetNLow := true }
      ∧ t.aocb.cause.source = Source.resetN.code ∧ t.aocb.cause.soft = 0 := by
  have hrec := hardReset_recorded (s := { s with power := { s.power with resetNLow := true } }) hv hs
    (by simpa [State.inEmergency, or_comm, or_left_comm] using h) .resetN 0 false
  refine .of_observed (m := [.power, .aocb]) ((exec_resetNPulse_long hw false).trans (congrArg observed hrec)) ?_ (by decide) ?_
  · exact Moves.app (recordCause_frame ..) (by decide) (.update (.refl _ s))
  · rw [immediates_power, immediates_aocb]
    exact ⟨rfl, rfl, rfl⟩

/-- A pulse between 1 µs and 10 µs is the draw's to judge. -/
theorem resetNPulse_drawn {w : Nat} (h1 : 1000 ≤ w) (h2 : w < 10000) (same : Bool) :
    ∃ t, exec (.resetNPulse w same) s = .next (immediates t) ∧ t.pending = s.pending
      ∧ (t = s.draw ∨ t = hardReset { s.draw with power := { s.power with resetNLow := true } } .resetN 0 same) := by
  refine exists_observed (u := actResetNPulse w same s) rfl (actResetNPulse_frame ..) ?_
  rw [actResetNPulse, if_neg (by omega), if_neg (by omega)]
  split
  · exact .inr rfl
  · exact .inl rfl

theorem Does.watchdogService_boot (ha : s.power.watchdog.armed = true) (hr : s.update.restarting = false) (hb : s.power.watchdog.byFirmware = false) :
    Does (.watchdogService false) s [.power] fun t => t.power = { s.power with watchdog := { s.power.watchdog with timeoutMs := 1000 } } := by
  have hact : actWatchdogService false s = { s with power := { s.power with watchdog := { s.power.watchdog with timeoutMs := 1000 } } } := by
    simp [actWatchdogService, ha, hr, hb]
  exact .of_observed (m := [.power]) (congrArg observed hact) (.update (.refl _ s)) (by decide) (immediates_power _)

theorem Does.watchdogService_firmware (ha : s.power.watchdog.armed = true) (hr : s.update.restarting = false) (hu : s.up = true)
    (ht : s.tabor.run = .running) :
    Does (.watchdogService true) s [.power, .tabor] fun t =>
      t.power = { s.power with watchdog := { s.power.watchdog with byFirmware := true, timeoutMs := s.get 0x2012 1 } }
        ∧ t.tabor = { s.tabor with tollHeld := false } := by
  have hact : actWatchdogService true s = { s with
      power := { s.power with watchdog := { s.power.watchdog with byFirmware := true, timeoutMs := s.get 0x2012 1 } }
      tabor := { s.tabor with tollHeld := false } } := by
    simp [actWatchdogService, ha, hr, hu, ht]
  exact .of_observed (m := [.power, .tabor]) (congrArg observed hact) (.update (.refl _ s)) (by decide) ⟨immediates_power _, immediates_tabor _⟩

theorem actWatchdogService_self {fw : Bool} (h : s.power.watchdog.armed = false ∨ s.update.restarting = true
      ∨ (fw = true ∧ s.tabor.run ≠ .running) ∨ (fw = false ∧ s.power.watchdog.byFirmware = true)) : actWatchdogService fw s = s := by
  unfold actWatchdogService
  rcases h with h | h | ⟨rfl, h⟩ | ⟨rfl, h⟩ <;> simp [h]

theorem actWatchdogExpiry_self (h : s.power.watchdog.armed = false ∨ s.power.watchdog.expired = true ∨ s.tabor.run = .halted) (same : Bool) :
    actWatchdogExpiry same s = s := by
  unfold actWatchdogExpiry
  rcases h with h | h | h <;> simp [h]

section
variable (ha : s.power.watchdog.armed = true) (hx : s.power.watchdog.expired = false) (ht : s.tabor.run ≠ .halted)
include ha hx ht

/-- An expiry that counts starts a hard reset; where that starts nothing the watchdog stays armed, expired. -/
theorem actWatchdogExpiry_due (same : Bool) : actWatchdogExpiry same s =
    (let t := hardReset s .watchdog s.watchdogQual same
     if t.power.watchdog.armed then { t with power := { t.power with watchdog := { t.power.watchdog with expired := true } } } else t) := by
  rw [actWatchdogExpiry, if_pos (by simp [ha, hx, ht])]

theorem watchdogExpiry_resets (hu : s.up = true) (he : s.aocb.pstate ≠ .emergency) (hs : s.aocb.pstate ≠ .ship) (hv : s.power.vaonValid = true) :
    ∃ t, exec (.watchdogExpiry false) s = .next t ∧ t.pending = s.pending ∧ t.power.hardReset = true ∧ t.aocb.cause.source = Source.watchdog.code
      ∧ t.aocb.cause.qual = (if s.update.restarting then 4 else if !s.clocks.xin then 1 else if !s.power.watchdog.byFirmware then 2 else 3)
      ∧ t.power.watchdog.armed = false := by
  obtain ⟨-, -, -, hpll⟩ := State.parts_of_up hu
  have h := State.resettable_of_up hu hv he hs
  have hpower := hardReset_power h .watchdog s.watchdogQual false
  obtain ⟨hsource, hqual⟩ := hardReset_cause h .watchdog s.watchdogQual
  have hact : actWatchdogExpiry false s = hardReset s .watchdog s.watchdogQual false := by
    rw [actWatchdogExpiry_due ha hx ht]
    simp [hpower, Watchdog.reset]
  refine ⟨_, congrArg observed hact, ?_, ?_, ?_, ?_, ?_⟩
  · rw [immediates_pending]
    exact (hardReset_frame ..).only .pending (by decide)
  · rw [immediates_power, hpower]
  · rw [immediates_aocb, hsource]
  · rw [immediates_aocb, hqual]
    simp [State.watchdogQual, hpll]
  · rw [immediates_power, hpower]
    rfl

/-- In EMERGENCY an expiry is recorded, and marks the watchdog (R104). -/
theorem Does.watchdogExpiry_recorded (hv : s.power.vaonValid = true) (he : s.aocb.pstate = .emergency) (same : Bool) :
    Does (.watchdogExpiry same) s [.power, .aocb] fun t => t.power = { s.power with watchdog := { s.power.watchdog with expired := true } } := by
  have hrec := hardReset_recorded hv (by simp [he]) (.inl (by simp [State.inEmergency, he])) .watchdog s.watchdogQual same
  have hact := actWatchdogExpiry_due ha hx ht same
  rw [hrec] at hact
  dsimp only at hact
  rw [recordCause_power, if_pos ha] at hact
  refine .of_observed (m := [.power, .aocb]) (congrArg observed hact) ?_ (by decide) (immediates_power _)
  exact .update ((recordCause_frame ..).mono (by decide))

end

/-- The end of a hard reset's order, off the pack, resumes start-up at the clocks step with the cause of the reset. -/
theorem hardResetOrderEnd_resumes (hh : s.power.hardReset = true) (hg : s.power.batgHeld = false) (hr : s.seq.run = none) (hd : s.railsDown = true)
    (hp : s.onPack = false) (hl : s.pack.pressHold = false) (hn : s.power.resetNLow = false) (hb : s.power.selfBuck = .regulating) :
    ∃ t, exec .hardResetOrderEnd s = .next (immediates t) ∧ t.pending = s.pending ∧ t.power.step = .clocks ∧ t.power.hardReset = false
      ∧ t.aocb.pstate = .start ∧ t.aocb.boot.progress = 2 ∧ t.aocb.cause.source = s.aocb.cause.source ∧ t.tabor = Tabor.reset ∧ t.reg = Reg.reset := by
  obtain ⟨htabor, hreg, -, -, haocb, hbuck, hlow⟩ := resetOrderEnded_parts s
  obtain ⟨n, hcause⟩ := resetDomains_aocb s false
  refine exists_observed (u := actHardResetOrderEnd s) rfl (actHardResetOrderEnd_frame s) ?_
  rw [actHardResetOrderEnd_due hh hg hr hd hp hl, resumeStartup_at_clocks (hbuck.trans hb) (hlow.trans hn)]
  refine ⟨rfl, rfl, rfl, rfl, ?_, htabor, hreg⟩
  change (resetOrderEnded s).aocb.cause.source = _
  rw [haocb, hcause]

theorem actHardResetOrderEnd_self (h : s.power.hardReset = false ∨ s.seq.run.isSome = true ∨ s.railsDown = false) : actHardResetOrderEnd s = s := by
  unfold actHardResetOrderEnd
  rcases h with h | h | h <;> simp [h]

end

end Sys2Proof

open Sys2Proof Machine

/-- Settles O10, by the width of the pulse, by whether the service or the expiry counts, and by whether the order's end is due. -/
theorem hardResets : Obligations.HardResets := by
  intro s
  refine ⟨?short, ?long, ?recorded, ?between, ?boot, ?firmware, ?service, ?idle, ?expiry, ?emergency, ?orderEnd, ?notDue⟩
  case short =>
    intro w same hw
    exact .of_observed_self (u := actResetNPulse w same s) rfl (by rw [actResetNPulse, if_pos hw])
  case long =>
    intro w same hw _ hu he hs hv
    obtain ⟨t, hx, hq, hp, hc⟩ := resetNPulse_resets hw hu he hs hv same
    exact ⟨t, hx, hq, by rw [hp], by rw [hp], hc, by rw [hp]; rfl, by rw [hp], by rw [hp]⟩
  case recorded =>
    intro w hw hv hs h
    exact .resetNPulse_recorded hw hv hs h
  case between =>
    intro w same h1 h2
    exact resetNPulse_drawn h1 h2 same
  case boot => exact .watchdogService_boot
  case firmware => exact .watchdogService_firmware
  case service =>
    intro fw h
    exact .of_observed_self (u := actWatchdogService fw s) rfl (actWatchdogService_self h)
  case idle =>
    intro same h
    exact .of_observed_self (u := actWatchdogExpiry same s) rfl (actWatchdogExpiry_self h same)
  case expiry =>
    intro _ ha hx hu ht he hs hv
    exact watchdogExpiry_resets ha hx ht hu he hs hv
  case emergency =>
    intro same ha hx ht hv he
    exact .watchdogExpiry_recorded ha hx ht hv he same
  case orderEnd =>
    intro _ hh hg hr hd hp hl hn hb
    exact hardResetOrderEnd_resumes hh hg hr hd hp hl hn hb
  case notDue =>
    intro h
    exact .of_observed_self (u := actHardResetOrderEnd s) rfl (actHardResetOrderEnd_self h)

end

section
/-!
SUPPORT. The loss and the return of VIN: onto the pack and off it, the collapse into the emergency order and its end, and VSYS under-voltage (R26, R80, R81, R83, R86,
R96 to R101, R109).
-/

namespace Sys2Proof.Machine

/-! ### A store job stays ended through what idles the lanes (R96, R166) -/

/-- A link-down event drops only who asked for the job. -/
theorem linkDown_job {s : State} (h : s.store.job = none) : (linkDown s).store.job = none := by
  have hstream (l : List Packet) (u : State) : (l.foldl streamLost u).store = u.store := by
    have hm : Moves [.od, .link] u (l.foldl streamLost u) := .foldl (fun _ _ h => Moves.app (streamLost_frame ..) (by decide) h) (.refl _ u)
    exact hm.only .store (by decide)
  have hread (l : List ReadUse) (u : State) : (l.foldl failRead u).store = u.store := by
    have hm : Moves [.od, .draws, .replies, .log, .can, .pdo, .link, .mem, .sched, .tabor, .sense, .test] u (l.foldl failRead u) :=
      .foldl (fun _ _ h => Moves.app (failRead_frame ..) (by decide) h) (.refl _ u)
    exact hm.only .store (by decide)
  have hpages (u : State) : (ringsLinkDown (serveFills (writeBacksLost u))).store = u.store := by
    have hm := ((writeBacksLost_frame u).mono (by decide)).trans (serveFills_frame (writeBacksLost u))
    exact (hm.only.trans ((ringsLinkDown_frame _).only.mono (by decide))) .store (by decide)
  have hraise (u : State) (e : Nat) : (raise u e).store = u.store := (raise_frame u e).only .store (by decide)
  simp only [linkDown, hraise, hpages, hread, hstream, State.count_store, h, Option.map_none]

theorem linkIdle_job {s : State} (h : s.store.job = none) : (linkIdle s).store.job = none := by
  unfold linkIdle
  extract_lets u
  have hu : u.store.job = none := by
    unfold u
    split
    · exact linkDown_job h
    · exact h
  have hs (v : State) (k : Nat) : (setLink v k).store = v.store := (setLink_frame v k).only .store (by decide)
  rw [State.set_store, hs]
  exact hu

theorem enterDetect_job {s : State} (h : s.store.job = none) : (enterDetect s).store.job = none := by
  unfold enterDetect
  split
  · exact linkIdle_job h
  · extract_lets u v
    have hu : u.store.job = none := by
      unfold u
      split
      · exact linkDown_job h
      · exact h
    have hs : (setLink u 2).store = u.store := (setLink_frame u 2).only .store (by decide)
    change (setLink u 2).store.job = none
    rw [hs]
    exact hu

theorem linkReview_job {s : State} (h : s.store.job = none) : (linkReview s).store.job = none := by
  unfold linkReview
  extract_lets u
  have hu : u.store.job = none := h
  split
  · exact linkIdle_job hu
  · split
    · exact enterDetect_job hu
    · exact hu

theorem setHostUp_job {s : State} (h : s.store.job = none) (b : Bool) : (setHostUp s b).store.job = none := linkReview_job h

/-! ### The emergency order starts (R96, R541) -/

@[simp] theorem startEmergency_power (s : State) : (startEmergency s).power = s.power := (startEmergency_frame s).only .power (by decide)

theorem startEmergency_target (s : State) : (startEmergency s).aocb.target = .emergency := rfl

theorem startEmergency_job {s : State} (h : s.store.job = none) : (startEmergency s).store.job = none := by
  have hrun (u : State) : (beginRun u .emergency 0 0 false).store = u.store := rfl
  have hstate (u : State) : (setPState u .emergency).store = u.store := (setPState_frame u .emergency).only .store (by decide)
  have hrails (u : State) : (releaseRails u).store = u.store := (releaseRails_frame u).only .store (by decide)
  have harm : (prearmCancel s 3).store = s.store := (prearmCancel_frame s 3).only .store (by decide)
  simp only [startEmergency, hrun, hstate, hrails]
  exact setHostUp_job (by rw [harm, h]) false

/-! ### The collapse (R96) -/

@[simp] theorem chargerReview_power (s : State) : (chargerReview s).power = s.power := (chargerReview_frame s).only .power (by decide)

@[simp] theorem chargerReview_store (s : State) : (chargerReview s).store = s.store := (chargerReview_frame s).only .store (by decide)

section
variable {s : State} (h : s.inEmergency = false)
include h

/-- The collapse stops the writes, keeps INSW on but for over-voltage, names its qualifier and leaves a record to come. -/
theorem collapse_power : (collapse s).power = { s.power with
    writesStopped := true, flashReset := Config.flashSoftReset && s.flashBusy, batg := false, insw := !s.power.vinOv
    lossQual := if s.power.vinOv then 2 else 1, pendingRecords := s.power.pendingRecords ++ [(.emergency, none)] } := by
  rw [collapse, h, if_neg Bool.false_ne_true]
  dsimp only
  rw [startEmergency_power, chargerReview_power]
  rfl

theorem collapse_target : (collapse s).aocb.target = .emergency := by
  rw [collapse, h, if_neg Bool.false_ne_true]
  exact startEmergency_target _

/-- The store job ends without an answer. -/
theorem collapse_job : (collapse s).store.job = none := by
  rw [collapse, h, if_neg Bool.false_ne_true]
  refine startEmergency_job ?_
  rw [chargerReview_store]
  rfl

end

/-! ### What a loss of VIN leads to -/

theorem abandonExchange_get (s : State) (i n : Nat) : (abandonExchange s).get i n = s.get i n := (abandonExchange_frame s).get i n

@[simp] theorem abandonExchange_power (s : State) : (abandonExchange s).power = s.power := (abandonExchange_frame s).only .power (by decide)

theorem vinLostActs_trusted {s : State} (ht : s.trusted = true) (hg : s.power.batgHeld = false) (hr : s.power.hardReset = false) (same : Bool) :
    vinLostActs s same = ontoPack (abandonExchange s) := by
  have htrust : (abandonExchange s).trusted = true := by rw [State.trusted, State.packCondition, abandonExchange_get]; exact ht
  simp [vinLostActs, htrust, hg, hr]

/-- In operation without a pack a loss collapses: the restart's order is dropped, and a loss in the clock of another source is recorded first (R103). -/
theorem vinLostActs_absent {s : State} (hp : s.packCondition = 0) (hf : s.power.step = .firmware) (same : Bool) :
    vinLostActs s same = collapse (dropResetOrder
      (if same then recordCause (abandonExchange s) .inputLoss (if s.power.vinOv then 2 else 1) true else abandonExchange s)) := by
  have hcond : (abandonExchange s).packCondition = 0 := by rw [State.packCondition, abandonExchange_get]; exact hp
  simp [vinLostActs, State.trusted, hcond, hf]

/-! ### Onto the pack and off it (R81, R99, R101) -/

theorem ontoPack_power (s : State) : (ontoPack s).power = { s.power with insw := false, batg := true, interruption := true } := by
  rw [ontoPack, chargerReview_power]
  rfl

/-- The VSYS source reads as on the pack. -/
theorem ontoPack_source {s : State} (h : Canonical s) : (ontoPack s).get 0x2010 4 = 1 := by
  obtain ⟨-, hod, -⟩ := h
  rw [ontoPack, chargerReview_get (by decide) (by decide) (by decide) _ (by decide)]
  change (s.set 0x2010 4 1).get 0x2010 4 = 1
  exact s.get_set_same 0x2010 4 1 hod

theorem offPack_power (s : State) : (offPack s).power = { s.power with batg := false, insw := true, interruption := false } := by
  have hlog (u : State) (o : LossOutcome) : (logInterruption u o).power = u.power := (logInterruption_frame u o).only .power (by decide)
  rw [offPack, chargerReview_power]
  split
  · rw [hlog]
    rfl
  · rfl

@[simp] theorem raise_power (s : State) (e : Nat) : (raise s e).power = s.power := (raise_frame s e).only .power (by decide)

@[simp] theorem raise_aocb (s : State) (e : Nat) : (raise s e).aocb = s.aocb := (raise_frame s e).only .aocb (by decide)

/-! ### VIN_LOST judged (R80, R83, R96) -/

theorem State.parts_of_judgesVin {s : State} (h : s.judgesVin = true) : s.power.vaonValid = true ∧ s.power.batgHeld = false := by
  simp only [State.judgesVin, Bool.and_eq_true, Bool.not_eq_true'] at h
  obtain ⟨⟨⟨⟨-, hv⟩, -⟩, -⟩, hg⟩ := h
  exact ⟨hv, hg⟩

theorem vinStaysLost_unjudged {s : State} (h : s.judgesVin = false) (ov same : Bool) : vinStaysLost s ov same = vinFalls s ov := by
  simp [vinStaysLost, h]

/-- A further loss in the emergency order has a record of its own. -/
theorem vinStaysLost_again {s : State} (hj : s.judgesVin = true) (he : s.aocb.pstate = .emergency) (hw : s.power.emergWait = false) (ov same : Bool) :
    vinStaysLost s ov same = lossEnds (raise (vinFalls s ov) 493) .emergency := by
  have hwait : (vinFalls s ov).power.emergWait = false := hw
  have hin : (vinFalls s ov).inEmergency = true := by simp [State.inEmergency, vinFalls, he]
  simp [vinStaysLost, hj, hwait, hin]

/-- VIN lost as the input path acts on it: the comparators' flags, the event, and no exchange with the pack. -/
def lossSeen (s : State) (ov : Bool) : State := abandonExchange (raise (vinFalls s ov) 493)

theorem lossSeen_frame (s : State) (ov : Bool) : Moves [.od, .sched, .power, .pack] s (lossSeen s ov) :=
  ((vinFalls_frame s ov).mono (by decide)).trans
    (((raise_frame _ _).mono (by decide)).trans ((abandonExchange_frame _).mono (by decide)))

@[simp] theorem lossSeen_power (s : State) (ov : Bool) : (lossSeen s ov).power = (vinFalls s ov).power := by
  rw [lossSeen, abandonExchange_power, raise_power]

section
variable {s : State} (hj : s.judgesVin = true) (hu : s.up = true) (he : s.aocb.pstate ≠ .emergency) (ov same : Bool)
include hj hu he

/-- In operation the loss acts at once. -/
theorem vinStaysLost_up : vinStaysLost s ov same = vinLostActs (raise (vinFalls s ov) 493) same := by
  obtain ⟨-, -, hwait, -⟩ := State.parts_of_up hu
  have hw : (vinFalls s ov).power.emergWait = false := hwait
  have hin : (vinFalls s ov).inEmergency = false := State.inEmergency_eq_false.mpr ⟨hwait, he⟩
  simp [vinStaysLost, hj, hw, hin]

theorem vinStaysLost_trusted (ht : s.trusted = true) : vinStaysLost s ov same = ontoPack (lossSeen s ov) := by
  obtain ⟨-, hheld⟩ := State.parts_of_judgesVin hj
  obtain ⟨-, hhard, -, -⟩ := State.parts_of_up hu
  have htrust : (raise (vinFalls s ov) 493).trusted = true := by
    rw [State.trusted, State.packCondition, raise_get _ _ (by decide) (by decide), (vinFalls_frame s ov).get]
    exact ht
  rw [vinStaysLost_up hj hu he, vinLostActs_trusted htrust (by rw [raise_power]; exact hheld) (by rw [raise_power]; exact hhard), lossSeen]

theorem vinStaysLost_absent (hp : s.packCondition = 0) : ∃ v, vinStaysLost s ov same = collapse v ∧ v.inEmergency = false
    ∧ v.power = { (vinFalls s ov).power with hardReset := false } := by
  obtain ⟨hstep, -, hwait, -⟩ := State.parts_of_up hu
  have hcond : (raise (vinFalls s ov) 493).packCondition = 0 := by
    rw [State.packCondition, raise_get _ _ (by decide) (by decide), (vinFalls_frame s ov).get]
    exact hp
  have haocb : (lossSeen s ov).aocb = s.aocb := (lossSeen_frame s ov).only .aocb (by decide)
  have hact := vinLostActs_absent hcond (by rw [raise_power]; exact hstep) same
  rw [← lossSeen] at hact
  refine ⟨_, (vinStaysLost_up hj hu he ov same).trans hact, State.inEmergency_eq_false.mpr ⟨?_, ?_⟩, ?_⟩
  · cases same <;> exact (congrArg Power.emergWait (lossSeen_power s ov)).trans hwait
  · cases same <;> exact fun h => he ((congrArg Aocb.pstate haocb).symm.trans h)
  · cases same <;> exact congrArg (fun p : Power => { p with hardReset := false }) (lossSeen_power s ov)

end

/-! ### VIN_RETURNED on the pack (R81, R99) -/

@[simp] theorem setLossDur_emergWait (s : State) (us : Nat) : (setLossDur s us).power.emergWait = s.power.emergWait := rfl

@[simp] theorem setLossDur_hardReset (s : State) (us : Nat) : (setLossDur s us).power.hardReset = s.power.hardReset := rfl

@[simp] theorem setLossDur_pstate (s : State) (us : Nat) : (setLossDur s us).aocb.pstate = s.aocb.pstate := rfl

@[simp] theorem setLossDur_onPack (s : State) (us : Nat) : (setLossDur s us).onPack = s.onPack := rfl

@[simp] theorem raise_onPack (s : State) (e : Nat) : (raise s e).onPack = s.onPack := by
  rw [State.onPack, raise_get _ _ (by decide) (by decide), State.onPack]

/-- A loss that the pack has carried is measured, its event raised, and VSYS goes back. -/
theorem actVinReturned_onPack {s : State} (hu : s.up = true) (hv : s.power.vaonValid = true) (hl : s.power.vinLost = true) (hp : s.onPack = true)
    (he : s.aocb.pstate ≠ .emergency) (us : Nat) :
    actVinReturned us s = offPack (raise (setLossDur { s with power := { s.power with vinLost := false, vinOv := false } } us) 494) := by
  obtain ⟨hstep, hhard, hwait, -⟩ := State.parts_of_up hu
  have honPack (p : Power) : ({ s with power := p } : State).onPack = true := hp
  rw [actVinReturned, if_neg (by simp [hl])]
  dsimp only
  rw [if_neg (by simp [hv, hstep]), if_neg (by simp [hstep]), if_neg (by simp [hwait]), if_neg (by simp [he]),
    if_pos (by simp [honPack, hhard])]

end Sys2Proof.Machine

namespace Sys2Proof

open Machine

section
variable {s : State}

/-! ### VIN_LOST -/

/-- A loss that is not judged moves the comparators' flags, and over-voltage turns INSW off. -/
theorem Does.vinLost_unjudged (h : s.judgesVin = false) (ov same : Bool) :
    Does (.vinLost ov none same) s [.power] fun t =>
      t.power = { s.power with vinLost := true, vinOv := s.power.vinOv || ov, insw := s.power.insw && !ov } :=
  .of_observed (m := [.power]) (congrArg observed (vinStaysLost_unjudged h ov same)) (vinFalls_frame s ov) (by decide) (immediates_power _)

theorem Does.vinLost_ontoPack (hc : Canonical s) (hu : s.up = true) (hj : s.judgesVin = true) (ht : s.trusted = true) (he : s.aocb.pstate ≠ .emergency)
    (ov same : Bool) :
    Does (.vinLost ov none same) s [.od, .power, .log, .link, .sched, .pack] fun t =>
      t.power = { (vinFalls s ov).power with insw := false, batg := true, interruption := true } ∧ t.get 0x2010 4 = 1 := by
  refine .of_observed (m := [.od, .power, .log, .link, .sched, .pack]) (congrArg observed (vinStaysLost_trusted hj hu he ov same ht)) ?_ (by decide) ⟨?_, ?_⟩
  · exact ((lossSeen_frame s ov).mono (by decide)).trans (ontoPack_frame _)
  · rw [immediates_power, ontoPack_power, lossSeen_power]
  · rw [immediates_get, ontoPack_source ((lossSeen_frame s ov).keeps hc)]

theorem vinLost_collapses (hu : s.up = true) (hj : s.judgesVin = true) (hp : s.packCondition = 0) (he : s.aocb.pstate ≠ .emergency) (ov same : Bool) :
    ∃ t, exec (.vinLost ov none same) s = .next t ∧ t.pending = s.pending ∧ t.power.batg = false ∧ t.power.insw = !(s.power.vinOv || ov)
      ∧ t.power.writesStopped = true ∧ t.power.lossQual = (if s.power.vinOv || ov then 2 else 1) ∧ t.aocb.target = .emergency
      ∧ t.power.pendingRecords = s.power.pendingRecords ++ [(.emergency, none)] ∧ t.store.job = none := by
  obtain ⟨v, hact, hin, hpower⟩ := vinStaysLost_absent hj hu he ov same hp
  have ht : (immediates (collapse v)).power = _ := (immediates_power _).trans (collapse_power hin)
  rw [hpower] at ht
  refine ⟨_, congrArg observed hact, ?_, by rw [ht], by rw [ht]; rfl, by rw [ht], by rw [ht]; rfl, ?_, by rw [ht]; rfl, ?_⟩
  · rw [immediates_pending, ← hact]
    exact (vinStaysLost_frame s ov same).only .pending (by decide)
  · rw [immediates_aocb, collapse_target hin]
  · rw [immediates_store, collapse_job hin]

theorem Does.vinLost_again (hj : s.judgesVin = true) (he : s.aocb.pstate = .emergency) (hw : s.power.emergWait = false) (ov same : Bool) :
    Does (.vinLost ov none same) s [.od, .sched, .power] fun t => t.power =
      { s.power with vinLost := true, vinOv := s.power.vinOv || ov, insw := s.power.insw && !ov
                     pendingRecords := s.power.pendingRecords ++ [(.emergency, none)] } := by
  refine .of_observed (m := [.od, .sched, .power]) (congrArg observed (vinStaysLost_again hj he hw ov same)) ?_ (by decide) ?_
  · exact ((vinFalls_frame s ov).mono (by decide)).trans (((raise_frame _ _).mono (by decide)).trans ((lossEnds_frame _ _).mono (by decide)))
  · rw [immediates_power, lossEnds, raise_power]
    rfl

/-- A loss ridden through on the hold-up is measured, and recorded (R99). -/
theorem Does.vinLost_heldUp (hj : s.judgesVin = true) (he : s.inEmergency = false) (hc : s.collapses = true) (ov : Bool) (us : Fin 5) (same : Bool) :
    Does (.vinLost ov (some us) same) s [.od, .power, .aocb, .log, .link, .sched] fun t =>
      t.aocb = { s.aocb with lossDur := us.val }
      ∧ t.power = { s.power with pendingRecords := s.power.pendingRecords.map fun r => (r.1, some (r.2.getD us.val)) } := by
  have hact : actVinLost ov (some us) same s = ridesHoldUp s us.val := by simp [actVinLost, hj, he, hc]
  have hus : satNat 32 us.val = us.val := by
    have := us.isLt
    simp only [satNat]
    omega
  have hlog (u : State) : (logInterruption u .onHoldup).power = u.power ∧ (logInterruption u .onHoldup).aocb = u.aocb :=
    ⟨(logInterruption_frame u _).only .power (by decide), (logInterruption_frame u _).only .aocb (by decide)⟩
  refine .of_observed (m := [.od, .power, .aocb, .log, .link, .sched]) (congrArg observed hact) (ridesHoldUp_frame ..) (by decide) ⟨?_, ?_⟩
  · rw [immediates_aocb, ridesHoldUp, (hlog _).2, raise_aocb, raise_aocb, setLossDur, hus]
  · rw [immediates_power, ridesHoldUp, (hlog _).1, raise_power, raise_power, setLossDur, hus]

/-! ### The end of over-voltage, and VIN returned -/

/-- The end of an over-voltage turns INSW on where it feeds VSYS (R109). -/
theorem Does.vinOvervoltageFall (h : s.power.vinOv = true) :
    Does .vinOvervoltageFall s [.power] fun t => t.power.vinOv = false
      ∧ (s.power.vaonValid = true → s.power.batg = false → s.aocb.pstate ≠ .ship → s.get 0x2010 4 = 0 ∨ s.get 0x2010 4 = 2 → t.power.insw = true)
      ∧ (s.get 0x2010 4 = 1 → t.power.insw = s.power.insw) := by
  refine .of_observed (m := [.power]) (u := actVinOvervoltageFall s) rfl (actVinOvervoltageFall_frame s) (by decide) ?_
  rw [immediates_power, actVinOvervoltageFall, if_neg (by simp [h])]
  refine ⟨rfl, fun hv hb hs hsrc => ?_, fun hsrc => ?_⟩
  · rcases hsrc with hsrc | hsrc <;> simp [hv, hb, hs, hsrc]
  · simp [hsrc]

theorem Does.vinReturned_offPack (hu : s.up = true) (hv : s.power.vaonValid = true) (hl : s.power.vinLost = true) (hp : s.onPack = true)
    (he : s.aocb.pstate ≠ .emergency) (us : Nat) :
    Does (.vinReturned us) s [.od, .power, .aocb, .log, .link, .sched, .seq, .pack] fun t =>
      t.aocb.lossDur = satNat 32 us ∧ t.power.insw = true ∧ t.power.batg = false ∧ t.power.vinLost = false ∧ t.power.interruption = false
        ∧ t.power.step = .firmware := by
  obtain ⟨hstep, -⟩ := State.parts_of_up hu
  have haocb (u : State) : (offPack u).aocb = u.aocb := (offPack_frame u).only .aocb (by decide)
  refine .of_observed (m := [.od, .power, .aocb, .log, .link, .sched, .seq, .pack]) (congrArg observed (actVinReturned_onPack hu hv hl hp he us)) ?_ (by decide) ?_
  · exact .trans (.app (raise_frame ..) (by decide) (.app (setLossDur_frame ..) (by decide) (.update (.refl _ s)))) ((offPack_frame _).mono (by decide))
  · rw [immediates_aocb, immediates_power, haocb, offPack_power, raise_aocb, raise_power]
    exact ⟨rfl, rfl, rfl, rfl, rfl, hstep⟩

theorem actVinReturned_self (h : s.power.vinLost = false) (us : Nat) : actVinReturned us s = s := by simp [actVinReturned, h]

/-! ### The end of the emergency order, and VSYS under-voltage -/

/-- With VIN still lost the device rests in EMERGENCY, its domains in reset (R98). -/
theorem emergencyOrderEnd_waits (he : s.aocb.pstate = .emergency) (hw : s.power.emergWait = false) (hr : s.seq.run = none) (hpar : s.seq.parallel = true)
    (hd : s.railsDown = true) (hl : s.power.vinLost = true) :
    ∃ t, exec .emergencyOrderEnd s = .next (immediates t) ∧ t.pending = s.pending ∧ t.power.emergWait = true ∧ t.aocb.pstate = .emergency
      ∧ t.power.watchdog.armed = false ∧ t.tabor = Tabor.reset ∧ t.mem = Mem.reset ∧ t.store.slots = s.store.slots := by
  obtain ⟨n, haocb⟩ := resetDomains_aocb s false
  refine exists_observed (u := actEmergencyOrderEnd s) rfl (actEmergencyOrderEnd_frame s) ?_
  rw [actEmergencyOrderEnd, if_neg (by simp [he, hw, hr, hpar, hd]), if_neg (by simp [hl])]
  refine ⟨rfl, ?_, rfl, rfl, rfl, resetDomains_slots s false⟩
  change (resetDomains s false).aocb.pstate = _
  rw [haocb]
  exact he

theorem actEmergencyOrderEnd_self (h : s.aocb.pstate ≠ .emergency ∨ s.seq.run.isSome = true) : actEmergencyOrderEnd s = s := by
  unfold actEmergencyOrderEnd
  rcases h with h | h <;> simp [h]

/-- VSYS below its lockout stops the self-bucks and holds the domains in reset, with VSYS from neither source (R86). -/
theorem vsysUvlo_resets (hc : Canonical s) (hv : s.power.vaonValid = true) (hu : s.power.uvlo = false) :
    ∃ t, exec .vsysUvlo s = .next (immediates t) ∧ t.pending = s.pending ∧ t.power.uvlo = true ∧ t.power.selfBuck = .stopped ∧ t.power.batg = false
      ∧ t.power.watchdog.armed = false ∧ t.tabor = Tabor.reset ∧ t.mem = Mem.reset ∧ t.get 0x2010 4 = 3 := by
  refine exists_observed (u := actVsysUvlo s) rfl (actVsysUvlo_frame s) ?_
  rw [actVsysUvlo, if_neg (by simp [hv, hu])]
  extract_lets p rests u v q
  have hcu : Canonical u := by
    unfold u
    split <;> exact hc
  obtain ⟨-, hwf, -⟩ := (resetDomains_frame u false).keeps hcu
  have hsource : v.get 0x2010 4 = 3 := State.get_set_same _ _ _ _ hwf
  split <;> exact ⟨rfl, rfl, rfl, rfl, rfl, rfl, hsource⟩

end

end Sys2Proof

open Sys2Proof Machine

/-- Settles O9, by whether the loss is judged, what the pack then is, and how the loss, the order or the supply ends. -/
theorem inputLossAndReturn : Obligations.InputLossAndReturn := by
  intro s
  refine ⟨?unjudged, ?ontoPack, ?collapses, ?again, ?heldUp, ?ovFall, ?offPack, ?notLost, ?orderEnd, ?notDue, ?uvlo⟩
  case unjudged =>
    intro ov same h
    refine .vinLost_unjudged ?_ ov same
    rcases h with h | h | h | h | h <;> simp [State.judgesVin, h]
  case ontoPack =>
    intro ov same hc hu hj ht he
    obtain ⟨t, hx, hq, ho, hp, hsrc⟩ := (Does.vinLost_ontoPack hc hu hj ht he ov same).exists_next
    have hcan := congrArg Can.nmt (ho .can (by decide))
    exact ⟨t, hx, hq, by rw [hp], by rw [hp], by rw [hp]; rfl, by rw [hp]; rfl, ho .aocb (by decide), by rw [hp], by rw [hp]; rfl,
      ho .tabor (by decide), ho .reg (by decide), hcan, hsrc⟩
  case collapses =>
    intro ov same _ hu hj hp he
    exact vinLost_collapses hu hj hp he ov same
  case again =>
    intro ov same hj he hw
    exact .vinLost_again hj he hw ov same
  case heldUp =>
    intro ov us same hj he hc
    exact .vinLost_heldUp hj he hc ov us same
  case ovFall => exact .vinOvervoltageFall
  case offPack =>
    intro us _ hu hv hl hp he
    obtain ⟨t, hx, hq, ho, hdur, hinsw, hbatg, hlost, hint, hstep⟩ := (Does.vinReturned_offPack hu hv hl hp he us).exists_next
    exact ⟨t, hx, hq, hinsw, hbatg, hlost, hint, hdur, hstep, ho .tabor (by decide), ho .reg (by decide)⟩
  case notLost =>
    intro us h
    exact .of_observed_self (u := actVinReturned us s) rfl (actVinReturned_self h us)
  case orderEnd =>
    intro _ he hw hr hpar hd hl
    exact emergencyOrderEnd_waits he hw hr hpar hd hl
  case notDue =>
    intro h
    exact .of_observed_self (u := actEmergencyOrderEnd s) rfl (actEmergencyOrderEnd_self h)
  case uvlo => exact vsysUvlo_resets

end

section
/-!
SUPPORT. A transmission whose end queues another frame: with the transmit error counter down to 127 an ERROR_PASSIVE line is ERROR_ACTIVE again, and the error register
with it follows its conditions (R222, R236).
-/

namespace Sys2Proof.Machine

/-- The frame of a heartbeat on line A. -/
def waitingHeartbeat : TxFrame := ⟨.heartbeat, classic 0x705 [0x7F], true, false, false, false⟩

/-- Pre-operational as node 5, with line A ERROR_PASSIVE at a transmit error counter of 128, one heartbeat waiting, and 0x1001 as the warning of a rail left it, which has
ended since. -/
def passiveLine : State :=
  { (((State.reset.set 0x2021 4 5).set 0x2022 1 2).set 0x2022 2 128).set 0x1001 0 5 with
    clocks := { State.reset.clocks with pllA := true }
    can := { Can.reset with started := true, nmt := .preOp, txq := [waitingHeartbeat] } }

theorem passiveLine_canonical : Canonical passiveLine := by decide +kernel

theorem passiveLine_lineRuns : passiveLine.lineRuns .A = true := by decide +kernel

theorem passiveLine_maySend : passiveLine.mayNotSend waitingHeartbeat = false := by decide +kernel

/-- The heartbeat leaves the queue, and the error reset takes its place. -/
theorem passiveLine_transmits : (actCanTransmitComplete .A 0 passiveLine).can.txq.map (·.kind) = [.emcy] := by decide +kernel

/-- The transmission leaves the device pre-operational. -/
theorem passiveLine_stays : (actCanTransmitComplete .A 0 passiveLine).can.nmt = .preOp := by decide +kernel

/-- The state that the heartbeat's transmission leaves, in full: no IMMEDIATE TPDO follows it. -/
theorem exec_passiveLine : exec (.canTransmitComplete .A 0) passiveLine = .next (actCanTransmitComplete .A 0 passiveLine) := by
  change observed (actCanTransmitComplete .A 0 passiveLine) = _
  rw [observed, immediates_of_not_operational (by simp [passiveLine_stays])]

end Sys2Proof.Machine

open Sys2Proof Machine

/-- Refutes O24: outside operational a transmission's end may queue an EMCY. It takes the transmit error counter to 127, ERROR_PASSIVE ends, and with the line's state the
error register is judged again: no condition is left, and the error reset 0x0000 waits where the queue should be empty. -/
theorem not_pdoEvents : ¬ Obligations.PdoEvents := by
  unfold Obligations.PdoEvents
  intro h
  obtain ⟨-, -, -, -, -, -, -, -, -, -, -, hcomplete, -⟩ := h passiveLine passiveLine_canonical
  obtain ⟨t, hx, -, -, -, -, hq⟩ := hcomplete .A 0 waitingHeartbeat passiveLine_lineRuns rfl passiveLine_maySend rfl rfl (by decide)
  have ht : t = actCanTransmitComplete .A 0 passiveLine := Host.Outcome.next.inj (hx.symm.trans exec_passiveLine)
  have hempty : t.can.txq = [] := hq (by decide)
  have hkinds := passiveLine_transmits
  rw [← ht, hempty] at hkinds
  exact absurd hkinds (by decide)

end

section
/-!
SUPPORT. The boundaries between phases and the apply of the frame configuration: what each leaves of the downbeat's state (R113, R114, R118, R228, R448, R701).
-/

namespace Sys2Proof

open Machine

/-! ### A frame without the CAN port leaves its modes -/

section
variable {l : List Part} {s t : State} (h : Only l s t) (hl : Part.can ∉ l := by decide)
include h hl

theorem Only.nmt : t.can.nmt = s.can.nmt := by
  have hnmt := congrArg Can.nmt (h .can hl)
  exact hnmt

theorem Only.guard : t.can.guard = s.can.guard := by
  have hguard := congrArg Can.guard (h .can hl)
  exact hguard

theorem Only.window : t.can.window = s.can.window := by
  have hwindow := congrArg Can.window (h .can hl)
  exact hwindow

end

end Sys2Proof

namespace Sys2Proof.Machine

/-! ### The phase alone changes (R114) -/

theorem raise_beat (s : State) (e : Nat) : (raise s e).beat = s.beat := (raise_frame s e).only .beat (by decide)

theorem scanBegins_beat (s : State) : (scanBegins s).beat = { s.beat with phase := .scan } := by
  unfold scanBegins
  extract_lets u
  have hu : u.beat = s.beat := by
    unfold u
    split
    · split
      · exact (measureNoise_frame ..).only .beat (by decide)
      · rfl
    · rfl
  rw [raise_beat, beginPhase, hu]

/-- SCAN is complete where every result of the profile's scan has come (R118). -/
theorem processBegins_beat (s : State) (d : Int) : (processBegins s d).beat = { s.beat with
    phase := .process
    scanDone := match s.profile with
      | some p => s.touchRuns && decide (s.touch.image.length = s.expected (s.scan p))
      | none => false } := by
  have hh : (handover (beginPhase s .process) d).beat = { s.beat with phase := .process } := (handover_frame ..).only .beat (by decide)
  unfold processBegins
  extract_lets whole u
  exact (raise_beat _ _).trans (congrArg (fun b : Beat => { b with scanDone := whole }) hh)

theorem deliverReport_beat (s : State) : (deliverReport s).beat = { s.beat with reportDone := s.beat.reportDone || s.touch.report.isSome } := by
  unfold deliverReport
  split
  next h => simp [h]
  next l h =>
    have hd : (deliver s l).beat = s.beat := (deliver_frame s l).only .beat (by decide)
    simp [h, raise_beat, hd]

theorem deliverReport_report (s : State) : (deliverReport s).touch.report = none := by
  unfold deliverReport
  split
  next h => exact h
  next => rfl

theorem reportBegins_beat (s : State) :
    (reportBegins s).beat = { s.beat with phase := .report, reportDone := s.beat.reportDone || s.touch.report.isSome } := by
  have hw (u : State) : (openWindow u).beat = u.beat := (openWindow_frame u).only .beat (by decide)
  rw [reportBegins, hw, raise_beat, deliverReport_beat]
  rfl

theorem reportBegins_report (s : State) : (reportBegins s).touch.report = none := by
  have hw (u : State) : (openWindow u).touch = u.touch := (openWindow_frame u).only .touch (by decide)
  have hr (u : State) : (raise u 459).touch = u.touch := (raise_frame u 459).only .touch (by decide)
  rw [reportBegins, hw, hr, deliverReport_report]

theorem quietBegins_beat (s : State) : (quietBegins s).beat = { s.beat with phase := .quiet } := by
  have hw (u : State) : (closeWindow u).beat = u.beat := (closeWindow_frame u).only .beat (by decide)
  rw [quietBegins, raise_beat, markEligible, hw]
  rfl

/-! ### Which phase begins (R114) -/

section
variable {s : State} (hr : s.beat.running = true) (hp : s.clocks.pllA = true) (d : Int)
include hr hp

theorem actPhaseBoundary_scan (h : s.beat.phase = .listen) : actPhaseBoundary .scan d s = scanBegins s := by simp [actPhaseBoundary, hr, hp, h]

theorem actPhaseBoundary_process (h : s.beat.phase = .scan) : actPhaseBoundary .process d s = processBegins s d := by
  simp [actPhaseBoundary, hr, hp, h]

theorem actPhaseBoundary_report (h : s.beat.phase = .process) : actPhaseBoundary .report d s = reportBegins s := by
  simp [actPhaseBoundary, hr, hp, h]

theorem actPhaseBoundary_quiet (h : s.beat.phase = .report) : actPhaseBoundary .quiet d s = quietBegins s := by
  simp [actPhaseBoundary, hr, hp, h]

end

/-- A boundary that is not the next in order changes nothing. -/
theorem actPhaseBoundary_self {s : State} {p : Phase}
    (h : s.beat.running = false ∨ (s.beat.phase, p) ∉ [(Phase.listen, Phase.scan), (.scan, .process), (.process, .report), (.report, .quiet)]) (d : Int) :
    actPhaseBoundary p d s = s := by
  unfold actPhaseBoundary
  rcases h with h | h
  · simp [h]
  · split
    · rfl
    · split
      all_goals simp_all

/-! ### The PDO windows (R228) -/

theorem sendInWindow_window (s : State) (n : Nat) (d : List Nat) : (sendInWindow s n d).can.window = s.can.window := by
  simp only [sendInWindow]
  split <;> rfl

theorem openFor_window (s : State) (n : Nat) : (openFor s n).can.window = s.can.window := by
  simp only [openFor]
  split
  · rfl
  · split
    · split
      · rfl
      · exact sendInWindow_window ..
    · split
      · rfl
      · split
        · rfl
        · exact sendInWindow_window ..

/-- In operational, without the guard, the windows of the frame open. -/
theorem openWindow_window {s : State} (h : s.can.nmt = .operational) (hg : s.can.guard = false) : (openWindow s).can.window = true := by
  have hfold (l : List Nat) (u : State) : (l.foldl openFor u).can.window = u.can.window := by
    induction l generalizing u with
    | nil => rfl
    | cons n l ih => rw [List.foldl_cons, ih, openFor_window]
  rw [openWindow, if_neg (by simp [h, hg]), hfold]

theorem reportBegins_window {s : State} (h : s.can.nmt = .operational) (hg : s.can.guard = false) : (reportBegins s).can.window = true := by
  have hm : Moves [.od, .beat, .link, .mem, .sched, .touch] s (raise (deliverReport (beginPhase s .report)) 459) :=
    .app (raise_frame ..) (by decide) (.app (deliverReport_frame ..) (by decide) ((beginPhase_frame s .report).mono (by decide)))
  exact openWindow_window (hm.only.nmt.trans h) (hm.only.guard.trans hg)

theorem closeWindow_window (s : State) : (closeWindow s).can.window = false := by
  unfold closeWindow
  split
  next h => simpa using h
  next => rfl

theorem quietBegins_window (s : State) : (quietBegins s).can.window = false := by
  have hr (u : State) : (raise u 460).can.window = u.can.window := (raise_frame u 460).only.window
  rw [quietBegins, hr]
  exact closeWindow_window _

theorem immediates_window (s : State) : (immediates s).can.window = s.can.window := (immediates_only s).window

/-- A window that closes counts what it withdraws, and no other object's value changes. -/
theorem closeWindow_get (s : State) {i n : Nat} (hi : 0x2102 ≠ i) (hn : n < 256) : (closeWindow s).get i n = s.get i n := by
  unfold closeWindow
  split
  · rfl
  · exact State.get_set_of_index_ne _ _ hi (by decide) hn

/-! ### The slices eligible for self-test (R701) -/

/-- A sum of bits at the places from 0 on is below the next place's value. -/
theorem sum_bits_lt (f : Nat → Bool) (n : Nat) : ((List.range n).map fun k => b2n (f k) <<< k).sum < 2 ^ n := by
  induction n with
  | zero => simp
  | succ n ih =>
    have hb : b2n (f n) <<< n ≤ 2 ^ n := by cases f n <;> simp [b2n, Nat.shiftLeft_eq]
    simp only [List.range_succ, List.map_append, List.sum_append, List.map_cons, List.map_nil, List.sum_cons, List.sum_nil]
    omega

/-- Each bit of such a sum is the one put there. -/
theorem bit_sum_bits (f : Nat → Bool) {n k : Nat} (hk : k < n) : bit ((List.range n).map fun k => b2n (f k) <<< k).sum k = f k := by
  induction n with
  | zero => omega
  | succ n ih =>
    have hlt := sum_bits_lt f n
    have hsum : ((List.range (n + 1)).map fun k => b2n (f k) <<< k).sum
        = 2 ^ n * b2n (f n) + ((List.range n).map fun k => b2n (f k) <<< k).sum := by
      simp [List.range_succ, Nat.shiftLeft_eq, Nat.mul_comm, Nat.add_comm]
    rw [hsum, bit, Nat.testBit_two_pow_mul_add _ hlt]
    by_cases h : k < n
    · rw [if_pos h]
      exact ih h
    · obtain rfl : k = n := by omega
      cases f k <;> simp [b2n]

/-- Whether a slice may be tested depends on the modes in force, the self-test, the sense path, the rotation's flags and the active line. -/
theorem sliceEligible_congr {s t : State} (k : Nat) (hlive : t.live = s.live) (haocb : t.aocb = s.aocb) (htest : t.test = s.test)
    (hsense : t.sense = s.sense) (hflags : t.get 0x3000 10 = s.get 0x3000 10) (hline : t.get 0x2025 1 = s.get 0x2025 1) :
    t.sliceEligible k = s.sliceEligible k := by
  simp only [State.sliceEligible, State.touchState, State.touchDegraded, State.lineQuiet, State.lineInUse, State.inForce, State.activeLine, State.flag,
    hlive, haocb, htest, hsense, hflags, hline]

/-- QUIET marks the slices that are eligible as it begins. -/
theorem quietBegins_test (s : State) :
    ∃ n, (quietBegins s).test = { s.test with eligible := n } ∧ ∀ k, k < 7 → bit n k = s.sliceEligible k := by
  have hm : Moves [.od, .beat, .can, .pdo] s (closeWindow (beginPhase s .quiet)) :=
    .app (closeWindow_frame ..) (by decide) ((beginPhase_frame s .quiet).mono (by decide))
  have hr (u : State) : (raise u 460).test = u.test := (raise_frame u 460).only .test (by decide)
  refine ⟨_, ?_, fun k hk => (bit_sum_bits (closeWindow (beginPhase s .quiet)).sliceEligible hk).trans ?_⟩
  · rw [quietBegins, hr, markEligible, hm.only .test (by decide)]
  · exact sliceEligible_congr k (hm.only .live (by decide)) (hm.only .aocb (by decide)) (hm.only .test (by decide)) (hm.only .sense (by decide))
      (closeWindow_get _ (by decide) (by decide)) (closeWindow_get _ (by decide) (by decide))

/-! ### The frame configuration (R113) -/

/-- A frame configuration that passes is within the limits of Table 4.2. -/
theorem State.limits_of_frameOk {s : State} (h : s.frameOk = true) :
    s.get 0x2100 3 < s.get 0x2100 1 ∧ 500 ≤ s.get 0x2100 2 * s.get 0x2100 1 ∧ s.get 0x2100 2 * s.get 0x2100 1 ≤ 1280000
      ∧ s.get 0x2100 4 ≤ 200 ∧ 100 ≤ s.get 0x2100 5 ∧ s.get 0x2100 5 ≤ 900 ∧ 50 ≤ s.get 0x2100 6 ∧ s.get 0x2100 6 ≤ 500 ∧ 50 ≤ s.get 0x2100 7
      ∧ s.get 0x2100 7 ≤ 500 ∧ s.get 0x2100 4 + s.get 0x2100 5 + s.get 0x2100 6 + s.get 0x2100 7 + 20 ≤ 1000 := by
  have hsum : s.stagedShares.sum = s.get 0x2100 4 + s.get 0x2100 5 + s.get 0x2100 6 + s.get 0x2100 7 := by
    simp [State.stagedShares, Nat.add_assoc]
  have hnth : nth s.stagedShares 0 0 = s.get 0x2100 4 ∧ nth s.stagedShares 1 0 = s.get 0x2100 5 ∧ nth s.stagedShares 2 0 = s.get 0x2100 6
      ∧ nth s.stagedShares 3 0 = s.get 0x2100 7 := ⟨rfl, rfl, rfl, rfl⟩
  obtain ⟨h4, h5, h6, h7⟩ := hnth
  simp only [State.frameOk, quietShare, hsum, h4, h5, h6, h7, Bool.and_eq_true, decide_eq_true_eq] at h
  omega

end Sys2Proof.Machine

open Sys2Proof Machine

/-- Settles O15, boundary by boundary: what the phase that begins does leaves the downbeat's state but for the phase, and what is judged or delivered with it. -/
theorem phasesAndConfiguration : Obligations.PhasesAndConfiguration := by
  intro s hp
  refine ⟨?scan, ?process, ?report, ?quiet, ?other, ?apply, State.limits_of_frameOk⟩
  case scan =>
    intro d hr hq
    exact .of_observed (congrArg observed (actPhaseBoundary_scan hr hp d hq)) (scanBegins_frame s) (by decide)
      ((immediates_beat _).trans (scanBegins_beat s))
  case process =>
    intro d hr hq
    exact .of_observed (congrArg observed (actPhaseBoundary_process hr hp d hq)) (processBegins_frame s d) (by decide)
      ((immediates_beat _).trans (processBegins_beat s d))
  case report =>
    intro d hr hq
    refine .of_observed (congrArg observed (actPhaseBoundary_report hr hp d hq)) (reportBegins_frame s) (by decide) ⟨?_, ?_, fun hn hg => ?_⟩
    · rw [immediates_beat, reportBegins_beat]
    · rw [immediates_touch, reportBegins_report]
    · rw [immediates_window, reportBegins_window hn hg]
  case quiet =>
    intro d hr hq
    refine .of_observed (congrArg observed (actPhaseBoundary_quiet hr hp d hq)) (quietBegins_frame s) (by decide) ⟨?_, ?_, ?_⟩
    · rw [immediates_beat, quietBegins_beat]
    · rw [immediates_window, quietBegins_window]
    · rw [immediates_test]
      exact quietBegins_test s
  case other =>
    intro p d h
    exact .of_observed (m := []) (congrArg observed (actPhaseBoundary_self h d)) (.refl _ s) (by decide) (immediates_beat s)
  case apply =>
    intro p h
    have hx : exec (.applyFrameConfiguration p) s = observed ((applyFrame s).1.reply p (applyFrame s).2 []) :=
      congrArg observed (portCommand_ok h)
    refine .of_observed (m := [.replies, .beat]) hx (.app (State.reply_frame ..) (by decide) ((applyFrame_frame s).mono (by decide))) (by decide) ?_
    rw [immediates_beat, immediates_replies]
    unfold applyFrame
    dsimp only
    split <;> exact ⟨rfl, rfl⟩

end

section
/-!
SUPPORT. The downbeat: the length of a frame, a frame configuration that comes into force, the count of a frame, and what the rest of the downbeat leaves of the
downbeat's state, of the power path and of touch (R113, R114, R117, R119, R121, R126, R128).
-/

namespace Sys2Proof.Machine

/-! ### Values in force -/

theorem State.inForce_setInForce_same (s : State) (i n v : Nat) (h : Values.wf s.live = true) : (s.setInForce i n v).inForce i n = v := by
  simp only [Values.wf, sparseWf, Bool.and_eq_true] at h
  exact sparseGet_set_same _ _ _ _ h.1

theorem State.inForce_setInForce_other (s : State) {i m n : Nat} (v : Nat) (hm : m < 256) (hn : n < 256) (h : m ≠ n) :
    (s.setInForce i m v).inForce i n = s.inForce i n :=
  sparseGet_set_other _ _ _ _ _ _ (by rw [Ne, key_inj hm hn]; simp [h])

/-- A list that comes into force gives each sub-index from the first on its value. -/
theorem State.inForce_putInForce {s : State} (h : Values.wf s.live = true) (i first : Nat) {l : List Nat} (hl : first + l.length ≤ 256) {k : Nat}
    (hk : k < l.length) : (s.putInForce i first l).inForce i (first + k) = nth l k 0 := by
  have hput (l : List Nat) : ∀ (o : Nat) (u : State), Values.wf u.live = true → first + o + l.length ≤ 256 →
      ∀ k, k < o + l.length → ((l.zipIdx o).foldl (fun t e => t.setInForce i (first + e.2) e.1) u).inForce i (first + k)
        = if k < o then u.inForce i (first + k) else nth l (k - o) 0 := by
    induction l with
    | nil =>
      intro o u _ _ k hk
      rw [if_pos (by simpa using hk)]
      rfl
    | cons a l ih =>
      intro o u hu ho k hk
      simp only [List.length_cons] at ho hk
      rw [List.zipIdx_cons, List.foldl_cons, ih (o + 1) _ (u.setInForce_wf i _ a hu) (by omega) k (by omega)]
      rcases Nat.lt_trichotomy k o with hlt | rfl | hgt
      · rw [if_pos (by omega), if_pos hlt, u.inForce_setInForce_other a (by omega) (by omega) (by omega)]
      · rw [if_pos (by omega), if_neg (by omega), u.inForce_setInForce_same i _ a hu, Nat.sub_self]
        rfl
      · rw [if_neg (by omega), if_neg (by omega), show k - o = k - (o + 1) + 1 by omega]
        rfl
  have hk' := hput l 0 s h (by omega) k (by omega)
  rwa [if_neg (by omega)] at hk'

/-! ### The lock state changes (R120) -/

theorem setLock_beat (s : State) (n : Nat) : ∃ a, (setLock s n).beat = { s.beat with acquired := a } := by
  have hlog (u : State) (old : Nat) : (logVerbose (raiseVector (raise u 462) 266) 0x2101 3 old n).beat = u.beat := by
    have hm : Moves [.od, .log, .link, .sched] u (logVerbose (raiseVector (raise u 462) 266) 0x2101 3 old n) :=
      .app (logVerbose_frame ..) (by decide) (.app (raiseVector_frame ..) (by decide) ((raise_frame ..).mono (by decide)))
    exact hm.only .beat (by decide)
  unfold setLock
  extract_lets old u v w b x
  have hw : w.beat = s.beat := by
    unfold w v
    split <;> split <;> rfl
  split
  · exact ⟨_, rfl⟩
  · rw [hlog]
    unfold x
    split
    · exact ⟨true, congrArg (fun b : Beat => { b with acquired := true }) hw⟩
    · exact ⟨_, hw⟩

/-- The lock state is the one entered. -/
theorem setLock_lock {s : State} (h : Canonical s) (n : Nat) : (setLock s n).lock = n := by
  obtain ⟨-, hod, -⟩ := h
  have hlog (u : State) (old : Nat) : (logVerbose (raiseVector (raise u 462) 266) 0x2101 3 old n).lock = u.lock := by
    rw [State.lock, logVerbose_get (by decide) (by decide), raiseVector_get _ (by decide) (by decide) (by decide), raise_get _ _ (by decide) (by decide),
      State.lock]
  have hflag (u : State) (k : Nat) : (u.setFlag 0x2101 4 k false).lock = u.lock := u.get_set_other (by decide) (by decide) (by decide)
  unfold setLock
  extract_lets old u v w b x
  have hu : u.lock = n := s.get_set_same 0x2101 3 n hod
  have hv : v.lock = n := by
    unfold v
    split
    · rw [hflag, hu]
    · exact hu
  have hw : w.lock = n := by
    unfold w
    split
    · rw [hflag, hv]
    · exact hv
  split
  next h => exact h
  next =>
    rw [hlog]
    unfold x
    split <;> exact hw

/-! ### A frame configuration comes into force (R113, R128) -/

theorem frameInForce_of_none {s : State} (h : s.beat.applySet = none) : frameInForce s = s := by rw [frameInForce, h]

/-- The checked set in force, before the lock answers to it. -/
def configured (s : State) (l : List Nat) : State :=
  let u := (s.putInForce 0x2100 1 l).set 0x2100 9 (quietShare ((l.drop 3).take 4))
  { u with beat := { u.beat with applySet := none } }

theorem configured_frame (s : State) (l : List Nat) : Moves [.od, .live, .beat] s (configured s l) :=
  .update (.app (State.set_frame ..) (by decide) ((State.putInForce_frame ..).mono (by decide)))

theorem configured_beat (s : State) (l : List Nat) : (configured s l).beat = { s.beat with applySet := none } := by
  have hbeat : (s.putInForce 0x2100 1 l).beat = s.beat := (State.putInForce_frame ..).only .beat (by decide)
  simp only [configured, State.set_beat, hbeat]

theorem configured_lock (s : State) (l : List Nat) : (configured s l).lock = s.lock :=
  (State.get_set_of_index_ne _ _ (by decide) (by decide) (by decide)).trans ((State.putInForce_frame ..).get 0x2101 3)

theorem frameInForce_of_some {s : State} {l : List Nat} (h : s.beat.applySet = some l) : frameInForce s =
    if s.lock = 1 || s.lock = 2 then setLock { configured s l with beat := { (configured s l).beat with drift := 0 } } 1 else configured s l := by
  rw [frameInForce, h, ← configured_lock s l]
  rfl

/-- What a frame configuration that comes into force leaves of the downbeat's state. -/
theorem frameInForce_beat (s : State) : ∃ set drift a, (frameInForce s).beat = { s.beat with applySet := set, drift := drift, acquired := a } := by
  cases h : s.beat.applySet with
  | none => exact ⟨s.beat.applySet, s.beat.drift, s.beat.acquired, by rw [frameInForce_of_none h]⟩
  | some l =>
    rw [frameInForce_of_some h]
    split
    · obtain ⟨a, ha⟩ := setLock_beat { configured s l with beat := { (configured s l).beat with drift := 0 } } 1
      exact ⟨none, 0, a, by rw [ha, configured_beat]⟩
    · exact ⟨none, s.beat.drift, s.beat.acquired, by rw [configured_beat]⟩

section
variable {s : State} {l : List Nat} (h : s.beat.applySet = some l)
include h

/-- The set in force is the one that was checked. -/
theorem frameInForce_inForce (hc : Canonical s) (hl : l.length = 7) {k : Nat} (hk : k < 7) :
    (frameInForce s).inForce 0x2100 (k + 1) = nth l k 0 := by
  have hlive : (frameInForce s).live = (s.putInForce 0x2100 1 l).live := by
    rw [frameInForce_of_some h]
    split
    · exact (setLock_frame ..).only .live (by decide)
    · rfl
  have hput := State.inForce_putInForce hc.2.2 0x2100 1 (l := l) (by omega) (k := k) (by omega)
  rw [Nat.add_comm k 1, State.inForce, hlive]
  exact hput

theorem frameInForce_applySet : (frameInForce s).beat.applySet = none := by
  rw [frameInForce_of_some h]
  split
  · obtain ⟨a, ha⟩ := setLock_beat { configured s l with beat := { (configured s l).beat with drift := 0 } } 1
    rw [ha, configured_beat]
  · rw [configured_beat]

/-- From ACQUIRE and LOCKED the lock acquires anew, without drift (R128). -/
theorem frameInForce_acquires (hc : Canonical s) (hlock : s.lock = 1 ∨ s.lock = 2) : (frameInForce s).lock = 1 ∧ (frameInForce s).beat.drift = 0 := by
  have hkeeps := (configured_frame s l).keeps hc
  rw [frameInForce_of_some h, if_pos (by simpa using hlock)]
  generalize configured s l = u at hkeeps
  have hmoves : Moves [.beat] u { u with beat := { u.beat with drift := 0 } } := setBeat_moves ..
  obtain ⟨a, ha⟩ := setLock_beat { u with beat := { u.beat with drift := 0 } } 1
  exact ⟨setLock_lock (hmoves.keeps hkeeps) 1, by rw [ha]⟩

end

/-! ### The length of a frame (R121) -/

/-- What a frame is shorter than nominal by, before its length is rounded. -/
def State.correction (s : State) : Rat := if s.lock = 0 || s.lock = 3 then 0 else clampRat ((s.nominal : Rat) / 200) (s.beat.drift + s.beat.residual)

theorem State.correction_bounds (s : State) : -((s.nominal : Rat) / 200) ≤ s.correction ∧ s.correction ≤ (s.nominal : Rat) / 200 := by
  have hf : (0 : Rat) ≤ (s.nominal : Rat) := Rat.natCast_nonneg
  unfold State.correction clampRat
  split <;> grind

/-- A rational that is not negative, rounded down to a natural number. -/
theorem toNat_floor_bounds {x : Rat} (h : 0 ≤ x) : (x.floor.toNat : Rat) ≤ x ∧ x < (x.floor.toNat : Rat) + 1 := by
  have hfloor : 0 ≤ x.floor := Rat.le_floor_iff.mpr h
  have hcast : (x.floor.toNat : Rat) = (x.floor : Rat) := by rw [← Rat.intCast_natCast, Int.toNat_of_nonneg hfloor]
  have hle : (x.floor : Rat) ≤ x := Rat.floor_le x
  have hlt : x - 1 < (x.floor : Rat) := Rat.lt_floor
  rw [hcast]
  exact ⟨hle, by grind⟩

theorem nextLength_lenHalf (s : State) :
    (nextLength s).beat.lenHalf = 5 * (((s.nominal : Rat) - s.correction) / 5 + 1 / 2).floor.toNat := by
  simp only [nextLength, State.set_beat, State.correction]
  split <;> rfl

/-- The length lies within half of 2.5 ns of the corrected one. -/
theorem nextLength_bounds (s : State) : 2 * ((nextLength s).beat.lenHalf : Rat) ≤ 2 * ((s.nominal : Rat) - s.correction) + 5
    ∧ 2 * ((s.nominal : Rat) - s.correction) < 2 * ((nextLength s).beat.lenHalf : Rat) + 5 := by
  obtain ⟨-, hle⟩ := s.correction_bounds
  have hf : (0 : Rat) ≤ (s.nominal : Rat) := Rat.natCast_nonneg
  obtain ⟨hlow, hhigh⟩ := toNat_floor_bounds (x := ((s.nominal : Rat) - s.correction) / 5 + 1 / 2) (by grind)
  rw [nextLength_lenHalf, Rat.natCast_mul]
  grind

/-- In whole half nanoseconds: within 0.5 % of nominal and the rounding. -/
theorem nextLength_within (s : State) :
    200 * (nextLength s).beat.lenHalf ≤ 201 * s.nominal + 500 ∧ 199 * s.nominal ≤ 200 * (nextLength s).beat.lenHalf + 500 := by
  obtain ⟨hge, hle⟩ := s.correction_bounds
  obtain ⟨hlow, hhigh⟩ := nextLength_bounds s
  have h1 : (200 * (nextLength s).beat.lenHalf : Rat) ≤ 201 * s.nominal + 500 := by grind
  have h2 : (199 * s.nominal : Rat) ≤ 200 * (nextLength s).beat.lenHalf + 500 := by grind
  exact ⟨by exact_mod_cast h1, by exact_mod_cast h2⟩

/-- In FREE and MISMATCH the length is nominal. -/
theorem nextLength_nominal {s : State} (h : s.lock = 0 ∨ s.lock = 3) (h5 : s.nominal % 5 = 0) : (nextLength s).beat.lenHalf = s.nominal := by
  have hc : s.correction = 0 := by rw [State.correction, if_pos (by simpa using h)]
  obtain ⟨hlow, hhigh⟩ := nextLength_bounds s
  have hlow' : (2 * (nextLength s).beat.lenHalf : Rat) ≤ 2 * s.nominal + 5 := by grind
  have hhigh' : (2 * s.nominal : Rat) < 2 * (nextLength s).beat.lenHalf + 5 := by grind
  have h1 : 2 * (nextLength s).beat.lenHalf ≤ 2 * s.nominal + 5 := by exact_mod_cast hlow'
  have h2 : 2 * s.nominal < 2 * (nextLength s).beat.lenHalf + 5 := by exact_mod_cast hhigh'
  have h3 := nextLength_lenHalf s
  omega

theorem nextLength_beat (s : State) :
    ∃ len residual applied, (nextLength s).beat = { s.beat with lenHalf := len, residual := residual, applied := applied } := by
  simp only [nextLength, State.set_beat]
  split
  · exact ⟨_, s.beat.residual, s.beat.applied, rfl⟩
  · exact ⟨_, _, _, rfl⟩

/-! ### A frame counts (R119, R126) -/

/-- What a frame's count leaves of the downbeat's state. -/
theorem countFrame_beat (s : State) : (countFrame s).beat.lastHalf = s.beat.lastHalf + s.beat.lenHalf ∧ (countFrame s).beat.renumber = none
    ∧ (countFrame s).beat.running = s.beat.running := by
  unfold countFrame
  extract_lets u position b v w
  obtain ⟨set, drift, a, hw⟩ := frameInForce_beat v
  obtain ⟨len, residual, applied, ht⟩ := nextLength_beat (w.set 0x2101 6 (position % w.ratio))
  rw [ht, State.set_beat, show w.beat = _ from hw]
  exact ⟨rfl, rfl, rfl⟩

theorem nextLength_shown {s : State} (h : Canonical s) : (nextLength s).get 0x2101 2 = (nextLength s).beat.lenHalf / 2 := by
  obtain ⟨-, hod, -⟩ := h
  simp only [nextLength, State.set_beat]
  split <;> exact State.get_set_same _ _ _ _ hod

/-- What a frame shows as its length is all that its length writes. -/
theorem nextLength_get (s : State) {i n : Nat} (hn : n < 256) (h : (0x2101, 2) ≠ (i, n)) : (nextLength s).get i n = s.get i n := by
  simp only [nextLength]
  split <;> exact State.get_set_other _ (by decide) hn h

/-- Without a new frame configuration the counter takes its next value, and the position in the SYNC period its own or the one renumbered. -/
theorem countFrame_shown {s : State} (hc : Canonical s) (h : s.beat.applySet = none) :
    (countFrame s).get 0x2101 1 = incWrap 48 (s.get 0x2101 1)
      ∧ (countFrame s).get 0x2101 6 = (s.beat.renumber.getD ((s.get 0x2101 6 + 1) % s.ratio)) % s.ratio
      ∧ (countFrame s).get 0x2101 2 = (countFrame s).beat.lenHalf / 2 := by
  obtain ⟨hmem, hod, hlive⟩ := hc
  have hset : Canonical (s.set 0x2101 1 (incWrap 48 s.frame)) := ⟨hmem, s.set_wf _ _ _ hod, hlive⟩
  unfold countFrame
  extract_lets u position b v w
  have hw : w = v := frameInForce_of_none h
  rw [hw]
  refine ⟨?_, ?_, nextLength_shown ⟨hmem, State.set_wf _ _ _ _ hset.2.1, hlive⟩⟩
  · rw [nextLength_get _ (by decide) (by decide), State.get_set_other _ (by decide) (by decide) (by decide)]
    exact s.get_set_same _ _ _ hod
  · have hposition : u.get 0x2101 6 = s.get 0x2101 6 := s.get_set_other (by decide) (by decide) (by decide)
    rw [nextLength_get _ (by decide) (by decide)]
    refine (State.get_set_same _ _ _ _ hset.2.1).trans ?_
    unfold position
    rw [hposition]
    rfl

/-! ### The rest of the downbeat (R117, Table 4.5) -/

/-- Steps 1 to 5 of the downbeat: work abandoned, rings, translation caches, swaps and the hop. -/
def beforeCount (s : State) (bursts dumps : Nat) (est : SliceEst) : State :=
  retune (takeSwaps (flushTranslations (ringsDownbeat (abandonWork s bursts dumps))) est)

/-- The downbeat as its steps: those before the frame counts, the count with the overrun record, the new frame, and what is judged once per frame. -/
theorem downbeat_eq (s : State) (bursts dumps : Nat) (est : SliceEst) : ∃ abandoned events, downbeat s bursts dumps est =
    raiseAll (profilesDownbeat (judgeFrame (beginFrame (recordOverrun (countFrame (closeWindow (beforeCount s bursts dumps est)))
      s.reportOwed s.overrunCause s.frame abandoned)) s.beat.lenHalf)) events := ⟨_, _, rfl⟩

theorem restartStopped_beat (s : State) : ∃ b c, (restartStopped s).beat = { s.beat with stoppedB := b, stoppedC := c } := by
  simp only [restartStopped, lanesRestart]
  split <;> split <;> exact ⟨_, _, rfl⟩

theorem takeSwaps_beat (s : State) (est : SliceEst) : ∃ b c, (takeSwaps s est).beat = { s.beat with stoppedB := b, stoppedC := c } := by
  have hlanes : (lanesDownbeat (rotationDownbeat s est)).beat = s.beat := by
    have hm : Moves [.od, .live, .log, .can, .pdo, .link, .sched, .sense] s (lanesDownbeat (rotationDownbeat s est)) :=
      .app (lanesDownbeat_frame ..) (by decide) (rotationDownbeat_frame ..)
    exact hm.only .beat (by decide)
  have hstart : (if s.beat.stoppedB then s else lanesDownbeat (rotationDownbeat s est)).beat = s.beat := by
    split
    · rfl
    · exact hlanes
  obtain ⟨b, c, h⟩ := restartStopped_beat (if s.beat.stoppedB then s else lanesDownbeat (rotationDownbeat s est))
  refine ⟨b, c, ?_⟩
  rw [hstart] at h
  unfold takeSwaps
  extract_lets +onlyGivenNames u
  split <;> exact h

/-- The steps before the count leave the times and that the downbeat runs. -/
theorem beforeCount_beat (s : State) (bursts dumps : Nat) (est : SliceEst) :
    ∃ b c, (beforeCount s bursts dumps est).beat = { s.beat with stoppedB := b, stoppedC := c } := by
  have hm : Moves [.od, .link, .mem, .sched] s (flushTranslations (ringsDownbeat (abandonWork s bursts dumps))) :=
    .app (flushTranslations_frame ..) (by decide) (.app (ringsDownbeat_frame ..) (by decide) ((abandonWork_frame ..).mono (by decide)))
  have hr (u : State) : (retune u).beat = u.beat := (retune_frame u).only .beat (by decide)
  obtain ⟨b, c, h⟩ := takeSwaps_beat (flushTranslations (ringsDownbeat (abandonWork s bursts dumps))) est
  exact ⟨b, c, by rw [beforeCount, hr, h, hm.only .beat (by decide)]⟩

/-! ### What is judged once per frame -/

/-- The supervisors', the regulator's and the self-test's part of a frame. -/
def supervised (s : State) : State := testDownbeat (regulatorDownbeat (tsDownbeat (stageDownbeat (supervisionDownbeat s))))

theorem supervised_frame (s : State) : Moves [.od, .log, .can, .pdo, .link, .sched, .reg, .test] s (supervised s) :=
  .app (testDownbeat_frame ..) (by decide) (.app (regulatorDownbeat_frame ..) (by decide) (.app (tsDownbeat_frame ..) (by decide)
    (.app (stageDownbeat_frame ..) (by decide) ((supervisionDownbeat_frame ..).mono (by decide)))))

/-- What advances with the time of the frame that ended. -/
def timed (s : State) (half : Nat) : State := updateTime (lifeTime (chargerTime (timeAdvance s half) half) half) half

theorem timed_frame (s : State) (half : Nat) : Moves [.od, .log, .link, .sched, .pack, .update] s (timed s half) :=
  .app (updateTime_frame ..) (by decide) (.app (lifeTime_frame ..) (by decide) (.app (chargerTime_frame ..) (by decide)
    ((timeAdvance_frame ..).mono (by decide))))

theorem judgeFrame_eq (s : State) (half : Nat) : ∃ link tabor, judgeFrame s half =
    { coreLoad (senseInForce (vinDownbeat (timed (touchOutDownbeat (supervised s)) half))) with link := link, tabor := tabor } := ⟨_, _, rfl⟩

/-- Of the power path a frame's judgement moves the hold threshold alone (R106). -/
theorem judgeFrame_power (s : State) (half : Nat) : ∃ mv, (judgeFrame s half).power = { s.power with holdMv := mv } := by
  have hm : Moves [.od, .log, .can, .pdo, .link, .sched, .reg, .test, .sense, .touch, .pack, .update] s (timed (touchOutDownbeat (supervised s)) half) :=
    .app (timed_frame ..) (by decide) (.app (touchOutDownbeat_frame ..) (by decide) ((supervised_frame s).mono (by decide)))
  have hv (u : State) : ∃ mv, (vinDownbeat u).power = { u.power with holdMv := mv } := ⟨_, rfl⟩
  have hc (u : State) : (coreLoad (senseInForce u)).power = u.power := by
    have hmc : Moves [.od, .draws, .live] u (coreLoad (senseInForce u)) := .app (coreLoad_frame ..) (by decide) ((senseInForce_frame u).mono (by decide))
    exact hmc.only .power (by decide)
  obtain ⟨mv, h⟩ := hv (timed (touchOutDownbeat (supervised s)) half)
  obtain ⟨link, tabor, hj⟩ := judgeFrame_eq s half
  exact ⟨mv, by rw [hj, hc, h, hm.only .power (by decide)]⟩

/-- No image and no report. -/
def NoTouchData (s : State) : Prop := s.touch.image = [] ∧ s.touch.report = none

theorem noTouchData_of_moves {l : List Part} {s t : State} (h : Moves l s t) (hs : NoTouchData s) (hl : Part.touch ∉ l := by decide) : NoTouchData t := by
  have htouch : t.touch = s.touch := h.only .touch hl
  rw [NoTouchData, htouch]
  exact hs

theorem releaseButtons_noTouchData {s : State} (h : NoTouchData s) (dead : Bool) : NoTouchData (releaseButtons s dead) := by
  have hset (u : State) (b : Nat) (p : Bool) : Moves [.od, .sched] u (setButton u b p) := (setButton_frame ..).mono (by decide)
  have hstep (u : State) (b : Nat) (hu : NoTouchData u) : NoTouchData (setButton (u.setRuns b 0 0) b false) :=
    noTouchData_of_moves (hset ..) hu
  unfold releaseButtons
  generalize List.range 8 = l
  induction l generalizing s with
  | nil => exact h
  | cons b l ih =>
    refine ih ?_
    dsimp only
    split
    · exact noTouchData_of_moves (State.setFlag_frame ..) (hstep s b h)
    · exact hstep s b h

theorem touchOutDownbeat_noTouchData {s : State} (h : NoTouchData s) : NoTouchData (touchOutDownbeat s) := by
  unfold touchOutDownbeat
  split
  · exact releaseButtons_noTouchData (s := { s with sense := { s.sense with power := .off } }) h true
  · split
    · exact releaseButtons_noTouchData h false
    · exact h

theorem judgeFrame_noTouchData {s : State} (h : NoTouchData s) (half : Nat) : NoTouchData (judgeFrame s half) := by
  have hm (u : State) : Moves [.od, .live, .draws, .log, .link, .sched, .power, .pack, .update] u (coreLoad (senseInForce (vinDownbeat (timed u half)))) :=
    .app (coreLoad_frame ..) (by decide) (.app (senseInForce_frame ..) (by decide) (.app (vinDownbeat_frame ..) (by decide)
      ((timed_frame ..).mono (by decide))))
  have ht := noTouchData_of_moves (hm _) (touchOutDownbeat_noTouchData (noTouchData_of_moves (supervised_frame s) h))
  obtain ⟨link, tabor, hj⟩ := judgeFrame_eq s half
  rw [hj]
  exact ht

theorem profilesDownbeat_noTouchData {s : State} (h : NoTouchData s) : NoTouchData (profilesDownbeat s) := by
  unfold profilesDownbeat
  extract_lets +onlyGivenNames u p a b v fits w
  have hu : NoTouchData u := by
    unfold u
    split
    next set _ =>
      have hset : NoTouchData (profilesInForce s set) := noTouchData_of_moves (profilesInForce_frame ..) h
      exact hset
    next => exact h
  have hv : NoTouchData v := by
    unfold v
    split
    · exact hu
    · exact hu
  have hw : NoTouchData w := noTouchData_of_moves (State.setFlag_frame ..) hv
  split
  · exact hw
  · exact hw

/-! ### What the downbeat leaves -/

theorem recordOverrun_beat (s : State) (owed : Bool) (cause frame abandoned : Nat) : (recordOverrun s owed cause frame abandoned).beat = s.beat :=
  (recordOverrun_frame ..).only .beat (by decide)

/-- What follows the new frame's begin leaves the downbeat's state. -/
theorem judged_beat (s : State) (half : Nat) (events : List (Nat × Nat)) :
    (raiseAll (profilesDownbeat (judgeFrame s half)) events).beat = s.beat := by
  have hm : Moves [.od, .live, .draws, .power, .log, .can, .pdo, .link, .sched, .tabor, .sense, .touch, .reg, .pack, .update, .test] s
      (raiseAll (profilesDownbeat (judgeFrame s half)) events) :=
    .app (raiseAll_frame ..) (by decide) (.app (profilesDownbeat_frame ..) (by decide) ((judgeFrame_frame ..).mono (by decide)))
  exact hm.only .beat (by decide)

/-- Device time advances by the frame that ended, and LISTEN begins with nothing done. -/
theorem downbeat_beat (s : State) (bursts dumps : Nat) (est : SliceEst) :
    let b := (downbeat s bursts dumps est).beat
    b.lastHalf = s.beat.lastHalf + s.beat.lenHalf ∧ b.phase = .listen ∧ b.renumber = none ∧ b.scanDone = false ∧ b.processDone = false
    ∧ b.reportDone = false ∧ b.imageMissing = false ∧ b.running = s.beat.running := by
  obtain ⟨abandoned, events, h⟩ := downbeat_eq s bursts dumps est
  obtain ⟨b, c, hb⟩ := beforeCount_beat s bursts dumps est
  have hw (u : State) : (closeWindow u).beat = u.beat := (closeWindow_frame u).only .beat (by decide)
  obtain ⟨hlast, hnum, hrun⟩ := countFrame_beat (closeWindow (beforeCount s bursts dumps est))
  rw [hw, hb] at hlast hrun
  rw [h, judged_beat]
  refine ⟨?_, rfl, ?_, rfl, rfl, rfl, rfl, ?_⟩
  · exact (congrArg Beat.lastHalf (recordOverrun_beat ..)).trans hlast
  · exact (congrArg Beat.renumber (recordOverrun_beat ..)).trans hnum
  · exact (congrArg Beat.running (recordOverrun_beat ..)).trans hrun

theorem downbeat_noTouchData (s : State) (bursts dumps : Nat) (est : SliceEst) : NoTouchData (downbeat s bursts dumps est) := by
  obtain ⟨abandoned, events, h⟩ := downbeat_eq s bursts dumps est
  have hbegin (u : State) : NoTouchData (beginFrame u) := ⟨rfl, rfl⟩
  rw [h]
  exact noTouchData_of_moves (raiseAll_frame ..) (profilesDownbeat_noTouchData (judgeFrame_noTouchData (hbegin _) _))

/-- Of the power path only the hold threshold may differ. -/
theorem downbeat_power (s : State) (bursts dumps : Nat) (est : SliceEst) : ∃ mv, (downbeat s bursts dumps est).power = { s.power with holdMv := mv } := by
  obtain ⟨abandoned, events, h⟩ := downbeat_eq s bursts dumps est
  have hm : Moves [.od, .live, .beat, .log, .can, .pdo, .link, .mem, .sched, .sense, .touch, .thermal] s
      (beginFrame (recordOverrun (countFrame (closeWindow (beforeCount s bursts dumps est))) s.reportOwed s.overrunCause s.frame abandoned)) :=
    .app (beginFrame_frame ..) (by decide) (.app (recordOverrun_frame ..) (by decide) (.app (countFrame_frame ..) (by decide)
      (.app (closeWindow_frame ..) (by decide) (.app (retune_frame ..) (by decide) (.app (takeSwaps_frame ..) (by decide)
        (.app (flushTranslations_frame ..) (by decide) (.app (ringsDownbeat_frame ..) (by decide) ((abandonWork_frame ..).mono (by decide)))))))))
  have hafter (u : State) : (raiseAll (profilesDownbeat u) events).power = u.power := by
    have hmu : Moves [.od, .live, .touch, .sched] u (raiseAll (profilesDownbeat u) events) :=
      .app (raiseAll_frame ..) (by decide) ((profilesDownbeat_frame u).mono (by decide))
    exact hmu.only .power (by decide)
  obtain ⟨mv, hj⟩ := judgeFrame_power (beginFrame (recordOverrun (countFrame (closeWindow (beforeCount s bursts dumps est)))
    s.reportOwed s.overrunCause s.frame abandoned)) s.beat.lenHalf
  exact ⟨mv, by rw [h, hafter, hj, hm.only .power (by decide)]⟩

end Sys2Proof.Machine

open Sys2Proof Machine

/-- Settles O14: the downbeat by its steps, then the count of a frame, the length of the next and the configuration that comes into force. -/
theorem downbeatOpensFrame : Obligations.DownbeatOpensFrame := by
  intro s
  refine ⟨?runs, ?rests, countFrame_shown, ?within, nextLength_nominal, ?configuration⟩
  case runs =>
    intro bursts dumps est hr hp
    have hact : actDownbeat bursts dumps est s = downbeat s bursts dumps est := if_pos (by simp [hr, hp])
    obtain ⟨hlast, hphase, hnum, hscan, hprocess, hreport, himage, hrun⟩ := downbeat_beat s bursts dumps est
    obtain ⟨hi, hrep⟩ := downbeat_noTouchData s bursts dumps est
    exact .of_settled (congrArg settled hact) (downbeat_frame ..) (by decide)
      ⟨hlast, hphase, hnum, hscan, hprocess, hreport, himage, hrun.trans hr, hi, hrep, downbeat_power s bursts dumps est⟩
  case rests =>
    intro bursts dumps est h hc
    have hact : actDownbeat bursts dumps est s = s := if_neg (by rcases h with h | h <;> simp [h])
    exact .of_settled (m := []) (congrArg settled hact) (settleAll_of_calm hc) (.refl _ s) (by decide) (immediates_beat s)
  case within =>
    obtain ⟨hhigh, hlow⟩ := nextLength_within s
    exact ⟨hhigh, hlow, by rw [nextLength_lenHalf, Nat.mul_mod_right]⟩
  case configuration =>
    intro l hc h hl
    exact ⟨fun k hk => frameInForce_inForce h hc hl hk, frameInForce_applySet h, frameInForce_acquires h hc⟩

end
